-- ==== Sys2Proof/Word.lean ====
section
/-! DEFINITION. The word types of the machine and their plainest operations (R6, R30). -/
namespace Sys2Proof

/-- A 64-bit register word or device address. -/
abbrev Word := BitVec 64

/-- One byte of memory. -/
abbrev Byte := BitVec 8

/-- A signed integer as a word, modulo 2^64 (R30). -/
abbrev Word.ofInt (x : Int) : Word := BitVec.ofInt 64 x

end Sys2Proof
end

