-- ==== Sys2Proof/Machine/Float.lean ====
section
/-! DEFINITION. Number formats and exact arithmetic (02_numbers): the floating-point formats, one rounding, and the
operations of R49 to R52 and R113 to R119 over exact values. A value of a format is its code, a natural number. -/
namespace Sys2Proof.Machine

/-- The sticky flags of R54: bit 0 invalid, 1 overflow, 2 underflow, 3 inexact, 4 saturation. -/
abbrev FlagSet := BitVec 5

def flInvalid : FlagSet := 0x01#5
def flOverflow : FlagSet := 0x02#5
def flUnderflow : FlagSet := 0x04#5
def flInexact : FlagSet := 0x08#5
def flSaturation : FlagSet := 0x10#5

/-- The flag where the condition holds, no flag otherwise. -/
def flIf (c : Bool) (f : FlagSet) : FlagSet := if c then f else 0#5

/-- The floating-point formats of R31. -/
inductive Fmt where
  | f32 | f16 | bf16 | e5m2 | e4m3 | e3m2 | e2m3 | e2m1
  deriving DecidableEq, Repr

/-- Exponent bits of a format (R31). -/
def Fmt.ebits : Fmt → Nat
  | .f32 => 8 | .f16 => 5 | .bf16 => 8 | .e5m2 => 5 | .e4m3 => 4 | .e3m2 => 3 | .e2m3 => 2 | .e2m1 => 2

/-- Mantissa bits of a format (R31). -/
def Fmt.mbits : Fmt → Nat
  | .f32 => 23 | .f16 => 10 | .bf16 => 7 | .e5m2 => 2 | .e4m3 => 3 | .e3m2 => 2 | .e2m3 => 3 | .e2m1 => 1

/-- Exponent bias of a format (R31). -/
def Fmt.bias : Fmt → Nat
  | .f32 => 127 | .f16 => 15 | .bf16 => 127 | .e5m2 => 15 | .e4m3 => 7 | .e3m2 => 3 | .e2m3 => 1 | .e2m1 => 1

/-- Width of a format in bits. -/
def Fmt.width (f : Fmt) : Nat := 1 + f.ebits + f.mbits

/-- The formats that have infinities (R31). -/
def Fmt.hasInf : Fmt → Bool
  | .f32 | .f16 | .bf16 | .e5m2 => true
  | _ => false

/-- The formats that have NaN codes (R31). -/
def Fmt.hasNaN : Fmt → Bool
  | .f32 | .f16 | .bf16 | .e5m2 | .e4m3 => true
  | _ => false

/-- The canonical NaN of R33; +0 in the formats without a NaN (R41). -/
def Fmt.nan : Fmt → Nat
  | .f32 => 0x7FC00000 | .f16 => 0x7E00 | .bf16 => 0x7FC0 | .e5m2 => 0x7E | .e4m3 => 0x7F | _ => 0

/-- The code of the infinity without its sign. -/
def Fmt.infCode (f : Fmt) : Nat := (2 ^ f.ebits - 1) * 2 ^ f.mbits

/-- The code of the largest finite value without its sign (R31). -/
def Fmt.maxCode (f : Fmt) : Nat :=
  if f.hasInf then f.infCode - 1
  else if f.hasNaN then 2 ^ (f.ebits + f.mbits) - 2
  else 2 ^ (f.ebits + f.mbits) - 1

/-- A code with its sign bit. -/
def Fmt.signed (f : Fmt) (neg : Bool) (c : Nat) : Nat := if neg then c + 2 ^ (f.width - 1) else c

/-- An exact value: NaN (signalling or quiet), infinity, or (−1)^neg × man × 2^exp. -/
inductive FVal where
  | nan (signalling : Bool)
  | inf (neg : Bool)
  | fin (neg : Bool) (man : Nat) (exp : Int)
  deriving DecidableEq, Repr

/-- The value of a code (R31, R33). -/
def Fmt.decode (f : Fmt) (c : Nat) : FVal :=
  let neg := decide (c / 2 ^ (f.width - 1) % 2 = 1)
  let e := c / 2 ^ f.mbits % 2 ^ f.ebits
  let m := c % 2 ^ f.mbits
  let sp := e = 2 ^ f.ebits - 1
  if f.hasInf && decide sp && decide (m = 0) then .inf neg
  else if f.hasInf && decide sp then
    .nan (decide (f ≠ .e5m2) && decide (m / 2 ^ (f.mbits - 1) = 0))
  else if decide (f = .e4m3) && decide sp && decide (m = 7) then .nan false
  else if e = 0 then .fin neg m (1 - (f.bias : Int) - f.mbits)
  else .fin neg (m + 2 ^ f.mbits) ((e : Int) - f.bias - f.mbits)

/-- Rounding modes of R38. -/
inductive RMode where
  | rne | rtz | rdn | rup | sr
  deriving DecidableEq, Repr

/-- The mode that a stored value of STATUS.rm names (R38). -/
def RMode.ofCode : Nat → RMode
  | 1 => .rtz | 2 => .rdn | 3 => .rup | 4 => .sr | _ => .rne

/-- R38, R45: whether the magnitude steps up, from the part `rem / 2^sh` of one unit below the last kept bit. -/
def stepsUp (rm : RMode) (draw : Nat) (neg : Bool) (kept rem sh : Nat) : Bool :=
  match rm with
  | .rne => decide (2 * rem > 2 ^ sh) || (decide (2 * rem = 2 ^ sh) && decide (kept % 2 = 1))
  | .rtz => false
  | .rdn => neg && decide (rem ≠ 0)
  | .rup => !neg && decide (rem ≠ 0)
  | .sr => decide (rem * 2 ^ 16 / 2 ^ sh > draw)

/-- The magnitude `man × 2^exp` rounded to a multiple of 2^q: the multiple, and whether it differs. -/
def roundAt (rm : RMode) (draw : Nat) (neg : Bool) (man : Nat) (exp q : Int) : Nat × Bool :=
  if q ≤ exp then (man * 2 ^ (exp - q).toNat, false)
  else
    let sh := (q - exp).toNat
    let k := man / 2 ^ sh
    let r := man % 2 ^ sh
    ((if stepsUp rm draw neg k r sh then k + 1 else k), decide (r ≠ 0))

/-- R39 step 2 and R41: the code that an overflow of the stated sign gives; `o` is the option bit. -/
def Fmt.overflowCode (f : Fmt) (rm : RMode) (o neg : Bool) : Nat :=
  let big := f.signed neg f.maxCode
  let inf := f.signed neg f.infCode
  match f with
  | .e3m2 | .e2m3 | .e2m1 => big
  | .e4m3 => if o then f.nan else big
  | .e5m2 | .f32 | .f16 | .bf16 =>
    if decide (f = .e5m2) && !o then big
    else match rm with
      | .rne | .sr => inf
      | .rtz => big
      | .rdn => if neg then inf else big
      | .rup => if neg then big else inf

/-- R39, R44, R45: one rounding of the exact value (−1)^neg × man × 2^exp to a format, with its flags. -/
def Fmt.round (f : Fmt) (rm : RMode) (o : Bool) (draw : Nat) (neg : Bool) (man : Nat) (exp : Int) : Nat × FlagSet :=
  if man = 0 then (f.signed neg 0, 0#5)
  else
    let qn : Int := exp + Nat.log2 man - f.mbits
    let emin : Int := 1 - (f.bias : Int)
    let qs : Int := emin - f.mbits
    let q := max qn qs
    let (k, inx) := roundAt rm draw neg man exp q
    let (kn, _) := roundAt rm draw neg man exp qn
    -- tiny (R44): kn × 2^qn lies below 2^emin
    let tiny := decide (qn < emin) && decide (kn < 2 ^ (emin - qn).toNat)
    -- the code of k × 2^q, exponent and mantissa running on
    let code := k + (q - qs).toNat * 2 ^ f.mbits
    if code > f.maxCode then (f.overflowCode rm o neg, flOverflow ||| flInexact)
    else (f.signed neg code, flIf (tiny && inx) flUnderflow ||| flIf inx flInexact)

/-- The exact sum of two finite values with R43's sign of an exact zero. -/
def finAdd (rm : RMode) (n1 : Bool) (m1 : Nat) (e1 : Int) (n2 : Bool) (m2 : Nat) (e2 : Int) : Bool × Nat × Int :=
  let e := min e1 e2
  let a : Int := m1 * 2 ^ (e1 - e).toNat
  let b : Int := m2 * 2 ^ (e2 - e).toNat
  let t := (if n1 then -a else a) + (if n2 then -b else b)
  if t = 0 then ((if n1 = n2 then n1 else decide (rm = .rdn)), 0, e)
  else (decide (t < 0), t.natAbs, e)

/-- The value is a signalling NaN (R33). -/
def FVal.isSNaN : FVal → Bool
  | .nan s => s
  | _ => false

def FVal.isNaN : FVal → Bool
  | .nan _ => true
  | _ => false

/-- R33, R113: the canonical NaN, invalid where an operand was signalling. -/
def nanOf (f : Fmt) (sig : Bool) : Nat × FlagSet := (f.nan, flIf sig flInvalid)

/-- R112, R113: Round(x + y) of two values in a format. -/
def addVal (f : Fmt) (rm : RMode) (o : Bool) (draw : Nat) (x y : FVal) : Nat × FlagSet :=
  match x, y with
  | .fin n1 m1 e1, .fin n2 m2 e2 =>
    let (n, m, e) := finAdd rm n1 m1 e1 n2 m2 e2
    f.round rm o draw n m e
  | .inf n1, .inf n2 => if n1 = n2 then (f.signed n1 f.infCode, 0#5) else (f.nan, flInvalid)
  | .inf n1, .fin _ _ _ => (f.signed n1 f.infCode, 0#5)
  | .fin _ _ _, .inf n2 => (f.signed n2 f.infCode, 0#5)
  | a, b => nanOf f (a.isSNaN || b.isSNaN)

/-- The value with the opposite sign. -/
def FVal.neg : FVal → FVal
  | .nan s => .nan s
  | .inf n => .inf (!n)
  | .fin n m e => .fin (!n) m e

/-- The value without its sign. -/
def FVal.abs : FVal → FVal
  | .nan s => .nan s
  | .inf _ => .inf false
  | .fin _ m e => .fin false m e

/-- The exact product, `none` for 0 × ∞; both operands must not be NaN. -/
def mulExact : FVal → FVal → Option FVal
  | .fin n1 m1 e1, .fin n2 m2 e2 => some (.fin (n1 != n2) (m1 * m2) (e1 + e2))
  | .inf n1, .inf n2 => some (.inf (n1 != n2))
  | .inf n1, .fin n2 m _ => if m = 0 then none else some (.inf (n1 != n2))
  | .fin n1 m _, .inf n2 => if m = 0 then none else some (.inf (n1 != n2))
  | .nan s, _ => some (.nan s)
  | _, .nan s => some (.nan s)

/-- A value delivered in a format, rounding where it is finite. -/
def roundVal (f : Fmt) (rm : RMode) (o : Bool) (draw : Nat) : FVal → Nat × FlagSet
  | .fin n m e => f.round rm o draw n m e
  | .inf n => (f.signed n f.infCode, 0#5)
  | .nan s => nanOf f s

/-- R112, R113: Round(x × y). -/
def mulVal (f : Fmt) (rm : RMode) (draw : Nat) (x y : FVal) : Nat × FlagSet :=
  if x.isNaN || y.isNaN then nanOf f (x.isSNaN || y.isSNaN)
  else match mulExact x y with
    | none => (f.nan, flInvalid)
    | some p => roundVal f rm false draw p

/-- R117: Round(x × y + z) with one rounding; 0 × ∞ is invalid whatever z. -/
def fmaVal (f : Fmt) (rm : RMode) (draw : Nat) (x y z : FVal) : Nat × FlagSet :=
  if x.isNaN || y.isNaN then nanOf f (x.isSNaN || y.isSNaN || z.isSNaN)
  else match mulExact x y with
    | none => (f.nan, flInvalid)
    | some p => addVal f rm false draw p z

/-- R112, R113: Round(x ÷ y). The quotient is carried to 70 bits and one sticky bit below them. -/
def divVal (f : Fmt) (rm : RMode) (draw : Nat) (x y : FVal) : Nat × FlagSet :=
  match x, y with
  | .fin n1 m1 e1, .fin n2 m2 e2 =>
    if m2 = 0 then
      if m1 = 0 then (f.nan, flInvalid) else (f.signed (n1 != n2) f.infCode, 0#5)
    else
      let k := 70 + Nat.log2 m2
      let q := m1 * 2 ^ k / m2
      let r := m1 * 2 ^ k % m2
      f.round rm false draw (n1 != n2) (2 * q + (if r = 0 then 0 else 1)) (e1 - e2 - k - 1)
  | .inf n1, .fin n2 _ _ => (f.signed (n1 != n2) f.infCode, 0#5)
  | .fin n1 _ _, .inf n2 => (f.signed (n1 != n2) 0, 0#5)
  | .inf _, .inf _ => (f.nan, flInvalid)
  | a, b => nanOf f (a.isSNaN || b.isSNaN)

/-- The integer square root, one result bit for each unit of fuel, from bit `fuel − 1` down. -/
def isqrtAux : Nat → Nat → Nat → Nat
  | 0, _, acc => acc
  | fuel + 1, n, acc =>
    let t := acc + 2 ^ fuel
    isqrtAux fuel n (if t * t ≤ n then t else acc)

/-- floor(√n). -/
def isqrt (n : Nat) : Nat := isqrtAux (Nat.log2 n / 2 + 1) n 0

/-- R112, R113: Round(√x). The root is carried to at least 60 bits and one sticky bit. -/
def sqrtVal (f : Fmt) (rm : RMode) (draw : Nat) (x : FVal) : Nat × FlagSet :=
  match x with
  | .fin n m e =>
    if m = 0 then (f.signed n 0, 0#5)
    else if n then (f.nan, flInvalid)
    else
      let m' := m * 2 ^ (120 + (e % 2).toNat)
      let e' := (e - (120 + e % 2)) / 2
      let r := isqrt m'
      f.round rm false draw false (2 * r + (if r * r = m' then 0 else 1)) (e' - 1)
  | .inf n => if n then (f.nan, flInvalid) else (f.signed false f.infCode, 0#5)
  | .nan s => nanOf f s

/-- −1, 0 or 1 as the first value lies below, at or above the second; neither is NaN; −0 equals +0. -/
def cmpVal : FVal → FVal → Int
  | .inf n1, .inf n2 => if n1 = n2 then 0 else if n1 then -1 else 1
  | .inf n1, _ => if n1 then -1 else 1
  | _, .inf n2 => if n2 then 1 else -1
  | .fin n1 m1 e1, .fin n2 m2 e2 =>
    let e := min e1 e2
    let a : Int := m1 * 2 ^ (e1 - e).toNat
    let b : Int := m2 * 2 ^ (e2 - e).toNat
    let t := (if n1 then -a else a) - (if n2 then -b else b)
    if t < 0 then -1 else if t = 0 then 0 else 1
  | _, _ => 0

/-- The sign bit of a value. -/
def FVal.isNeg : FVal → Bool
  | .nan _ => false
  | .inf n => n
  | .fin n _ _ => n

/-- The order of R114: as `cmpVal`, with −0 below +0. -/
def ltTotal (x y : FVal) : Bool :=
  decide (cmpVal x y < 0) || (decide (cmpVal x y = 0) && x.isNeg && !y.isNeg)

/-- R114: minimum (or maximum) of two codes of a format, returned unchanged. -/
def minMaxVal (f : Fmt) (wantMax : Bool) (a b : Nat) : Nat × FlagSet :=
  let x := f.decode a
  let y := f.decode b
  let fl := flIf (x.isSNaN || y.isSNaN) flInvalid
  if x.isNaN && y.isNaN then (f.nan, fl)
  else if x.isNaN then (b, fl)
  else if y.isNaN then (a, fl)
  else if wantMax then ((if ltTotal x y then b else a), fl)
  else ((if ltTotal y x then b else a), fl)

/-- R115: equality, quiet. -/
def eqVal (x y : FVal) : Bool × FlagSet :=
  if x.isNaN || y.isNaN then (false, flIf (x.isSNaN || y.isSNaN) flInvalid)
  else (decide (cmpVal x y = 0), 0#5)

/-- R115: less than, or at most; invalid for any NaN. -/
def ltVal (orEq : Bool) (x y : FVal) : Bool × FlagSet :=
  if x.isNaN || y.isNaN then (false, flInvalid)
  else ((if orEq then decide (cmpVal x y ≤ 0) else decide (cmpVal x y < 0)), 0#5)

/-- R115: the class mask. -/
def classMask (f : Fmt) (c : Nat) : Nat :=
  match f.decode c with
  | .inf n => if n then 1 else 128
  | .nan s => if s then 256 else 512
  | .fin n m e =>
    if m = 0 then (if n then 8 else 16)
    else if m < 2 ^ f.mbits ∧ e = 1 - (f.bias : Int) - f.mbits then (if n then 4 else 32)
    else (if n then 2 else 64)

/-- R39, R41: a value converted to a format. -/
def cvtVal (f : Fmt) (rm : RMode) (o : Bool) (draw : Nat) (x : FVal) : Nat × FlagSet :=
  match x with
  | .fin n m e => f.round rm o draw n m e
  | .inf n =>
    match f with
    | .f32 | .f16 | .bf16 => (f.signed n f.infCode, 0#5)
    | .e5m2 => if o then (f.signed n f.infCode, 0#5) else (f.signed n f.maxCode, flOverflow ||| flInexact)
    | .e4m3 => if o then (f.nan, 0#5) else (f.signed n f.maxCode, flOverflow ||| flInexact)
    | _ => (f.signed n f.maxCode, flOverflow ||| flInexact)
  | .nan s => if f.hasNaN then nanOf f s else (0, flInvalid)

/-- The exact value rounded to an integer in a mode, and whether it differs (R40). -/
def roundInt (rm : RMode) (draw : Nat) (neg : Bool) (man : Nat) (exp : Int) : Int × Bool :=
  let (k, inx) := roundAt rm draw neg man exp 0
  ((if neg then -(k : Int) else k), inx)

/-- R40, R119: a value converted to an integer in [lo, hi]; the flag set of a clamp is `clampFl`. -/
def toIntVal (lo hi : Int) (clampFl nanFl : FlagSet) (rm : RMode) (draw : Nat) (x : FVal) : Int × FlagSet :=
  match x with
  | .nan _ => (0, nanFl)
  | .inf n => ((if n then lo else hi), clampFl)
  | .fin n m e =>
    let (v, inx) := roundInt rm draw n m e
    if v < lo then (lo, clampFl)
    else if v > hi then (hi, clampFl)
    else (v, flIf inx flInexact)

/-- R40: conversion to an integer format. -/
def cvtInt (lo hi : Int) (rm : RMode) (draw : Nat) (x : FVal) : Int × FlagSet :=
  toIntVal lo hi (flInvalid ||| flInexact) flInvalid rm draw x

/-- R40: conversion to t2; a clamp sets saturation and inexact. -/
def cvtT2 (rm : RMode) (draw : Nat) (x : FVal) : Int × FlagSet :=
  toIntVal (-1) 1 (flSaturation ||| flInexact) flInvalid rm draw x

/-- An integer as an exact value; zero is +0. -/
def intVal (v : Int) : FVal := .fin (decide (v < 0)) v.natAbs 0

/-- R42: the value of an E8M0 code. -/
def e8Val (c : Nat) : FVal := if c = 255 then .nan false else .fin false 1 ((c : Int) - 127)

/-- R42: FP32 to E8M0. -/
def toE8 (rm : RMode) (draw : Nat) (x : FVal) : Nat × FlagSet :=
  match x with
  | .nan _ => (0xFF, flInvalid)
  | .inf _ => (0xFF, flInvalid)
  | .fin _ m e =>
    if m = 0 then (0x00, flUnderflow ||| flInexact)
    else
      let l := Nat.log2 m
      let top : Int := e + l
      let r := m - 2 ^ l          -- |x| / 2^top − 1 is r / 2^l
      let up := match rm with
        | .rne => decide (2 * r ≥ 2 ^ l)
        | .rtz => false
        | .rdn => false
        | .rup => decide (r ≠ 0)
        | .sr => decide (r * 2 ^ 16 / 2 ^ l > draw)
      let p := if up then top + 1 else top
      if p < -127 then (0x00, flUnderflow ||| flInexact)
      else if p > 127 then (0xFE, flOverflow ||| flInexact)
      else ((p + 127).toNat, flIf (decide (r ≠ 0)) flInexact)

/-- R35: the value of a ternary code, and whether the code is 10. -/
def t2Val (c : Nat) : Int × Bool :=
  match c % 4 with
  | 1 => (1, false) | 3 => (-1, false) | 2 => (0, true) | _ => (0, false)

/-- R35: the code of a ternary value. -/
def t2Code (v : Int) : Nat := if v > 0 then 1 else if v < 0 then 3 else 0

/-- An integer clamped to [lo, hi], and whether it was (R30). -/
def clampInt (lo hi v : Int) : Int × Bool :=
  if v < lo then (lo, true) else if v > hi then (hi, true) else (v, false)

/-- FP32 codes under RNE, without a draw: the fixed mode of tiles, reductions and special functions (R38). -/
def f32Add (a b : Nat) : Nat × FlagSet := addVal .f32 .rne false 0 (Fmt.f32.decode a) (Fmt.f32.decode b)
def f32Sub (a b : Nat) : Nat × FlagSet := addVal .f32 .rne false 0 (Fmt.f32.decode a) (Fmt.f32.decode b).neg
def f32Mul (a b : Nat) : Nat × FlagSet := mulVal .f32 .rne 0 (Fmt.f32.decode a) (Fmt.f32.decode b)
def f32Div (a b : Nat) : Nat × FlagSet := divVal .f32 .rne 0 (Fmt.f32.decode a) (Fmt.f32.decode b)
def f32Fma (a b c : Nat) : Nat × FlagSet := fmaVal .f32 .rne 0 (Fmt.f32.decode a) (Fmt.f32.decode b) (Fmt.f32.decode c)

/-- Running state of a block's products (R49): any NaN, infinities of each sign, 0 × ∞, and the exact sum
`sum × 2^exp`. -/
structure BlockSum where
  nan : Bool
  posInf : Bool
  negInf : Bool
  bad : Bool
  sum : Int
  exp : Int
  deriving DecidableEq, Repr

/-- R49: one product a × b joins the block. -/
def BlockSum.addProduct (s : BlockSum) (a b : FVal) : BlockSum :=
  if a.isNaN || b.isNaN then { s with nan := true }
  else match mulExact a b with
    | none => { s with bad := true }
    | some (.inf n) => if n then { s with negInf := true } else { s with posInf := true }
    | some (.fin n m e) =>
      let e' := min e s.exp
      let v : Int := m * 2 ^ (e - e').toNat
      { s with sum := s.sum * 2 ^ (s.exp - e').toNat + (if n then -v else v), exp := e' }
    | some (.nan _) => { s with nan := true }

/-- R49: the block value as an FP32 code under RNE, its flags, from the products and the two scale codes. -/
def blockValue (ps : List (FVal × FVal)) (sa sb : Nat) : Nat × FlagSet :=
  let s := ps.foldl (fun (s : BlockSum) p => s.addProduct p.1 p.2) ⟨false, false, false, false, 0, 0⟩
  if s.nan || decide (sa = 255) || decide (sb = 255) then (Fmt.f32.nan, flInvalid)
  else if s.bad || (s.posInf && s.negInf) then (Fmt.f32.nan, flInvalid)
  else if s.posInf then (Fmt.f32.signed false Fmt.f32.infCode, 0#5)
  else if s.negInf then (Fmt.f32.signed true Fmt.f32.infCode, 0#5)
  else if s.sum = 0 then (0, 0#5)
  else Fmt.f32.round .rne false 0 (decide (s.sum < 0)) s.sum.natAbs (s.exp + sa + sb - 254)

/-- R49: acc ← Round(acc + blk, FP32, RNE), with its flags. -/
def accumulateBlock (acc blk : Nat) : Nat × FlagSet := f32Add acc blk

/-- R52: one level of the tree over the elements of a chunk; an element without a partner passes unchanged. -/
def treeLevel {α : Type} (f : α → α → α) : List α → List α
  | x :: y :: rest => f x y :: treeLevel f rest
  | xs => xs

/-- R52: the value of one chunk of at most 32 elements: five levels. -/
def chunkTree {α : Type} (f : α → α → α) (xs : List α) : Option α :=
  (treeLevel f (treeLevel f (treeLevel f (treeLevel f (treeLevel f xs))))).head?

/-- R52: the list cut in chunks of 32. -/
def chunks32 {α : Type} : Nat → List α → List (List α)
  | 0, _ => []
  | _, [] => []
  | fuel + 1, xs => xs.take 32 :: chunks32 fuel (xs.drop 32)

/-- R52: the reduction of a list by the tree within chunks and in order across them; `none` for no element. -/
def reduceTree {α : Type} (f : α → α → α) (xs : List α) : Option α :=
  match (chunks32 xs.length xs).filterMap (chunkTree f) with
  | [] => none
  | c :: cs => some (cs.foldl f c)

/-- R46: one step of a core's 32-bit generator. -/
def lfsrStep (s : BitVec 32) : BitVec 32 :=
  let fb := s.getLsbD 31 ^^ s.getLsbD 21 ^^ s.getLsbD 1 ^^ s.getLsbD 0
  (s <<< 1) ||| (if fb then 1#32 else 0#32)

/-- `n` steps of a function. -/
def iterate {α : Type} (f : α → α) : Nat → α → α
  | 0, x => x
  | n + 1, x => iterate f n (f x)

/-- R46: the generator after `n` draws of 16 steps each. -/
def lfsrSkip (n : Nat) (s : BitVec 32) : BitVec 32 := iterate (iterate lfsrStep 16) n s

/-- R45, R46: the draw D that follows state `s`. -/
def lfsrDraw (s : BitVec 32) : Nat := (lfsrSkip 1 s).toNat % 2 ^ 16

end Sys2Proof.Machine
end

