-- ==== Sys2Proof/Config.lean ====
section
/-! DEFINITION. What an implementation or its fuses fix, and the free values: constants without a body, of which nothing
can be proved but that they are. -/
namespace Sys2Proof.Config

/-- R313: the value that a collided beat leaves, one for each count of the model's `fresh` field. -/
opaque freeBeat : Nat → BitVec 256

/-- The TRAPVAL of a trap whose rule states none, one for each count of the model's `fresh` field. -/
opaque freeWord : Nat → BitVec 64

/-- R26: the silicon stepping of a die. -/
opaque dieStep : Nat → BitVec 8

/-- R26: the part code. -/
opaque diePart : BitVec 16

/-- R402 (log 58): the window size that firmware gives a partition, in units of 2 MiB, less one. -/
opaque windowUnits : Nat → Nat

/-- R449: the partner's answer to a fabric access, one for each count of the model's `fresh` field: 0 performed, 1 outside
its window, 2 below its boundary, 3 not joined. -/
opaque partnerAnswer : Nat → BitVec 2

/-- R454: verification of an SLH-DSA-SHAKE-256s signature: key, signature, message. -/
opaque slhVerify : List Byte → List Byte → List Byte → Bool

/-- R456: the signing key derived from the fused secret at a boot, by the model's `fresh` field. -/
opaque deriveKey : Nat → List Byte

/-- R456: an SLH-DSA-SHAKE-256s signature: key, message. -/
opaque slhSign : List Byte → List Byte → List Byte

/-- R454: the key hash in the fuses. -/
opaque fuseKeyHash : List Byte

/-- R446: the link identity in the fuses. -/
opaque linkIdentity : Nat

/-- R456: the certificate chain of the fuse block. -/
opaque certChain : List Byte

/-- R456: the mask ROM contents. -/
opaque maskRom : List Byte

/-- R306, R319: the cores of the partner box that take part in a level-3 domain, by their bits 10 to 0 of COREID, in
ascending package core number. -/
opaque partnerCores : Nat → List Nat

/-- R447: the accesses that the payload of a class 0 flit asks for, whose layout the spec does not give: aperture
kind, partition, offset, bytes, value. -/
opaque flitWrites : Nat → List (Nat × Nat × Nat × Nat × Nat)

/-- R447: the payload words of a class 0 flit that asks for an access: kind, partition, offset, bytes, value. -/
opaque flitAccess : Nat → Nat → Nat → Nat → Nat → List (BitVec 64)

/-- R449: the payload words of the answer to an access: the refusal or 0, bytes, data. -/
opaque flitAnswer : Nat → Nat → Nat → List (BitVec 64)

/-- R448: the payload words of a sync message that says a time in ns, and the time that one says. -/
opaque syncWords : Nat → List (BitVec 64)
opaque syncTime : Nat → Nat

/-- R445: the payload words of a beat, and whether the payload of a class 3 flit is one. -/
opaque beatWords : List (BitVec 64)
opaque isBeat : Nat → Bool

/-- R443: a register of the endpoint's configuration space as read, one for each count of the model's `fresh` field. -/
opaque configRegister : Nat → BitVec 32

/-- R452: the result of the test of the finial cores: bit 8 die + i for core i of a die, by the cycle. -/
opaque finialTest : Nat → BitVec 32

/-- R461: the power that the package has drawn over the last 100 ms, in W, by the cycle. -/
opaque powerDrawn : Nat → BitVec 16

/-- R451: what a byte of the firmware window stands for, which the spec does not lay out: a byte of memory or the tag of a
granule, by its location, and whether it is the tag; none for a byte of the window's own. -/
opaque windowByte : Nat → Option (Nat × Bool)

/-- R442: sectors that their slices cannot write back when the device side is fenced, one for each count of the model's
`fresh` field. -/
opaque failedSectors : Nat → List Nat

/-- R454: the place of the firmware area in system memory, in units of 4 MiB, the largest image. -/
opaque firmwarePage : BitVec 35

/-- R460: the header version of a dump. -/
opaque dumpVersion : BitVec 16

/-- R466 (log 59): the function's translation covers the range of a host grant, by the model's `fresh` field. -/
opaque grantCovered : Nat → Bool

/-- R417: the first byte of the save area of a function's context, by function and PASID. -/
opaque saveArea : Nat → Nat → Nat

end Sys2Proof.Config
end

