-- ==== Sys2Proof/Machine/KMap.lean ====
section
/-! DEFINITION. Tables as lists of number and value in rising order of the number: reading, writing, removing; and the
canonical form in which no entry holds the value that an absent entry stands for. -/
namespace Sys2Proof.Machine

/-- The value listed for a key. -/
def kfind {α : Type} (k : Nat) : List (Nat × α) → Option α
  | [] => none
  | (j, v) :: m => if j = k then some v else kfind k m

/-- The table with the key's value set. -/
def kset {α : Type} (k : Nat) (v : α) : List (Nat × α) → List (Nat × α)
  | [] => [(k, v)]
  | (j, w) :: m => if k < j then (k, v) :: (j, w) :: m else if j = k then (k, v) :: m else (j, w) :: kset k v m

/-- The table without the key. -/
def kdel {α : Type} (k : Nat) (m : List (Nat × α)) : List (Nat × α) := m.filter (fun e => decide (e.1 ≠ k))

/-- The value of a key, an absent one being `d`. -/
def kget {α : Type} (d : α) (k : Nat) (m : List (Nat × α)) : α := (kfind k m).getD d

/-- The table with the key's value set, in canonical form: a key whose value is `d` is not listed. -/
def kput {α : Type} [DecidableEq α] (d : α) (k : Nat) (v : α) (m : List (Nat × α)) : List (Nat × α) :=
  if v = d then kdel k m else kset k v m

/-- The canonical form: keys strictly rising, no value equal to `d`. -/
def kwf {α : Type} [DecidableEq α] (d : α) : List (Nat × α) → Bool
  | [] => true
  | (k, v) :: m => decide (v ≠ d) && m.all (fun e => decide (k < e.1)) && kwf d m

/-- A set of numbers in rising order: one added. -/
def sadd (k : Nat) : List Nat → List Nat
  | [] => [k]
  | j :: m => if k < j then k :: j :: m else if j = k then j :: m else j :: sadd k m

/-- One removed. -/
def sdel (k : Nat) (m : List Nat) : List Nat := m.filter (fun j => decide (j ≠ k))

/-- The numbers from `a`, `n` of them. -/
def upto (a n : Nat) : List Nat := (List.range n).map (a + ·)

end Sys2Proof.Machine
end

