-- ==== Sys2Proof/Syntax.lean ====
section
/-! DEFINITION. The instruction words of 04_opcode_map (R81 to R84) and the events of the other agents:
one constructor for each row of the table of operations and events. Register, shape and immediate fields hold the
bits of their word (R58, R60); an event names the objects it concerns by number. -/
namespace Sys2Proof

/-- One constructor per row of the table. -/
inductive Instr where
  /-- `ADD`, R101. -/
  | add (d : BitVec 6) (a : BitVec 6) (b : BitVec 6) (sc : BitVec 2)
  /-- `SUB`, R101. -/
  | sub (d : BitVec 6) (a : BitVec 6) (b : BitVec 6) (sc : BitVec 2)
  /-- `AND`, R101. -/
  | and (d : BitVec 6) (a : BitVec 6) (b : BitVec 6) (sc : BitVec 2)
  /-- `OR`, R101. -/
  | or (d : BitVec 6) (a : BitVec 6) (b : BitVec 6) (sc : BitVec 2)
  /-- `XOR`, R101. -/
  | xor (d : BitVec 6) (a : BitVec 6) (b : BitVec 6) (sc : BitVec 2)
  /-- `ANDN`, R101. -/
  | andn (d : BitVec 6) (a : BitVec 6) (b : BitVec 6) (sc : BitVec 2)
  /-- `ORN`, R101. -/
  | orn (d : BitVec 6) (a : BitVec 6) (b : BitVec 6) (sc : BitVec 2)
  /-- `SLL`, R101. -/
  | sll (d : BitVec 6) (a : BitVec 6) (b : BitVec 6) (sc : BitVec 2)
  /-- `SRL`, R101. -/
  | srl (d : BitVec 6) (a : BitVec 6) (b : BitVec 6) (sc : BitVec 2)
  /-- `SRA`, R101. -/
  | sra (d : BitVec 6) (a : BitVec 6) (b : BitVec 6) (sc : BitVec 2)
  /-- `ROL`, R101. -/
  | rol (d : BitVec 6) (a : BitVec 6) (b : BitVec 6) (sc : BitVec 2)
  /-- `ROR`, R101. -/
  | ror (d : BitVec 6) (a : BitVec 6) (b : BitVec 6) (sc : BitVec 2)
  /-- `SLT`, R101. -/
  | slt (d : BitVec 6) (a : BitVec 6) (b : BitVec 6) (sc : BitVec 2)
  /-- `SLTN`, R101. -/
  | sltn (d : BitVec 6) (a : BitVec 6) (b : BitVec 6) (sc : BitVec 2)
  /-- `SEQ`, R101. -/
  | seq (d : BitVec 6) (a : BitVec 6) (b : BitVec 6) (sc : BitVec 2)
  /-- `SNE`, R101. -/
  | sne (d : BitVec 6) (a : BitVec 6) (b : BitVec 6) (sc : BitVec 2)
  /-- `MIN`, R101. -/
  | min (d : BitVec 6) (a : BitVec 6) (b : BitVec 6) (sc : BitVec 2)
  /-- `MAX`, R101. -/
  | max (d : BitVec 6) (a : BitVec 6) (b : BitVec 6) (sc : BitVec 2)
  /-- `MINN`, R101. -/
  | minn (d : BitVec 6) (a : BitVec 6) (b : BitVec 6) (sc : BitVec 2)
  /-- `MAXN`, R101. -/
  | maxn (d : BitVec 6) (a : BitVec 6) (b : BitVec 6) (sc : BitVec 2)
  /-- `CLZ`, R101. -/
  | clz (d : BitVec 6) (a : BitVec 6) (sc : BitVec 2)
  /-- `CTZ`, R101. -/
  | ctz (d : BitVec 6) (a : BitVec 6) (sc : BitVec 2)
  /-- `POPC`, R101. -/
  | popc (d : BitVec 6) (a : BitVec 6) (sc : BitVec 2)
  /-- `BREV`, R101. -/
  | brev (d : BitVec 6) (a : BitVec 6) (sc : BitVec 2)
  /-- `BSWAP`, R101. -/
  | bswap (d : BitVec 6) (a : BitVec 6) (sc : BitVec 2)
  /-- `SXT`, R101. -/
  | sxt (d : BitVec 6) (a : BitVec 6) (b : BitVec 6) (sc : BitVec 2)
  /-- `ZXT`, R101. -/
  | zxt (d : BitVec 6) (a : BitVec 6) (b : BitVec 6) (sc : BitVec 2)
  /-- `ADDW`, R101. -/
  | addw (d : BitVec 6) (a : BitVec 6) (b : BitVec 6) (sc : BitVec 2)
  /-- `SUBW`, R101. -/
  | subw (d : BitVec 6) (a : BitVec 6) (b : BitVec 6) (sc : BitVec 2)
  /-- `MUL`, R106. -/
  | mul (d : BitVec 6) (a : BitVec 6) (b : BitVec 6) (sc : BitVec 2)
  /-- `MULH`, R106. -/
  | mulh (d : BitVec 6) (a : BitVec 6) (b : BitVec 6) (sc : BitVec 2)
  /-- `MULHN`, R106. -/
  | mulhn (d : BitVec 6) (a : BitVec 6) (b : BitVec 6) (sc : BitVec 2)
  /-- `MULHSN`, R106. -/
  | mulhsn (d : BitVec 6) (a : BitVec 6) (b : BitVec 6) (sc : BitVec 2)
  /-- `DIV`, R107. -/
  | div (d : BitVec 6) (a : BitVec 6) (b : BitVec 6) (sc : BitVec 2)
  /-- `DIVN`, R107. -/
  | divn (d : BitVec 6) (a : BitVec 6) (b : BitVec 6) (sc : BitVec 2)
  /-- `REM`, R107. -/
  | rem (d : BitVec 6) (a : BitVec 6) (b : BitVec 6) (sc : BitVec 2)
  /-- `REMN`, R107. -/
  | remn (d : BitVec 6) (a : BitVec 6) (b : BitVec 6) (sc : BitVec 2)
  /-- `MULW`, R106. -/
  | mulw (d : BitVec 6) (a : BitVec 6) (b : BitVec 6) (sc : BitVec 2)
  /-- `DIVW`, R107. -/
  | divw (d : BitVec 6) (a : BitVec 6) (b : BitVec 6) (sc : BitVec 2)
  /-- `DIVNW`, R107. -/
  | divnw (d : BitVec 6) (a : BitVec 6) (b : BitVec 6) (sc : BitVec 2)
  /-- `REMW`, R107. -/
  | remw (d : BitVec 6) (a : BitVec 6) (b : BitVec 6) (sc : BitVec 2)
  /-- `REMNW`, R107. -/
  | remnw (d : BitVec 6) (a : BitVec 6) (b : BitVec 6) (sc : BitVec 2)
  /-- `ADDI`, R102. -/
  | addi (d : BitVec 6) (a : BitVec 6) (imm : BitVec 13)
  /-- `ANDI`, R102. -/
  | andi (d : BitVec 6) (a : BitVec 6) (imm : BitVec 13)
  /-- `ORI`, R102. -/
  | ori (d : BitVec 6) (a : BitVec 6) (imm : BitVec 13)
  /-- `XORI`, R102. -/
  | xori (d : BitVec 6) (a : BitVec 6) (imm : BitVec 13)
  /-- `SLTI`, R102. -/
  | slti (d : BitVec 6) (a : BitVec 6) (imm : BitVec 13)
  /-- `SLTNI`, R102. -/
  | sltni (d : BitVec 6) (a : BitVec 6) (imm : BitVec 13)
  /-- `SLLI`, R102. -/
  | slli (d : BitVec 6) (a : BitVec 6) (imm : BitVec 6)
  /-- `SRLI`, R102. -/
  | srli (d : BitVec 6) (a : BitVec 6) (imm : BitVec 6)
  /-- `SRAI`, R102. -/
  | srai (d : BitVec 6) (a : BitVec 6) (imm : BitVec 6)
  /-- `ADDWI`, R102. -/
  | addwi (d : BitVec 6) (a : BitVec 6) (imm : BitVec 13)
  /-- `LUI`, R103. -/
  | lui (d : BitVec 6) (imm : BitVec 19)
  /-- `AUIPC`, R104. -/
  | auipc (d : BitVec 6) (imm : BitVec 19)
  /-- `MADD`, R105. -/
  | madd (d : BitVec 6) (a : BitVec 6) (b : BitVec 6) (c : BitVec 6)
  /-- `MSUB`, R105. -/
  | msub (d : BitVec 6) (a : BitVec 6) (b : BitVec 6) (c : BitVec 6)
  /-- `CBND`, R109. -/
  | cbnd (d : BitVec 6) (a : BitVec 6) (b : BitVec 6) (sc : BitVec 2)
  /-- `CBNDE`, R109. -/
  | cbnde (d : BitVec 6) (a : BitVec 6) (b : BitVec 6) (sc : BitVec 2)
  /-- `CPERM`, R108. -/
  | cperm (d : BitVec 6) (a : BitVec 6) (b : BitVec 6) (sc : BitVec 2)
  /-- `CSETA`, R110. -/
  | cseta (d : BitVec 6) (a : BitVec 6) (b : BitVec 6) (sc : BitVec 2)
  /-- `CADD`, R110. -/
  | cadd (d : BitVec 6) (a : BitVec 6) (b : BitVec 6) (sc : BitVec 2)
  /-- `CBASE`, R108. -/
  | cbase (d : BitVec 6) (a : BitVec 6) (sc : BitVec 2)
  /-- `CLEN`, R108. -/
  | clen (d : BitVec 6) (a : BitVec 6) (sc : BitVec 2)
  /-- `CPERMS`, R108. -/
  | cperms (d : BitVec 6) (a : BitVec 6) (sc : BitVec 2)
  /-- `CTAG`, R108. -/
  | ctag (d : BitVec 6) (a : BitVec 6) (sc : BitVec 2)
  /-- `CCLR`, R108. -/
  | cclr (d : BitVec 6) (a : BitVec 6) (sc : BitVec 2)
  /-- `CMV`, R108. -/
  | cmv (d : BitVec 6) (a : BitVec 6) (sc : BitVec 2)
  /-- `CSUB`, R108. -/
  | csub (d : BitVec 6) (a : BitVec 6) (b : BitVec 6) (sc : BitVec 2)
  /-- `CTEST`, R111. -/
  | ctest (d : BitVec 6) (a : BitVec 6) (b : BitVec 6) (sc : BitVec 2)
  /-- `CADDI`, R110. -/
  | caddi (d : BitVec 6) (a : BitVec 6) (imm : BitVec 13)
  /-- `CBNDI`, R109. -/
  | cbndi (d : BitVec 6) (a : BitVec 6) (imm : BitVec 12)
  /-- `LD_I8`, R152. -/
  | ldI8 (d : BitVec 6) (a : BitVec 6) (imm : BitVec 13)
  /-- `LD_N8`, R152. -/
  | ldN8 (d : BitVec 6) (a : BitVec 6) (imm : BitVec 13)
  /-- `LD_I16`, R152. -/
  | ldI16 (d : BitVec 6) (a : BitVec 6) (imm : BitVec 13)
  /-- `LD_N16`, R152. -/
  | ldN16 (d : BitVec 6) (a : BitVec 6) (imm : BitVec 13)
  /-- `LD_I32`, R152. -/
  | ldI32 (d : BitVec 6) (a : BitVec 6) (imm : BitVec 13)
  /-- `LD_N32`, R152. -/
  | ldN32 (d : BitVec 6) (a : BitVec 6) (imm : BitVec 13)
  /-- `LD_64`, R152. -/
  | ld64 (d : BitVec 6) (a : BitVec 6) (imm : BitVec 13)
  /-- `LD_128`, R152. -/
  | ld128 (d : BitVec 6) (a : BitVec 6) (imm : BitVec 13)
  /-- `ST_8`, R154. -/
  | st8 (a : BitVec 6) (b : BitVec 6) (imm : BitVec 13)
  /-- `ST_16`, R154. -/
  | st16 (a : BitVec 6) (b : BitVec 6) (imm : BitVec 13)
  /-- `ST_32`, R154. -/
  | st32 (a : BitVec 6) (b : BitVec 6) (imm : BitVec 13)
  /-- `ST_64`, R154. -/
  | st64 (a : BitVec 6) (b : BitVec 6) (imm : BitVec 13)
  /-- `ST_128`, R154. -/
  | st128 (a : BitVec 6) (b : BitVec 6) (imm : BitVec 13)
  /-- `LDB_I`, R156. -/
  | ldbI (d : BitVec 6) (a : BitVec 6) (b : BitVec 6) (sc : BitVec 2)
  /-- `LDB_N`, R156. -/
  | ldbN (d : BitVec 6) (a : BitVec 6) (b : BitVec 6) (sc : BitVec 2)
  /-- `LDBP_I`, R156. -/
  | ldbpI (d : BitVec 6) (a : BitVec 6) (b : BitVec 6) (sc : BitVec 2)
  /-- `LDBP_N`, R156. -/
  | ldbpN (d : BitVec 6) (a : BitVec 6) (b : BitVec 6) (sc : BitVec 2)
  /-- `STB`, R158. -/
  | stb (d : BitVec 6) (a : BitVec 6) (b : BitVec 6) (sc : BitVec 2)
  /-- `STBP`, R158. -/
  | stbp (d : BitVec 6) (a : BitVec 6) (b : BitVec 6) (sc : BitVec 2)
  /-- `FADD_F32`, R112. -/
  | faddF32 (d : BitVec 6) (a : BitVec 6) (b : BitVec 6) (sc : BitVec 2)
  /-- `FSUB_F32`, R112. -/
  | fsubF32 (d : BitVec 6) (a : BitVec 6) (b : BitVec 6) (sc : BitVec 2)
  /-- `FMUL_F32`, R112. -/
  | fmulF32 (d : BitVec 6) (a : BitVec 6) (b : BitVec 6) (sc : BitVec 2)
  /-- `FDIV_F32`, R112. -/
  | fdivF32 (d : BitVec 6) (a : BitVec 6) (b : BitVec 6) (sc : BitVec 2)
  /-- `FSQRT_F32`, R112. -/
  | fsqrtF32 (d : BitVec 6) (a : BitVec 6) (sc : BitVec 2)
  /-- `FMIN_F32`, R114. -/
  | fminF32 (d : BitVec 6) (a : BitVec 6) (b : BitVec 6) (sc : BitVec 2)
  /-- `FMAX_F32`, R114. -/
  | fmaxF32 (d : BitVec 6) (a : BitVec 6) (b : BitVec 6) (sc : BitVec 2)
  /-- `FEQ_F32`, R115. -/
  | feqF32 (d : BitVec 6) (a : BitVec 6) (b : BitVec 6) (sc : BitVec 2)
  /-- `FLT_F32`, R115. -/
  | fltF32 (d : BitVec 6) (a : BitVec 6) (b : BitVec 6) (sc : BitVec 2)
  /-- `FLE_F32`, R115. -/
  | fleF32 (d : BitVec 6) (a : BitVec 6) (b : BitVec 6) (sc : BitVec 2)
  /-- `FCLASS_F32`, R115. -/
  | fclassF32 (d : BitVec 6) (a : BitVec 6) (sc : BitVec 2)
  /-- `FSGN_F32`, R116. -/
  | fsgnF32 (d : BitVec 6) (a : BitVec 6) (b : BitVec 6) (sc : BitVec 2)
  /-- `FNEG_F32`, R116. -/
  | fnegF32 (d : BitVec 6) (a : BitVec 6) (sc : BitVec 2)
  /-- `FABS_F32`, R116. -/
  | fabsF32 (d : BitVec 6) (a : BitVec 6) (sc : BitVec 2)
  /-- `FCVT_F32_I64`, R118. -/
  | fcvtF32I64 (d : BitVec 6) (a : BitVec 6) (sc : BitVec 2)
  /-- `FCVT_F32_N64`, R118. -/
  | fcvtF32N64 (d : BitVec 6) (a : BitVec 6) (sc : BitVec 2)
  /-- `FCVT_I64_F32`, R119. -/
  | fcvtI64F32 (d : BitVec 6) (a : BitVec 6) (sc : BitVec 2)
  /-- `FCVT_N64_F32`, R119. -/
  | fcvtN64F32 (d : BitVec 6) (a : BitVec 6) (sc : BitVec 2)
  /-- `FCVT_F32_BF16`, R118. -/
  | fcvtF32Bf16 (d : BitVec 6) (a : BitVec 6) (sc : BitVec 2)
  /-- `FCVT_BF16_F32`, R118. -/
  | fcvtBf16F32 (d : BitVec 6) (a : BitVec 6) (sc : BitVec 2)
  /-- `FCVT_F32_F16`, R118. -/
  | fcvtF32F16 (d : BitVec 6) (a : BitVec 6) (sc : BitVec 2)
  /-- `FCVT_F16_F32`, R118. -/
  | fcvtF16F32 (d : BitVec 6) (a : BitVec 6) (sc : BitVec 2)
  /-- `FCVT_F32_E8`, R42. -/
  | fcvtF32E8 (d : BitVec 6) (a : BitVec 6) (sc : BitVec 2)
  /-- `FCVT_E8_F32`, R42. -/
  | fcvtE8F32 (d : BitVec 6) (a : BitVec 6) (sc : BitVec 2)
  /-- `FMADD_F32`, R117. -/
  | fmaddF32 (d : BitVec 6) (a : BitVec 6) (b : BitVec 6) (c : BitVec 6)
  /-- `FMSUB_F32`, R117. -/
  | fmsubF32 (d : BitVec 6) (a : BitVec 6) (b : BitVec 6) (c : BitVec 6)
  /-- `BEQ`, R131. -/
  | beq (a : BitVec 6) (b : BitVec 6) (imm : BitVec 13)
  /-- `BNE`, R131. -/
  | bne (a : BitVec 6) (b : BitVec 6) (imm : BitVec 13)
  /-- `BLT`, R131. -/
  | blt (a : BitVec 6) (b : BitVec 6) (imm : BitVec 13)
  /-- `BGE`, R131. -/
  | bge (a : BitVec 6) (b : BitVec 6) (imm : BitVec 13)
  /-- `BLTN`, R131. -/
  | bltn (a : BitVec 6) (b : BitVec 6) (imm : BitVec 13)
  /-- `BGEN`, R131. -/
  | bgen (a : BitVec 6) (b : BitVec 6) (imm : BitVec 13)
  /-- `JAL`, R133. -/
  | jal (d : BitVec 6) (imm : BitVec 19)
  /-- `JALR`, R134. -/
  | jalr (d : BitVec 6) (a : BitVec 6) (imm : BitVec 13)
  /-- `REP`, R135. -/
  | rep (a : BitVec 6) (mask : BitVec 4) (n : BitVec 4) (stride : BitVec 5)
  /-- `SGET`, R429. -/
  | sget (d : BitVec 6) (imm : BitVec 12)
  /-- `SSET`, R429. -/
  | sset (a : BitVec 6) (imm : BitVec 12)
  /-- `SSWAP`, R429. -/
  | sswap (d : BitVec 6) (a : BitVec 6) (imm : BitVec 12)
  /-- `TRAP`, R431. -/
  | trap (a : BitVec 6) (sc : BitVec 2)
  /-- `BRK`, R431. -/
  | brk (sc : BitVec 2)
  /-- `RETT`, R432. -/
  | rett (sc : BitVec 2)
  /-- `IFENCE`, R433. -/
  | ifence (sc : BitVec 2)
  /-- `HALT`, R434. -/
  | halt (sc : BitVec 2)
  /-- `RDCYC`, R435. -/
  | rdcyc (d : BitVec 6) (sc : BitVec 2)
  /-- `RDTIME`, R435. -/
  | rdtime (d : BitVec 6) (sc : BitVec 2)
  /-- `RDRET`, R435. -/
  | rdret (d : BitVec 6) (sc : BitVec 2)
  /-- `XLPF`, R356. -/
  | xlpf (a : BitVec 6) (b : BitVec 6) (sc : BitVec 2)
  /-- `PGPROBE`, R357. -/
  | pgprobe (d : BitVec 6) (a : BitVec 6) (sc : BitVec 2)
  /-- `ATCINV`, R358. -/
  | atcinv (d : BitVec 6) (a : BitVec 6) (b : BitVec 6) (sc : BitVec 2)
  /-- `SPAWN`, R138. -/
  | spawn (d : BitVec 6) (a : BitVec 6) (b : BitVec 6) (sc : BitVec 2)
  /-- `SUSPEND`, R140. -/
  | suspend (sc : BitVec 2)
  /-- `YIELD`, R140. -/
  | yield (sc : BitVec 2)
  /-- `RETIRE`, R140. -/
  | retire (sc : BitVec 2)
  /-- `WAKE`, R139. -/
  | wake (d : BitVec 6) (a : BitVec 6) (sc : BitVec 2)
  /-- `STID`, R141. -/
  | stid (d : BitVec 6) (sc : BitVec 2)
  /-- `SETPRI`, R141. -/
  | setpri (d : BitVec 6) (a : BitVec 6) (sc : BitVec 2)
  /-- `SYNC`, R307. -/
  | sync (d : BitVec 6) (level : BitVec 2) (sc : BitVec 2)
  /-- `XSTART`, R314. -/
  | xstart (level : BitVec 2) (sc : BitVec 2)
  /-- `XDONE`, R316. -/
  | xdone (sc : BitVec 2)
  /-- `GRANK`, R319. -/
  | grank (d : BitVec 6) (level : BitVec 3) (sc : BitVec 2)
  /-- `GSIZE`, R319. -/
  | gsize (d : BitVec 6) (level : BitVec 3) (sc : BitVec 2)
  /-- `GMEMBER`, R319. -/
  | gmember (d : BitVec 6) (a : BitVec 6) (level : BitVec 2) (sc : BitVec 2)
  /-- `XPUT`, R320. -/
  | xput (a : BitVec 6) (b : BitVec 6) (c : BitVec 6)
  /-- `XGET`, R320. -/
  | xget (a : BitVec 6) (b : BitVec 6) (c : BitVec 6)
  /-- `EVWAIT`, R332. -/
  | evwait (d : BitVec 6) (a : BitVec 6) (sc : BitVec 2)
  /-- `EVSIG`, R333. -/
  | evsig (a : BitVec 6) (b : BitVec 6) (sc : BitVec 2)
  /-- `EVSEND`, R334. -/
  | evsend (a : BitVec 6) (b : BitVec 6) (sc : BitVec 2)
  /-- `BARC`, R335. -/
  | barc (d : BitVec 6) (a : BitVec 6) (b : BitVec 6) (sc : BitVec 2)
  /-- `BARA`, R336. -/
  | bara (d : BitVec 6) (a : BitVec 6) (sc : BitVec 2)
  /-- `BARW`, R337. -/
  | barw (a : BitVec 6) (b : BitVec 6) (sc : BitVec 2)
  /-- `BARRC`, R338. -/
  | barrc (d : BitVec 6) (a : BitVec 6) (sc : BitVec 2)
  /-- `MTXLOCK`, R339. -/
  | mtxlock (a : BitVec 6) (sc : BitVec 2)
  /-- `MTXFREE`, R339. -/
  | mtxfree (d : BitVec 6) (a : BitVec 6) (sc : BitVec 2)
  /-- `AMO_SWAP`, R297. -/
  | amoSwap (d : BitVec 6) (a : BitVec 6) (b : BitVec 6) (scope : BitVec 3) (ord : BitVec 2)
  /-- `AMO_ADD`, R297. -/
  | amoAdd (d : BitVec 6) (a : BitVec 6) (b : BitVec 6) (scope : BitVec 3) (ord : BitVec 2)
  /-- `AMO_AND`, R297. -/
  | amoAnd (d : BitVec 6) (a : BitVec 6) (b : BitVec 6) (scope : BitVec 3) (ord : BitVec 2)
  /-- `AMO_OR`, R297. -/
  | amoOr (d : BitVec 6) (a : BitVec 6) (b : BitVec 6) (scope : BitVec 3) (ord : BitVec 2)
  /-- `AMO_XOR`, R297. -/
  | amoXor (d : BitVec 6) (a : BitVec 6) (b : BitVec 6) (scope : BitVec 3) (ord : BitVec 2)
  /-- `AMO_MIN`, R297. -/
  | amoMin (d : BitVec 6) (a : BitVec 6) (b : BitVec 6) (scope : BitVec 3) (ord : BitVec 2)
  /-- `AMO_MAX`, R297. -/
  | amoMax (d : BitVec 6) (a : BitVec 6) (b : BitVec 6) (scope : BitVec 3) (ord : BitVec 2)
  /-- `AMO_MINN`, R297. -/
  | amoMinn (d : BitVec 6) (a : BitVec 6) (b : BitVec 6) (scope : BitVec 3) (ord : BitVec 2)
  /-- `AMO_MAXN`, R297. -/
  | amoMaxn (d : BitVec 6) (a : BitVec 6) (b : BitVec 6) (scope : BitVec 3) (ord : BitVec 2)
  /-- `AMO_FADD_F32`, R297. -/
  | amoFaddF32 (d : BitVec 6) (a : BitVec 6) (b : BitVec 6) (scope : BitVec 3) (ord : BitVec 2)
  /-- `AMO_FMIN_F32`, R297. -/
  | amoFminF32 (d : BitVec 6) (a : BitVec 6) (b : BitVec 6) (scope : BitVec 3) (ord : BitVec 2)
  /-- `AMO_FMAX_F32`, R297. -/
  | amoFmaxF32 (d : BitVec 6) (a : BitVec 6) (b : BitVec 6) (scope : BitVec 3) (ord : BitVec 2)
  /-- `RED_ADD`, R298. -/
  | redAdd (a : BitVec 6) (b : BitVec 6) (scope : BitVec 3) (ord : BitVec 2)
  /-- `RED_FADD_F32`, R298. -/
  | redFaddF32 (a : BitVec 6) (b : BitVec 6) (scope : BitVec 3) (ord : BitVec 2)
  /-- `RED_MIN`, R298. -/
  | redMin (a : BitVec 6) (b : BitVec 6) (scope : BitVec 3) (ord : BitVec 2)
  /-- `RED_MAX`, R298. -/
  | redMax (a : BitVec 6) (b : BitVec 6) (scope : BitVec 3) (ord : BitVec 2)
  /-- `CAS_64`, R299. -/
  | cas64 (d : BitVec 6) (a : BitVec 6) (b : BitVec 6) (scope : BitVec 3) (ord : BitVec 2)
  /-- `CAS_128`, R299. -/
  | cas128 (d : BitVec 6) (a : BitVec 6) (b : BitVec 6) (scope : BitVec 3) (ord : BitVec 2)
  /-- `WAITV_64`, R300. -/
  | waitv64 (d : BitVec 6) (a : BitVec 6) (b : BitVec 6) (scope : BitVec 3) (ord : BitVec 1)
  /-- `WAITV_32`, R300. -/
  | waitv32 (d : BitVec 6) (a : BitVec 6) (b : BitVec 6) (scope : BitVec 3) (ord : BitVec 1)
  /-- `FENCE`, R288. -/
  | fence (scope : BitVec 3)
  /-- `FENCE_ACQ`, R288. -/
  | fenceAcq (scope : BitVec 3)
  /-- `FENCE_REL`, R288. -/
  | fenceRel (scope : BitVec 3)
  /-- `FENCE_WIN`, R294. -/
  | fenceWin
  /-- `LDA_64`, R301. -/
  | lda64 (d : BitVec 6) (a : BitVec 6) (scope : BitVec 3)
  /-- `LDA_32`, R301. -/
  | lda32 (d : BitVec 6) (a : BitVec 6) (scope : BitVec 3)
  /-- `STL_64`, R301. -/
  | stl64 (a : BitVec 6) (b : BitVec 6) (scope : BitVec 3)
  /-- `STL_32`, R301. -/
  | stl32 (a : BitVec 6) (b : BitVec 6) (scope : BitVec 3)
  /-- `CHBIND`, R261. -/
  | chbind (d : BitVec 3) (a : BitVec 6) (b : BitVec 6) (sc : BitVec 2)
  /-- `CHFREE`, R262. -/
  | chfree (d : BitVec 3) (b : BitVec 6) (sc : BitVec 2)
  /-- `CHCNT`, R263. -/
  | chcnt (d : BitVec 6) (a : BitVec 3) (sc : BitVec 2)
  /-- `CHSPACE`, R263. -/
  | chspace (d : BitVec 6) (a : BitVec 3) (sc : BitVec 2)
  /-- `CHPEEK`, R264. -/
  | chpeek (d : BitVec 6) (a : BitVec 3) (b : BitVec 6) (sc : BitVec 2)
  /-- `CHTRY`, R265. -/
  | chtry (d : BitVec 6) (a : BitVec 3) (sc : BitVec 2)
  /-- `CHPUT`, R266. -/
  | chput (d : BitVec 3) (a : BitVec 6) (sc : BitVec 2)
  /-- `MSEND`, R267. -/
  | msend (a : BitVec 6) (b : BitVec 6) (sc : BitVec 2)
  /-- `SHP_LD`, R167. -/
  | shpLd (d : BitVec 4) (a : BitVec 6) (sc : BitVec 2)
  /-- `SHP_ST`, R167. -/
  | shpSt (d : BitVec 4) (a : BitVec 6) (sc : BitVec 2)
  /-- `SHP_GET`, R168. -/
  | shpGet (d : BitVec 6) (a : BitVec 4) (b : BitVec 6) (sc : BitVec 2)
  /-- `SHP_SET`, R168. -/
  | shpSet (d : BitVec 4) (a : BitVec 6) (b : BitVec 6) (sc : BitVec 2)
  /-- `SHP_ADV`, R168. -/
  | shpAdv (d : BitVec 4) (a : BitVec 6) (b : BitVec 6) (sc : BitVec 2)
  /-- `SHP_MV`, R168. -/
  | shpMv (d : BitVec 4) (a : BitVec 4) (sc : BitVec 2)
  /-- `VADD`, R178. -/
  | vadd (d : BitVec 4) (a : BitVec 4) (b : BitVec 4) (k : BitVec 1)
  /-- `VSUB`, R178. -/
  | vsub (d : BitVec 4) (a : BitVec 4) (b : BitVec 4) (k : BitVec 1)
  /-- `VMUL`, R178. -/
  | vmul (d : BitVec 4) (a : BitVec 4) (b : BitVec 4) (k : BitVec 1)
  /-- `VFMA`, R178. -/
  | vfma (d : BitVec 4) (a : BitVec 4) (b : BitVec 4) (k : BitVec 1)
  /-- `VMIN`, R178. -/
  | vmin (d : BitVec 4) (a : BitVec 4) (b : BitVec 4)
  /-- `VMAX`, R178. -/
  | vmax (d : BitVec 4) (a : BitVec 4) (b : BitVec 4)
  /-- `VABS`, R178. -/
  | vabs (d : BitVec 4) (a : BitVec 4) (k : BitVec 1)
  /-- `VNEG`, R178. -/
  | vneg (d : BitVec 4) (a : BitVec 4) (k : BitVec 1)
  /-- `VRCP`, R192. -/
  | vrcp (d : BitVec 4) (a : BitVec 4)
  /-- `VRSQRT`, R192. -/
  | vrsqrt (d : BitVec 4) (a : BitVec 4)
  /-- `VEXP2`, R192. -/
  | vexp2 (d : BitVec 4) (a : BitVec 4)
  /-- `VLOG2`, R192. -/
  | vlog2 (d : BitVec 4) (a : BitVec 4)
  /-- `VTANH`, R192. -/
  | vtanh (d : BitVec 4) (a : BitVec 4)
  /-- `VSIG`, R192. -/
  | vsig (d : BitVec 4) (a : BitVec 4)
  /-- `VADDI`, R179. -/
  | vaddi (d : BitVec 4) (a : BitVec 4) (g : BitVec 6) (k : BitVec 1)
  /-- `VSUBI`, R179. -/
  | vsubi (d : BitVec 4) (a : BitVec 4) (g : BitVec 6) (k : BitVec 1)
  /-- `VMULI`, R179. -/
  | vmuli (d : BitVec 4) (a : BitVec 4) (g : BitVec 6) (k : BitVec 1)
  /-- `VAND`, R179. -/
  | vand (d : BitVec 4) (a : BitVec 4) (b : BitVec 4)
  /-- `VOR`, R179. -/
  | vor (d : BitVec 4) (a : BitVec 4) (b : BitVec 4)
  /-- `VXOR`, R179. -/
  | vxor (d : BitVec 4) (a : BitVec 4) (b : BitVec 4)
  /-- `VSHL`, R179. -/
  | vshl (d : BitVec 4) (a : BitVec 4) (g : BitVec 6)
  /-- `VSHR`, R179. -/
  | vshr (d : BitVec 4) (a : BitVec 4) (g : BitVec 6)
  /-- `VSRA`, R179. -/
  | vsra (d : BitVec 4) (a : BitVec 4) (g : BitVec 6)
  /-- `VSAT`, R179. -/
  | vsat (d : BitVec 4) (a : BitVec 4) (g : BitVec 6)
  /-- `VCMP_EQ`, R180. -/
  | vcmpEq (d : BitVec 4) (a : BitVec 4) (b : BitVec 4)
  /-- `VCMP_LT`, R180. -/
  | vcmpLt (d : BitVec 4) (a : BitVec 4) (b : BitVec 4)
  /-- `VCMP_LE`, R180. -/
  | vcmpLe (d : BitVec 4) (a : BitVec 4) (b : BitVec 4)
  /-- `VSEL`, R180. -/
  | vsel (d : BitVec 4) (a : BitVec 4) (b : BitVec 4)
  /-- `VFILL`, R180. -/
  | vfill (d : BitVec 4) (g : BitVec 6)
  /-- `VCOPY`, R180. -/
  | vcopy (d : BitVec 4) (a : BitVec 4)
  /-- `VIOTA`, R180. -/
  | viota (d : BitVec 4) (g : BitVec 6)
  /-- `VCLAMP`, R180. -/
  | vclamp (d : BitVec 4) (a : BitVec 4) (g : BitVec 6)
  /-- `VRSUM`, R181. -/
  | vrsum (d : BitVec 4) (a : BitVec 4) (g : BitVec 6)
  /-- `VRMAX`, R182. -/
  | vrmax (d : BitVec 4) (a : BitVec 4) (g : BitVec 6)
  /-- `VRMIN`, R182. -/
  | vrmin (d : BitVec 4) (a : BitVec 4) (g : BitVec 6)
  /-- `VRARGMAX`, R182. -/
  | vrargmax (d : BitVec 4) (a : BitVec 4) (g : BitVec 6)
  /-- `VRSUMSQ`, R181. -/
  | vrsumsq (d : BitVec 4) (a : BitVec 4) (g : BitVec 6)
  /-- `VCVT`, R183. -/
  | vcvt (d : BitVec 4) (a : BitVec 4) (o : BitVec 1) (k : BitVec 1)
  /-- `VQUANT`, R184. -/
  | vquant (d : BitVec 4) (a : BitVec 4) (o : BitVec 1)
  /-- `VDEQUANT`, R185. -/
  | vdequant (d : BitVec 4) (a : BitVec 4)
  /-- `VGATH`, R186. -/
  | vgath (d : BitVec 4) (a : BitVec 4) (b : BitVec 4)
  /-- `VSCAT`, R186. -/
  | vscat (d : BitVec 4) (a : BitVec 4) (b : BitVec 4)
  /-- `VSCAT_ADD`, R186. -/
  | vscatAdd (d : BitVec 4) (a : BitVec 4) (b : BitVec 4) (k : BitVec 1)
  /-- `VLOOP`, R188. -/
  | vloop (a : BitVec 6) (b : BitVec 6) (sc : BitVec 2)
  /-- `VWAIT`, R188. -/
  | vwait (sc : BitVec 2)
  /-- `VFENCE`, R188. -/
  | vfence (sc : BitVec 2)
  /-- `VSTAT`, R189. -/
  | vstat (d : BitVec 6) (sc : BitVec 2)
  /-- `VCANCEL`, R188. -/
  | vcancel (d : BitVec 6) (sc : BitVec 2)
  /-- `VDOT_F4F4`, R187. -/
  | vdotF4f4 (d : BitVec 4) (a : BitVec 4) (b : BitVec 4) (g : BitVec 6)
  /-- `VDOTA_F4F4`, R187. -/
  | vdotaF4f4 (d : BitVec 4) (a : BitVec 4) (b : BitVec 4) (g : BitVec 6)
  /-- `VDOT_F6F6`, R187. -/
  | vdotF6f6 (d : BitVec 4) (a : BitVec 4) (b : BitVec 4) (g : BitVec 6)
  /-- `VDOTA_F6F6`, R187. -/
  | vdotaF6f6 (d : BitVec 4) (a : BitVec 4) (b : BitVec 4) (g : BitVec 6)
  /-- `VDOT_F6F4`, R187. -/
  | vdotF6f4 (d : BitVec 4) (a : BitVec 4) (b : BitVec 4) (g : BitVec 6)
  /-- `VDOTA_F6F4`, R187. -/
  | vdotaF6f4 (d : BitVec 4) (a : BitVec 4) (b : BitVec 4) (g : BitVec 6)
  /-- `VDOT_E4E4`, R187. -/
  | vdotE4e4 (d : BitVec 4) (a : BitVec 4) (b : BitVec 4) (g : BitVec 6)
  /-- `VDOTA_E4E4`, R187. -/
  | vdotaE4e4 (d : BitVec 4) (a : BitVec 4) (b : BitVec 4) (g : BitVec 6)
  /-- `VDOT_E5E5`, R187. -/
  | vdotE5e5 (d : BitVec 4) (a : BitVec 4) (b : BitVec 4) (g : BitVec 6)
  /-- `VDOTA_E5E5`, R187. -/
  | vdotaE5e5 (d : BitVec 4) (a : BitVec 4) (b : BitVec 4) (g : BitVec 6)
  /-- `VDOT_I8I8`, R187. -/
  | vdotI8i8 (d : BitVec 4) (a : BitVec 4) (b : BitVec 4)
  /-- `VDOTA_I8I8`, R187. -/
  | vdotaI8i8 (d : BitVec 4) (a : BitVec 4) (b : BitVec 4)
  /-- `VDOT_I8T2`, R187. -/
  | vdotI8t2 (d : BitVec 4) (a : BitVec 4) (b : BitVec 4)
  /-- `VDOTA_I8T2`, R187. -/
  | vdotaI8t2 (d : BitVec 4) (a : BitVec 4) (b : BitVec 4)
  /-- `VDOT_BFBF`, R187. -/
  | vdotBfbf (d : BitVec 4) (a : BitVec 4) (b : BitVec 4)
  /-- `VDOTA_BFBF`, R187. -/
  | vdotaBfbf (d : BitVec 4) (a : BitVec 4) (b : BitVec 4)
  /-- `MLEASE`, R204. -/
  | mlease (d : BitVec 6) (sc : BitVec 2)
  /-- `MWAIT`, R204. -/
  | mwait (sc : BitVec 2)
  /-- `MRELEASE`, R204. -/
  | mrelease (sc : BitVec 2)
  /-- `MSTAT`, R205. -/
  | mstat (d : BitVec 6) (sc : BitVec 2)
  /-- `MMAP`, R206. -/
  | mmap (a : BitVec 6) (b : BitVec 6) (sc : BitVec 2)
  /-- `MEPI`, R207. -/
  | mepi (a : BitVec 6) (sc : BitVec 2)
  /-- `MDRAIN`, R208. -/
  | mdrain (a : BitVec 6) (sc : BitVec 2)
  /-- `MCLEAR`, R209. -/
  | mclear (a : BitVec 6) (sc : BitVec 2)
  /-- `MFLAGS`, R210. -/
  | mflags (d : BitVec 6) (a : BitVec 6) (sc : BitVec 2)
  /-- `MTILE_F4F4`, R216. -/
  | mtileF4f4 (a : BitVec 4) (b : BitVec 4) (g : BitVec 6) (k : BitVec 1)
  /-- `MTILEO_F4F4`, R216. -/
  | mtileoF4f4 (a : BitVec 4) (b : BitVec 4) (g : BitVec 6) (k : BitVec 1)
  /-- `MTILE_F6F6`, R216. -/
  | mtileF6f6 (a : BitVec 4) (b : BitVec 4) (g : BitVec 6) (k : BitVec 1)
  /-- `MTILEO_F6F6`, R216. -/
  | mtileoF6f6 (a : BitVec 4) (b : BitVec 4) (g : BitVec 6) (k : BitVec 1)
  /-- `MTILE_F6F4`, R216. -/
  | mtileF6f4 (a : BitVec 4) (b : BitVec 4) (g : BitVec 6) (k : BitVec 1)
  /-- `MTILEO_F6F4`, R216. -/
  | mtileoF6f4 (a : BitVec 4) (b : BitVec 4) (g : BitVec 6) (k : BitVec 1)
  /-- `MTILE_E4E4`, R216. -/
  | mtileE4e4 (a : BitVec 4) (b : BitVec 4) (g : BitVec 6) (k : BitVec 1)
  /-- `MTILEO_E4E4`, R216. -/
  | mtileoE4e4 (a : BitVec 4) (b : BitVec 4) (g : BitVec 6) (k : BitVec 1)
  /-- `MTILE_E5E5`, R216. -/
  | mtileE5e5 (a : BitVec 4) (b : BitVec 4) (g : BitVec 6) (k : BitVec 1)
  /-- `MTILEO_E5E5`, R216. -/
  | mtileoE5e5 (a : BitVec 4) (b : BitVec 4) (g : BitVec 6) (k : BitVec 1)
  /-- `MTILE_I8I8`, R216. -/
  | mtileI8i8 (a : BitVec 4) (b : BitVec 4) (g : BitVec 6) (k : BitVec 1)
  /-- `MTILEO_I8I8`, R216. -/
  | mtileoI8i8 (a : BitVec 4) (b : BitVec 4) (g : BitVec 6) (k : BitVec 1)
  /-- `MTILE_I8T2`, R216. -/
  | mtileI8t2 (a : BitVec 4) (b : BitVec 4) (g : BitVec 6) (k : BitVec 1)
  /-- `MTILEO_I8T2`, R216. -/
  | mtileoI8t2 (a : BitVec 4) (b : BitVec 4) (g : BitVec 6) (k : BitVec 1)
  /-- `MTILE_BFBF`, R216. -/
  | mtileBfbf (a : BitVec 4) (b : BitVec 4) (g : BitVec 6) (k : BitVec 1)
  /-- `MTILEO_BFBF`, R216. -/
  | mtileoBfbf (a : BitVec 4) (b : BitVec 4) (g : BitVec 6) (k : BitVec 1)
  /-- `HBIND`, R240. -/
  | hbind (d : BitVec 3) (a : BitVec 3) (b : BitVec 3)
  /-- `HPERM`, R240. -/
  | hperm (d : BitVec 3) (a : BitVec 3) (g : BitVec 6)
  /-- `HBUND`, R241. -/
  | hbund (a : BitVec 3) (g : BitVec 6) (mode : BitVec 2) (y : BitVec 1)
  /-- `HTHR`, R242. -/
  | hthr (d : BitVec 3) (b : BitVec 3) (mode : BitVec 2) (tie : BitVec 2) (y : BitVec 1)
  /-- `HCLR_H`, R245. -/
  | hclrH (d : BitVec 3)
  /-- `HCLR_Y`, R245. -/
  | hclrY (y : BitVec 1)
  /-- `HLD_H`, R246. -/
  | hldH (d : BitVec 3) (g : BitVec 6)
  /-- `HLD_Y`, R246. -/
  | hldY (g : BitVec 6) (y : BitVec 1)
  /-- `HST_H`, R246. -/
  | hstH (a : BitVec 3) (g : BitVec 6)
  /-- `HST_Y`, R246. -/
  | hstY (g : BitVec 6) (y : BitVec 1)
  /-- `HMV`, R240. -/
  | hmv (d : BitVec 3) (a : BitVec 3)
  /-- `HHAM`, R244. -/
  | hham (a : BitVec 3) (b : BitVec 3) (g : BitVec 6)
  /-- `HPOPC`, R244. -/
  | hpopc (a : BitVec 3) (g : BitVec 6)
  /-- `HNOT`, R240. -/
  | hnot (d : BitVec 3) (a : BitVec 3)
  /-- `HGETB`, R244. -/
  | hgetb (a : BitVec 3) (g : BitVec 6) (idx : BitVec 5)
  /-- `HSRCH`, R249. -/
  | hsrch (a : BitVec 4) (b : BitVec 3) (g : BitVec 6)
  /-- `HSRCHK`, R249. -/
  | hsrchk (a : BitVec 4) (b : BitVec 3) (g : BitVec 6)
  /-- `HSRCHT`, R249. -/
  | hsrcht (d : BitVec 4) (a : BitVec 4) (b : BitVec 3) (g : BitVec 6)
  /-- `REGISTER_WRITE`, R429. -/
  | registerWrite (core : Nat) (slot : Nat) (idx : Nat) (val : Nat)
  /-- `SLOT_TAKES_RECORD`, R122. -/
  | slotTakesRecord (core : Nat) (slot : Nat)
  /-- `SPIN_BUDGET_EXPIRY`, R127. -/
  | spinBudgetExpiry (core : Nat) (slot : Nat)
  /-- `WAIT_RELEASE_PUSH`, R122. -/
  | waitReleasePush (part : Nat) (addr : Nat)
  /-- `SINGLE_CORE_PREEMPTION`, R129. -/
  | singleCorePreemption (core : Nat)
  /-- `CORE_RESUME`, R129. -/
  | coreResume (core : Nat)
  /-- `RETAINED_REGISTER_READ`, R130. -/
  | retainedRegisterRead (core : Nat) (slot : Nat) (reg : Nat)
  /-- `LOAD_DATA_RETURN`, R152. -/
  | loadDataReturn (n : Nat)
  /-- `REFUSAL_RETURN`, R150. -/
  | refusalReturn (n : Nat)
  /-- `ACCESS_AGED`, R146. -/
  | accessAged (core : Nat)
  /-- `VECTOR_ENTRY_EXECUTE`, R171. -/
  | vectorEntryExecute (core : Nat)
  /-- `VECTOR_ENTRY_COMPLETE`, R174. -/
  | vectorEntryComplete (core : Nat)
  /-- `VECTOR_ENTRY_FAILURE`, R173. -/
  | vectorEntryFailure (core : Nat) (cause : Nat) (addr : Nat)
  /-- `VLOOP_PASS_START`, R188. -/
  | vloopPassStart (core : Nat)
  /-- `LEASE_GRANT`, R198. -/
  | leaseGrant (cl : Nat)
  /-- `LEASE_BUDGET_EXPIRY`, R197. -/
  | leaseBudgetExpiry (cl : Nat)
  /-- `LEASE_HOLDER_DRAINED`, R199. -/
  | leaseHolderDrained (cl : Nat)
  /-- `TILE_BLOCK_FETCH`, R219. -/
  | tileBlockFetch (cl : Nat)
  /-- `TILE_BLOCK_DONE`, R219. -/
  | tileBlockDone (cl : Nat)
  /-- `TILE_COMMAND_COMPLETE`, R216. -/
  | tileCommandComplete (cl : Nat)
  /-- `TILE_COMMAND_FAILURE`, R221. -/
  | tileCommandFailure (cl : Nat) (cause : Nat) (addr : Nat)
  /-- `DRAIN_START`, R228. -/
  | drainStart (cl : Nat)
  /-- `DRAIN_ROW_WRITE`, R228. -/
  | drainRowWrite (cl : Nat)
  /-- `CHANNEL_PUSH_AT_PORT`, R253. -/
  | channelPushAtPort (core : Nat) (slot : Nat)
  /-- `CHANNEL_POP_AT_PORT`, R253. -/
  | channelPopAtPort (core : Nat) (slot : Nat)
  /-- `MESSAGE_AT_PORT`, R267. -/
  | messageAtPort (n : Nat)
  /-- `INBOX_DELIVERY`, R268. -/
  | inboxDelivery (core : Nat)
  /-- `COPY_PUT`, R271. -/
  | copyPut (cl : Nat)
  /-- `COPY_GET`, R271. -/
  | copyGet (cl : Nat)
  /-- `COPY_STRIDED_PUT`, R271. -/
  | copyStridedPut (cl : Nat)
  /-- `COPY_STRIDED_GET`, R271. -/
  | copyStridedGet (cl : Nat)
  /-- `COPY_REDUCE_PUT`, R272. -/
  | copyReducePut (cl : Nat)
  /-- `COPY_SEGMENT_PUT`, R273. -/
  | copySegmentPut (cl : Nat)
  /-- `COPY_SEGMENT_REDUCE`, R273. -/
  | copySegmentReduce (cl : Nat)
  /-- `COPY_COMMAND_COMPLETE`, R274. -/
  | copyCommandComplete (cl : Nat)
  /-- `STATUS_PORT_ROOM`, R276. -/
  | statusPortRoom (cl : Nat)
  /-- `READ_SNOOP`, R289. -/
  | readSnoop (agent : Nat) (sector : Nat)
  /-- `OWNERSHIP_SNOOP`, R289. -/
  | ownershipSnoop (agent : Nat) (sector : Nat)
  /-- `SECTOR_EVICTION`, R289. -/
  | sectorEviction (agent : Nat) (sector : Nat)
  /-- `ENGINE_SECTOR_FINISH`, R290. -/
  | engineSectorFinish (cl : Nat) (sector : Nat)
  /-- `MONITOR_FIRE`, R300. -/
  | monitorFire (core : Nat) (slot : Nat)
  /-- `FABRIC_WINDOW_REACHED`, R294. -/
  | fabricWindowReached (core : Nat) (slot : Nat)
  /-- `SYNC_COMPLETE`, R308. -/
  | syncComplete (part : Nat) (level : Nat) (dom : Nat)
  /-- `BOUNDARY_ACTION`, R310. -/
  | boundaryAction (part : Nat)
  /-- `BOUNDARY_HOLD_EXPIRY`, R310. -/
  | boundaryHoldExpiry (part : Nat)
  /-- `MOVED_IMAGE_COPY`, R369. -/
  | movedImageCopy (cl : Nat)
  /-- `EXCHANGE_OPEN`, R314. -/
  | exchangeOpen (part : Nat) (level : Nat) (dom : Nat)
  /-- `EXCHANGE_BEAT`, R312. -/
  | exchangeBeat (part : Nat) (level : Nat) (dom : Nat)
  /-- `EXCHANGE_CLOSE`, R316. -/
  | exchangeClose (part : Nat) (level : Nat) (dom : Nat)
  /-- `BARRIER_TIMEOUT`, R327. -/
  | barrierTimeout (core : Nat) (slot : Nat)
  /-- `WIRE_EPISODE_COMPLETE`, R329. -/
  | wireEpisodeComplete (die : Nat) (code : Nat)
  /-- `EVENT_TO_INBOX`, R322. -/
  | eventToInbox (n : Nat)
  /-- `HELD_EVENT_PLACED`, R334. -/
  | heldEventPlaced (core : Nat)
  /-- `TRANSLATION_COMPLETION`, R345. -/
  | translationCompletion (die : Nat) (vf : Nat) (pasid : Nat) (va : Nat) (pa : Nat) (size : Nat) (perms : Nat)
  /-- `PAGE_REQUEST_QUEUE`, R349. -/
  | pageRequestQueue (cl : Nat) (n : Nat)
  /-- `PRG_RESPONSE_SUCCESS`, R349. -/
  | prgResponseSuccess (vf : Nat) (idx : Nat)
  /-- `PRG_RESPONSE_INVALID_REQUEST`, R349. -/
  | prgResponseInvalidRequest (vf : Nat) (idx : Nat)
  /-- `PRG_RESPONSE_FAILURE`, R349. -/
  | prgResponseFailure (vf : Nat) (idx : Nat)
  /-- `INVALIDATE_REQUEST`, R351. -/
  | invalidateRequest (vf : Nat) (pasid : Nat) (va : Nat) (size : Nat)
  /-- `INVALIDATION_COMPLETION`, R351. -/
  | invalidationCompletion (vf : Nat) (pasid : Nat) (va : Nat)
  /-- `PGCTL_REPLAY`, R350. -/
  | pgctlReplay (vf : Nat) (val : Nat)
  /-- `PRI_CONTROL_RESET`, R349. -/
  | priControlReset (vf : Nat)
  /-- `KERNEL_PLACEMENT`, R362. -/
  | kernelPlacement (k : Nat)
  /-- `KERNEL_LOADING_COMPLETE`, R364. -/
  | kernelLoadingComplete (k : Nat)
  /-- `KERNEL_DRAINED`, R366. -/
  | kernelDrained (k : Nat)
  /-- `NOTIFY`, R378. -/
  | notify (vf : Nat) (val : Nat)
  /-- `PACKET_NOP`, R379. -/
  | packetNop (vf : Nat) (q : Nat)
  /-- `PACKET_LAUNCH`, R381. -/
  | packetLaunch (vf : Nat) (q : Nat)
  /-- `PACKET_COPY`, R382. -/
  | packetCopy (vf : Nat) (q : Nat)
  /-- `PACKET_FENCE_WAIT`, R383. -/
  | packetFenceWait (vf : Nat) (q : Nat)
  /-- `PACKET_FENCE_SIGNAL`, R384. -/
  | packetFenceSignal (vf : Nat) (q : Nat)
  /-- `PACKET_TOKEN_PUT`, R385. -/
  | packetTokenPut (vf : Nat) (q : Nat)
  /-- `PACKET_TOKEN_TAKE`, R385. -/
  | packetTokenTake (vf : Nat) (q : Nat)
  /-- `PACKET_INDIRECT`, R386. -/
  | packetIndirect (vf : Nat) (q : Nat)
  /-- `PACKET_BARRIER_AND`, R383. -/
  | packetBarrierAnd (vf : Nat) (q : Nat)
  /-- `QUEUE_CONDITION_HOLDS`, R380. -/
  | queueConditionHolds (vf : Nat) (q : Nat)
  /-- `LAUNCH_COMPLETION_WRITE`, R381. -/
  | launchCompletionWrite (k : Nat)
  /-- `QUANTUM_EXPIRY`, R389. -/
  | quantumExpiry (vf : Nat) (q : Nat)
  /-- `TENURE_LIMIT_EXPIRY`, R390. -/
  | tenureLimitExpiry (vf : Nat) (q : Nat)
  /-- `QUEUE_MAP`, R375. -/
  | queueMap (vf : Nat) (q : Nat)
  /-- `QUEUE_UNMAP`, R388. -/
  | queueUnmap (vf : Nat) (q : Nat)
  /-- `QUEUE_RESET`, R387. -/
  | queueReset (vf : Nat) (q : Nat)
  /-- `TOKEN_LINK_BIND`, R385. -/
  | tokenLinkBind (link : Nat) (pvf : Nat) (pq : Nat) (cvf : Nat) (cq : Nat)
  /-- `WATCHDOG_HANG`, R391. -/
  | watchdogHang (part : Nat)
  /-- `PARTITION_RESET`, R407. -/
  | partitionReset (part : Nat)
  /-- `RGCTL_RAIL`, R394. -/
  | rgctlRail (reg : Nat) (val : Nat)
  /-- `RGCTL_CLK`, R394. -/
  | rgctlClk (reg : Nat) (val : Nat)
  /-- `RGCTL_RST`, R394. -/
  | rgctlRst (reg : Nat) (val : Nat)
  /-- `RGCTL_GATE`, R394. -/
  | rgctlGate (reg : Nat) (val : Nat)
  /-- `GATE_CLOSED`, R407. -/
  | gateClosed (reg : Nat) (lost : List Nat)
  /-- `SCRUB_COMPLETE`, R397. -/
  | scrubComplete (reg : Nat) (lost : List Nat) (lasting : Nat)
  /-- `REGION_ASSIGN`, R403. -/
  | regionAssign (reg : Nat) (part : Nat)
  /-- `REGION_RELEASE`, R395. -/
  | regionRelease (reg : Nat)
  /-- `WINDOW_SET`, R403. -/
  | windowSet (a : Nat) (b : Nat)
  /-- `WINDOW_CLEAR`, R404. -/
  | windowClear (a : Nat) (b : Nat)
  /-- `CONTEXT_CREATE`, R412. -/
  | contextCreate (vf : Nat) (pasid : Nat) (part : Nat) (base : Nat) (len : Nat)
  /-- `CONTEXT_ENABLE`, R413. -/
  | contextEnable (vf : Nat) (pasid : Nat)
  /-- `CONTEXT_DESTROY`, R413. -/
  | contextDestroy (vf : Nat) (pasid : Nat)
  /-- `FENCE_LIFT`, R413. -/
  | fenceLift (vf : Nat) (pasid : Nat)
  /-- `HOST_GRANT_WRITE`, R466. -/
  | hostGrantWrite (vf : Nat) (pasid : Nat) (base : Nat) (len : Nat) (perms : Nat) (off : Nat)
  /-- `LOCK_INTERFACE_REQUEST`, R419. -/
  | lockInterfaceRequest (vf : Nat)
  /-- `START_INTERFACE_REQUEST`, R419. -/
  | startInterfaceRequest (vf : Nat)
  /-- `STOP_INTERFACE_REQUEST`, R419. -/
  | stopInterfaceRequest (vf : Nat)
  /-- `GET_DEVICE_INTERFACE_STATE`, R419. -/
  | getDeviceInterfaceState (vf : Nat)
  /-- `GET_DEVICE_INTERFACE_REPORT`, R419. -/
  | getDeviceInterfaceReport (vf : Nat)
  /-- `SPDM_GET_VERSION`, R456. -/
  | spdmGetVersion
  /-- `SPDM_GET_CAPABILITIES`, R456. -/
  | spdmGetCapabilities
  /-- `SPDM_NEGOTIATE_ALGORITHMS`, R456. -/
  | spdmNegotiateAlgorithms (hash : Nat) (sig : Nat)
  /-- `SPDM_GET_DIGESTS`, R456. -/
  | spdmGetDigests
  /-- `SPDM_GET_CERTIFICATE`, R456. -/
  | spdmGetCertificate
  /-- `SPDM_CHALLENGE`, R456. -/
  | spdmChallenge (nonce : Nat)
  /-- `SPDM_GET_MEASUREMENTS`, R456. -/
  | spdmGetMeasurements (idx : Nat)
  /-- `HOST_REQUEST`, R438. -/
  | hostRequest (port : Nat) (op : Nat) (addr : Nat) (val : Nat) (size : Nat)
  /-- `UCIE_PORT_DOWN`, R437. -/
  | uciePortDown (port : Nat)
  /-- `HBHOST_WRITE`, R440. -/
  | hbhostWrite (val : Nat)
  /-- `HBCTL_ENABLE`, R440. -/
  | hbctlEnable (val : Nat)
  /-- `HBCTL_RESUME`, R441. -/
  | hbctlResume
  /-- `FIRMWARE_DEVICE_BEAT`, R440. -/
  | firmwareDeviceBeat
  /-- `HEARTBEAT_PERIOD`, R440. -/
  | heartbeatPeriod
  /-- `PCIE_INBOUND_MAILBOX`, R443. -/
  | pcieInboundMailbox (op : Nat) (off : Nat) (val : Nat)
  /-- `PCIE_INBOUND_UNSUPPORTED`, R443. -/
  | pcieInboundUnsupported
  /-- `PCIE_ERROR_COMPLETION`, R444. -/
  | pcieErrorCompletion (n : Nat)
  /-- `PCIE_COMPLETION_TIMEOUT`, R444. -/
  | pcieCompletionTimeout (n : Nat)
  /-- `PCIE_LINK_DOWN`, R444. -/
  | pcieLinkDown
  /-- `APERTURE_PROGRAM`, R444. -/
  | apertureProgram (idx : Nat) (base : Nat) (size : Nat) (bus : Nat)
  /-- `LINK_ENABLE`, R445. -/
  | linkEnable
  /-- `LINK_TRAINED`, R445. -/
  | linkTrained (lanes : Nat) (auth : Nat) (skew : Nat) (pid : Nat)
  /-- `LINK_TRAINING_FAIL`, R445. -/
  | linkTrainingFail
  /-- `LANE_DROP`, R445. -/
  | laneDrop (lanes : Nat)
  /-- `LINK_RETRAIN`, R445. -/
  | linkRetrain
  /-- `PARTNER_BEAT_MISS`, R445. -/
  | partnerBeatMiss
  /-- `TIME_OFFSET_EXCEEDED`, R445. -/
  | timeOffsetExceeded
  /-- `LINK_DOWN`, R445. -/
  | linkDown
  /-- `FLIT_RECEIVE`, R447. -/
  | flitReceive (flit : Nat)
  /-- `FLIT_NAK`, R447. -/
  | flitNak (ack : Nat)
  /-- `FLIT_ACK_TIMEOUT`, R447. -/
  | flitAckTimeout
  /-- `PTP_SYNC`, R448. -/
  | ptpSync (time : Nat)
  /-- `PACKAGE_RESET`, R454. -/
  | packageReset (pass : Nat)
  /-- `ROM_RECOVERY_IMAGE`, R455. -/
  | romRecoveryImage (img : Nat) (len : Nat)
  /-- `ROLLBACK_FUSE_SET`, R455. -/
  | rollbackFuseSet (n : Nat)
  /-- `FIRMWARE_BEAT_MISS`, R452. -/
  | firmwareBeatMiss (die : Nat) (pass : Nat)
  /-- `PWRLIM_WRITE`, R453. -/
  | pwrlimWrite (val : Nat)
  /-- `POWER_PACING_TICK`, R461. -/
  | powerPacingTick (pwr : Nat)
  /-- `SRAM_SINGLE_BIT_ERROR`, R458. -/
  | sramSingleBitError (reg : Nat)
  /-- `SRAM_DOUBLE_BIT_ERROR`, R458. -/
  | sramDoubleBitError (reg : Nat) (clean : Nat)
  /-- `LINK_CRC_FAILURE`, R458. -/
  | linkCrcFailure (reg : Nat) (clean : Nat)
  /-- `FATAL_ERROR`, R459. -/
  | fatalError (cause : Nat)
  /-- `ILLEGAL_ENCODING`, R88. -/
  | illegalEncoding (word : BitVec 32)
  /-- `FETCH_CHECK_FAILURE`, R148. -/
  | fetchCheckFailure (cause : Nat) (val : Nat)
  /-- `POSTED_STORE_PERFORMED`, R150. -/
  | postedStorePerformed (n : Nat)
  /-- `HOST_SNOOP_RESPONSE`, R438. -/
  | hostSnoopResponse (sector : Nat)
  /-- `UCIE_PORT_UP`, R437. -/
  | uciePortUp (port : Nat)
  /-- `PCIE_LINK_UP`, R443. -/
  | pcieLinkUp
  /-- `MESH_INTERRUPT_MESSAGE`, R434. -/
  | meshInterruptMessage (core : Nat)
  /-- `LOSS_LIST_REGISTRATION`, R405. -/
  | lossListRegistration (addr : Nat) (n : Nat) (vec : Nat)
  /-- `PARTITION_JOIN`, R446. -/
  | partitionJoin (part : Nat) (base : Nat) (l3 : Nat)
  /-- `QTAB_REGISTRATION`, R373. -/
  | qtabRegistration (vf : Nat) (addr : Nat)
  deriving DecidableEq, Repr

end Sys2Proof
end

