-- ==== Sys2Proof/Machine/State.lean ====
section
/-! DEFINITION. The state of one package (05 to 22): strands, cores, clusters, the ridge die and the objects of the
firmware, as plain data. A table of objects is a list of number and record, in rising order of the number; an absent
record stands for its reset value. -/
namespace Sys2Proof.Machine

/-! ### Values -/

/-- R90: a 128-bit value with its tag. -/
structure TV where
  bits : BitVec 128
  tag : Bool
  deriving DecidableEq, Repr

/-- R93: the reset value of a register. -/
abbrev TV.zero : TV := ⟨0#128, false⟩

/-- R160: a shape record, bytes 0 upward from bit 0, with the tag of its capability. -/
structure Shape where
  bits : BitVec 512
  tag : Bool
  deriving DecidableEq, Repr

/-- R159: the zero record. -/
abbrev Shape.zero : Shape := ⟨0#512, false⟩

/-! ### Strands -/

/-- R258: what a queue register is bound to. -/
inductive BindKind where
  | channel | command | status
  deriving DecidableEq, Repr

/-- R253, R254, R269: the binding of one queue register. -/
structure QBind where
  kind : BindKind
  /-- home core of a channel; cluster of a command port; core of a status port -/
  home : Nat
  entry : Nat
  /-- R254: a pop end -/
  pop : Bool
  /-- R253: parts of the current slot already moved -/
  pos : Nat
  /-- R253: the slot reserved or taken, while `pos` is not 0 -/
  slot : Nat
  /-- R270: part 0 of a command -/
  part0 : TV
  /-- R275: commands accepted since the binding -/
  count : Nat
  deriving DecidableEq, Repr

/-- R65: a fixed-latency write not yet available. -/
structure Pending where
  reg : Nat
  avail : Nat
  val : TV
  deriving DecidableEq, Repr

/-- R135: a `rep` in progress. -/
structure RepState where
  /-- address of the first body word -/
  start : Nat
  n : Nat
  mask : Nat
  stride : Nat
  count : Nat
  pass : Nat
  deriving DecidableEq, Repr

/-- R188: a `vloop` whose body is issuing. -/
structure LoopState where
  n : Nat
  count : Nat
  dim : Nat
  mask : Nat
  issued : Nat
  deriving DecidableEq, Repr

/-- What an instruction that has not issued waits for (R67, R125, R127). -/
inductive WaitKind where
  /-- a blocking wait of R127 -/
  | blocking
  /-- any other wait in the slot -/
  | inSlot
  /-- `sync` whose strand has still to complete its entries and release (R175, R285) -/
  | syncFirst (level : Nat)
  /-- `sync` at a level (R307) -/
  | sync (level : Nat)
  /-- `xstart` at a level (R314) -/
  | xstart (level : Nat)
  /-- `barrc` whose strand has still to release (R329) -/
  | barrcFirst (code : Nat)
  /-- `barrc` with its code, the wire set in bits 18 and 19 (R329) -/
  | barrc (code : Nat)
  /-- `barw` on a counter (R337) -/
  | barw (counter gen : Nat) (blocks : Bool)
  /-- `mtxlock` of a mutex (R339) -/
  | mtxlock (mutex : Nat) (blocks : Bool)
  /-- `evwait`, with the lines of its mask (R332) -/
  | evwait (mask : Nat) (blocks : Bool)
  /-- `waitv` on a location: address, bytes, expected value (R300) -/
  | waitv (addr size expect : Nat) (blocks : Bool)
  /-- `fence.win` (R294) -/
  | fenceWin
  /-- an anvil instruction or `mwait` whose core has asked for the lease (R195, R204) -/
  | lease
  /-- `mflags`: the tile commands with numbers below `upto` have still to complete; the flags that it clears (R210) -/
  | mflags (upto : Nat) (mask : Word)
  /-- a pop of a queue register whose channel is empty (R63) -/
  | pop (q : Nat)
  deriving DecidableEq, Repr

/-- A wait in progress, with the cycle at which it began, the cycle of the latest attempt to issue, and the cycles since
its beginning that R327 does not count. -/
structure Wait where
  kind : WaitKind
  since : Nat
  tried : Nat
  idle : Nat
  deriving DecidableEq, Repr

/-- R63, R253: a push that found its channel full. -/
structure PendPush where
  q : Nat
  val : TV
  /-- the whole slot of a `chput`; empty for a part -/
  slot : List Byte
  /-- R68: the stall count of the instruction, counted from the cycle at which it unblocks -/
  sc : Nat
  /-- R253: its place in the order of arrival at the home port; none while an earlier packet of its core is still on its
  way there (R17), or an access before it is still to be performed (R257) -/
  arrival : Option Nat
  deriving DecidableEq, Repr

/-- A strand in a slot (R120, R122 to R124). -/
structure Strand where
  /-- g1 to g55; an absent register holds untagged zero -/
  g : List (Nat × TV)
  /-- bound queue registers (R254) -/
  q : List (Nat × QBind)
  /-- s0 to s15 (R159) -/
  sh : List (Nat × Shape)
  /-- h0 to h7 (R235) -/
  h : List (Nat × BitVec 8192)
  /-- y0 and y1, counter i in bits 8i to 8i+7 (R235) -/
  y : List (Nat × BitVec 65536)
  pcc : TV
  chk : Bool
  rm : BitVec 3
  sr : BitVec 5
  ovl : Bool
  trapPc : Word
  trapCause : BitVec 8
  trapVal : Word
  sid : BitVec 32
  gid : Nat
  pri : Nat
  /-- the priority ceiling of the stage (R360) -/
  ceiling : Nat
  /-- address of the strand's record (R120) -/
  record : Nat
  /-- R65: fixed-latency results not yet available -/
  pend : List Pending
  /-- R55: flags of fixed-latency results not yet available: the cycle of each, and its flags -/
  pendFl : List (Nat × BitVec 5)
  /-- R66: registers whose interlocked result is outstanding, once per producer; shape register n is 64 + n -/
  busy : List Nat
  /-- R68: the earliest cycle of the next issue -/
  nextIssue : Nat
  wait : Option Wait
  /-- the result that a completed wait delivers: a superstep or episode count, or 0 for a lock or an opened exchange -/
  granted : Option Word
  rep : Option RepState
  loop : Option LoopState
  /-- R173: the recorded failure of the sequencer, cause and address -/
  seqFail : Option (Nat × Nat)
  /-- R173: the registers that the failed entry was to write -/
  lost : List Nat
  pendPush : Option PendPush
  /-- R63: values popped by an instruction that still waits for a later pop, in field order -/
  popped : List TV
  /-- R294: the latest window of the strand's fabric writes -/
  fabWindow : Option Nat
  deriving DecidableEq, Repr

/-! ### The vector sequencer -/

/-- The format pairs of R37, in the order of R81. -/
inductive Pair where
  | f4f4 | f6f6 | f6f4 | e4e4 | e5e5 | i8i8 | i8t2 | bfbf
  deriving DecidableEq, Repr

/-- What a sequencer entry does (R178 to R187, R239, R247). -/
inductive VOp where
  | vadd | vsub | vmul | vfma | vmin | vmax | vabs | vneg
  | vrcp | vrsqrt | vexp2 | vlog2 | vtanh | vsig
  | vaddi | vsubi | vmuli | vand | vor | vxor | vshl | vshr | vsra | vsat
  | vcmpEq | vcmpLt | vcmpLe | vsel | vfill | vcopy | viota | vclamp
  | vrsum | vrmax | vrmin | vrargmax | vrsumsq
  | vcvt | vquant | vdequant | vgath | vscat | vscatAdd
  | vdot (p : Pair) (accumulate : Bool)
  | hbind | hperm | hbund | hthr | hclr | hld | hst | hmv | hham | hpopc | hnot | hgetb
  | hsrch | hsrchk | hsrcht
  deriving DecidableEq, Repr

/-- R169: one entry of a sequencer. -/
structure VEntry where
  /-- its own number; accesses of lower numbers are older (R172) -/
  id : Nat
  op : VOp
  /-- the slot of the strand that issued it -/
  slot : Nat
  /-- register numbers of the shapes, and their copies at issue -/
  na : Nat
  nb : Nat
  nd : Nat
  sa : Shape
  sb : Shape
  sd : Shape
  /-- the g operand, read or popped at issue -/
  g : TV
  /-- the g field, where the entry writes a g register or pushes a q register -/
  gd : Nat
  /-- R257: the q registers that the entry pops or pushes -/
  qs : List Nat
  k : Bool
  o : Bool
  /-- fields of format H -/
  mode : Nat
  tie : Nat
  hd : Nat
  ha : Nat
  hb : Nat
  y : Nat
  rm : BitVec 3
  chk : Bool
  /-- R46: the generator state from which the reserved draws follow -/
  draws : BitVec 32
  /-- draws of one pass -/
  perPass : Nat
  /-- R188: passes in all, dimension, mask of the loop, its place in the body, members of the loop; one pass outside a
  loop -/
  passes : Nat
  dim : Nat
  mask : Nat
  li : Nat
  members : Nat
  /-- R188: the loop still waits for its last body instruction -/
  held : Bool
  pass : Nat
  /-- next unit of work of the pass: element, block or row in ascending order (R171) -/
  next : Nat
  fl : BitVec 5
  /-- elements popped from channel shapes for this pass (R164) -/
  popA : List Byte
  popB : List Byte
  /-- elements to push to a channel shape, not yet delivered -/
  pushD : List Byte
  /-- running results of a search or a row reduction: the g result -/
  res : List (Nat × Nat)
  started : Bool
  /-- R347: elements of a gather or scatter that wait on a page -/
  faulted : List Nat
  /-- the cycle from which an entry that waits is tried again -/
  retry : Nat
  /-- R173: the failure met, not yet recorded -/
  bad : Option (Nat × Nat)
  /-- R188: a `vfence` holds back the strand's later scalar accesses until this entry has completed -/
  fenced : Bool
  deriving DecidableEq, Repr

/-! ### Channels -/

/-- R251 to R253: an open channel entry. -/
structure Chan where
  base : Nat
  size : Nat
  cap : Nat
  head : Nat
  tail : Nat
  /-- the free count E -/
  free : Nat
  /-- slots filled and not yet taken -/
  filled : List Nat
  /-- slots reserved and not yet filled -/
  reserved : List Nat
  ends : Nat
  deriving DecidableEq, Repr

/-- R150: who sent a posted request, and by which instruction. -/
structure Sender where
  core : Nat
  slot : Nat
  sid : BitVec 32
  gid : Nat
  pc : Nat
  /-- address of the strand's record -/
  record : Nat
  deriving DecidableEq, Repr

/-- R270, R271: an accepted copy command. -/
structure CopyCmd where
  id : Nat
  /-- the pushing strand -/
  src : Sender
  /-- the function and PASID of its context when it was pushed -/
  ids : Nat × Nat
  remote : TV
  word1 : BitVec 128
  seq : Nat
  /-- its checks have passed and its destination lines are the engine's; the locations of its destination rows -/
  started : Bool
  rowsAt : List (Nat × List (Nat × Nat))
  /-- next row, bytes of it that have been sent over the link, bytes performed in all, flags of fadd -/
  row : Nat
  sent : Nat
  done : Nat
  ff : BitVec 5
  /-- the cycle from which a command that waits is tried again -/
  retry : Nat
  /-- its writes are performed; the status is still to be posted -/
  status : Option (Nat × Nat)
  /-- R273: the segment slot is still to be placed -/
  seg : Bool
  /-- R449, R450: the aperture offset of its remote side, once that has been found to lie on a fabric page -/
  fabric : Option Nat
  deriving DecidableEq, Repr

/-- R267, R268: a message waiting in an inbox: the whole slot's first 16 bytes, its sender, reported to when the entry
is not open, and a[63:0] of its instruction. -/
structure Message where
  entry : Nat
  val : BitVec 128
  src : Sender
  addr : Word
  /-- the copy command whose segment it is (R273) -/
  engine : Option CopyCmd
  /-- R253: its place in the order of arrival at the port -/
  arrival : Nat
  deriving DecidableEq, Repr

/-- R277: an arrival kept while its core is frozen. -/
inductive GutterItem where
  /-- part `pos` of a slot pushed through a binding; once its first part is replayed, the slot it goes to -/
  | part (entry : Nat) (src : Sender) (q pos : Nat) (tgt : Option Nat) (val : BitVec 128)
  | whole (entry : Nat) (src : Sender) (q : Nat) (bytes : List Byte)
  | message (m : Message)
  | status (val : BitVec 128)
  deriving DecidableEq, Repr

/-- What a packet of the dynamic plane carries that no counter step answers. -/
inductive FlightKind where
  /-- a message for a channel entry (R267) -/
  | message (entry : Nat) (val : BitVec 128)
  /-- an event for an inbox (R334) -/
  | event (line : Nat) (payload : Word)
  /-- an arrival message of the planisher (R229), which waits at the planisher while the inbox is full (R322) -/
  | arrival (line : Nat) (payload : Word)
  deriving DecidableEq, Repr

/-- R267, R334: a posted message or event between its core and its destination; `addr` is a[63:0] of its
instruction. -/
structure Flight where
  src : Sender
  dst : Nat
  kind : FlightKind
  addr : Word
  deriving DecidableEq, Repr

/-! ### Clusters -/

/-- R199: the states of a lease; *saved* stands in the save set. -/
inductive LeaseState where
  | free | requested | granted | expiring | draining | revoked
  deriving DecidableEq, Repr

/-- R199, R205 to R208: a cluster's lease. -/
structure Lease where
  st : LeaseState
  /-- cluster slot of the holder -/
  holder : Option Nat
  /-- slot from which the next grant counts (R198) -/
  last : Nat
  /-- bit n: slot n has a pending request -/
  reqs : BitVec 8
  ncmd : Nat
  ncyc : Nat
  zs : Bool
  /-- the operands of the latest `mmap` (R206) -/
  map : Option (Word × Word)
  /-- the epilogue descriptor, and whether its store window is authorised (R207, R224) -/
  epi : Option (BitVec 512)
  window : Bool
  /-- the state a revoked lease returns to -/
  left : LeaseState
  deriving DecidableEq, Repr

/-- R199, R397: a lease after the region enters *ready*; slot 7 counts as the previous holder (R198). -/
abbrev Lease.init : Lease := ⟨.free, none, 7, 0#8, 0, 0, false, none, none, false, .free⟩

/-- R219: the operand codes of one K block: 128 rows of 32 codes for each operand, and the scale codes. -/
structure TileBlock where
  a : List Nat
  b : List Nat
  sa : List Nat
  sb : List Nat
  /-- the sectors pinned for it -/
  sectors : List Nat
  deriving DecidableEq, Repr

inductive TileKind where
  | mtile (p : Pair) (overwrite : Bool)
  | drain
  | clear
  deriving DecidableEq, Repr

/-- R196, R215, R228: an accepted tile command. -/
structure TileCmd where
  id : Nat
  kind : TileKind
  /-- the buffer; for a clear the two bits of its operand -/
  buf : Nat
  /-- the issuing strand -/
  src : Sender
  sa : Shape
  sb : Shape
  k : Nat
  map0 : Word
  map1 : Word
  epi : BitVec 512
  /-- blocks fetched, and blocks accumulated -/
  fetched : Nat
  done : Nat
  pinned : List TileBlock
  /-- rows written, the flags read at the start, the bias values, the flags by destination 0 to 8 -/
  started : Bool
  row : Nat
  tf : BitVec 3
  bias : List Nat
  ef : List (Nat × BitVec 5)
  /-- R231: the location of each row in memory, taken when the drain starts -/
  rowsAt : List (Nat × List (Nat × Nat))
  /-- the cycle from which a command that waits is tried again, and the failure met (R221) -/
  retry : Nat
  bad : Option (Nat × Nat)
  deriving DecidableEq, Repr

/-- R324: a barrier counter. -/
structure BarCounter where
  target : Nat
  arrivals : Nat
  gen : BitVec 16
  deriving DecidableEq, Repr

/-- R324: a mutex: the owner (gid, sid) while it is held. -/
structure Mutex where
  owner : Option (Nat × Nat)
  /-- strands that wait for it, in order of arrival: core and slot -/
  queue : List (Nat × Nat)
  deriving DecidableEq, Repr

/-- R322: an event in an inbox. -/
structure EvMsg where
  line : Nat
  payload : Word
  deriving DecidableEq, Repr

/-! ### Translation -/

/-- R343, R344: one ATC entry; `size` is the code of R357, `page` the first byte of the page. -/
structure AtcEntry where
  vf : Nat
  pasid : Nat
  size : Nat
  page : Nat
  phys : Nat
  rd : Bool
  wr : Bool
  noncoh : Bool
  fabric : Bool
  deriving DecidableEq, Repr

/-- R347: an access that a translation holds: a strand's outstanding access, or an engine's work, which is tried again
from its translation. -/
inductive Waiter where
  | access (n : Nat)
  /-- a sequencer entry, a tile command and a copy command, by their numbers -/
  | sequencer (id : Nat)
  | tile (id : Nat)
  | copy (id : Nat)
  | queue (vf q : Nat)
  | kernel (k : Nat)
  | prefetch (request : Bool)
  /-- an instruction that waits in its slot for its access -/
  | strand (core slot : Nat) (sid : BitVec 32)
  deriving DecidableEq, Repr

/-- R345, R347: an access that waits on a page: who waits, the address, whether it writes, its cluster. -/
structure PageWait where
  who : Waiter
  addr : Nat
  write : Bool
  cl : Nat
  deriving DecidableEq, Repr

/-- R348: the key of a fault. -/
structure FaultKey where
  vf : Nat
  pasid : Nat
  page : Nat
  write : Bool
  deriving DecidableEq, Repr

/-- R348: a fault-buffer entry, with the accesses that wait on it and its queue index once queued (R349). -/
structure FaultEntry where
  key : FaultKey
  waiters : List PageWait
  queued : Bool
  deriving DecidableEq, Repr

/-- R345: the state of a page towards a die; *unknown* and *mapped* follow from the caches, *invalidated* from the
invalidations under way. -/
inductive PageState where
  | translating | notPresent | requested | failed
  deriving DecidableEq, Repr

/-- R345: a 4 KiB page, by number, with a state of its own towards a die, and the accesses that wait on its translation, or
whose failure is still to be reported. -/
structure PageRec where
  die : Nat
  vf : Nat
  pasid : Nat
  page : Nat
  st : PageState
  waiters : List PageWait
  deriving DecidableEq, Repr

/-- R351, R358: an invalidation not yet completed: what was asked for, the entries removed with the dies on which they
stood, the numbers of the accesses, tile commands and copy commands that had used one, and the strand whose `atcinv` waits
for it, by core, slot and identity; none for a request of the host. -/
structure Inval where
  vf : Nat
  pasid : Nat
  va : Nat
  size : Nat
  gone : List (Nat × AtcEntry)
  uses : List Nat
  owner : Option (Nat × Nat × BitVec 32)
  deriving DecidableEq, Repr

/-! ### Outstanding accesses of strands -/

/-- R297, R298: the operation of an atomic. -/
inductive AmoOp where
  | swap | add | and | or | xor | min | max | minn | maxn | fadd | fmin | fmax
  deriving DecidableEq, Repr

/-- What an outstanding access does when it is performed. -/
inductive AccessKind where
  /-- a load of `size` bytes into register field `d`, sign-extended or not -/
  | load (size : Nat) (signed : Bool) (d : Nat)
  | store (size : Nat) (val : BitVec 128)
  | amo (op : AmoOp) (size : Nat) (val : BitVec 64) (d : Nat)
  | red (op : AmoOp) (size : Nat) (val : BitVec 64)
  | cas (size : Nat) (expect new : BitVec 128) (d : Nat)
  /-- a wait until `size` bytes differ from a value, their value into field `d` (R300, R347) -/
  | wait (size expect d : Nat)
  /-- a prefetch of a translation (R356) -/
  | prefetch
  /-- a load of a shape record into s register `d`, and a store of one (R167) -/
  | shpLoad (d : Nat)
  | shpStore (val : BitVec 512)
  deriving DecidableEq, Repr

/-- R345, R347, R292: where an outstanding access stands. -/
inductive AccessPhase where
  /-- waits on a translation -/
  | translating
  /-- in a fault buffer, or parked after a drop (R348) -/
  | faulted
  /-- translated; still to be performed -/
  | ready
  /-- translated to a non-coherent page; an earlier request of its strand has still to leave (R292) -/
  | queued
  /-- sent to the PCI Express endpoint (R292) -/
  | sent
  /-- refused with a cause; the refusal is on its way back (R150) -/
  | refused (cause : Nat)
  deriving DecidableEq, Repr

structure Access where
  core : Nat
  slot : Nat
  sid : BitVec 32
  gid : Nat
  pc : Nat
  record : Nat
  vf : Nat
  pasid : Nat
  addr : Nat
  kind : AccessKind
  /-- an acquire: later accesses of the strand wait for it (R285) -/
  acq : Bool
  scope : Nat
  phase : AccessPhase
  /-- its location once translated -/
  phys : Nat
  /-- the cycle in which it was sent to the endpoint -/
  sentAt : Nat
  deriving DecidableEq, Repr

/-- R292, R444: a request of an engine, or of an instruction that waits in its slot, sent to the endpoint: who waits for it,
its location and bytes, the cycle in which it was sent, and its answer once there is one: data, or the cause of its
failure. -/
structure PcieReq where
  who : Waiter
  loc : Nat
  size : Nat
  sentAt : Nat
  answer : Option (Option Nat)
  deriving DecidableEq, Repr

/-- R320: a transfer held by an exchange unit: beats sent or received one by one. -/
structure Transfer where
  put : Bool
  /-- offset in the core's own scratchpad -/
  off : Nat
  n : Nat
  /-- offset of the first beat from t0 -/
  start : Nat
  partner : Nat
  moved : Nat
  deriving DecidableEq, Repr

/-- R314, R315: an open exchange phase of a core, from its `xstart` to its `xdone`. -/
structure Phase where
  level : Nat
  t0 : Nat
  slot : Nat
  /-- R317: the monitor as latched -/
  mon : BitVec 2
  deriving DecidableEq, Repr

/-- A core (05, 06, 07, 12, 14, 20). -/
structure Core where
  /-- the occupied slots (R125) -/
  slots : List (Nat × Strand)
  /-- the slot served last (R125) -/
  last : Nat
  /-- the cycle of the latest issue, plus one (R125) -/
  issued : Nat
  trapVec : Word
  /-- R147: the boundary that accesses obey, and the one that fetches follow (R149) -/
  xobound : Word
  fetchBound : Word
  spinBudget : Word
  barTimeout : Word
  xmon : Word
  memberReg : Word
  srSeed : BitVec 32
  tieSeed : BitVec 64
  /-- the package cycle at which the region entered *ready* (R428) -/
  cycleBase : Nat
  retired : Word
  seq : List VEntry
  chans : List (Nat × Chan)
  inbox : List Message
  gutter : List GutterItem
  /-- R129: pre-empted -/
  frozen : Bool
  /-- R220, R314, R418: a pre-emption that waits for the phase, the switch or the holder's tile commands to end -/
  preempting : Bool
  /-- R334: events held at their sender, their destinations' inboxes being full, in the order in which they were met -/
  held : List Flight
  phase : Option Phase
  transfers : List Transfer
  /-- R329: episode counts of the wire sets -/
  episodes : List (Nat × BitVec 16)
  /-- R434: a firmware core that `halt` stopped -/
  halted : Bool
  deriving DecidableEq, Repr

/-- R397 step 6, R428: a core when its region enters *ready*. -/
abbrev Core.init : Core :=
  { slots := [], last := 3, issued := 0, trapVec := 0#64, xobound := 0#64, fetchBound := 0#64, spinBudget := 0#64,
    barTimeout := 2048#64, xmon := 0#64, memberReg := 0#64, srSeed := 1#32, tieSeed := 1#64, cycleBase := 0,
    retired := 0#64, seq := [], chans := [], inbox := [], gutter := [], frozen := false, preempting := false, held := [], phase := none,
    transfers := [], episodes := [], halted := false }

/-- A cluster (09, 10, 12, 15, 16, 17). -/
structure Cluster where
  lease : Lease
  /-- R200: words (i, j) of the accumulator buffers at 128 i + j; an absent word is 0 -/
  acc0 : List (Nat × BitVec 32)
  acc1 : List (Nat × BitVec 32)
  /-- R201: invalid, overflow, saturation -/
  f0 : BitVec 3
  f1 : BitVec 3
  cmds : List TileCmd
  /-- R221: a recorded failure, taken by the core's next anvil instruction: cause and address by core -/
  tileFail : List (Nat × (Nat × Nat))
  counters : List (Nat × BarCounter)
  mutexes : List (Nat × Mutex)
  /-- R322: event inboxes by core slot -/
  inboxes : List (Nat × List EvMsg)
  copies : List CopyCmd
  /-- R231, R290: sectors that the cluster's planisher or copy engine owns -/
  owned : List Nat
  /-- R269: status words waiting at the status port of each core slot -/
  status : List (Nat × List (BitVec 128))
  /-- R403: clusters named by the permission table -/
  perm : List Nat
  atc : List AtcEntry
  faults : List FaultEntry
  /-- R348: accesses dropped, in the order parked -/
  parked : List (FaultKey × PageWait)
  /-- R362, R365: the group whose stage holds the cluster; the resident image: kernel identity, stage, context -/
  holder : Option Nat
  resident : Option (Nat × Nat × Nat)
  /-- R364, R369: the image has not been copied yet, so the cores take no strand -/
  loading : Bool
  deriving DecidableEq, Repr

/-- R397: a cluster when its region enters *ready*. -/
abbrev Cluster.init : Cluster :=
  { lease := Lease.init, acc0 := [], acc1 := [], f0 := 0#3, f1 := 0#3, cmds := [], tileFail := [], counters := [],
    mutexes := [], inboxes := [], copies := [], owned := [], status := [], perm := [], atc := [], faults := [], parked := [],
    holder := none, resident := none, loading := false }

/-! ### Groups and kernels -/

/-- R311: the states of a domain. -/
inductive DomState where
  | computing | exchanging | boundary | parked
  deriving DecidableEq, Repr

/-- R312: a beat on the scheduled plane. -/
structure Beat where
  src : Nat
  dst : Nat
  sent : Nat
  data : BitVec 256
  bad : Bool
  deriving DecidableEq, Repr

/-- R304, R311: a domain of a group. -/
structure Domain where
  level : Nat
  value : Nat
  st : DomState
  counter : Word
  t0 : Nat
  /-- the next offset to be worked, beats in flight, the first event of the monitor (R317) -/
  offset : Nat
  beats : List Beat
  event : Option Word
  /-- R316: the cores whose `xdone` has completed, while the domain is *exchanging* -/
  done : List Nat
  deriving DecidableEq, Repr

/-- R126, R304: the group of a running stage. -/
structure Group where
  gid : Nat
  part : Nat
  kernel : Nat
  stage : Nat
  /-- records waiting, in the order pushed, with their priorities (R126) -/
  pool : List (Nat × Nat)
  live : Nat
  limit : Nat
  nextId : Nat
  cores : List Nat
  /-- the stage's code capability (R364) and priority ceiling (R360) -/
  code : TV
  ceiling : Nat
  doms : List Domain
  /-- R127, R122: waits registered by suspended strands: record, core, what releases it -/
  registered : List (Nat × Nat × WaitKind)
  /-- R68: the stall counts of `yield` and `suspend`: a record and the earliest cycle of its strand's next issue -/
  delays : List (Nat × Nat)
  /-- R360: the location of the pool's memory, and the pointers pushed so far -/
  poolAt : Nat
  pushes : Nat
  /-- R29: `PARTID` as the group's strands read it -/
  partId : Word
  /-- R294: the latest windows of fabric writes of strands that hold no slot: a record and a window -/
  windows : List (Nat × Nat)
  deriving DecidableEq, Repr

inductive KernelState where
  | declared | loading | running | draining | complete | failed
  deriving DecidableEq, Repr

/-- R360, R362: a stage of a kernel: its descriptor, its clusters in ascending order, its group. -/
structure Stage where
  desc : BitVec 512
  clusters : List Nat
  group : Option Nat
  deriving DecidableEq, Repr

/-- R359, R366: a kernel, with the launch that started it (R381). -/
structure Kernel where
  st : KernelState
  vf : Nat
  q : Nat
  pasid : Nat
  part : Nat
  desc : BitVec 512
  descAddr : Nat
  stages : List Stage
  arg : Word
  argLen : Nat
  comp : Nat
  stop : Bool
  ver : Nat
  /-- R381: the outcome: cause, stage where it arose, word 1 -/
  cause : Nat
  causeStage : Option Nat
  value : Word
  /-- R366, R367: its work has been performed; it is *complete* once its completion record is written -/
  drained : Bool
  /-- R367, R476: its completion record has been written -/
  written : Bool
  deriving DecidableEq, Repr

/-! ### Queues -/

/-- R388. -/
inductive QueueState where
  | unmapped | mapped | active | waiting | preempted | faulted
  deriving DecidableEq, Repr

/-- R374, R388: a queue record as the scheduler holds it. -/
structure Queue where
  word0 : Word
  /-- software fields of word 1: `lsz`, `pri`, `pre`, `pasid` -/
  lsz : Nat
  pri : Nat
  pre : Bool
  pasid : Nat
  st : QueueState
  err : Nat
  ridx : Nat
  widx : Nat
  rfence : Nat
  links : List (Nat × (Nat × Bool))
  nrpl : Nat
  /-- R386: the indirect levels, outermost first: address of the next packet and packets left -/
  levels : List (Nat × Nat)
  /-- R390: the hardware slot it holds, the cycle since which, and whether its quantum has run out -/
  slot : Option Nat
  since : Nat
  quantumOut : Bool
  /-- R377: a notify waits for a slot -/
  pendn : Bool
  /-- R391: the cycle of the last completed fence-signal, or of entering *active* -/
  fenceAt : Nat
  /-- R389: the cycle at which its quantum began -/
  turn : Nat
  /-- R382: bytes of the copy at its head that have been performed, and its packet once there are some -/
  copied : Nat
  word : BitVec 512
  /-- R387, R388: begun copies that go on though the queue has faulted or lost its slot: bytes performed, packet -/
  rest : List (Nat × BitVec 512)
  deriving DecidableEq, Repr

/-- R385, R393: a token link. -/
structure TokenLink where
  producer : Nat × Nat
  consumer : Nat × Nat
  c : Int
  p : Int
  t : Int
  pf : Int
  tf : Int
  deriving DecidableEq, Repr

/-- R419. -/
inductive TdispState where
  | unlocked | locked | run | error
  deriving DecidableEq, Repr

/-- R349, R350, R373, R419: a virtual function. -/
structure Vf where
  part : Option Nat
  qtab : Option Nat
  /-- queued page requests by index, with the key each was sent with (R349) -/
  requests : List (Nat × FaultKey)
  alloc : Nat
  drop : Bool
  stop : Bool
  ndrop : Nat
  pgvec : Word
  tdisp : TdispState
  /-- R375, R419: the bytes of its record table as they were when its interface was locked -/
  table : List Host.Cell
  deriving DecidableEq, Repr

/-! ### Regions, partitions, contexts -/

/-- R395. -/
inductive RegionState where
  | off | gated | scrubbing | ready | assigned | resetting | quarantined
  deriving DecidableEq, Repr

/-- R394, R395, R410: a region, with its controls. -/
structure Region where
  st : RegionState
  part : Option Nat
  ntr : Nat
  nrst : Nat
  rail : Bool
  clk : Bool
  rst : Bool
  gate : Bool
  /-- the state that a gated region returns to -/
  left : RegionState
  /-- R407: the gate is closing -/
  closing : Bool
  /-- a lasting fault was found (R409) -/
  lasting : Bool
  /-- R405, R407: the number of the event that its latest reset belongs to, and the cycle in which that began -/
  evt : Nat
  resetAt : Nat
  deriving DecidableEq, Repr

/-- R395: a region at package reset (R454). -/
abbrev Region.init : Region := ⟨.off, none, 0, 0, false, false, false, false, .off, false, false, 0, 0⟩

/-- R310, R414: a switch that the scheduler has pending for a partition, in favour of a context; a move of a cluster is
pending whenever R368 allows one. -/
inductive PendingAction where
  | switch (vf pasid : Nat)
  deriving DecidableEq, Repr

/-- R400, R402, R446: a partition. -/
structure Partition where
  regions : List Nat
  /-- window size in bytes, and offset of the window in the system memory that holds it -/
  window : Nat
  resident : Option (Nat × Nat)
  lastResident : Option (Nat × Nat)
  pending : Option PendingAction
  /-- R310: the cycle since which a group is held in *boundary* -/
  heldSince : Option Nat
  /-- R446, R449: joined to a partner partition: the Eave aperture and the level-3 domain -/
  join : Option (Nat × Nat)
  /-- R353: its way mask over the ridge cache; 0 is every way -/
  ways : Nat
  deriving DecidableEq, Repr

/-- R413. -/
inductive CtxState where
  | created | bound | resident | switchedOut | faulted | fenced | destroyed
  deriving DecidableEq, Repr

/-- R416: a save set, with the events of the context that are on their way (R322). -/
structure SaveSet where
  cores : List (Nat × Core)
  clusters : List (Nat × Cluster)
  mem : List Host.Cell
  tags : List Nat
  flights : List (Nat × Flight)
  deriving DecidableEq, Repr

/-- R412: a context. -/
structure Context where
  vf : Nat
  pasid : Nat
  part : Nat
  st : CtxState
  global : TV
  save : Option SaveSet
  /-- R466: window offsets of the host grants written -/
  grants : List Nat
  /-- R417: its save area in system memory: the first byte, and the bytes of each core's gutter -/
  area : Nat
  gutter : Nat
  /-- R353: its way masks over the ridge cache and over the L2 slices; 0 is every way -/
  ways : Nat × Nat
  deriving DecidableEq, Repr

/-- R289: the state of a sector in one cache; I is the absent state. -/
inductive Moesi where
  | m | o | e | s | i
  deriving DecidableEq, Repr

/-! ### Ports, link, firmware -/

/-- R445. -/
inductive LinkState where
  | down | training | up | degraded | fenced
  deriving DecidableEq, Repr

/-- R447: a flit held for replay: its number, the window it was sent in, the times it was sent again, its 256 bytes as a
number. -/
structure HeldFlit where
  seq : Nat
  window : Nat
  times : Nat
  flit : Nat
  deriving DecidableEq, Repr

/-- R445 to R449: the Eave link. -/
structure Link where
  st : LinkState
  /-- lanes of its two ports: 16, 8, 4 or none each -/
  ports : Nat × Nat
  /-- the partner's identity (R446) -/
  partner : Option Nat
  sendSeq : Nat
  recvSeq : Nat
  /-- R447: flits held for replay, oldest first -/
  replay : List HeldFlit
  /-- R445: the cycle in which training began -/
  since : Nat
  /-- R445: the cycle of the next beat of this box; a beat of the partner has come since the latest; beats it has missed -/
  beatAt : Nat
  heard : Bool
  missed : Nat
  /-- R448: the cycle of the master's next sync message -/
  syncAt : Nat
  deriving DecidableEq, Repr

/-- R445: the link before it is enabled, and at the beginning of a training. -/
abbrev Link.idle : Link := ⟨.down, (0, 0), none, 0, 0, [], 0, 0, false, 0, 0⟩

/-- R439. -/
structure Flashing where
  per : Nat
  en : Bool
  hostBeat : Word
  addr : Nat
  hfen : Bool
  dfen : Bool
  hmiss : Nat
  dmiss : Nat
  evt : Nat
  /-- beats as last seen at a period boundary -/
  lastHost : Word
  lastDev : Nat
  /-- the cycle of the next period boundary, and that of the latest host beat -/
  next : Nat
  hostAt : Option Nat
  /-- R440: the firmware has made its beat of this period -/
  beaten : Bool
  deriving DecidableEq, Repr

/-- R405. -/
structure LossList where
  addr : Nat
  cap : Nat
  cnt : Nat
  ovf : Bool
  /-- the number of the latest reset or fencing event -/
  evt : Nat
  vec : Nat
  /-- the events of which entries have been counted and whose vector is still to be raised -/
  due : List Nat
  deriving DecidableEq, Repr

/-- R454, R455: the boot state. -/
inductive Boot where
  | reset | recovery | running
  deriving DecidableEq, Repr

/-- R444: a non-coherent aperture. -/
structure Aperture where
  base : Nat
  size : Nat
  bus : Nat
  deriving DecidableEq, Repr

/-- R381, R405, R410: a write of the ridge die that waits until an engine gives up a line that it needs (R219, R290): bytes,
the record of a queue, the status word of a region; and an interrupt that follows such writes. -/
inductive RidgePost where
  | bytes (a : Nat) (bs : List Byte)
  | record (vf q : Nat)
  | status (r : Nat)
  | interrupt (vf vec : Nat)
  deriving DecidableEq, Repr

/-- A message to the world outside the package (10 of R438, R342, R349, R379, R419, R443, R456). -/
inductive OutMsg where
  /-- an interrupt of a function; 64 is the physical function -/
  | msix (vf vec : Nat)
  | translationRequest (die vf pasid va : Nat) (write : Bool)
  | pageRequest (vf idx pasid va : Nat) (write : Bool)
  | invalidationCompletion (vf pasid va : Nat)
  | hostReply (port addr val : Nat)
  | hostError (port addr : Nat)
  /-- R437, R438: a snoop of a sector, on its port -/
  | snoop (port sector : Nat) (own : Bool)
  | pcieRead (n bus size : Nat)
  | pcieWrite (bus size val : Nat)
  | pcieAtomic (n bus : Nat) (op : AmoOp) (size val : Nat)
  | pcieCas (n bus size expect new : Nat)
  | pcieUnsupported
  /-- R10, R342: an ATS request that is not supported -/
  | atsUnsupported (vf : Nat)
  | pcieMailbox (off val : Nat)
  /-- R443: the completion of a configuration request, with the value of a read -/
  | pcieConfig (reg val : Nat)
  /-- R447: a flit, its 256 bytes as a number -/
  | eaveFlit (flit : Nat)
  /-- R446: this box's link identity -/
  | eaveIdentity (id : Nat)
  | spdm (code : Nat) (vals : List Nat)
  | tdisp (code vf : Nat) (vals : List Nat)
  /-- R130: the value of a retained register, and the cycle at which it comes -/
  | retained (core slot reg : Nat) (val : TV) (due : Nat)
  deriving DecidableEq, Repr

/-- R150: a posted store, `msend`, `evsend` or push that its home refused; the refusal is on its way back (R150). -/
structure Refusal150 where
  src : Sender
  cause : Nat
  val : Word
  deriving DecidableEq, Repr

/-- What firmware sets, and what reaches the package from outside, that the table of events does not list. -/
inductive Input where
  /-- R389: the quantum of a priority, in cycles -/
  | quantum (pri cycles : Nat)
  /-- R390, R391, R310: the tenure limit, the watchdog period and the hold limit, in cycles -/
  | tenure (cycles : Nat)
  | watchdog (cycles : Nat)
  | holdLimit (cycles : Nat)
  /-- R402: the window of a partition, in units of 2 MiB -/
  | window (part units : Nat)
  /-- R417: the gutter of the contexts created from now on, in bytes of each core -/
  | gutter (bytes : Nat)
  /-- R353: the way mask of a partition, of a host port, and the two of the contexts created from now on -/
  | partWays (part mask : Nat)
  | portWays (port mask : Nat)
  | contextWays (ridge slice : Nat)
  /-- R410: the block of status words registered -/
  | statusBlock (addr : Nat)
  /-- R293: the window length of the fabric, in microseconds -/
  | windowLength (us : Nat)
  /-- R459: the buffer of the dump registered -/
  | dumpBuffer (addr bytes : Nat)
  /-- R349: the Outstanding Page Request Allocation of a function written -/
  | allocation (vf n : Nat)
  /-- R10, R342, R419, R456: requests that the device does not support -/
  | globalInvalidation
  | invalidationNoPasid (vf : Nat)
  | tdispOther (vf code : Nat)
  | spdmOther (code : Nat)
  /-- R443: an inbound configuration request for a register: a read, a write -/
  | configRead (reg : Nat)
  | configWrite (reg val : Nat)
  /-- R443, R455: bytes that the firmware or the loader puts into the endpoint's mailbox, or the management page's -/
  | mailboxReply (off size val : Nat)
  | manageReply (off size val : Nat)
  /-- R452: the firmware core of a die falls silent -/
  | firmwareSilent (die : Nat)
  /-- R455: a write of the image slot cut short: its first `n` bytes of `img` stand in the slot -/
  | slotWriteCut (img n : Nat)
  deriving DecidableEq, Repr

/-- What the model's schedule makes happen next. -/
inductive Move where
  /-- an event of the table, or an instruction at the current turn -/
  | ev (i : Sys2Proof.Instr)
  /-- the given slot issues -/
  | pick (core slot : Nat)
  /-- a setting of firmware, or a request from outside -/
  | input (a : Input)
  /-- the cycle count advances -/
  | tick
  deriving DecidableEq, Repr

/-- The package. -/
structure State where
  /-- cycles of the package clock since reset (R6) -/
  now : Nat := 0
  /-- R428, R448: correction of TIME against the cycle count, in ns -/
  timeAdj : Int := 0
  /-- the core and slot whose instruction is executed -/
  turn : Nat × Nat := (0, 0)
  /-- the model's own: moves that the schedule and the outside world make next (DESIGN CHOICE, log 1) -/
  agenda : List Move := []
  /-- the model's own: messages sent to the outside, oldest first (log 1) -/
  out : List OutMsg := []
  /-- the model's own: count of free values drawn (R313; DESIGN CHOICE, log 8) -/
  fresh : Nat := 0
  cores : List (Nat × Core) := []
  clusters : List (Nat × Cluster) := []
  dieAtc : List (Nat × List AtcEntry) := []
  pages : List PageRec := []
  /-- R351, R358: invalidations not yet completed -/
  invals : List Inval := []
  /-- R349: failures of engines' accesses, not yet acted on: cause and address -/
  engineFails : List (Waiter × (Nat × Nat)) := []
  /-- bytes by location; an unlisted byte is 0: R151 for scratchpads, DESIGN CHOICE for system memory (unsafe, log 2) -/
  mem : List Host.Cell := []
  /-- tagged granules (R98), in rising order -/
  tags : List Nat := []
  /-- R289: sector states by cache -/
  dir : List (Nat × Moesi) := []
  /-- R406: by sector held dirty, the bytes (those not 0) and tagged granules that last reached the ridge cache -/
  ridge : List (Nat × (List Host.Cell × List Nat)) := []
  /-- R438: snoops sent to the host and not yet answered: sector, and whether for ownership -/
  snoops : List (Nat × Bool) := []
  accesses : List (Nat × Access) := []
  nextAccess : Nat := 0
  /-- R444: requests of engines under way through the endpoint, or answered and not yet used -/
  requests : List (Nat × PcieReq) := []
  refusals : List (Nat × Refusal150) := []
  /-- R312: beats on the scheduled plane whose phase has closed; `sent` is the cycle in which each entered the plane -/
  stray : List Beat := []
  flights : List (Nat × Flight) := []
  groups : List (Nat × Group) := []
  kernels : List (Nat × Kernel) := []
  queues : List (Nat × Queue) := []
  /-- R389: the hardware slot last served -/
  lastSlot : Nat := 127
  links : List (Nat × TokenLink) := []
  vfs : List (Nat × Vf) := []
  regions : List (Nat × Region) := []
  partitions : List (Nat × Partition) := []
  contexts : List (Nat × Context) := []
  quanta : List (Nat × Nat) := []
  /-- firmware's limits, in cycles: tenure, watchdog, hold limit; and the window length L in microseconds -/
  tenure : Nat := 85000000
  watchdog : Nat := 3400000000
  holdLimit : Nat := 170000
  fabricL : Nat := 4
  statusBlock : Option Nat := none
  /-- R402: window sizes that firmware has chosen for partitions, in units of 2 MiB -/
  windowUnits : List (Nat × Nat) := []
  /-- R353: way masks of the host ports, and those of the next context -/
  portWays : List (Nat × Nat) := []
  contextWays : Nat × Nat := (0, 0)
  loss : Option LossList := none
  /-- R219, R290: writes of the ridge die that wait for lines, in order -/
  ridgeQ : List RidgePost := []
  ports : List (Nat × Bool) := []
  flash : Flashing := ⟨100, false, 0#64, 0, false, false, 0, 0, 0, 0#64, 0, 0, none, false⟩
  pcieUp : Bool := false
  /-- R443: the bytes of the endpoint's mailbox; R455: those of the management page's -/
  mailbox : List Host.Cell := []
  manageBox : List Host.Cell := []
  apertures : List (Nat × Aperture) := []
  eave : Link := Link.idle
  boot : Boot := .reset
  slotImage : List Byte := []
  rollback : Nat := 0
  /-- the firmware core of each die, and the spares that failed or were used -/
  fwCore : List (Nat × Nat) := []
  fwSpent : List Nat := []
  /-- R452: the dies whose firmware core makes no beat, the beats each die's has missed, the cycle of the next beat -/
  fwSilent : List Nat := []
  fwMissed : List (Nat × Nat) := []
  fwBeatAt : Nat := 1700000
  /-- R456: the signing key derived at this boot -/
  bootKey : List Byte := []
  /-- R445, R458, R460: the error log: what kind of error, and where -/
  errorLog : List (Nat × Nat) := []
  /-- R458: transient faults outside every region -/
  ntr : Nat := 0
  /-- R417: bytes of each core's gutter in the next context's save area -/
  gutterSize : Nat := 16384
  pwrLim : Nat := 800
  pwr : Nat := 0
  pacing : Nat := 0
  /-- R461: the cycle of the next pacing step -/
  pacingAt : Nat := 1700000
  dumpBuf : Option (Nat × Nat) := none
  deriving DecidableEq, Repr

/-- The machine right after package reset, before the ridge ROM has run (R394, R454): every region off, nothing
running, memory with nothing listed. What the spec gives no value for is named in logs 2 to 7 (DESIGN CHOICE, unsafe). -/
def State.reset : State := {}

/-- Why the machine stops. -/
inductive Fault where
  /-- raised by the meaning of an instruction word when the slot whose turn it is holds no strand: the spec gives such a
  word no meaning; safe -/
  | noStrand
  deriving DecidableEq, Repr

/-- Why an instruction is refused. -/
inductive Refusal where
  /-- raised by an arm of `exec` whose instruction has no meaning yet; safe -/
  | notModelled (mnemonic : String)
  deriving DecidableEq, Repr

end Sys2Proof.Machine
end

