-- ==== Sys2Proof/Machine/Objects.lean ====
section
/-! DEFINITION. Positions and numbers (01), and reading and writing the objects of the state: cores, strands, clusters,
groups and the firmware's tables. -/
namespace Sys2Proof.Machine

/-! ### Numbers of cores, clusters and regions (R11, R12, R14)

Tenant cores have their package numbers 0 to 1279; the finial cores follow, 1280 + 8 × die + position; the finial
clusters are 160 + die. -/

def isFinial (k : Nat) : Bool := decide (1280 ≤ k)

def coreDie (k : Nat) : Nat := if k < 1280 then k / 320 else (k - 1280) / 8

def coreRow (k : Nat) : Nat := if k < 1280 then k % 320 / 16 else 20 + (k - 1280) % 8 / 4

def coreCol (k : Nat) : Nat := if k < 1280 then k % 16 else 6 + (k - 1280) % 4

/-- R11. -/
def coreAt (die row col : Nat) : Nat := die * 320 + row * 16 + col

/-- R11, R12. -/
def clusterOf (k : Nat) : Nat :=
  if k < 1280 then coreDie k * 40 + coreRow k / 2 * 4 + coreCol k / 4 else 160 + coreDie k

def clusterDie (cl : Nat) : Nat := if cl < 160 then cl / 40 else cl - 160

/-- R24: the core's slot within its cluster. -/
def slotInCluster (k : Nat) : Nat := coreRow k % 2 * 4 + coreCol k % 4

/-- R11: the package region; none for a finial core. -/
def regionOf (k : Nat) : Option Nat := if k < 1280 then some (coreDie k * 5 + coreRow k / 4) else none

def regionOfCluster (cl : Nat) : Option Nat := if cl < 160 then some (cl / 40 * 5 + cl % 40 / 8) else none

/-- The core in a slot of a cluster. -/
def coreOfSlot (cl sl : Nat) : Nat :=
  if cl < 160 then coreAt (cl / 40) (cl % 40 / 4 * 2 + sl / 4) (cl % 4 * 4 + sl % 4)
  else 1280 + (cl - 160) * 8 + sl / 4 * 4 + (sl + 2) % 4

/-- R12: the eight cores of a cluster, by slot. -/
def coresOfCluster (cl : Nat) : List Nat := (List.range 8).map (coreOfSlot cl)

/-- R13: the clusters and the cores of a region. -/
def clustersOfRegion (r : Nat) : List Nat := upto (r / 5 * 40 + r % 5 * 8) 8

def coresOfRegion (r : Nat) : List Nat := upto (r / 5 * 320 + r % 5 * 64) 64

/-- R23: bits 10 to 0 of COREID. -/
def coreIdLow (k : Nat) : Nat := coreCol k + coreRow k * 16 + coreDie k * 512

/-- The core that bits 10 to 0 of a COREID name. -/
def coreOfId (x : Nat) : Nat := coreAt (x / 512 % 4) (x / 16 % 32) (x % 16)

/-- R142: the address of offset 0 of a core's scratchpad. -/
def spadBase (k : Nat) : Nat := 2 ^ 63 + coreDie k * 2 ^ 58 + coreRow k * 2 ^ 53 + coreCol k * 2 ^ 49

/-- R278: the location of offset 0 of a partition's device-private window. -/
def privBase (part : Nat) : Nat := 0x9000000000000000 + part * 2 ^ 47

/-- R292: the location of bus address 0 behind the PCI Express endpoint. -/
def pcieBase : Nat := 2 ^ 64

/-! ### Cores and strands -/

def State.core (s : State) (k : Nat) : Core := kget Core.init k s.cores

def State.setCore (s : State) (k : Nat) (c : Core) : State := { s with cores := kset k c s.cores }

def State.updCore (s : State) (k : Nat) (f : Core → Core) : State := s.setCore k (f (s.core k))

def State.cluster (s : State) (k : Nat) : Cluster := kget Cluster.init k s.clusters

def State.setCluster (s : State) (k : Nat) (c : Cluster) : State := { s with clusters := kset k c s.clusters }

def State.updCluster (s : State) (k : Nat) (f : Cluster → Cluster) : State := s.setCluster k (f (s.cluster k))

/-! ### What waits on pages (R347 to R350) -/

/-- R350: the drop flag and count of each function as they follow from the accesses that are parked. -/
def State.settleDrops (s : State) : State :=
  { s with vfs := s.vfs.map (fun v =>
      let n := (s.clusters.map (fun c => (c.2.parked.filter (fun x => decide (x.1.vf = v.1))).length)).sum
      (v.1, { v.2 with drop := v.2.drop && decide (n ≠ 0), ndrop := min n 0xFFFF })) }

/-- R345: a *not-present* page is *unknown* again when no access of its die stands in a fault buffer for it. -/
def State.settlePages (s : State) : State :=
  { s with pages := s.pages.filter (fun r => decide (r.st ≠ .notPresent) || s.clusters.any (fun c =>
      decide (clusterDie c.1 = r.die) && c.2.faults.any (fun f => decide (f.key.vf = r.vf) && decide (f.key.pasid = r.pasid) &&
        decide (f.key.page = r.page)))) }

/-- R349: waiters that will not be replayed: they leave the pages and the fault buffers, whose entries go with their last
waiter unless their request is queued. -/
def State.dropWaiters (s : State) (p : Waiter → Bool) : State :=
  ({ s with
    pages := s.pages.map (fun r => { r with waiters := r.waiters.filter (fun w => !p w.who) }),
    clusters := s.clusters.map (fun c => (c.1, { c.2 with
      faults := (c.2.faults.map (fun f => { f with waiters := f.waiters.filter (fun w => !p w.who) })).filter
        (fun f => f.queued || !f.waiters.isEmpty),
      parked := c.2.parked.filter (fun w => !p w.2.who) })),
    requests := s.requests.filter (fun r => !p r.2.who),
    engineFails := s.engineFails.filter (fun f => !p f.1) } : State).settleDrops.settlePages

/-- What waits is still there: the access, the entry, the command, the strand. -/
def State.hasWaiter (s : State) : Waiter → Bool
  | .access n => (kfind n s.accesses).isSome
  | .sequencer n => s.cores.any (fun c => c.2.seq.any (fun e => decide (e.id = n)))
  | .tile n => s.clusters.any (fun c => c.2.cmds.any (fun e => decide (e.id = n)))
  | .copy n => s.clusters.any (fun c => c.2.copies.any (fun e => decide (e.id = n)))
  | .strand k sl sid => (kfind sl (kget Core.init k s.cores).slots).any (fun t => decide (t.sid = sid))
  | _ => true

/-- What waited in `old` and is gone now waits no more. -/
def State.dropEnded (s old : State) : State := s.dropWaiters (fun w => old.hasWaiter w && !s.hasWaiter w)

/-- The strand in a slot of a core. -/
def State.strand (s : State) (k sl : Nat) : Option Strand := kfind sl (s.core k).slots

def State.setStrand (s : State) (k sl : Nat) (t : Strand) : State :=
  s.updCore k (fun c => { c with slots := kset sl t c.slots })

def State.updStrand (s : State) (k sl : Nat) (f : Strand → Strand) : State :=
  match s.strand k sl with
  | some t => s.setStrand k sl (f t)
  | none => s

/-- The slot becomes idle. -/
def State.clearSlot (s : State) (k sl : Nat) : State :=
  s.updCore k (fun c => { c with slots := kdel sl c.slots })

/-- R90, R60: a general register. -/
def Strand.getG (t : Strand) (r : Nat) : TV := if r = 0 then TV.zero else kget TV.zero r t.g

/-- R60, R61: a general register written; g0 discards. A pending write of the register is superseded (R67). -/
def Strand.putG (t : Strand) (r : Nat) (v : TV) : Strand :=
  if r = 0 then t
  else { t with g := kput TV.zero r v t.g, pend := t.pend.filter (fun p => decide (p.reg ≠ r)), lost := sdel r t.lost }

/-- R55: sticky flags joined to STATUS, with the results that they belong to. -/
def Strand.joinFlags (t : Strand) (l : List (Nat × BitVec 5)) : Strand :=
  { t with sr := l.foldl (fun (f : BitVec 5) e => f ||| e.2) t.sr }

/-- R55, R65: the fixed-latency results that are available at a cycle are written, and their flags set. -/
def Strand.settle (t : Strand) (now : Nat) : Strand :=
  let due := t.pend.filter (fun p => decide (p.avail ≤ now))
  let u := due.foldl (fun (u : Strand) p => u.putG p.reg p.val) t
  { u.joinFlags (t.pendFl.filter (fun e => decide (e.1 ≤ now))) with
    pendFl := t.pendFl.filter (fun e => decide (now < e.1)) }

/-- R55, R69: every fixed-latency result is written, and every flag set. -/
def Strand.settleAll (t : Strand) : Strand :=
  let u := t.pend.foldl (fun (u : Strand) p => u.putG p.reg p.val) t
  { u.joinFlags t.pendFl with pendFl := [] }

def Strand.getSh (t : Strand) (r : Nat) : Shape := kget Shape.zero r t.sh

def Strand.putSh (t : Strand) (r : Nat) (v : Shape) : Strand := { t with sh := kput Shape.zero r v t.sh }

def Strand.getH (t : Strand) (r : Nat) : BitVec 8192 := kget 0#8192 r t.h

def Strand.putH (t : Strand) (r : Nat) (v : BitVec 8192) : Strand := { t with h := kput 0#8192 r v t.h }

def Strand.getY (t : Strand) (r : Nat) : BitVec 65536 := kget 0#65536 r t.y

def Strand.putY (t : Strand) (r : Nat) (v : BitVec 65536) : Strand := { t with y := kput 0#65536 r v t.y }

/-- The address of the next instruction (R57). -/
def Strand.pc (t : Strand) : Word := t.pcc.bits.extractLsb' 0 64

/-- Data in bits 63 to 0, the rest and the tag clear. -/
def TV.ofWord (w : Word) : TV := ⟨w.setWidth 128, false⟩

def TV.ofNat (n : Nat) : TV := ⟨BitVec.ofNat 128 n, false⟩

/-- Bits 63 to 0. -/
def TV.lo (v : TV) : Word := v.bits.extractLsb' 0 64

/-- R123: the registers at the start of a strand and after a suspension point. -/
def Strand.reset (t : Strand) : Strand :=
  { t with g := [(1, t.getG 1), (2, t.getG 2), (3, t.getG 3)].filter (fun e => decide (e.2 ≠ TV.zero)),
           q := [], sh := [], h := [], y := [], trapPc := 0#64, trapCause := 0#8, trapVal := 0#64, pend := [], pendFl := [],
           popped := [], rep := none, loop := none,
           lost := [] }

/-! ### Groups, partitions and contexts -/

def State.region (s : State) (r : Nat) : Region := kget Region.init r s.regions

def State.setRegion (s : State) (r : Nat) (x : Region) : State := { s with regions := kset r x s.regions }

/-- R394, R407: a region works: *assigned*, its rail up, its reset line released. -/
def Region.works (x : Region) : Bool := decide (x.st = .assigned) && x.rail && !x.rst

/-- R407: the clusters work while their region does; the finial clusters always do. -/
def State.clusterRuns (s : State) (cl : Nat) : Bool :=
  match regionOfCluster cl with
  | some r => (s.region r).works
  | none => true

/-- R394: an event of a cluster whose clock runs. -/
def State.whileRuns (s : State) (cl : Nat) (r : Option State) : Option State := if s.clusterRuns cl then r else none

/-- The partition that a core belongs to (R400). -/
def State.partOfCore (s : State) (k : Nat) : Option Nat := (regionOf k).bind (fun r => (s.region r).part)

def State.partOfCluster (s : State) (cl : Nat) : Option Nat := (regionOfCluster cl).bind (fun r => (s.region r).part)

def State.partition (s : State) (p : Nat) : Option Partition := kfind p s.partitions

def State.updPartition (s : State) (p : Nat) (f : Partition → Partition) : State :=
  match s.partition p with
  | some x => { s with partitions := kset p (f x) s.partitions }
  | none => s

/-- R412: the key of a context. -/
def ctxKey (vf pasid : Nat) : Nat := vf * 2 ^ 20 + pasid

def State.context (s : State) (vf pasid : Nat) : Option Context := kfind (ctxKey vf pasid) s.contexts

def State.updContext (s : State) (vf pasid : Nat) (f : Context → Context) : State :=
  match s.context vf pasid with
  | some x => { s with contexts := kset (ctxKey vf pasid) (f x) s.contexts }
  | none => s

/-- R27: `PARTID` of a context of a function in a partition. -/
def State.partIdFor (s : State) (p vf : Nat) : Nat :=
  let rs := ((s.partition p).map (·.regions)).getD []
  p + vf % 64 * 2 ^ 8 + rs.length * 2 ^ 16 + (rs.map (2 ^ ·)).sum * 2 ^ 32

/-- The context resident on a core, if any (R413): function and PASID. -/
def State.ctxOfCore (s : State) (k : Nat) : Option (Nat × Nat) :=
  ((s.partOfCore k).bind s.partition).bind (·.resident)

/-- R341, R412: the function and PASID under which a core's accesses are translated. -/
def State.ctxIds (s : State) (k : Nat) : Nat × Nat := (s.ctxOfCore k).getD (0, 0)

def State.ctxOfCluster (s : State) (cl : Nat) : Option (Nat × Nat) :=
  ((s.partOfCluster cl).bind s.partition).bind (·.resident)

def vfInit : Vf := ⟨none, none, [], 64, false, false, 0, 0#64, .unlocked, []⟩

def State.vf (s : State) (v : Nat) : Vf := kget vfInit v s.vfs

/-- R419: a function's configuration is locked, until its interface is CONFIG_UNLOCKED again. -/
def State.vfLocked (s : State) (v : Nat) : Bool := decide ((s.vf v).tdisp ≠ .unlocked)

def State.updVf (s : State) (v : Nat) (f : Vf → Vf) : State := { s with vfs := kset v (f (s.vf v)) s.vfs }

/-- R417: the bytes of the gutter of a core: those of its context's save area; the default where it has no context. -/
def State.gutterOf (s : State) (k : Nat) : Nat :=
  (((s.ctxOfCore k).bind (fun c => s.context c.1 c.2)).map (·.gutter)).getD 16384

/-- R364: group ids are unique in a partition; the key of a group. -/
def groupKey (part gid : Nat) : Nat := part * 2 ^ 16 + gid

def State.group (s : State) (part gid : Nat) : Option Group := kfind (groupKey part gid) s.groups

def State.updGroup (s : State) (part gid : Nat) (f : Group → Group) : State :=
  match s.group part gid with
  | some x => { s with groups := kset (groupKey part gid) (f x) s.groups }
  | none => s

/-- The group of a strand on a core. -/
def State.groupOn (s : State) (k gid : Nat) : Option Group := (s.partOfCore k).bind (fun p => s.group p gid)

/-- R27, R29: `PARTID` of a strand of group `gid` on core `k`: as it was when the group was loaded. -/
def State.partIdWord (s : State) (k gid : Nat) : Word :=
  match s.groupOn k gid with
  | some g => g.partId
  | none =>
    match s.partOfCore k, s.ctxOfCore k with
    | some p, some (vf, _) => BitVec.ofNat 64 (s.partIdFor p vf)
    | _, _ => 0#64

def State.updGroupOn (s : State) (k gid : Nat) (f : Group → Group) : State :=
  match s.partOfCore k with
  | some p => s.updGroup p gid f
  | none => s

def queueKey (vf q : Nat) : Nat := vf * 256 + q

def State.queue (s : State) (vf q : Nat) : Option Queue := kfind (queueKey vf q) s.queues

def State.updQueue (s : State) (vf q : Nat) (f : Queue → Queue) : State :=
  match s.queue vf q with
  | some x => { s with queues := kset (queueKey vf q) (f x) s.queues }
  | none => s

def State.kernel (s : State) (k : Nat) : Option Kernel := kfind k s.kernels

def State.updKernel (s : State) (k : Nat) (f : Kernel → Kernel) : State :=
  match s.kernel k with
  | some x => { s with kernels := kset k (f x) s.kernels }
  | none => s

def State.send (s : State) (m : OutMsg) : State := { s with out := s.out ++ [m] }

/-- R6, R428: TIME in nanoseconds: the package clock at 1.7 GHz, corrected. -/
def State.timeNs (s : State) : Nat := ((s.now * 10 / 17 : Nat) + s.timeAdj).toNat

/-- R428: CYCLE of a core. -/
def State.cycleOf (s : State) (k : Nat) : Nat := s.now - (s.core k).cycleBase

/-- R451, R452, R455: the firmware of a die acts: the package has booted, and the die's firmware core is not silent. -/
def State.firmwareRuns (s : State) (die : Nat) : Bool := decide (s.boot = .running) && decide (die ∉ s.fwSilent)

/-- R451, R452: what the firmware of a die carries out; while its core is replaced, requests wait. -/
def State.byFirmware (s : State) (die : Nat) (r : Option State) : Option State := if s.firmwareRuns die then r else none

/-- R455: what the package serves only once it has booted. -/
def State.booted (s : State) (r : Option State) : Option State := if s.boot = .running then r else none

/-- Bytes of a mailbox read as a number, and written. -/
def boxRead (l : List Host.Cell) (off n : Nat) : Nat :=
  (upto off n).foldr (fun a x => (kget (0#8 : Byte) a l).toNat + 256 * x) 0

def boxWrite (l : List Host.Cell) (off n val : Nat) : List Host.Cell :=
  (List.range n).foldl (fun m i => kput (0#8 : Byte) (off + i) (BitVec.ofNat 8 (val / 256 ^ i)) m) l

/-- R14, R451: firmware privilege is that of the finial cores. -/
def privileged (k : Nat) : Bool := isFinial k

end Sys2Proof.Machine
end

