-- ==== Sys2Proof/Machine/Cap.lean ====
section
/-! DEFINITION. Capabilities (05, R90 to R96): fields, bounds, representable addresses. -/
namespace Sys2Proof.Machine

/-! ### Fields of R93 -/

def capAddr (v : TV) : Nat := v.bits.toNat % 2 ^ 64
def capL (v : TV) : Nat := v.bits.toNat / 2 ^ 64 % 2 ^ 25
def capD (v : TV) : Int := (v.bits.extractLsb' 89 25).toInt
def capE (v : TV) : Nat := v.bits.toNat / 2 ^ 114 % 2 ^ 6
def capPerms (v : TV) : Nat := v.bits.toNat / 2 ^ 120 % 2 ^ 8

/-- Permission bits of R93, by their place in the byte that `cperms` reads. -/
def permLoad : Nat := 0x01
def permStore : Nat := 0x02
def permExec : Nat := 0x04
def permLoadCap : Nat := 0x08
def permStoreCap : Nat := 0x10
def permLocal : Nat := 0x20
def permAtomic : Nat := 0x40

/-- The value holds every permission of the mask. -/
def capHas (v : TV) (mask : Nat) : Bool := decide (capPerms v &&& mask = mask)

/-- R94: Base(v). -/
def capBase (v : TV) : Int := ((capAddr v / 2 ^ capE v : Nat) - capD v) * 2 ^ capE v

/-- R94: Top(v). -/
def capTop (v : TV) : Int := capBase v + (capL v * 2 ^ capE v : Nat)

/-- R90: the condition on the bits of a capability. -/
def capOk (v : TV) : Bool :=
  decide (capE v ≤ 40) && decide (capL v ≤ 0xC00000) && decide (v.bits.toNat / 2 ^ 127 = 0) &&
    decide (0 ≤ capBase v) && decide (capTop v ≤ 2 ^ 64)

/-- R96: the new distance D' for an address. -/
def capDist (c : TV) (y : Nat) : Int := capD c + (y / 2 ^ capE c : Nat) - (capAddr c / 2 ^ capE c : Nat)

/-- R96: the address is representable for the capability. -/
def representable (c : TV) (y : Nat) : Bool := decide (-(2 ^ 24) ≤ capDist c y) && decide (capDist c y < 2 ^ 24)

/-- The bits with the address replaced. -/
def withAddr (v : TV) (y : Nat) : TV := { v with bits := v.bits.extractLsb' 64 64 ++ BitVec.ofNat 64 y }

/-- The bits with the distance replaced. -/
def withDist (v : TV) (d : Int) : TV :=
  { v with bits := v.bits.extractLsb' 114 14 ++ BitVec.ofInt 25 d ++ v.bits.extractLsb' 0 89 }

/-- R110: the address set; a tagged value keeps its base, or loses its tag where the address is not representable. -/
def setAddr (c : TV) (y : Nat) : TV :=
  if c.tag then
    if representable c y then withAddr (withDist c (capDist c y)) y else { withAddr c y with tag := false }
  else withAddr c y

/-- A capability from its fields (R93). -/
def mkCap (addr l : Nat) (d : Int) (e perms : Nat) : TV :=
  ⟨BitVec.ofNat 8 perms ++ BitVec.ofNat 6 e ++ BitVec.ofInt 25 d ++ BitVec.ofNat 25 l ++ BitVec.ofNat 64 addr, true⟩

/-- R109: the exponent, base and length in units, for bounds [lo, top), rounded outward; from exponent `e` up. -/
def boundsFrom : Nat → Nat → Nat → Nat → Nat × Nat × Nat
  | 0, e, lo, top => (e, lo / 2 ^ e, (top + 2 ^ e - 1) / 2 ^ e)
  | fuel + 1, e, lo, top =>
    let nb := lo / 2 ^ e
    let nt := (top + 2 ^ e - 1) / 2 ^ e
    if nt - nb ≤ 0xC00000 then (e, nb, nt) else boundsFrom fuel (e + 1) lo top

/-- R109: the capability narrowed to [lo, top), and whether the bounds are exact. -/
def narrow (c : TV) (lo top : Nat) : TV × Bool :=
  let (e, nb, nt) := boundsFrom 40 0 lo top
  (mkCap lo (nt - nb) ((lo / 2 ^ e : Nat) - (nb : Int)) e (capPerms c),
    decide (nb * 2 ^ e = lo) && decide (nt * 2 ^ e = top))

end Sys2Proof.Machine
end

