-- ==== Sys2Proof/Machine/Mem.lean ====
section
/-! DEFINITION. Memory (07, 13, R98 to R100): bytes by location, tags by granule, the directory of sector states, and
the bounds of the execute-only code. Locations: a scratchpad byte at its device address, device-private byte at
`privBase`, a byte of system memory at its host physical address, a byte behind the PCI Express endpoint from
`pcieBase`. -/
namespace Sys2Proof.Machine

/-- The canonical form of memory: addresses strictly rising, no listed byte equal to an unlisted one (0, R151). -/
abbrev Memory.wf (m : List Host.Cell) : Bool := kwf (0#8 : Byte) m

/-- One byte. -/
def State.byte (s : State) (a : Nat) : Byte := kget 0#8 a s.mem

def State.setByte (s : State) (a : Nat) (b : Byte) : State := { s with mem := kput 0#8 a b s.mem }

/-- `n` bytes from `a` as a little-endian number (R6). -/
def State.read (s : State) (a : Nat) : Nat → Nat
  | 0 => 0
  | n + 1 => (s.byte a).toNat + 256 * s.read (a + 1) n

/-- `n` bytes from `a`. -/
def State.readBytes (s : State) (a n : Nat) : List Byte := (upto a n).map s.byte

/-- The bytes of a little-endian number. -/
def natBytes : Nat → Nat → List Byte
  | 0, _ => []
  | n + 1, v => BitVec.ofNat 8 v :: natBytes n (v / 256)

/-- The number that little-endian bytes hold. -/
def bytesNat : List Byte → Nat
  | [] => 0
  | b :: bs => b.toNat + 256 * bytesNat bs

/-- Bytes written from `a` up, tags untouched. -/
def State.putBytes (s : State) (a : Nat) : List Byte → State
  | [] => s
  | b :: bs => (s.setByte a b).putBytes (a + 1) bs

/-- R98: locations that hold tags: scratchpad and device-private memory. -/
def taggedLoc (a : Nat) : Bool := decide (a / 2 ^ 60 = 8) || decide (a / 2 ^ 60 = 9)

/-- R98: the tag of the granule of a location. -/
def State.tagAt (s : State) (a : Nat) : Bool := decide (a / 16 ∈ s.tags)

/-- R99: the tags of the granules of bytes `a` to `a + n − 1` cleared. -/
def State.clearTags (s : State) (a n : Nat) : State :=
  { s with tags := s.tags.filter (fun g => decide (g < a / 16) || decide ((a + n - 1) / 16 < g)) }

/-- R99: bytes written and the tags of the granules they touch cleared, in one step. -/
def State.write (s : State) (a : Nat) (bs : List Byte) : State :=
  if bs.isEmpty then s else (s.putBytes a bs).clearTags a bs.length

/-- R99: a granule written with its tag; memory without tags keeps the bits alone. -/
def State.writeTagged (s : State) (a : Nat) (v : TV) : State :=
  let s' := s.write a (natBytes 16 v.bits.toNat)
  if v.tag && taggedLoc a then { s' with tags := sadd (a / 16) s'.tags } else s'

/-- A granule with its tag, as it stands. -/
def State.readTagged (s : State) (a : Nat) : TV := ⟨BitVec.ofNat 128 (s.read a 16), s.tagAt a⟩

/-! ### Execute-only code (R147, R148) -/

/-- R147: the offset at which data may begin. -/
def boundOffset (x : Word) : Nat := x.toNat / 256 % 4096 * 256

/-- R142: the core of a scratchpad location; rows 20 and 21 are those of the finial cluster (R14). -/
def spadCore (a : Nat) : Nat :=
  let die := a / 2 ^ 58 % 4
  let row := a / 2 ^ 53 % 32
  let col := a / 2 ^ 49 % 16
  if row ≤ 19 then coreAt die row col else 1280 + die * 8 + (row - 20) % 2 * 4 + (col - 6) % 4

def spadOff (a : Nat) : Nat := a % 2 ^ 19

/-- R142: the location lies in tenant scratchpad. -/
def isSpad (a : Nat) : Bool :=
  decide (a / 2 ^ 60 = 8) && decide (a / 2 ^ 19 % 2 ^ 30 = 0) && decide (a / 2 ^ 53 % 32 ≤ 19)

/-- R14: the location lies in the scratchpad of a finial core. -/
def isFinialSpad (a : Nat) : Bool :=
  decide (a / 2 ^ 60 = 8) && decide (a / 2 ^ 19 % 2 ^ 30 = 0) && decide (20 ≤ a / 2 ^ 53 % 32) && decide (a / 2 ^ 53 % 32 ≤ 21) &&
    decide (6 ≤ a / 2 ^ 49 % 16) && decide (a / 2 ^ 49 % 16 ≤ 9)

/-- R14, R148: the location lies below its home core's boundary. -/
def State.belowBound (s : State) (a : Nat) : Bool :=
  (isSpad a || isFinialSpad a) && decide (spadOff a < boundOffset (s.core (spadCore a)).xobound)

/-! ### Caches (R289) -/

/-- The number of a cache in the directory: a cluster's slice; 200 for the host's caches. The capacities of R20 bound
nothing here: a sector leaves a cache by the event of its eviction alone (DESIGN CHOICE, log 64). -/
def hostCache : Nat := 200

def dirKey (sector agent : Nat) : Nat := sector * 256 + agent

def State.sectorIn (s : State) (sector agent : Nat) : Moesi := (kfind (dirKey sector agent) s.dir).getD .i

def State.setSector (s : State) (sector agent : Nat) (m : Moesi) : State :=
  { s with dir := kput Moesi.i (dirKey sector agent) m s.dir }

/-- The other caches that hold a sector. -/
def State.holders (s : State) (sector agent : Nat) : List Nat :=
  (s.dir.filter (fun e => decide (e.1 / 256 = sector) && decide (e.1 % 256 ≠ agent))).map (·.1 % 256)

/-- R289: the answer of a holder to a read snoop. -/
def Moesi.readSnoop : Moesi → Moesi
  | .m => .o
  | .o => .o
  | .e => .s
  | .s => .s
  | .i => .i

/-- R437: a port carries traffic. -/
def State.portUp (s : State) (p : Nat) : Bool := kget true p s.ports

/-- R437: the port over which a sector of system memory travels: PA[8] XOR PA[16]; the other while that one is down. -/
def State.portOf (s : State) (pa : Nat) : Nat :=
  let p := (pa / 2 ^ 8 + pa / 2 ^ 16) % 2
  if s.portUp p then p else 1 - p

/-- R289, R438: the host is sent a snoop of a sector that its caches hold in a state which the snoop changes or whose data
it needs. Every store of the host stands in the model's memory once it is performed, so that its answer brings nothing
more, and it is taken in the same step (DESIGN CHOICE, log 71). -/
def State.snoopHost (s : State) (sector : Nat) (own : Bool) : State :=
  match s.sectorIn sector hostCache, own with
  | .i, _ => s
  | .s, false => s
  | _, _ => s.send (.snoop (s.portOf (sector * 64)) sector own)

/-- R289: a local read by a cache: E if no other cache holds the sector, else S; other holders take a read snoop. -/
def State.dirRead (s0 : State) (sector agent : Nat) : State :=
  match s0.sectorIn sector agent with
  | .i =>
    let s := if agent = hostCache then s0 else s0.snoopHost sector false
    let hs := s.holders sector agent
    let s1 := hs.foldl (fun (st : State) h => st.setSector sector h (st.sectorIn sector h).readSnoop) s
    s1.setSector sector agent (if hs.isEmpty then .e else .s)
  | _ => s0

/-- R406: what the ridge cache holds of a sector, noted when a cache first makes it dirty. -/
def State.noteRidge (s : State) (sector : Nat) : State :=
  if (kfind sector s.ridge).isSome then s
  else { s with ridge := kset sector (s.mem.filter (fun c => decide (c.1 / 64 = sector)),
      s.tags.filter (fun g => decide (g / 4 = sector))) s.ridge }

/-- R289: a local write or atomic by a cache: M, every other copy invalidated. -/
def State.dirWrite (s0 : State) (sector agent : Nat) : State :=
  let s := if agent = hostCache then s0 else s0.snoopHost sector true
  let s1 := (s.noteRidge sector |>.holders sector agent).foldl (fun (st : State) h => st.setSector sector h .i) (s.noteRidge sector)
  s1.setSector sector agent .m

/-- R289: the dirty value of a sector is written back to the ridge cache. -/
def State.writtenBack (s : State) (sector : Nat) : State := { s with ridge := kdel sector s.ridge }

/-- R295: a sector recalled from every cache. -/
def State.dirRecall (s : State) (sector : Nat) : State :=
  { s.snoopHost sector true with dir := s.dir.filter (fun e => decide (e.1 / 256 ≠ sector)) }.writtenBack sector

/-- R289: a read from the ridge by an agent without a cache: the holders take a read snoop. -/
def State.dirPeek (s0 : State) (sector : Nat) : State :=
  let s := s0.snoopHost sector false
  (s.holders sector 255).foldl (fun (st : State) h => st.setSector sector h (st.sectorIn sector h).readSnoop) s

/-- The location is cached memory: system or device-private memory, not scratchpad, not behind the endpoint. -/
def cachedLoc (a : Nat) : Bool := decide (a < 2 ^ 63) || decide (a / 2 ^ 60 = 9)

/-- The sectors of bytes `a` to `a + n − 1`. -/
def sectorsOf (a n : Nat) : List Nat := if n = 0 then [] else upto (a / 64) ((a + n - 1) / 64 - a / 64 + 1)

/-- The sectors of located rows that lie in cached memory. -/
def rowSectors (rows : List (Nat × List (Nat × Nat))) : List Nat :=
  (rows.flatMap (fun r => (r.2.filter (fun p => cachedLoc p.1)).flatMap (fun p => sectorsOf p.1 p.2))).dedup

/-- R219: some tile command of the cluster has pinned the sector. -/
def Cluster.pins (c : Cluster) (sec : Nat) : Bool :=
  c.cmds.any (fun m => m.pinned.any (fun b => decide (sec ∈ b.sectors)))

/-- R289, R290: the access of cluster `cl` to bytes at a cached location must wait for an engine: it needs a recall of
a sector that an engine owns, or a snoop of a sector that is pinned. -/
def State.linesHeld (s : State) (cl a n : Nat) (write : Bool) : Bool :=
  cachedLoc a && s.clusters.any (fun e => (sectorsOf a n).any (fun sec =>
    decide (sec ∈ e.2.owned) ||
      (e.2.pins sec && (write || (decide (e.1 ≠ cl) && decide (s.sectorIn sec e.1 ≠ .s) && decide (s.sectorIn sec e.1 ≠ .i))))))

/-- R292: the location lies behind the PCI Express endpoint. -/
def isPcie (a : Nat) : Bool := decide (pcieBase ≤ a) && decide (a < 2 ^ 65)

/-- What has become of the request of a waiter for bytes behind the endpoint (R444). -/
inductive ReqState where
  | notSent
  | underWay
  | data
  | failed (cause : Nat)
  deriving DecidableEq, Repr

/-- R444: the state of a waiter's request. -/
def State.fetched (s : State) (w : Waiter) (loc n : Nat) : ReqState :=
  match s.requests.find? (fun r => decide (r.2.who = w) && decide (r.2.loc = loc) && decide (r.2.size = n)) with
  | none => if s.pcieUp then .notSent else .failed 0x10
  | some r =>
    match r.2.answer with
    | none => .underWay
    | some none => .data
    | some (some c) => .failed c

/-- R292, R444: a request of a waiter leaves for the endpoint. -/
def State.askPcie (s : State) (w : Waiter) (loc n : Nat) (m : Nat → OutMsg) : State :=
  { s with requests := kset s.nextAccess ⟨w, loc, n, s.now, none⟩ s.requests, nextAccess := s.nextAccess + 1 }.send (m s.nextAccess)

/-- R292: a memory read request of a waiter. -/
def State.askRead (s : State) (w : Waiter) (loc n : Nat) : State := s.askPcie w loc n (fun i => .pcieRead i (loc - pcieBase) n)

/-- What a waiter has fetched has been used. -/
def State.dropRequests (s : State) (w : Waiter) : State :=
  { s with requests := s.requests.filter (fun r => decide (r.2.who ≠ w)) }

/-- R292, R443: posted writes of at most 512 bytes sent for bytes behind the endpoint. -/
def State.writeChunks (s : State) : Nat → Nat → List Byte → State
  | 0, _, _ => s
  | f + 1, a, bytes =>
    if bytes.isEmpty then s
    else (s.send (.pcieWrite (a - pcieBase) (bytes.take 512).length (bytesNat (bytes.take 512)))).writeChunks f (a + 512) (bytes.drop 512)

/-- R292: bytes written at a location leave as posted writes where it lies behind the endpoint. -/
def State.writeRequest (s : State) (a : Nat) (bytes : List Byte) : State :=
  if isPcie a then s.writeChunks (bytes.length / 512 + 1) a bytes else s

/-- R289: the directory after a cluster's read or write of the bytes. Finial clusters have no slice (R14): a write of
theirs recalls the sectors, a read snoops them. -/
def State.touch (s : State) (cl a n : Nat) (write : Bool) : State :=
  if !cachedLoc a then s
  else (sectorsOf a n).foldl (fun (st : State) sec =>
    if 160 ≤ cl then (if write then st.dirRecall sec else st.dirPeek sec)
    else if write then st.dirWrite sec cl else st.dirRead sec cl) s

end Sys2Proof.Machine
end

