-- ==== Sys2Proof/Machine/Ending.lean ====
section
/-! DEFINITION. Strand records (R120 to R124), and the ends of strands and kernels (R122, R366, R367, R422). -/
namespace Sys2Proof.Machine

/-! ### The strand record (R120) -/

/-- The location of a device-private address in a partition's window (R278). -/
def privLoc (part addr : Nat) : Nat := privBase part + addr % 2 ^ 47

/-- Word 0 of R120. -/
def recordWord0 (pc : Nat) (wpend chk ovl : Bool) : Nat :=
  pc % 2 ^ 57 + (if wpend then 2 ^ 57 else 0) + (if chk then 2 ^ 58 else 0) + (if ovl then 2 ^ 59 else 0)

/-- Word 1 of R120. -/
def recordWord1 (sid gid pri state rm sr : Nat) : Nat :=
  sid % 2 ^ 32 + gid % 2 ^ 16 * 2 ^ 32 + pri % 16 * 2 ^ 48 + state % 16 * 2 ^ 52 + rm % 8 * 2 ^ 56 + sr % 32 * 2 ^ 59

/-- R120: the `wpend` bit of a record. -/
def State.wpend (s : State) (loc : Nat) : Bool := decide (s.read loc 8 / 2 ^ 57 % 2 = 1)

/-- R122, R124: words 0 and 1 of a strand's record written with a program counter and a state. -/
def State.writeRecordWords (s : State) (loc : Nat) (t : Strand) (pc state : Nat) (wpend : Bool) : State :=
  s.write loc (natBytes 8 (recordWord0 pc wpend t.chk t.ovl) ++
    natBytes 8 (recordWord1 t.sid.toNat t.gid t.pri state t.rm.toNat t.sr.toNat))

/-- R124: a save: words 0 and 1, and g1 to g3 with their tags. -/
def State.saveRecord (s : State) (loc : Nat) (t : Strand) (pc state : Nat) (wpend : Bool) : State :=
  (((s.writeRecordWords loc t pc state wpend).writeTagged (loc + 16) (t.getG 1)).writeTagged (loc + 32)
    (t.getG 2)).writeTagged (loc + 48) (t.getG 3)

/-- The location of the record of a strand on a core. -/
def State.recordLoc (s : State) (k : Nat) (t : Strand) : Nat := privLoc ((s.partOfCore k).getD 0) t.record

/-! ### The end of a kernel (R367) -/

/-- R324, R329, R367: the event unit of a cluster cleared. -/
def Cluster.clearEvents (c : Cluster) : Cluster := { c with counters := [], mutexes := [], inboxes := [] }

/-- R290: the sectors of the rows that the copy engine of a cluster has still to write. -/
def Cluster.copySectors (c : Cluster) : List Nat :=
  c.copies.flatMap (fun m => rowSectors (m.rowsAt.filter (fun r => decide (m.row ≤ r.1))))

/-- R367, R199: a cluster freed by its kernel; its copy commands go on, with the lines that they own. -/
def Cluster.freed (c : Cluster) : Cluster :=
  { c.clearEvents with
    lease := { Lease.init with zs := c.lease.zs }, tileFail := [], cmds := [], owned := c.owned.filter (fun n => decide (n ∈ c.copySectors)), holder := none,
    loading := false }

/-- R367: a core of an ended kernel: its strands stop without a save, wire episodes are 0, its exchange ends. -/
def Core.stopped (c : Core) : Core :=
  { c with slots := [], seq := [], episodes := [], phase := none, transfers := [], held := [] }

/-- R150, R444: the access is posted: its strand goes on, and a refusal is reported later. -/
def AccessKind.posted : AccessKind → Bool
  | .store _ _ => true
  | .red _ _ _ => true
  | .shpStore _ => true
  | _ => false

/-- The group of a sender whose kernel has ended: no group has this number. -/
def endedGroup : Nat := 2 ^ 22

/-- An event or an arrival message. -/
def FlightKind.isEvent : FlightKind → Bool
  | .message _ _ => false
  | _ => true

/-- R367: what the strands of a group have still under way when their kernel ends: loads and refusals have no receiver,
and events and arrivals do not reach a later kernel; posted stores, messages and copies go on, and no later group is
answerable for them. -/
def State.orphan (s : State) (part gid : Nat) : State :=
  let mine (src : Sender) : Bool := decide (src.gid = gid) && decide (s.partOfCore src.core = some part)
  let off (src : Sender) : Sender := if mine src then { src with gid := endedGroup } else src
  { s with
    accesses := (s.accesses.filter (fun e => e.2.kind.posted || decide (e.2.gid ≠ gid) ||
        decide (s.partOfCore e.2.core ≠ some part))).map (fun e =>
      (e.1, if e.2.gid = gid ∧ s.partOfCore e.2.core = some part then { e.2 with gid := endedGroup } else e.2)),
    refusals := s.refusals.filter (fun e => !mine e.2.src),
    flights := (s.flights.filter (fun e => !(mine e.2.src && e.2.kind.isEvent))).map (fun e =>
      (e.1, { e.2 with src := off e.2.src })),
    clusters := s.clusters.map (fun c => (c.1, { c.2 with copies := c.2.copies.map (fun x => { x with src := off x.src }) })) }

/-- Word of a stage descriptor (R360). -/
def descWord (d : BitVec 512) (n : Nat) : Nat := (d.extractLsb' (64 * n) 64).toNat

/-- R367: a core of an ended stage: stopped, its input entry *idle*. -/
def Core.ended (c : Core) (g : Stage) : Core :=
  let w4 := descWord g.desc 4
  { c.stopped with chans := if w4 / 2 ^ 7 % 2 = 1 then kdel (w4 % 32) c.chans else c.chans }

/-- R367: the cores and clusters that one stage holds are freed, its input entries idle, its group gone. -/
def State.endStage (s : State) (part : Nat) (g : Stage) : State :=
  let held := g.clusters.filter (fun cl => g.group.isSome && decide ((s.cluster cl).holder = g.group))
  let s1 := held.foldl (fun (st : State) cl =>
    let st1 := (coresOfCluster cl).foldl (fun (u : State) k => u.updCore k (·.ended g)) st
    st1.updCluster cl Cluster.freed) s
  match g.group with
  | some gid => { s1 with groups := kdel (groupKey part gid) s1.groups }.orphan part gid
  | none => s1

/-- R366: the kernel has ended. -/
def KernelState.ended : KernelState → Bool
  | .complete => true
  | .failed => true
  | _ => false

/-- R199, R367: what one stage of an ended kernel holds in the save set of its context: no strand, input entry or event of
it comes back. -/
def SaveSet.endStage (x : SaveSet) (g : Stage) : SaveSet :=
  match g.group with
  | none => x
  | some gid =>
    let cls := (x.clusters.filter (fun c => decide (c.2.holder = some gid))).map (·.1)
    { x with
      clusters := x.clusters.map (fun c => if c.1 ∈ cls then (c.1, c.2.freed) else c),
      cores := x.cores.map (fun c => if clusterOf c.1 ∈ cls then (c.1, c.2.ended g) else c),
      flights := x.flights.filter (fun f => decide (f.2.src.gid ≠ gid) && decide (clusterOf f.2.dst ∉ cls)) }

/-- R413, R441: the context holds its partition's cores: it is *resident*, or has been fenced while it was, and runs on. -/
def State.holdsPart (s : State) (c : Context) : Bool :=
  decide (c.st = .resident) ||
    ((decide (c.st = .fenced) || decide (c.st = .bound)) && decide (((s.partition c.part).bind (·.resident)) = some (c.vf, c.pasid)))

/-- R413: the context goes *bound* when its last kernel has ended and no queue of it is *active* or *waiting*; a switch to
a switched-out context of the partition whose kernels still run is then pending (R414). -/
def State.contextIdle (s : State) (vf pasid : Nat) : State :=
  let busyK := s.kernels.any (fun e => decide (e.2.vf = vf) && decide (e.2.pasid = pasid) &&
    decide (e.2.st ≠ .complete) && decide (e.2.st ≠ .failed))
  let busyQ := s.queues.any (fun e => decide (e.1 / 256 = vf) && decide (e.2.pasid = pasid) &&
    (decide (e.2.st = .active) || decide (e.2.st = .waiting)))
  match s.context vf pasid with
  | some c =>
    if s.holdsPart c && !busyK && !busyQ then
      let s1 := s.updContext vf pasid (fun x => { x with st := if x.st = .resident then .bound else x.st })
      let parked := (s.contexts.find? (fun e => decide (e.2.part = c.part) && decide (e.2.st = .switchedOut) &&
        s.kernels.any (fun k => decide (ctxKey k.2.vf k.2.pasid = e.1) && decide (k.2.st ≠ .complete) && decide (k.2.st ≠ .failed)))).map (·.2)
      s1.updPartition c.part (fun p =>
        { p with resident := none,
                 pending := match p.pending, parked with
                   | none, some x => some (.switch x.vf x.pasid)
                   | y, _ => y })
    else s
  | none => s

/-- R366, R367: a kernel ends with an outcome: cause 0 for *complete*. -/
def State.endKernel (s : State) (n cause : Nat) (stage : Option Nat) (value : Word) : State :=
  match s.kernel n with
  | none => s
  | some k =>
    if k.st = .complete ∨ k.st = .failed then s
    else
      let s0 := k.stages.foldl (fun (st : State) g => st.endStage k.part g) s
      let s1 := s0.updContext k.vf k.pasid (fun c =>
        { c with save := c.save.map (fun x => k.stages.foldl SaveSet.endStage x) })
      let s2 := s1.updKernel n (fun x =>
        { x with st := if cause = 0 then .complete else .failed, cause := cause, causeStage := stage, value := value })
      (s2.dropEnded s).contextIdle k.vf k.pasid

/-- R366: the live count of every stage of a kernel is 0: it is *draining*. -/
def State.noteDrained (s : State) (n : Nat) : State :=
  match s.kernel n with
  | none => s
  | some k =>
    if k.st = .running ∧ k.stages.all (fun g => (((g.group.bind (s.group k.part)).map (·.live)).getD 0) = 0) then
      s.updKernel n (fun x => { x with st := .draining })
    else s

/-- R122, R219, R290: words 0 and 1 of the record of a strand that faults; the write waits for a line that an engine holds. -/
def State.writeFaultRecord (s : State) (k : Nat) (t : Strand) (pc : Nat) : State :=
  let loc := s.recordLoc k t
  if s.linesHeld (clusterOf k) loc 16 true then
    { s with ridgeQ := s.ridgeQ ++ [.bytes loc (natBytes 8 (recordWord0 pc (s.wpend loc) t.chk t.ovl) ++
        natBytes 8 (recordWord1 t.sid.toNat t.gid t.pri 5 t.rm.toNat t.sr.toNat))] }
  else s.writeRecordWords loc t pc 5 (s.wpend loc)

/-- R122, R422: a strand faults: words 0 and 1 of its record hold the program counter of the fault, the slot is
freed, the live count falls, and the kernel fails with the cause. -/
def State.faultStrand (s : State) (k sl cause : Nat) (val : Word) (pc : Nat) : State :=
  match s.strand k sl with
  | none => s
  | some t =>
    match s.groupOn k t.gid with
    | none => s.clearSlot k sl
    | some g =>
      let s1 := (s.writeFaultRecord k t.settleAll pc).clearSlot k sl
      let s2 := s1.updGroupOn k t.gid (fun x => { x with live := x.live - 1 })
      s2.endKernel g.kernel cause (some g.stage) val

/-- R150: the refusal of a posted request is on its way back to its sender. -/
def State.refuse (s : State) (src : Sender) (cause : Nat) (val : Word) : State :=
  { s with refusals := kset s.nextAccess ⟨src, cause, val⟩ s.refusals, nextAccess := s.nextAccess + 1 }

/-- The strand of a slot as a sender. -/
def State.sender (s : State) (k sl : Nat) : Sender :=
  match s.strand k sl with
  | some t => ⟨k, sl, t.sid, t.gid, t.pc.toNat, t.record⟩
  | none => ⟨k, sl, 0#32, 0, 0, 0⟩

/-- A value that the spec leaves open for TRAPVAL: a free one. -/
def State.freeWord (s : State) : Word × State := (Config.freeWord s.fresh, { s with fresh := s.fresh + 1 })

end Sys2Proof.Machine
end

