-- ==== Sys2Proof/Machine/Ops.lean ====
section
/-! DEFINITION. How an instruction runs: the outcome of its meaning (R8), completing an issue (R68, R135), taking a trap
(R420 to R422) and the return from one (R432), waiting (R127). -/
namespace Sys2Proof.Machine

/-- How a meaning ends without completing. -/
inductive Stop where
  /-- R8: a trap with a cause and TRAPVAL; the return address is the instruction -/
  | trap (cause : Nat) (val : Word)
  /-- R431: a trap whose return address is the next instruction -/
  | trapNext (cause : Nat) (val : Word)
  /-- R65: the register read before its fixed-latency result is available, where the strand checks stalls -/
  | undersized (reg : Nat)
  /-- the instruction has not issued: it waits, and has done nothing but pop the sources that it keeps (R63, R127) -/
  | wait (kind : WaitKind)
  /-- the same, but what it has asked for stands: a translation, a place in a queue -/
  | waitDo (kind : WaitKind) (ask : State → State)

/-- Where a completed instruction leaves its strand. -/
inductive Flow where
  /-- at the next instruction -/
  | next
  /-- at an address, under a program counter capability -/
  | jump (pcc : TV)
  /-- out of its slot -/
  | left
  deriving DecidableEq, Repr

/-- A meaning: it reads and changes the state, and ends in a flow or a stop. -/
abbrev M := EStateM Stop State

/-- R8: Trap(cause) with TRAPVAL. -/
def trap {α : Type} (cause : Nat) (val : Word) : M α := throw (.trap cause val)

/-- R8: a trap whose rule states no TRAPVAL. -/
def trapOpen {α : Type} (cause : Nat) : M α := fun s => .error (.trap cause s.freeWord.1) s.freeWord.2

def waitFor {α : Type} (k : WaitKind) : M α := throw (.wait k)

/-- The strand whose instruction runs. -/
def State.cur (s : State) : Option Strand := s.strand s.turn.1 s.turn.2

/-- The strand and core whose instruction runs. -/
def getStrand : M Strand := fun s =>
  match s.cur with
  | some t => .ok t s
  | none => .error (.wait .inSlot) s

def getCore : M Core := fun s => .ok (s.core s.turn.1) s

/-- The number of the core whose instruction runs. -/
def self : M Nat := fun s => .ok s.turn.1 s

def modStrand (f : Strand → Strand) : M Unit := fun s => .ok () (s.updStrand s.turn.1 s.turn.2 f)

def modCore (f : Core → Core) : M Unit := fun s => .ok () (s.updCore s.turn.1 f)

def modState (f : State → State) : M Unit := fun s => .ok () (f s)

/-! ### Completing an issue -/

/-- The program counter moved by sequential execution or a jump, with PCC's base kept (R96). -/
def Strand.setPc (t : Strand) (a : Nat) : Strand := { t with pcc := setAddr t.pcc (a % 2 ^ 64) }

/-- R57, R135: the strand after an instruction that does not jump: the next word, or the next pass of a `rep`. -/
def Strand.advance (t : Strand) : Strand :=
  let pc := t.pc.toNat
  match t.rep with
  | none => t.setPc (pc + 4)
  | some r =>
    if (pc - r.start) / 4 + 1 < r.n then t.setPc (pc + 4)
    else if r.pass + 1 < r.count then { t.setPc r.start with rep := some { r with pass := r.pass + 1 } }
    else { t.setPc (r.start + 4 * r.n) with rep := none }

/-- R68, R127: the marks of an instruction that has issued at cycle `now` with stall count `sc`; a push of it that
blocks keeps the count. -/
def Strand.issued (t : Strand) (now sc : Nat) : Strand :=
  { t with nextIssue := now + 1 + sc, wait := none, granted := none, popped := [],
           pendPush := t.pendPush.map (fun p => { p with sc := sc }) }

/-- R68, R428: a completed instruction. -/
def finish (flow : Flow) (sc : Nat) (s : State) : State :=
  let s1 := s.updCore s.turn.1 (fun c => { c with retired := c.retired + 1 })
  match flow with
  | .next => s1.updStrand s.turn.1 s.turn.2 (fun t => t.advance.issued s.now sc)
  | .jump p => s1.updStrand s.turn.1 s.turn.2 (fun t => ({ t with pcc := p }).issued s.now sc)
  | .left => s1

/-! ### Traps -/

/-- R421: the cause may be delivered to TRAPVEC. -/
def deliverable (t : Strand) (cause : Nat) : Bool :=
  decide (cause = 0x07) || decide (cause = 0x09) || decide (cause = 0x0A) || (decide (cause = 0x08) && t.ovl)

/-- R188: the entries that a `vloop` still holds are released unrun when its body does not complete. -/
def Core.dropHeld (c : Core) (sl : Nat) : Core :=
  { c with seq := c.seq.filter (fun e => !(e.held && decide (e.slot = sl))) }

/-- R421: a trap with cause, value and return address is delivered to TRAPVEC or faults the strand (R422). An
instruction that traps applies no stall count (R68), and the remaining passes of a `rep` are abandoned (R136). A
fault records the trapping instruction at `pc` (R122). -/
def takeTrap (cause : Nat) (val : Word) (pc ret : Nat) (s : State) : State :=
  let k := s.turn.1
  let sl := s.turn.2
  match s.cur with
  | none => s
  | some t =>
    let vec := (s.core k).trapVec
    if deliverable t cause && decide (vec ≠ 0#64) && decide (t.trapCause = 0#8) then
      let u := { t.settleAll with
        trapPc := BitVec.ofNat 64 ret, trapCause := BitVec.ofNat 8 cause, trapVal := val, rep := none, loop := none }
      (s.setStrand k sl ((u.setPc vec.toNat).issued s.now 0)).updCore k (·.dropHeld sl)
    else s.faultStrand k sl cause val pc

/-- R432: the return from a delivered trap: TRAPPC is the target, TRAPCAUSE becomes 0. -/
def returnFromTrap (word : Word) : M Flow := do
  let t ← getStrand
  if t.trapCause = 0#8 then trap 0x01 word
  let a := t.trapPc
  if a.toNat % 4 ≠ 0 then trap 0x06 a
  if (a.toNat : Int) < capBase t.pcc || (a.toNat : Int) + 4 > capTop t.pcc then trap 0x04 a
  modStrand (fun t => { t with trapCause := 0#8 })
  return .jump (setAddr t.pcc a.toNat)

/-! ### Running a meaning -/

/-- R127: the waiting strand: the wait began when it was first met. -/
def Strand.waiting (t : Strand) (k : WaitKind) (now : Nat) : Strand :=
  match t.wait with
  | some w => { t with wait := some (if w.kind = k then { w with tried := now } else ⟨k, now, now, 0⟩) }
  | none => { t with wait := some ⟨k, now, now, 0⟩ }

/-- The strand's instruction waits in one of the given ways: it has passed what it checks as it issues. -/
def Strand.waitsIn (t : Strand) (ks : List WaitKind) : Bool :=
  match t.wait with
  | some w => decide (w.kind ∈ ks)
  | none => false

/-- A completed wait: its result, and another attempt in this cycle. -/
def Strand.release (t : Strand) (v : Word) : Strand := { t with granted := some v, wait := t.wait.map (fun w => { w with tried := 0 }) }

/-- R65, R68: what becomes of an instruction that reads a register before its result is available. It is no reader while
it would not issue: where its meaning, run on the values that stand, waits, it waits and asks for nothing; else it traps
with 0x07. -/
def undersizedStop (reg : Nat) (m : M Flow) (s1 s2 : State) (pc : Nat) : State :=
  match m (s1.updStrand s1.turn.1 s1.turn.2 (fun t => { t with chk := false })) with
  | .error (.wait _) _ | .error (.waitDo _ _) _ => s2.updStrand s2.turn.1 s2.turn.2 (·.waiting .inSlot s2.now)
  | _ => takeTrap 0x07 (BitVec.ofNat 64 reg) pc pc s2

/-- One instruction of the strand whose turn it is: settle its registers, run the meaning, then complete, trap or wait.
A wait changes nothing but the wait itself and the sources popped, which the strand keeps; no meaning changes anything
else before it waits. A strand whose push blocks waits (R63). -/
def runInstr (sc : Nat) (m : M Flow) (s : State) : Host.Outcome State Fault Refusal :=
  match s.cur with
  | none => .fault .noStrand
  | some t =>
    let pc := t.pc.toNat
    let s1 := s.setStrand s.turn.1 s.turn.2 (t.settle s.now)
    if t.pendPush.isSome then .next (s1.updStrand s.turn.1 s.turn.2 (·.waiting .inSlot s.now))
    else
      match m s1 with
      | .ok flow s2 => .next (finish flow sc s2)
      | .error (.trap c v) s2 => .next (takeTrap c v pc pc s2)
      | .error (.trapNext c v) s2 => .next (takeTrap c v pc (pc + 4) s2)
      | .error (.undersized r) s2 => .next (undersizedStop r m s1 s2 pc)
      | .error (.waitDo k ask) s2 => .next ((ask s2).updStrand s.turn.1 s.turn.2 (·.waiting k s.now))
      | .error (.wait k) s2 => .next (s2.updStrand s.turn.1 s.turn.2 (·.waiting k s.now))

/-- An event: its new state, or no change where it is not enabled (R4). -/
def runEvent (r : Option State) (s : State) : Host.Outcome State Fault Refusal := .next (r.getD s)

end Sys2Proof.Machine
end

