-- ==== Sys2Proof/Machine/Flags.lean ====
section
/-! DEFINITION. The status register of a strand (R426), its sticky flags (R54 to R56), its rounding mode (R38) and the
draws of stochastic rounding (R45, R46). -/
namespace Sys2Proof.Machine

/-- R426: STATUS as a word. -/
def Strand.status (t : Strand) : Word :=
  BitVec.ofNat 64 ((if t.chk then 1 else 0) + t.rm.toNat * 2 + t.sr.toNat * 16 + (if t.ovl then 512 else 0))

/-- R38, R426: the stored rounding mode; 5 to 7 store 0. -/
def rmStore (n : Nat) : BitVec 3 := if n ≤ 4 then BitVec.ofNat 3 n else 0#3

/-- R426: STATUS written from a word. -/
def Strand.setStatus (t : Strand) (w : Word) : Strand :=
  { t with chk := w.getLsbD 0, rm := rmStore (w.toNat / 2 % 8), sr := w.extractLsb' 4 5, ovl := w.getLsbD 9 }

/-- R54: flags joined to the sticky flags of a strand. -/
def Strand.orFlags (t : Strand) (f : FlagSet) : Strand := { t with sr := t.sr ||| f }

/-- R55: the flags of the instruction that runs are set. -/
def setFlags (f : FlagSet) : M Unit := modStrand (·.orFlags f)

/-- R55, R65: flags set together with a result that is available at cycle `avail`. -/
def Strand.pendFlags (t : Strand) (avail : Nat) (f : FlagSet) : Strand :=
  if f = 0#5 then t else { t with pendFl := t.pendFl ++ [(avail, f)] }

/-- R38: the rounding mode that the strand's STATUS names. -/
def Strand.mode (t : Strand) : RMode := RMode.ofCode t.rm.toNat

/-- R45, R46: the draw of a scalar rounding: one draw under SR, none otherwise. -/
def takeDraw (rm : RMode) : M Nat := do
  if rm = .sr then
    let c ← getCore
    modCore (fun c => { c with srSeed := lfsrSkip 1 c.srSeed })
    return lfsrDraw c.srSeed
  else return 0

/-- R46: a write of SRSEED: the low 32 bits, 1 where they are zero. -/
def seedStore (w : Word) : BitVec 32 := if w.setWidth 32 = 0#32 then 1#32 else w.setWidth 32

/-- R243: a write of TIESEED: 1 where it is zero. -/
def tieStore (w : Word) : BitVec 64 := if w = 0#64 then 1#64 else w

end Sys2Proof.Machine
end

