-- ==== Sys2Proof/Machine/Port.lean ====
section
/-! DEFINITION. Channels at their home ports (R251 to R257), the inbox (R268), the gutter (R277), and the command and
status ports of the copy engine (R269 to R271). -/
namespace Sys2Proof.Machine

/-! ### Entries (R253) -/

/-- R253: the number of consecutive filled slots from slot `i`. -/
def filledRun (cap : Nat) (filled : List Nat) : Nat → Nat → Nat
  | 0, _ => 0
  | n + 1, i => if i ∈ filled then filledRun cap filled n ((i + 1) % cap) + 1 else 0

/-- R253: the filled count F. -/
def Chan.count (c : Chan) : Nat := filledRun c.cap c.filled c.filled.length c.head

/-- R253: the slot at tail reserved. -/
def Chan.reserve (c : Chan) : Chan :=
  { c with free := c.free - 1, tail := (c.tail + 1) % c.cap, reserved := sadd c.tail c.reserved }

/-- R253: a reserved slot becomes filled. -/
def Chan.fill (c : Chan) (i : Nat) : Chan := { c with reserved := sdel i c.reserved, filled := sadd i c.filled }

/-- R253: the slot at head taken. -/
def Chan.take (c : Chan) : Chan := { c with head := (c.head + 1) % c.cap, filled := sdel c.head c.filled }

/-- R253: a taken slot released. -/
def Chan.release (c : Chan) : Chan := { c with free := c.free + 1 }

/-- R252: an entry opened. -/
def Chan.opened (base size cap : Nat) : Chan := ⟨base, size, cap, 0, 0, cap, [], [], 1⟩

/-- The open entry of a core. -/
def State.chan (s : State) (h e : Nat) : Option Chan := kfind e (s.core h).chans

def State.setChan (s : State) (h e : Nat) (c : Chan) : State := s.updCore h (fun k => { k with chans := kset e c k.chans })

/-- R253: the location of part `p` of slot `i`. -/
def Chan.partLoc (c : Chan) (h i p : Nat) : Nat := spadBase h + c.base + i * c.size + 16 * p

/-- Parts of a slot. -/
def Chan.parts (c : Chan) : Nat := c.size / 16

/-- R256: 128 bits written with the tag cleared. -/
def State.writePart (s : State) (a : Nat) (v : BitVec 128) : State := s.writeTagged a ⟨v, false⟩

/-! ### Gates (R396, R403) -/

/-- R396: the region refuses packets: its gate is closed, or it is gated. -/
def State.regionShut (s : State) (r : Nat) : Bool := !(s.region r).gate || decide ((s.region r).st = .gated)

/-- R396, R403: the refusal of a data access of core `k` whose home is core `h`: the gates of their two regions are looked
at, not that of a region which the route only crosses (DESIGN CHOICE, log 64). -/
def State.homeRefusal (s : State) (k h : Nat) : Option Nat :=
  if regionOf k = regionOf h then none
  else if ((regionOf h).map s.regionShut).getD false || ((regionOf k).map s.regionShut).getD false then some 0x10
  else if s.partOfCore k ≠ s.partOfCore h then some 0x11
  else none

/-- R403, R404: the refusal of a message, event or push of core `k` for core `h`: the gate first, then the window. -/
def State.messageRefusal (s : State) (k h : Nat) : Option Nat :=
  if regionOf k = regionOf h then none
  else if ((regionOf h).map s.regionShut).getD false || ((regionOf k).map s.regionShut).getD false then some 0x10
  else if s.partOfCore k = s.partOfCore h then none
  else if clusterOf h ∈ (s.cluster (clusterOf k)).perm then none
  else some 0x11

/-- R396, R404: a push that its destination's gate refuses changes nothing; the refusal is on its way back. -/
def State.pushRefused (s : State) (k sl h : Nat) : State :=
  s.freeWord.2.refuse (s.sender k sl) ((s.messageRefusal k h).getD 0x10) s.freeWord.1

/-! ### Command words (R270) -/

/-- A field of word 1. -/
def CopyCmd.field (c : CopyCmd) (lo w : Nat) : Nat := c.word1.toNat / 2 ^ lo % 2 ^ w

def CopyCmd.cop (c : CopyCmd) : Nat := c.field 0 4
def CopyCmd.rop (c : CopyCmd) : Nat := c.field 4 2
def CopyCmd.wide (c : CopyCmd) : Bool := decide (c.field 6 1 = 1)
def CopyCmd.quiet (c : CopyCmd) : Bool := decide (c.field 7 1 = 1)
def CopyCmd.keepTags (c : CopyCmd) : Bool := decide (c.field 8 1 = 1)
def CopyCmd.len (c : CopyCmd) : Nat := c.field 36 20
def CopyCmd.strided (c : CopyCmd) : Bool := decide (c.cop = 2) || decide (c.cop = 3)
def CopyCmd.reduces (c : CopyCmd) : Bool := decide (c.cop = 4) || decide (c.cop = 6)
def CopyCmd.segment (c : CopyCmd) : Bool := decide (c.cop = 5) || decide (c.cop = 6)
def CopyCmd.gets (c : CopyCmd) : Bool := decide (c.cop = 1) || decide (c.cop = 3)
def CopyCmd.rows (c : CopyCmd) : Nat := if c.strided then c.field 64 16 + 1 else 1

/-- The pieces of bytes `[x, x + n)` by 4 KiB page; a device-local row is one piece. -/
def rowPieces : Nat → Nat → Nat → List (Nat × Nat)
  | 0, _, _ => []
  | f + 1, x, n =>
    if n = 0 then []
    else if 2 ^ 63 ≤ x then [(x, n)]
    else
      let m := min n (4096 - x % 4096)
      (x, m) :: rowPieces f (x + m) (n - m)

/-- A field read as a signed number. -/
def signedField (v w : Nat) : Int := if 2 ^ (w - 1) ≤ v then (v : Int) - 2 ^ w else v

/-- R271: the offset of local row `r`. -/
def CopyCmd.localRow (c : CopyCmd) (r : Nat) : Int :=
  (c.field 16 19 : Int) + (if c.strided then (r : Int) * signedField (c.field 80 16) 16 else 0)

/-- R271: the address of remote row `r`. -/
def CopyCmd.remoteRow (c : CopyCmd) (r : Nat) : Int :=
  (capAddr c.remote : Int) + (if c.strided then (r : Int) * signedField (c.field 96 32) 32 else 0)

/-- The pieces of remote row `r`. -/
def CopyCmd.pieces (c : CopyCmd) (r : Nat) : List (Nat × Nat) := rowPieces 200 (c.remoteRow r % 2 ^ 64).toNat c.len

/-! ### Room (R253, R268, R277) -/

/-- An item of the gutter is for this entry. -/
def GutterItem.forEntry (e : Nat) : GutterItem → Bool
  | .part x _ _ _ _ _ => decide (x = e)
  | .whole x _ _ _ => decide (x = e)
  | .message m => decide (m.entry = e)
  | .status _ => false

/-- An item of the gutter is a status word. -/
def GutterItem.isStatus : GutterItem → Bool
  | .status _ => true
  | _ => false

/-- R277: the bytes that an item takes of the gutter. -/
def GutterItem.bytes : GutterItem → Nat
  | .whole _ _ _ b => b.length
  | _ => 16

/-- R277, R417: the gutter of a core has room for `n` more bytes. -/
def State.gutterRoom (s : State) (h n : Nat) : Bool :=
  decide ((((s.core h).gutter.map (·.bytes)).sum) + n ≤ s.gutterOf h)

/-- R253: the places in the order of arrival of the pushes that wait for the entry that a binding names. -/
def State.pushesWaiting (s : State) (b : QBind) : List Nat :=
  s.cores.flatMap (fun c => c.2.slots.filterMap (fun e =>
    e.2.pendPush.bind (fun p =>
      match kfind p.q e.2.q with
      | some x => if x.kind = b.kind ∧ x.home = b.home ∧ x.entry = b.entry ∧ x.pos = 0 then p.arrival else none
      | none => none)))

/-- R253, R268, R277: nothing that reached the port before arrival `n` still waits for entry `e` of core `h`: in the
gutter, in the inbox, or blocked at its sender. -/
def State.portTurn (s : State) (h e n : Nat) : Bool :=
  !(s.core h).gutter.any (·.forEntry e) &&
    (s.core h).inbox.all (fun m => decide (m.entry ≠ e) || decide (n ≤ m.arrival)) &&
    (s.pushesWaiting ⟨.channel, h, e, false, 0, 0, TV.zero, 0⟩).all (fun a => decide (n ≤ a))

/-- R253, R277: the places in the order of arrival of the pushes that wait at the port of a core. -/
def State.pushesAt (s : State) (h : Nat) : List Nat :=
  s.cores.flatMap (fun c => c.2.slots.filterMap (fun e =>
    e.2.pendPush.bind (fun p =>
      match kfind p.q e.2.q with
      | some x => if x.kind = .channel ∧ x.home = h then p.arrival else none
      | none => none)))

/-- R277: nothing that reached the port of core `h` before arrival `n` still waits there, the gutter apart. -/
def State.frontOfPort (s : State) (h n : Nat) : Bool :=
  (s.core h).inbox.all (fun m => decide (n ≤ m.arrival)) && (s.pushesAt h).all (fun a => decide (n ≤ a))

/-- R17, R277, R322: the packet is on its way, in the order of its pair: no arrival message of a planisher, which waits there
in a class of its own, and no message that the full gutter of its core holds at its sender. -/
def State.underWay (s : State) (f : Flight) : Bool :=
  match f.kind with
  | .arrival _ _ => false
  | .event _ _ => true
  | .message _ _ => !(s.core f.dst).frozen || s.gutterRoom f.dst 16

/-- R17: a packet of core `k` to core `h` is still on its way. -/
def State.inFlight (s : State) (k h : Nat) : Bool :=
  s.flights.any (fun f => decide (f.2.src.core = k) && decide (f.2.dst = h) && s.underWay f.2)

/-- R268: messages on their way to a core, and those in its inbox. -/
def State.messagesFor (s : State) (h : Nat) : Nat :=
  (s.core h).inbox.length + (s.flights.filter (fun f => decide (f.2.dst = h) &&
    (match f.2.kind with | .message _ _ => true | _ => false))).length

/-- R268: a message enters the inbox of a core, with its place in the order of arrival. -/
def State.enterInbox (s : State) (h : Nat) (m : Message) : State :=
  { s.updCore h (fun c => { c with inbox := c.inbox ++ [{ m with arrival := s.nextAccess }] }) with nextAccess := s.nextAccess + 1 }

/-- The copy commands that a strand has pushed, as far as they are not complete. -/
def State.copiesOf (s : State) (k sl : Nat) : List CopyCmd :=
  let me := s.sender k sl
  s.clusters.flatMap (fun e => e.2.copies.filter (fun c => decide (c.src.sid = me.sid) && decide (c.src.gid = me.gid) &&
    decide (s.partOfCore c.src.core = s.partOfCore k)))

/-! ### Pushes and pops of one part -/

/-- R277: the first part of the slot that a sender's later part belongs to waits in the gutter. -/
def firstWaits (src : Sender) (q : Nat) (l : List GutterItem) : Bool :=
  l.any (fun x => match x with
    | .part _ d q' p _ _ => decide (d.core = src.core) && decide (d.slot = src.slot) && decide (d.sid = src.sid) &&
        decide (d.gid = src.gid) && decide (q' = q) && decide (p = 0)
    | _ => false)

/-- The binding of a queue register changed. -/
def Strand.setBind (t : Strand) (q : Nat) (b : QBind) : Strand := { t with q := kset q b t.q }

/-- R269, R270: the commands that take the 16 places of a cluster's command port: accepted and not yet complete, or with
their first part pushed. A place is free again once its command has completed (DESIGN CHOICE, log 62). -/
def State.commandsHeld (s : State) (cl : Nat) : Nat :=
  ((s.cluster cl).copies.length) +
    ((coresOfCluster cl).map (fun k => ((s.core k).slots.map (fun e =>
      (e.2.q.filter (fun b => decide (b.2.kind = .command) && decide (b.2.pos = 1))).length)).sum)).sum

/-- R270, R271: a command accepted at a cluster's command port from its two parts. -/
def State.acceptCopy (s : State) (cl : Nat) (src : Sender) (word0 : TV) (word1 : BitVec 128) (seq : Nat) : State :=
  { s.updCluster cl (fun c => { c with copies := c.copies ++
      [⟨s.nextAccess, src, s.ctxIds src.core, word0, word1, seq % 2 ^ 16, false, [], 0, 0, 0, 0#5, 0, none, false, none⟩] }) with nextAccess := s.nextAccess + 1 }

/-- R253, R270: one part pushed through a binding of the strand in slot `sl` of core `k`; none while it must wait. `n` is
its place in the order of arrival at the port. A push whose entry is no longer *open* is refused with 0x14, as a message
is (DEDUCED, log 62). -/
def State.pushPart (s : State) (k sl q n : Nat) (v : TV) : Option State :=
  match s.strand k sl with
  | none => none
  | some t =>
    match kfind q t.q with
    | none => none
    | some b =>
      match b.kind with
      | .status => none
      | .command =>
        if b.pos = 0 then
          if s.commandsHeld b.home < 16 ∧ (s.pushesWaiting b).all (fun a => decide (n ≤ a)) then some (s.setStrand k sl (t.setBind q { b with pos := 1, part0 := v }))
          else none
        else
          some ((s.setStrand k sl (t.setBind q { b with pos := 0, part0 := TV.zero, count := b.count + 1 })).acceptCopy
            b.home (s.sender k sl) b.part0 v.bits b.count)
      | .channel =>
        if s.inFlight k b.home then none
        else if (s.messageRefusal k b.home).isSome then some (s.pushRefused k sl b.home)
        else
        match s.chan b.home b.entry with
        | none => some (s.refuse (s.sender k sl) 0x14 (BitVec.ofNat 64 q))
        | some c =>
          if (s.core b.home).frozen then
            -- R277: the part is answered as soon as it is in the gutter; a later part keeps the slot that its first reserved
            if !s.gutterRoom b.home 16 || !s.frontOfPort b.home n then none
            else
            let me := s.sender k sl
            let tgt := if b.pos = 0 ∨ firstWaits me q (s.core b.home).gutter then none else some b.slot
            let s1 := s.updCore b.home (fun x => { x with gutter := x.gutter ++ [.part b.entry me q b.pos tgt v.bits] })
            some (s1.setStrand k sl (t.setBind q { b with pos := (b.pos + 1) % c.parts }))
          else if b.pos = 0 then
            if c.free = 0 || !s.portTurn b.home b.entry n then none
            else
              let i := c.tail
              let c1 := c.reserve
              let c2 := if c.parts = 1 then c1.fill i else c1
              some (((s.setChan b.home b.entry c2).writePart (c.partLoc b.home i 0) v.bits).updStrand k sl
                (·.setBind q { b with pos := 1 % c.parts, slot := i }))
          else if (s.core b.home).gutter.any (·.forEntry b.entry) then none
          else
            let c2 := if b.pos + 1 = c.parts then c.fill b.slot else c
            some (((s.setChan b.home b.entry c2).writePart (c.partLoc b.home b.slot b.pos) v.bits).updStrand k sl
              (·.setBind q { b with pos := (b.pos + 1) % c.parts }))

/-- R253, R269: one part popped through a binding; none while its channel is empty. Channels carry no tags (R256). -/
def State.popPart (s : State) (k sl q : Nat) : Option (TV × State) :=
  match s.strand k sl with
  | none => none
  | some t =>
    match kfind q t.q with
    | none => none
    | some b =>
      match b.kind with
      | .command => none
      | .status =>
        let cl := clusterOf b.home
        match kget [] (slotInCluster b.home) (s.cluster cl).status with
        | [] => none
        | w :: ws =>
          some (⟨w, false⟩, s.updCluster cl (fun c => { c with status := kput [] (slotInCluster b.home) ws c.status }))
      | .channel =>
        match s.chan b.home b.entry with
        | none => none
        | some c =>
          if b.pos = 0 then
            if c.count = 0 then none
            else
              let i := c.head
              let c1 := c.take
              let c2 := if c.parts = 1 then c1.release else c1
              some (⟨(s.readTagged (c.partLoc b.home i 0)).bits, false⟩,
                (s.setChan b.home b.entry c2).setStrand k sl (t.setBind q { b with pos := 1 % c.parts, slot := i }))
          else
            let c2 := if b.pos + 1 = c.parts then c.release else c
            some (⟨(s.readTagged (c.partLoc b.home b.slot b.pos)).bits, false⟩,
              (s.setChan b.home b.entry c2).setStrand k sl (t.setBind q { b with pos := (b.pos + 1) % c.parts }))

/-- R266, R267: one whole slot placed in an open entry with room. -/
def State.placeSlot (s : State) (h e : Nat) (bytes : List Byte) : Option State :=
  match s.chan h e with
  | none => none
  | some c =>
    if c.free = 0 then none
    else
      let i := c.tail
      some ((s.setChan h e (c.reserve.fill i)).write (c.partLoc h i 0) (bytes ++ List.replicate (c.size - bytes.length) 0#8))

/-! ### The gutter (R277) -/

/-- The first part of a slot has been given slot `i`: the later parts of the same slot in the gutter go there. -/
def retarget (c : Sender) (q i : Nat) : List GutterItem → List GutterItem
  | [] => []
  | .part e d q' p t v :: r =>
    if c.core = d.core ∧ c.slot = d.slot ∧ q' = q then
      if p = 0 then .part e d q' p t v :: r
      else .part e d q' p (some i) v :: retarget c q i r
    else .part e d q' p t v :: retarget c q i r
  | x :: r => x :: retarget c q i r

/-- What one replay step does with an item: replayed with its new state, and the slot a first part has reserved;
still waiting; or dropped because its entry is not open. -/
inductive Replayed where
  | done (s : State) (slot : Option Nat)
  | waits
  | dropped
  deriving DecidableEq, Repr

/-- The sender's binding learns the slot that its first part reserved, where it is still inside that slot. -/
def State.bindSlot (s : State) (k sl q h e i : Nat) : State :=
  s.updStrand k sl (fun t =>
    match kfind q t.q with
    | some b => if b.home = h ∧ b.entry = e ∧ b.pos ≠ 0 then t.setBind q { b with slot := i } else t
    | none => t)

/-- R277, R253: one item replayed into its entry. -/
def State.replayItem (s : State) (h : Nat) (x : GutterItem) : Replayed :=
  match x with
  | .part e c0 q p tgt v =>
    let k := c0.core
    let sl := c0.slot
    match s.chan h e with
    | none => .dropped
    | some c =>
      if p = 0 then
        if c.free = 0 then .waits
        else
          let i := c.tail
          let c1 := if c.parts = 1 then c.reserve.fill i else c.reserve
          .done (((s.setChan h e c1).writePart (c.partLoc h i 0) v).bindSlot k sl q h e i) (some i)
      else
        let i := tgt.getD c.tail
        let c1 := if p + 1 = c.parts then c.fill i else c
        .done ((s.setChan h e c1).writePart (c.partLoc h i p) v) none
  | .whole e _ _ bytes =>
    if (s.chan h e).isNone then .dropped
    else match s.placeSlot h e bytes with
      | some s' => .done s' none
      | none => .waits
  | .message m =>
    if (s.chan h m.entry).isNone then .dropped
    else match s.placeSlot h m.entry (natBytes 16 m.val.toNat) with
      | some s' => .done s' none
      | none => .waits
  | .status v =>
    if 16 ≤ (kget [] (slotInCluster h) (s.cluster (clusterOf h)).status).length then .waits
    else .done (s.updCluster (clusterOf h) (fun c =>
      { c with status := kput [] (slotInCluster h) (kget [] (slotInCluster h) c.status ++ [v]) c.status })) none

/-- The entry that an item is for, if any. -/
def GutterItem.entry? : GutterItem → Option Nat
  | .part e _ _ _ _ _ => some e
  | .whole e _ _ _ => some e
  | .message m => some m.entry
  | .status _ => none

/-- R273: the command still waits for its segment slot to be placed. -/
def CopyCmd.awaitsSlot (c x : CopyCmd) : Bool := decide (x.id = c.id) && x.seg && x.status.isSome

/-- R273: the segment slot of a command has been placed, or has entered the gutter. -/
def State.segmentPlaced (s : State) (m : Message) : State :=
  match m.engine with
  | none => s
  | some c => s.updCluster (clusterOf c.src.core) (fun x =>
      { x with copies := x.copies.map (fun y => if c.awaitsSlot y then { y with seg := false } else y) })

/-- R273, R277: a message whose entry is not open is reported: to its sender, or, a segment, by a failure status of its
command. -/
def State.reportDropped (s : State) (m : Message) : State :=
  match m.engine with
  | none => s.refuse m.src 0x14 m.addr
  | some c => s.updCluster (clusterOf c.src.core) (fun x =>
      if x.copies.any c.awaitsSlot then
        { x with copies := x.copies.map (fun y => if c.awaitsSlot y then { y with status := some (0x14, m.addr.toNat), seg := false } else y) }
      else { x with copies := x.copies ++ [{ c with status := some (0x14, m.addr.toNat), seg := false }] })

/-- R277 items 3 to 5: the gutter replayed in arrival order; an item that must wait holds back the later items of its
entry only. `kept` are the items that still wait, latest first. -/
def State.replayGutter (h : Nat) : Nat → List GutterItem → List GutterItem → State → State
  | 0, items, kept, s => s.updCore h (fun c => { c with gutter := kept.reverse ++ items })
  | _ + 1, [], kept, s => s.updCore h (fun c => { c with gutter := kept.reverse })
  | n + 1, x :: r, kept, s =>
    if x.entry?.isSome && kept.any (fun y => decide (y.entry? = x.entry?)) then State.replayGutter h n r (x :: kept) s
    else
      match s.replayItem h x with
      | .waits => State.replayGutter h n r (x :: kept) s
      | .dropped =>
        let s1 := match x with
          | .message m => s.reportDropped m
          | .part _ c q _ _ _ => s.refuse c 0x14 (BitVec.ofNat 64 q)
          | .whole _ c q _ => s.refuse c 0x14 (BitVec.ofNat 64 q)
          | .status _ => s
        State.replayGutter h n r kept s1
      | .done s1 slot =>
        let r1 := match x, slot with
          | .part _ c q _ _ _, some i => retarget c q i r
          | _, _ => r
        State.replayGutter h n r1 kept s1

/-- R277: the gutter of a running core replayed as far as its entries and its status port have room. -/
def State.drainGutter (s : State) (h : Nat) : State :=
  let c := s.core h
  if c.frozen || c.gutter.isEmpty then s else State.replayGutter h (c.gutter.length + 1) c.gutter [] s

/-- R253: a pop, after which the gutter of its core replays into the room it made. -/
def State.popAt (s : State) (k sl q : Nat) : Option (TV × State) :=
  match s.popPart k sl q with
  | some (v, s1) => some (v, s1.drainGutter k)
  | none => none

end Sys2Proof.Machine
end

