-- ==== Sys2Proof/Machine/Operands.lean ====
section
/-! DEFINITION. Operand fields (R60 to R67): the checks before an instruction issues, reading and popping sources,
writing and pushing results. -/
namespace Sys2Proof.Machine

/-- R60: the field names a queue register. -/
def isQ (r : BitVec 6) : Bool := decide (56 ≤ r.toNat)

/-- R60: the number of the queue register. -/
def qNum (r : BitVec 6) : Nat := r.toNat - 56

/-- R63 step 1: the first unbound queue register of the fields. -/
def firstUnbound (t : Strand) : List (BitVec 6) → Option Nat
  | [] => none
  | r :: rs => if isQ r && (kfind (qNum r) t.q).isNone then some (qNum r) else firstUnbound t rs

/-- R254: the first queue register of the fields whose binding is not a pop end (or, for a result, a push end). -/
def firstWrongEnd (t : Strand) (wantPop : Bool) : List (BitVec 6) → Option Nat
  | [] => none
  | r :: rs =>
    match kfind (qNum r) t.q with
    | some b => if isQ r && decide (b.pop ≠ wantPop) then some (qNum r) else firstWrongEnd t wantPop rs
    | none => firstWrongEnd t wantPop rs

/-- R66, R67: some register of the fields has an interlocked result outstanding. -/
def anyBusy (t : Strand) (rs : List (BitVec 6)) : Bool := rs.any (fun r => decide (r.toNat ∈ t.busy))

/-- R65: the first register of the fields that is read before its fixed-latency result is available: where several are,
the first in field order (DESIGN CHOICE, log 62). -/
def firstEarly (t : Strand) (now : Nat) : List (BitVec 6) → Option Nat
  | [] => none
  | r :: rs => if t.pend.any (fun p => decide (p.reg = r.toNat) && decide (now < p.avail)) then some r.toNat
    else firstEarly t now rs

/-- R173: the failure taken at a read of a register that the failed entry was to write. -/
def lostRead (t : Strand) (rs : List (BitVec 6)) : Option (Nat × Nat) :=
  if rs.any (fun r => decide (r.toNat ∈ t.lost)) then t.seqFail else none

/-- R63: the values of the sources: registers as they stand, queue registers popped in field order, the values already
popped by the waiting instruction first. A queue register that cannot be popped yet is reported. -/
def gather (k sl : Nat) : List (BitVec 6) → List TV → Strand → State → (List TV × State) ⊕ Nat
  | [], _, _, s => .inl ([], s)
  | r :: rs, have_, t, s =>
    if isQ r then
      match have_ with
      | v :: vs =>
        match gather k sl rs vs t s with
        | .inl (l, s') => .inl (v :: l, s')
        | .inr q => .inr q
      | [] =>
        match s.popAt k sl (qNum r) with
        | none => .inr (qNum r)
        | some (v, s1) =>
          match gather k sl rs [] t s1 with
          | .inl (l, s') => .inl (v :: l, s')
          | .inr q => .inr q
    else
      match gather k sl rs have_ t s with
      | .inl (l, s') => .inl (t.getG r.toNat :: l, s')
      | .inr q => .inr q

/-- R63: the queue register that the instruction pops next: the first one whose value has not been popped. -/
def nextPop (rs : List (BitVec 6)) (done : Nat) : Nat := (((rs.filter isQ).drop done).head?.map qNum).getD 0

/-! ### Order (R257, R285) -/

/-- The outstanding accesses of the strand in a slot, in issue order. -/
def State.mine (s : State) (k sl : Nat) : List (Nat × Access) :=
  match s.strand k sl with
  | some t => s.accesses.filter (fun e => decide (e.2.sid = t.sid) && decide (e.2.gid = t.gid) &&
      decide (s.partOfCore e.2.core = s.partOfCore k))
  | none => []

/-- R292: some access of the strand older than `n` has not reached the point at which it would leave for the endpoint. -/
def State.unsentBefore (s : State) (k : Nat) (sid : BitVec 32) (gid n : Nat) : Bool :=
  s.accesses.any (fun e => decide (e.1 < n) && decide (e.2.sid = sid) && decide (e.2.gid = gid) &&
    decide (s.partOfCore e.2.core = s.partOfCore k) &&
    (decide (e.2.phase = .translating) || decide (e.2.phase = .faulted) || decide (e.2.phase = .queued)))

/-- R292: some access of the strand in a slot has still to leave for the endpoint. -/
def State.unsentBy (s : State) (k sl : Nat) : Bool :=
  (s.strand k sl).any (fun t => s.unsentBefore k t.sid t.gid s.nextAccess)

/-- The strand has entries in its core's sequencer. -/
def State.hasEntries (s : State) (k sl : Nat) : Bool := (s.core k).seq.any (fun e => decide (e.slot = sl))

/-- R172, R188: a `vfence` of the strand in slot `sl` of core `k` holds back its scalar accesses until its entries have
completed. -/
def State.fencedIn (s : State) (k sl : Nat) : Bool := (s.core k).seq.any (fun e => e.fenced && decide (e.slot = sl))

/-- The same for the strand whose instruction runs. -/
def State.behindFence (s : State) : Bool := s.fencedIn s.turn.1 s.turn.2

/-- R285: an acquire of the strand is outstanding. -/
def State.acquiring (s : State) (k sl : Nat) : Bool := (s.mine k sl).any (·.2.acq)

/-- R257, R285: a push or pop of a strand waits: an acquire of the strand is outstanding, a `vfence` holds it back, or an
earlier sequencer entry of the strand is to pop or push the same q register. -/
def State.queueHeld (s : State) (k sl : Nat) (qs : List Nat) : Bool :=
  s.acquiring k sl || s.fencedIn k sl ||
    (s.core k).seq.any (fun e => decide (e.slot = sl) && e.qs.any (fun q => decide (q ∈ qs)))

/-- R63: the values popped by the instruction stay with its strand until it issues. -/
def State.keepPops (s : State) (srcs : List (BitVec 6)) (l : List TV) : State :=
  if srcs.any isQ then
    s.updStrand s.turn.1 s.turn.2 (fun t => { t with popped := ((srcs.zip l).filter (fun e => isQ e.1)).map (·.2) })
  else s

/-- R63 step 1, R64: the q registers of the fields are bound. -/
def boundFirst (fields : List (BitVec 6)) : M Unit := do
  let t ← getStrand
  if let some q := firstUnbound t fields then trap 0x0C (BitVec.ofNat 64 q)

/-- R63 to R67: the sources `srcs` in field order, read or popped, for an instruction that writes `dests`. The fields
whose bindings are checked, in the order of R63, are given apart. The spec gives no order between channel misuse and an
undersized stall: misuse comes first, since the stall is met only by an instruction that issues, after its last pop
(DEDUCED, log 62). Nor does R64 place the stall among the conditions of its step 5: it comes before those that the
instruction's own description lists (DESIGN CHOICE, log 62). -/
def operandsOf (fields srcs dests : List (BitVec 6)) : M (List TV) := do
  boundFirst fields
  let t ← getStrand
  let k ← self
  let s ← get
  if let some q := firstWrongEnd t true (srcs.filter isQ) then trap 0x14 (BitVec.ofNat 64 q)
  if let some q := firstWrongEnd t false (dests.filter isQ) then trap 0x14 (BitVec.ofNat 64 q)
  if let some f := lostRead t srcs then trap f.1 (BitVec.ofNat 64 f.2)
  if anyBusy t (srcs ++ dests) then waitFor .inSlot
  if fields.any isQ && s.queueHeld k s.turn.2 ((fields.filter isQ).map qNum) then waitFor .inSlot
  match gather k s.turn.2 srcs t.popped t s with
  | .inl (l, s') =>
    set (s'.keepPops srcs l)
    if t.chk then
      if let some r := firstEarly t s.now srcs then throw (.undersized r)
    return l
  | .inr _ => waitFor (.pop (nextPop srcs t.popped.length))

/-- The operands of an instruction whose register fields are its sources and its destinations. -/
def operands (srcs dests : List (BitVec 6)) : M (List TV) := operandsOf (srcs ++ dests) srcs dests

/-- R66, R67: the shape registers named have no interlocked result outstanding. -/
def shapesFree (rs : List Nat) : M Unit := do
  let t ← getStrand
  if rs.any (fun r => decide (64 + r ∈ t.busy)) then waitFor .inSlot

/-! ### Releases and results (R63, R257, R285) -/

/-- R285: every access before a release of the strand has been performed, and the entries before a `vfence`. -/
def State.released (s : State) (k sl : Nat) : Bool := (s.mine k sl).isEmpty && !s.fencedIn k sl

/-- R285: a release performs every earlier access of its strand first, and the entries before a `vfence`. -/
def releaseFirst (rel : Bool) : M Unit := do
  let s ← get
  if rel && !s.released s.turn.1 s.turn.2 then waitFor .inSlot

/-- R257: one part pushed as the release that a push is; none while it must wait. -/
def State.pushReleased (s : State) (k sl q n : Nat) (v : TV) : Option State :=
  if s.released k sl then s.pushPart k sl q n v else none

/-- R17, R253: a push of the strand through `q` has reached its home port. -/
def State.pushArrived (s : State) (k sl q : Nat) : Bool :=
  s.released k sl &&
    match (s.strand k sl).bind (fun t => kfind q t.q) with
    | some b => decide (b.kind ≠ .channel) || !s.inFlight k b.home
    | none => false

/-- R63: a push that blocks: it holds back the strand's next instruction. -/
def State.blockPush (s : State) (k sl q : Nat) (v : TV) (slot : List Byte) : State :=
  { s.updStrand k sl (fun t =>
      { t with pendPush := some ⟨q, v, slot, 0, if s.pushArrived k sl q then some s.nextAccess else none⟩ }) with
    nextAccess := s.nextAccess + 1 }

/-- R60, R65, R67: a result of latency `lat` written to a register field, or pushed; a push whose channel is full, or
whose release waits, holds back the strand's next instruction (R63). -/
def result (d : BitVec 6) (lat : Nat) (v : TV) : M Unit := do
  if isQ d then
    modState (fun s =>
      (s.pushReleased s.turn.1 s.turn.2 (qNum d) s.nextAccess v).getD (s.blockPush s.turn.1 s.turn.2 (qNum d) v []))
  else if d = 0#6 then return ()
  else if lat ≤ 1 then modStrand (fun t => t.putG d.toNat v)
  else
    let s ← get
    modStrand (fun t => { t with pend := t.pend.filter (fun p => decide (p.reg ≠ d.toNat)) ++ [⟨d.toNat, s.now + lat, v⟩] })

/-- R55: the flags of an instruction are set together with its result of latency `lat` in field `d`: at once where it is
pushed or available to the next issue, else when it becomes available. -/
def resultFlags (d : BitVec 6) (lat : Nat) (f : FlagSet) : M Unit := do
  let s ← get
  if isQ d || decide (lat ≤ 1) then setFlags f else modStrand (·.pendFlags (s.now + lat) f)

/-- One source. -/
def operand1 (a : BitVec 6) (dests : List (BitVec 6)) : M TV := do
  let l ← operands [a] dests
  return l.getD 0 TV.zero

/-- Two sources in field order. -/
def operand2 (a b : BitVec 6) (dests : List (BitVec 6)) : M (TV × TV) := do
  let l ← operands [a, b] dests
  return (l.getD 0 TV.zero, l.getD 1 TV.zero)

/-- Three sources in field order. -/
def operand3 (a b c : BitVec 6) (dests : List (BitVec 6)) : M (TV × TV × TV) := do
  let l ← operands [a, b, c] dests
  return (l.getD 0 TV.zero, l.getD 1 TV.zero, l.getD 2 TV.zero)

/-- The meaning of an instruction of one source whose result is a word (R101, R91: data). -/
def wordOp1 (lat : Nat) (d a : BitVec 6) (f : Word → Word) : M Flow := do
  let x ← operand1 a [d]
  result d lat (TV.ofWord (f x.lo))
  return .next

/-- The meaning of an instruction of two sources whose result is a word. -/
def wordOp2 (lat : Nat) (d a b : BitVec 6) (f : Word → Word → Word) : M Flow := do
  let (x, y) ← operand2 a b [d]
  result d lat (TV.ofWord (f x.lo y.lo))
  return .next

/-- The meaning of an instruction of three sources whose result is a word. -/
def wordOp3 (lat : Nat) (d a b c : BitVec 6) (f : Word → Word → Word → Word) : M Flow := do
  let (x, y, z) ← operand3 a b c [d]
  result d lat (TV.ofWord (f x.lo y.lo z.lo))
  return .next

end Sys2Proof.Machine
end

