-- ==== Sys2Proof/Machine/Integer.lean ====
section
/-! DEFINITION. Integer instructions of op 0x01 (R101). -/
namespace Sys2Proof.Machine

/-- 1 or 0. -/
def boolWord (b : Bool) : Word := if b then 1#64 else 0#64

/-- R101: the low 32 bits, bit 31 copied upward. -/
def sext32 (x : Word) : Word := (x.setWidth 32).signExtend 64

/-- R101: zero bits above the highest one bit of the low `n` bits. -/
def leadingZeros (x : Word) : Nat → Nat
  | 0 => 0
  | n + 1 => if x.getLsbD n then 0 else leadingZeros x n + 1

/-- R101: zero bits from bit `i` up to the lowest one bit, of `n` bits. -/
def trailingZeros (x : Word) (i : Nat) : Nat → Nat
  | 0 => 0
  | n + 1 => if x.getLsbD i then 0 else trailingZeros x (i + 1) n + 1

/-- R101: one bits among the low `n`. -/
def onesBelow (x : Word) : Nat → Nat
  | 0 => 0
  | n + 1 => onesBelow x n + (if x.getLsbD n then 1 else 0)

/-- R101: bit `i` from bit 63 − i. -/
def reverseBits (x : Word) : Word := BitVec.ofNat 64 ((List.range 64).foldl (fun (m : Nat) i =>
  m + (if x.getLsbD (63 - i) then 2 ^ i else 0)) 0)

/-- R101: byte i from byte 7 − i. -/
def reverseBytes (x : Word) : Word :=
  x.extractLsb' 0 8 ++ x.extractLsb' 8 8 ++ x.extractLsb' 16 8 ++ x.extractLsb' 24 8 ++ x.extractLsb' 32 8 ++
    x.extractLsb' 40 8 ++ x.extractLsb' 48 8 ++ x.extractLsb' 56 8

/-- R101: bits p to 0 kept, p = y mod 64, the bits above zero. -/
def zeroFrom (x y : Word) : Word := BitVec.ofNat 64 (x.toNat % 2 ^ (y.toNat % 64 + 1))

/-- R101: bits p to 0 kept, the bits above copies of bit p. -/
def signFrom (x y : Word) : Word :=
  let p := y.toNat % 64
  if x.getLsbD p then x ||| ~~~(BitVec.ofNat 64 (2 ^ (p + 1) - 1)) else zeroFrom x y

/-! ### R101: op 0x01, latency 1, no flag -/

/-- `add`, R101. -/
def execAdd (d a b : BitVec 6) (sc : BitVec 2) (s : State) : Host.Outcome State Fault Refusal :=
  runInstr sc.toNat (wordOp2 1 d a b (fun x y => x + y)) s

/-- `sub`, R101. -/
def execSub (d a b : BitVec 6) (sc : BitVec 2) (s : State) : Host.Outcome State Fault Refusal :=
  runInstr sc.toNat (wordOp2 1 d a b (fun x y => x - y)) s

/-- `and`, R101. -/
def execAnd (d a b : BitVec 6) (sc : BitVec 2) (s : State) : Host.Outcome State Fault Refusal :=
  runInstr sc.toNat (wordOp2 1 d a b (fun x y => x &&& y)) s

/-- `or`, R101. -/
def execOr (d a b : BitVec 6) (sc : BitVec 2) (s : State) : Host.Outcome State Fault Refusal :=
  runInstr sc.toNat (wordOp2 1 d a b (fun x y => x ||| y)) s

/-- `xor`, R101. -/
def execXor (d a b : BitVec 6) (sc : BitVec 2) (s : State) : Host.Outcome State Fault Refusal :=
  runInstr sc.toNat (wordOp2 1 d a b (fun x y => x ^^^ y)) s

/-- `andn`, R101. -/
def execAndn (d a b : BitVec 6) (sc : BitVec 2) (s : State) : Host.Outcome State Fault Refusal :=
  runInstr sc.toNat (wordOp2 1 d a b (fun x y => x &&& ~~~y)) s

/-- `orn`, R101. -/
def execOrn (d a b : BitVec 6) (sc : BitVec 2) (s : State) : Host.Outcome State Fault Refusal :=
  runInstr sc.toNat (wordOp2 1 d a b (fun x y => x ||| ~~~y)) s

/-- `sll`, R101. -/
def execSll (d a b : BitVec 6) (sc : BitVec 2) (s : State) : Host.Outcome State Fault Refusal :=
  runInstr sc.toNat (wordOp2 1 d a b (fun x y => x <<< (y.toNat % 64))) s

/-- `srl`, R101. -/
def execSrl (d a b : BitVec 6) (sc : BitVec 2) (s : State) : Host.Outcome State Fault Refusal :=
  runInstr sc.toNat (wordOp2 1 d a b (fun x y => x >>> (y.toNat % 64))) s

/-- `sra`, R101. -/
def execSra (d a b : BitVec 6) (sc : BitVec 2) (s : State) : Host.Outcome State Fault Refusal :=
  runInstr sc.toNat (wordOp2 1 d a b (fun x y => x.sshiftRight (y.toNat % 64))) s

/-- `rol`, R101. -/
def execRol (d a b : BitVec 6) (sc : BitVec 2) (s : State) : Host.Outcome State Fault Refusal :=
  runInstr sc.toNat (wordOp2 1 d a b (fun x y => x.rotateLeft (y.toNat % 64))) s

/-- `ror`, R101. -/
def execRor (d a b : BitVec 6) (sc : BitVec 2) (s : State) : Host.Outcome State Fault Refusal :=
  runInstr sc.toNat (wordOp2 1 d a b (fun x y => x.rotateRight (y.toNat % 64))) s

/-- `slt`, R101. -/
def execSlt (d a b : BitVec 6) (sc : BitVec 2) (s : State) : Host.Outcome State Fault Refusal :=
  runInstr sc.toNat (wordOp2 1 d a b (fun x y => boolWord (x.slt y))) s

/-- `sltn`, R101. -/
def execSltn (d a b : BitVec 6) (sc : BitVec 2) (s : State) : Host.Outcome State Fault Refusal :=
  runInstr sc.toNat (wordOp2 1 d a b (fun x y => boolWord (x.ult y))) s

/-- `seq`, R101. -/
def execSeq (d a b : BitVec 6) (sc : BitVec 2) (s : State) : Host.Outcome State Fault Refusal :=
  runInstr sc.toNat (wordOp2 1 d a b (fun x y => boolWord (decide (x = y)))) s

/-- `sne`, R101. -/
def execSne (d a b : BitVec 6) (sc : BitVec 2) (s : State) : Host.Outcome State Fault Refusal :=
  runInstr sc.toNat (wordOp2 1 d a b (fun x y => boolWord (decide (x ≠ y)))) s

/-- `min`, R101. -/
def execMin (d a b : BitVec 6) (sc : BitVec 2) (s : State) : Host.Outcome State Fault Refusal :=
  runInstr sc.toNat (wordOp2 1 d a b (fun x y => if x.slt y then x else y)) s

/-- `max`, R101. -/
def execMax (d a b : BitVec 6) (sc : BitVec 2) (s : State) : Host.Outcome State Fault Refusal :=
  runInstr sc.toNat (wordOp2 1 d a b (fun x y => if x.slt y then y else x)) s

/-- `minn`, R101. -/
def execMinn (d a b : BitVec 6) (sc : BitVec 2) (s : State) : Host.Outcome State Fault Refusal :=
  runInstr sc.toNat (wordOp2 1 d a b (fun x y => if x.ult y then x else y)) s

/-- `maxn`, R101. -/
def execMaxn (d a b : BitVec 6) (sc : BitVec 2) (s : State) : Host.Outcome State Fault Refusal :=
  runInstr sc.toNat (wordOp2 1 d a b (fun x y => if x.ult y then y else x)) s

/-- `clz`, R101. -/
def execClz (d a : BitVec 6) (sc : BitVec 2) (s : State) : Host.Outcome State Fault Refusal :=
  runInstr sc.toNat (wordOp1 1 d a (fun x => BitVec.ofNat 64 (leadingZeros x 64))) s

/-- `ctz`, R101. -/
def execCtz (d a : BitVec 6) (sc : BitVec 2) (s : State) : Host.Outcome State Fault Refusal :=
  runInstr sc.toNat (wordOp1 1 d a (fun x => BitVec.ofNat 64 (trailingZeros x 0 64))) s

/-- `popc`, R101. -/
def execPopc (d a : BitVec 6) (sc : BitVec 2) (s : State) : Host.Outcome State Fault Refusal :=
  runInstr sc.toNat (wordOp1 1 d a (fun x => BitVec.ofNat 64 (onesBelow x 64))) s

/-- `brev`, R101. -/
def execBrev (d a : BitVec 6) (sc : BitVec 2) (s : State) : Host.Outcome State Fault Refusal :=
  runInstr sc.toNat (wordOp1 1 d a reverseBits) s

/-- `bswap`, R101. -/
def execBswap (d a : BitVec 6) (sc : BitVec 2) (s : State) : Host.Outcome State Fault Refusal :=
  runInstr sc.toNat (wordOp1 1 d a reverseBytes) s

/-- `sxt`, R101. -/
def execSxt (d a b : BitVec 6) (sc : BitVec 2) (s : State) : Host.Outcome State Fault Refusal :=
  runInstr sc.toNat (wordOp2 1 d a b signFrom) s

/-- `zxt`, R101. -/
def execZxt (d a b : BitVec 6) (sc : BitVec 2) (s : State) : Host.Outcome State Fault Refusal :=
  runInstr sc.toNat (wordOp2 1 d a b zeroFrom) s

/-- `addw`, R101. -/
def execAddw (d a b : BitVec 6) (sc : BitVec 2) (s : State) : Host.Outcome State Fault Refusal :=
  runInstr sc.toNat (wordOp2 1 d a b (fun x y => sext32 (x + y))) s

/-- `subw`, R101. -/
def execSubw (d a b : BitVec 6) (sc : BitVec 2) (s : State) : Host.Outcome State Fault Refusal :=
  runInstr sc.toNat (wordOp2 1 d a b (fun x y => sext32 (x - y))) s

end Sys2Proof.Machine
end

