-- ==== Sys2Proof/Machine/Immediate.lean ====
section
/-! DEFINITION. Immediate and upper-immediate forms (R102 to R104). -/
namespace Sys2Proof.Machine

/-- R59: the 13-bit immediate, sign-extended. -/
def imm13 (i : BitVec 13) : Word := i.signExtend 64

/-- R59: the upper immediate: sext × 2^13. -/
def immU (i : BitVec 19) : Word := i.signExtend 64 <<< 13

/-! ### R102: op 0x03 to 0x0C, latency 1, no flag -/

/-- `addi`, R102. -/
def execAddi (d a : BitVec 6) (imm : BitVec 13) (s : State) : Host.Outcome State Fault Refusal :=
  runInstr 0 (wordOp1 1 d a (fun x => x + imm13 imm)) s

/-- `andi`, R102. -/
def execAndi (d a : BitVec 6) (imm : BitVec 13) (s : State) : Host.Outcome State Fault Refusal :=
  runInstr 0 (wordOp1 1 d a (fun x => x &&& imm13 imm)) s

/-- `ori`, R102. -/
def execOri (d a : BitVec 6) (imm : BitVec 13) (s : State) : Host.Outcome State Fault Refusal :=
  runInstr 0 (wordOp1 1 d a (fun x => x ||| imm13 imm)) s

/-- `xori`, R102. -/
def execXori (d a : BitVec 6) (imm : BitVec 13) (s : State) : Host.Outcome State Fault Refusal :=
  runInstr 0 (wordOp1 1 d a (fun x => x ^^^ imm13 imm)) s

/-- `slti`, R102. -/
def execSlti (d a : BitVec 6) (imm : BitVec 13) (s : State) : Host.Outcome State Fault Refusal :=
  runInstr 0 (wordOp1 1 d a (fun x => boolWord (x.slt (imm13 imm)))) s

/-- `sltni`, R102. -/
def execSltni (d a : BitVec 6) (imm : BitVec 13) (s : State) : Host.Outcome State Fault Refusal :=
  runInstr 0 (wordOp1 1 d a (fun x => boolWord (x.ult (imm13 imm)))) s

/-- `slli`, R102. -/
def execSlli (d a : BitVec 6) (imm : BitVec 6) (s : State) : Host.Outcome State Fault Refusal :=
  runInstr 0 (wordOp1 1 d a (fun x => x <<< imm.toNat)) s

/-- `srli`, R102. -/
def execSrli (d a : BitVec 6) (imm : BitVec 6) (s : State) : Host.Outcome State Fault Refusal :=
  runInstr 0 (wordOp1 1 d a (fun x => x >>> imm.toNat)) s

/-- `srai`, R102. -/
def execSrai (d a : BitVec 6) (imm : BitVec 6) (s : State) : Host.Outcome State Fault Refusal :=
  runInstr 0 (wordOp1 1 d a (fun x => x.sshiftRight imm.toNat)) s

/-- `addwi`, R102. -/
def execAddwi (d a : BitVec 6) (imm : BitVec 13) (s : State) : Host.Outcome State Fault Refusal :=
  runInstr 0 (wordOp1 1 d a (fun x => sext32 (x + imm13 imm))) s

/-- `lui`, R103. -/
def execLui (d : BitVec 6) (imm : BitVec 19) (s : State) : Host.Outcome State Fault Refusal :=
  runInstr 0 (do
    let _ ← operands [] [d]
    result d 1 (TV.ofWord (immU imm))
    return .next) s

/-- `auipc`, R104: PCC's bounds and permissions at the address, untagged where it is not representable. -/
def execAuipc (d : BitVec 6) (imm : BitVec 19) (s : State) : Host.Outcome State Fault Refusal :=
  runInstr 0 (do
    let _ ← operands [] [d]
    let t ← getStrand
    result d 1 (setAddr t.pcc (t.pc + immU imm).toNat)
    return .next) s

end Sys2Proof.Machine
end

