-- ==== Sys2Proof/Machine/Access.lean ====
section
/-! DEFINITION. Where an access goes and whether it may (R95, R142, R148, R150, R278, R279, R292, R303, R340 to R344,
R396, R403, R444, R449): the checks of every scalar access, its location, and waiting for lines that an engine holds. -/
namespace Sys2Proof.Machine

/-! ### The checks of R95 -/

/-- R95: the cause of the first failed check of a dereference of `size` bytes at `x`; none where it passes. -/
def derefFail (c : TV) (x size perm : Nat) : Option Nat :=
  if !c.tag then some 0x03
  else if !capHas c perm || (capHas c permLocal && decide (x < 2 ^ 63)) then some 0x05
  else if decide ((x : Int) < capBase c) || decide (capTop c < (x : Int) + size) then some 0x04
  else none

/-- R95: the checks, trapping with TRAPVAL ← x. -/
def derefCheck (c : TV) (x size perm : Nat) : M Unit :=
  match derefFail c x size perm with
  | some cause => trap cause (BitVec.ofNat 64 x)
  | none => pure ()

/-! ### Translation caches (R343, R344) -/

/-- R357: the bytes of a page by its size code. -/
def pageBytes : Nat → Nat
  | 0 => 2 ^ 12 | 1 => 2 ^ 14 | 2 => 2 ^ 16 | 3 => 2 ^ 21 | 4 => 2 ^ 25 | _ => 2 ^ 30

def AtcEntry.holds (e : AtcEntry) (vf pasid va : Nat) : Bool :=
  decide (e.vf = vf) && decide (e.pasid = pasid) && decide (e.page = va / pageBytes e.size * pageBytes e.size)

def State.dieAtcOf (s : State) (die : Nat) : List AtcEntry := kget [] die s.dieAtc

/-- R343: the entry that serves an address: the cluster's ATC first, then its die's. -/
def State.atcLookup (s : State) (cl vf pasid va : Nat) : Option AtcEntry :=
  match (s.cluster cl).atc.find? (·.holds vf pasid va) with
  | some e => some e
  | none => (s.dieAtcOf (clusterDie cl)).find? (·.holds vf pasid va)

/-- R344: what an entry grants. -/
def AtcEntry.grants (e : AtcEntry) (write : Bool) : Bool := if write then e.wr else e.rd

/-- R444: the location behind the endpoint of a host physical address: its aperture's offset applied. -/
def State.pcieLoc (s : State) (pa : Nat) : Nat :=
  match s.apertures.find? (fun e => decide (e.2.base ≤ pa) && decide (pa < e.2.base + e.2.size)) with
  | some e => pcieBase + (pa - e.2.base + e.2.bus)
  | none => pcieBase + pa

/-! ### Places -/

/-- Where an access goes. -/
inductive Place where
  /-- the issuing core's checks fail with a cause -/
  | bad (cause : Nat)
  /-- the home refuses it: precise where a value returns, R150 where the access is posted -/
  | refused (cause : Nat)
  /-- a location of the package -/
  | here (loc : Nat)
  /-- an event-unit register of the own cluster (R340) -/
  | event (off : Nat)
  /-- a location behind the PCI Express endpoint (R292) -/
  | pcie (loc : Nat)
  /-- an address of the firmware window (R451) -/
  | window (x : Nat)
  /-- a fabric page (R449): its host physical address -/
  | fabric (pa : Nat)
  /-- no translation grants it yet (R345) -/
  | missing
  deriving DecidableEq, Repr

/-- R303, R422, R442: accesses of the function and PASID to host-shared memory are fenced. -/
def State.fencedFor (s : State) (vf pasid : Nat) : Bool :=
  s.flash.dfen || decide ((s.context vf pasid).map (·.st) = some .fenced)

/-- R13, R394: the gate of the region that holds a cluster is closed, on its way to the ridge die too. -/
def State.gateShut (s : State) (cl : Nat) : Bool := (regionOfCluster cl).any s.regionShut

/-- R289, R396: an access of a cluster to cached bytes sends a packet to the ridge die: its slice does not hold them in a
state that serves it. -/
def State.leavesCluster (s : State) (cl loc n : Nat) (write : Bool) : Bool :=
  (sectorsOf loc n).any (fun sec => match s.sectorIn sec cl with
    | .m | .e => false
    | .o | .s => write
    | .i => true)

/-- R341, R343, R344, R396: the place of a host-shared address. With the gate of its region closed, a cluster reaches
neither its die's ATC nor the endpoint; the fences of R442 come first (DESIGN CHOICE, log 64). -/
def State.hostPlace (s : State) (cl vf pasid x : Nat) (write : Bool) : Place :=
  if s.fencedFor vf pasid then .refused 0x13
  else if s.gateShut cl && !(s.cluster cl).atc.any (·.holds vf pasid x) then .refused 0x10
  else
    match s.atcLookup cl vf pasid x with
    | none => .missing
    | some e =>
      if !e.grants write then .missing
      else
        let pa := e.phys + (x - e.page)
        if s.gateShut cl && (e.fabric || e.noncoh) then .refused 0x10
        else if e.fabric then .fabric pa
        else if e.noncoh then .pcie (s.pcieLoc pa)
        else .here pa

/-- R13, R396: the place of an access of a cluster to cached memory, refused where its packet meets a closed gate. -/
def Place.gated (p : Place) (s : State) (cl n : Nat) (write : Bool) : Place :=
  match p with
  | .here loc => if s.gateShut cl && s.leavesCluster cl loc n write then .refused 0x10 else .here loc
  | p => p

/-- R402: the window size of a partition. -/
def State.windowOf (s : State) (p : Option Nat) : Nat := ((p.bind s.partition).map (·.window)).getD 0

/-- R14, R142, R148, R396, R403: the place of a scratchpad address. Firmware reaches the finial scratchpads, rows 20 and 21,
of every die, above the boundaries of their cores; R142 and R14 forbid them to tenants only (DEDUCED, log 64). -/
def State.spadPlace (s : State) (k x size : Nat) : Place :=
  let row := x / 2 ^ 53 % 32
  let col := x / 2 ^ 49 % 16
  if x / 2 ^ 19 % 2 ^ 30 ≠ 0 then .bad 0x04
  else if x % 2 ^ 19 + size > 2 ^ 19 then .bad 0x04
  else if row > 19 then
    if privileged k && decide (row ≤ 21) && decide (6 ≤ col) && decide (col ≤ 9) then
      (if !s.belowBound x then .here x else if spadCore x = k then .bad 0x05 else .refused 0x05)
    else .bad 0x04
  else if spadCore x = k then (if s.belowBound x then .bad 0x05 else .here x)
  else
    match s.homeRefusal k (spadCore x) with
    | some c => .refused c
    | none => if s.belowBound x then .refused 0x05 else .here x

/-- R278, R279, R341: the place of an access of `size` bytes at `x` by core `k` for the context `ids`; `fm` for format M. A
firmware core, which no context runs on, is translated under function 0 and PASID 0 (DESIGN CHOICE, log 64). -/
def State.placeAs (s : State) (ids : Nat × Nat) (k x size : Nat) (write fm : Bool) : Place :=
  if x < 2 ^ 63 then
    if x / 2 ^ 57 ≠ 0 then .bad 0x04
    else (s.hostPlace (clusterOf k) ids.1 ids.2 x write).gated s (clusterOf k) size write
  else
    match x / 2 ^ 60 % 8 with
    | 0 => s.spadPlace k x size
    | 1 =>
      if x / 2 ^ 47 % 2 ^ 13 ≠ 0 then .bad 0x04
      else if x % 2 ^ 47 + size > s.windowOf (s.partOfCore k) then .bad 0x04
      else (Place.here (privLoc ((s.partOfCore k).getD 0) x)).gated s (clusterOf k) size write
    | 2 => .bad 0x05
    | 3 =>
      if fm || write || decide (size ≠ 8) then .bad 0x05
      else
        let own := if clusterOf k < 160 then clusterOf k % 40 else 40
        if x / 2 ^ 58 % 4 ≠ clusterDie (clusterOf k) ∨ x / 2 ^ 52 % 64 ≠ own ∨ x / 2 ^ 12 % 2 ^ 40 ≠ 0 then .bad 0x05
        else if x % 2 ^ 12 < 0x120 then .event (x % 2 ^ 12) else .bad 0x05
    | 4 => if privileged k && !fm then .window x else .bad 0x05
    | _ => .bad 0x04

/-- The place of an access for the core's own context. -/
def State.place (s : State) (k x size : Nat) (write fm : Bool) : Place := s.placeAs (s.ctxIds k) k x size write fm

/-! ### Event-unit registers (R340) -/

/-- R329: the code with which a strand waits in `barrc`. -/
def Strand.barrcCode (t : Strand) : Option Nat :=
  match t.wait with
  | some ⟨.barrc q, _, _, _⟩ => some q
  | _ => none

/-- R329: the code with which every occupied slot of a core waits in `barrc`; none where they do not or differ. -/
def Core.raisedCode (c : Core) : Option Nat :=
  match c.slots with
  | [] => none
  | (_, t) :: _ => if c.slots.all (fun e => decide (e.2.barrcCode = t.barrcCode)) then t.barrcCode else none

/-- R307, R314, R329: a slot's strand waits as told, and has not been released yet. -/
def Strand.waitsFor (t : Strand) (k : WaitKind) : Bool := decide (t.wait.map (·.kind) = some k) && t.granted.isNone

/-- The running group whose stage holds the cluster of a core. -/
def State.groupOfCluster (s : State) (cl : Nat) : Option Group :=
  (s.partOfCluster cl).bind (fun p => (s.cluster cl).holder.bind (s.group p))

/-- R126, R329: the group of the stage that a core's cluster runs has a pointer for it. -/
def State.poolWaits (s : State) (k : Nat) : Bool :=
  match s.groupOfCluster (clusterOf k) with
  | some g => !g.pool.isEmpty
  | none => false

/-- R329: the core raises its flag with a code. -/
def State.raises (s : State) (k code : Nat) : Bool :=
  let c := s.core k
  c.slots.all (fun e => e.2.waitsFor (.barrc code)) && !(decide (c.slots.length < 4) && s.poolWaits k)

/-- R329, R340: the flag of a core on wire set `w` is raised. -/
def State.flagRaised (s : State) (k w : Nat) : Bool :=
  match (s.core k).raisedCode with
  | some q => decide (q / 2 ^ 18 = w) && s.raises k q
  | none => false

/-- R340: a snapshot of an event-unit register. -/
def State.eventReg (s : State) (k off : Nat) : Nat :=
  let c := s.cluster (clusterOf k)
  if off < 0x040 then
    match kfind (off / 8) c.counters with
    | some x => x.target + x.arrivals * 2 ^ 8 + x.gen.toNat * 2 ^ 16
    | none => 0
  else if off < 0x0C0 then
    match kfind ((off - 0x040) / 8) c.mutexes with
    | some x =>
      match x.owner with
      | some o => 1 + x.queue.length % 256 * 2 ^ 8 + o.1 % 2 ^ 16 * 2 ^ 32
      | none => 0
    | none => 0
  else if off < 0x100 then
    let i := kget [] ((off - 0x0C0) / 8) c.inboxes
    i.length + (i.foldl (fun (m : Nat) e => m ||| 2 ^ e.line) 0) * 2 ^ 32
  else
    let w := (off - 0x100) / 8
    (kget 0#16 w (s.core k).episodes).toNat + (if s.flagRaised k w then 2 ^ 16 else 0)

/-! ### Waiting for lines and for earlier packets (R17, R219, R289, R290) -/

/-- R17: the location lies in the scratchpad of another core, to which a message or event of core `k` is on its way: the
access arrives there after it. -/
def State.behindFlight (s : State) (k loc : Nat) : Bool :=
  decide (loc / 2 ^ 60 = 8) && decide (spadCore loc ≠ k) && s.inFlight k (spadCore loc)

/-- R17, R289, R290: an access of core `k` to bytes at a location must wait: for an engine, or for its turn on the way. -/
def State.accessHeld (s : State) (k loc n : Nat) (write : Bool) : Bool :=
  s.linesHeld (clusterOf k) loc n write || s.behindFlight k loc

/-! ### Requests through the PCI Express endpoint (R292) -/

/-- R292: the request that an access is sent as; none for a form that may not act on a non-coherent page. -/
def pcieRequest (n loc : Nat) : AccessKind → Option OutMsg
  | .load size _ _ => some (.pcieRead n (loc - pcieBase) size)
  | .store size v => some (.pcieWrite (loc - pcieBase) size v.toNat)
  | .amo .add 8 v _ => some (.pcieAtomic n (loc - pcieBase) .add 8 v.toNat)
  | .amo .swap 8 v _ => some (.pcieAtomic n (loc - pcieBase) .swap 8 v.toNat)
  | .red .add 8 v => some (.pcieAtomic n (loc - pcieBase) .add 8 v.toNat)
  | .cas size e v _ => some (.pcieCas n (loc - pcieBase) size e.toNat v.toNat)
  | .shpLoad _ => some (.pcieRead n (loc - pcieBase) 64)
  | .shpStore v => some (.pcieWrite (loc - pcieBase) 64 v.toNat)
  | _ => none

/-- R344: the access asks for write. -/
def AccessKind.writes : AccessKind → Bool
  | .load _ _ _ => false
  | .wait _ _ _ => false
  | .prefetch => false
  | .shpLoad _ => false
  | _ => true

def AccessKind.bytes : AccessKind → Nat
  | .load n _ _ => n
  | .store n _ => n
  | .amo _ n _ _ => n
  | .red _ n _ => n
  | .cas n _ _ _ => n
  | .wait n _ _ => n
  | .prefetch => 1
  | .shpLoad _ => 64
  | .shpStore _ => 64

/-- The register that receives the value of an access: a field below 64, or 64 + n for shape register n; 0 for none. -/
def AccessKind.dest : AccessKind → Nat
  | .load _ _ d => d
  | .amo _ _ _ d => d
  | .cas _ _ _ d => d
  | .wait _ _ d => d
  | .shpLoad d => 64 + d
  | _ => 0

/-- R295: the access is performed at the ridge: an atomic, `cas` or `red` at scope 3 or 4. -/
def AccessKind.atRidge (scope : Nat) : AccessKind → Bool
  | .amo _ _ _ _ | .red _ _ _ | .cas _ _ _ _ => decide (3 ≤ scope)
  | _ => false

/-- R13, R295, R396: an access of a cluster at a location sends its packet through a closed gate. -/
def State.gateBlocks (s : State) (cl loc : Nat) (kind : AccessKind) (scope : Nat) : Bool :=
  s.gateShut cl && cachedLoc loc && (kind.atRidge scope || s.leavesCluster cl loc kind.bytes kind.writes)

/-! ### Outstanding accesses of a strand -/

/-- R282, R347: an older access of the strand to the same 4 KiB page is outstanding. -/
def State.pageBusy (s : State) (k sl x : Nat) : Bool := (s.mine k sl).any (fun e => decide (e.2.addr / 4096 = x / 4096))

/-- R285, R188: accesses after an outstanding acquire wait for it, and those behind a `vfence` for the entries. -/
def afterAcquire : M Unit := do
  let s ← get
  if s.acquiring s.turn.1 s.turn.2 || s.behindFence then waitFor .inSlot

/-- A strand's register awaits one more interlocked result. -/
def hold (d : Nat) : M Unit := if d = 0 then pure () else modStrand (fun t => { t with busy := d :: t.busy })

/-- R347, R292: the access stays outstanding. -/
def outstanding (x : Nat) (kind : AccessKind) (acq : Bool) (scope : Nat) (phase : AccessPhase) (phys : Nat) : M Unit := do
  let t ← getStrand
  modState (fun s =>
    let ids := s.ctxIds s.turn.1
    { s with accesses := kset s.nextAccess ⟨s.turn.1, s.turn.2, t.sid, t.gid, t.pc.toNat, t.record, ids.1, ids.2, x, kind, acq, scope, phase,
               phys, s.now⟩ s.accesses,
             nextAccess := s.nextAccess + 1 })

end Sys2Proof.Machine
end

