-- ==== Sys2Proof/Machine/Translate.lean ====
section
/-! DEFINITION. Pages and translation (16_page): translation requests and completions, faults, page requests and their
responses, replay-all, invalidation. -/
namespace Sys2Proof.Machine

/-! ### Requests (R345, R346) -/

/-- R345: the failure of an access that waited on a page is still to be reported to its agent. -/
def State.unreported (s : State) (x : PageWait) : Bool :=
  match x.who with
  | .access n => decide ((kfind n s.accesses).map (·.phase) = some (.refused 0x12))
  | .prefetch _ => false
  | w => decide ((w, (0x12, x.addr)) ∈ s.engineFails)

/-- R345: a *failed* page stays so until every access that waited on it has been reported. -/
def State.liveRec (s : State) (r : PageRec) : Bool := decide (r.st ≠ .failed) || r.waiters.any s.unreported

/-- R345: the record of a page towards a die. -/
def State.pageRec (s : State) (die vf pasid page : Nat) : Option PageRec :=
  s.pages.find? (fun r => decide (r.die = die) && decide (r.vf = vf) && decide (r.pasid = pasid) &&
    decide (r.page = page) && s.liveRec r)

/-- The records without that of one page. -/
def dropRec (die vf pasid page : Nat) (l : List PageRec) : List PageRec :=
  l.filter (fun r => !(decide (r.die = die) && decide (r.vf = vf) && decide (r.pasid = pasid) && decide (r.page = page)))

def State.setRec (s : State) (r : PageRec) : State :=
  { s with pages := dropRec r.die r.vf r.pasid r.page s.pages ++ [r] }

/-- R303, R150, R173, R221, R275: a failed access is reported as its agent's chapter states. -/
def State.failWaiter (s : State) (x : PageWait) (cause : Nat) : State :=
  match x.who with
  | .access n =>
    match kfind n s.accesses with
    | some a => { s with accesses := kset n { a with phase := .refused cause } s.accesses }
    | none => s
  | .prefetch _ => s
  | w => { s with engineFails := s.engineFails ++ [(w, (cause, x.addr))] }

/-- R348, R349, R350: a denied access is placed in its cluster's fault buffer, or dropped. A prefetch never drops and
places no fault unless it asked for one (R356). -/
def State.placeFault (s : State) (key : FaultKey) (w : PageWait) : State :=
  let v := s.vf key.vf
  let cl := w.cl
  if w.who = .prefetch false then s
  else if v.stop then s.failWaiter w 0x12
  else
    let c := s.cluster cl
    if c.faults.any (fun f => decide (f.key = key)) then
      s.setCluster cl { c with faults := c.faults.map (fun f =>
        if f.key = key then { f with waiters := f.waiters ++ [w] } else f) }
    else if c.faults.length < 8 then
      s.setCluster cl { c with faults := c.faults ++ [⟨key, [w], false⟩] }
    else if w.who = .prefetch true then s
    else
      let s1 := (s.setCluster cl { c with parked := c.parked ++ [(key, w)] }).updVf key.vf
        (fun v => { v with drop := true, ndrop := min (v.ndrop + 1) 0xFFFF })
      if !v.drop && v.pgvec.getLsbD 15 then s1.send (.msix key.vf (v.pgvec.toNat % 2 ^ 11)) else s1

/-- The access, while it waits on a translation or a fault. -/
def State.markAccess (s : State) (w : Waiter) (p : AccessPhase) : State :=
  match w with
  | .access n =>
    match kfind n s.accesses with
    | some a => { s with accesses := kset n { a with phase := p } s.accesses }
    | none => s
  | _ => s

/-- R344, R348: an access that is denied. -/
def State.deny (s : State) (key : FaultKey) (w : PageWait) : State := (s.markAccess w.who .faulted).placeFault key w

/-- R345, R346: an access that misses both ATCs joins the page's translation, or starts one; in *not-present* it is
denied as the others were, in *failed* it fails as they do (DESIGN CHOICE, log 65). -/
def State.translate (s : State) (vf pasid : Nat) (w : PageWait) : State :=
  let die := clusterDie w.cl
  let page := w.addr / 4096
  match s.pageRec die vf pasid page with
  | some r =>
    match r.st with
    | .notPresent => s.deny ⟨vf, pasid, page, w.write⟩ w
    | .failed => s.failWaiter w 0x12
    | _ => s.setRec { r with waiters := r.waiters ++ [w] }
  | none =>
    (s.setRec ⟨die, vf, pasid, page, .translating, [w]⟩).send
      (.translationRequest die vf pasid (page * 4096) w.write)

/-- R344, R345: an access that no entry serves, or whose entry does not grant it, which is denied at once. -/
def State.miss (s : State) (vf pasid : Nat) (w : PageWait) : State :=
  match s.atcLookup w.cl vf pasid w.addr with
  | some e => if e.grants w.write then s.translate vf pasid w else s.deny ⟨vf, pasid, w.addr / 4096, w.write⟩ w
  | none => s.translate vf pasid w

/-- R345, R347, R348: the waiter has met a page fault: it stands in a fault buffer, waits on a page that is *requested*, or is
parked. -/
def State.faulting (s : State) (w : Waiter) : Bool :=
  s.pages.any (fun r => decide (r.st = .requested) && r.waiters.any (fun x => decide (x.who = w))) ||
  s.clusters.any (fun c => c.2.faults.any (fun f => f.waiters.any (fun x => decide (x.who = w))) ||
    c.2.parked.any (fun x => decide (x.2.who = w)))

/-- The waiter already waits on a page, on a fault, or is parked; a page that has *failed* keeps nothing waiting. -/
def State.awaits (s : State) (w : Waiter) : Bool :=
  s.pages.any (fun r => decide (r.st ≠ .failed) && r.waiters.any (fun x => decide (x.who = w))) || s.faulting w

/-- A waiter under another name. -/
def PageWait.renamed (old new : Waiter) (x : PageWait) : PageWait := if x.who = old then { x with who := new } else x

/-- R347: what waited on a page, in a fault buffer, or parked, as `old` waits there as `new`. -/
def State.renameWaiter (s : State) (old new : Waiter) : State :=
  { s with
    pages := s.pages.map (fun r => { r with waiters := r.waiters.map (PageWait.renamed old new) }),
    clusters := s.clusters.map (fun c => (c.1, { c.2 with
      faults := c.2.faults.map (fun f => { f with waiters := f.waiters.map (PageWait.renamed old new) }),
      parked := c.2.parked.map (fun x => (x.1, x.2.renamed old new)) })) }

/-- R347: an engine meets a missing translation: it waits on it once. -/
def State.engineMiss (s : State) (cl vf pasid va : Nat) (write : Bool) (w : Waiter) : State :=
  if s.awaits w then s else s.miss vf pasid ⟨w, va, write, cl⟩

/-! ### Completions (R343 to R345) -/

/-- R343: the size code under which a reported size is held. -/
def heldSize (bytes : Nat) : Nat :=
  if bytes < 2 ^ 14 then 0 else if bytes < 2 ^ 16 then 1 else if bytes < 2 ^ 21 then 2
  else if bytes < 2 ^ 25 then 3 else if bytes < 2 ^ 30 then 4 else 5

/-- R444: a host physical address lies in a non-coherent aperture. -/
def State.inAperture (s : State) (pa : Nat) : Bool :=
  s.apertures.any (fun e => decide (e.2.base ≤ pa) && decide (pa < e.2.base + e.2.size))

/-- R449: a host physical address lies in the Eave aperture of some joined partition. -/
def State.inEave (s : State) (pa : Nat) : Bool :=
  s.partitions.any (fun e => match e.2.join with
    | some j => decide (j.1 ≤ pa) && decide (pa < j.1 + 2 ^ 44)
    | none => false)

/-- R343, R344, R449: the entry that a completion fills: the aligned part of the reported range `[va', va' + size)`, at
host physical `pa`, that contains the requested address. -/
def State.atcEntry (s : State) (vf pasid va pa size : Nat) (rd wr : Bool) : AtcEntry :=
  let code := heldSize size
  let page := va / pageBytes code * pageBytes code
  let phys := pa + (page - va / size * size)
  let fab := s.inEave phys
  ⟨vf, pasid, code, page, phys, rd, wr, s.inAperture phys && !fab, fab⟩

/-- R351: an entry's page meets the address range. -/
def AtcEntry.meets (e : AtcEntry) (vf pasid va size : Nat) : Bool :=
  decide (e.vf = vf) && decide (e.pasid = pasid) && decide (e.page < va + size) && decide (va < e.page + pageBytes e.size)

/-- R343: an entry put in a cache in place of those that its page meets, the oldest making room. -/
def atcPut (e : AtcEntry) (cap : Nat) (l : List AtcEntry) : List AtcEntry :=
  ((l.filter (fun x => !x.meets e.vf e.pasid e.page (pageBytes e.size))) ++ [e]).reverse.take cap |>.reverse

/-- R343: a completion enters the die's ATC and the requesting cluster's. -/
def State.fillAtc (s : State) (die : Nat) (e : AtcEntry) (cls : List Nat) : State :=
  let s1 := { s with dieAtc := kset die (atcPut e 4096 (s.dieAtcOf die)) s.dieAtc }
  cls.foldl (fun (st : State) cl => st.updCluster cl (fun c => { c with atc := atcPut e 64 c.atc })) s1

/-- R292, R396, R444: an access leaves through the endpoint, or is refused: by the closed gate of its region, or with the
endpoint link down. -/
def State.sendAccess (s : State) (n : Nat) (a : Access) (loc : Nat) : State :=
  match pcieRequest n loc a.kind with
  | none => { s with accesses := kset n { a with phase := .refused 0x05 } s.accesses }
  | some m =>
    if s.pcieUp && !s.gateShut (clusterOf a.core) then
      ({ s with accesses := kset n { a with phase := .sent, phys := loc, sentAt := s.now } s.accesses }).send m
    else { s with accesses := kset n { a with phase := .refused 0x10 } s.accesses }

/-- R292: the accesses that waited for earlier requests of their strands leave, in issue order. -/
def State.sendQueued (s : State) : State :=
  s.accesses.foldl (fun (st : State) e =>
    if e.2.phase = .queued ∧ !st.unsentBefore e.2.core e.2.sid e.2.gid e.1 then st.sendAccess e.1 e.2 e.2.phys else st) s

/-- R292, R345, R347, R444, R449: an access whose page is granted proceeds: to memory, or out through the endpoint once the
earlier requests of its strand have left; on a fabric page it is refused. -/
def State.releaseWaiter (s : State) (w : Waiter) (e : AtcEntry) : State :=
  match w with
  | .access n =>
    match kfind n s.accesses with
    | some a =>
      let pa := e.phys + (a.addr - e.page)
      if e.fabric then { s with accesses := kset n { a with phase := .refused 0x05 } s.accesses }
      else if e.noncoh then { s with accesses := kset n { a with phase := .queued, phys := s.pcieLoc pa } s.accesses }.sendQueued
      else { s with accesses := kset n { a with phase := .ready, phys := pa } s.accesses }
    | none => s
  | _ => s

/-- R345: a completion for a page that is *translating*: granted accesses proceed, denied ones go to fault buffers. -/
def State.completeTranslation (s : State) (die vf pasid va pa size : Nat) (rd wr : Bool) : Option State :=
  match s.pageRec die vf pasid (va / 4096) with
  | none => none
  | some r =>
    if r.st ≠ .translating then none
    else
      let e := s.atcEntry vf pasid va pa size rd wr
      let s0 := { s with pages := dropRec die vf pasid (va / 4096) s.pages }
      let s1 := if rd || wr then s0.fillAtc die e (r.waiters.map (·.cl)) else s0
      let granted := r.waiters.filter (fun x => e.grants x.write)
      let denied := r.waiters.filter (fun x => !e.grants x.write && decide (x.who ≠ .prefetch false))
      let s2 := granted.foldl (fun (st : State) x => st.releaseWaiter x.who e) s1
      let s3 := denied.foldl (fun (st : State) x =>
        st.deny ⟨vf, pasid, r.page, x.write⟩ x) s2
      -- *not-present* while some denied access stands in a fault buffer
      let kept := s3.clusters.any (fun c => decide (clusterDie c.1 = die) && c.2.faults.any (fun f =>
        decide (f.key.vf = vf) && decide (f.key.pasid = pasid) && decide (f.key.page = r.page)))
      some (if !denied.isEmpty && kept then (s3.setRec { r with st := .notPresent, waiters := [] }).sendQueued else s3.sendQueued)

/-! ### Page requests (R346, R349) -/

/-- The lowest free queue index. -/
def freeIndex (reqs : List (Nat × FaultKey)) : Nat :=
  ((List.range 64).find? (fun i => (kfind i reqs).isNone)).getD 64

/-- R346: a page request for the page is queued. -/
def Vf.asked (v : Vf) (k : FaultKey) : Bool :=
  v.requests.any (fun e => decide (e.2.pasid = k.pasid) && decide (e.2.page = k.page))

/-- R349: fault-buffer entry `n` of a cluster is queued: it joins the page's request, or takes an index. -/
def State.queueFault (s : State) (cl n : Nat) : Option State :=
  match (s.cluster cl).faults[n]? with
  | none => none
  | some f =>
    if f.queued then none
    else
      let v := s.vf f.key.vf
      let mark (st : State) : State :=
        let st1 := st.updCluster cl (fun c => { c with faults := c.faults.mapIdx (fun i x =>
          if i = n then { x with queued := true } else x) })
        match st1.pageRec (clusterDie cl) f.key.vf f.key.pasid f.key.page with
        | some r => if r.st = .notPresent then st1.setRec { r with st := .requested } else st1
        | none => st1
      if v.asked f.key then some (mark s)
      else if v.requests.length < min v.alloc 64 ∧ freeIndex v.requests < 64 then
        let i := freeIndex v.requests
        some ((mark (s.updVf f.key.vf (fun v => { v with requests := kset i f.key v.requests }))).send
          (.pageRequest f.key.vf i f.key.pasid (f.key.page * 4096) f.key.write))
      else none

/-- The fault-buffer entries of a page in every cluster that a response handles: those queued. -/
def FaultEntry.answers (f : FaultEntry) (k : FaultKey) : Bool :=
  f.queued && decide (f.key.vf = k.vf) && decide (f.key.pasid = k.pasid) && decide (f.key.page = k.page)

/-- The accesses that wait on a page request. -/
def State.requestWaiters (s : State) (k : FaultKey) : List PageWait :=
  s.clusters.flatMap (fun c => (c.2.faults.filter (·.answers k)).flatMap (·.waiters)) ++
  (s.pages.filter (fun r => decide (r.vf = k.vf) && decide (r.pasid = k.pasid) && decide (r.page = k.page) &&
    decide (r.st = .requested))).flatMap (·.waiters)

/-- The page's request leaves the queue: its buffer entries and its records go. -/
def State.clearRequest (s : State) (vf idx : Nat) (k : FaultKey) : State :=
  { (s.updVf vf (fun v => { v with requests := kdel idx v.requests })) with
    clusters := s.clusters.map (fun c => (c.1, { c.2 with faults := c.2.faults.filter (fun f => !f.answers k) })),
    pages := s.pages.filter (fun r => !(decide (r.vf = k.vf) && decide (r.pasid = k.pasid) && decide (r.page = k.page) &&
      decide (r.st = .requested))) }

/-- R345, R349: a Success response: the page goes *translating* again and its accesses are replayed. -/
def State.prgSuccess (s : State) (vf idx : Nat) : Option State :=
  match kfind idx (s.vf vf).requests with
  | none => none
  | some k =>
    let ws := s.requestWaiters k
    let s1 := s.clearRequest vf idx k
    some (ws.foldl (fun (st : State) x => (st.markAccess x.who .translating).translate k.vf k.pasid x) s1)

/-- R345, R349: an Invalid Request response: every access waiting on the page fails with 0x12; the page is *failed* towards
the dies of those accesses until each has been reported, unless it is *translating* there again (R4: that state takes no
response). -/
def State.prgInvalid (s : State) (vf idx : Nat) : Option State :=
  match kfind idx (s.vf vf).requests with
  | none => none
  | some k =>
    let ws := s.requestWaiters k
    let s1 := ws.foldl (fun (st : State) x => st.failWaiter x 0x12) (s.clearRequest vf idx k)
    some ((ws.map (fun x => clusterDie x.cl)).dedup.foldl (fun (st : State) die =>
      if (st.pageRec die k.vf k.pasid k.page).any (fun r => decide (r.st = .translating)) then st
      else st.setRec ⟨die, k.vf, k.pasid, k.page, .failed, ws.filter (fun x => decide (clusterDie x.cl = die))⟩) s1).sendQueued

/-- R349: a Response Failure: the interface stops; every queued request and every waiting fault of the function fails. -/
def State.prgFailure (s : State) (vf idx : Nat) : Option State :=
  match kfind idx (s.vf vf).requests with
  | none => none
  | some _ =>
    let s1 := (s.vf vf).requests.foldl (fun (st : State) e => (st.prgInvalid vf e.1).getD st) s
    let left := s1.clusters.flatMap (fun c => (c.2.faults.filter (fun f => decide (f.key.vf = vf))).flatMap (·.waiters))
    let s2 := { s1 with
      clusters := s1.clusters.map (fun c => (c.1, { c.2 with faults := c.2.faults.filter (fun f => decide (f.key.vf ≠ vf)) })),
      pages := s1.pages.filter (fun r => !(decide (r.vf = vf) && decide (r.st = .notPresent))) }
    some ((left.foldl (fun (st : State) x => st.failWaiter x 0x12) s2).updVf vf (fun v => { v with stop := true })).sendQueued

/-! ### Retrying (R347, R350) -/

/-- R350: a retried access starts again from its cluster ATC lookup; an engine whose page is granted then goes on. -/
def State.retry (s : State) (key : FaultKey) (w : PageWait) : State :=
  match s.atcLookup w.cl key.vf key.pasid w.addr with
  | some e => if e.grants w.write then s.releaseWaiter w.who e else (s.markAccess w.who .translating).miss key.vf key.pasid w
  | none => (s.markAccess w.who .translating).miss key.vf key.pasid w

/-- R350: replay-all: the drop flag and count cleared, every parked access of the function retried in each cluster in
the order parked. -/
def State.replayAll (s : State) (vf : Nat) : State :=
  let todo := s.clusters.flatMap (fun c => c.2.parked.filter (fun x => decide (x.1.vf = vf)))
  let s1 := { (s.updVf vf (fun v => { v with drop := false, ndrop := 0 })) with
    clusters := s.clusters.map (fun c => (c.1, { c.2 with parked := c.2.parked.filter (fun x => decide (x.1.vf ≠ vf)) })) }
  (todo.foldl (fun (st : State) x => st.retry x.1 x.2) s1).sendQueued

/-! ### Invalidation (R351, R358) -/

/-- R351: entries removed from every ATC of the package. -/
def State.purgeAtc (s : State) (p : AtcEntry → Bool) : State :=
  { s with
    dieAtc := s.dieAtc.map (fun d => (d.1, d.2.filter (fun e => !p e))),
    clusters := s.clusters.map (fun c => (c.1, { c.2 with atc := c.2.atc.filter (fun e => !p e) })) }

/-- The entries of every ATC, with the die on which each stands. -/
def State.allAtc (s : State) : List (Nat × AtcEntry) :=
  s.dieAtc.flatMap (fun d => d.2.map (fun e => (d.1, e))) ++
    s.clusters.flatMap (fun c => c.2.atc.map (fun e => (clusterDie c.1, e)))

end Sys2Proof.Machine
end

