-- ==== Sys2Proof/Machine/LoadStore.lean ====
section
/-! DEFINITION. Loads, stores (R152 to R154) and the shared operations by which every scalar access reaches memory. -/
namespace Sys2Proof.Machine

/-! ### Values (R99, R152) -/

/-- R152: bytes extended into bits 63 to 0. -/
def extendBytes (size : Nat) (signed : Bool) (v : Nat) : TV :=
  TV.ofWord (if signed then BitVec.ofInt 64 (if 2 ^ (8 * size - 1) ≤ v then (v : Int) - 2 ^ (8 * size) else v)
    else BitVec.ofNat 64 v)

/-- R99, R152: what a load through capability `c` delivers from a location; a tag only to a 128-bit load that holds
`pldc`, from a usable granule. -/
def State.loadValue (s : State) (c : TV) (loc size : Nat) (signed : Bool) : TV :=
  if size = 16 then
    let v := s.readTagged loc
    { v with tag := v.tag && capOk v && capHas c permLoadCap }
  else extendBytes size signed (s.read loc size)

/-! ### Access requests -/

/-- R345, R347: the access waits on a translation. -/
def missing (x : Nat) (kind : AccessKind) (acq : Bool) (scope : Nat) : M Unit := do
  let n := (← get).nextAccess
  outstanding x kind acq scope .translating 0
  modState (fun s =>
    let ids := s.ctxIds s.turn.1
    s.miss ids.1 ids.2 ⟨.access n, x, kind.writes, clusterOf s.turn.1⟩)

/-- R292, R444: the access leaves through the PCI Express endpoint, after the earlier requests of its strand. -/
def sendOut (x loc : Nat) (kind : AccessKind) (acq : Bool) (scope : Nat) : M Unit := do
  let s ← get
  match pcieRequest s.nextAccess loc kind with
  | none => trap 0x05 (BitVec.ofNat 64 x)
  | some m =>
    if s.pcieUp then
      let t ← getStrand
      if s.unsentBefore s.turn.1 t.sid t.gid s.nextAccess then outstanding x kind acq scope .queued loc
      else
        outstanding x kind acq scope .sent loc
        modState (·.send m)
    else if kind.posted then
      modState (fun s => s.refuse (s.sender s.turn.1 s.turn.2) 0x10 (BitVec.ofNat 64 x))
    else trap 0x10 (BitVec.ofNat 64 x)

/-- R150: a refusal of the home: precise where the access returns a value, reported later where it is posted. -/
def refusedBy (cause x : Nat) (posted : Bool) : M Unit := do
  if posted then modState (fun s => s.refuse (s.sender s.turn.1 s.turn.2) cause (BitVec.ofNat 64 x))
  else trap cause (BitVec.ofNat 64 x)

/-- R451: `n` bytes read through the firmware window. -/
def State.windowRead (s : State) (x : Nat) : Nat → Nat
  | 0 => 0
  | n + 1 =>
    (match Config.windowByte x with
      | none => (s.byte x).toNat
      | some (loc, false) => (s.byte loc).toNat
      | some (loc, true) => (s.tagAt loc).toNat) + 256 * s.windowRead (x + 1) n

/-- R99, R451: bytes written through the firmware window: data leave their granule's tag alone, and a tag, the lowest bit of
its byte, its granule's data. -/
def State.windowWrite (s : State) (x : Nat) : List Byte → State
  | [] => s
  | b :: r =>
    (match Config.windowByte x with
      | none => s.setByte x b
      | some (loc, false) => s.setByte loc b
      | some (loc, true) =>
        { s with tags := if b.getLsbD 0 && taggedLoc loc then sadd (loc / 16) s.tags else sdel (loc / 16) s.tags }).windowWrite (x + 1) r

/-- The bytes at a located piece; in the firmware window as R451 reads them. -/
def State.pieceBytes (s : State) (p : Nat × Nat) : List Byte :=
  if p.1 / 2 ^ 60 = 12 then natBytes p.2 (s.windowRead p.1 p.2) else s.readBytes p.1 p.2

/-- A shape register changed. -/
def modShape (r : Nat) (f : Shape → Shape) : M Unit := modStrand (fun t => t.putSh r (f (t.getSh r)))

/-- R98, R451: a load or store of firmware through its window; a load delivers no tag. -/
def windowAccess (x : Nat) (kind : AccessKind) : M Unit :=
  match kind with
  | .load size sg d => do
    let s ← get
    result (BitVec.ofNat 6 d) 0 (if size = 16 then TV.ofNat (s.windowRead x 16) else extendBytes size sg (s.windowRead x size))
  | .store size v => modState (·.windowWrite x (natBytes size v.toNat))
  | .shpLoad d => do
    let s ← get
    modShape d (fun _ => ⟨BitVec.ofNat 512 (s.windowRead x 64), false⟩)
  | .shpStore v => modState (·.windowWrite x (natBytes 64 v.toNat))
  | _ => trap 0x05 (BitVec.ofNat 64 x)

/-- R279: the space checks that the issuing core makes of an access of `size` bytes at `x`. -/
def spaceCheck (x size : Nat) (write fm : Bool) : M Unit := do
  let s ← get
  if let .bad c := s.place s.turn.1 x size write fm then trap c (BitVec.ofNat 64 x)

/-- One scalar access of `kind` at `x` (R278, R279, R292, R341): to its place at once where it can be performed, else
outstanding. `act` performs it at a location. An interlocked result goes to field `d` (0 for none). -/
def access (x : Nat) (kind : AccessKind) (fm acq : Bool) (scope : Nat) (d : BitVec 6) (act : Nat → M Unit) : M Unit := do
  let s ← get
  let k := s.turn.1
  match s.place k x kind.bytes kind.writes fm with
  | .bad c => trap c (BitVec.ofNat 64 x)
  | .refused c => refusedBy c x kind.posted
  | .fabric _ => trap 0x05 (BitVec.ofNat 64 x)
  | .event off => result d 0 (TV.ofNat (s.eventReg k off))
  | .window x => windowAccess x kind
  | .here loc =>
    if s.gateBlocks (clusterOf k) loc kind scope then refusedBy 0x10 x kind.posted
    else if s.accessHeld k loc kind.bytes kind.writes then waitFor .inSlot
    else if decide (x < 2 ^ 63) && s.pageBusy k s.turn.2 x then
      outstanding x kind acq scope .ready loc
      hold kind.dest
    else act loc
  | .pcie loc => sendOut x loc kind acq scope; hold kind.dest
  | .missing => missing x kind acq scope; hold kind.dest

/-- R289: the directory sees the bytes read or written by a core's cluster. -/
def touchFor (loc size : Nat) (write : Bool) : M Unit :=
  modState (fun s => s.touch (clusterOf s.turn.1) loc size write)

/-- R60, R61, R152: a load's result delivered from a location. -/
def loadAt (c : TV) (size : Nat) (signed : Bool) (d : BitVec 6) (loc : Nat) : M Unit := do
  let s ← get
  touchFor loc size false
  result d 0 (s.loadValue c loc size signed)

/-- R99, R154: a store performed at a location. -/
def storeAt (size : Nat) (v : TV) (loc : Nat) : M Unit := do
  touchFor loc size true
  if size = 16 then modState (fun s => s.writeTagged loc v)
  else modState (fun s => s.write loc (natBytes size v.bits.toNat))

/-! ### Loads (R152) -/

/-- R152: a load of `size` bytes. -/
def load (size : Nat) (signed : Bool) (d a : BitVec 6) (imm : BitVec 13) : M Flow := do
  let c ← operand1 a [d]
  let x := (c.lo + imm13 imm).toNat
  afterAcquire
  derefCheck c x size permLoad
  if x % size ≠ 0 then trap 0x06 (BitVec.ofNat 64 x)
  access x (.load size signed d.toNat) false false 0 d (loadAt c size signed d)
  return .next

/-! ### Stores (R154) -/

/-- R154: a store of `size` bytes. -/
def store (size : Nat) (a b : BitVec 6) (imm : BitVec 13) : M Flow := do
  let (c, v) ← operand2 a b []
  let x := (c.lo + imm13 imm).toNat
  afterAcquire
  derefCheck c x size permStore
  if decide (size = 16) && v.tag && !capHas c permStoreCap then trap 0x05 (BitVec.ofNat 64 x)
  if x % size ≠ 0 then trap 0x06 (BitVec.ofNat 64 x)
  access x (.store size v.bits) false false 0 0#6 (storeAt size v)
  return .next

/-- `ld.i8`, R152. -/
def execLdI8 (d a : BitVec 6) (imm : BitVec 13) (s : State) : Host.Outcome State Fault Refusal :=
  runInstr 0 (load 1 true d a imm) s

/-- `ld.n8`, R152. -/
def execLdN8 (d a : BitVec 6) (imm : BitVec 13) (s : State) : Host.Outcome State Fault Refusal :=
  runInstr 0 (load 1 false d a imm) s

/-- `ld.i16`, R152. -/
def execLdI16 (d a : BitVec 6) (imm : BitVec 13) (s : State) : Host.Outcome State Fault Refusal :=
  runInstr 0 (load 2 true d a imm) s

/-- `ld.n16`, R152. -/
def execLdN16 (d a : BitVec 6) (imm : BitVec 13) (s : State) : Host.Outcome State Fault Refusal :=
  runInstr 0 (load 2 false d a imm) s

/-- `ld.i32`, R152. -/
def execLdI32 (d a : BitVec 6) (imm : BitVec 13) (s : State) : Host.Outcome State Fault Refusal :=
  runInstr 0 (load 4 true d a imm) s

/-- `ld.n32`, R152. -/
def execLdN32 (d a : BitVec 6) (imm : BitVec 13) (s : State) : Host.Outcome State Fault Refusal :=
  runInstr 0 (load 4 false d a imm) s

/-- `ld.64`, R152. -/
def execLd64 (d a : BitVec 6) (imm : BitVec 13) (s : State) : Host.Outcome State Fault Refusal :=
  runInstr 0 (load 8 false d a imm) s

/-- `ld.128`, R152. -/
def execLd128 (d a : BitVec 6) (imm : BitVec 13) (s : State) : Host.Outcome State Fault Refusal :=
  runInstr 0 (load 16 false d a imm) s

/-- `st.8`, R154. -/
def execSt8 (a b : BitVec 6) (imm : BitVec 13) (s : State) : Host.Outcome State Fault Refusal :=
  runInstr 0 (store 1 a b imm) s

/-- `st.16`, R154. -/
def execSt16 (a b : BitVec 6) (imm : BitVec 13) (s : State) : Host.Outcome State Fault Refusal :=
  runInstr 0 (store 2 a b imm) s

/-- `st.32`, R154. -/
def execSt32 (a b : BitVec 6) (imm : BitVec 13) (s : State) : Host.Outcome State Fault Refusal :=
  runInstr 0 (store 4 a b imm) s

/-- `st.64`, R154. -/
def execSt64 (a b : BitVec 6) (imm : BitVec 13) (s : State) : Host.Outcome State Fault Refusal :=
  runInstr 0 (store 8 a b imm) s

/-- `st.128`, R154. -/
def execSt128 (a b : BitVec 6) (imm : BitVec 13) (s : State) : Host.Outcome State Fault Refusal :=
  runInstr 0 (store 16 a b imm) s

end Sys2Proof.Machine
end

