-- ==== Sys2Proof/Machine/Block.lean ====
section
/-! DEFINITION. Accesses of more bytes than a register holds, performed whole while the instruction waits in its slot:
their places, page by page, and the translations they wait for (R278, R343, R347). -/
namespace Sys2Proof.Machine

/-- The pieces of bytes `[x, x + n)` that lie in different 4 KiB pages. -/
def pagePieces (x n : Nat) : List (Nat × Nat) :=
  if n = 0 then []
  else
    let m := min n (4096 - x % 4096)
    if m = n then [(x, n)] else [(x, m), (x + m, n - m)]

/-- The waiter that stands for the instruction of the strand whose turn it is. -/
def State.curWaiter (s : State) : Waiter := .strand s.turn.1 s.turn.2 ((s.cur.map (·.sid)).getD 0#32)

/-- R303, R347: a failure reported to the waiting instruction is taken, against its address `x`; while its access waits on a
page, or is parked, so does the instruction. -/
def takeFailure (x : Nat) (k : WaitKind) : M Unit := do
  let s ← get
  match s.engineFails.find? (fun f => decide (f.1 = s.curWaiter)) with
  | some f =>
    modState (fun s => { s with engineFails := s.engineFails.filter (fun g => decide (g.1 ≠ s.curWaiter)) })
    trap f.2.1 (BitVec.ofNat 64 x)
  | none => if s.awaits s.curWaiter then waitFor k

/-- R345: the instruction waits for the translation of an address. -/
def waitTranslation {α : Type} (x : Nat) (write : Bool) (k : WaitKind) : M α :=
  throw (.waitDo k (fun s =>
    let ids := s.ctxIds s.turn.1
    s.engineMiss (clusterOf s.turn.1) ids.1 ids.2 x write s.curWaiter))

/-- R292, R444: the location of a piece behind the endpoint once its request, which leaves after the earlier ones of the
strand, has been answered. -/
def fetchedLoc (x loc n : Nat) (k : WaitKind) : M (Nat × Nat) := do
  let s ← get
  match s.fetched s.curWaiter loc n with
  | .data => return (loc, n)
  | .underWay => waitFor k
  | .failed c => trap c (BitVec.ofNat 64 x)
  | .notSent => throw (.waitDo k (fun s => s.askRead s.curWaiter loc n))

/-- The location of one piece that is read, an address of the firmware window standing for itself (R98, R451); `x` is the
address that a trap reports. -/
def pieceLoc (x : Nat) (write fm : Bool) (k : WaitKind) (p : Nat × Nat) : M (Nat × Nat) := do
  let s ← get
  match s.place s.turn.1 p.1 p.2 write fm with
  | .here loc =>
    if s.accessHeld s.turn.1 loc p.2 write then waitFor k
    if decide (p.1 < 2 ^ 63) && s.pageBusy s.turn.1 s.turn.2 p.1 then waitFor k
    return (loc, p.2)
  | .missing => waitTranslation p.1 write k
  | .bad c => trap c (BitVec.ofNat 64 x)
  | .refused c => trap c (BitVec.ofNat 64 x)
  | .event _ => trap 0x05 (BitVec.ofNat 64 x)
  | .window y => return (y, p.2)
  | .fabric _ => trap 0x05 (BitVec.ofNat 64 x)
  | .pcie loc =>
    if s.pageBusy s.turn.1 s.turn.2 p.1 || s.unsentBy s.turn.1 s.turn.2 then waitFor k
    fetchedLoc x loc p.2 k

/-- The locations of an access of `n` bytes at `x`. -/
def blockLocs (x n : Nat) (write fm : Bool) (k : WaitKind) : M (List (Nat × Nat)) := do
  takeFailure x k
  (pagePieces x n).mapM (pieceLoc x write fm k)

/-- The bytes read from a block. -/
def readBlock (locs : List (Nat × Nat)) : M (List Byte) := do
  locs.forM (fun p => touchFor p.1 p.2 false)
  modState (fun s => s.dropRequests s.curWaiter)
  let s ← get
  return locs.flatMap s.pieceBytes

end Sys2Proof.Machine
end

