-- ==== Sys2Proof/Machine/Flit.lean ====
section
/-! DEFINITION. Flits of the Eave link (R293, R294, R447): their layout, their CRC, and sending one. -/
namespace Sys2Proof.Machine

/-- R447: one bit of the CRC. -/
def crcBit (c : BitVec 64) : BitVec 64 := if c.msb then (c <<< 1) ^^^ 0x42F0E1EBA9EA3693#64 else c <<< 1

/-- R447: one byte of the CRC. -/
def crcByte (c : BitVec 64) (b : Byte) : BitVec 64 :=
  (List.range 8).foldl (fun x _ => crcBit x) (c ^^^ (b.setWidth 64 <<< 56))

/-- R447: CRC-64 of bytes: the plain remainder from 0 (DEDUCED, log 16). -/
def crc64 (l : List Byte) : BitVec 64 := l.foldl crcByte 0#64

/-- R447: fields of word 0 of a flit. -/
def flitField (f lo w : Nat) : Nat := f / 2 ^ lo % 2 ^ w

/-- R447: the flit's CRC holds. -/
def flitOk (f : Nat) : Bool := decide ((crc64 (natBytes 248 f)).toNat = f / 2 ^ 1984 % 2 ^ 64)

/-- R447: the payload words of a flit that are used, as one number. -/
def flitPayload (f : Nat) : Nat := f / 2 ^ 64 % 2 ^ (64 * min 30 (flitField f 32 5))

/-- R447: bytes 0 to 247 of a flit: its header and at most 30 words of payload. -/
def flitBody (seq ack nak cls : Nat) (words : List (BitVec 64)) : Nat :=
  let w := words.take 30
  seq % 2 ^ 12 + ack % 2 ^ 12 * 2 ^ 12 + nak % 2 * 2 ^ 24 + cls % 4 * 2 ^ 25 + w.length * 2 ^ 32 +
    (w.foldr (fun x n => x.toNat + 2 ^ 64 * n) 0) * 2 ^ 64

/-- R447: a flit with its CRC. -/
def mkFlit (seq ack nak cls : Nat) (words : List (BitVec 64)) : Nat :=
  let b := flitBody seq ack nak cls words
  b + (crc64 (natBytes 248 b)).toNat * 2 ^ 1984

/-- R294, R445: the link is *up* or *degraded*. -/
def State.linkUp (s : State) : Bool := decide (s.eave.st = .up) || decide (s.eave.st = .degraded)

/-- R293: the fabric window of the moment. -/
def State.windowNow (s : State) : Nat := s.timeNs / (s.fabricL * 1000)

/-- R447: the sender may hold one more flit for replay. -/
def State.flitRoom (s : State) : Bool := decide (s.eave.replay.length < 1024)

/-- R447: the highest number received in order. -/
def Link.ackNow (e : Link) : Nat := (e.recvSeq + 4095) % 4096

/-- R447: a flit of a class sent, with the acknowledgement of what has been received, and held for replay with its window. -/
def State.sendFlit (s : State) (nak cls : Nat) (words : List (BitVec 64)) : State :=
  let e := s.eave
  let f := mkFlit e.sendSeq e.ackNow nak cls words
  ({ s with eave := { e with sendSeq := (e.sendSeq + 1) % 4096, replay := e.replay ++ [HeldFlit.mk e.sendSeq s.windowNow 0 f] } }).send
    (.eaveFlit f)

end Sys2Proof.Machine
end

