-- ==== Sys2Proof/Machine/Fp32.lean ====
section
/-! DEFINITION. Scalar floating point (R112 to R117). -/
namespace Sys2Proof.Machine

/-- R112: bits 31 to 0 of a source. -/
def TV.f32 (v : TV) : Nat := v.bits.toNat % 2 ^ 32

/-- A meaning of one FP32 source; `rounds` where the operation is a rounding (R45). -/
def fpOp1 (rounds : Bool) (lat : Nat) (d a : BitVec 6) (f : RMode → Nat → Nat → Nat × FlagSet) : M Flow := do
  let x ← operand1 a [d]
  let t ← getStrand
  let draw ← if rounds then takeDraw t.mode else pure 0
  let (r, fl) := f t.mode draw x.f32
  resultFlags d lat fl
  result d lat (TV.ofNat r)
  return .next

/-- A meaning of two FP32 sources. -/
def fpOp2 (rounds : Bool) (lat : Nat) (d a b : BitVec 6) (f : RMode → Nat → Nat → Nat → Nat × FlagSet) : M Flow := do
  let (x, y) ← operand2 a b [d]
  let t ← getStrand
  let draw ← if rounds then takeDraw t.mode else pure 0
  let (r, fl) := f t.mode draw x.f32 y.f32
  resultFlags d lat fl
  result d lat (TV.ofNat r)
  return .next

/-- A meaning of three FP32 sources, one rounding, of latency 4 (R117). -/
def fpOp3 (d a b c : BitVec 6) (f : RMode → Nat → Nat → Nat → Nat → Nat × FlagSet) : M Flow := do
  let (x, y, z) ← operand3 a b c [d]
  let t ← getStrand
  let draw ← takeDraw t.mode
  let (r, fl) := f t.mode draw x.f32 y.f32 z.f32
  resultFlags d 4 fl
  result d 4 (TV.ofNat r)
  return .next

/-- The value of an FP32 code. -/
def fv (c : Nat) : FVal := Fmt.f32.decode c

/-- 1 or 0. -/
def bit01 (r : Bool × FlagSet) : Nat × FlagSet := ((if r.1 then 1 else 0), r.2)

/-- R116: the sign bit of an FP32 code. -/
def signBit (c : Nat) : Nat := c / 2 ^ 31 % 2 * 2 ^ 31

/-! ### R112 to R116: op 0x21; `fdiv` and `fsqrt` interlocked, the others of latency 4 -/

/-- `fadd.f32`, R112, R113. -/
def execFaddF32 (d a b : BitVec 6) (sc : BitVec 2) (s : State) : Host.Outcome State Fault Refusal :=
  runInstr sc.toNat (fpOp2 true 4 d a b (fun rm dr x y => addVal .f32 rm false dr (fv x) (fv y))) s

/-- `fsub.f32`, R112, R113. -/
def execFsubF32 (d a b : BitVec 6) (sc : BitVec 2) (s : State) : Host.Outcome State Fault Refusal :=
  runInstr sc.toNat (fpOp2 true 4 d a b (fun rm dr x y => addVal .f32 rm false dr (fv x) (fv y).neg)) s

/-- `fmul.f32`, R112, R113. -/
def execFmulF32 (d a b : BitVec 6) (sc : BitVec 2) (s : State) : Host.Outcome State Fault Refusal :=
  runInstr sc.toNat (fpOp2 true 4 d a b (fun rm dr x y => mulVal .f32 rm dr (fv x) (fv y))) s

/-- `fdiv.f32`, R112, R113. -/
def execFdivF32 (d a b : BitVec 6) (sc : BitVec 2) (s : State) : Host.Outcome State Fault Refusal :=
  runInstr sc.toNat (fpOp2 true 0 d a b (fun rm dr x y => divVal .f32 rm dr (fv x) (fv y))) s

/-- `fsqrt.f32`, R112, R113. -/
def execFsqrtF32 (d a : BitVec 6) (sc : BitVec 2) (s : State) : Host.Outcome State Fault Refusal :=
  runInstr sc.toNat (fpOp1 true 0 d a (fun rm dr x => sqrtVal .f32 rm dr (fv x))) s

/-- `fmin.f32`, R114. -/
def execFminF32 (d a b : BitVec 6) (sc : BitVec 2) (s : State) : Host.Outcome State Fault Refusal :=
  runInstr sc.toNat (fpOp2 false 4 d a b (fun _ _ x y => minMaxVal .f32 false x y)) s

/-- `fmax.f32`, R114. -/
def execFmaxF32 (d a b : BitVec 6) (sc : BitVec 2) (s : State) : Host.Outcome State Fault Refusal :=
  runInstr sc.toNat (fpOp2 false 4 d a b (fun _ _ x y => minMaxVal .f32 true x y)) s

/-- `feq.f32`, R115. -/
def execFeqF32 (d a b : BitVec 6) (sc : BitVec 2) (s : State) : Host.Outcome State Fault Refusal :=
  runInstr sc.toNat (fpOp2 false 4 d a b (fun _ _ x y => bit01 (eqVal (fv x) (fv y)))) s

/-- `flt.f32`, R115. -/
def execFltF32 (d a b : BitVec 6) (sc : BitVec 2) (s : State) : Host.Outcome State Fault Refusal :=
  runInstr sc.toNat (fpOp2 false 4 d a b (fun _ _ x y => bit01 (ltVal false (fv x) (fv y)))) s

/-- `fle.f32`, R115. -/
def execFleF32 (d a b : BitVec 6) (sc : BitVec 2) (s : State) : Host.Outcome State Fault Refusal :=
  runInstr sc.toNat (fpOp2 false 4 d a b (fun _ _ x y => bit01 (ltVal true (fv x) (fv y)))) s

/-- `fclass.f32`, R115. -/
def execFclassF32 (d a : BitVec 6) (sc : BitVec 2) (s : State) : Host.Outcome State Fault Refusal :=
  runInstr sc.toNat (fpOp1 false 4 d a (fun _ _ x => (classMask .f32 x, 0#5))) s

/-- `fsgn.f32`, R116. -/
def execFsgnF32 (d a b : BitVec 6) (sc : BitVec 2) (s : State) : Host.Outcome State Fault Refusal :=
  runInstr sc.toNat (fpOp2 false 4 d a b (fun _ _ x y => (x % 2 ^ 31 + signBit y, 0#5))) s

/-- `fneg.f32`, R116. -/
def execFnegF32 (d a : BitVec 6) (sc : BitVec 2) (s : State) : Host.Outcome State Fault Refusal :=
  runInstr sc.toNat (fpOp1 false 4 d a (fun _ _ x => (x % 2 ^ 31 + (2 ^ 31 - signBit x), 0#5))) s

/-- `fabs.f32`, R116. -/
def execFabsF32 (d a : BitVec 6) (sc : BitVec 2) (s : State) : Host.Outcome State Fault Refusal :=
  runInstr sc.toNat (fpOp1 false 4 d a (fun _ _ x => (x % 2 ^ 31, 0#5))) s

/-- `fmadd.f32`, R117. -/
def execFmaddF32 (d a b c : BitVec 6) (s : State) : Host.Outcome State Fault Refusal :=
  runInstr 0 (fpOp3 d a b c (fun rm dr x y z => fmaVal .f32 rm dr (fv x) (fv y) (fv z))) s

/-- `fmsub.f32`, R117. -/
def execFmsubF32 (d a b c : BitVec 6) (s : State) : Host.Outcome State Fault Refusal :=
  runInstr 0 (fpOp3 d a b c (fun rm dr x y z => fmaVal .f32 rm dr (fv x) (fv y) (fv z).neg)) s

end Sys2Proof.Machine
end

