-- ==== Sys2Proof/Machine/Atomic.lean ====
section
/-! DEFINITION. Format M: atomics, reductions, compare and swap, waiting on a location, fences, acquiring loads and
releasing stores (R288, R294 to R303). -/
namespace Sys2Proof.Machine

/-! ### Operations (R297, R298) -/

/-- R297: Op(old, v) on operands of `8 size` bits, and its flags. -/
def AmoOp.apply (op : AmoOp) (size old v : Nat) : Nat × FlagSet :=
  let w := 8 * size
  let a := BitVec.ofNat w old
  let b := BitVec.ofNat w v
  match op with
  | .swap => (b.toNat, 0#5)
  | .add => ((a + b).toNat, 0#5)
  | .and => ((a &&& b).toNat, 0#5)
  | .or => ((a ||| b).toNat, 0#5)
  | .xor => ((a ^^^ b).toNat, 0#5)
  | .min => ((if b.slt a then b else a).toNat, 0#5)
  | .max => ((if a.slt b then b else a).toNat, 0#5)
  | .minn => ((if b.ult a then b else a).toNat, 0#5)
  | .maxn => ((if a.ult b then b else a).toNat, 0#5)
  | .fadd => addVal .f32 .rne false 0 (Fmt.f32.decode a.toNat) (Fmt.f32.decode b.toNat)
  | .fmin => minMaxVal .f32 false a.toNat b.toNat
  | .fmax => minMaxVal .f32 true a.toNat b.toNat

/-- R295: the caches as an atomic finds its location: the sector in M at the issuing cluster, or recalled from every
cache for scopes 3 and 4. -/
def State.touchAtomic (s : State) (cl loc size scope : Nat) : State :=
  if 3 ≤ scope then (if cachedLoc loc then (sectorsOf loc size).foldl (fun (st : State) x => st.dirRecall x) s else s)
  else s.touch cl loc size true

/-- R295, R297: an atomic performed at its owner: the old value, the flags, and the state. -/
def State.atomicAt (s : State) (cl loc size scope : Nat) (op : AmoOp) (v : Nat) : Nat × FlagSet × State :=
  let old := s.read loc size
  let r := op.apply size old v
  (old, r.2, (s.touchAtomic cl loc size scope).write loc (natBytes size r.1))

/-- R299: a compare and swap performed at its owner: the old bytes and the state. -/
def State.casAt (s : State) (cl loc size scope : Nat) (expect : Nat) (new : TV) : Nat × State :=
  let old := s.read loc size
  let s1 := s.touchAtomic cl loc size scope
  (old, if old = expect then
      (if size = 16 then s1.writeTagged loc new else s1.write loc (natBytes size new.bits.toNat))
    else s1)

/-! ### Fabric order (R293, R294) -/

/-- R294: a copy command that may still send fabric writes: some page of a row that it has still to move is a fabric page,
or is not translated yet. -/
def State.mayBeFabric (s : State) (c : CopyCmd) : Bool :=
  c.status.isNone && (List.range c.rows).any (fun r => decide (c.row ≤ r) && (c.pieces r).any (fun p => decide (p.1 < 2 ^ 63) &&
    match s.hostPlace (clusterOf c.src.core) c.ids.1 c.ids.2 p.1 (!c.gets) with
    | .fabric _ => true
    | .missing => true
    | _ => false))

/-- R293: the start of a fabric window, in nanoseconds. -/
def State.windowStart (s : State) (n : Nat) : Nat := n * s.fabricL * 1000

/-- R294, R450: the strand's fabric writes have still to be sent, or their window has not passed. With the link down a
fabric command fails at once and sends nothing. -/
def State.fabricPending (s : State) (k sl : Nat) : Bool :=
  (s.linkUp && (s.copiesOf k sl).any (s.mayBeFabric ·)) ||
    match (s.strand k sl).bind (·.fabWindow) with
    | some n => decide (s.timeNs < s.windowStart (n + 2))
    | none => false

/-- R294 part 3: the wait of `fence.win`. Its part 5 is the link's own loss, `linkLost`. -/
def fabricWait : M Unit := do
  let s ← get
  if s.fabricPending s.turn.1 s.turn.2 then waitFor .fenceWin
  modStrand (fun t => { t with fabWindow := none })

/-- R285, R294: a release at a scope; one at fabric scope waits as `fence.win` does, for a loss of the link to end. -/
def releaseAt (rel : Bool) (scope : Nat) : M Unit := do
  let s ← get
  if rel && !s.released s.turn.1 s.turn.2 then waitFor (if scope = 4 then .fenceWin else .inSlot)
  if rel && decide (scope = 4) then fabricWait

/-! ### Forms -/

/-- R84: the acquire and release parts of an order code. -/
def ordAcq (o : BitVec 2) : Bool := o.getLsbD 0
def ordRel (o : BitVec 2) : Bool := o.getLsbD 1

/-- R296: the checks of a format M access, before it waits for anything. -/
def formatMCheck (c : TV) (x size perms : Nat) : M Unit := do
  derefCheck c x size perms
  if x % size ≠ 0 then trap 0x06 (BitVec.ofNat 64 x)
  spaceCheck x size (decide (perms &&& permStore ≠ 0)) true

/-- R297: an `amo` of `size` bytes. -/
def amo (op : AmoOp) (size : Nat) (d a b : BitVec 6) (scope : BitVec 3) (ord : BitVec 2) : M Flow := do
  let (c, y) ← operand2 a b [d]
  let x := capAddr c
  let v := y.bits.toNat % 2 ^ (8 * size)
  afterAcquire
  formatMCheck c x size (permLoad ||| permStore ||| permAtomic)
  releaseAt (ordRel ord) scope.toNat
  access x (.amo op size (BitVec.ofNat 64 v) d.toNat) true (ordAcq ord) scope.toNat d (fun loc => do
    let s ← get
    let (old, fl, s') := s.atomicAt (clusterOf s.turn.1) loc size scope.toNat op v
    set s'
    setFlags fl
    result d 0 (TV.ofNat old))
  return .next

/-- R298: a `red` of `size` bytes; it sets no flag. -/
def red (op : AmoOp) (size : Nat) (a b : BitVec 6) (scope : BitVec 3) (ord : BitVec 2) : M Flow := do
  let (c, y) ← operand2 a b []
  let x := capAddr c
  let v := y.bits.toNat % 2 ^ (8 * size)
  afterAcquire
  formatMCheck c x size (permStore ||| permAtomic)
  releaseAt (ordRel ord) scope.toNat
  access x (.red op size (BitVec.ofNat 64 v)) true false scope.toNat 0#6 (fun loc =>
    modState (fun s => (s.atomicAt (clusterOf s.turn.1) loc size scope.toNat op v).2.2))
  return .next

/-- R299: the old value of a `cas` as a register receives it. -/
def casResult (c : TV) (size old : Nat) (tag : Bool) : TV :=
  if size = 16 then
    let v : TV := ⟨BitVec.ofNat 128 old, tag⟩
    { v with tag := tag && capOk v && capHas c permLoadCap }
  else TV.ofNat old

/-- R299: a `cas` of `size` bytes. -/
def cas (size : Nat) (d a b : BitVec 6) (scope : BitVec 3) (ord : BitVec 2) : M Flow := do
  let l ← operandsOf [a, b, d] [a, b, d] [d]
  let c := l.getD 0 TV.zero
  let y := l.getD 1 TV.zero
  let e := (l.getD 2 TV.zero).bits.toNat % 2 ^ (8 * size)
  let x := capAddr c
  afterAcquire
  formatMCheck c x size ((permLoad ||| permStore ||| permAtomic) |||
    (if decide (size = 16) && y.tag then permStoreCap else 0))
  releaseAt (ordRel ord) scope.toNat
  access x (.cas size (BitVec.ofNat 128 e) y.bits d.toNat) true (ordAcq ord) scope.toNat d (fun loc => do
    let s ← get
    let tag := taggedLoc loc && s.tagAt loc
    let (old, s') := s.casAt (clusterOf s.turn.1) loc size scope.toNat e y
    set s'
    result d 0 (casResult c size old tag))
  return .next

/-- R300: `a` and `b` name g0 to g3 and `d` no q register, so that the wait may suspend the strand. -/
def blockingFields (d : BitVec 6) (src : List (BitVec 6)) : Bool := !isQ d && src.all (fun r => decide (r.toNat ≤ 3))

/-- R347: a `waitv` that has met a page fault stays outstanding: its result is interlocked, and it is delivered once its
page is granted and the bytes differ. -/
def waitvStalled (x : Nat) (kind : AccessKind) (acq : Bool) (scope : Nat) : M Unit := do
  modState (fun s => s.renameWaiter s.curWaiter (.access s.nextAccess))
  outstanding x kind acq scope .faulted 0
  hold kind.dest

/-- R300, R347: `waitv` on `size` bytes. While its page is being translated it is the blocking wait that it is while the
bytes are equal; only a page fault makes it an outstanding access (DEDUCED, log 69). -/
def waitv (size : Nat) (d a b : BitVec 6) (scope : BitVec 3) (ord : BitVec 1) : M Flow := do
  let (c, y) ← operand2 a b [d]
  let x := capAddr c
  let e := y.bits.toNat % 2 ^ (8 * size)
  let kind := WaitKind.waitv x size e (blockingFields d [a, b])
  afterAcquire
  formatMCheck c x size permLoad
  let s ← get
  if s.faulting s.curWaiter then waitvStalled x (.wait size e d.toNat) (ord.getLsbD 0) scope.toNat
  else
    takeFailure x kind
    match s.place s.turn.1 x size false true with
    | .here loc =>
      if s.accessHeld s.turn.1 loc size false then waitFor kind
      if decide (x < 2 ^ 63) && s.pageBusy s.turn.1 s.turn.2 x then waitFor kind
      let v := s.read loc size
      if v = e then waitFor kind
      touchFor loc size false
      result d 0 (TV.ofNat v)
    | .missing => waitTranslation x false kind
    | .bad f => trap f (BitVec.ofNat 64 x)
    | .refused f => trap f (BitVec.ofNat 64 x)
    | _ => trap 0x05 (BitVec.ofNat 64 x)
  return .next

/-- R301: `lda`. -/
def loadAcquire (size : Nat) (d a : BitVec 6) (scope : BitVec 3) : M Flow := do
  let c ← operand1 a [d]
  let x := capAddr c
  afterAcquire
  formatMCheck c x size permLoad
  access x (.load size false d.toNat) true true scope.toNat d (loadAt c size false d)
  return .next

/-- R301: `stl`. -/
def storeRelease (size : Nat) (a b : BitVec 6) (scope : BitVec 3) : M Flow := do
  let (c, v) ← operand2 a b []
  let x := capAddr c
  afterAcquire
  formatMCheck c x size permStore
  releaseAt true scope.toNat
  access x (.store size v.bits) true false scope.toNat 0#6 (storeAt size v)
  return .next

/-! ### R297: op 0x35 to 0x37 -/

/-- `amo.swap`, R297. -/
def execAmoSwap (d a b : BitVec 6) (scope : BitVec 3) (ord : BitVec 2) (s : State) : Host.Outcome State Fault Refusal :=
  runInstr 0 (amo .swap 8 d a b scope ord) s

/-- `amo.add`, R297. -/
def execAmoAdd (d a b : BitVec 6) (scope : BitVec 3) (ord : BitVec 2) (s : State) : Host.Outcome State Fault Refusal :=
  runInstr 0 (amo .add 8 d a b scope ord) s

/-- `amo.and`, R297. -/
def execAmoAnd (d a b : BitVec 6) (scope : BitVec 3) (ord : BitVec 2) (s : State) : Host.Outcome State Fault Refusal :=
  runInstr 0 (amo .and 8 d a b scope ord) s

/-- `amo.or`, R297. -/
def execAmoOr (d a b : BitVec 6) (scope : BitVec 3) (ord : BitVec 2) (s : State) : Host.Outcome State Fault Refusal :=
  runInstr 0 (amo .or 8 d a b scope ord) s

/-- `amo.xor`, R297. -/
def execAmoXor (d a b : BitVec 6) (scope : BitVec 3) (ord : BitVec 2) (s : State) : Host.Outcome State Fault Refusal :=
  runInstr 0 (amo .xor 8 d a b scope ord) s

/-- `amo.min`, R297. -/
def execAmoMin (d a b : BitVec 6) (scope : BitVec 3) (ord : BitVec 2) (s : State) : Host.Outcome State Fault Refusal :=
  runInstr 0 (amo .min 8 d a b scope ord) s

/-- `amo.max`, R297. -/
def execAmoMax (d a b : BitVec 6) (scope : BitVec 3) (ord : BitVec 2) (s : State) : Host.Outcome State Fault Refusal :=
  runInstr 0 (amo .max 8 d a b scope ord) s

/-- `amo.minn`, R297. -/
def execAmoMinn (d a b : BitVec 6) (scope : BitVec 3) (ord : BitVec 2) (s : State) : Host.Outcome State Fault Refusal :=
  runInstr 0 (amo .minn 8 d a b scope ord) s

/-- `amo.maxn`, R297. -/
def execAmoMaxn (d a b : BitVec 6) (scope : BitVec 3) (ord : BitVec 2) (s : State) : Host.Outcome State Fault Refusal :=
  runInstr 0 (amo .maxn 8 d a b scope ord) s

/-- `amo.fadd.f32`, R297. -/
def execAmoFaddF32 (d a b : BitVec 6) (scope : BitVec 3) (ord : BitVec 2) (s : State) : Host.Outcome State Fault Refusal :=
  runInstr 0 (amo .fadd 4 d a b scope ord) s

/-- `amo.fmin.f32`, R297. -/
def execAmoFminF32 (d a b : BitVec 6) (scope : BitVec 3) (ord : BitVec 2) (s : State) : Host.Outcome State Fault Refusal :=
  runInstr 0 (amo .fmin 4 d a b scope ord) s

/-- `amo.fmax.f32`, R297. -/
def execAmoFmaxF32 (d a b : BitVec 6) (scope : BitVec 3) (ord : BitVec 2) (s : State) : Host.Outcome State Fault Refusal :=
  runInstr 0 (amo .fmax 4 d a b scope ord) s

/-! ### R298: op 0x38 -/

/-- `red.add`, R298. -/
def execRedAdd (a b : BitVec 6) (scope : BitVec 3) (ord : BitVec 2) (s : State) : Host.Outcome State Fault Refusal :=
  runInstr 0 (red .add 8 a b scope ord) s

/-- `red.fadd.f32`, R298. -/
def execRedFaddF32 (a b : BitVec 6) (scope : BitVec 3) (ord : BitVec 2) (s : State) : Host.Outcome State Fault Refusal :=
  runInstr 0 (red .fadd 4 a b scope ord) s

/-- `red.min`, R298. -/
def execRedMin (a b : BitVec 6) (scope : BitVec 3) (ord : BitVec 2) (s : State) : Host.Outcome State Fault Refusal :=
  runInstr 0 (red .min 8 a b scope ord) s

/-- `red.max`, R298. -/
def execRedMax (a b : BitVec 6) (scope : BitVec 3) (ord : BitVec 2) (s : State) : Host.Outcome State Fault Refusal :=
  runInstr 0 (red .max 8 a b scope ord) s

/-! ### R299, R300: op 0x39 -/

/-- `cas.64`, R299. -/
def execCas64 (d a b : BitVec 6) (scope : BitVec 3) (ord : BitVec 2) (s : State) : Host.Outcome State Fault Refusal :=
  runInstr 0 (cas 8 d a b scope ord) s

/-- `cas.128`, R299. -/
def execCas128 (d a b : BitVec 6) (scope : BitVec 3) (ord : BitVec 2) (s : State) : Host.Outcome State Fault Refusal :=
  runInstr 0 (cas 16 d a b scope ord) s

/-- `waitv.64`, R300. -/
def execWaitv64 (d a b : BitVec 6) (scope : BitVec 3) (ord : BitVec 1) (s : State) :
    Host.Outcome State Fault Refusal :=
  runInstr 0 (waitv 8 d a b scope ord) s

/-- `waitv.32`, R300. -/
def execWaitv32 (d a b : BitVec 6) (scope : BitVec 3) (ord : BitVec 1) (s : State) :
    Host.Outcome State Fault Refusal :=
  runInstr 0 (waitv 4 d a b scope ord) s

/-! ### R288, R294: op 0x3A -/

/-- R288: the order of a fence: every earlier access performed, and at fabric scope the wait of `fence.win`. -/
def fenceAll (scope : BitVec 3) : M Flow := do
  releaseAt true scope.toNat
  return .next

/-- `fence`, R288, R302. -/
def execFence (scope : BitVec 3) (s : State) : Host.Outcome State Fault Refusal := runInstr 0 (fenceAll scope) s

/-- `fence.acq`, R288, R302: every earlier read is performed. At fabric scope it is an acquire, which acts as at system scope, and
not one of the fences that take the wait of `fence.win`: R294 rule 4 can be read either way (DESIGN CHOICE, log 77). -/
def execFenceAcq (_scope : BitVec 3) (s : State) : Host.Outcome State Fault Refusal :=
  runInstr 0 (do
    let s ← get
    if (s.mine s.turn.1 s.turn.2).any (fun e => !e.2.kind.posted) then waitFor .inSlot
    return .next) s

/-- `fence.rel`, R288, R302: every earlier access is performed before the writes that follow. -/
def execFenceRel (scope : BitVec 3) (s : State) : Host.Outcome State Fault Refusal := runInstr 0 (fenceAll scope) s

/-- `fence.win`, R294, R302. -/
def execFenceWin (s : State) : Host.Outcome State Fault Refusal :=
  runInstr 0 (do
    fabricWait
    return .next) s

/-! ### R301: op 0x3B -/

/-- `lda.64`, R301. -/
def execLda64 (d a : BitVec 6) (scope : BitVec 3) (s : State) : Host.Outcome State Fault Refusal :=
  runInstr 0 (loadAcquire 8 d a scope) s

/-- `lda.32`, R301. -/
def execLda32 (d a : BitVec 6) (scope : BitVec 3) (s : State) : Host.Outcome State Fault Refusal :=
  runInstr 0 (loadAcquire 4 d a scope) s

/-- `stl.64`, R301. -/
def execStl64 (a b : BitVec 6) (scope : BitVec 3) (s : State) : Host.Outcome State Fault Refusal :=
  runInstr 0 (storeRelease 8 a b scope) s

/-- `stl.32`, R301. -/
def execStl32 (a b : BitVec 6) (scope : BitVec 3) (s : State) : Host.Outcome State Fault Refusal :=
  runInstr 0 (storeRelease 4 a b scope) s

end Sys2Proof.Machine
end

