-- ==== Sys2Proof/Machine/Channel.lean ====
section
/-! DEFINITION. Channel instructions and messages (R258 to R267, R269). -/
namespace Sys2Proof.Machine

/-! ### Objects (R260, R263, R269) -/

/-- A q register's field, from its number. -/
def qField (q : BitVec 3) : BitVec 6 := q.setWidth 6 + 56#6

/-- The binding of an object that the checks of R63 have found bound. -/
def binding (q : BitVec 3) : M QBind := do
  let t ← getStrand
  match kfind q.toNat t.q with
  | some b => return b
  | none => trap 0x0C (BitVec.ofNat 64 q.toNat)

/-- R254: channel misuse, reported against a q register. -/
def misuse {α : Type} (q : BitVec 3) : M α := trap 0x14 (BitVec.ofNat 64 q.toNat)

/-- R263, R269: the filled count F at the home of a binding; at a command port, the commands pushed whole. -/
def State.filledOf (s : State) (b : QBind) : Nat :=
  match b.kind with
  | .channel => ((s.chan b.home b.entry).map (·.count)).getD 0
  | .command => ((s.cluster b.home).copies).length
  | .status => (kget [] (slotInCluster b.home) (s.cluster (clusterOf b.home)).status).length

/-- R263, R269: the free count E at the home of a binding. -/
def State.freeOf (s : State) (b : QBind) : Nat :=
  match b.kind with
  | .channel => ((s.chan b.home b.entry).map (·.free)).getD 0
  | .command => 16 - s.commandsHeld b.home
  | .status => 16 - s.filledOf b

/-- R269: the ends bound to the port that a binding names. -/
def State.portEnds (s : State) (b : QBind) : Nat :=
  (s.cores.map (fun c => (c.2.slots.map (fun e =>
    (e.2.q.filter (fun x => decide (x.2.kind = b.kind) && decide (x.2.home = b.home))).length)).sum)).sum

/-- R258, R269: the slot size in bytes. -/
def State.slotBytes (s : State) (b : QBind) : Nat :=
  match b.kind with
  | .channel => ((s.chan b.home b.entry).map (·.size)).getD 16
  | .command => 32
  | .status => 16

/-- The home core of a channel binding is pre-empted, so that its entry answers nothing (R252). -/
def State.homeFrozen (s : State) (b : QBind) : Bool := decide (b.kind = .channel) && (s.core b.home).frozen

/-! ### Sending (R261, R267, R334, R403) -/

/-- R261, R403: the sender's check: the own cluster, a cluster of the own partition (DEDUCED, log 32), or one that the
permission table names. -/
def State.maySend (s : State) (k h : Nat) : Bool :=
  decide (clusterOf h = clusterOf k) || ((s.partOfCore k).isSome && decide (s.partOfCore h = s.partOfCore k)) ||
    decide (clusterOf h ∈ (s.cluster (clusterOf k)).perm)

/-! ### `chbind` (R258, R261, R269) -/

/-- R258: the fields of a descriptor. -/
structure Descriptor where
  ch : Nat
  ssz : Nat
  pop : Bool
  kind : Nat
  opens : Bool
  cap : Nat
  deriving DecidableEq, Repr

def Descriptor.ofWord (w : Word) : Descriptor :=
  let n := w.toNat
  ⟨n % 32, n / 2 ^ 5 % 4, w.getLsbD 7, n / 2 ^ 8 % 4, w.getLsbD 10, n / 2 ^ 16 % 2 ^ 12 + 1⟩

/-- R258: a descriptor that keeps the table. -/
def descriptorOk (w : Word) : Bool :=
  let n := w.toNat
  let d := Descriptor.ofWord w
  decide (n / 2 ^ 11 % 32 = 0) && decide (n / 2 ^ 28 = 0) && decide (d.kind ≠ 3) &&
    (if d.kind = 0 then decide (d.ssz ≠ 3)
     else decide (d.ch = 0) && decide (d.ssz = 0) && !d.opens && decide (d.cap = 1) && (d.pop == decide (d.kind = 2)))

/-- R258: the slot size. -/
def Descriptor.size (d : Descriptor) : Nat := 16 * 2 ^ d.ssz

/-- R261: the step at the home port: the changed entry, or the cause of its refusal. -/
def bindStep (d : Descriptor) (base bound : Nat) (entry : Option Chan) : Chan ⊕ Nat :=
  if base < bound then .inr 0x05
  else
    match entry with
    | none => if d.opens then .inl (Chan.opened base d.size d.cap) else .inr 0x14
    | some e =>
      if d.opens || decide (e.base ≠ base) || decide (e.size ≠ d.size) || decide (e.cap ≠ d.cap) then .inr 0x14
      else .inl { e with ends := e.ends + 1 }

/-- R261: a channel end bound. -/
def bindChannel (q : BitVec 3) (c : TV) (d : Descriptor) : M Unit := do
  let x := capAddr c
  let tv := BitVec.ofNat 64 x
  if x / 2 ^ 60 ≠ 8 then trap 0x14 tv
  derefCheck c x (d.cap * d.size) (if d.pop then permLoad else permStore)
  let k ← self
  let s ← get
  if s.spadPlace k x (d.cap * d.size) = .bad 0x04 then trap 0x04 tv
  if x % 64 ≠ 0 then trap 0x06 tv
  let h := spadCore x
  if d.pop && decide (h ≠ k) then trap 0x14 tv
  if !s.maySend k h then trap 0x11 tv
  if let some r := s.messageRefusal k h then trap r tv
  if isFinial h then trap 0x14 tv
  if (s.core h).frozen then waitFor .inSlot
  match bindStep d (spadOff x) (boundOffset (s.core h).xobound) (s.chan h d.ch) with
  | .inr cause => trap cause tv
  | .inl e =>
    modState (·.setChan h d.ch e)
    modStrand (·.setBind q.toNat ⟨.channel, h, d.ch, d.pop, 0, 0, TV.zero, 0⟩)

/-- R269: the port that an address of the control space names: 1 command, 2 status, of the own cluster. -/
def portNamed (k x : Nat) : Nat :=
  let own := if clusterOf k < 160 then clusterOf k % 40 else 40
  if x / 2 ^ 60 = 10 ∧ x / 2 ^ 58 % 4 = clusterDie (clusterOf k) ∧ x / 2 ^ 52 % 64 = own ∧ x / 2 ^ 12 % 2 ^ 40 = 0 ∧
      x % 256 = 0 then x / 256 % 16 else 0

/-- R269: a port of the copy engine bound. -/
def bindPort (q : BitVec 3) (c : TV) (d : Descriptor) : M Unit := do
  let x := capAddr c
  let k ← self
  derefCheck c x 16 (if d.kind = 1 then permStore else permLoad)
  if portNamed k x ≠ d.kind then trap 0x14 (BitVec.ofNat 64 x)
  modStrand (·.setBind q.toNat
    ⟨if d.kind = 1 then .command else .status, if d.kind = 1 then clusterOf k else k, 0, d.pop, 0, 0, TV.zero, 0⟩)

/-- `chbind`, R261. -/
def execChbind (q : BitVec 3) (a b : BitVec 6) (sc : BitVec 2) (s : State) : Host.Outcome State Fault Refusal :=
  runInstr sc.toNat (do
    let (c, w) ← operand2 a b []
    let t ← getStrand
    if (kfind q.toNat t.q).isSome then trap 0x14 c.lo
    if !descriptorOk w.lo then trap 0x14 c.lo
    if !c.tag then trap 0x03 c.lo
    let d := Descriptor.ofWord w.lo
    if d.kind = 0 then bindChannel q c d else bindPort q c d
    return .next) s

/-! ### The other forms -/

/-- R262: some slot of the entry is filled or reserved, or another end is bound. -/
def Chan.inUse (c : Chan) : Bool := decide (1 < c.ends) || decide (c.count ≠ 0) || !c.reserved.isEmpty

/-- R262, R269: the channel or port of a binding is in use apart from it: slots of it are filled or reserved, or other
ends are bound. A port's ends are the bindings of it that strands hold. -/
def State.endInUse (s : State) (b : QBind) : Bool :=
  match b.kind with
  | .channel => ((s.chan b.home b.entry).map (·.inUse)).getD false
  | .command => decide (s.commandsHeld b.home ≠ 0) || decide (1 < s.portEnds b)
  | .status => decide (s.filledOf b ≠ 0) || decide (1 < s.portEnds b)

/-- R262: a binding released at its channel, if it is one. -/
def State.releaseEnd (s : State) (b : QBind) (close : Bool) : State :=
  match b.kind with
  | .channel =>
    if close then s.updCore b.home (fun c => { c with chans := kdel b.entry c.chans })
    else
      match s.chan b.home b.entry with
      | some c => s.setChan b.home b.entry { c with ends := c.ends - 1 }
      | none => s
  | _ => s

/-- R396, R404: an instruction that asks the home of a binding for an answer traps with the refusal of a gate on the way. -/
def homeAnswers (b : QBind) : M Unit := do
  let s ← get
  if b.kind = .channel then
    if let some r := s.messageRefusal s.turn.1 b.home then trapOpen r

/-- `chfree`, R262. -/
def execChfree (q : BitVec 3) (b : BitVec 6) (sc : BitVec 2) (s : State) : Host.Outcome State Fault Refusal :=
  runInstr sc.toNat (do
    let l ← operandsOf [b, qField q] [b] []
    let w := (l.getD 0 TV.zero).lo
    let x ← binding q
    let s ← get
    if x.pos ≠ 0 then misuse q
    homeAnswers x
    let close := w.getLsbD 0
    if close && s.endInUse x then misuse q
    if s.homeFrozen x then waitFor .inSlot
    modState (·.releaseEnd x close)
    modStrand (fun t => { t with q := kdel q.toNat t.q })
    return .next) s

/-- `chcnt`, R263. -/
def execChcnt (d : BitVec 6) (q : BitVec 3) (sc : BitVec 2) (s : State) : Host.Outcome State Fault Refusal :=
  runInstr sc.toNat (do
    let _ ← operandsOf [qField q, d] [] [d]
    let x ← binding q
    homeAnswers x
    result d 0 (TV.ofNat ((← get).filledOf x))
    return .next) s

/-- `chspace`, R263. -/
def execChspace (d : BitVec 6) (q : BitVec 3) (sc : BitVec 2) (s : State) : Host.Outcome State Fault Refusal :=
  runInstr sc.toNat (do
    let _ ← operandsOf [qField q, d] [] [d]
    let x ← binding q
    homeAnswers x
    result d 0 (TV.ofNat ((← get).freeOf x))
    return .next) s

/-- R264: part `p` of the slot at the head of a binding's channel, where it is filled. -/
def State.peekPart (s : State) (b : QBind) (p : Nat) : Option (BitVec 128) :=
  match b.kind with
  | .status => (kget [] (slotInCluster b.home) (s.cluster (clusterOf b.home)).status).head?
  | .command => none
  | .channel =>
    match s.chan b.home b.entry with
    | some c => if c.count = 0 then none else some (s.readTagged (c.partLoc b.home c.head p)).bits
    | none => none

/-- `chpeek`, R264. -/
def execChpeek (d : BitVec 6) (q : BitVec 3) (b : BitVec 6) (sc : BitVec 2) (s : State) : Host.Outcome State Fault Refusal :=
  runInstr sc.toNat (do
    let l ← operandsOf [qField q, b, d] [b] [d]
    let p := (l.getD 0 TV.zero).lo.toNat
    let x ← binding q
    let s ← get
    if !x.pop then misuse q
    if s.slotBytes x / 16 ≤ p then misuse q
    match s.peekPart x p with
    | none => waitFor .inSlot
    | some v => result d 0 ⟨v, false⟩
    return .next) s

/-- `chtry`, R265. -/
def execChtry (d : BitVec 6) (q : BitVec 3) (sc : BitVec 2) (s : State) : Host.Outcome State Fault Refusal :=
  runInstr sc.toNat (do
    let _ ← operandsOf [qField q, d] [] [d, d + 1#6]
    let x ← binding q
    if !x.pop then misuse q
    let s ← get
    match s.popAt s.turn.1 s.turn.2 q.toNat with
    | some (v, s') =>
      set s'
      result d 0 (TV.ofWord v.lo)
      result (d + 1#6) 0 (TV.ofNat 1)
    | none =>
      result d 0 TV.zero
      result (d + 1#6) 0 TV.zero
    return .next) s

/-! ### `chput` (R266) -/

/-- R266, R270: one whole slot pushed through a binding, `n` its place in the order of arrival; none while it must wait. -/
def State.putSlot (s : State) (k sl q n : Nat) (bytes : List Byte) : Option State :=
  match (s.strand k sl).bind (fun t => kfind q t.q) with
  | none => none
  | some b =>
    match b.kind with
    | .status => none
    | .command =>
      if s.commandsHeld b.home < 16 ∧ (s.pushesWaiting b).all (fun a => decide (n ≤ a)) then
        some ((s.updStrand k sl (·.setBind q { b with count := b.count + 1 })).acceptCopy b.home (s.sender k sl)
          ⟨BitVec.ofNat 128 (bytesNat (bytes.take 16)), false⟩ (BitVec.ofNat 128 (bytesNat (bytes.drop 16))) b.count)
      else none
    | .channel =>
      if s.inFlight k b.home then none
      else if (s.messageRefusal k b.home).isSome then some (s.pushRefused k sl b.home)
      else if (s.chan b.home b.entry).isNone then some (s.refuse (s.sender k sl) 0x14 (BitVec.ofNat 64 q))
      else if (s.core b.home).frozen then
        if !s.gutterRoom b.home bytes.length || !s.frontOfPort b.home n then none
        else some (s.updCore b.home (fun c => { c with gutter := c.gutter ++ [.whole b.entry (s.sender k sl) q bytes] }))
      else if !s.portTurn b.home b.entry n then none
      else s.placeSlot b.home b.entry bytes

/-- `chput`, R266. The slot read waits with the strand while the channel is full. -/
def execChput (q : BitVec 3) (a : BitVec 6) (sc : BitVec 2) (s : State) : Host.Outcome State Fault Refusal :=
  runInstr sc.toNat (do
    let l ← operandsOf [a, qField q] [a] []
    let c := l.getD 0 TV.zero
    let b ← binding q
    if b.pop || decide (b.pos ≠ 0) then misuse q
    let s ← get
    let x := capAddr c
    let n := s.slotBytes b
    afterAcquire
    derefCheck c x n permLoad
    if x % 16 ≠ 0 then trap 0x06 (BitVec.ofNat 64 x)
    releaseFirst true
    let locs ← blockLocs x n false false .inSlot
    let v ← readBlock locs
    modState (fun s =>
      (s.putSlot s.turn.1 s.turn.2 q.toNat s.nextAccess v).getD (s.blockPush s.turn.1 s.turn.2 q.toNat TV.zero v))
    return .next) s

/-! ### `msend` (R267) -/

/-- R267, R334: a packet leaves its core on the dynamic plane. -/
def post (dst : Nat) (kind : FlightKind) (addr : Word) : M Unit := do
  modState (fun s =>
    { s with flights := kset s.nextAccess ⟨s.sender s.turn.1 s.turn.2, dst, kind, addr⟩ s.flights,
             nextAccess := s.nextAccess + 1 })

/-- `msend`, R267: it blocks in its slot while the destination's inbox takes no more (R268). -/
def execMsend (a b : BitVec 6) (sc : BitVec 2) (s : State) : Host.Outcome State Fault Refusal :=
  runInstr sc.toNat (do
    let (x, v) ← operand2 a b []
    let n := x.lo.toNat
    if n / 16 % 32 > 19 then trap 0x04 x.lo
    let h := coreOfId n
    let k ← self
    let s ← get
    if !s.maySend k h then trap 0x11 x.lo
    releaseFirst true
    if 16 ≤ s.messagesFor h then waitFor .inSlot
    post h (.message (n / 2 ^ 16 % 32) v.bits) x.lo
    return .next) s

end Sys2Proof.Machine
end

