-- ==== Sys2Proof/Machine/Strands.lean ====
section
/-! DEFINITION. Strand instructions (R137 to R141) and suspension points (R123, R124, R175, R255, R314). -/
namespace Sys2Proof.Machine

/-! ### Suspension points -/

/-- R255: the lowest q register whose binding holds part of a slot. -/
def Strand.halfSlot (t : Strand) : Option Nat := (t.q.find? (fun e => decide (e.2.pos ≠ 0))).map (·.1)

/-- R314: the core has an exchange phase pending or open. -/
def Core.exchanging (c : Core) : Bool :=
  c.phase.isSome ||
    c.slots.any (fun e => match e.2.wait with | some ⟨.xstart _, _, _, _⟩ => true | _ => false)

/-- The place of the pool's memory to which the next pointer goes. -/
def Group.nextPlace (g : Group) : Nat := g.poolAt + 8 * (g.pushes % g.limit)

/-- R290: an engine holds a sector of a strand's record. -/
def State.recordHeld (s : State) (k : Nat) (t : Strand) : Bool := s.linesHeld (clusterOf k) (s.recordLoc k t) 64 true

/-- R290: an engine holds the place to which a group's pool is pushed next. -/
def State.poolHeld (s : State) (part gid : Nat) : Bool :=
  match s.group part gid with
  | none => false
  | some g => s.linesHeld 160 g.nextPlace 8 true

/-- R123, R124, R175, R255, R290, R314: what a suspension point waits for, and the failures it takes. -/
def suspensionPoint : M Unit := do
  let t ← getStrand
  let s ← get
  if let some f := t.seqFail then trap f.1 (BitVec.ofNat 64 f.2)
  if s.hasEntries s.turn.1 s.turn.2 || !t.busy.isEmpty then waitFor .inSlot
  if (s.core s.turn.1).exchanging then trapOpen 0x0E
  if let some q := t.halfSlot then trap 0x14 (BitVec.ofNat 64 q)
  if s.recordHeld s.turn.1 t then waitFor .inSlot

/-- R254, R123: every binding of a strand released. -/
def State.unbindAll (s : State) (k sl : Nat) : State :=
  match s.strand k sl with
  | some t => t.q.foldl (fun (st : State) e => st.releaseEnd e.2 false) s
  | none => s

/-- R126: a pointer pushed to the tail of a group's pool. -/
def Group.push (g : Group) (addr pri : Nat) : Group := { g with pool := g.pool ++ [(addr, pri)], pushes := g.pushes + 1 }

/-- R126, R360: a record made *ready* in a group's pool. The pool's memory holds the pointers as a ring of as many places
as the strand limit, the n-th push in place n (DESIGN CHOICE, log 66: the spec gives the memory and no layout). -/
def State.pushPool (s : State) (part gid addr pri : Nat) : State :=
  match s.group part gid with
  | none => s
  | some g =>
    let loc := g.nextPlace
    ((s.touch 160 loc 8 true).write loc (natBytes 8 addr)).updGroup part gid (·.push addr pri)

/-- The same for a group of the partition of a core. -/
def State.pushPoolOn (s : State) (k gid addr pri : Nat) : State :=
  match s.partOfCore k with
  | some p => s.pushPool p gid addr pri
  | none => s

/-- R68: the next instruction of a record's strand issues at cycle `n` at the earliest. -/
def Group.delay (g : Group) (addr n : Nat) : Group := { g with delays := kset addr n g.delays }

/-- R124: the strand of a slot saved with a program counter and a state, its bindings released and its slot freed. -/
def State.leaveSlot (s : State) (k sl pc state : Nat) : State :=
  match s.strand k sl with
  | none => s
  | some t =>
    let u := t.settleAll
    let loc := s.recordLoc k t
    let s1 := match t.fabWindow with
      | some n => (s.unbindAll k sl).updGroupOn k t.gid (fun g => { g with windows := kset t.record n g.windows })
      | none => s.unbindAll k sl
    let s2 := if (s.partOfCore k).isNone then s1
      else if state = 4 then s1.writeRecordWords loc u pc state (s.wpend loc)
      else s1.saveRecord loc u pc state (s.wpend loc)
    s2.clearSlot k sl

/-- `suspend`, R140. One that finds `wpend` set resets the registers that R123 lists, and PCC, which it does not list,
stays the strand's own (DESIGN CHOICE, log 62). -/
def execSuspend (sc : BitVec 2) (s : State) : Host.Outcome State Fault Refusal :=
  runInstr sc.toNat (do
    suspensionPoint
    let t ← getStrand
    let s ← get
    let k := s.turn.1
    let loc := s.recordLoc k t
    if (s.partOfCore k).isSome && s.wpend loc then
      let s1 := s.unbindAll k s.turn.2
      set (s1.write loc (natBytes 8 (s1.read loc 8 - 2 ^ 57)))
      modStrand (fun t => { t.settleAll.reset with wait := none })
      return .next
    else
      set ((s.leaveSlot k s.turn.2 (t.pc.toNat + 4) 3).updGroupOn k t.gid (·.delay t.record (s.now + 1 + sc.toNat)))
      return .left) s

/-- `yield`, R140. -/
def execYield (sc : BitVec 2) (s : State) : Host.Outcome State Fault Refusal :=
  runInstr sc.toNat (do
    suspensionPoint
    let t ← getStrand
    let s ← get
    let k := s.turn.1
    if (s.partOfCore k).any (fun p => s.poolHeld p t.gid) then waitFor .inSlot
    set (((s.leaveSlot k s.turn.2 (t.pc.toNat + 4) 1).pushPoolOn k t.gid t.record t.pri).updGroupOn k t.gid
      (·.delay t.record (s.now + 1 + sc.toNat)))
    return .left) s

/-- `retire`, R140, R122. -/
def execRetire (sc : BitVec 2) (s : State) : Host.Outcome State Fault Refusal :=
  runInstr sc.toNat (do
    suspensionPoint
    let t ← getStrand
    let s ← get
    let k := s.turn.1
    let s1 := (s.leaveSlot k s.turn.2 t.pc.toNat 4).updGroupOn k t.gid (fun g => { g with live := g.live - 1 })
    set (match s.groupOn k t.gid with
      | some g => s1.noteDrained g.kernel
      | none => s1)
    return .left) s

/-! ### `spawn` and `wake` (R138, R139) -/

/-- R138, R139: the checks of a record's address. -/
def recordCheck (c : TV) (perms : Nat) : M Unit := do
  let x := capAddr c
  let tv := BitVec.ofNat 64 x
  if !c.tag then trap 0x03 tv
  if !capHas c perms then trap 0x05 tv
  if x % 64 ≠ 0 then trap 0x06 tv
  if decide (x / 2 ^ 60 ≠ 9) || decide ((x : Int) < capBase c) || decide (capTop c < (x : Int) + 64) then trap 0x04 tv
  let s ← get
  if let .bad f := s.place s.turn.1 x 64 true false then trap f tv

/-- R138, R139, R290, R396: the location of a record as `spawn` and `wake` act on it, once no engine holds its sector. -/
def recordHome (x : Nat) : M Nat := do
  let s ← get
  match s.place s.turn.1 x 64 true false with
  | .here loc => if s.accessHeld s.turn.1 loc 64 true then waitFor .inSlot else return loc
  | .bad f | .refused f => trap f (BitVec.ofNat 64 x)
  | _ => trap 0x04 (BitVec.ofNat 64 x)

/-- The strand that a `spawn` creates, as far as words 0 and 1 of its record tell. -/
def Strand.child (t : Strand) (id : Nat) : Strand := { t with sid := BitVec.ofNat 32 id, sr := 0#5 }

/-- `spawn`, R138. On a core whose strand belongs to no group, a firmware core, no limit can be met and no record taken: it gives
0xFFFF_FFFF and creates nothing (DESIGN CHOICE, log 77). -/
def execSpawn (d a b : BitVec 6) (sc : BitVec 2) (s : State) : Host.Outcome State Fault Refusal :=
  runInstr sc.toNat (do
    let (c, e) ← operand2 a b [d]
    recordCheck c (permLoad ||| permStore ||| permStoreCap)
    afterAcquire
    releaseFirst true
    let t ← getStrand
    let s ← get
    let k := s.turn.1
    let x := capAddr c
    match s.groupOn k t.gid with
    | none => result d 0 (TV.ofNat 0xFFFFFFFF)
    | some g =>
      if g.live = g.limit then result d 0 (TV.ofNat 0xFFFFFFFF)
      else
        let id := g.nextId
        let loc ← recordHome x
        if s.poolHeld g.part g.gid then waitFor .inSlot
        touchFor loc 16 true
        modState (fun s =>
          ((s.writeRecordWords loc (t.child id) e.lo.toNat 1 false).pushPoolOn k t.gid x t.pri).updGroupOn k t.gid (fun g =>
            { g with nextId := (id + 1) % 0xFFFFFFFF, live := g.live + 1 }))
        result d 0 (TV.ofNat id)
    return .next) s

/-- R139: the group that a record names, where it runs in the context of the core. -/
def State.wakeGroup (s : State) (k gid : Nat) : Option Group :=
  match s.groupOn k gid with
  | some g => if ((s.kernel g.kernel).map (fun x => (x.vf, x.pasid))) = some (s.ctxIds k) then some g else none
  | none => none

/-- R122, R139: a *suspended* record made *ready*: its state set, its pointer pushed, its registered wait ended. -/
def State.readyRecord (s : State) (part addr : Nat) : State :=
  let loc := privLoc part addr
  let w1 := s.read (loc + 8) 8
  let gid := w1 / 2 ^ 32 % 2 ^ 16
  ((s.write (loc + 8) (natBytes 8 (w1 - w1 / 2 ^ 52 % 16 * 2 ^ 52 + 2 ^ 52))).pushPool part gid addr (w1 / 2 ^ 48 % 16)).updGroup
    part gid (fun g => { g with registered := g.registered.filter (fun r => decide (r.1 ≠ addr)) })

/-- `wake`, R139. -/
def execWake (d a : BitVec 6) (sc : BitVec 2) (s : State) : Host.Outcome State Fault Refusal :=
  runInstr sc.toNat (do
    let c ← operand1 a [d]
    recordCheck c (permLoad ||| permStore)
    afterAcquire
    releaseFirst true
    let s ← get
    let k := s.turn.1
    let part := (s.partOfCore k).getD 0
    let x := capAddr c
    let loc ← recordHome x
    let w1 := s.read (loc + 8) 8
    let st := w1 / 2 ^ 52 % 16
    if (s.wakeGroup k (w1 / 2 ^ 32 % 2 ^ 16)).isNone then result d 0 (TV.ofNat 3)
    else if st = 3 then
      if s.poolHeld part (w1 / 2 ^ 32 % 2 ^ 16) then waitFor .inSlot
      touchFor loc 16 true
      modState (·.readyRecord part x)
      result d 0 (TV.ofNat 1)
    else if st ≤ 2 then
      touchFor loc 16 true
      modState (fun s => s.write loc (natBytes 8 (s.read loc 8 ||| 2 ^ 57)))
      result d 0 TV.zero
    else result d 0 (TV.ofNat 2)
    return .next) s

/-! ### `stid` and `setpri` (R141) -/

/-- `stid`, R141. -/
def execStid (d : BitVec 6) (sc : BitVec 2) (s : State) : Host.Outcome State Fault Refusal :=
  runInstr sc.toNat (do
    let _ ← operands [] [d]
    let t ← getStrand
    result d 1 (TV.ofNat (t.sid.toNat + t.gid % 2 ^ 16 * 2 ^ 32 + t.pri % 16 * 2 ^ 48))
    return .next) s

/-- `setpri`, R141. -/
def execSetpri (d a : BitVec 6) (sc : BitVec 2) (s : State) : Host.Outcome State Fault Refusal :=
  runInstr sc.toNat (do
    let x ← operand1 a [d]
    let t ← getStrand
    let p := min x.lo.toNat t.ceiling
    modStrand (fun t => { t with pri := p })
    result d 1 (TV.ofNat p)
    return .next) s

end Sys2Proof.Machine
end

