-- ==== Sys2Proof/Machine/Groups.lean ====
section
/-! DEFINITION. Group instructions: supersteps, the exchange phase, ranks (R304 to R320). -/
namespace Sys2Proof.Machine

/-! ### Domains (R304 to R306) -/

/-- R305: the field of MEMBER for a level. -/
def memberField (m : Word) (level : Nat) : Nat := m.toNat / 2 ^ (16 * level) % 2 ^ 16

/-- R304: the domain of a core at a level. -/
def State.domainOf (s : State) (k level : Nat) : Nat := memberField (s.core k).memberReg level

/-- R304: the cores of a group that lie in a domain, in ascending number. -/
def State.domainCores (s : State) (g : Group) (level value : Nat) : List Nat :=
  g.cores.filter (fun k => decide (s.domainOf k level = value))

/-- R446: the partition is joined to one of the partner box. -/
def State.joined (s : State) (part : Nat) : Bool := ((s.partition part).bind (·.join)).isSome

/-- R306, R446: the cores of the partner box in a domain, by their numbers in the layout of `COREID`, ascending. -/
def State.partnerCores (s : State) (part level value : Nat) : List Nat :=
  if decide (level = 3) && s.joined part then (((Config.partnerCores value).map (· % 2 ^ 11)).dedup).insertionSort (· ≤ ·) else []

/-- R446: this box has the lower link identity. -/
def State.firstBox (s : State) : Bool :=
  match s.eave.partner with
  | some p => decide (Config.linkIdentity < p)
  | none => true

/-- The place of a number in a list. -/
def indexIn (x : Nat) : List Nat → Option Nat
  | [] => none
  | y :: l => if x = y then some 0 else (indexIn x l).map (· + 1)

/-- R306: the rank of a core of this box (or of the other) in a domain. -/
def State.rankIn (s : State) (g : Group) (level value : Nat) (other : Bool) (id : Nat) : Option Nat :=
  let own := (s.domainCores g level value).map coreIdLow
  let far := s.partnerCores g.part level value
  if other then (indexIn id far).map (· + (if s.firstBox then own.length else 0))
  else (indexIn id own).map (· + (if s.firstBox then 0 else far.length))

/-- The group of the strand whose turn it is. -/
def curGroup : M (Option Group) := do
  let t ← getStrand
  let s ← get
  return s.groupOn s.turn.1 t.gid

/-- The spec gives a strand outside every group no domain: its result is left open. -/
def openResult (d : BitVec 6) (lat : Nat) : M Unit := do
  let s ← get
  set s.freeWord.2
  result d lat (TV.ofWord s.freeWord.1)

/-! ### `grank`, `gsize`, `gmember` (R319) -/

/-- `grank`, R319. -/
def execGrank (d : BitVec 6) (level : BitVec 3) (sc : BitVec 2) (s : State) : Host.Outcome State Fault Refusal :=
  runInstr sc.toNat (do
    let _ ← operands [] [d]
    let t ← getStrand
    let s ← get
    if level = 4#3 then result d 1 (TV.ofNat t.sid.toNat)
    else
      match ← curGroup with
      | some g =>
        result d 1 (TV.ofNat ((s.rankIn g level.toNat (s.domainOf s.turn.1 level.toNat) false (coreIdLow s.turn.1)).getD 0))
      | none => openResult d 1
    return .next) s

/-- `gsize`, R319. -/
def execGsize (d : BitVec 6) (level : BitVec 3) (sc : BitVec 2) (s : State) : Host.Outcome State Fault Refusal :=
  runInstr sc.toNat (do
    let _ ← operands [] [d]
    let s ← get
    match ← curGroup with
    | some g =>
      if level = 4#3 then result d 1 (TV.ofNat g.live)
      else
        let v := s.domainOf s.turn.1 level.toNat
        result d 1 (TV.ofNat ((s.domainCores g level.toNat v).length + (s.partnerCores g.part level.toNat v).length))
    | none => openResult d 1
    return .next) s

/-- `gmember`, R319. -/
def execGmember (d a : BitVec 6) (level : BitVec 2) (sc : BitVec 2) (s : State) : Host.Outcome State Fault Refusal :=
  runInstr sc.toNat (do
    let x ← operand1 a [d]
    let s ← get
    let n := x.lo.toNat
    match ← curGroup with
    | some g =>
      let r := s.rankIn g level.toNat (s.domainOf s.turn.1 level.toNat) (decide (n / 2 ^ 11 % 2 = 1)) (n % 2 ^ 11)
      result d 1 (match r with | some i => TV.ofNat i | none => TV.ofNat 0xFFFFFFFFFFFFFFFF)
    | none => openResult d 1
    return .next) s

/-! ### Completed waits -/

/-- The result that a completed wait has left for its instruction. -/
def granted : M (Option Word) := do
  let t ← getStrand
  return t.granted

/-- R173, R175, R188: the strand's entries complete, and a recorded failure is taken. -/
def entriesDone (k : WaitKind) : M Unit := do
  let t ← getStrand
  if let some f := t.seqFail then trap f.1 (BitVec.ofNat 64 f.2)
  let s ← get
  if s.hasEntries s.turn.1 s.turn.2 then waitFor k

/-! ### `sync` (R307 to R310) -/

/-- `sync`, R307, R314: one that has issued before a phase was pending waits on; at level 3 its release includes the wait of
`fence.win` (R309). -/
def execSync (d : BitVec 6) (level : BitVec 2) (sc : BitVec 2) (s : State) : Host.Outcome State Fault Refusal :=
  runInstr sc.toNat (do
    let _ ← operands [] [d]
    match ← granted with
    | some n => result d 0 (TV.ofWord n)
    | none =>
      let t ← getStrand
      let s ← get
      let first : WaitKind := if level = 3#2 then .fenceWin else .syncFirst level.toNat
      if !t.waitsIn [first, .syncFirst level.toNat, .sync level.toNat] && (s.core s.turn.1).exchanging then trapOpen 0x0E
      entriesDone (.syncFirst level.toNat)
      if !s.released s.turn.1 s.turn.2 then waitFor first
      if level = 3#2 then fabricWait
      waitFor (.sync level.toNat)
    return .next) s

/-! ### The exchange phase (R312 to R317, R320) -/

/-- `xstart`, R314. -/
def execXstart (level : BitVec 2) (sc : BitVec 2) (s : State) : Host.Outcome State Fault Refusal :=
  runInstr sc.toNat (do
    match ← granted with
    | some _ => pure ()
    | none =>
      let s ← get
      let k := s.turn.1
      let l := level.toNat
      match ← curGroup with
      | some g =>
        if (s.domainCores g l (s.domainOf k l)).any (fun j => decide (coreDie j ≠ coreDie k)) then trap 0x0E (BitVec.ofNat 64 l)
      | none => pure ()
      let c ← getCore
      if c.phase.isSome ||
          c.slots.any (fun e => decide (e.1 ≠ s.turn.2) && (match e.2.wait with | some ⟨.xstart _, _, _, _⟩ => true | _ => false)) then
        trapOpen 0x0E
      waitFor (.xstart l)
    return .next) s

/-- The domain's record in a group. -/
def Group.dom (g : Group) (level value : Nat) : Option Domain :=
  g.doms.find? (fun x => decide (x.level = level) && decide (x.value = value))

/-- The domain's record replaced. -/
def Group.updDom (g : Group) (level value : Nat) (f : Domain → Domain) : Group :=
  { g with doms := g.doms.map (fun x => if x.level = level ∧ x.value = value then f x else x) }

/-- R317: the monitor's report to a core with its latched XMON. -/
def reported (mon : BitVec 2) (event : Option Word) : Option Word :=
  match event with
  | some e => if mon.getLsbD 0 && (mon.getLsbD 1 || decide (e.toNat / 2 ^ 12 % 8 < 5)) then some e else none
  | none => none

/-- `xdone`, R316, R317. On a core with no phase open there is nothing to close, and it completes (DESIGN CHOICE, log 64). -/
def execXdone (sc : BitVec 2) (s : State) : Host.Outcome State Fault Refusal :=
  runInstr sc.toNat (do
    let c ← getCore
    match c.phase with
    | none => pure ()
    | some p =>
      if c.transfers.any (fun x => decide (x.moved < x.n)) then waitFor .inSlot
      modCore (fun c => { c with phase := none, transfers := [] })
      let s ← get
      match ← curGroup with
      | some g =>
        modState (·.updGroup g.part g.gid (·.updDom p.level (s.domainOf s.turn.1 p.level) (fun d =>
          { d with done := sadd s.turn.1 d.done })))
        match reported p.mon ((g.dom p.level (s.domainOf s.turn.1 p.level)).bind (·.event)) with
        | some e => trap 0x0E e
        | none => pure ()
      | none => pure ()
    return .next) s

/-- R315: the beat cycles of two transfers overlap. -/
def Transfer.overlaps (x y : Transfer) : Bool := decide (x.start < y.start + y.n) && decide (y.start < x.start + x.n)

/-- R320: the core of the own die that a route word names. -/
def routeCore (k w : Nat) : Nat := coreAt (coreDie k) (w / 16 % 32) (w % 16)

/-- R320: a transfer; the beats of an `xput` are read after every earlier scalar access of its strand. -/
def transfer (put : Bool) (a b c : BitVec 6) : M Flow := do
  let (cap, r, off) ← operand3 a b c []
  let x := capAddr cap
  let tv := BitVec.ofNat 64 x
  let w := r.lo.toNat
  let n := w / 2 ^ 16 % 256 + 1
  let o := off.lo.toNat
  afterAcquire
  derefCheck cap x (32 * n) (if put then permLoad else permStore)
  let s ← get
  let k := s.turn.1
  if decide (x / 2 ^ 60 ≠ 8) || decide (spadCore x ≠ k) then trap 0x05 tv
  if x % 32 ≠ 0 then trap 0x06 tv
  if let .bad f := s.place k x (32 * n) (!put) false then trap f tv
  let core ← getCore
  let held := core.transfers.filter (fun t => decide (t.moved < t.n))
  if 16 ≤ held.length then waitFor .inSlot
  if put && !(s.mine k s.turn.2).isEmpty then waitFor .inSlot
  match core.phase with
  | none => trapOpen 0x0E
  | some p =>
    let m : Transfer := ⟨put, x % 2 ^ 19, n, o, routeCore k w, 0⟩
    let outside := put && (decide (w / 16 % 32 > 19) ||
      (match s.groupOn k ((s.cur.map (·.gid)).getD 0) with
       | some g => decide (routeCore k w ∉ s.domainCores g p.level (s.domainOf k p.level))
       | none => true))
    if decide (1048575 < o) || held.any (·.overlaps m) || decide (o + p.t0 < s.now + 4) || outside then
      trapOpen 0x0E
    modCore (fun c => { c with transfers := c.transfers ++ [m] })
  return .next

/-- `xput`, R320. -/
def execXput (a b c : BitVec 6) (s : State) : Host.Outcome State Fault Refusal := runInstr 0 (transfer true a b c) s

/-- `xget`, R320. -/
def execXget (a b c : BitVec 6) (s : State) : Host.Outcome State Fault Refusal := runInstr 0 (transfer false a b c) s

end Sys2Proof.Machine
end

