-- ==== Sys2Proof/Machine/Barrier.lean ====
section
/-! DEFINITION. Events, barrier counters, barrier wires and mutexes (R322 to R339). -/
namespace Sys2Proof.Machine

/-! ### Objects of the event unit (R322, R324) -/

abbrev BarCounter.unset : BarCounter := ⟨0, 0, 0#16⟩
abbrev Mutex.free : Mutex := ⟨none, []⟩

def Cluster.counter (c : Cluster) (n : Nat) : BarCounter := kget BarCounter.unset n c.counters

def Cluster.setCounter (c : Cluster) (n : Nat) (x : BarCounter) : Cluster :=
  { c with counters := kput BarCounter.unset n x c.counters }

def Cluster.mutex (c : Cluster) (n : Nat) : Mutex := kget Mutex.free n c.mutexes

def Cluster.setMutex (c : Cluster) (n : Nat) (x : Mutex) : Cluster := { c with mutexes := kput Mutex.free n x c.mutexes }

/-- R322: the inbox of a core. -/
def State.inboxOf (s : State) (k : Nat) : List EvMsg := kget [] (slotInCluster k) (s.cluster (clusterOf k)).inboxes

def State.setInbox (s : State) (k : Nat) (l : List EvMsg) : State :=
  s.updCluster (clusterOf k) (fun c => { c with inboxes := kput [] (slotInCluster k) l c.inboxes })

/-- R322: an event placed in an inbox that has room. -/
def State.placeEvent (s : State) (k : Nat) (e : EvMsg) : Option State :=
  let l := s.inboxOf k
  if l.length < 16 then some (s.setInbox k (l ++ [e])) else none

/-- The oldest event of a line in the mask. -/
def firstEvent (mask : Nat) (l : List EvMsg) : Option EvMsg := l.find? (fun e => decide (mask / 2 ^ e.line % 2 = 1))

/-- The inbox without its oldest event of a line in the mask. -/
def dropEvent (mask : Nat) : List EvMsg → List EvMsg
  | [] => []
  | e :: l => if mask / 2 ^ e.line % 2 = 1 then l else e :: dropEvent mask l

/-! ### Events (R332 to R334) -/

/-- `evwait`, R332. -/
def execEvwait (d a : BitVec 6) (sc : BitVec 2) (s : State) : Host.Outcome State Fault Refusal :=
  runInstr sc.toNat (do
    let x ← operand1 a [d]
    let mask := x.lo.toNat % 2 ^ 32
    let s ← get
    let k := s.turn.1
    match firstEvent mask (s.inboxOf k) with
    | some e =>
      set (s.setInbox k (dropEvent mask (s.inboxOf k)))
      result d 0 (TV.ofNat (e.payload.toNat + e.line % 32 * 2 ^ 64 + 2 ^ 69))
    | none =>
      if x.lo.getLsbD 32 || decide (mask = 0) then result d 0 TV.zero
      else waitFor (.evwait mask (blockingFields d [a]))
    return .next) s

/-- R323: an event of core `k` for a core and line is still on its way, or held at `k`. -/
def State.eventBehind (s : State) (k h line : Nat) : Bool :=
  let same (f : Flight) : Bool := decide (f.src.core = k) && decide (f.dst = h) &&
    (match f.kind with | .event l _ => decide (l = line) | _ => false)
  s.flights.any (fun e => same e.2) || (s.core k).held.any same

/-- R323, R333: the events placed from a target slot on, in ascending order; the slot whose inbox was full, or that an
earlier event has still to reach, if any. -/
def State.signal (e : EvMsg) (k mask : Nat) : Nat → Nat → State → State × Option Nat
  | 0, _, s => (s, none)
  | n + 1, sl, s =>
    if mask / 2 ^ sl % 2 = 1 then
      match (if s.eventBehind k (coreOfSlot (clusterOf k) sl) e.line then none else s.placeEvent (coreOfSlot (clusterOf k) sl) e) with
      | some s' => State.signal e k mask n (sl + 1) s'
      | none => (s, some sl)
    else State.signal e k mask n (sl + 1) s

/-- `evsig`, R333: while a target's inbox is full it waits, with the earlier targets served. -/
def execEvsig (a b : BitVec 6) (sc : BitVec 2) (s : State) : Host.Outcome State Fault Refusal :=
  runInstr sc.toNat (do
    let (x, y) ← operand2 a b []
    releaseFirst true
    let start := ((← granted).map (·.toNat)).getD 0
    let s ← get
    let k := s.turn.1
    let e : EvMsg := ⟨x.lo.toNat % 32, y.lo⟩
    let mask := x.lo.toNat / 2 ^ 8 % 2 ^ 8
    match State.signal e k mask (8 - start) start s with
    | (s', none) => set s'
    | (_, some sl) =>
      throw (.waitDo .inSlot (fun s =>
        ((State.signal e k mask (sl - start) start s).1).updStrand s.turn.1 s.turn.2
          (fun t => { t with granted := some (BitVec.ofNat 64 sl) })))
    return .next) s

/-- `evsend`, R334. -/
def execEvsend (a b : BitVec 6) (sc : BitVec 2) (s : State) : Host.Outcome State Fault Refusal :=
  runInstr sc.toNat (do
    let (x, y) ← operand2 a b []
    let n := x.lo.toNat
    if n / 16 % 32 > 19 then trap 0x04 x.lo
    let h := coreOfId n
    let s ← get
    let k := s.turn.1
    if !s.maySend k h then trap 0x11 x.lo
    releaseFirst true
    if !(s.core k).held.isEmpty then waitFor .inSlot
    post h (.event (n / 2 ^ 16 % 32) y.lo) x.lo
    return .next) s

/-! ### Barrier counters (R335 to R337) -/

/-- `barc`, R335. -/
def execBarc (d a b : BitVec 6) (sc : BitVec 2) (s : State) : Host.Outcome State Fault Refusal :=
  runInstr sc.toNat (do
    let (x, y) ← operand2 a b [d]
    let n := x.lo.toNat % 8
    let s ← get
    let cl := clusterOf s.turn.1
    let c := (s.cluster cl).counter n
    if decide (c.target ≠ 0) && decide (c.arrivals ≠ 0) then result d 0 TV.zero
    else
      set (s.updCluster cl (·.setCounter n ⟨y.lo.toNat % 256, 0, c.gen⟩))
      result d 0 (TV.ofNat 1)
    return .next) s

/-- R324: an arrival at a counter. -/
def BarCounter.arrive (c : BarCounter) : BarCounter :=
  if c.arrivals + 1 < c.target then { c with arrivals := c.arrivals + 1 } else { c with arrivals := 0, gen := c.gen + 1 }

/-- `bara`, R336. -/
def execBara (d a : BitVec 6) (sc : BitVec 2) (s : State) : Host.Outcome State Fault Refusal :=
  runInstr sc.toNat (do
    let x ← operand1 a [d]
    let n := x.lo.toNat % 8
    releaseFirst true
    let s ← get
    let cl := clusterOf s.turn.1
    let c := (s.cluster cl).counter n
    if c.target = 0 then trap 0x0F (BitVec.ofNat 64 n)
    set (s.updCluster cl (·.setCounter n c.arrive))
    result d 0 (TV.ofNat c.gen.toNat)
    return .next) s

/-- `barw`, R337: the generation is looked at before the counter's state (DEDUCED, log 34). -/
def execBarw (a b : BitVec 6) (sc : BitVec 2) (s : State) : Host.Outcome State Fault Refusal :=
  runInstr sc.toNat (do
    let (x, y) ← operand2 a b []
    let n := x.lo.toNat % 8
    let s ← get
    let c := (s.cluster (clusterOf s.turn.1)).counter n
    if c.gen.toNat = y.lo.toNat % 2 ^ 16 then
      if c.target = 0 then trap 0x0F (BitVec.ofNat 64 n)
      waitFor (.barw n (y.lo.toNat % 2 ^ 16) (blockingFields 0#6 [a, b]))
    return .next) s

/-! ### Barrier wires (R328, R329, R338) -/

/-- R338: a rectangle code. -/
structure Rect where
  rlo : Nat
  rhi : Nat
  clo : Nat
  chi : Nat
  w : Nat
  deriving DecidableEq, Repr

def Rect.ofCode (q : Nat) : Rect := ⟨q % 32, q / 2 ^ 5 % 32, q / 2 ^ 10 % 16, q / 2 ^ 14 % 16, q / 2 ^ 18 % 4⟩

/-- The core lies in the rectangle. -/
def Rect.has (r : Rect) (k : Nat) : Bool :=
  decide (r.rlo ≤ coreRow k) && decide (coreRow k ≤ r.rhi) && decide (r.clo ≤ coreCol k) && decide (coreCol k ≤ r.chi)

/-- The cores of a rectangle on a die. -/
def Rect.cores (r : Rect) (die : Nat) : List Nat :=
  (upto r.rlo (r.rhi + 1 - r.rlo)).flatMap (fun row => (upto r.clo (r.chi + 1 - r.clo)).map (fun col => coreAt die row col))

/-- R29, R338: the rectangle is usable by a strand of group `gid` on a core: well formed, around the core, its regions in
the region mask of the strand's `PARTID`. -/
def State.rectOk (s : State) (k gid : Nat) (r : Rect) : Bool :=
  decide (r.rlo ≤ r.rhi) && decide (r.rhi ≤ 19) && decide (r.clo ≤ r.chi) && r.has k &&
    (upto r.rlo (r.rhi + 1 - r.rlo)).all (fun row => (s.partIdWord k gid).getLsbD (32 + coreDie k * 5 + row / 4))

/-- `barrc`, R338: it is checked as it issues; then it releases and waits. -/
def execBarrc (d a : BitVec 6) (sc : BitVec 2) (s : State) : Host.Outcome State Fault Refusal :=
  runInstr sc.toNat (do
    let x ← operand1 a [d]
    match ← granted with
    | some n => result d 0 (TV.ofWord n)
    | none =>
      let q := x.lo.toNat % 2 ^ 20
      let t ← getStrand
      let s ← get
      if !t.waitsIn [.barrcFirst q, .barrc q] then
        if !s.rectOk s.turn.1 t.gid (Rect.ofCode q) then trap 0x11 (BitVec.ofNat 64 q)
        if (s.core s.turn.1).exchanging then trapOpen 0x0E
      if !s.released s.turn.1 s.turn.2 then waitFor (.barrcFirst q)
      waitFor (.barrc q)
    return .next) s

/-! ### Mutexes (R324, R339) -/

/-- R324: the strand as an owner. -/
def Strand.owner (t : Strand) : Nat × Nat := (t.gid, t.sid.toNat)

/-- R324: a request at the tail of the queue, once. -/
def Mutex.enqueue (m : Mutex) (k sl : Nat) : Mutex :=
  if (k, sl) ∈ m.queue then m else { m with queue := m.queue ++ [(k, sl)] }

/-- `mtxlock`, R339. -/
def execMtxlock (a : BitVec 6) (sc : BitVec 2) (s : State) : Host.Outcome State Fault Refusal :=
  runInstr sc.toNat (do
    let x ← operand1 a []
    match ← granted with
    | some _ => pure ()
    | none =>
      let n := x.lo.toNat % 16
      let t ← getStrand
      let s ← get
      let cl := clusterOf s.turn.1
      match ((s.cluster cl).mutex n).owner with
      | none => set (s.updCluster cl (fun c => c.setMutex n { c.mutex n with owner := some t.owner }))
      | some o =>
        if o = t.owner then trap 0x0F (BitVec.ofNat 64 n)
        throw (.waitDo (.mtxlock n (blockingFields 0#6 [a])) (fun s =>
          s.updCluster cl (fun c => c.setMutex n ((c.mutex n).enqueue s.turn.1 s.turn.2))))
    return .next) s

/-- R324, R339: a mutex passed on by its owner: to the oldest requester, which continues, or *free*. -/
def State.passMutex (s : State) (cl n : Nat) : State :=
  let m := (s.cluster cl).mutex n
  match m.queue with
  | [] => s.updCluster cl (·.setMutex n Mutex.free)
  | (k, sl) :: r =>
    match s.strand k sl with
    | none => s.updCluster cl (·.setMutex n ⟨none, r⟩)
    | some t =>
      (s.updCluster cl (·.setMutex n ⟨some t.owner, r⟩)).setStrand k sl { t with granted := some 0#64 }

/-- `mtxfree`, R339. -/
def execMtxfree (d a : BitVec 6) (sc : BitVec 2) (s : State) : Host.Outcome State Fault Refusal :=
  runInstr sc.toNat (do
    let x ← operand1 a [d]
    let n := x.lo.toNat % 16
    releaseFirst true
    let t ← getStrand
    let s ← get
    let cl := clusterOf s.turn.1
    if ((s.cluster cl).mutex n).owner = some t.owner then
      set (s.passMutex cl n)
      result d 0 (TV.ofNat 1)
    else result d 0 TV.zero
    return .next) s

end Sys2Proof.Machine
end

