-- ==== Sys2Proof/Machine/BitField.lean ====
section
/-! DEFINITION. Bit fields in scratchpads (R155 to R158). -/
namespace Sys2Proof.Machine

/-- R155: the width, the offset, and from the capability's address the first bit position. -/
structure BitRange where
  w : Nat
  o : Nat
  p : Nat
  deriving DecidableEq, Repr

/-- R155: the field that a capability and a cursor name. -/
def bitRange (c cur : TV) : BitRange :=
  ⟨cur.lo.toNat / 2 ^ 58 + 1, cur.lo.toNat % 2 ^ 58, capAddr c * 8 + cur.lo.toNat % 2 ^ 58⟩

/-- R155: the first byte. -/
def BitRange.x (r : BitRange) : Nat := r.p / 8

/-- R155: the number of bytes. -/
def BitRange.n (r : BitRange) : Nat := (r.p + r.w + 7) / 8 - r.p / 8

/-- R156: the advanced cursor. -/
def BitRange.next (r : BitRange) : TV := TV.ofNat ((r.w - 1) * 2 ^ 58 + (r.o + r.w) % 2 ^ 58)

/-- The field in the bytes that hold it. -/
def BitRange.get (r : BitRange) (bytes : Nat) : Nat := bytes / 2 ^ (r.p % 8) % 2 ^ r.w

/-- R156: the bytes with the field replaced. -/
def BitRange.set (r : BitRange) (bytes v : Nat) : Nat :=
  bytes - r.get bytes * 2 ^ (r.p % 8) + v % 2 ^ r.w * 2 ^ (r.p % 8)

/-- R156: the checks of a bit access. -/
def bitCheck (c : TV) (r : BitRange) (perm : Nat) : M Unit := do
  derefCheck c r.x r.n perm
  if r.x / 2 ^ 60 ≠ 8 then trap 0x05 (BitVec.ofNat 64 r.x)

/-- R17, R156: the place of a bit access, performed at the home port in its turn, or its refusal. -/
def bitAccess (r : BitRange) (write : Bool) (act : Nat → M Unit) : M Unit := do
  let s ← get
  match s.place s.turn.1 r.x r.n write false with
  | .here loc => if s.accessHeld s.turn.1 loc r.n write then waitFor .inSlot else act loc
  | .refused c => refusedBy c r.x write
  | .bad c => trap c (BitVec.ofNat 64 r.x)
  | _ => trap 0x05 (BitVec.ofNat 64 r.x)

/-- R156: the field as a value of a register. -/
def fieldValue (signed : Bool) (w v : Nat) : TV :=
  TV.ofWord (if signed && decide (2 ^ (w - 1) ≤ v) then BitVec.ofInt 64 ((v : Int) - 2 ^ w) else BitVec.ofNat 64 v)

/-- R156: the loads; `adv` for the forms that advance the cursor, which loses to a result in the same register. -/
def bitLoad (signed adv : Bool) (d a b : BitVec 6) : M Flow := do
  let (c, cur) ← operand2 a b (if adv then [d, b] else [d])
  let r := bitRange c cur
  afterAcquire
  bitCheck c r permLoad
  bitAccess r false (fun loc => do
    let s ← get
    result d 0 (fieldValue signed r.w (r.get (s.read loc r.n))))
  if adv && decide (d ≠ b) then result b 0 r.next
  return .next

/-- R156, R158: the stores. The value field `d` is the last source, as it stands last in the field order of R63. -/
def bitStore (adv : Bool) (d a b : BitVec 6) : M Flow := do
  let (c, cur, v) ← operand3 a b d (if adv then [b] else [])
  let r := bitRange c cur
  afterAcquire
  bitCheck c r permStore
  bitAccess r true (fun loc =>
    modState (fun s => s.write loc (natBytes r.n (r.set (s.read loc r.n) v.lo.toNat))))
  if adv then result b 0 r.next
  return .next

/-- `ldb.i`, R156. -/
def execLdbI (d a b : BitVec 6) (sc : BitVec 2) (s : State) : Host.Outcome State Fault Refusal :=
  runInstr sc.toNat (bitLoad true false d a b) s

/-- `ldb.n`, R156. -/
def execLdbN (d a b : BitVec 6) (sc : BitVec 2) (s : State) : Host.Outcome State Fault Refusal :=
  runInstr sc.toNat (bitLoad false false d a b) s

/-- `ldbp.i`, R156. -/
def execLdbpI (d a b : BitVec 6) (sc : BitVec 2) (s : State) : Host.Outcome State Fault Refusal :=
  runInstr sc.toNat (bitLoad true true d a b) s

/-- `ldbp.n`, R156. -/
def execLdbpN (d a b : BitVec 6) (sc : BitVec 2) (s : State) : Host.Outcome State Fault Refusal :=
  runInstr sc.toNat (bitLoad false true d a b) s

/-- `stb`, R156, R158. -/
def execStb (d a b : BitVec 6) (sc : BitVec 2) (s : State) : Host.Outcome State Fault Refusal :=
  runInstr sc.toNat (bitStore false d a b) s

/-- `stbp`, R156, R158. -/
def execStbp (d a b : BitVec 6) (sc : BitVec 2) (s : State) : Host.Outcome State Fault Refusal :=
  runInstr sc.toNat (bitStore true d a b) s

end Sys2Proof.Machine
end

