-- ==== Sys2Proof/Machine/Branch.lean ====
section
/-! DEFINITION. Branches, jumps and repetition (R131 to R136). -/
namespace Sys2Proof.Machine

/-- R131, R133: a target checked against PCC's bounds. -/
def jumpTarget (t : Nat) : M TV := do
  let u ← getStrand
  if decide ((t : Int) < capBase u.pcc) || decide (capTop u.pcc < (t : Int) + 4) then trap 0x04 (BitVec.ofNat 64 t)
  return setAddr u.pcc t

/-- R131: a branch: the sources compared; taken, PCC's address moves to pc + sext(imm) × 4. -/
def branch (a b : BitVec 6) (imm : BitVec 13) (cond : Word → Word → Bool) : M Flow := do
  let (x, y) ← operand2 a b []
  let u ← getStrand
  if cond x.lo y.lo then
    let p ← jumpTarget (u.pc + (imm13 imm <<< 2)).toNat
    return .jump p
  else return .next

/-- R133, R134: the link: PCC with the address of the next instruction. -/
def Strand.link (t : Strand) : TV := setAddr t.pcc (t.pc + 4#64).toNat

/-! ### R131: op 0x24 to 0x29 -/

/-- `beq`, R131. -/
def execBeq (a b : BitVec 6) (imm : BitVec 13) (s : State) : Host.Outcome State Fault Refusal :=
  runInstr 0 (branch a b imm (fun x y => decide (x = y))) s

/-- `bne`, R131. -/
def execBne (a b : BitVec 6) (imm : BitVec 13) (s : State) : Host.Outcome State Fault Refusal :=
  runInstr 0 (branch a b imm (fun x y => decide (x ≠ y))) s

/-- `blt`, R131. -/
def execBlt (a b : BitVec 6) (imm : BitVec 13) (s : State) : Host.Outcome State Fault Refusal :=
  runInstr 0 (branch a b imm (fun x y => x.slt y)) s

/-- `bge`, R131. -/
def execBge (a b : BitVec 6) (imm : BitVec 13) (s : State) : Host.Outcome State Fault Refusal :=
  runInstr 0 (branch a b imm (fun x y => !x.slt y)) s

/-- `bltn`, R131. -/
def execBltn (a b : BitVec 6) (imm : BitVec 13) (s : State) : Host.Outcome State Fault Refusal :=
  runInstr 0 (branch a b imm (fun x y => x.ult y)) s

/-- `bgen`, R131. -/
def execBgen (a b : BitVec 6) (imm : BitVec 13) (s : State) : Host.Outcome State Fault Refusal :=
  runInstr 0 (branch a b imm (fun x y => !x.ult y)) s

/-- `jal`, R133: the target is checked before the link is written. -/
def execJal (d : BitVec 6) (imm : BitVec 19) (s : State) : Host.Outcome State Fault Refusal :=
  runInstr 0 (do
    let _ ← operands [] [d]
    let u ← getStrand
    let p ← jumpTarget (u.pc + (imm.signExtend 64 <<< 2)).toNat
    result d 1 u.link
    return .jump p) s

/-- `jalr`, R134: `a` is read in full before `d` is written; PCC becomes the target capability. -/
def execJalr (d a : BitVec 6) (imm : BitVec 13) (s : State) : Host.Outcome State Fault Refusal :=
  runInstr 0 (do
    let c ← operand1 a [d]
    let u ← getStrand
    let t := c.lo + imm13 imm
    if !c.tag then trap 0x03 t
    if !capHas c permExec then trap 0x05 t
    if t.toNat % 4 ≠ 0 then trap 0x06 t
    if decide ((t.toNat : Int) < capBase c) || decide (capTop c < (t.toNat : Int) + 4) then trap 0x04 t
    result d 1 u.link
    return .jump (setAddr c t.toNat)) s

/-- `rep`, R135: the next `n` instructions are replayed bits [15:0] of `a` times; none for 0. -/
def execRep (a : BitVec 6) (mask n : BitVec 4) (stride : BitVec 5) (s : State) : Host.Outcome State Fault Refusal :=
  runInstr 0 (do
    let x ← operand1 a []
    let u ← getStrand
    let k := x.lo.toNat % 2 ^ 16
    let len := n.toNat + 1
    let start := (u.pc.toNat + 4) % 2 ^ 64
    if k = 0 then return .jump (setAddr u.pcc ((start + 4 * len) % 2 ^ 64))
    modStrand (fun t => { t with rep := some ⟨start, len, mask.toNat, stride.toNat, k, 0⟩ })
    return .jump (setAddr u.pcc start)) s

end Sys2Proof.Machine
end

