-- ==== Sys2Proof/Machine/Capability.lean ====
section
/-! DEFINITION. Capability instructions (R108 to R111). -/
namespace Sys2Proof.Machine

/-- R109: bounds narrowed to `len` bytes from the address of `c`; `exact` refuses rounding. -/
def narrowed (c : TV) (len : Nat) (exact : Bool) : M TV := do
  let lo := capAddr c
  let top := lo + len
  if !c.tag then trap 0x03 (BitVec.ofNat 64 lo)
  if decide ((lo : Int) < capBase c) || decide (capTop c < (top : Int)) then trap 0x04 (BitVec.ofNat 64 top)
  let (v, ex) := narrow c lo top
  if exact && !ex then trap 0x04 (BitVec.ofNat 64 top)
  return v

/-- R108: `cperm`: bits 127 to 120 masked; bit 127 of a capability is 0 and stays 0. -/
def maskPerms (c : TV) (y : Word) : TV :=
  { c with bits := (c.bits.extractLsb' 120 8 &&& y.setWidth 8) ++ c.bits.extractLsb' 0 120 }

/-- R111: the subset test. -/
def subsetOf (a b : TV) : Bool :=
  a.tag && b.tag && decide (capBase a ≤ capBase b) && decide (capTop b ≤ capTop a) &&
    decide (capPerms b &&& capPerms a = capPerms b)

/-- A meaning of one source, read whole, whose result is a register value, of latency 1. -/
def capOp1 (d a : BitVec 6) (f : TV → TV) : M Flow := do
  let x ← operand1 a [d]
  result d 1 (f x)
  return .next

/-- A meaning of two sources, read whole, whose result is a register value, of latency 1. -/
def capOp2 (d a b : BitVec 6) (f : TV → TV → TV) : M Flow := do
  let (x, y) ← operand2 a b [d]
  result d 1 (f x y)
  return .next

/-! ### R108 to R111: op 0x10 to 0x12 -/

/-- `cbnd`, R109. -/
def execCbnd (d a b : BitVec 6) (sc : BitVec 2) (s : State) : Host.Outcome State Fault Refusal :=
  runInstr sc.toNat (do
    let (x, y) ← operand2 a b [d]
    result d 1 (← narrowed x y.lo.toNat false)
    return .next) s

/-- `cbnde`, R109. -/
def execCbnde (d a b : BitVec 6) (sc : BitVec 2) (s : State) : Host.Outcome State Fault Refusal :=
  runInstr sc.toNat (do
    let (x, y) ← operand2 a b [d]
    result d 1 (← narrowed x y.lo.toNat true)
    return .next) s

/-- `cbndi`, R109. -/
def execCbndi (d a : BitVec 6) (imm : BitVec 12) (s : State) : Host.Outcome State Fault Refusal :=
  runInstr 0 (do
    let x ← operand1 a [d]
    result d 1 (← narrowed x imm.toNat false)
    return .next) s

/-- `cperm`, R108. -/
def execCperm (d a b : BitVec 6) (sc : BitVec 2) (s : State) : Host.Outcome State Fault Refusal :=
  runInstr sc.toNat (capOp2 d a b (fun x y => maskPerms x y.lo)) s

/-- `cseta`, R110. -/
def execCseta (d a b : BitVec 6) (sc : BitVec 2) (s : State) : Host.Outcome State Fault Refusal :=
  runInstr sc.toNat (capOp2 d a b (fun x y => setAddr x y.lo.toNat)) s

/-- `cadd`, R110. -/
def execCadd (d a b : BitVec 6) (sc : BitVec 2) (s : State) : Host.Outcome State Fault Refusal :=
  runInstr sc.toNat (capOp2 d a b (fun x y => setAddr x (x.lo + y.lo).toNat)) s

/-- `csub`, R108. -/
def execCsub (d a b : BitVec 6) (sc : BitVec 2) (s : State) : Host.Outcome State Fault Refusal :=
  runInstr sc.toNat (capOp2 d a b (fun x y => TV.ofWord (x.lo - y.lo))) s

/-- `ctest`, R111. -/
def execCtest (d a b : BitVec 6) (sc : BitVec 2) (s : State) : Host.Outcome State Fault Refusal :=
  runInstr sc.toNat (capOp2 d a b (fun x y => TV.ofWord (boolWord (subsetOf x y)))) s

/-- `cbase`, R108. -/
def execCbase (d a : BitVec 6) (sc : BitVec 2) (s : State) : Host.Outcome State Fault Refusal :=
  runInstr sc.toNat (capOp1 d a (fun x => TV.ofWord (if x.tag then BitVec.ofInt 64 (capBase x) else 0#64))) s

/-- `clen`, R108. -/
def execClen (d a : BitVec 6) (sc : BitVec 2) (s : State) : Host.Outcome State Fault Refusal :=
  runInstr sc.toNat (capOp1 d a (fun x => TV.ofWord (if x.tag then BitVec.ofInt 64 (capTop x - capBase x) else 0#64))) s

/-- `cperms`, R108. -/
def execCperms (d a : BitVec 6) (sc : BitVec 2) (s : State) : Host.Outcome State Fault Refusal :=
  runInstr sc.toNat (capOp1 d a (fun x => TV.ofNat (if x.tag then capPerms x else 0))) s

/-- `ctag`, R108. -/
def execCtag (d a : BitVec 6) (sc : BitVec 2) (s : State) : Host.Outcome State Fault Refusal :=
  runInstr sc.toNat (capOp1 d a (fun x => TV.ofWord (boolWord x.tag))) s

/-- `cclr`, R108. -/
def execCclr (d a : BitVec 6) (sc : BitVec 2) (s : State) : Host.Outcome State Fault Refusal :=
  runInstr sc.toNat (capOp1 d a (fun x => ⟨x.bits, false⟩)) s

/-- `cmv`, R108. -/
def execCmv (d a : BitVec 6) (sc : BitVec 2) (s : State) : Host.Outcome State Fault Refusal :=
  runInstr sc.toNat (capOp1 d a (fun x => x)) s

/-- `caddi`, R110. -/
def execCaddi (d a : BitVec 6) (imm : BitVec 13) (s : State) : Host.Outcome State Fault Refusal :=
  runInstr 0 (capOp1 d a (fun x => setAddr x (x.lo + imm13 imm).toNat)) s

end Sys2Proof.Machine
end

