-- ==== Sys2Proof/WellFormed.lean ====
section
/-! DEFINITION. The operand values an instruction word may hold (R62, R84, R85, R88, R157, R166, R239, R247, R260, R319):
what the fields alone do not say. Every event is well formed. -/
namespace Sys2Proof

/-- R60, R62: the field names g0 to g55, no q register. -/
def plainReg (r : BitVec 6) : Bool := decide (r.toNat ≤ 55)

/-- The field lies in the stated range of register numbers. -/
def regIn (lo hi : Nat) (r : BitVec 6) : Bool := decide (lo ≤ r.toNat) && decide (r.toNat ≤ hi)

/-- The field, a number, is at most the stated bound. -/
def atMost {w : Nat} (hi : Nat) (r : BitVec w) : Bool := decide (r.toNat ≤ hi)

/-- R84: a `red` accepts the order codes 0 and 2. -/
def redOrdOk (o : BitVec 2) : Bool := decide (o = 0#2) || decide (o = 2#2)

/-- R135: the stride of `rep` is 0 when its mask is 0. -/
def repOk (mask : BitVec 4) (stride : BitVec 5) : Bool := decide (mask ≠ 0#4) || decide (stride = 0#5)

/-- R239: `hthr` names a tie source only under tie rule 0. -/
def thrOk (tie : BitVec 2) (b : BitVec 3) : Bool := decide (tie = 0#2) || decide (b = 0#3)

/-- The operands of an instruction lie in the sets the spec accepts. -/
def Instr.wf : Instr → Bool
  | .ldI8 _ a _ => plainReg a
  | .ldN8 _ a _ => plainReg a
  | .ldI16 _ a _ => plainReg a
  | .ldN16 _ a _ => plainReg a
  | .ldI32 _ a _ => plainReg a
  | .ldN32 _ a _ => plainReg a
  | .ld64 _ a _ => plainReg a
  | .ld128 _ a _ => plainReg a
  | .st8 a _ _ => plainReg a
  | .st16 a _ _ => plainReg a
  | .st32 a _ _ => plainReg a
  | .st64 a _ _ => plainReg a
  | .st128 a _ _ => plainReg a
  | .ldbI _ a _ _ => plainReg a
  | .ldbN _ a _ _ => plainReg a
  | .ldbpI _ a b _ => plainReg a && plainReg b
  | .ldbpN _ a b _ => plainReg a && plainReg b
  | .stb d a _ _ => plainReg a && plainReg d
  | .stbp d a b _ => plainReg a && plainReg b && plainReg d
  | .jalr _ a _ => plainReg a
  | .rep _ mask _ stride => repOk mask stride
  | .xlpf a _ _ => plainReg a
  | .pgprobe _ a _ => plainReg a
  | .xstart level _ => atMost 2 level
  | .grank _ level _ => atMost 4 level
  | .gsize _ level _ => atMost 4 level
  | .xput a _ _ => plainReg a
  | .xget a _ _ => plainReg a
  | .amoSwap _ a _ scope _ => atMost 4 scope && plainReg a
  | .amoAdd _ a _ scope _ => atMost 4 scope && plainReg a
  | .amoAnd _ a _ scope _ => atMost 4 scope && plainReg a
  | .amoOr _ a _ scope _ => atMost 4 scope && plainReg a
  | .amoXor _ a _ scope _ => atMost 4 scope && plainReg a
  | .amoMin _ a _ scope _ => atMost 4 scope && plainReg a
  | .amoMax _ a _ scope _ => atMost 4 scope && plainReg a
  | .amoMinn _ a _ scope _ => atMost 4 scope && plainReg a
  | .amoMaxn _ a _ scope _ => atMost 4 scope && plainReg a
  | .amoFaddF32 _ a _ scope _ => atMost 4 scope && plainReg a
  | .amoFminF32 _ a _ scope _ => atMost 4 scope && plainReg a
  | .amoFmaxF32 _ a _ scope _ => atMost 4 scope && plainReg a
  | .redAdd a _ scope ord => atMost 4 scope && redOrdOk ord && plainReg a
  | .redFaddF32 a _ scope ord => atMost 4 scope && redOrdOk ord && plainReg a
  | .redMin a _ scope ord => atMost 4 scope && redOrdOk ord && plainReg a
  | .redMax a _ scope ord => atMost 4 scope && redOrdOk ord && plainReg a
  | .cas64 d a _ scope _ => atMost 4 scope && plainReg a && plainReg d
  | .cas128 d a _ scope _ => atMost 4 scope && plainReg a && plainReg d
  | .waitv64 _ a _ scope _ => atMost 4 scope && plainReg a
  | .waitv32 _ a _ scope _ => atMost 4 scope && plainReg a
  | .fence scope => atMost 4 scope
  | .fenceAcq scope => atMost 4 scope
  | .fenceRel scope => atMost 4 scope
  | .lda64 _ a scope => atMost 4 scope && plainReg a
  | .lda32 _ a scope => atMost 4 scope && plainReg a
  | .stl64 a _ scope => atMost 4 scope && plainReg a
  | .stl32 a _ scope => atMost 4 scope && plainReg a
  | .chtry d _ _ => regIn 1 54 d
  | .chput _ a _ => plainReg a
  | .shpLd _ a _ => plainReg a
  | .shpSt _ a _ => plainReg a
  | .mepi a _ => plainReg a
  | .hbund _ _ mode _ => atMost 1 mode
  | .hthr _ b mode tie _ => atMost 1 mode && thrOk tie b
  | .hldH _ g => plainReg g
  | .hldY g _ => plainReg g
  | .hstH _ g => plainReg g
  | .hstY g _ => plainReg g
  | .hsrch _ _ g => regIn 1 54 g
  | .hsrchk _ _ g => regIn 1 52 g
  | .hsrcht _ _ _ g => regIn 1 55 g
  | _ => true

/-- The check of `Instr.wf` as a proposition. -/
abbrev Instr.WellFormed (i : Instr) : Prop := i.wf = true

end Sys2Proof
end

