-- ==== Sys2Proof/Decode.lean ====
section
/-! DEFINITION. Decoding of instruction words (03_formats, 04_opcode_map), total on every word, rejecting by name;
and the encoder, written from the same tables. -/
namespace Sys2Proof

/-- Why a word names no instruction (R88): its opcode is reserved; its minor value is reserved; a field holds a value
the instruction does not accept, or an unused field is not zero. -/
inductive DecodeError where
  | reservedOpcode
  | reservedMinor
  | badField
  deriving DecidableEq, Repr

/-- Format A of R58. -/
def encA (fn : BitVec 5) (sc : BitVec 2) (b a d : BitVec 6) (op : BitVec 7) : BitVec 32 := fn ++ sc ++ b ++ a ++ d ++ op

/-- Format I of R58. -/
def encI (imm : BitVec 13) (a d : BitVec 6) (op : BitVec 7) : BitVec 32 := imm ++ a ++ d ++ op

/-- Format S of R58, the immediate split. -/
def encS (hi : BitVec 7) (b a lo : BitVec 6) (op : BitVec 7) : BitVec 32 := hi ++ b ++ a ++ lo ++ op

/-- Format B of R58. -/
def encB (imm : BitVec 13) (b a : BitVec 6) (op : BitVec 7) : BitVec 32 := imm ++ b ++ a ++ op

/-- Formats J and U of R58. -/
def encU (imm : BitVec 19) (d : BitVec 6) (op : BitVec 7) : BitVec 32 := imm ++ d ++ op

/-- Format Q of R58. -/
def encQ (f : BitVec 1) (c b a d : BitVec 6) (op : BitVec 7) : BitVec 32 := f ++ c ++ b ++ a ++ d ++ op

/-- Format M of R58. -/
def encM (scope : BitVec 3) (ord fn2 : BitVec 2) (b a d : BitVec 6) (op : BitVec 7) : BitVec 32 :=
  scope ++ ord ++ fn2 ++ b ++ a ++ d ++ op

/-- Format V of R58. -/
def encV (fn : BitVec 5) (o : BitVec 1) (g : BitVec 6) (sb sa : BitVec 4) (k : BitVec 1) (sd : BitVec 4)
    (op : BitVec 7) : BitVec 32 := fn ++ o ++ g ++ sb ++ sa ++ k ++ sd ++ op

/-- Format H of R58. -/
def encH (fn : BitVec 5) (mode : BitVec 2) (g : BitVec 6) (hb ha hd : BitVec 3) (tie : BitVec 2) (y : BitVec 1)
    (op : BitVec 7) : BitVec 32 := fn ++ mode ++ g ++ hb ++ ha ++ hd ++ tie ++ y ++ op

/-- Major opcode 0x01, format A (R58, R81, R82; R101). -/
noncomputable def decodeOp01 (w : BitVec 32) : Except DecodeError Instr :=
  match (w.extractLsb' 27 5).toNat with
  | 0 => .ok (.add (w.extractLsb' 7 6) (w.extractLsb' 13 6) (w.extractLsb' 19 6) (w.extractLsb' 25 2))
  | 1 => .ok (.sub (w.extractLsb' 7 6) (w.extractLsb' 13 6) (w.extractLsb' 19 6) (w.extractLsb' 25 2))
  | 2 => .ok (.and (w.extractLsb' 7 6) (w.extractLsb' 13 6) (w.extractLsb' 19 6) (w.extractLsb' 25 2))
  | 3 => .ok (.or (w.extractLsb' 7 6) (w.extractLsb' 13 6) (w.extractLsb' 19 6) (w.extractLsb' 25 2))
  | 4 => .ok (.xor (w.extractLsb' 7 6) (w.extractLsb' 13 6) (w.extractLsb' 19 6) (w.extractLsb' 25 2))
  | 5 => .ok (.andn (w.extractLsb' 7 6) (w.extractLsb' 13 6) (w.extractLsb' 19 6) (w.extractLsb' 25 2))
  | 6 => .ok (.orn (w.extractLsb' 7 6) (w.extractLsb' 13 6) (w.extractLsb' 19 6) (w.extractLsb' 25 2))
  | 7 => .ok (.sll (w.extractLsb' 7 6) (w.extractLsb' 13 6) (w.extractLsb' 19 6) (w.extractLsb' 25 2))
  | 8 => .ok (.srl (w.extractLsb' 7 6) (w.extractLsb' 13 6) (w.extractLsb' 19 6) (w.extractLsb' 25 2))
  | 9 => .ok (.sra (w.extractLsb' 7 6) (w.extractLsb' 13 6) (w.extractLsb' 19 6) (w.extractLsb' 25 2))
  | 10 => .ok (.rol (w.extractLsb' 7 6) (w.extractLsb' 13 6) (w.extractLsb' 19 6) (w.extractLsb' 25 2))
  | 11 => .ok (.ror (w.extractLsb' 7 6) (w.extractLsb' 13 6) (w.extractLsb' 19 6) (w.extractLsb' 25 2))
  | 12 => .ok (.slt (w.extractLsb' 7 6) (w.extractLsb' 13 6) (w.extractLsb' 19 6) (w.extractLsb' 25 2))
  | 13 => .ok (.sltn (w.extractLsb' 7 6) (w.extractLsb' 13 6) (w.extractLsb' 19 6) (w.extractLsb' 25 2))
  | 14 => .ok (.seq (w.extractLsb' 7 6) (w.extractLsb' 13 6) (w.extractLsb' 19 6) (w.extractLsb' 25 2))
  | 15 => .ok (.sne (w.extractLsb' 7 6) (w.extractLsb' 13 6) (w.extractLsb' 19 6) (w.extractLsb' 25 2))
  | 16 => .ok (.min (w.extractLsb' 7 6) (w.extractLsb' 13 6) (w.extractLsb' 19 6) (w.extractLsb' 25 2))
  | 17 => .ok (.max (w.extractLsb' 7 6) (w.extractLsb' 13 6) (w.extractLsb' 19 6) (w.extractLsb' 25 2))
  | 18 => .ok (.minn (w.extractLsb' 7 6) (w.extractLsb' 13 6) (w.extractLsb' 19 6) (w.extractLsb' 25 2))
  | 19 => .ok (.maxn (w.extractLsb' 7 6) (w.extractLsb' 13 6) (w.extractLsb' 19 6) (w.extractLsb' 25 2))
  | 20 => .ok (.clz (w.extractLsb' 7 6) (w.extractLsb' 13 6) (w.extractLsb' 25 2))
  | 21 => .ok (.ctz (w.extractLsb' 7 6) (w.extractLsb' 13 6) (w.extractLsb' 25 2))
  | 22 => .ok (.popc (w.extractLsb' 7 6) (w.extractLsb' 13 6) (w.extractLsb' 25 2))
  | 23 => .ok (.brev (w.extractLsb' 7 6) (w.extractLsb' 13 6) (w.extractLsb' 25 2))
  | 24 => .ok (.bswap (w.extractLsb' 7 6) (w.extractLsb' 13 6) (w.extractLsb' 25 2))
  | 25 => .ok (.sxt (w.extractLsb' 7 6) (w.extractLsb' 13 6) (w.extractLsb' 19 6) (w.extractLsb' 25 2))
  | 26 => .ok (.zxt (w.extractLsb' 7 6) (w.extractLsb' 13 6) (w.extractLsb' 19 6) (w.extractLsb' 25 2))
  | 27 => .ok (.addw (w.extractLsb' 7 6) (w.extractLsb' 13 6) (w.extractLsb' 19 6) (w.extractLsb' 25 2))
  | 28 => .ok (.subw (w.extractLsb' 7 6) (w.extractLsb' 13 6) (w.extractLsb' 19 6) (w.extractLsb' 25 2))
  | _ => .error .reservedMinor

/-- Major opcode 0x02, format A (R58, R81, R82; R106, R107). -/
noncomputable def decodeOp02 (w : BitVec 32) : Except DecodeError Instr :=
  match (w.extractLsb' 27 5).toNat with
  | 0 => .ok (.mul (w.extractLsb' 7 6) (w.extractLsb' 13 6) (w.extractLsb' 19 6) (w.extractLsb' 25 2))
  | 1 => .ok (.mulh (w.extractLsb' 7 6) (w.extractLsb' 13 6) (w.extractLsb' 19 6) (w.extractLsb' 25 2))
  | 2 => .ok (.mulhn (w.extractLsb' 7 6) (w.extractLsb' 13 6) (w.extractLsb' 19 6) (w.extractLsb' 25 2))
  | 3 => .ok (.mulhsn (w.extractLsb' 7 6) (w.extractLsb' 13 6) (w.extractLsb' 19 6) (w.extractLsb' 25 2))
  | 4 => .ok (.div (w.extractLsb' 7 6) (w.extractLsb' 13 6) (w.extractLsb' 19 6) (w.extractLsb' 25 2))
  | 5 => .ok (.divn (w.extractLsb' 7 6) (w.extractLsb' 13 6) (w.extractLsb' 19 6) (w.extractLsb' 25 2))
  | 6 => .ok (.rem (w.extractLsb' 7 6) (w.extractLsb' 13 6) (w.extractLsb' 19 6) (w.extractLsb' 25 2))
  | 7 => .ok (.remn (w.extractLsb' 7 6) (w.extractLsb' 13 6) (w.extractLsb' 19 6) (w.extractLsb' 25 2))
  | 8 => .ok (.mulw (w.extractLsb' 7 6) (w.extractLsb' 13 6) (w.extractLsb' 19 6) (w.extractLsb' 25 2))
  | 9 => .ok (.divw (w.extractLsb' 7 6) (w.extractLsb' 13 6) (w.extractLsb' 19 6) (w.extractLsb' 25 2))
  | 10 => .ok (.divnw (w.extractLsb' 7 6) (w.extractLsb' 13 6) (w.extractLsb' 19 6) (w.extractLsb' 25 2))
  | 11 => .ok (.remw (w.extractLsb' 7 6) (w.extractLsb' 13 6) (w.extractLsb' 19 6) (w.extractLsb' 25 2))
  | 12 => .ok (.remnw (w.extractLsb' 7 6) (w.extractLsb' 13 6) (w.extractLsb' 19 6) (w.extractLsb' 25 2))
  | _ => .error .reservedMinor

/-- Major opcode 0x03, format I (R58, R81, R82; R102). -/
noncomputable def decodeOp03 (w : BitVec 32) : Except DecodeError Instr :=
  .ok (.addi (w.extractLsb' 7 6) (w.extractLsb' 13 6) (w.extractLsb' 19 13))

/-- Major opcode 0x04, format I (R58, R81, R82; R102). -/
noncomputable def decodeOp04 (w : BitVec 32) : Except DecodeError Instr :=
  .ok (.andi (w.extractLsb' 7 6) (w.extractLsb' 13 6) (w.extractLsb' 19 13))

/-- Major opcode 0x05, format I (R58, R81, R82; R102). -/
noncomputable def decodeOp05 (w : BitVec 32) : Except DecodeError Instr :=
  .ok (.ori (w.extractLsb' 7 6) (w.extractLsb' 13 6) (w.extractLsb' 19 13))

/-- Major opcode 0x06, format I (R58, R81, R82; R102). -/
noncomputable def decodeOp06 (w : BitVec 32) : Except DecodeError Instr :=
  .ok (.xori (w.extractLsb' 7 6) (w.extractLsb' 13 6) (w.extractLsb' 19 13))

/-- Major opcode 0x07, format I (R58, R81, R82; R102). -/
noncomputable def decodeOp07 (w : BitVec 32) : Except DecodeError Instr :=
  .ok (.slti (w.extractLsb' 7 6) (w.extractLsb' 13 6) (w.extractLsb' 19 13))

/-- Major opcode 0x08, format I (R58, R81, R82; R102). -/
noncomputable def decodeOp08 (w : BitVec 32) : Except DecodeError Instr :=
  .ok (.sltni (w.extractLsb' 7 6) (w.extractLsb' 13 6) (w.extractLsb' 19 13))

/-- Major opcode 0x09, format I (R58, R81, R82; R102). -/
noncomputable def decodeOp09 (w : BitVec 32) : Except DecodeError Instr :=
  .ok (.slli (w.extractLsb' 7 6) (w.extractLsb' 13 6) (w.extractLsb' 19 6))

/-- Major opcode 0x0A, format I (R58, R81, R82; R102). -/
noncomputable def decodeOp0A (w : BitVec 32) : Except DecodeError Instr :=
  .ok (.srli (w.extractLsb' 7 6) (w.extractLsb' 13 6) (w.extractLsb' 19 6))

/-- Major opcode 0x0B, format I (R58, R81, R82; R102). -/
noncomputable def decodeOp0B (w : BitVec 32) : Except DecodeError Instr :=
  .ok (.srai (w.extractLsb' 7 6) (w.extractLsb' 13 6) (w.extractLsb' 19 6))

/-- Major opcode 0x0C, format I (R58, R81, R82; R102). -/
noncomputable def decodeOp0C (w : BitVec 32) : Except DecodeError Instr :=
  .ok (.addwi (w.extractLsb' 7 6) (w.extractLsb' 13 6) (w.extractLsb' 19 13))

/-- Major opcode 0x0D, format U (R58, R81, R82; R103). -/
noncomputable def decodeOp0D (w : BitVec 32) : Except DecodeError Instr :=
  .ok (.lui (w.extractLsb' 7 6) (w.extractLsb' 13 19))

/-- Major opcode 0x0E, format U (R58, R81, R82; R104). -/
noncomputable def decodeOp0E (w : BitVec 32) : Except DecodeError Instr :=
  .ok (.auipc (w.extractLsb' 7 6) (w.extractLsb' 13 19))

/-- Major opcode 0x0F, format Q (R58, R81, R82; R105). -/
noncomputable def decodeOp0F (w : BitVec 32) : Except DecodeError Instr :=
  match (w.extractLsb' 31 1).toNat with
  | 0 => .ok (.madd (w.extractLsb' 7 6) (w.extractLsb' 13 6) (w.extractLsb' 19 6) (w.extractLsb' 25 6))
  | 1 => .ok (.msub (w.extractLsb' 7 6) (w.extractLsb' 13 6) (w.extractLsb' 19 6) (w.extractLsb' 25 6))
  | _ => .error .reservedMinor

/-- Major opcode 0x10, format A (R58, R81, R82; R108, R109, R110, R111). -/
noncomputable def decodeOp10 (w : BitVec 32) : Except DecodeError Instr :=
  match (w.extractLsb' 27 5).toNat with
  | 0 => .ok (.cbnd (w.extractLsb' 7 6) (w.extractLsb' 13 6) (w.extractLsb' 19 6) (w.extractLsb' 25 2))
  | 1 => .ok (.cbnde (w.extractLsb' 7 6) (w.extractLsb' 13 6) (w.extractLsb' 19 6) (w.extractLsb' 25 2))
  | 2 => .ok (.cperm (w.extractLsb' 7 6) (w.extractLsb' 13 6) (w.extractLsb' 19 6) (w.extractLsb' 25 2))
  | 3 => .ok (.cseta (w.extractLsb' 7 6) (w.extractLsb' 13 6) (w.extractLsb' 19 6) (w.extractLsb' 25 2))
  | 4 => .ok (.cadd (w.extractLsb' 7 6) (w.extractLsb' 13 6) (w.extractLsb' 19 6) (w.extractLsb' 25 2))
  | 5 => .ok (.cbase (w.extractLsb' 7 6) (w.extractLsb' 13 6) (w.extractLsb' 25 2))
  | 6 => .ok (.clen (w.extractLsb' 7 6) (w.extractLsb' 13 6) (w.extractLsb' 25 2))
  | 7 => .ok (.cperms (w.extractLsb' 7 6) (w.extractLsb' 13 6) (w.extractLsb' 25 2))
  | 8 => .ok (.ctag (w.extractLsb' 7 6) (w.extractLsb' 13 6) (w.extractLsb' 25 2))
  | 9 => .ok (.cclr (w.extractLsb' 7 6) (w.extractLsb' 13 6) (w.extractLsb' 25 2))
  | 10 => .ok (.cmv (w.extractLsb' 7 6) (w.extractLsb' 13 6) (w.extractLsb' 25 2))
  | 11 => .ok (.csub (w.extractLsb' 7 6) (w.extractLsb' 13 6) (w.extractLsb' 19 6) (w.extractLsb' 25 2))
  | 12 => .ok (.ctest (w.extractLsb' 7 6) (w.extractLsb' 13 6) (w.extractLsb' 19 6) (w.extractLsb' 25 2))
  | _ => .error .reservedMinor

/-- Major opcode 0x11, format I (R58, R81, R82; R110). -/
noncomputable def decodeOp11 (w : BitVec 32) : Except DecodeError Instr :=
  .ok (.caddi (w.extractLsb' 7 6) (w.extractLsb' 13 6) (w.extractLsb' 19 13))

/-- Major opcode 0x12, format I (R58, R81, R82; R109). -/
noncomputable def decodeOp12 (w : BitVec 32) : Except DecodeError Instr :=
  .ok (.cbndi (w.extractLsb' 7 6) (w.extractLsb' 13 6) (w.extractLsb' 19 12))

/-- Major opcode 0x13, format I (R58, R81, R82; R152). -/
noncomputable def decodeOp13 (w : BitVec 32) : Except DecodeError Instr :=
  .ok (.ldI8 (w.extractLsb' 7 6) (w.extractLsb' 13 6) (w.extractLsb' 19 13))

/-- Major opcode 0x14, format I (R58, R81, R82; R152). -/
noncomputable def decodeOp14 (w : BitVec 32) : Except DecodeError Instr :=
  .ok (.ldN8 (w.extractLsb' 7 6) (w.extractLsb' 13 6) (w.extractLsb' 19 13))

/-- Major opcode 0x15, format I (R58, R81, R82; R152). -/
noncomputable def decodeOp15 (w : BitVec 32) : Except DecodeError Instr :=
  .ok (.ldI16 (w.extractLsb' 7 6) (w.extractLsb' 13 6) (w.extractLsb' 19 13))

/-- Major opcode 0x16, format I (R58, R81, R82; R152). -/
noncomputable def decodeOp16 (w : BitVec 32) : Except DecodeError Instr :=
  .ok (.ldN16 (w.extractLsb' 7 6) (w.extractLsb' 13 6) (w.extractLsb' 19 13))

/-- Major opcode 0x17, format I (R58, R81, R82; R152). -/
noncomputable def decodeOp17 (w : BitVec 32) : Except DecodeError Instr :=
  .ok (.ldI32 (w.extractLsb' 7 6) (w.extractLsb' 13 6) (w.extractLsb' 19 13))

/-- Major opcode 0x18, format I (R58, R81, R82; R152). -/
noncomputable def decodeOp18 (w : BitVec 32) : Except DecodeError Instr :=
  .ok (.ldN32 (w.extractLsb' 7 6) (w.extractLsb' 13 6) (w.extractLsb' 19 13))

/-- Major opcode 0x19, format I (R58, R81, R82; R152). -/
noncomputable def decodeOp19 (w : BitVec 32) : Except DecodeError Instr :=
  .ok (.ld64 (w.extractLsb' 7 6) (w.extractLsb' 13 6) (w.extractLsb' 19 13))

/-- Major opcode 0x1A, format I (R58, R81, R82; R152). -/
noncomputable def decodeOp1A (w : BitVec 32) : Except DecodeError Instr :=
  .ok (.ld128 (w.extractLsb' 7 6) (w.extractLsb' 13 6) (w.extractLsb' 19 13))

/-- Major opcode 0x1B, format S (R58, R81, R82; R154). -/
noncomputable def decodeOp1B (w : BitVec 32) : Except DecodeError Instr :=
  .ok (.st8 (w.extractLsb' 13 6) (w.extractLsb' 19 6) ((w.extractLsb' 25 7) ++ (w.extractLsb' 7 6)))

/-- Major opcode 0x1C, format S (R58, R81, R82; R154). -/
noncomputable def decodeOp1C (w : BitVec 32) : Except DecodeError Instr :=
  .ok (.st16 (w.extractLsb' 13 6) (w.extractLsb' 19 6) ((w.extractLsb' 25 7) ++ (w.extractLsb' 7 6)))

/-- Major opcode 0x1D, format S (R58, R81, R82; R154). -/
noncomputable def decodeOp1D (w : BitVec 32) : Except DecodeError Instr :=
  .ok (.st32 (w.extractLsb' 13 6) (w.extractLsb' 19 6) ((w.extractLsb' 25 7) ++ (w.extractLsb' 7 6)))

/-- Major opcode 0x1E, format S (R58, R81, R82; R154). -/
noncomputable def decodeOp1E (w : BitVec 32) : Except DecodeError Instr :=
  .ok (.st64 (w.extractLsb' 13 6) (w.extractLsb' 19 6) ((w.extractLsb' 25 7) ++ (w.extractLsb' 7 6)))

/-- Major opcode 0x1F, format S (R58, R81, R82; R154). -/
noncomputable def decodeOp1F (w : BitVec 32) : Except DecodeError Instr :=
  .ok (.st128 (w.extractLsb' 13 6) (w.extractLsb' 19 6) ((w.extractLsb' 25 7) ++ (w.extractLsb' 7 6)))

/-- Major opcode 0x20, format A (R58, R81, R82; R156, R158). -/
noncomputable def decodeOp20 (w : BitVec 32) : Except DecodeError Instr :=
  match (w.extractLsb' 27 5).toNat with
  | 0 => .ok (.ldbI (w.extractLsb' 7 6) (w.extractLsb' 13 6) (w.extractLsb' 19 6) (w.extractLsb' 25 2))
  | 1 => .ok (.ldbN (w.extractLsb' 7 6) (w.extractLsb' 13 6) (w.extractLsb' 19 6) (w.extractLsb' 25 2))
  | 2 => .ok (.ldbpI (w.extractLsb' 7 6) (w.extractLsb' 13 6) (w.extractLsb' 19 6) (w.extractLsb' 25 2))
  | 3 => .ok (.ldbpN (w.extractLsb' 7 6) (w.extractLsb' 13 6) (w.extractLsb' 19 6) (w.extractLsb' 25 2))
  | 4 => .ok (.stb (w.extractLsb' 7 6) (w.extractLsb' 13 6) (w.extractLsb' 19 6) (w.extractLsb' 25 2))
  | 5 => .ok (.stbp (w.extractLsb' 7 6) (w.extractLsb' 13 6) (w.extractLsb' 19 6) (w.extractLsb' 25 2))
  | _ => .error .reservedMinor

/-- Major opcode 0x21, format A (R58, R81, R82; R112, R114, R115, R116). -/
noncomputable def decodeOp21 (w : BitVec 32) : Except DecodeError Instr :=
  match (w.extractLsb' 27 5).toNat with
  | 0 => .ok (.faddF32 (w.extractLsb' 7 6) (w.extractLsb' 13 6) (w.extractLsb' 19 6) (w.extractLsb' 25 2))
  | 1 => .ok (.fsubF32 (w.extractLsb' 7 6) (w.extractLsb' 13 6) (w.extractLsb' 19 6) (w.extractLsb' 25 2))
  | 2 => .ok (.fmulF32 (w.extractLsb' 7 6) (w.extractLsb' 13 6) (w.extractLsb' 19 6) (w.extractLsb' 25 2))
  | 3 => .ok (.fdivF32 (w.extractLsb' 7 6) (w.extractLsb' 13 6) (w.extractLsb' 19 6) (w.extractLsb' 25 2))
  | 4 => .ok (.fsqrtF32 (w.extractLsb' 7 6) (w.extractLsb' 13 6) (w.extractLsb' 25 2))
  | 5 => .ok (.fminF32 (w.extractLsb' 7 6) (w.extractLsb' 13 6) (w.extractLsb' 19 6) (w.extractLsb' 25 2))
  | 6 => .ok (.fmaxF32 (w.extractLsb' 7 6) (w.extractLsb' 13 6) (w.extractLsb' 19 6) (w.extractLsb' 25 2))
  | 7 => .ok (.feqF32 (w.extractLsb' 7 6) (w.extractLsb' 13 6) (w.extractLsb' 19 6) (w.extractLsb' 25 2))
  | 8 => .ok (.fltF32 (w.extractLsb' 7 6) (w.extractLsb' 13 6) (w.extractLsb' 19 6) (w.extractLsb' 25 2))
  | 9 => .ok (.fleF32 (w.extractLsb' 7 6) (w.extractLsb' 13 6) (w.extractLsb' 19 6) (w.extractLsb' 25 2))
  | 10 => .ok (.fclassF32 (w.extractLsb' 7 6) (w.extractLsb' 13 6) (w.extractLsb' 25 2))
  | 11 => .ok (.fsgnF32 (w.extractLsb' 7 6) (w.extractLsb' 13 6) (w.extractLsb' 19 6) (w.extractLsb' 25 2))
  | 12 => .ok (.fnegF32 (w.extractLsb' 7 6) (w.extractLsb' 13 6) (w.extractLsb' 25 2))
  | 13 => .ok (.fabsF32 (w.extractLsb' 7 6) (w.extractLsb' 13 6) (w.extractLsb' 25 2))
  | _ => .error .reservedMinor

/-- Major opcode 0x22, format A (R58, R81, R82; R42, R118, R119). -/
noncomputable def decodeOp22 (w : BitVec 32) : Except DecodeError Instr :=
  match (w.extractLsb' 27 5).toNat with
  | 0 => .ok (.fcvtF32I64 (w.extractLsb' 7 6) (w.extractLsb' 13 6) (w.extractLsb' 25 2))
  | 1 => .ok (.fcvtF32N64 (w.extractLsb' 7 6) (w.extractLsb' 13 6) (w.extractLsb' 25 2))
  | 2 => .ok (.fcvtI64F32 (w.extractLsb' 7 6) (w.extractLsb' 13 6) (w.extractLsb' 25 2))
  | 3 => .ok (.fcvtN64F32 (w.extractLsb' 7 6) (w.extractLsb' 13 6) (w.extractLsb' 25 2))
  | 4 => .ok (.fcvtF32Bf16 (w.extractLsb' 7 6) (w.extractLsb' 13 6) (w.extractLsb' 25 2))
  | 5 => .ok (.fcvtBf16F32 (w.extractLsb' 7 6) (w.extractLsb' 13 6) (w.extractLsb' 25 2))
  | 6 => .ok (.fcvtF32F16 (w.extractLsb' 7 6) (w.extractLsb' 13 6) (w.extractLsb' 25 2))
  | 7 => .ok (.fcvtF16F32 (w.extractLsb' 7 6) (w.extractLsb' 13 6) (w.extractLsb' 25 2))
  | 8 => .ok (.fcvtF32E8 (w.extractLsb' 7 6) (w.extractLsb' 13 6) (w.extractLsb' 25 2))
  | 9 => .ok (.fcvtE8F32 (w.extractLsb' 7 6) (w.extractLsb' 13 6) (w.extractLsb' 25 2))
  | _ => .error .reservedMinor

/-- Major opcode 0x23, format Q (R58, R81, R82; R117). -/
noncomputable def decodeOp23 (w : BitVec 32) : Except DecodeError Instr :=
  match (w.extractLsb' 31 1).toNat with
  | 0 => .ok (.fmaddF32 (w.extractLsb' 7 6) (w.extractLsb' 13 6) (w.extractLsb' 19 6) (w.extractLsb' 25 6))
  | 1 => .ok (.fmsubF32 (w.extractLsb' 7 6) (w.extractLsb' 13 6) (w.extractLsb' 19 6) (w.extractLsb' 25 6))
  | _ => .error .reservedMinor

/-- Major opcode 0x24, format B (R58, R81, R82; R131). -/
noncomputable def decodeOp24 (w : BitVec 32) : Except DecodeError Instr :=
  .ok (.beq (w.extractLsb' 7 6) (w.extractLsb' 13 6) (w.extractLsb' 19 13))

/-- Major opcode 0x25, format B (R58, R81, R82; R131). -/
noncomputable def decodeOp25 (w : BitVec 32) : Except DecodeError Instr :=
  .ok (.bne (w.extractLsb' 7 6) (w.extractLsb' 13 6) (w.extractLsb' 19 13))

/-- Major opcode 0x26, format B (R58, R81, R82; R131). -/
noncomputable def decodeOp26 (w : BitVec 32) : Except DecodeError Instr :=
  .ok (.blt (w.extractLsb' 7 6) (w.extractLsb' 13 6) (w.extractLsb' 19 13))

/-- Major opcode 0x27, format B (R58, R81, R82; R131). -/
noncomputable def decodeOp27 (w : BitVec 32) : Except DecodeError Instr :=
  .ok (.bge (w.extractLsb' 7 6) (w.extractLsb' 13 6) (w.extractLsb' 19 13))

/-- Major opcode 0x28, format B (R58, R81, R82; R131). -/
noncomputable def decodeOp28 (w : BitVec 32) : Except DecodeError Instr :=
  .ok (.bltn (w.extractLsb' 7 6) (w.extractLsb' 13 6) (w.extractLsb' 19 13))

/-- Major opcode 0x29, format B (R58, R81, R82; R131). -/
noncomputable def decodeOp29 (w : BitVec 32) : Except DecodeError Instr :=
  .ok (.bgen (w.extractLsb' 7 6) (w.extractLsb' 13 6) (w.extractLsb' 19 13))

/-- Major opcode 0x2A, format J (R58, R81, R82; R133). -/
noncomputable def decodeOp2A (w : BitVec 32) : Except DecodeError Instr :=
  .ok (.jal (w.extractLsb' 7 6) (w.extractLsb' 13 19))

/-- Major opcode 0x2B, format I (R58, R81, R82; R134). -/
noncomputable def decodeOp2B (w : BitVec 32) : Except DecodeError Instr :=
  .ok (.jalr (w.extractLsb' 7 6) (w.extractLsb' 13 6) (w.extractLsb' 19 13))

/-- Major opcode 0x2C, format I (R58, R81, R82; R135). -/
noncomputable def decodeOp2C (w : BitVec 32) : Except DecodeError Instr :=
  .ok (.rep (w.extractLsb' 13 6) (w.extractLsb' 23 4) (w.extractLsb' 19 4) (w.extractLsb' 27 5))

/-- Major opcode 0x2D, format I (R58, R81, R82; R429). -/
noncomputable def decodeOp2D (w : BitVec 32) : Except DecodeError Instr :=
  .ok (.sget (w.extractLsb' 7 6) (w.extractLsb' 19 12))

/-- Major opcode 0x2E, format I (R58, R81, R82; R429). -/
noncomputable def decodeOp2E (w : BitVec 32) : Except DecodeError Instr :=
  .ok (.sset (w.extractLsb' 13 6) (w.extractLsb' 19 12))

/-- Major opcode 0x2F, format I (R58, R81, R82; R429). -/
noncomputable def decodeOp2F (w : BitVec 32) : Except DecodeError Instr :=
  .ok (.sswap (w.extractLsb' 7 6) (w.extractLsb' 13 6) (w.extractLsb' 19 12))

/-- Major opcode 0x30, format A (R58, R81, R82; R356, R357, R358, R431, R432, R433, R434, R435). -/
noncomputable def decodeOp30 (w : BitVec 32) : Except DecodeError Instr :=
  match (w.extractLsb' 27 5).toNat with
  | 0 => .ok (.trap (w.extractLsb' 13 6) (w.extractLsb' 25 2))
  | 1 => .ok (.brk (w.extractLsb' 25 2))
  | 2 => .ok (.rett (w.extractLsb' 25 2))
  | 3 => .ok (.ifence (w.extractLsb' 25 2))
  | 4 => .ok (.halt (w.extractLsb' 25 2))
  | 5 => .ok (.rdcyc (w.extractLsb' 7 6) (w.extractLsb' 25 2))
  | 6 => .ok (.rdtime (w.extractLsb' 7 6) (w.extractLsb' 25 2))
  | 7 => .ok (.rdret (w.extractLsb' 7 6) (w.extractLsb' 25 2))
  | 8 => .ok (.xlpf (w.extractLsb' 13 6) (w.extractLsb' 19 6) (w.extractLsb' 25 2))
  | 9 => .ok (.pgprobe (w.extractLsb' 7 6) (w.extractLsb' 13 6) (w.extractLsb' 25 2))
  | 10 => .ok (.atcinv (w.extractLsb' 7 6) (w.extractLsb' 13 6) (w.extractLsb' 19 6) (w.extractLsb' 25 2))
  | _ => .error .reservedMinor

/-- Major opcode 0x31, format A (R58, R81, R82; R138, R139, R140, R141). -/
noncomputable def decodeOp31 (w : BitVec 32) : Except DecodeError Instr :=
  match (w.extractLsb' 27 5).toNat with
  | 0 => .ok (.spawn (w.extractLsb' 7 6) (w.extractLsb' 13 6) (w.extractLsb' 19 6) (w.extractLsb' 25 2))
  | 1 => .ok (.suspend (w.extractLsb' 25 2))
  | 2 => .ok (.yield (w.extractLsb' 25 2))
  | 3 => .ok (.retire (w.extractLsb' 25 2))
  | 4 => .ok (.wake (w.extractLsb' 7 6) (w.extractLsb' 13 6) (w.extractLsb' 25 2))
  | 5 => .ok (.stid (w.extractLsb' 7 6) (w.extractLsb' 25 2))
  | 6 => .ok (.setpri (w.extractLsb' 7 6) (w.extractLsb' 13 6) (w.extractLsb' 25 2))
  | _ => .error .reservedMinor

/-- Major opcode 0x32, format A (R58, R81, R82; R307, R314, R316, R319). -/
noncomputable def decodeOp32 (w : BitVec 32) : Except DecodeError Instr :=
  match (w.extractLsb' 27 5).toNat with
  | 0 => .ok (.sync (w.extractLsb' 7 6) (w.extractLsb' 19 2) (w.extractLsb' 25 2))
  | 1 => .ok (.xstart (w.extractLsb' 19 2) (w.extractLsb' 25 2))
  | 2 => .ok (.xdone (w.extractLsb' 25 2))
  | 3 => .ok (.grank (w.extractLsb' 7 6) (w.extractLsb' 19 3) (w.extractLsb' 25 2))
  | 4 => .ok (.gsize (w.extractLsb' 7 6) (w.extractLsb' 19 3) (w.extractLsb' 25 2))
  | 5 => .ok (.gmember (w.extractLsb' 7 6) (w.extractLsb' 13 6) (w.extractLsb' 19 2) (w.extractLsb' 25 2))
  | _ => .error .reservedMinor

/-- Major opcode 0x33, format Q (R58, R81, R82; R320). -/
noncomputable def decodeOp33 (w : BitVec 32) : Except DecodeError Instr :=
  match (w.extractLsb' 31 1).toNat with
  | 0 => .ok (.xput (w.extractLsb' 13 6) (w.extractLsb' 19 6) (w.extractLsb' 25 6))
  | 1 => .ok (.xget (w.extractLsb' 13 6) (w.extractLsb' 19 6) (w.extractLsb' 25 6))
  | _ => .error .reservedMinor

/-- Major opcode 0x34, format A (R58, R81, R82; R332, R333, R334, R335, R336, R337, R338, R339). -/
noncomputable def decodeOp34 (w : BitVec 32) : Except DecodeError Instr :=
  match (w.extractLsb' 27 5).toNat with
  | 0 => .ok (.evwait (w.extractLsb' 7 6) (w.extractLsb' 13 6) (w.extractLsb' 25 2))
  | 1 => .ok (.evsig (w.extractLsb' 13 6) (w.extractLsb' 19 6) (w.extractLsb' 25 2))
  | 2 => .ok (.evsend (w.extractLsb' 13 6) (w.extractLsb' 19 6) (w.extractLsb' 25 2))
  | 3 => .ok (.barc (w.extractLsb' 7 6) (w.extractLsb' 13 6) (w.extractLsb' 19 6) (w.extractLsb' 25 2))
  | 4 => .ok (.bara (w.extractLsb' 7 6) (w.extractLsb' 13 6) (w.extractLsb' 25 2))
  | 5 => .ok (.barw (w.extractLsb' 13 6) (w.extractLsb' 19 6) (w.extractLsb' 25 2))
  | 6 => .ok (.barrc (w.extractLsb' 7 6) (w.extractLsb' 13 6) (w.extractLsb' 25 2))
  | 7 => .ok (.mtxlock (w.extractLsb' 13 6) (w.extractLsb' 25 2))
  | 8 => .ok (.mtxfree (w.extractLsb' 7 6) (w.extractLsb' 13 6) (w.extractLsb' 25 2))
  | _ => .error .reservedMinor

/-- Major opcode 0x35, format M (R58, R81, R82; R297). -/
noncomputable def decodeOp35 (w : BitVec 32) : Except DecodeError Instr :=
  match (w.extractLsb' 25 2).toNat with
  | 0 => .ok (.amoSwap (w.extractLsb' 7 6) (w.extractLsb' 13 6) (w.extractLsb' 19 6) (w.extractLsb' 29 3) (w.extractLsb' 27 2))
  | 1 => .ok (.amoAdd (w.extractLsb' 7 6) (w.extractLsb' 13 6) (w.extractLsb' 19 6) (w.extractLsb' 29 3) (w.extractLsb' 27 2))
  | 2 => .ok (.amoAnd (w.extractLsb' 7 6) (w.extractLsb' 13 6) (w.extractLsb' 19 6) (w.extractLsb' 29 3) (w.extractLsb' 27 2))
  | 3 => .ok (.amoOr (w.extractLsb' 7 6) (w.extractLsb' 13 6) (w.extractLsb' 19 6) (w.extractLsb' 29 3) (w.extractLsb' 27 2))
  | _ => .error .reservedMinor

/-- Major opcode 0x36, format M (R58, R81, R82; R297). -/
noncomputable def decodeOp36 (w : BitVec 32) : Except DecodeError Instr :=
  match (w.extractLsb' 25 2).toNat with
  | 0 => .ok (.amoXor (w.extractLsb' 7 6) (w.extractLsb' 13 6) (w.extractLsb' 19 6) (w.extractLsb' 29 3) (w.extractLsb' 27 2))
  | 1 => .ok (.amoMin (w.extractLsb' 7 6) (w.extractLsb' 13 6) (w.extractLsb' 19 6) (w.extractLsb' 29 3) (w.extractLsb' 27 2))
  | 2 => .ok (.amoMax (w.extractLsb' 7 6) (w.extractLsb' 13 6) (w.extractLsb' 19 6) (w.extractLsb' 29 3) (w.extractLsb' 27 2))
  | 3 => .ok (.amoMinn (w.extractLsb' 7 6) (w.extractLsb' 13 6) (w.extractLsb' 19 6) (w.extractLsb' 29 3) (w.extractLsb' 27 2))
  | _ => .error .reservedMinor

/-- Major opcode 0x37, format M (R58, R81, R82; R297). -/
noncomputable def decodeOp37 (w : BitVec 32) : Except DecodeError Instr :=
  match (w.extractLsb' 25 2).toNat with
  | 0 => .ok (.amoMaxn (w.extractLsb' 7 6) (w.extractLsb' 13 6) (w.extractLsb' 19 6) (w.extractLsb' 29 3) (w.extractLsb' 27 2))
  | 1 => .ok (.amoFaddF32 (w.extractLsb' 7 6) (w.extractLsb' 13 6) (w.extractLsb' 19 6) (w.extractLsb' 29 3) (w.extractLsb' 27 2))
  | 2 => .ok (.amoFminF32 (w.extractLsb' 7 6) (w.extractLsb' 13 6) (w.extractLsb' 19 6) (w.extractLsb' 29 3) (w.extractLsb' 27 2))
  | 3 => .ok (.amoFmaxF32 (w.extractLsb' 7 6) (w.extractLsb' 13 6) (w.extractLsb' 19 6) (w.extractLsb' 29 3) (w.extractLsb' 27 2))
  | _ => .error .reservedMinor

/-- Major opcode 0x38, format M (R58, R81, R82; R298). -/
noncomputable def decodeOp38 (w : BitVec 32) : Except DecodeError Instr :=
  match (w.extractLsb' 25 2).toNat with
  | 0 => .ok (.redAdd (w.extractLsb' 13 6) (w.extractLsb' 19 6) (w.extractLsb' 29 3) (w.extractLsb' 27 2))
  | 1 => .ok (.redFaddF32 (w.extractLsb' 13 6) (w.extractLsb' 19 6) (w.extractLsb' 29 3) (w.extractLsb' 27 2))
  | 2 => .ok (.redMin (w.extractLsb' 13 6) (w.extractLsb' 19 6) (w.extractLsb' 29 3) (w.extractLsb' 27 2))
  | 3 => .ok (.redMax (w.extractLsb' 13 6) (w.extractLsb' 19 6) (w.extractLsb' 29 3) (w.extractLsb' 27 2))
  | _ => .error .reservedMinor

/-- Major opcode 0x39, format M (R58, R81, R82; R299, R300). -/
noncomputable def decodeOp39 (w : BitVec 32) : Except DecodeError Instr :=
  match (w.extractLsb' 25 2).toNat with
  | 0 => .ok (.cas64 (w.extractLsb' 7 6) (w.extractLsb' 13 6) (w.extractLsb' 19 6) (w.extractLsb' 29 3) (w.extractLsb' 27 2))
  | 1 => .ok (.cas128 (w.extractLsb' 7 6) (w.extractLsb' 13 6) (w.extractLsb' 19 6) (w.extractLsb' 29 3) (w.extractLsb' 27 2))
  | 2 => .ok (.waitv64 (w.extractLsb' 7 6) (w.extractLsb' 13 6) (w.extractLsb' 19 6) (w.extractLsb' 29 3) (w.extractLsb' 27 1))
  | 3 => .ok (.waitv32 (w.extractLsb' 7 6) (w.extractLsb' 13 6) (w.extractLsb' 19 6) (w.extractLsb' 29 3) (w.extractLsb' 27 1))
  | _ => .error .reservedMinor

/-- Major opcode 0x3A, format M (R58, R81, R82; R288, R294). -/
noncomputable def decodeOp3A (w : BitVec 32) : Except DecodeError Instr :=
  match (w.extractLsb' 25 2).toNat with
  | 0 => .ok (.fence (w.extractLsb' 29 3))
  | 1 => .ok (.fenceAcq (w.extractLsb' 29 3))
  | 2 => .ok (.fenceRel (w.extractLsb' 29 3))
  | 3 => .ok (.fenceWin )
  | _ => .error .reservedMinor

/-- Major opcode 0x3B, format M (R58, R81, R82; R301). -/
noncomputable def decodeOp3B (w : BitVec 32) : Except DecodeError Instr :=
  match (w.extractLsb' 25 2).toNat with
  | 0 => .ok (.lda64 (w.extractLsb' 7 6) (w.extractLsb' 13 6) (w.extractLsb' 29 3))
  | 1 => .ok (.lda32 (w.extractLsb' 7 6) (w.extractLsb' 13 6) (w.extractLsb' 29 3))
  | 2 => .ok (.stl64 (w.extractLsb' 13 6) (w.extractLsb' 19 6) (w.extractLsb' 29 3))
  | 3 => .ok (.stl32 (w.extractLsb' 13 6) (w.extractLsb' 19 6) (w.extractLsb' 29 3))
  | _ => .error .reservedMinor

/-- Major opcode 0x3C, format A (R58, R81, R82; R261, R262, R263, R264, R265, R266, R267). -/
noncomputable def decodeOp3C (w : BitVec 32) : Except DecodeError Instr :=
  match (w.extractLsb' 27 5).toNat with
  | 0 => .ok (.chbind (w.extractLsb' 7 3) (w.extractLsb' 13 6) (w.extractLsb' 19 6) (w.extractLsb' 25 2))
  | 1 => .ok (.chfree (w.extractLsb' 7 3) (w.extractLsb' 19 6) (w.extractLsb' 25 2))
  | 2 => .ok (.chcnt (w.extractLsb' 7 6) (w.extractLsb' 13 3) (w.extractLsb' 25 2))
  | 3 => .ok (.chspace (w.extractLsb' 7 6) (w.extractLsb' 13 3) (w.extractLsb' 25 2))
  | 4 => .ok (.chpeek (w.extractLsb' 7 6) (w.extractLsb' 13 3) (w.extractLsb' 19 6) (w.extractLsb' 25 2))
  | 5 => .ok (.chtry (w.extractLsb' 7 6) (w.extractLsb' 13 3) (w.extractLsb' 25 2))
  | 6 => .ok (.chput (w.extractLsb' 7 3) (w.extractLsb' 13 6) (w.extractLsb' 25 2))
  | 7 => .ok (.msend (w.extractLsb' 13 6) (w.extractLsb' 19 6) (w.extractLsb' 25 2))
  | _ => .error .reservedMinor

/-- Major opcode 0x40, format A (R58, R81, R82; R167, R168). -/
noncomputable def decodeOp40 (w : BitVec 32) : Except DecodeError Instr :=
  match (w.extractLsb' 27 5).toNat with
  | 0 => .ok (.shpLd (w.extractLsb' 7 4) (w.extractLsb' 13 6) (w.extractLsb' 25 2))
  | 1 => .ok (.shpSt (w.extractLsb' 7 4) (w.extractLsb' 13 6) (w.extractLsb' 25 2))
  | 2 => .ok (.shpGet (w.extractLsb' 7 6) (w.extractLsb' 13 4) (w.extractLsb' 19 6) (w.extractLsb' 25 2))
  | 3 => .ok (.shpSet (w.extractLsb' 7 4) (w.extractLsb' 13 6) (w.extractLsb' 19 6) (w.extractLsb' 25 2))
  | 4 => .ok (.shpAdv (w.extractLsb' 7 4) (w.extractLsb' 13 6) (w.extractLsb' 19 6) (w.extractLsb' 25 2))
  | 5 => .ok (.shpMv (w.extractLsb' 7 4) (w.extractLsb' 13 4) (w.extractLsb' 25 2))
  | _ => .error .reservedMinor

/-- Major opcode 0x41, format V (R58, R81, R82; R178, R192). -/
noncomputable def decodeOp41 (w : BitVec 32) : Except DecodeError Instr :=
  match (w.extractLsb' 27 5).toNat with
  | 0 => .ok (.vadd (w.extractLsb' 7 4) (w.extractLsb' 12 4) (w.extractLsb' 16 4) (w.extractLsb' 11 1))
  | 1 => .ok (.vsub (w.extractLsb' 7 4) (w.extractLsb' 12 4) (w.extractLsb' 16 4) (w.extractLsb' 11 1))
  | 2 => .ok (.vmul (w.extractLsb' 7 4) (w.extractLsb' 12 4) (w.extractLsb' 16 4) (w.extractLsb' 11 1))
  | 3 => .ok (.vfma (w.extractLsb' 7 4) (w.extractLsb' 12 4) (w.extractLsb' 16 4) (w.extractLsb' 11 1))
  | 4 => .ok (.vmin (w.extractLsb' 7 4) (w.extractLsb' 12 4) (w.extractLsb' 16 4))
  | 5 => .ok (.vmax (w.extractLsb' 7 4) (w.extractLsb' 12 4) (w.extractLsb' 16 4))
  | 6 => .ok (.vabs (w.extractLsb' 7 4) (w.extractLsb' 12 4) (w.extractLsb' 11 1))
  | 7 => .ok (.vneg (w.extractLsb' 7 4) (w.extractLsb' 12 4) (w.extractLsb' 11 1))
  | 8 => .ok (.vrcp (w.extractLsb' 7 4) (w.extractLsb' 12 4))
  | 9 => .ok (.vrsqrt (w.extractLsb' 7 4) (w.extractLsb' 12 4))
  | 10 => .ok (.vexp2 (w.extractLsb' 7 4) (w.extractLsb' 12 4))
  | 11 => .ok (.vlog2 (w.extractLsb' 7 4) (w.extractLsb' 12 4))
  | 12 => .ok (.vtanh (w.extractLsb' 7 4) (w.extractLsb' 12 4))
  | 13 => .ok (.vsig (w.extractLsb' 7 4) (w.extractLsb' 12 4))
  | _ => .error .reservedMinor

/-- Major opcode 0x42, format V (R58, R81, R82; R179). -/
noncomputable def decodeOp42 (w : BitVec 32) : Except DecodeError Instr :=
  match (w.extractLsb' 27 5).toNat with
  | 0 => .ok (.vaddi (w.extractLsb' 7 4) (w.extractLsb' 12 4) (w.extractLsb' 20 6) (w.extractLsb' 11 1))
  | 1 => .ok (.vsubi (w.extractLsb' 7 4) (w.extractLsb' 12 4) (w.extractLsb' 20 6) (w.extractLsb' 11 1))
  | 2 => .ok (.vmuli (w.extractLsb' 7 4) (w.extractLsb' 12 4) (w.extractLsb' 20 6) (w.extractLsb' 11 1))
  | 3 => .ok (.vand (w.extractLsb' 7 4) (w.extractLsb' 12 4) (w.extractLsb' 16 4))
  | 4 => .ok (.vor (w.extractLsb' 7 4) (w.extractLsb' 12 4) (w.extractLsb' 16 4))
  | 5 => .ok (.vxor (w.extractLsb' 7 4) (w.extractLsb' 12 4) (w.extractLsb' 16 4))
  | 6 => .ok (.vshl (w.extractLsb' 7 4) (w.extractLsb' 12 4) (w.extractLsb' 20 6))
  | 7 => .ok (.vshr (w.extractLsb' 7 4) (w.extractLsb' 12 4) (w.extractLsb' 20 6))
  | 8 => .ok (.vsra (w.extractLsb' 7 4) (w.extractLsb' 12 4) (w.extractLsb' 20 6))
  | 9 => .ok (.vsat (w.extractLsb' 7 4) (w.extractLsb' 12 4) (w.extractLsb' 20 6))
  | _ => .error .reservedMinor

/-- Major opcode 0x43, format V (R58, R81, R82; R180). -/
noncomputable def decodeOp43 (w : BitVec 32) : Except DecodeError Instr :=
  match (w.extractLsb' 27 5).toNat with
  | 0 => .ok (.vcmpEq (w.extractLsb' 7 4) (w.extractLsb' 12 4) (w.extractLsb' 16 4))
  | 1 => .ok (.vcmpLt (w.extractLsb' 7 4) (w.extractLsb' 12 4) (w.extractLsb' 16 4))
  | 2 => .ok (.vcmpLe (w.extractLsb' 7 4) (w.extractLsb' 12 4) (w.extractLsb' 16 4))
  | 3 => .ok (.vsel (w.extractLsb' 7 4) (w.extractLsb' 12 4) (w.extractLsb' 16 4))
  | 4 => .ok (.vfill (w.extractLsb' 7 4) (w.extractLsb' 20 6))
  | 5 => .ok (.vcopy (w.extractLsb' 7 4) (w.extractLsb' 12 4))
  | 6 => .ok (.viota (w.extractLsb' 7 4) (w.extractLsb' 20 6))
  | 7 => .ok (.vclamp (w.extractLsb' 7 4) (w.extractLsb' 12 4) (w.extractLsb' 20 6))
  | _ => .error .reservedMinor

/-- Major opcode 0x44, format V (R58, R81, R82; R181, R182). -/
noncomputable def decodeOp44 (w : BitVec 32) : Except DecodeError Instr :=
  match (w.extractLsb' 27 5).toNat with
  | 0 => .ok (.vrsum (w.extractLsb' 7 4) (w.extractLsb' 12 4) (w.extractLsb' 20 6))
  | 1 => .ok (.vrmax (w.extractLsb' 7 4) (w.extractLsb' 12 4) (w.extractLsb' 20 6))
  | 2 => .ok (.vrmin (w.extractLsb' 7 4) (w.extractLsb' 12 4) (w.extractLsb' 20 6))
  | 3 => .ok (.vrargmax (w.extractLsb' 7 4) (w.extractLsb' 12 4) (w.extractLsb' 20 6))
  | 4 => .ok (.vrsumsq (w.extractLsb' 7 4) (w.extractLsb' 12 4) (w.extractLsb' 20 6))
  | _ => .error .reservedMinor

/-- Major opcode 0x45, format V (R58, R81, R82; R183, R184, R185). -/
noncomputable def decodeOp45 (w : BitVec 32) : Except DecodeError Instr :=
  match (w.extractLsb' 27 5).toNat with
  | 0 => .ok (.vcvt (w.extractLsb' 7 4) (w.extractLsb' 12 4) (w.extractLsb' 26 1) (w.extractLsb' 11 1))
  | 1 => .ok (.vquant (w.extractLsb' 7 4) (w.extractLsb' 12 4) (w.extractLsb' 26 1))
  | 2 => .ok (.vdequant (w.extractLsb' 7 4) (w.extractLsb' 12 4))
  | _ => .error .reservedMinor

/-- Major opcode 0x46, format V (R58, R81, R82; R186). -/
noncomputable def decodeOp46 (w : BitVec 32) : Except DecodeError Instr :=
  match (w.extractLsb' 27 5).toNat with
  | 0 => .ok (.vgath (w.extractLsb' 7 4) (w.extractLsb' 12 4) (w.extractLsb' 16 4))
  | 1 => .ok (.vscat (w.extractLsb' 7 4) (w.extractLsb' 12 4) (w.extractLsb' 16 4))
  | 2 => .ok (.vscatAdd (w.extractLsb' 7 4) (w.extractLsb' 12 4) (w.extractLsb' 16 4) (w.extractLsb' 11 1))
  | _ => .error .reservedMinor

/-- Major opcode 0x47, format A (R58, R81, R82; R188, R189). -/
noncomputable def decodeOp47 (w : BitVec 32) : Except DecodeError Instr :=
  match (w.extractLsb' 27 5).toNat with
  | 0 => .ok (.vloop (w.extractLsb' 13 6) (w.extractLsb' 19 6) (w.extractLsb' 25 2))
  | 1 => .ok (.vwait (w.extractLsb' 25 2))
  | 2 => .ok (.vfence (w.extractLsb' 25 2))
  | 3 => .ok (.vstat (w.extractLsb' 7 6) (w.extractLsb' 25 2))
  | 4 => .ok (.vcancel (w.extractLsb' 7 6) (w.extractLsb' 25 2))
  | _ => .error .reservedMinor

/-- Major opcode 0x48, format V (R58, R81, R82; R187). -/
noncomputable def decodeOp48 (w : BitVec 32) : Except DecodeError Instr :=
  match (w.extractLsb' 27 5).toNat with
  | 0 => .ok (.vdotF4f4 (w.extractLsb' 7 4) (w.extractLsb' 12 4) (w.extractLsb' 16 4) (w.extractLsb' 20 6))
  | 1 => .ok (.vdotaF4f4 (w.extractLsb' 7 4) (w.extractLsb' 12 4) (w.extractLsb' 16 4) (w.extractLsb' 20 6))
  | _ => .error .reservedMinor

/-- Major opcode 0x49, format V (R58, R81, R82; R187). -/
noncomputable def decodeOp49 (w : BitVec 32) : Except DecodeError Instr :=
  match (w.extractLsb' 27 5).toNat with
  | 0 => .ok (.vdotF6f6 (w.extractLsb' 7 4) (w.extractLsb' 12 4) (w.extractLsb' 16 4) (w.extractLsb' 20 6))
  | 1 => .ok (.vdotaF6f6 (w.extractLsb' 7 4) (w.extractLsb' 12 4) (w.extractLsb' 16 4) (w.extractLsb' 20 6))
  | _ => .error .reservedMinor

/-- Major opcode 0x4A, format V (R58, R81, R82; R187). -/
noncomputable def decodeOp4A (w : BitVec 32) : Except DecodeError Instr :=
  match (w.extractLsb' 27 5).toNat with
  | 0 => .ok (.vdotF6f4 (w.extractLsb' 7 4) (w.extractLsb' 12 4) (w.extractLsb' 16 4) (w.extractLsb' 20 6))
  | 1 => .ok (.vdotaF6f4 (w.extractLsb' 7 4) (w.extractLsb' 12 4) (w.extractLsb' 16 4) (w.extractLsb' 20 6))
  | _ => .error .reservedMinor

/-- Major opcode 0x4B, format V (R58, R81, R82; R187). -/
noncomputable def decodeOp4B (w : BitVec 32) : Except DecodeError Instr :=
  match (w.extractLsb' 27 5).toNat with
  | 0 => .ok (.vdotE4e4 (w.extractLsb' 7 4) (w.extractLsb' 12 4) (w.extractLsb' 16 4) (w.extractLsb' 20 6))
  | 1 => .ok (.vdotaE4e4 (w.extractLsb' 7 4) (w.extractLsb' 12 4) (w.extractLsb' 16 4) (w.extractLsb' 20 6))
  | _ => .error .reservedMinor

/-- Major opcode 0x4C, format V (R58, R81, R82; R187). -/
noncomputable def decodeOp4C (w : BitVec 32) : Except DecodeError Instr :=
  match (w.extractLsb' 27 5).toNat with
  | 0 => .ok (.vdotE5e5 (w.extractLsb' 7 4) (w.extractLsb' 12 4) (w.extractLsb' 16 4) (w.extractLsb' 20 6))
  | 1 => .ok (.vdotaE5e5 (w.extractLsb' 7 4) (w.extractLsb' 12 4) (w.extractLsb' 16 4) (w.extractLsb' 20 6))
  | _ => .error .reservedMinor

/-- Major opcode 0x4D, format V (R58, R81, R82; R187). -/
noncomputable def decodeOp4D (w : BitVec 32) : Except DecodeError Instr :=
  match (w.extractLsb' 27 5).toNat with
  | 0 => .ok (.vdotI8i8 (w.extractLsb' 7 4) (w.extractLsb' 12 4) (w.extractLsb' 16 4))
  | 1 => .ok (.vdotaI8i8 (w.extractLsb' 7 4) (w.extractLsb' 12 4) (w.extractLsb' 16 4))
  | _ => .error .reservedMinor

/-- Major opcode 0x4E, format V (R58, R81, R82; R187). -/
noncomputable def decodeOp4E (w : BitVec 32) : Except DecodeError Instr :=
  match (w.extractLsb' 27 5).toNat with
  | 0 => .ok (.vdotI8t2 (w.extractLsb' 7 4) (w.extractLsb' 12 4) (w.extractLsb' 16 4))
  | 1 => .ok (.vdotaI8t2 (w.extractLsb' 7 4) (w.extractLsb' 12 4) (w.extractLsb' 16 4))
  | _ => .error .reservedMinor

/-- Major opcode 0x4F, format V (R58, R81, R82; R187). -/
noncomputable def decodeOp4F (w : BitVec 32) : Except DecodeError Instr :=
  match (w.extractLsb' 27 5).toNat with
  | 0 => .ok (.vdotBfbf (w.extractLsb' 7 4) (w.extractLsb' 12 4) (w.extractLsb' 16 4))
  | 1 => .ok (.vdotaBfbf (w.extractLsb' 7 4) (w.extractLsb' 12 4) (w.extractLsb' 16 4))
  | _ => .error .reservedMinor

/-- Major opcode 0x50, format A (R58, R81, R82; R204, R205, R206, R207, R208, R209, R210). -/
noncomputable def decodeOp50 (w : BitVec 32) : Except DecodeError Instr :=
  match (w.extractLsb' 27 5).toNat with
  | 0 => .ok (.mlease (w.extractLsb' 7 6) (w.extractLsb' 25 2))
  | 1 => .ok (.mwait (w.extractLsb' 25 2))
  | 2 => .ok (.mrelease (w.extractLsb' 25 2))
  | 3 => .ok (.mstat (w.extractLsb' 7 6) (w.extractLsb' 25 2))
  | 4 => .ok (.mmap (w.extractLsb' 13 6) (w.extractLsb' 19 6) (w.extractLsb' 25 2))
  | 5 => .ok (.mepi (w.extractLsb' 13 6) (w.extractLsb' 25 2))
  | 6 => .ok (.mdrain (w.extractLsb' 13 6) (w.extractLsb' 25 2))
  | 7 => .ok (.mclear (w.extractLsb' 13 6) (w.extractLsb' 25 2))
  | 8 => .ok (.mflags (w.extractLsb' 7 6) (w.extractLsb' 13 6) (w.extractLsb' 25 2))
  | _ => .error .reservedMinor

/-- Major opcode 0x51, format V (R58, R81, R82; R216). -/
noncomputable def decodeOp51 (w : BitVec 32) : Except DecodeError Instr :=
  match (w.extractLsb' 27 5).toNat with
  | 0 => .ok (.mtileF4f4 (w.extractLsb' 12 4) (w.extractLsb' 16 4) (w.extractLsb' 20 6) (w.extractLsb' 11 1))
  | 1 => .ok (.mtileoF4f4 (w.extractLsb' 12 4) (w.extractLsb' 16 4) (w.extractLsb' 20 6) (w.extractLsb' 11 1))
  | _ => .error .reservedMinor

/-- Major opcode 0x52, format V (R58, R81, R82; R216). -/
noncomputable def decodeOp52 (w : BitVec 32) : Except DecodeError Instr :=
  match (w.extractLsb' 27 5).toNat with
  | 0 => .ok (.mtileF6f6 (w.extractLsb' 12 4) (w.extractLsb' 16 4) (w.extractLsb' 20 6) (w.extractLsb' 11 1))
  | 1 => .ok (.mtileoF6f6 (w.extractLsb' 12 4) (w.extractLsb' 16 4) (w.extractLsb' 20 6) (w.extractLsb' 11 1))
  | _ => .error .reservedMinor

/-- Major opcode 0x53, format V (R58, R81, R82; R216). -/
noncomputable def decodeOp53 (w : BitVec 32) : Except DecodeError Instr :=
  match (w.extractLsb' 27 5).toNat with
  | 0 => .ok (.mtileF6f4 (w.extractLsb' 12 4) (w.extractLsb' 16 4) (w.extractLsb' 20 6) (w.extractLsb' 11 1))
  | 1 => .ok (.mtileoF6f4 (w.extractLsb' 12 4) (w.extractLsb' 16 4) (w.extractLsb' 20 6) (w.extractLsb' 11 1))
  | _ => .error .reservedMinor

/-- Major opcode 0x54, format V (R58, R81, R82; R216). -/
noncomputable def decodeOp54 (w : BitVec 32) : Except DecodeError Instr :=
  match (w.extractLsb' 27 5).toNat with
  | 0 => .ok (.mtileE4e4 (w.extractLsb' 12 4) (w.extractLsb' 16 4) (w.extractLsb' 20 6) (w.extractLsb' 11 1))
  | 1 => .ok (.mtileoE4e4 (w.extractLsb' 12 4) (w.extractLsb' 16 4) (w.extractLsb' 20 6) (w.extractLsb' 11 1))
  | _ => .error .reservedMinor

/-- Major opcode 0x55, format V (R58, R81, R82; R216). -/
noncomputable def decodeOp55 (w : BitVec 32) : Except DecodeError Instr :=
  match (w.extractLsb' 27 5).toNat with
  | 0 => .ok (.mtileE5e5 (w.extractLsb' 12 4) (w.extractLsb' 16 4) (w.extractLsb' 20 6) (w.extractLsb' 11 1))
  | 1 => .ok (.mtileoE5e5 (w.extractLsb' 12 4) (w.extractLsb' 16 4) (w.extractLsb' 20 6) (w.extractLsb' 11 1))
  | _ => .error .reservedMinor

/-- Major opcode 0x56, format V (R58, R81, R82; R216). -/
noncomputable def decodeOp56 (w : BitVec 32) : Except DecodeError Instr :=
  match (w.extractLsb' 27 5).toNat with
  | 0 => .ok (.mtileI8i8 (w.extractLsb' 12 4) (w.extractLsb' 16 4) (w.extractLsb' 20 6) (w.extractLsb' 11 1))
  | 1 => .ok (.mtileoI8i8 (w.extractLsb' 12 4) (w.extractLsb' 16 4) (w.extractLsb' 20 6) (w.extractLsb' 11 1))
  | _ => .error .reservedMinor

/-- Major opcode 0x57, format V (R58, R81, R82; R216). -/
noncomputable def decodeOp57 (w : BitVec 32) : Except DecodeError Instr :=
  match (w.extractLsb' 27 5).toNat with
  | 0 => .ok (.mtileI8t2 (w.extractLsb' 12 4) (w.extractLsb' 16 4) (w.extractLsb' 20 6) (w.extractLsb' 11 1))
  | 1 => .ok (.mtileoI8t2 (w.extractLsb' 12 4) (w.extractLsb' 16 4) (w.extractLsb' 20 6) (w.extractLsb' 11 1))
  | _ => .error .reservedMinor

/-- Major opcode 0x58, format V (R58, R81, R82; R216). -/
noncomputable def decodeOp58 (w : BitVec 32) : Except DecodeError Instr :=
  match (w.extractLsb' 27 5).toNat with
  | 0 => .ok (.mtileBfbf (w.extractLsb' 12 4) (w.extractLsb' 16 4) (w.extractLsb' 20 6) (w.extractLsb' 11 1))
  | 1 => .ok (.mtileoBfbf (w.extractLsb' 12 4) (w.extractLsb' 16 4) (w.extractLsb' 20 6) (w.extractLsb' 11 1))
  | _ => .error .reservedMinor

/-- Major opcode 0x60, format H (R58, R81, R82; R240, R241, R242, R244, R245, R246). -/
noncomputable def decodeOp60 (w : BitVec 32) : Except DecodeError Instr :=
  match (w.extractLsb' 27 5).toNat with
  | 0 => .ok (.hbind (w.extractLsb' 10 3) (w.extractLsb' 13 3) (w.extractLsb' 16 3))
  | 1 => .ok (.hperm (w.extractLsb' 10 3) (w.extractLsb' 13 3) (w.extractLsb' 19 6))
  | 2 => .ok (.hbund (w.extractLsb' 13 3) (w.extractLsb' 19 6) (w.extractLsb' 25 2) (w.extractLsb' 7 1))
  | 3 => .ok (.hthr (w.extractLsb' 10 3) (w.extractLsb' 16 3) (w.extractLsb' 25 2) (w.extractLsb' 8 2) (w.extractLsb' 7 1))
  | 4 => if w.extractLsb' 25 2 = 0#2 then .ok (.hclrH (w.extractLsb' 10 3)) else .ok (.hclrY (w.extractLsb' 7 1))
  | 5 => if w.extractLsb' 25 2 = 0#2 then .ok (.hldH (w.extractLsb' 10 3) (w.extractLsb' 19 6)) else .ok (.hldY (w.extractLsb' 19 6) (w.extractLsb' 7 1))
  | 6 => if w.extractLsb' 25 2 = 0#2 then .ok (.hstH (w.extractLsb' 13 3) (w.extractLsb' 19 6)) else .ok (.hstY (w.extractLsb' 19 6) (w.extractLsb' 7 1))
  | 7 => .ok (.hmv (w.extractLsb' 10 3) (w.extractLsb' 13 3))
  | 8 => .ok (.hham (w.extractLsb' 13 3) (w.extractLsb' 16 3) (w.extractLsb' 19 6))
  | 9 => .ok (.hpopc (w.extractLsb' 13 3) (w.extractLsb' 19 6))
  | 10 => .ok (.hnot (w.extractLsb' 10 3) (w.extractLsb' 13 3))
  | 11 => .ok (.hgetb (w.extractLsb' 13 3) (w.extractLsb' 19 6) ((w.extractLsb' 25 2) ++ (w.extractLsb' 16 3)))
  | _ => .error .reservedMinor

/-- Major opcode 0x61, format V (R58, R81, R82; R249). -/
noncomputable def decodeOp61 (w : BitVec 32) : Except DecodeError Instr :=
  match (w.extractLsb' 27 5).toNat with
  | 0 => .ok (.hsrch (w.extractLsb' 12 4) (w.extractLsb' 16 3) (w.extractLsb' 20 6))
  | 1 => .ok (.hsrchk (w.extractLsb' 12 4) (w.extractLsb' 16 3) (w.extractLsb' 20 6))
  | 2 => .ok (.hsrcht (w.extractLsb' 7 4) (w.extractLsb' 12 4) (w.extractLsb' 16 3) (w.extractLsb' 20 6))
  | _ => .error .reservedMinor

/-- The row that the opcode and the minor field of a word select (R81, R82, R83, R84). -/
noncomputable def decodeRaw (w : BitVec 32) : Except DecodeError Instr :=
  match (w.extractLsb' 0 7).toNat with
  | 0x01 => decodeOp01 w
  | 0x02 => decodeOp02 w
  | 0x03 => decodeOp03 w
  | 0x04 => decodeOp04 w
  | 0x05 => decodeOp05 w
  | 0x06 => decodeOp06 w
  | 0x07 => decodeOp07 w
  | 0x08 => decodeOp08 w
  | 0x09 => decodeOp09 w
  | 0x0A => decodeOp0A w
  | 0x0B => decodeOp0B w
  | 0x0C => decodeOp0C w
  | 0x0D => decodeOp0D w
  | 0x0E => decodeOp0E w
  | 0x0F => decodeOp0F w
  | 0x10 => decodeOp10 w
  | 0x11 => decodeOp11 w
  | 0x12 => decodeOp12 w
  | 0x13 => decodeOp13 w
  | 0x14 => decodeOp14 w
  | 0x15 => decodeOp15 w
  | 0x16 => decodeOp16 w
  | 0x17 => decodeOp17 w
  | 0x18 => decodeOp18 w
  | 0x19 => decodeOp19 w
  | 0x1A => decodeOp1A w
  | 0x1B => decodeOp1B w
  | 0x1C => decodeOp1C w
  | 0x1D => decodeOp1D w
  | 0x1E => decodeOp1E w
  | 0x1F => decodeOp1F w
  | 0x20 => decodeOp20 w
  | 0x21 => decodeOp21 w
  | 0x22 => decodeOp22 w
  | 0x23 => decodeOp23 w
  | 0x24 => decodeOp24 w
  | 0x25 => decodeOp25 w
  | 0x26 => decodeOp26 w
  | 0x27 => decodeOp27 w
  | 0x28 => decodeOp28 w
  | 0x29 => decodeOp29 w
  | 0x2A => decodeOp2A w
  | 0x2B => decodeOp2B w
  | 0x2C => decodeOp2C w
  | 0x2D => decodeOp2D w
  | 0x2E => decodeOp2E w
  | 0x2F => decodeOp2F w
  | 0x30 => decodeOp30 w
  | 0x31 => decodeOp31 w
  | 0x32 => decodeOp32 w
  | 0x33 => decodeOp33 w
  | 0x34 => decodeOp34 w
  | 0x35 => decodeOp35 w
  | 0x36 => decodeOp36 w
  | 0x37 => decodeOp37 w
  | 0x38 => decodeOp38 w
  | 0x39 => decodeOp39 w
  | 0x3A => decodeOp3A w
  | 0x3B => decodeOp3B w
  | 0x3C => decodeOp3C w
  | 0x40 => decodeOp40 w
  | 0x41 => decodeOp41 w
  | 0x42 => decodeOp42 w
  | 0x43 => decodeOp43 w
  | 0x44 => decodeOp44 w
  | 0x45 => decodeOp45 w
  | 0x46 => decodeOp46 w
  | 0x47 => decodeOp47 w
  | 0x48 => decodeOp48 w
  | 0x49 => decodeOp49 w
  | 0x4A => decodeOp4A w
  | 0x4B => decodeOp4B w
  | 0x4C => decodeOp4C w
  | 0x4D => decodeOp4D w
  | 0x4E => decodeOp4E w
  | 0x4F => decodeOp4F w
  | 0x50 => decodeOp50 w
  | 0x51 => decodeOp51 w
  | 0x52 => decodeOp52 w
  | 0x53 => decodeOp53 w
  | 0x54 => decodeOp54 w
  | 0x55 => decodeOp55 w
  | 0x56 => decodeOp56 w
  | 0x57 => decodeOp57 w
  | 0x58 => decodeOp58 w
  | 0x60 => decodeOp60 w
  | 0x61 => decodeOp61 w
  | _ => .error .reservedOpcode

/-- The word of an instruction (R58, R82 to R84); the word 0 for an event, which has none. -/
def encode : Instr → BitVec 32
  | .add d a b sc => encA 0#5 sc b a d 1#7
  | .sub d a b sc => encA 1#5 sc b a d 1#7
  | .and d a b sc => encA 2#5 sc b a d 1#7
  | .or d a b sc => encA 3#5 sc b a d 1#7
  | .xor d a b sc => encA 4#5 sc b a d 1#7
  | .andn d a b sc => encA 5#5 sc b a d 1#7
  | .orn d a b sc => encA 6#5 sc b a d 1#7
  | .sll d a b sc => encA 7#5 sc b a d 1#7
  | .srl d a b sc => encA 8#5 sc b a d 1#7
  | .sra d a b sc => encA 9#5 sc b a d 1#7
  | .rol d a b sc => encA 10#5 sc b a d 1#7
  | .ror d a b sc => encA 11#5 sc b a d 1#7
  | .slt d a b sc => encA 12#5 sc b a d 1#7
  | .sltn d a b sc => encA 13#5 sc b a d 1#7
  | .seq d a b sc => encA 14#5 sc b a d 1#7
  | .sne d a b sc => encA 15#5 sc b a d 1#7
  | .min d a b sc => encA 16#5 sc b a d 1#7
  | .max d a b sc => encA 17#5 sc b a d 1#7
  | .minn d a b sc => encA 18#5 sc b a d 1#7
  | .maxn d a b sc => encA 19#5 sc b a d 1#7
  | .clz d a sc => encA 20#5 sc 0#6 a d 1#7
  | .ctz d a sc => encA 21#5 sc 0#6 a d 1#7
  | .popc d a sc => encA 22#5 sc 0#6 a d 1#7
  | .brev d a sc => encA 23#5 sc 0#6 a d 1#7
  | .bswap d a sc => encA 24#5 sc 0#6 a d 1#7
  | .sxt d a b sc => encA 25#5 sc b a d 1#7
  | .zxt d a b sc => encA 26#5 sc b a d 1#7
  | .addw d a b sc => encA 27#5 sc b a d 1#7
  | .subw d a b sc => encA 28#5 sc b a d 1#7
  | .mul d a b sc => encA 0#5 sc b a d 2#7
  | .mulh d a b sc => encA 1#5 sc b a d 2#7
  | .mulhn d a b sc => encA 2#5 sc b a d 2#7
  | .mulhsn d a b sc => encA 3#5 sc b a d 2#7
  | .div d a b sc => encA 4#5 sc b a d 2#7
  | .divn d a b sc => encA 5#5 sc b a d 2#7
  | .rem d a b sc => encA 6#5 sc b a d 2#7
  | .remn d a b sc => encA 7#5 sc b a d 2#7
  | .mulw d a b sc => encA 8#5 sc b a d 2#7
  | .divw d a b sc => encA 9#5 sc b a d 2#7
  | .divnw d a b sc => encA 10#5 sc b a d 2#7
  | .remw d a b sc => encA 11#5 sc b a d 2#7
  | .remnw d a b sc => encA 12#5 sc b a d 2#7
  | .addi d a imm => encI imm a d 3#7
  | .andi d a imm => encI imm a d 4#7
  | .ori d a imm => encI imm a d 5#7
  | .xori d a imm => encI imm a d 6#7
  | .slti d a imm => encI imm a d 7#7
  | .sltni d a imm => encI imm a d 8#7
  | .slli d a imm => encI (0#7 ++ imm) a d 9#7
  | .srli d a imm => encI (0#7 ++ imm) a d 10#7
  | .srai d a imm => encI (0#7 ++ imm) a d 11#7
  | .addwi d a imm => encI imm a d 12#7
  | .lui d imm => encU imm d 13#7
  | .auipc d imm => encU imm d 14#7
  | .madd d a b c => encQ 0#1 c b a d 15#7
  | .msub d a b c => encQ 1#1 c b a d 15#7
  | .cbnd d a b sc => encA 0#5 sc b a d 16#7
  | .cbnde d a b sc => encA 1#5 sc b a d 16#7
  | .cperm d a b sc => encA 2#5 sc b a d 16#7
  | .cseta d a b sc => encA 3#5 sc b a d 16#7
  | .cadd d a b sc => encA 4#5 sc b a d 16#7
  | .cbase d a sc => encA 5#5 sc 0#6 a d 16#7
  | .clen d a sc => encA 6#5 sc 0#6 a d 16#7
  | .cperms d a sc => encA 7#5 sc 0#6 a d 16#7
  | .ctag d a sc => encA 8#5 sc 0#6 a d 16#7
  | .cclr d a sc => encA 9#5 sc 0#6 a d 16#7
  | .cmv d a sc => encA 10#5 sc 0#6 a d 16#7
  | .csub d a b sc => encA 11#5 sc b a d 16#7
  | .ctest d a b sc => encA 12#5 sc b a d 16#7
  | .caddi d a imm => encI imm a d 17#7
  | .cbndi d a imm => encI (0#1 ++ imm) a d 18#7
  | .ldI8 d a imm => encI imm a d 19#7
  | .ldN8 d a imm => encI imm a d 20#7
  | .ldI16 d a imm => encI imm a d 21#7
  | .ldN16 d a imm => encI imm a d 22#7
  | .ldI32 d a imm => encI imm a d 23#7
  | .ldN32 d a imm => encI imm a d 24#7
  | .ld64 d a imm => encI imm a d 25#7
  | .ld128 d a imm => encI imm a d 26#7
  | .st8 a b imm => encS ((imm.extractLsb' 6 7)) b a ((imm.extractLsb' 0 6)) 27#7
  | .st16 a b imm => encS ((imm.extractLsb' 6 7)) b a ((imm.extractLsb' 0 6)) 28#7
  | .st32 a b imm => encS ((imm.extractLsb' 6 7)) b a ((imm.extractLsb' 0 6)) 29#7
  | .st64 a b imm => encS ((imm.extractLsb' 6 7)) b a ((imm.extractLsb' 0 6)) 30#7
  | .st128 a b imm => encS ((imm.extractLsb' 6 7)) b a ((imm.extractLsb' 0 6)) 31#7
  | .ldbI d a b sc => encA 0#5 sc b a d 32#7
  | .ldbN d a b sc => encA 1#5 sc b a d 32#7
  | .ldbpI d a b sc => encA 2#5 sc b a d 32#7
  | .ldbpN d a b sc => encA 3#5 sc b a d 32#7
  | .stb d a b sc => encA 4#5 sc b a d 32#7
  | .stbp d a b sc => encA 5#5 sc b a d 32#7
  | .faddF32 d a b sc => encA 0#5 sc b a d 33#7
  | .fsubF32 d a b sc => encA 1#5 sc b a d 33#7
  | .fmulF32 d a b sc => encA 2#5 sc b a d 33#7
  | .fdivF32 d a b sc => encA 3#5 sc b a d 33#7
  | .fsqrtF32 d a sc => encA 4#5 sc 0#6 a d 33#7
  | .fminF32 d a b sc => encA 5#5 sc b a d 33#7
  | .fmaxF32 d a b sc => encA 6#5 sc b a d 33#7
  | .feqF32 d a b sc => encA 7#5 sc b a d 33#7
  | .fltF32 d a b sc => encA 8#5 sc b a d 33#7
  | .fleF32 d a b sc => encA 9#5 sc b a d 33#7
  | .fclassF32 d a sc => encA 10#5 sc 0#6 a d 33#7
  | .fsgnF32 d a b sc => encA 11#5 sc b a d 33#7
  | .fnegF32 d a sc => encA 12#5 sc 0#6 a d 33#7
  | .fabsF32 d a sc => encA 13#5 sc 0#6 a d 33#7
  | .fcvtF32I64 d a sc => encA 0#5 sc 0#6 a d 34#7
  | .fcvtF32N64 d a sc => encA 1#5 sc 0#6 a d 34#7
  | .fcvtI64F32 d a sc => encA 2#5 sc 0#6 a d 34#7
  | .fcvtN64F32 d a sc => encA 3#5 sc 0#6 a d 34#7
  | .fcvtF32Bf16 d a sc => encA 4#5 sc 0#6 a d 34#7
  | .fcvtBf16F32 d a sc => encA 5#5 sc 0#6 a d 34#7
  | .fcvtF32F16 d a sc => encA 6#5 sc 0#6 a d 34#7
  | .fcvtF16F32 d a sc => encA 7#5 sc 0#6 a d 34#7
  | .fcvtF32E8 d a sc => encA 8#5 sc 0#6 a d 34#7
  | .fcvtE8F32 d a sc => encA 9#5 sc 0#6 a d 34#7
  | .fmaddF32 d a b c => encQ 0#1 c b a d 35#7
  | .fmsubF32 d a b c => encQ 1#1 c b a d 35#7
  | .beq a b imm => encB imm b a 36#7
  | .bne a b imm => encB imm b a 37#7
  | .blt a b imm => encB imm b a 38#7
  | .bge a b imm => encB imm b a 39#7
  | .bltn a b imm => encB imm b a 40#7
  | .bgen a b imm => encB imm b a 41#7
  | .jal d imm => encU imm d 42#7
  | .jalr d a imm => encI imm a d 43#7
  | .rep a mask n stride => encI (stride ++ mask ++ n) a 0#6 44#7
  | .sget d imm => encI (0#1 ++ imm) 0#6 d 45#7
  | .sset a imm => encI (0#1 ++ imm) a 0#6 46#7
  | .sswap d a imm => encI (0#1 ++ imm) a d 47#7
  | .trap a sc => encA 0#5 sc 0#6 a 0#6 48#7
  | .brk sc => encA 1#5 sc 0#6 0#6 0#6 48#7
  | .rett sc => encA 2#5 sc 0#6 0#6 0#6 48#7
  | .ifence sc => encA 3#5 sc 0#6 0#6 0#6 48#7
  | .halt sc => encA 4#5 sc 0#6 0#6 0#6 48#7
  | .rdcyc d sc => encA 5#5 sc 0#6 0#6 d 48#7
  | .rdtime d sc => encA 6#5 sc 0#6 0#6 d 48#7
  | .rdret d sc => encA 7#5 sc 0#6 0#6 d 48#7
  | .xlpf a b sc => encA 8#5 sc b a 0#6 48#7
  | .pgprobe d a sc => encA 9#5 sc 0#6 a d 48#7
  | .atcinv d a b sc => encA 10#5 sc b a d 48#7
  | .spawn d a b sc => encA 0#5 sc b a d 49#7
  | .suspend sc => encA 1#5 sc 0#6 0#6 0#6 49#7
  | .yield sc => encA 2#5 sc 0#6 0#6 0#6 49#7
  | .retire sc => encA 3#5 sc 0#6 0#6 0#6 49#7
  | .wake d a sc => encA 4#5 sc 0#6 a d 49#7
  | .stid d sc => encA 5#5 sc 0#6 0#6 d 49#7
  | .setpri d a sc => encA 6#5 sc 0#6 a d 49#7
  | .sync d level sc => encA 0#5 sc (0#4 ++ level) 0#6 d 50#7
  | .xstart level sc => encA 1#5 sc (0#4 ++ level) 0#6 0#6 50#7
  | .xdone sc => encA 2#5 sc 0#6 0#6 0#6 50#7
  | .grank d level sc => encA 3#5 sc (0#3 ++ level) 0#6 d 50#7
  | .gsize d level sc => encA 4#5 sc (0#3 ++ level) 0#6 d 50#7
  | .gmember d a level sc => encA 5#5 sc (0#4 ++ level) a d 50#7
  | .xput a b c => encQ 0#1 c b a 0#6 51#7
  | .xget a b c => encQ 1#1 c b a 0#6 51#7
  | .evwait d a sc => encA 0#5 sc 0#6 a d 52#7
  | .evsig a b sc => encA 1#5 sc b a 0#6 52#7
  | .evsend a b sc => encA 2#5 sc b a 0#6 52#7
  | .barc d a b sc => encA 3#5 sc b a d 52#7
  | .bara d a sc => encA 4#5 sc 0#6 a d 52#7
  | .barw a b sc => encA 5#5 sc b a 0#6 52#7
  | .barrc d a sc => encA 6#5 sc 0#6 a d 52#7
  | .mtxlock a sc => encA 7#5 sc 0#6 a 0#6 52#7
  | .mtxfree d a sc => encA 8#5 sc 0#6 a d 52#7
  | .amoSwap d a b scope ord => encM scope ord 0#2 b a d 53#7
  | .amoAdd d a b scope ord => encM scope ord 1#2 b a d 53#7
  | .amoAnd d a b scope ord => encM scope ord 2#2 b a d 53#7
  | .amoOr d a b scope ord => encM scope ord 3#2 b a d 53#7
  | .amoXor d a b scope ord => encM scope ord 0#2 b a d 54#7
  | .amoMin d a b scope ord => encM scope ord 1#2 b a d 54#7
  | .amoMax d a b scope ord => encM scope ord 2#2 b a d 54#7
  | .amoMinn d a b scope ord => encM scope ord 3#2 b a d 54#7
  | .amoMaxn d a b scope ord => encM scope ord 0#2 b a d 55#7
  | .amoFaddF32 d a b scope ord => encM scope ord 1#2 b a d 55#7
  | .amoFminF32 d a b scope ord => encM scope ord 2#2 b a d 55#7
  | .amoFmaxF32 d a b scope ord => encM scope ord 3#2 b a d 55#7
  | .redAdd a b scope ord => encM scope ord 0#2 b a 0#6 56#7
  | .redFaddF32 a b scope ord => encM scope ord 1#2 b a 0#6 56#7
  | .redMin a b scope ord => encM scope ord 2#2 b a 0#6 56#7
  | .redMax a b scope ord => encM scope ord 3#2 b a 0#6 56#7
  | .cas64 d a b scope ord => encM scope ord 0#2 b a d 57#7
  | .cas128 d a b scope ord => encM scope ord 1#2 b a d 57#7
  | .waitv64 d a b scope ord => encM scope (0#1 ++ ord) 2#2 b a d 57#7
  | .waitv32 d a b scope ord => encM scope (0#1 ++ ord) 3#2 b a d 57#7
  | .fence scope => encM scope 0#2 0#2 0#6 0#6 0#6 58#7
  | .fenceAcq scope => encM scope 0#2 1#2 0#6 0#6 0#6 58#7
  | .fenceRel scope => encM scope 0#2 2#2 0#6 0#6 0#6 58#7
  | .fenceWin => encM 4#3 0#2 3#2 0#6 0#6 0#6 58#7
  | .lda64 d a scope => encM scope 0#2 0#2 0#6 a d 59#7
  | .lda32 d a scope => encM scope 0#2 1#2 0#6 a d 59#7
  | .stl64 a b scope => encM scope 0#2 2#2 b a 0#6 59#7
  | .stl32 a b scope => encM scope 0#2 3#2 b a 0#6 59#7
  | .chbind d a b sc => encA 0#5 sc b a (7#3 ++ d) 60#7
  | .chfree d b sc => encA 1#5 sc b 0#6 (7#3 ++ d) 60#7
  | .chcnt d a sc => encA 2#5 sc 0#6 (7#3 ++ a) d 60#7
  | .chspace d a sc => encA 3#5 sc 0#6 (7#3 ++ a) d 60#7
  | .chpeek d a b sc => encA 4#5 sc b (7#3 ++ a) d 60#7
  | .chtry d a sc => encA 5#5 sc 0#6 (7#3 ++ a) d 60#7
  | .chput d a sc => encA 6#5 sc 0#6 a (7#3 ++ d) 60#7
  | .msend a b sc => encA 7#5 sc b a 0#6 60#7
  | .shpLd d a sc => encA 0#5 sc 0#6 a (0#2 ++ d) 64#7
  | .shpSt d a sc => encA 1#5 sc 0#6 a (0#2 ++ d) 64#7
  | .shpGet d a b sc => encA 2#5 sc b (0#2 ++ a) d 64#7
  | .shpSet d a b sc => encA 3#5 sc b a (0#2 ++ d) 64#7
  | .shpAdv d a b sc => encA 4#5 sc b a (0#2 ++ d) 64#7
  | .shpMv d a sc => encA 5#5 sc 0#6 (0#2 ++ a) (0#2 ++ d) 64#7
  | .vadd d a b k => encV 0#5 0#1 0#6 b a k d 65#7
  | .vsub d a b k => encV 1#5 0#1 0#6 b a k d 65#7
  | .vmul d a b k => encV 2#5 0#1 0#6 b a k d 65#7
  | .vfma d a b k => encV 3#5 0#1 0#6 b a k d 65#7
  | .vmin d a b => encV 4#5 0#1 0#6 b a 0#1 d 65#7
  | .vmax d a b => encV 5#5 0#1 0#6 b a 0#1 d 65#7
  | .vabs d a k => encV 6#5 0#1 0#6 0#4 a k d 65#7
  | .vneg d a k => encV 7#5 0#1 0#6 0#4 a k d 65#7
  | .vrcp d a => encV 8#5 0#1 0#6 0#4 a 0#1 d 65#7
  | .vrsqrt d a => encV 9#5 0#1 0#6 0#4 a 0#1 d 65#7
  | .vexp2 d a => encV 10#5 0#1 0#6 0#4 a 0#1 d 65#7
  | .vlog2 d a => encV 11#5 0#1 0#6 0#4 a 0#1 d 65#7
  | .vtanh d a => encV 12#5 0#1 0#6 0#4 a 0#1 d 65#7
  | .vsig d a => encV 13#5 0#1 0#6 0#4 a 0#1 d 65#7
  | .vaddi d a g k => encV 0#5 0#1 g 0#4 a k d 66#7
  | .vsubi d a g k => encV 1#5 0#1 g 0#4 a k d 66#7
  | .vmuli d a g k => encV 2#5 0#1 g 0#4 a k d 66#7
  | .vand d a b => encV 3#5 0#1 0#6 b a 0#1 d 66#7
  | .vor d a b => encV 4#5 0#1 0#6 b a 0#1 d 66#7
  | .vxor d a b => encV 5#5 0#1 0#6 b a 0#1 d 66#7
  | .vshl d a g => encV 6#5 0#1 g 0#4 a 0#1 d 66#7
  | .vshr d a g => encV 7#5 0#1 g 0#4 a 0#1 d 66#7
  | .vsra d a g => encV 8#5 0#1 g 0#4 a 0#1 d 66#7
  | .vsat d a g => encV 9#5 0#1 g 0#4 a 0#1 d 66#7
  | .vcmpEq d a b => encV 0#5 0#1 0#6 b a 0#1 d 67#7
  | .vcmpLt d a b => encV 1#5 0#1 0#6 b a 0#1 d 67#7
  | .vcmpLe d a b => encV 2#5 0#1 0#6 b a 0#1 d 67#7
  | .vsel d a b => encV 3#5 0#1 0#6 b a 0#1 d 67#7
  | .vfill d g => encV 4#5 0#1 g 0#4 0#4 0#1 d 67#7
  | .vcopy d a => encV 5#5 0#1 0#6 0#4 a 0#1 d 67#7
  | .viota d g => encV 6#5 0#1 g 0#4 0#4 0#1 d 67#7
  | .vclamp d a g => encV 7#5 0#1 g 0#4 a 0#1 d 67#7
  | .vrsum d a g => encV 0#5 0#1 g 0#4 a 0#1 d 68#7
  | .vrmax d a g => encV 1#5 0#1 g 0#4 a 0#1 d 68#7
  | .vrmin d a g => encV 2#5 0#1 g 0#4 a 0#1 d 68#7
  | .vrargmax d a g => encV 3#5 0#1 g 0#4 a 0#1 d 68#7
  | .vrsumsq d a g => encV 4#5 0#1 g 0#4 a 0#1 d 68#7
  | .vcvt d a o k => encV 0#5 o 0#6 0#4 a k d 69#7
  | .vquant d a o => encV 1#5 o 0#6 0#4 a 0#1 d 69#7
  | .vdequant d a => encV 2#5 0#1 0#6 0#4 a 0#1 d 69#7
  | .vgath d a b => encV 0#5 0#1 0#6 b a 0#1 d 70#7
  | .vscat d a b => encV 1#5 0#1 0#6 b a 0#1 d 70#7
  | .vscatAdd d a b k => encV 2#5 0#1 0#6 b a k d 70#7
  | .vloop a b sc => encA 0#5 sc b a 0#6 71#7
  | .vwait sc => encA 1#5 sc 0#6 0#6 0#6 71#7
  | .vfence sc => encA 2#5 sc 0#6 0#6 0#6 71#7
  | .vstat d sc => encA 3#5 sc 0#6 0#6 d 71#7
  | .vcancel d sc => encA 4#5 sc 0#6 0#6 d 71#7
  | .vdotF4f4 d a b g => encV 0#5 0#1 g b a 0#1 d 72#7
  | .vdotaF4f4 d a b g => encV 1#5 0#1 g b a 0#1 d 72#7
  | .vdotF6f6 d a b g => encV 0#5 0#1 g b a 0#1 d 73#7
  | .vdotaF6f6 d a b g => encV 1#5 0#1 g b a 0#1 d 73#7
  | .vdotF6f4 d a b g => encV 0#5 0#1 g b a 0#1 d 74#7
  | .vdotaF6f4 d a b g => encV 1#5 0#1 g b a 0#1 d 74#7
  | .vdotE4e4 d a b g => encV 0#5 0#1 g b a 0#1 d 75#7
  | .vdotaE4e4 d a b g => encV 1#5 0#1 g b a 0#1 d 75#7
  | .vdotE5e5 d a b g => encV 0#5 0#1 g b a 0#1 d 76#7
  | .vdotaE5e5 d a b g => encV 1#5 0#1 g b a 0#1 d 76#7
  | .vdotI8i8 d a b => encV 0#5 0#1 0#6 b a 0#1 d 77#7
  | .vdotaI8i8 d a b => encV 1#5 0#1 0#6 b a 0#1 d 77#7
  | .vdotI8t2 d a b => encV 0#5 0#1 0#6 b a 0#1 d 78#7
  | .vdotaI8t2 d a b => encV 1#5 0#1 0#6 b a 0#1 d 78#7
  | .vdotBfbf d a b => encV 0#5 0#1 0#6 b a 0#1 d 79#7
  | .vdotaBfbf d a b => encV 1#5 0#1 0#6 b a 0#1 d 79#7
  | .mlease d sc => encA 0#5 sc 0#6 0#6 d 80#7
  | .mwait sc => encA 1#5 sc 0#6 0#6 0#6 80#7
  | .mrelease sc => encA 2#5 sc 0#6 0#6 0#6 80#7
  | .mstat d sc => encA 3#5 sc 0#6 0#6 d 80#7
  | .mmap a b sc => encA 4#5 sc b a 0#6 80#7
  | .mepi a sc => encA 5#5 sc 0#6 a 0#6 80#7
  | .mdrain a sc => encA 6#5 sc 0#6 a 0#6 80#7
  | .mclear a sc => encA 7#5 sc 0#6 a 0#6 80#7
  | .mflags d a sc => encA 8#5 sc 0#6 a d 80#7
  | .mtileF4f4 a b g k => encV 0#5 0#1 g b a k 0#4 81#7
  | .mtileoF4f4 a b g k => encV 1#5 0#1 g b a k 0#4 81#7
  | .mtileF6f6 a b g k => encV 0#5 0#1 g b a k 0#4 82#7
  | .mtileoF6f6 a b g k => encV 1#5 0#1 g b a k 0#4 82#7
  | .mtileF6f4 a b g k => encV 0#5 0#1 g b a k 0#4 83#7
  | .mtileoF6f4 a b g k => encV 1#5 0#1 g b a k 0#4 83#7
  | .mtileE4e4 a b g k => encV 0#5 0#1 g b a k 0#4 84#7
  | .mtileoE4e4 a b g k => encV 1#5 0#1 g b a k 0#4 84#7
  | .mtileE5e5 a b g k => encV 0#5 0#1 g b a k 0#4 85#7
  | .mtileoE5e5 a b g k => encV 1#5 0#1 g b a k 0#4 85#7
  | .mtileI8i8 a b g k => encV 0#5 0#1 g b a k 0#4 86#7
  | .mtileoI8i8 a b g k => encV 1#5 0#1 g b a k 0#4 86#7
  | .mtileI8t2 a b g k => encV 0#5 0#1 g b a k 0#4 87#7
  | .mtileoI8t2 a b g k => encV 1#5 0#1 g b a k 0#4 87#7
  | .mtileBfbf a b g k => encV 0#5 0#1 g b a k 0#4 88#7
  | .mtileoBfbf a b g k => encV 1#5 0#1 g b a k 0#4 88#7
  | .hbind d a b => encH 0#5 0#2 0#6 b a d 0#2 0#1 96#7
  | .hperm d a g => encH 1#5 0#2 g 0#3 a d 0#2 0#1 96#7
  | .hbund a g mode y => encH 2#5 mode g 0#3 a 0#3 0#2 y 96#7
  | .hthr d b mode tie y => encH 3#5 mode 0#6 b 0#3 d tie y 96#7
  | .hclrH d => encH 4#5 0#2 0#6 0#3 0#3 d 0#2 0#1 96#7
  | .hclrY y => encH 4#5 1#2 0#6 0#3 0#3 0#3 0#2 y 96#7
  | .hldH d g => encH 5#5 0#2 g 0#3 0#3 d 0#2 0#1 96#7
  | .hldY g y => encH 5#5 1#2 g 0#3 0#3 0#3 0#2 y 96#7
  | .hstH a g => encH 6#5 0#2 g 0#3 a 0#3 0#2 0#1 96#7
  | .hstY g y => encH 6#5 1#2 g 0#3 0#3 0#3 0#2 y 96#7
  | .hmv d a => encH 7#5 0#2 0#6 0#3 a d 0#2 0#1 96#7
  | .hham a b g => encH 8#5 0#2 g b a 0#3 0#2 0#1 96#7
  | .hpopc a g => encH 9#5 0#2 g 0#3 a 0#3 0#2 0#1 96#7
  | .hnot d a => encH 10#5 0#2 0#6 0#3 a d 0#2 0#1 96#7
  | .hgetb a g idx => encH 11#5 ((idx.extractLsb' 3 2)) g ((idx.extractLsb' 0 3)) a 0#3 0#2 0#1 96#7
  | .hsrch a b g => encV 0#5 0#1 g (0#1 ++ b) a 0#1 0#4 97#7
  | .hsrchk a b g => encV 1#5 0#1 g (0#1 ++ b) a 0#1 0#4 97#7
  | .hsrcht d a b g => encV 2#5 0#1 g (0#1 ++ b) a 0#1 d 97#7
  | _ => 0#32

/-- The row has an instruction word. -/
def Instr.isWord : Instr → Bool
  | .registerWrite _ _ _ _ => false
  | .slotTakesRecord _ _ => false
  | .spinBudgetExpiry _ _ => false
  | .waitReleasePush _ _ => false
  | .singleCorePreemption _ => false
  | .coreResume _ => false
  | .retainedRegisterRead _ _ _ => false
  | .loadDataReturn _ => false
  | .refusalReturn _ => false
  | .accessAged _ => false
  | .vectorEntryExecute _ => false
  | .vectorEntryComplete _ => false
  | .vectorEntryFailure _ _ _ => false
  | .vloopPassStart _ => false
  | .leaseGrant _ => false
  | .leaseBudgetExpiry _ => false
  | .leaseHolderDrained _ => false
  | .tileBlockFetch _ => false
  | .tileBlockDone _ => false
  | .tileCommandComplete _ => false
  | .tileCommandFailure _ _ _ => false
  | .drainStart _ => false
  | .drainRowWrite _ => false
  | .channelPushAtPort _ _ => false
  | .channelPopAtPort _ _ => false
  | .messageAtPort _ => false
  | .inboxDelivery _ => false
  | .copyPut _ => false
  | .copyGet _ => false
  | .copyStridedPut _ => false
  | .copyStridedGet _ => false
  | .copyReducePut _ => false
  | .copySegmentPut _ => false
  | .copySegmentReduce _ => false
  | .copyCommandComplete _ => false
  | .statusPortRoom _ => false
  | .readSnoop _ _ => false
  | .ownershipSnoop _ _ => false
  | .sectorEviction _ _ => false
  | .engineSectorFinish _ _ => false
  | .monitorFire _ _ => false
  | .fabricWindowReached _ _ => false
  | .syncComplete _ _ _ => false
  | .boundaryAction _ => false
  | .boundaryHoldExpiry _ => false
  | .movedImageCopy _ => false
  | .exchangeOpen _ _ _ => false
  | .exchangeBeat _ _ _ => false
  | .exchangeClose _ _ _ => false
  | .barrierTimeout _ _ => false
  | .wireEpisodeComplete _ _ => false
  | .eventToInbox _ => false
  | .heldEventPlaced _ => false
  | .translationCompletion _ _ _ _ _ _ _ => false
  | .pageRequestQueue _ _ => false
  | .prgResponseSuccess _ _ => false
  | .prgResponseInvalidRequest _ _ => false
  | .prgResponseFailure _ _ => false
  | .invalidateRequest _ _ _ _ => false
  | .invalidationCompletion _ _ _ => false
  | .pgctlReplay _ _ => false
  | .priControlReset _ => false
  | .kernelPlacement _ => false
  | .kernelLoadingComplete _ => false
  | .kernelDrained _ => false
  | .notify _ _ => false
  | .packetNop _ _ => false
  | .packetLaunch _ _ => false
  | .packetCopy _ _ => false
  | .packetFenceWait _ _ => false
  | .packetFenceSignal _ _ => false
  | .packetTokenPut _ _ => false
  | .packetTokenTake _ _ => false
  | .packetIndirect _ _ => false
  | .packetBarrierAnd _ _ => false
  | .queueConditionHolds _ _ => false
  | .launchCompletionWrite _ => false
  | .quantumExpiry _ _ => false
  | .tenureLimitExpiry _ _ => false
  | .queueMap _ _ => false
  | .queueUnmap _ _ => false
  | .queueReset _ _ => false
  | .tokenLinkBind _ _ _ _ _ => false
  | .watchdogHang _ => false
  | .partitionReset _ => false
  | .rgctlRail _ _ => false
  | .rgctlClk _ _ => false
  | .rgctlRst _ _ => false
  | .rgctlGate _ _ => false
  | .gateClosed _ _ => false
  | .scrubComplete _ _ _ => false
  | .regionAssign _ _ => false
  | .regionRelease _ => false
  | .windowSet _ _ => false
  | .windowClear _ _ => false
  | .contextCreate _ _ _ _ _ => false
  | .contextEnable _ _ => false
  | .contextDestroy _ _ => false
  | .fenceLift _ _ => false
  | .hostGrantWrite _ _ _ _ _ _ => false
  | .lockInterfaceRequest _ => false
  | .startInterfaceRequest _ => false
  | .stopInterfaceRequest _ => false
  | .getDeviceInterfaceState _ => false
  | .getDeviceInterfaceReport _ => false
  | .spdmGetVersion => false
  | .spdmGetCapabilities => false
  | .spdmNegotiateAlgorithms _ _ => false
  | .spdmGetDigests => false
  | .spdmGetCertificate => false
  | .spdmChallenge _ => false
  | .spdmGetMeasurements _ => false
  | .hostRequest _ _ _ _ _ => false
  | .uciePortDown _ => false
  | .hbhostWrite _ => false
  | .hbctlEnable _ => false
  | .hbctlResume => false
  | .firmwareDeviceBeat => false
  | .heartbeatPeriod => false
  | .pcieInboundMailbox _ _ _ => false
  | .pcieInboundUnsupported => false
  | .pcieErrorCompletion _ => false
  | .pcieCompletionTimeout _ => false
  | .pcieLinkDown => false
  | .apertureProgram _ _ _ _ => false
  | .linkEnable => false
  | .linkTrained _ _ _ _ => false
  | .linkTrainingFail => false
  | .laneDrop _ => false
  | .linkRetrain => false
  | .partnerBeatMiss => false
  | .timeOffsetExceeded => false
  | .linkDown => false
  | .flitReceive _ => false
  | .flitNak _ => false
  | .flitAckTimeout => false
  | .ptpSync _ => false
  | .packageReset _ => false
  | .romRecoveryImage _ _ => false
  | .rollbackFuseSet _ => false
  | .firmwareBeatMiss _ _ => false
  | .pwrlimWrite _ => false
  | .powerPacingTick _ => false
  | .sramSingleBitError _ => false
  | .sramDoubleBitError _ _ => false
  | .linkCrcFailure _ _ => false
  | .fatalError _ => false
  | .illegalEncoding _ => false
  | .fetchCheckFailure _ _ => false
  | .postedStorePerformed _ => false
  | .hostSnoopResponse _ => false
  | .uciePortUp _ => false
  | .pcieLinkUp => false
  | .meshInterruptMessage _ => false
  | .lossListRegistration _ _ _ => false
  | .partitionJoin _ _ _ => false
  | .qtabRegistration _ _ => false
  | _ => true

/-- Decoding of a word: the selected row, when its operands are accepted and every field that the form does not use is
zero, that is, when the row's own word is this word (R85, R88, R89). -/
noncomputable def decode (w : BitVec 32) : Except DecodeError Instr :=
  match decodeRaw w with
  | .ok i => if i.wf && decide (encode i = w) then .ok i else .error .badField
  | .error e => .error e

/-- The word that four bytes hold, little-endian (R57). -/
def wordOfBytes (b0 b1 b2 b3 : BitVec 8) : BitVec 32 := b3 ++ b2 ++ b1 ++ b0

/-- Decoding of the instruction at the head of a byte list. -/
noncomputable def decodeBytes : List (BitVec 8) → Except DecodeError Instr
  | b0 :: b1 :: b2 :: b3 :: _ => decode (wordOfBytes b0 b1 b2 b3)
  | _ => .error .badField

/-- The four bytes of a word in memory, the first at the lowest address (R57). -/
def bytesOfWord (w : BitVec 32) : List (BitVec 8) :=
  [w.extractLsb' 0 8, w.extractLsb' 8 8, w.extractLsb' 16 8, w.extractLsb' 24 8]

/-- The instruction that the decoder reads from a word given as a number; the bits above `nbits` are zero. -/
noncomputable def decodeTableWord (nbits w : Nat) : Option Instr :=
  (decodeBytes (bytesOfWord (BitVec.ofNat 32 (w % 2 ^ nbits)))).toOption

end Sys2Proof
end

