-- ==== Sys2Proof/Machine/Shape.lean ====
section
/-! DEFINITION. Shapes (R159 to R164) and the shape instructions (R166 to R168). -/
namespace Sys2Proof.Machine

/-! ### Fields of the record (R160) -/

/-- Word `n` of a record. -/
def Shape.word (x : Shape) (n : Nat) : Nat := (x.bits.extractLsb' (64 * n) 64).toNat

/-- Bits `lo` to `lo + w − 1` of word `n`. -/
def Shape.field (x : Shape) (n lo w : Nat) : Nat := x.word n / 2 ^ lo % 2 ^ w

/-- A field of `w` bits as two's complement. -/
def signedOf (w n : Nat) : Int := if 2 ^ (w - 1) ≤ n then (n : Int) - 2 ^ w else n

/-- R160: the capability, with its tag. -/
def Shape.cap (x : Shape) : TV := ⟨x.bits.extractLsb' 0 128, x.tag⟩
def Shape.typeCode (x : Shape) : Nat := x.field 2 0 8
def Shape.mx (x : Shape) : Bool := decide (x.field 2 8 1 = 1)
def Shape.chn (x : Shape) : Bool := decide (x.field 2 9 1 = 1)
def Shape.qn (x : Shape) : Nat := x.field 2 10 3

/-- The count of dimension `d`. -/
def Shape.n (x : Shape) : Nat → Nat
  | 0 => x.field 2 16 16 + 1
  | 1 => x.field 2 32 16 + 1
  | 2 => x.field 2 48 16 + 1
  | _ => x.field 3 0 16 + 1

/-- The byte stride of dimension `d`, 1 to 3. -/
def Shape.stride (x : Shape) : Nat → Int
  | 0 => 0
  | 1 => signedOf 32 (x.field 3 32 32)
  | 2 => signedOf 32 (x.field 4 0 32)
  | _ => signedOf 32 (x.field 4 32 32)

def Shape.soff (x : Shape) : Int := signedOf 32 (x.field 5 0 32)

/-- The scale stride of dimension `d`, 1 to 3. -/
def Shape.sstride (x : Shape) : Nat → Int
  | 0 => 0
  | 1 => signedOf 32 (x.field 5 32 32)
  | 2 => signedOf 32 (x.field 6 0 32)
  | _ => signedOf 32 (x.field 6 32 32)

/-- The cursor of dimension `d`, as it is stored. -/
def Shape.rawCursor (x : Shape) (d : Nat) : Nat := x.field 7 (16 * d) 16

/-- The cursor of dimension `d`. -/
def Shape.cursor (x : Shape) (d : Nat) : Int := signedOf 16 (x.rawCursor d)

/-- R160: the number of elements N. -/
def Shape.count (x : Shape) : Nat := x.n 0 * x.n 1 * x.n 2 * x.n 3

/-- The number of rows: elements of dimensions 1 to 3. -/
def Shape.rows (x : Shape) : Nat := x.n 1 * x.n 2 * x.n 3

/-! ### Element types (R161) -/

inductive ETy where
  | int (signed : Bool) (bits : Nat)
  | flt (f : Fmt)
  | e8
  | t2
  | hv
  deriving DecidableEq, Repr

/-- R161: the type of a code. -/
def ETy.ofCode (c : Nat) : Option ETy :=
  match c with
  | 0x01 => some (.int true 8)
  | 0x02 => some (.int false 8)
  | 0x03 => some (.int true 16)
  | 0x04 => some (.int false 16)
  | 0x05 => some (.int true 32)
  | 0x06 => some (.int false 32)
  | 0x07 => some (.int true 64)
  | 0x08 => some (.int false 64)
  | 0x10 => some (.flt .f32)
  | 0x11 => some (.flt .f16)
  | 0x12 => some (.flt .bf16)
  | 0x20 => some (.flt .e4m3)
  | 0x21 => some (.flt .e5m2)
  | 0x22 => some (.flt .e2m3)
  | 0x23 => some (.flt .e3m2)
  | 0x24 => some (.flt .e2m1)
  | 0x28 => some .e8
  | 0x30 => some .t2
  | 0x38 => some .hv
  | _ => none

/-- R161: bits of an element. -/
def ETy.bits : ETy → Nat
  | .int _ w => w
  | .flt f => f.width
  | .e8 => 8
  | .t2 => 2
  | .hv => 8192

def ETy.isInt : ETy → Bool
  | .int _ _ => true
  | _ => false

/-- The types f32, f16 and bf16. -/
def ETy.isFloat : ETy → Bool
  | .flt f => decide (f = .f32) || decide (f = .f16) || decide (f = .bf16)
  | _ => false

/-- R161: the arithmetic types. -/
def ETy.arith (t : ETy) : Bool := t.isInt || t.isFloat

/-- R162: the types that MX blocks hold. -/
def ETy.isMx : ETy → Bool
  | .flt f => decide (f = .e4m3) || decide (f = .e5m2) || decide (f = .e2m3) || decide (f = .e3m2) || decide (f = .e2m1)
  | _ => false

/-- The element type of a valid shape. -/
def Shape.ty (x : Shape) : ETy := (ETy.ofCode x.typeCode).getD (.int true 8)

/-- R162: the validity of a record. -/
def Shape.valid (x : Shape) : Bool :=
  match ETy.ofCode x.typeCode with
  | none => false
  | some t =>
    let b := t.bits / 8
    decide (x.field 2 13 3 = 0) && decide (x.field 3 16 16 = 0) &&
    (!x.mx || (t.isMx && !x.chn)) &&
    (!(decide (t.bits < 8) || x.mx) || (decide (x.n 0 % 32 = 0) && decide (x.rawCursor 0 % 32 = 0))) &&
    (if x.chn then (List.range 4).all (fun d => decide (x.rawCursor d = 0))
     else x.cap.tag && (decide (t.bits < 8) || (decide (capAddr x.cap % b = 0) &&
       [1, 2, 3].all (fun d => decide (x.stride d % (b : Int) = 0)))))

/-! ### Element addresses (R163) -/

/-- Index `d` of the element of linear index `j`. -/
def Shape.index (x : Shape) (j : Nat) : Nat → Nat
  | 0 => j % x.n 0
  | 1 => j / x.n 0 % x.n 1
  | 2 => j / (x.n 0 * x.n 1) % x.n 2
  | _ => j / (x.n 0 * x.n 1 * x.n 2)

/-- u: the index of a dimension with the cursor added. -/
def Shape.u (x : Shape) (j d : Nat) : Int := (x.index j d : Int) + x.cursor d

/-- The bit address of element `j`: Data(i) of R163 in bytes and the bit within its run's packing (R36). -/
def Shape.bitAddr (x : Shape) (j : Nat) : Int :=
  ((capAddr x.cap : Int) + x.u j 1 * x.stride 1 + x.u j 2 * x.stride 2 + x.u j 3 * x.stride 3) * 8 + x.u j 0 * x.ty.bits

/-- R163: the first byte that element `j` touches. -/
def Shape.byteAddr (x : Shape) (j : Nat) : Int := x.bitAddr j / 8

/-- The bit of that byte at which it begins. -/
def Shape.bitOff (x : Shape) (j : Nat) : Nat := (x.bitAddr j % 8).toNat

/-- The bytes that it touches. -/
def Shape.elemBytes (x : Shape) (j : Nat) : Nat := (x.bitOff j + x.ty.bits + 7) / 8

/-- R163: Scale(i) of element `j`. -/
def Shape.scaleAddr (x : Shape) (j : Nat) : Int :=
  (capAddr x.cap : Int) + x.soff + x.u j 0 / 32 + x.u j 1 * x.sstride 1 + x.u j 2 * x.sstride 2 + x.u j 3 * x.sstride 3

/-- Element `r n0`: the first of row `r`. -/
def Shape.rowStart (x : Shape) (r : Nat) : Nat := r * x.n 0

/-- The byte interval of row `r`: first byte, and the byte after the last. -/
def Shape.rowSpan (x : Shape) (r : Nat) : Int × Int :=
  let j := x.rowStart r
  let l := j + x.n 0 - 1
  (x.byteAddr j, x.byteAddr l + x.elemBytes l)

/-- The scale bytes of row `r`. -/
def Shape.scaleSpan (x : Shape) (r : Nat) : Int × Int :=
  let j := x.rowStart r
  (x.scaleAddr j, x.scaleAddr (j + x.n 0 - 1) + 1)

/-- R163: the footprint, as the byte intervals of its rows and of their scales. -/
def Shape.spans (x : Shape) : List (Int × Int) :=
  (List.range x.rows).map x.rowSpan ++ (if x.mx then (List.range x.rows).map x.scaleSpan else [])

/-- The lowest byte of a footprint. -/
def spansLow : List (Int × Int) → Int
  | [] => 0
  | p :: r => r.foldl (fun (m : Int) q => min m q.1) p.1

/-- The byte after the highest. -/
def spansHigh : List (Int × Int) → Int
  | [] => 0
  | p :: r => r.foldl (fun (m : Int) q => max m q.2) p.2

/-- Two footprints share a byte. -/
def spansMeet (a b : List (Int × Int)) : Bool :=
  a.any (fun p => b.any (fun q => decide (p.1 < q.2) && decide (q.1 < p.2)))

/-- The byte intervals are disjoint, each from the others. -/
def spansApart : List (Int × Int) → Bool
  | [] => true
  | p :: r => r.all (fun q => !(decide (p.1 < q.2) && decide (q.1 < p.2))) && spansApart r

/-- No two rows of a shape share a byte: a write of one element changes no other. -/
def Shape.apart (x : Shape) : Bool := spansApart ((List.range x.rows).map x.rowSpan)

/-! ### Changing a record -/

/-- Bits of a record replaced. -/
def Shape.setBits (x : Shape) (lo w v : Nat) : Shape :=
  let old := x.bits.toNat / 2 ^ lo % 2 ^ w
  { x with bits := BitVec.ofNat 512 (x.bits.toNat - old * 2 ^ lo + v % 2 ^ w * 2 ^ lo) }

/-- R168: the cursor of dimension `d` increased, modulo 2^16. -/
def Shape.advance (x : Shape) (d v : Nat) : Shape := x.setBits (448 + 16 * d) 16 (x.rawCursor d + v)

/-! ### R166: op 0x40 -/

/-- R99, R167: the record at a location, as it is loaded through capability `c`. -/
def State.shapeAt (s : State) (c : TV) (loc : Nat) : Shape :=
  let g := s.readTagged loc
  ⟨BitVec.ofNat 512 (s.read loc 64), g.tag && capOk g && capHas c permLoadCap⟩

/-- `shp.ld`, R167, R347. -/
def execShpLd (d : BitVec 4) (a : BitVec 6) (sc : BitVec 2) (s : State) : Host.Outcome State Fault Refusal :=
  runInstr sc.toNat (do
    let c ← operand1 a []
    shapesFree [d.toNat]
    let x := capAddr c
    afterAcquire
    derefCheck c x 64 permLoad
    if x % 64 ≠ 0 then trap 0x06 (BitVec.ofNat 64 x)
    access x (.shpLoad d.toNat) false false 0 0#6 (fun loc => do
      let s ← get
      touchFor loc 64 false
      modShape d.toNat (fun _ => s.shapeAt c loc))
    return .next) s

/-- `shp.st`, R167, R347. -/
def execShpSt (d : BitVec 4) (a : BitVec 6) (sc : BitVec 2) (s : State) : Host.Outcome State Fault Refusal :=
  runInstr sc.toNat (do
    let c ← operand1 a []
    shapesFree [d.toNat]
    let x := capAddr c
    afterAcquire
    derefCheck c x 64 permStore
    if x % 64 ≠ 0 then trap 0x06 (BitVec.ofNat 64 x)
    spaceCheck x 64 true false
    let t ← getStrand
    let v := t.getSh d.toNat
    if v.tag && !capHas c permStoreCap then trap 0x05 (BitVec.ofNat 64 x)
    access x (.shpStore v.bits) false false 0 0#6 (fun loc => do
      touchFor loc 64 true
      modState (fun s => (s.write loc (natBytes 64 v.bits.toNat)).writeTagged loc v.cap))
    return .next) s

/-- R168: what `shp.get` reads. -/
def Shape.get (x : Shape) (sel : Nat) : TV :=
  if sel = 0 then x.cap
  else if 2 ≤ sel ∧ sel ≤ 7 then TV.ofNat (x.word sel)
  else if sel = 8 then TV.ofNat (if x.valid then 1 else 0)
  else TV.zero

/-- R168: what `shp.set` writes. -/
def Shape.set (x : Shape) (sel : Nat) (v : TV) : Shape :=
  if sel = 0 then { x.setBits 0 128 v.bits.toNat with tag := v.tag }
  else if 2 ≤ sel ∧ sel ≤ 7 then x.setBits (64 * sel) 64 v.lo.toNat
  else x

/-- `shp.get`, R168. -/
def execShpGet (d : BitVec 6) (a : BitVec 4) (b : BitVec 6) (sc : BitVec 2) (s : State) : Host.Outcome State Fault Refusal :=
  runInstr sc.toNat (do
    let sel ← operand1 b [d]
    shapesFree [a.toNat]
    let t ← getStrand
    result d 1 ((t.getSh a.toNat).get sel.lo.toNat)
    return .next) s

/-- `shp.set`, R168. -/
def execShpSet (d : BitVec 4) (a b : BitVec 6) (sc : BitVec 2) (s : State) : Host.Outcome State Fault Refusal :=
  runInstr sc.toNat (do
    let (v, sel) ← operand2 a b []
    shapesFree [d.toNat]
    modShape d.toNat (fun x => x.set sel.lo.toNat v)
    return .next) s

/-- `shp.adv`, R168. -/
def execShpAdv (d : BitVec 4) (a b : BitVec 6) (sc : BitVec 2) (s : State) : Host.Outcome State Fault Refusal :=
  runInstr sc.toNat (do
    let (v, sel) ← operand2 a b []
    let k := sel.lo.toNat
    shapesFree [d.toNat]
    modShape d.toNat (fun x => if k ≤ 3 then x.advance k v.lo.toNat else x)
    return .next) s

/-- `shp.mv`, R168. -/
def execShpMv (d a : BitVec 4) (sc : BitVec 2) (s : State) : Host.Outcome State Fault Refusal :=
  runInstr sc.toNat (do
    let _ ← operands [] []
    shapesFree [d.toNat, a.toNat]
    let t ← getStrand
    modShape d.toNat (fun _ => t.getSh a.toNat)
    return .next) s

end Sys2Proof.Machine
end

