-- ==== Sys2Proof/Machine/Lease.lean ====
section
/-! DEFINITION. The anvil lease (R194 to R210): its states, the lease instructions, and its events. -/
namespace Sys2Proof.Machine

/-! ### The lease -/

/-- The lease of the cluster of the core whose instruction runs. -/
def getLease : M Lease := fun s => .ok (s.cluster (clusterOf s.turn.1)).lease s

def modLease (f : Lease → Lease) : M Unit := fun s =>
  .ok () (s.updCluster (clusterOf s.turn.1) (fun c => { c with lease := f c.lease }))

/-- The slot of the core whose instruction runs. -/
def mySlot : M Nat := fun s => .ok (slotInCluster s.turn.1) s

/-- R205: slot `n` has a pending request. -/
def Lease.asked (l : Lease) (n : Nat) : Bool := l.reqs.getLsbD n

/-- The core of slot `n` holds the lease in *granted*. -/
def Lease.grantedTo (l : Lease) (n : Nat) : Bool := decide (l.st = .granted) && decide (l.holder = some n)

/-- R199: a request recorded; a *free* lease becomes *requested*. -/
def Lease.request (l : Lease) (n : Nat) : Lease :=
  { l with reqs := l.reqs ||| BitVec.ofNat 8 (2 ^ n), st := if l.st = .free then .requested else l.st }

/-- R204: a request withdrawn; the state stays, since R199 lists no transition for it (R4). -/
def Lease.withdraw (l : Lease) (n : Nat) : Lease := { l with reqs := l.reqs &&& ~~~(BitVec.ofNat 8 (2 ^ n)) }

/-- R197: both budgets set. -/
def Lease.refill (l : Lease) : Lease := { l with ncmd := 64, ncyc := 65536 }

/-- R197, R199: a budget has run out: both are set again, or the lease goes *expiring* with a request for its holder. -/
def Lease.budgetEnd (l : Lease) : Lease :=
  let h := l.holder.getD 0
  if l.reqs &&& ~~~(BitVec.ofNat 8 (2 ^ h)) = 0#8 then l.refill
  else { l with st := .expiring, reqs := l.reqs ||| BitVec.ofNat 8 (2 ^ h) }

/-- R197: one command of the budget spent. -/
def Lease.spend (l : Lease) : Lease :=
  let l1 := { l with ncmd := l.ncmd - 1 }
  if l1.ncmd = 0 then l1.budgetEnd else l1

/-- R198: the first slot after the last holder's that has a request. -/
def Lease.nextSlot (l : Lease) : Option Nat := ((List.range 8).map (fun i => (l.last + 1 + i) % 8)).find? l.asked

/-- R199: the lease granted to a slot. -/
def Lease.grant (l : Lease) (n : Nat) : Lease :=
  { l with st := .granted, holder := some n, last := n, reqs := l.reqs &&& ~~~(BitVec.ofNat 8 (2 ^ n)) }.refill

/-- R199: the last accepted command of an *expiring* or *draining* holder has completed. -/
def Lease.drained (l : Lease) : Lease :=
  { l with holder := none, st := if l.reqs = 0#8 then .free else .requested }

/-! ### Position (R195, R221) -/

/-- R195, R204: the core of slot `n` has a pending request, or held the lease when it went *expiring*: it waits. -/
def Lease.awaited (l : Lease) (n : Nat) : Bool := l.asked n || (decide (l.st = .expiring) && decide (l.holder = some n))

/-- R195, R204: some strand of a core waits for the lease, so that the core's request stays pending. -/
def Core.waitsForLease (c : Core) : Bool := c.slots.any (fun e => decide (e.2.wait.map (·.kind) = some .lease))

/-- R14: a finial cluster has no anvil: its cores ask for no lease (DESIGN CHOICE, log 68: the spec does not say what the
lease instructions do there). -/
def hasAnvil (k : Nat) : Bool := !isFinial k

/-- R195, R221: the issuing core's position; a recorded failure of a tile command is taken first. An instruction that has
begun to wait waits until the core is granted. -/
def needLease (word : BitVec 32) : M Unit := do
  let s ← get
  let k := s.turn.1
  if let some f := kfind k (s.cluster (clusterOf k)).tileFail then
    modState (fun s => s.updCluster (clusterOf k) (fun c => { c with tileFail := kdel k c.tileFail }))
    trap f.1 (BitVec.ofNat 64 f.2)
  let l ← getLease
  let n ← mySlot
  if l.grantedTo n then return ()
  let t ← getStrand
  if l.awaited n || t.waitsIn [.lease] then waitFor .lease
  trap 0x0B (word.setWidth 64)

/-- R196: a tile command takes a place in the queue, or stalls while it is full; it spends one command. R199: it stalls
also while a pre-emption of its core waits for the accepted commands (DESIGN CHOICE, log 68). A stalled command has the
lease checked again at each attempt, and traps with 0x0B where another strand has released it meanwhile: the spec does not
say (DESIGN CHOICE, log 68). -/
def acceptTile (f : TileCmd → TileCmd) : M Unit := do
  let s ← get
  let k := s.turn.1
  let cl := clusterOf k
  if 8 ≤ (s.cluster cl).cmds.length then waitFor .inSlot
  if (s.core k).preempting && (s.core k).phase.isNone then waitFor .inSlot
  let cmd : TileCmd := f
    { id := s.nextAccess, kind := .clear, buf := 0, src := s.sender k s.turn.2, sa := Shape.zero, sb := Shape.zero, k := 0,
      map0 := 0#64, map1 := 0#64, epi := 0#512, fetched := 0, done := 0, pinned := [], started := false, row := 0,
      tf := 0#3, bias := [], ef := [], rowsAt := [], retry := 0, bad := none }
  modState (fun s => { s with nextAccess := s.nextAccess + 1 })
  modState (fun s => s.updCluster cl (fun c => { c with cmds := c.cmds ++ [cmd], lease := c.lease.spend }))

/-! ### `mlease`, `mwait`, `mrelease` (R204) -/

/-- `mlease`, R204. -/
def execMlease (d : BitVec 6) (sc : BitVec 2) (s : State) : Host.Outcome State Fault Refusal :=
  runInstr sc.toNat (do
    let _ ← operands [] [d]
    let l ← getLease
    let n ← mySlot
    if l.grantedTo n then result d 0 (TV.ofNat 1)
    else
      let k ← self
      if hasAnvil k then modLease (·.request n)
      result d 0 TV.zero
    return .next) s

/-- `mwait`, R204: it returns as an acquire towards the previous holder's commands. -/
def execMwait (sc : BitVec 2) (s : State) : Host.Outcome State Fault Refusal :=
  runInstr sc.toNat (do
    let l ← getLease
    let n ← mySlot
    if l.grantedTo n then return .next
    let t ← getStrand
    if l.awaited n || t.waitsIn [.lease] then waitFor .lease
    trap 0x0B ((Sys2Proof.encA 1#5 sc 0#6 0#6 0#6 0x50#7).setWidth 64)) s

/-- `mrelease`, R204: a request for which a strand of the core waits stays pending. -/
def execMrelease (sc : BitVec 2) (s : State) : Host.Outcome State Fault Refusal :=
  runInstr sc.toNat (do
    let n ← mySlot
    let c ← getCore
    modLease (fun l => if l.grantedTo n then { l with st := .draining } else if c.waitsForLease then l else l.withdraw n)
    return .next) s

/-! ### `mstat` (R205), `mflags` (R210) -/

/-- R205: the code of a state. -/
def LeaseState.code : LeaseState → Nat
  | .free => 0 | .requested => 1 | .granted => 2 | .expiring => 3 | .draining => 4 | .revoked => 5

/-- R205: the status word of a cluster's lease, for the core of slot `n`. -/
def Cluster.leaseWord (c : Cluster) (n : Nat) : Nat :=
  let l := c.lease
  l.st.code + (if l.holder = some n then 2 ^ 3 else 0) + (if l.asked n then 2 ^ 4 else 0) + l.holder.getD 0 * 2 ^ 5 +
    l.ncmd * 2 ^ 8 + l.ncyc * 2 ^ 15 + c.f0.toNat * 2 ^ 32 + c.f1.toNat * 2 ^ 36 + c.cmds.length * 2 ^ 40 +
    (if l.zs then 2 ^ 44 else 0) + l.reqs.toNat * 2 ^ 48

/-- `mstat`, R205. -/
def execMstat (d : BitVec 6) (sc : BitVec 2) (s : State) : Host.Outcome State Fault Refusal :=
  runInstr sc.toNat (do
    let _ ← operands [] [d]
    let n ← mySlot
    let s ← get
    let w := (s.cluster (clusterOf s.turn.1)).leaseWord n
    modLease (fun l => { l with zs := false })
    result d 0 (TV.ofNat w)
    return .next) s

/-- R210: the flags of both buffers. -/
def Cluster.tileFlagWord (c : Cluster) : Word := BitVec.ofNat 64 (c.f1.toNat * 2 ^ 4 + c.f0.toNat)

/-- R210: the flags that a mask names, cleared. -/
def Cluster.clearTileFlags (c : Cluster) (mask : Word) : Cluster :=
  { c with f0 := c.f0 &&& ~~~(mask.extractLsb' 0 3), f1 := c.f1 &&& ~~~(mask.extractLsb' 4 3) }

/-- `mflags`, R210: it reads and clears the flags once the commands accepted before it have completed. -/
def execMflags (d a : BitVec 6) (sc : BitVec 2) (s : State) : Host.Outcome State Fault Refusal :=
  runInstr sc.toNat (do
    let x ← operand1 a [d]
    let t ← getStrand
    match t.granted, t.wait with
    | some w, _ => result d 0 (TV.ofWord w)
    | none, some ⟨.mflags n m, _, _, _⟩ => waitFor (.mflags n m)
    | none, _ =>
      needLease (Sys2Proof.encA 8#5 sc 0#6 a d 0x50#7)
      let s ← get
      let c := s.cluster (clusterOf s.turn.1)
      if !c.cmds.isEmpty then waitFor (.mflags s.nextAccess x.lo)
      modState (fun s => s.updCluster (clusterOf s.turn.1) (·.clearTileFlags x.lo))
      result d 0 (TV.ofWord c.tileFlagWord)
    return .next) s

/-! ### `mmap` (R206), `mepi` (R207, R224) -/

/-- R206: destination of rows 8i to 8i + 7. -/
def mapDst (m : Word) (i : Nat) : Nat := m.toNat / 2 ^ (4 * i) % 16

def mapBase (p : Word) : Nat := p.toNat % 2 ^ 19
def mapPitch (p : Word) : Nat := p.toNat / 2 ^ 19 % 2 ^ 13 * 64
def mapLine (p : Word) : Nat := p.toNat / 2 ^ 32 % 32

/-- `mmap`, R206. -/
def execMmap (a b : BitVec 6) (sc : BitVec 2) (s : State) : Host.Outcome State Fault Refusal :=
  runInstr sc.toNat (do
    let (m, p) ← operand2 a b []
    needLease (Sys2Proof.encA 4#5 sc b a 0#6 0x50#7)
    if (List.range 16).any (fun i => decide (8 < mapDst m.lo i)) || decide (mapBase p.lo % 64 ≠ 0) ||
        decide (mapPitch p.lo = 0) then trap 0x0D m.lo
    modLease (fun l => { l with map := some (m.lo, p.lo) })
    return .next) s

/-- A field of an epilogue descriptor (R223). -/
def epiField (e : BitVec 512) (n lo w : Nat) : Nat := descWord e n / 2 ^ lo % 2 ^ w

/-- R161: the output type. -/
def epiType (e : BitVec 512) : ETy := (ETy.ofCode (epiField e 0 8 8)).getD (.flt .f32)

def epiMx (e : BitVec 512) : Bool := decide (epiField e 0 1 1 = 1)
def epiAddr (e : BitVec 512) : Nat := descWord e 2
def epiPitch (e : BitVec 512) : Nat := epiField e 3 0 32

/-- R224: the row size. -/
def epiRow (e : BitVec 512) : Nat := 16 * (epiType e).bits + (if epiMx e then 4 else 0)

/-- R224 rule 2. -/
def epiTypeOk (t : ETy) : Bool := t.isFloat || t.isMx || decide (t = .int true 8) || decide (t = .int true 32)

/-- R224 rule 5: the store window lies in the capability that loads the descriptor, which may store there. -/
def epiWindowOk (e : BitVec 512) (c : TV) : Bool :=
  let a := epiAddr e
  let p := epiPitch e
  decide (a % 64 = 0) && decide (p % 64 = 0) && decide (epiRow e ≤ p) && decide (capBase c ≤ (a : Int)) &&
    decide (((a + 127 * p + epiRow e : Nat) : Int) ≤ capTop c) && capHas c permStore &&
    (!capHas c permLocal || decide (2 ^ 63 ≤ a))

/-- R224: a store window is named. -/
def epiHasWindow (e : BitVec 512) : Bool := decide (epiAddr e ≠ 0) || decide (epiPitch e ≠ 0)

/-- R224: the descriptor rules. -/
def epiOk (e : BitVec 512) (c : TV) : Bool :=
  let t := epiType e
  let bias := epiField e 0 4 1
  let size := if epiField e 0 5 1 = 1 then 256 else 512
  decide (epiField e 0 6 2 = 0) && decide (epiField e 0 20 12 = 0) && decide (epiField e 1 19 45 = 0) &&
  decide (epiField e 3 32 32 = 0) && [4, 5, 6, 7].all (fun n => decide (descWord e n = 0)) &&
  (ETy.ofCode (epiField e 0 8 8)).isSome && epiTypeOk t &&
  (!epiMx e || t.isMx) && (decide (epiField e 0 2 1 = 0) || decide (t = .flt .e4m3) || decide (t = .flt .e5m2)) &&
  decide (epiField e 0 16 4 ≤ 4) &&
  (decide (bias = 0) || (decide (epiField e 1 0 19 % 64 = 0) && decide (epiField e 1 0 19 + size ≤ 2 ^ 19))) &&
  (!epiHasWindow e || epiWindowOk e c)

/-- `mepi`, R207. -/
def execMepi (a : BitVec 6) (sc : BitVec 2) (s : State) : Host.Outcome State Fault Refusal :=
  runInstr sc.toNat (do
    let c ← operand1 a []
    needLease (Sys2Proof.encA 5#5 sc 0#6 a 0#6 0x50#7)
    let x := capAddr c
    afterAcquire
    derefCheck c x 64 permLoad
    if x % 64 ≠ 0 then trap 0x06 (BitVec.ofNat 64 x)
    let locs ← blockLocs x 64 false false .inSlot
    let v ← readBlock locs
    let e := BitVec.ofNat 512 (bytesNat v)
    if !epiOk e c then trap 0x0D (BitVec.ofNat 64 x)
    modLease (fun l => { l with epi := some e, window := epiHasWindow e })
    return .next) s

/-! ### `mdrain` (R208, R228), `mclear` (R209) -/

/-- R228: the rows that slot `d` receives. -/
def rowsTo (m : Word) (d : Nat) : Nat := ((List.range 16).filter (fun i => decide (mapDst m i = d))).length * 8

/-- R228: the captured map and epilogue agree. -/
def drainOk (m p : Word) (e : BitVec 512) (window : Bool) : Bool :=
  decide (epiRow e ≤ mapPitch p) &&
  (List.range 8).all (fun d => decide (rowsTo m d = 0) ||
    decide (mapBase p + (rowsTo m d - 1) * mapPitch p + epiRow e ≤ 2 ^ 19)) &&
  (decide (rowsTo m 8 = 0) || window)

/-- `mdrain`, R208, R228. -/
def execMdrain (a : BitVec 6) (sc : BitVec 2) (s : State) : Host.Outcome State Fault Refusal :=
  runInstr sc.toNat (do
    let x ← operand1 a []
    needLease (Sys2Proof.encA 6#5 sc 0#6 a 0#6 0x50#7)
    let l ← getLease
    match l.map, l.epi with
    | some (m, p), some e =>
      if !drainOk m p e l.window then trap 0x0D m
      acceptTile (fun c => { c with kind := .drain, buf := x.lo.toNat % 2, map0 := m, map1 := p, epi := e })
      return .next
    | some (m, _), none => trap 0x0D m
    | none, _ => trap 0x0D 0#64) s

/-- `mclear`, R209. -/
def execMclear (a : BitVec 6) (sc : BitVec 2) (s : State) : Host.Outcome State Fault Refusal :=
  runInstr sc.toNat (do
    let x ← operand1 a []
    needLease (Sys2Proof.encA 7#5 sc 0#6 a 0#6 0x50#7)
    if x.lo.toNat % 4 = 0 then return .next
    acceptTile (fun c => { c with kind := .clear, buf := x.lo.toNat % 4 })
    return .next) s

/-! ### Events (R197 to R199) -/

/-- The lease of a cluster changed. -/
def State.setLease (s : State) (cl : Nat) (l : Lease) : State := s.updCluster cl (fun c => { c with lease := l })

/-- `LEASE_GRANT`, R198: the arbiter grants when no accepted command of the previous holder remains. -/
def leaseGrant (cl : Nat) (s : State) : Option State :=
  let c := s.cluster cl
  if cl < 160 ∧ c.lease.st = .requested ∧ c.cmds = [] then (c.lease.nextSlot).map (fun n => s.setLease cl (c.lease.grant n)) else none

/-- `LEASE_BUDGET_EXPIRY`, R197. -/
def leaseBudget (cl : Nat) (s : State) : Option State :=
  let l := (s.cluster cl).lease
  if l.st = .granted ∧ (l.ncmd = 0 ∨ l.ncyc = 0) then some (s.setLease cl l.budgetEnd) else none

/-- `LEASE_HOLDER_DRAINED`, R199. -/
def leaseDrained (cl : Nat) (s : State) : Option State :=
  let c := s.cluster cl
  if (c.lease.st = .expiring ∨ c.lease.st = .draining) ∧ c.cmds = [] then some (s.setLease cl c.lease.drained) else none

/-- R197, R220: a tile command of the cluster is stalled on a page fault. -/
def Cluster.stalled (c : Cluster) : Bool :=
  c.cmds.any (fun m => c.faults.any (fun f => f.waiters.any (fun x => decide (x.who = .tile m.id))) ||
    c.parked.any (fun x => decide (x.2.who = .tile m.id)))

/-- R197: one cycle of the lease clock; it pauses while an accepted command is stalled on a page fault. -/
def Cluster.leaseTick (c : Cluster) : Cluster :=
  if decide (c.lease.st = .granted) && !c.stalled then
    { c with lease := { c.lease with ncyc := c.lease.ncyc - 1 } }
  else c

/-- `LEASE_GRANT`. -/
def execLeaseGrant (cl : Nat) (s : State) : Host.Outcome State Fault Refusal := runEvent (s.whileRuns cl (leaseGrant cl s)) s

/-- `LEASE_BUDGET_EXPIRY`. -/
def execLeaseBudgetExpiry (cl : Nat) (s : State) : Host.Outcome State Fault Refusal := runEvent (s.whileRuns cl (leaseBudget cl s)) s

/-- `LEASE_HOLDER_DRAINED`. -/
def execLeaseHolderDrained (cl : Nat) (s : State) : Host.Outcome State Fault Refusal := runEvent (s.whileRuns cl (leaseDrained cl s)) s

end Sys2Proof.Machine
end

