-- ==== Sys2Proof/Machine/Special.lean ====
section
/-! DEFINITION. The special functions of the vector datapath (R190 to R193): exact algorithms over FP32 codes. -/
namespace Sys2Proof.Machine

/-! ### Tables (R191), each entry rounded to FP32 under RNE -/

/-- R191: RC, 1 / (1 + j/64). -/
def tabRC : List Nat :=
  [0x3F800000, 0x3F7C0FC1, 0x3F783E10, 0x3F74898D, 0x3F70F0F1, 0x3F6D7304, 0x3F6A0EA1, 0x3F66C2B4] ++
  [0x3F638E39, 0x3F607038, 0x3F5D67C9, 0x3F5A740E, 0x3F579436, 0x3F54C77B, 0x3F520D21, 0x3F4F6475] ++
  [0x3F4CCCCD, 0x3F4A4588, 0x3F47CE0C, 0x3F4565C8, 0x3F430C31, 0x3F40C0C1, 0x3F3E82FA, 0x3F3C5264] ++
  [0x3F3A2E8C, 0x3F381703, 0x3F360B61, 0x3F340B41, 0x3F321643, 0x3F302C0B, 0x3F2E4C41, 0x3F2C7692] ++
  [0x3F2AAAAB, 0x3F28E83F, 0x3F272F05, 0x3F257EB5, 0x3F23D70A, 0x3F2237C3, 0x3F20A0A1, 0x3F1F1166] ++
  [0x3F1D89D9, 0x3F1C09C1, 0x3F1A90E8, 0x3F191F1A, 0x3F17B426, 0x3F164FDA, 0x3F14F209, 0x3F139A86] ++
  [0x3F124925, 0x3F10FDBC, 0x3F0FB824, 0x3F0E7835, 0x3F0D3DCB, 0x3F0C08C1, 0x3F0AD8F3, 0x3F09AE41] ++
  [0x3F088889, 0x3F0767AB, 0x3F064B8A, 0x3F053408, 0x3F042108, 0x3F03126F, 0x3F020821, 0x3F010204]

/-- R191: LG, −log2 of RC[j]. -/
def tabLG : List Nat :=
  [0x00000000, 0x3CB73CB3, 0x3D35D690, 0x3D8759C9, 0x3DB31FB7, 0x3DDE420E, 0x3E0462C4, 0x3E195751] ++
  [0x3E2E00D1, 0x3E42615F, 0x3E567AEF, 0x3E6A4F70, 0x3E7DE0B5, 0x3E88983F, 0x3E92203D, 0x3E9B8925] ++
  [0x3EA4D3C2, 0x3EAE00D1, 0x3EB71110, 0x3EC0052D, 0x3EC8DDD3, 0x3ED19BAF, 0x3EDA3F60, 0x3EE2C97E] ++
  [0x3EEB3A9E, 0x3EF39355, 0x3EFBD42A, 0x3F01FED4, 0x3F060828, 0x3F0A0650, 0x3F0DF98A, 0x3F11E20E] ++
  [0x3F15C01A, 0x3F1993E4, 0x3F1D5DA0, 0x3F211D84, 0x3F24D3C3, 0x3F28808D, 0x3F2C2410, 0x3F2FBE7F] ++
  [0x3F335004, 0x3F36D8CA, 0x3F3A58FE, 0x3F3DD0C9, 0x3F41404E, 0x3F44A7BB, 0x3F480731, 0x3F4B5ED6] ++
  [0x3F4EAECF, 0x3F51F740, 0x3F553847, 0x3F58720A, 0x3F5BA4A5, 0x3F5ED038, 0x3F61F4E5, 0x3F6512C6] ++
  [0x3F6829FA, 0x3F6B3AA0, 0x3F6E44CF, 0x3F7148A2, 0x3F744636, 0x3F773DA2, 0x3F7A2F03, 0x3F7D1A71]

/-- R191: EX, 2^(j/64). -/
def tabEX : List Nat :=
  [0x3F800000, 0x3F8164D2, 0x3F82CD87, 0x3F843A29, 0x3F85AAC3, 0x3F871F62, 0x3F88980F, 0x3F8A14D5] ++
  [0x3F8B95C2, 0x3F8D1ADF, 0x3F8EA43A, 0x3F9031DC, 0x3F91C3D3, 0x3F935A2B, 0x3F94F4F0, 0x3F96942D] ++
  [0x3F9837F0, 0x3F99E046, 0x3F9B8D3A, 0x3F9D3EDA, 0x3F9EF532, 0x3FA0B051, 0x3FA27043, 0x3FA43516] ++
  [0x3FA5FED7, 0x3FA7CD94, 0x3FA9A15B, 0x3FAB7A3A, 0x3FAD583F, 0x3FAF3B79, 0x3FB123F6, 0x3FB311C4] ++
  [0x3FB504F3, 0x3FB6FD92, 0x3FB8FBAF, 0x3FBAFF5B, 0x3FBD08A4, 0x3FBF179A, 0x3FC12C4D, 0x3FC346CD] ++
  [0x3FC5672A, 0x3FC78D75, 0x3FC9B9BE, 0x3FCBEC15, 0x3FCE248C, 0x3FD06334, 0x3FD2A81E, 0x3FD4F35B] ++
  [0x3FD744FD, 0x3FD99D16, 0x3FDBFBB8, 0x3FDE60F5, 0x3FE0CCDF, 0x3FE33F89, 0x3FE5B907, 0x3FE8396A] ++
  [0x3FEAC0C7, 0x3FED4F30, 0x3FEFE4BA, 0x3FF28177, 0x3FF5257D, 0x3FF7D0DF, 0x3FFA83B3, 0x3FFD3E0C]

/-- R191: QS, 1 / √(1 + j/32), then 1 / √(2 + (j − 32)/16). -/
def tabQS : List Nat :=
  [0x3F800000, 0x3F7C1764, 0x3F785B42, 0x3F74C867, 0x3F715BEF, 0x3F6E133E, 0x3F6AEBF5, 0x3F67E3ED] ++
  [0x3F64F92E, 0x3F6229ED, 0x3F5F7483, 0x3F5CD76E, 0x3F5A514A, 0x3F57E0CF, 0x3F5584CD, 0x3F533C2E] ++
  [0x3F5105EC, 0x3F4EE116, 0x3F4CCCCD, 0x3F4AC83F, 0x3F48D2AB, 0x3F46EB5A, 0x3F4511A3, 0x3F4344E6] ++
  [0x3F41848F, 0x3F3FD012, 0x3F3E26EB, 0x3F3C889F, 0x3F3AF4BA, 0x3F396ACE, 0x3F37EA74, 0x3F36734A] ++
  [0x3F3504F3, 0x3F32416A, 0x3F2F9D53, 0x3F2D166C, 0x3F2AAAAB, 0x3F285835, 0x3F261D5F, 0x3F23F8A2] ++
  [0x3F21E89B, 0x3F1FEC04, 0x3F1E01B3, 0x3F1C2896, 0x3F1A5FB2, 0x3F18A61F, 0x3F16FB06, 0x3F155DA2] ++
  [0x3F13CD3A, 0x3F124925, 0x3F10D0C3, 0x3F0F6381, 0x3F0E00D5, 0x3F0CA83F, 0x3F0B5948, 0x3F0A137D] ++
  [0x3F08D677, 0x3F07A1D2, 0x3F067532, 0x3F05503E, 0x3F0432A5, 0x3F031C1A, 0x3F020C52, 0x3F01030A]

/-- R191: entry `j` of a table; every entry but the first is inexact (R193). -/
def tabAt (t : List Nat) (j : Nat) : StateM FlagSet Nat := do
  modify (· ||| flIf (decide (j ≠ 0)) flInexact)
  return t.getD j 0

/-! ### Helpers (R190): an intermediate step raises inexact alone (R193) -/

/-- A step's result, its inexactness noted. -/
def mid (r : Nat × FlagSet) : StateM FlagSet Nat := do
  modify (· ||| (r.2 &&& flInexact))
  return r.1

/-- The last step's result, its flags raised. -/
def last (r : Nat × FlagSet) : StateM FlagSet Nat := do
  modify (· ||| r.2)
  return r.1

/-- R190: Scale(v, n). Beyond 2^±400 every `n` gives the same result. -/
def scaleF32 (neg : Bool) (v : Nat) (n : Int) : Nat × FlagSet :=
  match Fmt.f32.decode v with
  | .fin s m e => Fmt.f32.round .rne false 0 (s != neg) m (e + max (-400) (min 400 n))
  | x => roundVal .f32 .rne false 0 (if neg then x.neg else x)

/-- FP32 codes of constants. -/
def c1 : Nat := 0x3F800000
def cNeg1 : Nat := 0xBF800000
def cK1 : Nat := 0x3F317218
def cK2 : Nat := 0x3E75FDF0
def cD1 : Nat := 0x3FB8AA3B
def cD2 : Nat := 0xBF38AA3B
/-- −2 × D1. -/
def cNeg2D1 : Nat := 0xC038AA3B
def c0375 : Nat := 0x3EC00000
def cNegHalf : Nat := 0xBF000000

/-- R190: Split of a finite nonzero magnitude `man × 2^exp`: the mantissa as an FP32 code in [1, 2), and e. -/
def split (man : Nat) (exp : Int) : Nat × Int :=
  let l := Nat.log2 man
  ((Fmt.f32.round .rne false 0 false man (-(l : Int))).1, exp + l)

/-- floor((m − 1) × 64) for an FP32 code in [1, 2). -/
def topSix (m : Nat) : Nat := m / 2 ^ 17 % 64

/-! ### The algorithms (R192) -/

/-- R192: `vrcp` of a finite nonzero value. -/
def rcpFin (neg : Bool) (man : Nat) (exp : Int) : StateM FlagSet Nat := do
  let (m, e) := split man exp
  let t ← tabAt tabRC (topSix m)
  let v ← mid (f32Fma m t cNeg1)
  let w ← mid (f32Add v cNeg1)
  let q ← mid (f32Fma v w c1)
  let r ← mid (f32Mul t q)
  last (scaleF32 neg r (-e))

/-- R192: `vrcp`. -/
def vrcpF32 (x : FVal) : StateM FlagSet Nat :=
  match x with
  | .nan _ => pure Fmt.f32.nan
  | .inf n => pure (Fmt.f32.signed n 0)
  | .fin n m e => if m = 0 then pure (Fmt.f32.signed n Fmt.f32.infCode) else rcpFin n m e

/-- R192: `vrsqrt`. -/
def vrsqrtF32 (x : FVal) : StateM FlagSet Nat :=
  match x with
  | .nan _ => pure Fmt.f32.nan
  | .inf n => if n then last (Fmt.f32.nan, flInvalid) else pure 0
  | .fin n man exp =>
    if man = 0 then pure (Fmt.f32.signed n Fmt.f32.infCode)
    else if n then last (Fmt.f32.nan, flInvalid)
    else do
      let (m0, e0) := split man exp
      let odd := decide (e0 % 2 ≠ 0)
      let m := if odd then m0 + 2 ^ 23 else m0
      let e := if odd then e0 - 1 else e0
      let j := (if odd then 32 else 0) + m0 / 2 ^ 18 % 32
      let t ← tabAt tabQS j
      let mt ← mid (f32Mul m t)
      let v ← mid (f32Fma mt t cNeg1)
      let w ← mid (f32Fma v c0375 cNegHalf)
      let q ← mid (f32Fma v w c1)
      let r ← mid (f32Mul t q)
      last (scaleF32 false r (-(e / 2)))

/-- R192: `vexp2`. -/
def vexp2F32 (x : FVal) : StateM FlagSet Nat :=
  match x with
  | .nan _ => pure Fmt.f32.nan
  | .inf n => pure (if n then 0 else Fmt.f32.infCode)
  | .fin neg man exp => do
    let (k, _) := roundInt .rne 0 neg man (exp + 6)
    let n := k / 64
    let j := (k % 64).toNat
    let (fn, fm, fe) := finAdd .rne neg man exp (decide (0 < k)) k.natAbs (-6)
    let f := (Fmt.f32.round .rne false 0 fn fm fe).1
    let w ← mid (f32Fma f cK2 cK1)
    let q ← mid (f32Fma f w c1)
    let t ← tabAt tabEX j
    let r ← mid (f32Mul t q)
    last (scaleF32 false r n)

/-- R192: `vlog2`. -/
def vlog2F32 (x : FVal) : StateM FlagSet Nat :=
  match x with
  | .nan _ => pure Fmt.f32.nan
  | .inf n => if n then last (Fmt.f32.nan, flInvalid) else pure Fmt.f32.infCode
  | .fin n man exp =>
    if man = 0 then pure (Fmt.f32.signed true Fmt.f32.infCode)
    else if n then last (Fmt.f32.nan, flInvalid)
    else do
      let (m, e) := split man exp
      let j := topSix m
      let t ← tabAt tabRC j
      let v ← mid (f32Fma m t cNeg1)
      let w1 ← mid (f32Fma v cD2 cD1)
      let w ← mid (f32Mul v w1)
      let g ← tabAt tabLG j
      let s ← mid (f32Add g w)
      last (addVal .f32 .rne false 0 (intVal e) (Fmt.f32.decode s))

/-- The result of an algorithm without its flags. -/
def quiet (m : StateM FlagSet Nat) : Nat := (m.run 0#5).1

/-- R192: `vtanh` of a value that is not a NaN. -/
def vtanhF32 (c : Nat) (x : FVal) : Nat :=
  if cmpVal x.abs (.fin false 1 (-12)) < 0 then c
  else if cmpVal x.abs (.fin false 9 0) ≥ 0 then Fmt.f32.signed x.isNeg c1
  else
    let u := (mulVal .f32 .rne 0 x.abs (Fmt.f32.decode cNeg2D1)).1
    let z := quiet (vexp2F32 (Fmt.f32.decode u))
    let r := quiet (vrcpF32 (Fmt.f32.decode (f32Add c1 z).1))
    (mulVal .f32 .rne 0 (if x.isNeg then (Fmt.f32.decode (f32Sub c1 z).1).neg else Fmt.f32.decode (f32Sub c1 z).1)
      (Fmt.f32.decode r)).1

/-- R192: `vsig` of a value that is not a NaN. -/
def vsigF32 (x : FVal) : Nat :=
  let u := (mulVal .f32 .rne 0 x.neg (Fmt.f32.decode cD1)).1
  let z := quiet (vexp2F32 (Fmt.f32.decode u))
  quiet (vrcpF32 (Fmt.f32.decode (f32Add c1 z).1))

/-- The six functions. -/
inductive SpecialFn where
  | rcp | rsqrt | exp2 | log2 | tanh | sig
  deriving DecidableEq, Repr

/-- R192, R193: a special function of an FP32 code, with its flags. -/
def specialF32 (fn : SpecialFn) (c : Nat) : Nat × FlagSet :=
  let x := Fmt.f32.decode c
  if x.isNaN then nanOf .f32 x.isSNaN
  else
    match fn with
    | .rcp => (vrcpF32 x).run 0#5
    | .rsqrt => (vrsqrtF32 x).run 0#5
    | .exp2 => (vexp2F32 x).run 0#5
    | .log2 => (vlog2F32 x).run 0#5
    | .tanh => (vtanhF32 c x, 0#5)
    | .sig => (vsigF32 x, 0#5)

/-- R190: a special function of an element of a format, widened exactly and rounded once more under RNE. -/
def specialVal (fn : SpecialFn) (f : Fmt) (c : Nat) : Nat × FlagSet :=
  if f = .f32 then specialF32 fn c
  else
    let w := cvtVal .f32 .rne true 0 (f.decode c)
    let r := specialF32 fn w.1
    let d := cvtVal f .rne true 0 (Fmt.f32.decode r.1)
    (d.1, w.2 ||| r.2 ||| d.2)

end Sys2Proof.Machine
end

