-- ==== Sys2Proof/Machine/Vector.lean ====
section
/-! DEFINITION. Vector instructions at issue (R169, R170, R177 to R187, R46): the forms, the checks, and taking an entry
of the sequencer. -/
namespace Sys2Proof.Machine

/-! ### The forms -/

/-- The operation names `sa`. -/
def VOp.usesA : VOp → Bool
  | .vfill | .viota => false
  | .hbind | .hperm | .hbund | .hthr | .hclr | .hld | .hst | .hmv | .hham | .hpopc | .hnot | .hgetb => false
  | _ => true

/-- The operation names `sb` as a shape. -/
def VOp.usesB : VOp → Bool
  | .vadd | .vsub | .vmul | .vfma | .vmin | .vmax | .vand | .vor | .vxor | .vcmpEq | .vcmpLt | .vcmpLe | .vsel
  | .vgath | .vscat | .vscatAdd | .vdot _ _ => true
  | _ => false

/-- The operation names `sd` as a shape. -/
def VOp.usesD : VOp → Bool
  | .hbind | .hperm | .hbund | .hthr | .hclr | .hld | .hst | .hmv | .hham | .hpopc | .hnot | .hgetb
  | .hsrch | .hsrchk => false
  | _ => true

/-- The operation also reads `sd`. -/
def VOp.readsD : VOp → Bool
  | .vfma | .vsel | .vscatAdd => true
  | .vdot _ acc => acc
  | _ => false

/-- R181: the row reductions. -/
def VOp.reduces : VOp → Bool
  | .vrsum | .vrmax | .vrmin | .vrargmax | .vrsumsq => true
  | _ => false

/-- R190: the special functions. -/
def VOp.special : VOp → Bool
  | .vrcp | .vrsqrt | .vexp2 | .vlog2 | .vtanh | .vsig => true
  | _ => false

/-- R177: the forms that accept `k`, but for `vcvt`. -/
def VOp.acceptsK : VOp → Bool
  | .vadd | .vsub | .vmul | .vfma | .vabs | .vneg | .vaddi | .vsubi | .vmuli | .vscatAdd => true
  | _ => false

/-! ### Widenings (R183) -/

/-- Every value of the first float format is a value of the second. -/
def Fmt.within (f g : Fmt) : Bool :=
  (!f.hasNaN || g.hasNaN) && (!f.hasInf || g.hasInf) && decide (f.mbits ≤ g.mbits) &&
    decide (f.bias + f.mbits ≤ g.bias + g.mbits) && decide (cmpVal (f.decode f.maxCode) (g.decode g.maxCode) ≤ 0)

/-- R183: a conversion that never rounds: every value of the source type is a value of the destination type. -/
def widening (a d : ETy) : Bool :=
  match a, d with
  | .flt f, .flt g => f.within g
  | .int sg w, .flt g =>
    decide ((if sg then w - 1 else w) ≤ g.mbits + 1) && decide (cmpVal (.fin false (2 ^ (if sg then w - 1 else w)) 0) (g.decode g.maxCode) ≤ 0)
  | .t2, .flt _ => true
  | .e8, .flt g => decide (g = .f32) || decide (g = .bf16)
  | .e8, .e8 => true
  | _, _ => false

/-- R45, R183: the conversion is a rounding. -/
def cvtRounds (a d : ETy) : Bool :=
  let fl (t : ETy) : Bool := match t with | .flt _ => true | .e8 => true | _ => false
  (fl a || fl d) && !widening a d

/-! ### Entries -/

/-- A shape for pass `p` of a loop (R188): the cursor of a masked shape moved on. -/
def Shape.forPass (x : Shape) (r mask dim p : Nat) : Shape :=
  if mask / 2 ^ r % 2 = 1 then x.advance dim (p * x.n dim) else x

def VEntry.shA (e : VEntry) : Shape := e.sa.forPass e.na e.mask e.dim e.pass
def VEntry.shB (e : VEntry) : Shape := e.sb.forPass e.nb e.mask e.dim e.pass
def VEntry.shD (e : VEntry) : Shape := e.sd.forPass e.nd e.mask e.dim e.pass

/-- An entry of an operation on shapes and g, before it is issued. -/
def VEntry.of (op : VOp) (na nb nd : Nat) : VEntry :=
  { id := 0, op := op, slot := 0, na := na, nb := nb, nd := nd, sa := Shape.zero, sb := Shape.zero, sd := Shape.zero,
    g := TV.zero, gd := 0, qs := [], k := false, o := false, mode := 0, tie := 0, hd := 0, ha := 0, hb := 0, y := 0, rm := 0#3,
    chk := false, draws := 0#32, perPass := 0, passes := 1, dim := 0, mask := 0, li := 0, members := 1, held := false,
    pass := 0, next := 0, fl := 0#5, popA := [], popB := [], pushD := [], res := [], started := false, faulted := [],
    retry := 0, bad := none, fenced := false }

/-- R66, R173: the general registers that an entry writes at its completion. -/
def VEntry.dests (e : VEntry) : List Nat :=
  match e.op with
  | .hsrch => [e.gd, e.gd + 1]
  | .hsrchk => [e.gd, e.gd + 1, e.gd + 2, e.gd + 3]
  | _ => if 1 ≤ e.gd ∧ e.gd ≤ 55 then [e.gd] else []

/-- The shapes that an entry names, in the order of R170: register number, record, read, written. -/
def VEntry.shapes (e : VEntry) : List (Nat × Shape × Bool × Bool) :=
  (if e.op.usesA then [(e.na, e.shA, true, false)] else []) ++
  (if e.op.usesB then [(e.nb, e.shB, true, false)] else []) ++
  (if e.op.usesD then [(e.nd, e.shD, e.op.readsD, true)] else [])

/-- R257: the q registers that an entry pops or pushes: those of its channel shapes, and that of a g result. -/
def VEntry.queues (e : VEntry) : List Nat :=
  (e.shapes.filter (fun x => x.2.1.chn)).map (fun x => x.2.1.qn) ++ (if 56 ≤ e.gd then [e.gd - 56] else [])

/-! ### R170 item 2: types, counts and options -/

/-- R187: the operand types of a pair. -/
def pairTypes (p : Pair) (a b : ETy) : Bool :=
  let six (t : ETy) : Bool := decide (t = .flt .e2m3) || decide (t = .flt .e3m2)
  match p with
  | .f4f4 => decide (a = .flt .e2m1) && decide (b = .flt .e2m1)
  | .f6f6 => six a && six b
  | .f6f4 => decide (a = .flt .e2m1) && six b
  | .e4e4 => decide (a = .flt .e4m3) && decide (b = .flt .e4m3)
  | .e5e5 => decide (a = .flt .e5m2) && decide (b = .flt .e5m2)
  | .i8i8 => decide (a = .int true 8) && decide (b = .int true 8)
  | .i8t2 => decide (a = .int true 8) && decide (b = .t2)
  | .bfbf => decide (a = .flt .bf16) && decide (b = .flt .bf16)

/-- R37: an integer pair. -/
def Pair.isInt : Pair → Bool
  | .i8i8 => true
  | .i8t2 => true
  | _ => false

/-- R37: a pair whose operands carry block scales. -/
def Pair.isMx : Pair → Bool
  | .i8i8 => false
  | .i8t2 => false
  | .bfbf => false
  | _ => true

/-- R186: the type of an index shape. -/
def ETy.isIndex (t : ETy) : Bool := decide (t = .int true 32) || decide (t = .int false 32)

/-- R170 item 2: the description of the operation is met. -/
def VEntry.fits (e : VEntry) : Bool :=
  let a := e.shA
  let b := e.shB
  let d := e.shD
  let ta := a.ty
  let tb := b.ty
  let td := d.ty
  let plain := !a.mx && !b.mx && !d.mx
  let sameAD := decide (ta = td) && decide (a.count = d.count) && plain
  let same3 := sameAD && decide (tb = td) && decide (b.count = d.count)
  let kOk := !e.k || td.isInt
  match e.op with
  | .vadd | .vsub | .vmul | .vfma | .vmin | .vmax => same3 && td.arith && kOk
  | .vabs | .vneg | .vaddi | .vsubi | .vmuli => sameAD && td.arith && kOk
  | .vrcp | .vrsqrt | .vexp2 | .vlog2 | .vtanh | .vsig => sameAD && td.isFloat
  | .vand | .vor | .vxor | .vcmpEq | .vcmpLt | .vcmpLe | .vsel => same3 && td.arith
  | .vshl | .vshr | .vsra | .vsat => sameAD && td.isInt
  | .vclamp => sameAD && td.arith
  | .vfill => plain && decide (td ≠ .hv)
  | .vcopy => sameAD && decide (td ≠ .hv)
  | .viota => plain && td.isInt
  | .vrsum => plain && decide (d.count = a.rows) &&
      (if ta.isFloat then decide (td = .flt .f32) else ta.isInt && decide (td = .int true 32))
  | .vrsumsq => plain && decide (d.count = a.rows) && ta.isFloat && decide (td = .flt .f32)
  | .vrmax | .vrmin => plain && decide (d.count = a.rows) && ta.arith && decide (td = ta)
  | .vrargmax => plain && decide (d.count = a.rows) && ta.arith && decide (td = .int false 32)
  | .vcvt => plain && decide (a.count = d.count) && decide (ta ≠ .hv) && decide (td ≠ .hv) &&
      (!e.k || td.isInt || decide (td = .t2)) && (!e.o || decide (td = .flt .e4m3) || decide (td = .flt .e5m2))
  | .vquant => !a.mx && d.mx && ta.isFloat && decide (a.n 0 = d.n 0) && decide (a.count = d.count) &&
      (!e.o || decide (td = .flt .e4m3) || decide (td = .flt .e5m2))
  | .vdequant => a.mx && !d.mx && td.isFloat && decide (a.count = d.count)
  | .vgath => plain && ta.isIndex && decide (tb = td) && decide (td ≠ .hv) && decide (a.count = d.count)
  | .vscat => plain && ta.isIndex && decide (tb = td) && decide (td ≠ .hv) && decide (a.count = b.count)
  | .vscatAdd => plain && ta.isIndex && decide (tb = td) && td.arith && decide (a.count = b.count) && kOk
  | .vdot p _ => pairTypes p ta tb && decide (a.n 0 = b.n 0) && decide (a.rows = b.rows) && decide (d.count = a.rows) &&
      !d.mx && decide (td = if p.isInt then .int true 32 else .flt .f32) && decide (a.n 0 % 32 = 0)
  | .hsrch | .hsrchk => decide (ta = .hv) && !a.chn && !a.mx && decide (a.count < 2 ^ 32)
  | .hsrcht => decide (ta = .hv) && !a.chn && !a.mx && decide (a.count < 2 ^ 32) && td.isIndex && !d.chn &&
      !spansMeet a.spans d.spans
  | _ => true

/-! ### R170 items 3 to 5 -/

/-- R254, R170 item 3: the failure of a channel shape's binding. -/
def bindFail (t : Strand) (x : Shape) (rd wr : Bool) : Option (Nat × Nat) :=
  if !x.chn then none
  else
    match kfind x.qn t.q with
    | none => some (0x0C, x.qn)
    | some b => if (rd && !b.pop) || (wr && b.pop) then some (0x14, x.qn) else none

/-- R142, R278, R279: what the issuing core refuses in bytes `[x, x + n)`, its own boundary apart. -/
def State.spaceFail (s : State) (k : Nat) (p : Int × Int) : Option Nat :=
  let x := p.1.toNat
  let n := (p.2 - p.1).toNat
  if x < 2 ^ 63 then (if (x + n - 1) / 2 ^ 57 ≠ 0 then some 0x04 else none)
  else
    match x / 2 ^ 60 % 8 with
    | 0 =>
      let row := x / 2 ^ 53 % 32
      let col := x / 2 ^ 49 % 16
      if x / 2 ^ 19 % 2 ^ 30 ≠ 0 ∨ 2 ^ 19 < x % 2 ^ 19 + n then some 0x04
      else if row ≤ 19 then none
      else if privileged k && decide (row ≤ 21) && decide (6 ≤ col) && decide (col ≤ 9) then none else some 0x04
    | 1 => if x / 2 ^ 47 % 2 ^ 13 ≠ 0 ∨ s.windowOf (s.partOfCore k) < x % 2 ^ 47 + n then some 0x04 else none
    | 4 => if privileged k then none else some 0x05
    | 2 => some 0x05
    | 3 => some 0x05
    | _ => some 0x04

/-- R170 item 4: the footprint of one shape. -/
def State.footFail (s : State) (k : Nat) (x : Shape) (rd wr : Bool) : Option (Nat × Nat) :=
  if x.chn then none
  else
    let sp := x.spans
    let lo := spansLow sp
    let a := (lo % 2 ^ 64).toNat
    let perm := (if rd then permLoad else 0) ||| (if wr then permStore else 0)
    let c := x.cap
    if !c.tag then some (0x03, a)
    else if !capHas c perm || (capHas c permLocal && decide (lo < 2 ^ 63)) then some (0x05, a)
    else if decide (lo < capBase c) || decide (capTop c < spansHigh sp) then some (0x04, a)
    else (sp.findSome? (s.spaceFail k)).map (fun cause => (cause, a))

/-- R170 item 5: the footprint lies in the core's own scratchpad below its boundary. The item states no TRAPVAL: it is the lowest
address of the footprint, as in item 4 (DESIGN CHOICE, log 77). -/
def State.boundFail (s : State) (k : Nat) (x : Shape) : Option (Nat × Nat) :=
  if x.chn then none
  else
    let sp := x.spans
    if sp.any (fun p => decide (spadCore p.1.toNat = k) && s.belowBound p.1.toNat) then
      some (0x05, (spansLow sp % 2 ^ 64).toNat)
    else none

/-- R170: the first check of an entry that fails, with its TRAPVAL. -/
def State.entryFail (s : State) (k : Nat) (t : Strand) (e : VEntry) : Option (Nat × Nat) :=
  let sh := e.shapes
  ((sh.findSome? (fun x => if x.2.1.valid then none else some (0x0D, x.1))).or
   (if e.fits then none else some (0x0D, e.nd))).or
  ((sh.findSome? (fun x => bindFail t x.2.1 x.2.2.1 x.2.2.2)).or
   ((sh.findSome? (fun x => s.footFail k x.2.1 x.2.2.1 x.2.2.2)).or
    (sh.findSome? (fun x => s.boundFail k x.2.1))))

/-! ### Draws (R46) -/

/-- R45, R46: the draws that one pass of an entry takes under SR. -/
def VEntry.drawsPerPass (e : VEntry) : Nat :=
  let fl : Bool := match e.sd.ty with | .flt _ => true | _ => false
  match e.op with
  | .vadd | .vsub | .vmul | .vfma | .vaddi | .vsubi | .vmuli => if fl then e.sd.count else 0
  | .vscatAdd => if fl then e.sa.count else 0
  | .vcvt => if cvtRounds e.sa.ty e.sd.ty then e.sd.count else 0
  | .vquant | .vdequant => e.sd.count
  | _ => 0

/-! ### Issue (R169) -/

/-- R188: entries that the loops of the core's strands have been granted and not yet taken. -/
def Core.reservedEntries (c : Core) : Nat := (c.slots.map (fun x => (x.2.loop.map (fun l => l.n - l.issued)).getD 0)).sum

/-- R169, R189: the free entries of a core. -/
def Core.freeEntries (c : Core) : Nat := 16 - c.seq.length - c.reservedEntries

/-- R173: a recorded failure is taken. -/
def takeRecorded : M Unit := do
  let t ← getStrand
  if let some f := t.seqFail then trap f.1 (BitVec.ofNat 64 f.2)

/-- R188: the body of a loop is complete: its entries run, and the masked registers move on. -/
def Strand.loopDone (t : Strand) (l : LoopState) : Strand :=
  { t with loop := none,
           sh := ((List.range 16).filter (fun i => decide (l.mask / 2 ^ i % 2 = 1))).foldl (fun (m : List (Nat × Shape)) i =>
             let x := kget Shape.zero i m
             kput Shape.zero i (x.advance l.dim (l.count * x.n l.dim)) m) t.sh }

/-- R188: the entry takes its place in the loop whose body the strand issues, if any. -/
def VEntry.inLoop (e : VEntry) (l : Option LoopState) : VEntry :=
  match l with
  | none => e
  | some l => { e with passes := l.count, dim := l.dim, mask := l.mask, li := l.issued, members := l.n, held := true }

/-- R188: one more body instruction has issued. -/
def loopIssued : M Unit := do
  let t ← getStrand
  match t.loop with
  | none => pure ()
  | some l =>
    if l.issued + 1 < l.n then modStrand (fun t => { t with loop := some { l with issued := l.issued + 1 } })
    else
      let s ← get
      let sl := s.turn.2
      modCore (fun c => { c with seq := c.seq.map (fun e => if e.slot = sl then { e with held := false } else e) })
      modStrand (fun t => t.loopDone l)

/-- R169: the copy of a shape register that an entry receives: of one that its instruction names. -/
def Strand.shapeNamed (t : Strand) (named : Bool) (r : Nat) : Shape := if named then t.getSh r else Shape.zero

/-- R169, R170, R46: the entry is checked and taken: copies of the shapes it names, the modes and the draws of its issue.
It waits where a value is still to be pushed to a q register that it moves (R257). -/
def issueEntry (e0 : VEntry) : M Unit := do
  shapesFree ((if e0.op.usesA then [e0.na] else []) ++ (if e0.op.usesB then [e0.nb] else []) ++ if e0.op.usesD then [e0.nd] else [])
  let t ← getStrand
  let s ← get
  let k := s.turn.1
  let e1 : VEntry := { e0 with
    sa := t.shapeNamed e0.op.usesA e0.na, sb := t.shapeNamed e0.op.usesB e0.nb, sd := t.shapeNamed e0.op.usesD e0.nd, slot := s.turn.2, id := s.nextAccess,
    rm := t.rm, chk := t.chk }
  let e2 := e1.inLoop t.loop
  if let some f := s.entryFail k t e2 then trap f.1 (BitVec.ofNat 64 f.2)
  if e2.queues.any (fun q => decide (q + 56 ∈ t.busy)) then waitFor .inSlot
  let c ← getCore
  let per := if t.mode = .sr then e2.drawsPerPass else 0
  let e3 := { e2 with draws := c.srSeed, perPass := per, qs := e2.queues }
  modState (fun s => { s with nextAccess := s.nextAccess + 1 })
  modCore (fun c => { c with seq := c.seq ++ [e3], srSeed := lfsrSkip (per * e3.passes) c.srSeed })
  loopIssued

/-- R64, R173: before its own conditions an instruction that takes an entry checks the q registers it names; the first of
these conditions is a recorded failure. -/
def vectorFirst (fields : List (BitVec 6)) : M Unit := do
  boundFirst fields
  takeRecorded

/-- R169: an entry must be free. -/
def needEntry : M Unit := do
  let t ← getStrand
  let c ← getCore
  if t.loop.isNone && decide (c.freeEntries = 0) then waitFor .inSlot

/-- The meaning of a vector instruction without a g operand. -/
def vecPlain (e : VEntry) (s : State) : Host.Outcome State Fault Refusal :=
  runInstr 0 (do
    vectorFirst []
    let _ ← operands [] []
    needEntry
    issueEntry e
    return .next) s

/-- The meaning of a vector instruction whose g operand is read or popped once. -/
def vecScalar (e : VEntry) (g : BitVec 6) (s : State) : Host.Outcome State Fault Refusal :=
  runInstr 0 (do
    vectorFirst [g]
    let v ← operand1 g []
    needEntry
    issueEntry { e with g := v }
    return .next) s

/-- R181: the meaning of a row reduction; a nonzero `g` receives the last row's result, interlocked. -/
def vecReduce (op : VOp) (d a : BitVec 4) (g : BitVec 6) (s : State) : Host.Outcome State Fault Refusal :=
  runInstr 0 (do
    vectorFirst [g]
    let _ ← operands [] (if g = 0#6 then [] else [g])
    needEntry
    issueEntry { VEntry.of op a.toNat 0 d.toNat with gd := g.toNat }
    if !isQ g then hold g.toNat
    return .next) s

/-- Three shapes. -/
def v3 (op : VOp) (d a b : BitVec 4) : VEntry := VEntry.of op a.toNat b.toNat d.toNat

/-- Two shapes. -/
def v2 (op : VOp) (d a : BitVec 4) : VEntry := VEntry.of op a.toNat 0 d.toNat

/-- The option bit set. -/
def VEntry.withK (e : VEntry) (k : BitVec 1) : VEntry := { e with k := k.getLsbD 0 }
def VEntry.withO (e : VEntry) (o : BitVec 1) : VEntry := { e with o := o.getLsbD 0 }

/-! ### R178 to R187 -/

/-- `vadd`, R178. -/
def execVadd (d a b : BitVec 4) (k : BitVec 1) (s : State) : Host.Outcome State Fault Refusal :=
  vecPlain ((v3 .vadd d a b).withK k) s

/-- `vsub`, R178. -/
def execVsub (d a b : BitVec 4) (k : BitVec 1) (s : State) : Host.Outcome State Fault Refusal :=
  vecPlain ((v3 .vsub d a b).withK k) s

/-- `vmul`, R178. -/
def execVmul (d a b : BitVec 4) (k : BitVec 1) (s : State) : Host.Outcome State Fault Refusal :=
  vecPlain ((v3 .vmul d a b).withK k) s

/-- `vfma`, R178. -/
def execVfma (d a b : BitVec 4) (k : BitVec 1) (s : State) : Host.Outcome State Fault Refusal :=
  vecPlain ((v3 .vfma d a b).withK k) s

/-- `vmin`, R178. -/
def execVmin (d a b : BitVec 4) (s : State) : Host.Outcome State Fault Refusal :=
  vecPlain (v3 .vmin d a b) s

/-- `vmax`, R178. -/
def execVmax (d a b : BitVec 4) (s : State) : Host.Outcome State Fault Refusal :=
  vecPlain (v3 .vmax d a b) s

/-- `vabs`, R178. -/
def execVabs (d a : BitVec 4) (k : BitVec 1) (s : State) : Host.Outcome State Fault Refusal :=
  vecPlain ((v2 .vabs d a).withK k) s

/-- `vneg`, R178. -/
def execVneg (d a : BitVec 4) (k : BitVec 1) (s : State) : Host.Outcome State Fault Refusal :=
  vecPlain ((v2 .vneg d a).withK k) s

/-- `vrcp`, R192. -/
def execVrcp (d a : BitVec 4) (s : State) : Host.Outcome State Fault Refusal :=
  vecPlain (v2 .vrcp d a) s

/-- `vrsqrt`, R192. -/
def execVrsqrt (d a : BitVec 4) (s : State) : Host.Outcome State Fault Refusal :=
  vecPlain (v2 .vrsqrt d a) s

/-- `vexp2`, R192. -/
def execVexp2 (d a : BitVec 4) (s : State) : Host.Outcome State Fault Refusal :=
  vecPlain (v2 .vexp2 d a) s

/-- `vlog2`, R192. -/
def execVlog2 (d a : BitVec 4) (s : State) : Host.Outcome State Fault Refusal :=
  vecPlain (v2 .vlog2 d a) s

/-- `vtanh`, R192. -/
def execVtanh (d a : BitVec 4) (s : State) : Host.Outcome State Fault Refusal :=
  vecPlain (v2 .vtanh d a) s

/-- `vsig`, R192. -/
def execVsig (d a : BitVec 4) (s : State) : Host.Outcome State Fault Refusal :=
  vecPlain (v2 .vsig d a) s

/-- `vaddi`, R179. -/
def execVaddi (d a : BitVec 4) (g : BitVec 6) (k : BitVec 1) (s : State) : Host.Outcome State Fault Refusal :=
  vecScalar ((v2 .vaddi d a).withK k) g s

/-- `vsubi`, R179. -/
def execVsubi (d a : BitVec 4) (g : BitVec 6) (k : BitVec 1) (s : State) : Host.Outcome State Fault Refusal :=
  vecScalar ((v2 .vsubi d a).withK k) g s

/-- `vmuli`, R179. -/
def execVmuli (d a : BitVec 4) (g : BitVec 6) (k : BitVec 1) (s : State) : Host.Outcome State Fault Refusal :=
  vecScalar ((v2 .vmuli d a).withK k) g s

/-- `vand`, R179. -/
def execVand (d a b : BitVec 4) (s : State) : Host.Outcome State Fault Refusal :=
  vecPlain (v3 .vand d a b) s

/-- `vor`, R179. -/
def execVor (d a b : BitVec 4) (s : State) : Host.Outcome State Fault Refusal :=
  vecPlain (v3 .vor d a b) s

/-- `vxor`, R179. -/
def execVxor (d a b : BitVec 4) (s : State) : Host.Outcome State Fault Refusal :=
  vecPlain (v3 .vxor d a b) s

/-- `vshl`, R179. -/
def execVshl (d a : BitVec 4) (g : BitVec 6) (s : State) : Host.Outcome State Fault Refusal :=
  vecScalar (v2 .vshl d a) g s

/-- `vshr`, R179. -/
def execVshr (d a : BitVec 4) (g : BitVec 6) (s : State) : Host.Outcome State Fault Refusal :=
  vecScalar (v2 .vshr d a) g s

/-- `vsra`, R179. -/
def execVsra (d a : BitVec 4) (g : BitVec 6) (s : State) : Host.Outcome State Fault Refusal :=
  vecScalar (v2 .vsra d a) g s

/-- `vsat`, R179. -/
def execVsat (d a : BitVec 4) (g : BitVec 6) (s : State) : Host.Outcome State Fault Refusal :=
  vecScalar (v2 .vsat d a) g s

/-- `vcmp.eq`, R180. -/
def execVcmpEq (d a b : BitVec 4) (s : State) : Host.Outcome State Fault Refusal :=
  vecPlain (v3 .vcmpEq d a b) s

/-- `vcmp.lt`, R180. -/
def execVcmpLt (d a b : BitVec 4) (s : State) : Host.Outcome State Fault Refusal :=
  vecPlain (v3 .vcmpLt d a b) s

/-- `vcmp.le`, R180. -/
def execVcmpLe (d a b : BitVec 4) (s : State) : Host.Outcome State Fault Refusal :=
  vecPlain (v3 .vcmpLe d a b) s

/-- `vsel`, R180. -/
def execVsel (d a b : BitVec 4) (s : State) : Host.Outcome State Fault Refusal :=
  vecPlain (v3 .vsel d a b) s

/-- `vfill`, R180. -/
def execVfill (d : BitVec 4) (g : BitVec 6) (s : State) : Host.Outcome State Fault Refusal :=
  vecScalar (v2 .vfill d 0#4) g s

/-- `viota`, R180. -/
def execViota (d : BitVec 4) (g : BitVec 6) (s : State) : Host.Outcome State Fault Refusal :=
  vecScalar (v2 .viota d 0#4) g s

/-- `vcopy`, R180. -/
def execVcopy (d a : BitVec 4) (s : State) : Host.Outcome State Fault Refusal :=
  vecPlain (v2 .vcopy d a) s

/-- `vclamp`, R180. -/
def execVclamp (d a : BitVec 4) (g : BitVec 6) (s : State) : Host.Outcome State Fault Refusal :=
  vecScalar (v2 .vclamp d a) g s

/-- `vrsum`, R181. -/
def execVrsum (d a : BitVec 4) (g : BitVec 6) (s : State) : Host.Outcome State Fault Refusal :=
  vecReduce .vrsum d a g s

/-- `vrmax`, R182. -/
def execVrmax (d a : BitVec 4) (g : BitVec 6) (s : State) : Host.Outcome State Fault Refusal :=
  vecReduce .vrmax d a g s

/-- `vrmin`, R182. -/
def execVrmin (d a : BitVec 4) (g : BitVec 6) (s : State) : Host.Outcome State Fault Refusal :=
  vecReduce .vrmin d a g s

/-- `vrargmax`, R182. -/
def execVrargmax (d a : BitVec 4) (g : BitVec 6) (s : State) : Host.Outcome State Fault Refusal :=
  vecReduce .vrargmax d a g s

/-- `vrsumsq`, R181. -/
def execVrsumsq (d a : BitVec 4) (g : BitVec 6) (s : State) : Host.Outcome State Fault Refusal :=
  vecReduce .vrsumsq d a g s

/-- `vcvt`, R183. -/
def execVcvt (d a : BitVec 4) (o k : BitVec 1) (s : State) : Host.Outcome State Fault Refusal :=
  vecPlain (((v2 .vcvt d a).withK k).withO o) s

/-- `vquant`, R184. -/
def execVquant (d a : BitVec 4) (o : BitVec 1) (s : State) : Host.Outcome State Fault Refusal :=
  vecPlain ((v2 .vquant d a).withO o) s

/-- `vdequant`, R185. -/
def execVdequant (d a : BitVec 4) (s : State) : Host.Outcome State Fault Refusal :=
  vecPlain (v2 .vdequant d a) s

/-- `vgath`, R186. -/
def execVgath (d a b : BitVec 4) (s : State) : Host.Outcome State Fault Refusal :=
  vecPlain (v3 .vgath d a b) s

/-- `vscat`, R186. -/
def execVscat (d a b : BitVec 4) (s : State) : Host.Outcome State Fault Refusal :=
  vecPlain (v3 .vscat d a b) s

/-- `vscat.add`, R186. -/
def execVscatAdd (d a b : BitVec 4) (k : BitVec 1) (s : State) : Host.Outcome State Fault Refusal :=
  vecPlain ((v3 .vscatAdd d a b).withK k) s

/-- `vdot.f4f4`, R187. -/
def execVdotF4f4 (d a b : BitVec 4) (g : BitVec 6) (s : State) : Host.Outcome State Fault Refusal :=
  vecScalar (v3 (.vdot .f4f4 false) d a b) g s

/-- `vdota.f4f4`, R187. -/
def execVdotaF4f4 (d a b : BitVec 4) (g : BitVec 6) (s : State) : Host.Outcome State Fault Refusal :=
  vecScalar (v3 (.vdot .f4f4 true) d a b) g s

/-- `vdot.f6f6`, R187. -/
def execVdotF6f6 (d a b : BitVec 4) (g : BitVec 6) (s : State) : Host.Outcome State Fault Refusal :=
  vecScalar (v3 (.vdot .f6f6 false) d a b) g s

/-- `vdota.f6f6`, R187. -/
def execVdotaF6f6 (d a b : BitVec 4) (g : BitVec 6) (s : State) : Host.Outcome State Fault Refusal :=
  vecScalar (v3 (.vdot .f6f6 true) d a b) g s

/-- `vdot.f6f4`, R187. -/
def execVdotF6f4 (d a b : BitVec 4) (g : BitVec 6) (s : State) : Host.Outcome State Fault Refusal :=
  vecScalar (v3 (.vdot .f6f4 false) d a b) g s

/-- `vdota.f6f4`, R187. -/
def execVdotaF6f4 (d a b : BitVec 4) (g : BitVec 6) (s : State) : Host.Outcome State Fault Refusal :=
  vecScalar (v3 (.vdot .f6f4 true) d a b) g s

/-- `vdot.e4e4`, R187. -/
def execVdotE4e4 (d a b : BitVec 4) (g : BitVec 6) (s : State) : Host.Outcome State Fault Refusal :=
  vecScalar (v3 (.vdot .e4e4 false) d a b) g s

/-- `vdota.e4e4`, R187. -/
def execVdotaE4e4 (d a b : BitVec 4) (g : BitVec 6) (s : State) : Host.Outcome State Fault Refusal :=
  vecScalar (v3 (.vdot .e4e4 true) d a b) g s

/-- `vdot.e5e5`, R187. -/
def execVdotE5e5 (d a b : BitVec 4) (g : BitVec 6) (s : State) : Host.Outcome State Fault Refusal :=
  vecScalar (v3 (.vdot .e5e5 false) d a b) g s

/-- `vdota.e5e5`, R187. -/
def execVdotaE5e5 (d a b : BitVec 4) (g : BitVec 6) (s : State) : Host.Outcome State Fault Refusal :=
  vecScalar (v3 (.vdot .e5e5 true) d a b) g s

/-- `vdot.i8i8`, R187. -/
def execVdotI8i8 (d a b : BitVec 4) (s : State) : Host.Outcome State Fault Refusal :=
  vecPlain (v3 (.vdot .i8i8 false) d a b) s

/-- `vdota.i8i8`, R187. -/
def execVdotaI8i8 (d a b : BitVec 4) (s : State) : Host.Outcome State Fault Refusal :=
  vecPlain (v3 (.vdot .i8i8 true) d a b) s

/-- `vdot.i8t2`, R187. -/
def execVdotI8t2 (d a b : BitVec 4) (s : State) : Host.Outcome State Fault Refusal :=
  vecPlain (v3 (.vdot .i8t2 false) d a b) s

/-- `vdota.i8t2`, R187. -/
def execVdotaI8t2 (d a b : BitVec 4) (s : State) : Host.Outcome State Fault Refusal :=
  vecPlain (v3 (.vdot .i8t2 true) d a b) s

/-- `vdot.bfbf`, R187. -/
def execVdotBfbf (d a b : BitVec 4) (s : State) : Host.Outcome State Fault Refusal :=
  vecPlain (v3 (.vdot .bfbf false) d a b) s

/-- `vdota.bfbf`, R187. -/
def execVdotaBfbf (d a b : BitVec 4) (s : State) : Host.Outcome State Fault Refusal :=
  vecPlain (v3 (.vdot .bfbf true) d a b) s

/-! ### R188: op 0x47 -/

/-- `vloop`, R188. -/
def execVloop (a b : BitVec 6) (sc : BitVec 2) (s : State) : Host.Outcome State Fault Refusal :=
  runInstr sc.toNat (do
    let (x, y) ← operand2 a b []
    let k := x.lo.toNat % 2 ^ 32
    let w := y.lo.toNat
    let n := w % 16 + 1
    let t ← getStrand
    if k = 0 then return .jump (setAddr t.pcc ((t.pc.toNat + 4 + 4 * n) % 2 ^ 64))
    let c ← getCore
    if c.freeEntries < n then waitFor .inSlot
    modStrand (fun t => { t with loop := some ⟨n, k, w / 2 ^ 4 % 4, w / 2 ^ 6 % 2 ^ 16, 0⟩ })
    return .next) s

/-- `vwait`, R188: a blocking wait (R127). -/
def execVwait (sc : BitVec 2) (s : State) : Host.Outcome State Fault Refusal :=
  runInstr sc.toNat (do
    takeRecorded
    let s ← get
    if s.hasEntries s.turn.1 s.turn.2 then waitFor .blocking
    return .next) s

/-- `vfence`, R188. -/
def execVfence (sc : BitVec 2) (s : State) : Host.Outcome State Fault Refusal :=
  runInstr sc.toNat (do
    takeRecorded
    let s ← get
    let sl := s.turn.2
    modCore (fun c => { c with seq := c.seq.map (fun e => if e.slot = sl then { e with fenced := true } else e) })
    return .next) s

/-- `vstat`, R189. -/
def execVstat (d : BitVec 6) (sc : BitVec 2) (s : State) : Host.Outcome State Fault Refusal :=
  runInstr sc.toNat (do
    let _ ← operands [] [d]
    let t ← getStrand
    let c ← getCore
    let s ← get
    let own := (c.seq.filter (fun e => decide (e.slot = s.turn.2))).length
    let fail := match t.seqFail with
      | some f => 2 ^ 10 + f.1 % 256 * 2 ^ 16
      | none => 0
    result d 0 (TV.ofNat (own + c.freeEntries * 2 ^ 5 + fail))
    return .next) s

/-- R188: the entry has not started. -/
def VEntry.unstarted (e : VEntry) : Bool := decide (e.pass = 0) && !e.started

/-- R188: an entry after `vcancel`: the pass that runs is its last; a pass not started is none. -/
def VEntry.lastPass (e : VEntry) : VEntry := { e with passes := if e.started then e.pass + 1 else e.pass }

/-- `vcancel`, R188: the registers that discarded entries were to write keep their values; what is counted is DEDUCED
(log 23). -/
def execVcancel (d : BitVec 6) (sc : BitVec 2) (s : State) : Host.Outcome State Fault Refusal :=
  runInstr sc.toNat (do
    let _ ← operands [] [d]
    let s ← get
    let sl := s.turn.2
    let gone := (s.core s.turn.1).seq.filter (fun e => decide (e.slot = sl) && e.unstarted)
    modCore (fun c => { c with seq := (c.seq.filter (fun e => !(decide (e.slot = sl) && e.unstarted))).map (fun e =>
      if e.slot = sl then e.lastPass else e) })
    modStrand (fun t => { t with busy := gone.foldl (fun (b : List Nat) e => e.dests.foldl (fun (b : List Nat) r => b.erase r) b) t.busy })
    result d 0 (TV.ofNat gone.length)
    return .next) s

end Sys2Proof.Machine
end

