-- ==== Sys2Proof/Machine/Elem.lean ====
section
/-! DEFINITION. Results of the vector operations on elements, as codes (R178 to R187): each with its flags. -/
namespace Sys2Proof.Machine

/-! ### Integers -/

/-- The value of an integer element. -/
def intOf (sg : Bool) (w c : Nat) : Int := if sg then signedOf w (c % 2 ^ w) else (c % 2 ^ w : Nat)

/-- R30: the least and the greatest value of an integer type. -/
def intMin (sg : Bool) (w : Nat) : Int := if sg then -(2 ^ (w - 1)) else 0
def intMax (sg : Bool) (w : Nat) : Int := if sg then 2 ^ (w - 1) - 1 else 2 ^ w - 1

/-- The code of an integer, wrapped. -/
def intCode (w : Nat) (v : Int) : Nat := (v % 2 ^ w).toNat

/-- R30, R177: an exact integer result: wrapped, or clamped under `k` with the saturation flag. -/
def narrowInt (sg : Bool) (w : Nat) (k : Bool) (v : Int) : Nat × FlagSet :=
  if k then
    let (x, c) := clampInt (intMin sg w) (intMax sg w) v
    (intCode w x, flIf c flSaturation)
  else (intCode w v, 0#5)

/-! ### R178, R179: arithmetic -/

/-- The sum, difference or product of two elements, or the fused form with a third. -/
def arith (op : VOp) (t : ETy) (k : Bool) (rm : RMode) (draw a b d : Nat) : Nat × FlagSet :=
  match t with
  | .int sg w =>
    let x := intOf sg w a
    let y := intOf sg w b
    narrowInt sg w k (match op with
      | .vsub | .vsubi => x - y
      | .vmul | .vmuli => x * y
      | .vfma => x * y + intOf sg w d
      | _ => x + y)
  | .flt f =>
    let x := f.decode a
    let y := f.decode b
    match op with
    | .vsub | .vsubi => addVal f rm false draw x y.neg
    | .vmul | .vmuli => mulVal f rm draw x y
    | .vfma => fmaVal f rm draw x y (f.decode d)
    | _ => addVal f rm false draw x y
  | _ => (0, 0#5)

/-- R178, R182, R114: the minimum or maximum of two elements. -/
def minMax (wantMax : Bool) (t : ETy) (a b : Nat) : Nat × FlagSet :=
  match t with
  | .int sg w => ((if (if wantMax then decide (intOf sg w a < intOf sg w b) else decide (intOf sg w b < intOf sg w a)) then b
      else a), 0#5)
  | .flt f => minMaxVal f wantMax a b
  | _ => (a, 0#5)

/-- R178: |a| or −a. -/
def signOp (neg : Bool) (t : ETy) (k : Bool) (a : Nat) : Nat × FlagSet :=
  match t with
  | .int sg w => let x := intOf sg w a; narrowInt sg w k (if neg then -x else x.natAbs)
  | .flt f =>
    let s := 2 ^ (f.width - 1)
    ((if neg then (a + s) % (2 * s) else a % s), 0#5)
  | _ => (a, 0#5)

/-- R179: bitwise forms and shifts. -/
def bitOp (op : VOp) (w a b : Nat) : Nat :=
  match op with
  | .vand => a &&& b
  | .vor => a ||| b
  | .vxor => a ^^^ b
  | .vshl => a * 2 ^ (b % w) % 2 ^ w
  | .vshr => a / 2 ^ (b % w)
  | .vsra => intCode w (signedOf w a / 2 ^ (b % w))
  | _ => a

/-- R179: `vsat`. -/
def satOp (sg : Bool) (w a g : Nat) : Nat × FlagSet :=
  let p := g % 64
  if p = 0 ∨ w ≤ p then (a, 0#5)
  else
    let (x, c) := clampInt (intMin sg p) (intMax sg p) (intOf sg w a)
    (intCode w x, flIf c flSaturation)

/-! ### R180: comparisons and data -/

/-- R180: whether a relation holds. -/
def relation (op : VOp) (t : ETy) (a b : Nat) : Bool × FlagSet :=
  match t with
  | .int sg w =>
    let x := intOf sg w a
    let y := intOf sg w b
    ((match op with
      | .vcmpEq => decide (x = y)
      | .vcmpLt => decide (x < y)
      | _ => decide (x ≤ y)), 0#5)
  | .flt f =>
    let x := f.decode a
    let y := f.decode b
    match op with
    | .vcmpEq => eqVal x y
    | .vcmpLt => ltVal false x y
    | _ => ltVal true x y
  | _ => (false, 0#5)

/-- R35, R180: bits copied; the t2 code 10 becomes 00 and sets invalid. -/
def copyBits (t : ETy) (a : Nat) : Nat × FlagSet :=
  match t with
  | .t2 => if a % 4 = 2 then (0, flInvalid) else (a % 4, 0#5)
  | t => (a % 2 ^ t.bits, 0#5)

/-- R180: `vclamp`. -/
def clampOp (t : ETy) (a g : Nat) : Nat × FlagSet :=
  let w := t.bits
  let x := minMax true t a (g % 2 ^ w)
  let y := minMax false t x.1 (g / 2 ^ 64 % 2 ^ w)
  (y.1, x.2 ||| y.2)

/-! ### R183 to R185: conversions -/

/-- The exact value of an element, and the flag that reading it raises (R35). -/
def elemVal (t : ETy) (c : Nat) : FVal × FlagSet :=
  match t with
  | .int sg w => (intVal (intOf sg w c), 0#5)
  | .flt f => (f.decode c, 0#5)
  | .e8 => (e8Val c, 0#5)
  | .t2 => let r := t2Val c; (intVal r.1, flIf r.2 flInvalid)
  | .hv => (intVal 0, 0#5)

/-- The integer of an integer or ternary element. -/
def elemInt (t : ETy) (c : Nat) : Option Int :=
  match t with
  | .int sg w => some (intOf sg w c)
  | .t2 => some (t2Val c).1
  | _ => none

/-- R183: one element converted. -/
def convert (ta td : ETy) (k o : Bool) (rm : RMode) (draw c : Nat) : Nat × FlagSet :=
  let (x, f0) := elemVal ta c
  let r : Nat × FlagSet :=
    match td with
    | .flt f => if widening ta td then cvtVal f .rne true 0 x else cvtVal f rm o draw x
    | .int sg w =>
      match elemInt ta c with
      | some v => narrowInt sg w k v
      | none => let y := cvtInt (intMin sg w) (intMax sg w) rm draw x; (intCode w y.1, y.2)
    | .t2 =>
      match elemInt ta c with
      | some v => let (y, cl) := clampInt (-1) 1 v; (t2Code y, flIf cl (flSaturation ||| flInexact))
      | none => let y := cvtT2 rm draw x; (t2Code y.1, y.2)
    | .e8 => if ta = .e8 then (c % 256, 0#5) else toE8 rm draw x
    | .hv => (0, 0#5)
  (r.1, r.2 ||| f0)

/-- R184: emax of an MX element format. -/
def mxEmax : Fmt → Int
  | .e4m3 => 8
  | .e5m2 => 15
  | .e3m2 => 4
  | _ => 2

/-- The exponent of the leading bit of a finite nonzero value. -/
def FVal.top : FVal → Option Int
  | .fin _ m e => if m = 0 then none else some (e + Nat.log2 m)
  | _ => none

/-- R184: one block quantised: its scale, its elements, its flags. -/
def quantise (f : Fmt) (rm : RMode) (o : Bool) (draw : Nat → Nat) (xs : List FVal) : Nat × List Nat × FlagSet :=
  if xs.any (fun x => match x with | .fin _ _ _ => false | _ => true) then (0xFF, xs.map (fun _ => 0), flInvalid)
  else
    match xs.filterMap FVal.top with
    | [] => (0, xs.map (fun x => f.signed x.isNeg 0), 0#5)
    | t :: ts =>
      let q := max (-127) (min 127 (ts.foldl (fun (m : Int) y => max m y) t - mxEmax f))
      let rs := xs.mapIdx (fun i x =>
        match x with
        | .fin n m e => f.round rm o (draw i) n m (e - q)
        | _ => (0, 0#5))
      ((q + 127).toNat, rs.map (·.1), rs.foldl (fun (a : FlagSet) r => a ||| r.2) 0#5)

/-- R185: one element dequantised. -/
def dequantise (fa fd : Fmt) (rm : RMode) (draw c scale : Nat) : Nat × FlagSet :=
  match fa.decode c with
  | .nan _ => (fd.nan, 0#5)
  | .inf n => if scale = 255 then (fd.nan, 0#5) else (fd.signed n fd.infCode, 0#5)
  | .fin n m e => if scale = 255 then (fd.nan, 0#5) else fd.round rm false draw n m (e + scale - 127)

/-! ### R181, R182: row reductions -/

/-- A reduction's member: value code, index, flags so far. -/
structure RowVal where
  code : Nat
  idx : Nat
  fl : FlagSet
  deriving DecidableEq, Repr

/-- R33, R182: a NaN read becomes the canonical one. -/
def rowStart (t : ETy) (i c : Nat) : RowVal :=
  match t with
  | .flt f => let x := f.decode c; if x.isNaN then ⟨f.nan, i, flIf x.isSNaN flInvalid⟩ else ⟨c, i, 0#5⟩
  | _ => ⟨c, i, 0#5⟩

/-- The first element lies below the second (−0 below +0); a NaN lies above every number where `nanTop`. -/
def elemLt (t : ETy) (a b : Nat) : Bool :=
  match t with
  | .int sg w => decide (intOf sg w a < intOf sg w b)
  | .flt f => ltTotal (f.decode a) (f.decode b)
  | _ => false

/-- The element is a NaN. -/
def elemNaN (t : ETy) (a : Nat) : Bool :=
  match t with
  | .flt f => (f.decode a).isNaN
  | _ => false

/-- R182: `vrmax`, `vrmin`: left and right combined. -/
def rowMinMax (wantMax : Bool) (t : ETy) (x y : RowVal) : RowVal :=
  let fl := x.fl ||| y.fl
  if elemNaN t x.code then { x with fl := fl }
  else if elemNaN t y.code then { y with fl := fl }
  else if (if wantMax then elemLt t x.code y.code else elemLt t y.code x.code) then { y with fl := fl }
  else { x with fl := fl }

/-- R182: `vrargmax`. -/
def rowArgMax (t : ETy) (x y : RowVal) : RowVal :=
  let fl := x.fl ||| y.fl
  let up := if elemNaN t x.code then false else if elemNaN t y.code then true else elemLt t x.code y.code
  if up then { y with fl := fl } else { x with fl := fl }

/-- R52: two FP32 members added. -/
def rowAdd (x y : RowVal) : RowVal :=
  let r := f32Add x.code y.code
  ⟨r.1, 0, x.fl ||| y.fl ||| r.2⟩

/-- An element widened to FP32. -/
def widenF32 (t : ETy) (c : Nat) : Nat × FlagSet :=
  match t with
  | .flt f => cvtVal .f32 .rne true 0 (f.decode c)
  | _ => (c, 0#5)

/-- R181: the result of one row of codes. -/
def reduceRow (op : VOp) (t : ETy) (row : List Nat) : Nat × FlagSet :=
  match op with
  | .vrsum =>
    match t with
    | .int sg w =>
      let (v, c) := clampInt (intMin true 32) (intMax true 32) ((row.map (intOf sg w)).sum)
      (intCode 32 v, flIf c flSaturation)
    | _ => match reduceTree rowAdd (row.map (fun c => let x := widenF32 t c; (⟨x.1, 0, x.2⟩ : RowVal))) with
      | some r => (r.code, r.fl)
      | none => (0, 0#5)
  | .vrsumsq =>
    match reduceTree rowAdd (row.map (fun c =>
        let x := widenF32 t c
        let y := f32Mul x.1 x.1
        (⟨y.1, 0, x.2 ||| y.2⟩ : RowVal))) with
    | some r => (r.code, r.fl)
    | none => (0, 0#5)
  | .vrargmax =>
    match reduceTree (rowArgMax t) (row.mapIdx (rowStart t)) with
    | some r => (r.idx, r.fl)
    | none => (0, 0#5)
  | op =>
    match reduceTree (rowMinMax (decide (op = .vrmax)) t) (row.mapIdx (rowStart t)) with
    | some r => (r.code, r.fl)
    | none => (0, 0#5)

/-! ### R187: dot products -/

/-- R49: one block's products joined to an FP32 accumulator. -/
def dotBlock (ta tb : ETy) (acc : Nat × FlagSet) (blk : List (Nat × Nat) × Nat × Nat) : Nat × FlagSet :=
  let b := blockValue (blk.1.map (fun p => ((elemVal ta p.1).1, (elemVal tb p.2).1))) blk.2.1 blk.2.2
  let r := accumulateBlock acc.1 b.1
  (r.1, acc.2 ||| b.2 ||| r.2)

/-- The products of a row cut in blocks of 32, with the scale codes of each block. -/
def dotBlocks : List (Nat × Nat) → List (Nat × Nat) → List (List (Nat × Nat) × Nat × Nat)
  | _, [] => []
  | ps, sc :: r => (ps.take 32, sc.1, sc.2) :: dotBlocks (ps.drop 32) r

/-- R49, R187: a floating row. -/
def dotRow (ta tb : ETy) (acc : Nat) (ps scales : List (Nat × Nat)) : Nat × FlagSet :=
  (dotBlocks ps scales).foldl (dotBlock ta tb) (acc, 0#5)

/-- R51: an integer row: the exact sum, saturated once. -/
def dotRowInt (tb : ETy) (acc : Nat) (ps : List (Nat × Nat)) : Nat × FlagSet :=
  let bad := ps.any (fun p => decide (tb = .t2) && decide (p.2 % 4 = 2))
  let v := ps.foldl (fun (a : Int) p => a + intOf true 8 p.1 * (elemInt tb p.2).getD 0) (intOf true 32 acc)
  let (x, c) := clampInt (intMin true 32) (intMax true 32) v
  (intCode 32 x, flIf c flSaturation ||| flIf bad flInvalid)

end Sys2Proof.Machine
end

