-- ==== Sys2Proof/Machine/VectorRun.lean ====
section
/-! DEFINITION. The vector sequencer at work (R171 to R174, R186, R188, R347): the elements of an entry, its channel
slots, its passes, its completion and its failure. -/
namespace Sys2Proof.Machine

/-! ### Accesses of the sequencer -/

/-- Why a unit of work cannot be performed now. -/
inductive UStop where
  /-- it waits for lines that an engine holds -/
  | held
  /-- a page does not grant the access (R345) -/
  | miss (x : Nat) (write : Bool)
  /-- R173 -/
  | fail (cause addr : Nat)
  /-- R444: bytes behind the endpoint are still to be asked for -/
  | ask (loc n : Nat)
  deriving DecidableEq, Repr

/-- The work of a sequencer: it changes the state only where it ends without a stop. -/
abbrev U := EStateM UStop State

/-- The waiter already waits on this page. -/
def State.awaitsPage (s : State) (w : Waiter) (vf pasid page : Nat) : Bool :=
  s.pages.any (fun r => decide (r.vf = vf) && decide (r.pasid = pasid) && decide (r.page = page) &&
    decide (r.st ≠ .failed) && r.waiters.any (fun x => decide (x.who = w))) ||
  s.clusters.any (fun c =>
    c.2.faults.any (fun f => decide (f.key.vf = vf) && decide (f.key.pasid = pasid) && decide (f.key.page = page) &&
      f.waiters.any (fun x => decide (x.who = w))) ||
    c.2.parked.any (fun x => decide (x.1.vf = vf) && decide (x.1.pasid = pasid) && decide (x.1.page = page) &&
      decide (x.2.who = w)))

/-- R169, R188: the place in the queue of the entry that runs: the head; inside a loop of several passes, the member of
the head's loop that has run the fewest passes, the earliest of these. An entry of another strand, issued between the
instructions of a loop body, waits for every pass of the loop: R169 asks for the order of issue and R188 for that of the
passes (DESIGN CHOICE, log 63). -/
def Core.running (c : Core) : Option Nat :=
  match c.seq with
  | [] => none
  | h :: _ =>
    if h.held then none
    else if h.passes ≤ 1 then some 0
    else
      let g := ((c.seq.mapIdx (fun i e => (i, e))).filter (fun p => decide (p.2.slot = h.slot))).take (h.members - h.li)
      let open_ := g.filter (fun p => decide (p.2.pass < p.2.passes))
      match open_ with
      | [] => some 0
      | p :: r => some (r.foldl (fun (m : Nat × VEntry) q => if q.2.pass < m.2.pass then q else m) p).1

def Core.runningEntry (c : Core) : Option VEntry := c.running.bind (fun i => c.seq[i]?)

/-- R347, R348: the entry that the core runs has elements that wait on the page of this address, until its replay. -/
def State.seqAwaits (s : State) (k x : Nat) : Bool :=
  match (s.core k).runningEntry with
  | none => false
  | some e => !e.faulted.isEmpty && s.awaitsPage (.sequencer e.id) (s.ctxIds k).1 (s.ctxIds k).2 (x / 4096)

/-- The entry that the core runs, as a waiter. -/
def State.seqWaiter (s : State) (k : Nat) : Waiter := .sequencer (((s.core k).runningEntry.map (·.id)).getD 0)

/-- R278, R292, R444, R451: the location of bytes `[x, x + n)` for core `k`; an address of the firmware window stands for
itself. An entry taken before a write of XOBOUND is checked against the boundary that stands when it is performed, and
records 0x05 below it (DESIGN CHOICE, log 64: R149 speaks of accesses issued after the write, R173 of other cores'
ports). -/
def seqLoc (k : Nat) (write : Bool) (p : Nat × Nat) : U (Nat × Nat) := fun s =>
  match s.place k p.1 p.2 write false with
  | .here loc =>
    if s.seqAwaits k p.1 then .error (.miss p.1 write) s
    else if s.accessHeld k loc p.2 write then .error .held s
    else .ok (loc, p.2) s
  | .pcie loc =>
    if s.seqAwaits k p.1 then .error (.miss p.1 write) s
    else if write then (if s.pcieUp then .ok (loc, p.2) s else .error (.fail 0x10 p.1) s)
    else
      match s.fetched (s.seqWaiter k) loc p.2 with
      | .notSent => .error (.ask loc p.2) s
      | .underWay => .error .held s
      | .data => .ok (loc, p.2) s
      | .failed c => .error (.fail c p.1) s
  | .missing => .error (.miss p.1 write) s
  | .fabric _ => .error (.fail 0x05 p.1) s
  | .event _ => .error (.fail 0x05 p.1) s
  | .window x => .ok (x, p.2) s
  | .bad c => .error (.fail c p.1) s
  | .refused c => .error (.fail c p.1) s

/-- The accesses by which `n` bytes at `x` are moved: a narrow element byte by byte, a longer one by words (R171). -/
def unitPieces (narrow : Bool) (x n : Nat) : List (Nat × Nat) :=
  if narrow then (List.range n).map (fun i => (x + i, 1))
  else if n ≤ 8 then [(x, n)]
  else (List.range (n / 8)).map (fun i => (x + 8 * i, 8))

/-- The locations of element `j` of a memory shape. -/
def elemLocs (k : Nat) (x : Shape) (j : Nat) (write : Bool) : U (List (Nat × Nat)) :=
  (unitPieces (decide (x.ty.bits < 8)) (x.byteAddr j % 2 ^ 64).toNat (x.elemBytes j)).mapM (seqLoc k write)

/-- The location of the scale of element `j`. -/
def scaleLocs (k : Nat) (x : Shape) (j : Nat) (write : Bool) : U (List (Nat × Nat)) :=
  [((x.scaleAddr j % 2 ^ 64).toNat, 1)].mapM (seqLoc k write)

/-- The bytes at located pieces, as a number. -/
def readLocs (k : Nat) (locs : List (Nat × Nat)) : U Nat := do
  modify (fun s => locs.foldl (fun (st : State) p => st.touch (clusterOf k) p.1 p.2 false) s)
  let s ← get
  return bytesNat (locs.flatMap s.pieceBytes)

/-- Bytes written at located pieces, tags cleared (R99). -/
def State.writeLocs (s : State) (k : Nat) : List (Nat × Nat) → List Byte → State
  | [], _ => s
  | p :: r, bs =>
    (if p.1 / 2 ^ 60 = 12 then s.windowWrite p.1 (bs.take p.2)
     else ((s.touch (clusterOf k) p.1 p.2 true).writeRequest p.1 (bs.take p.2)).write p.1 (bs.take p.2)).writeLocs k r (bs.drop p.2)

/-- A number of `w` bits cut out of a packed string at bit `o`. -/
def packedBits (bytes : List Byte) (o w : Nat) : Nat :=
  bytesNat ((bytes.drop (o / 8)).take ((o % 8 + w + 7) / 8)) / 2 ^ (o % 8) % 2 ^ w

/-- R164, R171: the code of element `j` of a source, from memory or from the slots popped. -/
def readElem (k : Nat) (x : Shape) (popped : List Byte) (j : Nat) : U Nat := do
  let w := x.ty.bits
  if x.chn then return packedBits popped (j * w) w
  else
    let locs ← elemLocs k x j false
    let v ← readLocs k locs
    return v / 2 ^ (if w < 8 then x.bitOff j else 0) % 2 ^ w

/-- R163: the scale code of element `j`. -/
def readScale (k : Nat) (x : Shape) (j : Nat) : U Nat := do
  let locs ← scaleLocs k x j false
  readLocs k locs

/-- Bits `o` to `o + w − 1` of a packed string replaced. -/
def packBits (bytes : List Byte) (o w v : Nat) : List Byte :=
  let n := bytesNat bytes
  natBytes bytes.length (n - n / 2 ^ o % 2 ^ w * 2 ^ o + v % 2 ^ w * 2 ^ o)

/-- R171: an element written at its locations, a narrow one by a read-modify-write. -/
def State.writeElem (s : State) (k : Nat) (x : Shape) (j : Nat) (locs : List (Nat × Nat)) (v : Nat) : State :=
  let w := x.ty.bits
  if w < 8 then
    s.writeLocs k locs (packBits (locs.flatMap s.pieceBytes) (x.bitOff j) w v)
  else s.writeLocs k locs (natBytes (w / 8) (v % 2 ^ w))

/-! ### Units of work -/

/-- A destination that has been located: in memory, or in the string for a channel. -/
inductive Dest where
  | mem (locs : List (Nat × Nat))
  | chan
  deriving DecidableEq, Repr

/-- The destination of element `j` of `sd`. -/
def destOf (k : Nat) (x : Shape) (j : Nat) : U Dest := do
  if x.chn then return .chan else return .mem (← elemLocs k x j true)

/-- R171, R164: the element is written, or joins the string for the channel. -/
def deliver (k : Nat) (x : Shape) (j v : Nat) (d : Dest) (e : VEntry) : U VEntry := do
  match d with
  | .mem locs => modify (fun s => s.writeElem k x j locs v); return e
  | .chan => return { e with pushD := packBits e.pushD (j * x.ty.bits) x.ty.bits v }

def VEntry.mode' (e : VEntry) : RMode := RMode.ofCode e.rm.toNat

/-- R46, R174: the draw reserved for element `j` of the current pass. -/
def VEntry.draw (e : VEntry) (j : Nat) : Nat :=
  if e.perPass = 0 then 0 else lfsrDraw (lfsrSkip (e.pass * e.perPass + j) e.draws)

/-- Flags joined to an entry. -/
def VEntry.orFl (e : VEntry) (f : FlagSet) : VEntry := { e with fl := e.fl ||| f }

/-- R190: the special function of an operation. -/
def VOp.fn : VOp → SpecialFn
  | .vrsqrt => .rsqrt
  | .vexp2 => .exp2
  | .vlog2 => .log2
  | .vtanh => .tanh
  | .vsig => .sig
  | _ => .rcp

/-- R178 to R183: the result of element `j` from the codes of a, b and d. -/
def VEntry.elemResult (e : VEntry) (j a b d : Nat) : Nat × FlagSet :=
  let t := e.sd.ty
  let w := t.bits
  let g := e.g.bits.toNat
  let gw := g % 2 ^ w
  let g64 := g % 2 ^ 64
  match e.op with
  | .vaddi | .vsubi | .vmuli => arith e.op t e.k e.mode' (e.draw j) a gw d
  | .vmin => minMax false t a b
  | .vmax => minMax true t a b
  | .vabs => signOp false t e.k a
  | .vneg => signOp true t e.k a
  | .vrcp | .vrsqrt | .vexp2 | .vlog2 | .vtanh | .vsig =>
    match t with
    | .flt f => specialVal e.op.fn f a
    | _ => (a, 0#5)
  | .vand | .vor | .vxor => (bitOp e.op w a b, 0#5)
  | .vshl | .vshr | .vsra => (bitOp e.op w a g64, 0#5)
  | .vsat =>
    match t with
    | .int sg w => satOp sg w a g64
    | _ => (a, 0#5)
  | .vcmpEq | .vcmpLt | .vcmpLe => let r := relation e.op t a b; ((if r.1 then 2 ^ w - 1 else 0), r.2)
  | .vsel => ((if d ≠ 0 then a else b), 0#5)
  | .vfill => copyBits t gw
  | .vcopy => copyBits t a
  | .viota => ((g64 + j) % 2 ^ w, 0#5)
  | .vclamp => clampOp t a g
  | .vcvt => convert e.sa.ty t e.k e.o e.mode' (e.draw j) a
  | _ => arith e.op t e.k e.mode' (e.draw j) a b d

/-- Element `j` of an element-by-element operation. -/
def unitMap (k : Nat) (e : VEntry) (j : Nat) : U VEntry := do
  let x := e.shD
  let a ← if e.op.usesA then readElem k e.shA e.popA j else pure 0
  let b ← if e.op.usesB then readElem k e.shB e.popB j else pure 0
  let d ← if e.op.readsD then readElem k x [] j else pure 0
  let w ← destOf k x j
  let r := e.elemResult j a b d
  deliver k x j r.1 w (e.orFl r.2)

/-- R185: element `j` of `vdequant`. -/
def unitDequant (k : Nat) (e : VEntry) (j : Nat) : U VEntry := do
  let a ← readElem k e.shA e.popA j
  let sc ← readScale k e.shA j
  let w ← destOf k e.shD j
  match e.sa.ty, e.sd.ty with
  | .flt fa, .flt fd =>
    let r := dequantise fa fd e.mode' (e.draw j) a sc
    deliver k e.shD j r.1 w (e.orFl r.2)
  | _, _ => return e

/-- The elements of a block or row delivered in ascending order. -/
def deliverAll (k : Nat) (x : Shape) : List (Nat × Nat × Dest) → VEntry → U VEntry
  | [], e => return e
  | p :: r, e => do
    let e' ← deliver k x p.1 p.2.1 p.2.2 e
    deliverAll k x r e'

/-- R184: block `b` of `vquant`. -/
def unitQuant (k : Nat) (e : VEntry) (b : Nat) : U VEntry := do
  let js := upto (32 * b) 32
  let cs ← js.mapM (readElem k e.shA e.popA)
  let ws ← js.mapM (destOf k e.shD)
  let sl ← scaleLocs k e.shD (32 * b) true
  match e.sd.ty with
  | .flt f =>
    let r := quantise f e.mode' e.o (fun i => e.draw (32 * b + i)) (cs.map (fun c => (elemVal e.sa.ty c).1))
    let fl := cs.foldl (fun (a : FlagSet) c => a ||| flIf (elemVal e.sa.ty c).1.isSNaN flInvalid) 0#5
    let e' ← deliverAll k e.shD (js.zip (r.2.1.zip ws)) (e.orFl (r.2.2 ||| fl))
    modify (fun s => s.writeLocs k sl [BitVec.ofNat 8 r.1])
    return e'
  | _ => return e

/-- R186: the table index that an index element names; none out of range. -/
def tableIndex (x : Shape) (table : Shape) (c : Nat) : Option Nat :=
  let v : Int := match x.ty with
    | .int sg w => intOf sg w c
    | _ => -1
  if 0 ≤ v ∧ v < table.count then some v.toNat else none

/-- R35, R186: index element `j` of a gather; a ternary code 10 is copied as 0. -/
def unitGather (k : Nat) (e : VEntry) (j : Nat) : U VEntry := do
  let c ← readElem k e.shA e.popA j
  match tableIndex e.shA e.shB c with
  | none =>
    let w ← destOf k e.shD j
    deliver k e.shD j 0 w (e.orFl flInvalid)
  | some t =>
    let v ← readElem k e.shB e.popB t
    let w ← destOf k e.shD j
    let r := copyBits e.sd.ty v
    deliver k e.shD j r.1 w (e.orFl r.2)

/-- R35, R186: index element `j` of a scatter. -/
def unitScatter (k : Nat) (e : VEntry) (j : Nat) : U VEntry := do
  let c ← readElem k e.shA e.popA j
  match tableIndex e.shA e.shD c with
  | none => return e.orFl flInvalid
  | some t =>
    let v ← readElem k e.shB e.popB j
    if e.op = .vscatAdd then
      let old ← readElem k e.shD [] t
      let w ← destOf k e.shD t
      let r := arith .vadd e.sd.ty e.k e.mode' (e.draw j) old v 0
      deliver k e.shD t r.1 w (e.orFl r.2)
    else
      let w ← destOf k e.shD t
      let r := copyBits e.sd.ty v
      deliver k e.shD t r.1 w (e.orFl r.2)

/-- The linear indices of row `r`. -/
def Shape.rowElems (x : Shape) (r : Nat) : List Nat := upto (x.rowStart r) (x.n 0)

/-- R181: row `r` of a reduction. -/
def unitReduce (k : Nat) (e : VEntry) (r : Nat) : U VEntry := do
  let cs ← (e.shA.rowElems r).mapM (readElem k e.shA e.popA)
  let w ← destOf k e.shD r
  let v := reduceRow e.op e.sa.ty cs
  deliver k e.shD r v.1 w { e.orFl v.2 with res := [(v.1, 0)] }

/-- R187: the scale codes of the blocks of row `r`: from the shape's array, or one code for every block. -/
def rowScales (k : Nat) (x : Shape) (r one : Nat) : U (List Nat) :=
  ((List.range (x.n 0 / 32)).map (fun b => x.rowStart r + 32 * b)).mapM (fun j =>
    if x.mx then readScale k x j else pure one)

/-- R187: row `r` of a dot product. -/
def unitDot (p : Pair) (acc : Bool) (k : Nat) (e : VEntry) (r : Nat) : U VEntry := do
  let as ← (e.shA.rowElems r).mapM (readElem k e.shA e.popA)
  let bs ← (e.shB.rowElems r).mapM (readElem k e.shB e.popB)
  let d ← if acc then readElem k e.shD [] r else pure 0
  let g := e.g.bits.toNat
  let sa ← if p.isInt then pure [] else rowScales k e.shA r (if p.isMx then g % 256 else 127)
  let sb ← if p.isInt then pure [] else rowScales k e.shB r (if p.isMx then g / 256 % 256 else 127)
  let w ← destOf k e.shD r
  let v := if p.isInt then dotRowInt e.sb.ty d (as.zip bs) else dotRow e.sa.ty e.sb.ty d (as.zip bs) (sa.zip sb)
  deliver k e.shD r v.1 w (e.orFl v.2)

end Sys2Proof.Machine
end

