-- ==== Sys2Proof/Machine/Hyper.lean ====
section
/-! DEFINITION. Hypervectors and the assay (R235 to R250): the instructions at issue, and their work in the sequencer. -/
namespace Sys2Proof.Machine

/-! ### Registers as numbers (R235, R236) -/

/-- The number of ones in the low `n` bits. -/
def popCount : Nat → Nat → Nat
  | 0, _ => 0
  | n + 1, v => v % 2 + popCount n (v / 2)

/-- R244: the Hamming distance of two hypervectors. -/
def hamming (a b : BitVec 8192) : Nat := popCount 8192 (a ^^^ b).toNat

/-- R240: the bits rotated towards higher indices by `r`. -/
def hRotate (a : BitVec 8192) (r : Nat) : BitVec 8192 := a.rotateLeft (r % 8192)

/-- R235: the counters of a yealm register from counter 0 up. -/
def counters (y : BitVec 65536) : List Int := (natBytes 8192 y.toNat).map BitVec.toInt

/-- A yealm register from its counters. -/
def ofCounters (l : List Int) : BitVec 65536 := BitVec.ofNat 65536 (bytesNat (l.map (BitVec.ofInt 8)))

/-- The bits of a hypervector from bit 0 up. -/
def hBits (h : BitVec 8192) : List Bool := (List.range 8192).map h.getLsbD

/-- A hypervector from its bits. -/
def ofHBits (l : List Bool) : BitVec 8192 := BitVec.ofNat 8192 (l.foldr (fun b (n : Nat) => (if b then 1 else 0) + 2 * n) 0)

/-- R241: one counter of a bundle, and whether it was clamped. -/
def bundleStep (mode : Nat) (w : Int) (y : Int) (bit : Bool) : Int × Bool :=
  clampInt (-128) 127 (y + (if bit then w else if mode = 0 then -w else 0))

/-- R243: one step of the tie generator, and the bit it gives. -/
def tieStep (s : BitVec 64) : Bool × BitVec 64 :=
  let fb := s.getLsbD 63 ^^ s.getLsbD 62 ^^ s.getLsbD 60 ^^ s.getLsbD 59
  (fb, (s <<< 1) ||| (if fb then 1#64 else 0#64))

/-- R242: the bits of a threshold in ascending order, with the tie generator. -/
def threshold (tie : Nat) : List Int → List Bool → BitVec 64 → List Bool × BitVec 64
  | [], _, s => ([], s)
  | y :: ys, hb, s =>
    let h := hb.headD false
    if y = 0 ∧ tie = 3 then
      let (b, s1) := tieStep s
      let (r, s2) := threshold tie ys hb.tail s1
      (b :: r, s2)
    else
      let (r, s2) := threshold tie ys hb.tail s
      ((if 0 < y then true else if y < 0 then false else if tie = 0 then h else decide (tie = 2)) :: r, s2)

/-! ### Work in the sequencer (R237) -/

/-- The strand that issued the entry. -/
def entryStrand (k : Nat) (e : VEntry) : U Strand := fun s =>
  match s.strand k e.slot with
  | some t => .ok t s
  | none => .error .held s

/-- The strand's registers changed. -/
def putReg (k : Nat) (e : VEntry) (f : Strand → Strand) : U Unit := modify (fun s => s.updStrand k e.slot f)

/-- R240 to R245: the operations on registers, in one unit. -/
def unitRegs (k : Nat) (e : VEntry) : U VEntry := do
  let t ← entryStrand k e
  let a := t.getH e.ha
  let b := t.getH e.hb
  match e.op with
  | .hbind => putReg k e (·.putH e.hd (a ^^^ b)); return e
  | .hnot => putReg k e (·.putH e.hd (~~~a)); return e
  | .hmv => putReg k e (·.putH e.hd a); return e
  | .hperm => putReg k e (·.putH e.hd (hRotate a e.g.lo.toNat)); return e
  | .hbund =>
    let w := signedOf 8 (e.g.lo.toNat % 256)
    let r := ((counters (t.getY e.y)).zip (hBits a)).map (fun p => bundleStep e.mode w p.1 p.2)
    putReg k e (·.putY e.y (ofCounters (r.map (·.1))))
    return e.orFl (flIf (r.any (·.2)) flSaturation)
  | .hthr =>
    let s ← get
    let r := threshold e.tie (counters (t.getY e.y)) (hBits b) (s.core k).tieSeed
    modify (fun s => s.updCore k (fun c => { c with tieSeed := r.2 }))
    putReg k e (fun t => (if e.mode = 1 then t.putY e.y 0#65536 else t).putH e.hd (ofHBits r.1))
    return e
  | .hclr => putReg k e (fun t => if e.mode = 0 then t.putH e.hd 0#8192 else t.putY e.y 0#65536); return e
  | .hham => return { e with res := [(hamming a b, 0)] }
  | .hpopc => return { e with res := [(popCount 8192 a.toNat, 0)] }
  | .hgetb => return { e with res := [((a.toNat / 2 ^ (64 * (e.mode * 8 + e.hb))) % 2 ^ 64, 0)] }
  | _ => return e

/-- R246: word `j` of a register loaded. -/
def unitHld (k : Nat) (e : VEntry) (j : Nat) : U VEntry := do
  let p ← seqLoc k false ((capAddr e.g + 8 * j), 8)
  let v ← readLocs k [p]
  putReg k e (fun t =>
    if e.mode = 0 then
      let h := (t.getH e.hd).toNat
      t.putH e.hd (BitVec.ofNat 8192 (h - h / 2 ^ (64 * j) % 2 ^ 64 * 2 ^ (64 * j) + v * 2 ^ (64 * j)))
    else
      let y := (t.getY e.y).toNat
      t.putY e.y (BitVec.ofNat 65536 (y - y / 2 ^ (64 * j) % 2 ^ 64 * 2 ^ (64 * j) + v * 2 ^ (64 * j))))
  return e

/-- R246: word `j` of a register stored. -/
def unitHst (k : Nat) (e : VEntry) (j : Nat) : U VEntry := do
  let t ← entryStrand k e
  let p ← seqLoc k true ((capAddr e.g + 8 * j), 8)
  let v := (if e.mode = 0 then (t.getH e.ha).toNat else (t.getY e.y).toNat) / 2 ^ (64 * j) % 2 ^ 64
  modify (fun s => s.writeLocs k [p] (natBytes 8 v))
  return e

/-- R249: a stored vector joins the nearest, in ascending distance, lower index first among equals. -/
def insertNearest (j d : Nat) : List (Nat × Nat) → List (Nat × Nat)
  | [] => [(j, d)]
  | p :: r => if d < p.2 then (j, d) :: p :: r else p :: insertNearest j d r

/-- R249: stored vector `j` of a search. -/
def unitSearch (k : Nat) (e : VEntry) (j : Nat) : U VEntry := do
  let t ← entryStrand k e
  let v ← readElem k e.shA [] j
  let d := hamming (BitVec.ofNat 8192 v) (t.getH e.hb)
  match e.op with
  | .hsrch => return { e with res := (insertNearest j d e.res).take 1 }
  | .hsrchk => return { e with res := (insertNearest j d e.res).take 4 }
  | _ =>
    let n := (e.res.headD (0, 0)).1
    if e.g.lo.toNat < d then return e
    else
      if n < e.sd.count then
        let w ← destOf k e.shD n
        let _ ← deliver k e.shD n j w e
      return { e with res := [(n + 1, 0)] }

/-! ### Issue: op 0x60 (R239, R246) -/

/-- The entry of a format H instruction. -/
def hEntry (op : VOp) (hd ha hb y mode tie : Nat) : VEntry :=
  { VEntry.of op 0 0 0 with hd := hd, ha := ha, hb := hb, y := y, mode := mode, tie := tie }

/-- The meaning of a format H instruction without a g operand. -/
def hPlain (e : VEntry) (s : State) : Host.Outcome State Fault Refusal := vecPlain e s

/-- R237, R244: a g result, interlocked, or pushed when the entry completes. -/
def hResult (e : VEntry) (g : BitVec 6) (s : State) : Host.Outcome State Fault Refusal :=
  runInstr 0 (do
    vectorFirst [g]
    let _ ← operands [] [g]
    needEntry
    issueEntry { e with gd := g.toNat }
    if !isQ g then hold g.toNat
    return .next) s

/-- R246: `hld` and `hst`, checked at issue. -/
def hMove (e : VEntry) (g : BitVec 6) (store : Bool) (s : State) : Host.Outcome State Fault Refusal :=
  runInstr 0 (do
    vectorFirst [g]
    let c ← operand1 g []
    needEntry
    let x := capAddr c
    let n := if e.mode = 0 then 1024 else 8192
    derefCheck c x n (if store then permStore else permLoad)
    if x % 128 ≠ 0 then trap 0x06 (BitVec.ofNat 64 x)
    let s ← get
    let k := s.turn.1
    if let some cause := s.spaceFail k ((x : Int), (x + n : Nat)) then trap cause (BitVec.ofNat 64 x)
    if decide (spadCore x = k) && s.belowBound x then trap 0x05 (BitVec.ofNat 64 x)
    issueEntry { e with g := c }
    return .next) s

/-- `hbind`, R240. -/
def execHbind (d a b : BitVec 3) (s : State) : Host.Outcome State Fault Refusal :=
  hPlain (hEntry .hbind d.toNat a.toNat b.toNat 0 0 0) s

/-- `hperm`, R240. -/
def execHperm (d a : BitVec 3) (g : BitVec 6) (s : State) : Host.Outcome State Fault Refusal :=
  vecScalar (hEntry .hperm d.toNat a.toNat 0 0 0 0) g s

/-- `hbund`, R241. -/
def execHbund (a : BitVec 3) (g : BitVec 6) (mode : BitVec 2) (y : BitVec 1) (s : State) : Host.Outcome State Fault Refusal :=
  vecScalar (hEntry .hbund 0 a.toNat 0 y.toNat mode.toNat 0) g s

/-- `hthr`, R242. -/
def execHthr (d b : BitVec 3) (mode tie : BitVec 2) (y : BitVec 1) (s : State) : Host.Outcome State Fault Refusal :=
  hPlain (hEntry .hthr d.toNat 0 b.toNat y.toNat mode.toNat tie.toNat) s

/-- `hclr` of an h register, R245. -/
def execHclrH (d : BitVec 3) (s : State) : Host.Outcome State Fault Refusal := hPlain (hEntry .hclr d.toNat 0 0 0 0 0) s

/-- `hclr` of a y register, R245. -/
def execHclrY (y : BitVec 1) (s : State) : Host.Outcome State Fault Refusal := hPlain (hEntry .hclr 0 0 0 y.toNat 1 0) s

/-- `hld` of an h register, R246. -/
def execHldH (d : BitVec 3) (g : BitVec 6) (s : State) : Host.Outcome State Fault Refusal :=
  hMove (hEntry .hld d.toNat 0 0 0 0 0) g false s

/-- `hld` of a y register, R246. -/
def execHldY (g : BitVec 6) (y : BitVec 1) (s : State) : Host.Outcome State Fault Refusal :=
  hMove (hEntry .hld 0 0 0 y.toNat 1 0) g false s

/-- `hst` of an h register, R246. -/
def execHstH (a : BitVec 3) (g : BitVec 6) (s : State) : Host.Outcome State Fault Refusal :=
  hMove (hEntry .hst 0 a.toNat 0 0 0 0) g true s

/-- `hst` of a y register, R246. -/
def execHstY (g : BitVec 6) (y : BitVec 1) (s : State) : Host.Outcome State Fault Refusal :=
  hMove (hEntry .hst 0 0 0 y.toNat 1 0) g true s

/-- `hmv`, R240. -/
def execHmv (d a : BitVec 3) (s : State) : Host.Outcome State Fault Refusal := hPlain (hEntry .hmv d.toNat a.toNat 0 0 0 0) s

/-- `hham`, R244. -/
def execHham (a b : BitVec 3) (g : BitVec 6) (s : State) : Host.Outcome State Fault Refusal :=
  hResult (hEntry .hham 0 a.toNat b.toNat 0 0 0) g s

/-- `hpopc`, R244. -/
def execHpopc (a : BitVec 3) (g : BitVec 6) (s : State) : Host.Outcome State Fault Refusal :=
  hResult (hEntry .hpopc 0 a.toNat 0 0 0 0) g s

/-- `hnot`, R240. -/
def execHnot (d a : BitVec 3) (s : State) : Host.Outcome State Fault Refusal := hPlain (hEntry .hnot d.toNat a.toNat 0 0 0 0) s

/-- `hgetb`, R244: the word index stands in the fields `mode` and `hb`. -/
def execHgetb (a : BitVec 3) (g : BitVec 6) (idx : BitVec 5) (s : State) : Host.Outcome State Fault Refusal :=
  hResult (hEntry .hgetb 0 a.toNat (idx.toNat % 8) 0 (idx.toNat / 8) 0) g s

/-! ### Issue: op 0x61 (R247 to R249) -/

/-- `hsrch`, R249. -/
def execHsrch (a : BitVec 4) (b : BitVec 3) (g : BitVec 6) (s : State) : Host.Outcome State Fault Refusal :=
  runInstr 0 (do
    vectorFirst []
    let _ ← operands [] [g, g + 1#6]
    needEntry
    issueEntry { VEntry.of .hsrch a.toNat 0 0 with hb := b.toNat, gd := g.toNat }
    hold g.toNat
    hold (g + 1#6).toNat
    return .next) s

/-- `hsrchk`, R249. -/
def execHsrchk (a : BitVec 4) (b : BitVec 3) (g : BitVec 6) (s : State) : Host.Outcome State Fault Refusal :=
  runInstr 0 (do
    vectorFirst []
    let _ ← operands [] [g, g + 1#6, g + 2#6, g + 3#6]
    needEntry
    issueEntry { VEntry.of .hsrchk a.toNat 0 0 with hb := b.toNat, gd := g.toNat }
    hold g.toNat
    hold (g + 1#6).toNat
    hold (g + 2#6).toNat
    hold (g + 3#6).toNat
    return .next) s

/-- `hsrcht`, R249: the threshold is read at issue, the count written at completion. -/
def execHsrcht (d a : BitVec 4) (b : BitVec 3) (g : BitVec 6) (s : State) : Host.Outcome State Fault Refusal :=
  runInstr 0 (do
    vectorFirst [g]
    let v ← operand1 g [g]
    needEntry
    issueEntry { VEntry.of .hsrcht a.toNat 0 d.toNat with hb := b.toNat, gd := g.toNat, g := v }
    hold g.toNat
    return .next) s

end Sys2Proof.Machine
end

