-- ==== Sys2Proof/Machine/Sequencer.lean ====
section
/-! DEFINITION. The events of the vector sequencer (R164, R169, R171 to R174, R188, R347): execution, later passes,
completion and failure. -/
namespace Sys2Proof.Machine

/-! ### The entry that runs -/

/-- The entry of a number changed. -/
def Core.setEntry (c : Core) (e : VEntry) : Core := { c with seq := c.seq.map (fun x => if x.id = e.id then e else x) }

/-! ### Units (R171) -/

/-- The units of work of one pass. -/
def VEntry.units (e : VEntry) : Nat :=
  match e.op with
  | .vrsum | .vrmax | .vrmin | .vrargmax | .vrsumsq | .vdot _ _ => e.sa.rows
  | .vquant => e.sd.count / 32
  | .vgath | .vscat | .vscatAdd | .hsrch | .hsrchk | .hsrcht => e.sa.count
  | .hld | .hst => if e.mode = 0 then 128 else 1024
  | .hbind | .hperm | .hbund | .hthr | .hclr | .hmv | .hham | .hpopc | .hnot | .hgetb => 1
  | _ => e.sd.count

/-- One unit of an entry's work. -/
def unitOf (k : Nat) (e : VEntry) (j : Nat) : U VEntry :=
  match e.op with
  | .vrsum | .vrmax | .vrmin | .vrargmax | .vrsumsq => unitReduce k e j
  | .vdot p acc => unitDot p acc k e j
  | .vquant => unitQuant k e j
  | .vdequant => unitDequant k e j
  | .vgath => unitGather k e j
  | .vscat | .vscatAdd => unitScatter k e j
  | .hld => unitHld k e j
  | .hst => unitHst k e j
  | .hsrch | .hsrchk | .hsrcht => unitSearch k e j
  | .hbind | .hperm | .hbund | .hthr | .hclr | .hmv | .hham | .hpopc | .hnot | .hgetb => unitRegs k e
  | _ => unitMap k e j

/-! ### Pages (R347) -/

/-- R345, R347: an engine waits on the page of an address, once. -/
def State.waitPage (s : State) (cl vf pasid x : Nat) (write : Bool) (w : Waiter) : State :=
  if s.awaitsPage w vf pasid (x / 4096) then s else s.miss vf pasid ⟨w, x, write, cl⟩

/-- The sequencer of a core waits on a page. -/
def State.seqMiss (s : State) (k : Nat) (e : VEntry) (x : Nat) (write : Bool) : State :=
  s.waitPage (clusterOf k) (s.ctxIds k).1 (s.ctxIds k).2 x write (.sequencer e.id)

/-- R171, R347: a gather or scatter replays its faulted elements alone where its footprints do not overlap and no element
that it writes shares a byte with another. -/
def VEntry.replays (e : VEntry) : Bool :=
  match e.op with
  | .vgath | .vscat | .vscatAdd =>
    !(spansMeet e.shD.spans (e.shA.spans ++ e.shB.spans)) && e.shD.apart && !e.sa.chn && !e.sb.chn && !e.sd.chn
  | _ => false

/-- The index element `j` of a scatter as it reads now. -/
def scatterIndex (k : Nat) (e : VEntry) (j : Nat) (s : State) : Option Nat :=
  match readElem k e.shA e.popA j s with
  | .ok c _ => some c
  | .error _ _ => none

/-- R347: element `j` waits for an earlier faulted element that may have its table index. -/
def VEntry.behindFaulted (k : Nat) (e : VEntry) (earlier : List Nat) (j : Nat) (s : State) : Bool :=
  (decide (e.op = .vscat) || decide (e.op = .vscatAdd)) && earlier.any (fun f =>
    (scatterIndex k e f s).isNone || decide (scatterIndex k e f s = scatterIndex k e j s))

/-- R171, R347: the units from `e.next` on, as far as they can be performed. -/
def runUnits (k : Nat) : Nat → VEntry → State → VEntry × State
  | 0, e, s => (e, s)
  | n + 1, e, s =>
    let j := e.next
    if e.units ≤ j then (e, s)
    else if e.behindFaulted k e.faulted j s then
      runUnits k n { e with next := j + 1, faulted := e.faulted ++ [j] } s
    else
      match unitOf k e j s with
      | .ok e' s' => runUnits k n { e' with next := j + 1 } (s'.dropRequests (.sequencer e.id))
      | .error .held _ => ({ e with retry := s.now + 1 }, s)
      | .error (.ask loc m) _ => ({ e with retry := s.now + 1 }, s.askRead (.sequencer e.id) loc m)
      | .error (.fail c a) _ => ({ e with bad := some (c, a) }, s)
      | .error (.miss x w) _ =>
        let s1 := s.seqMiss k e x w
        if e.replays then runUnits k n { e with next := j + 1, faulted := e.faulted ++ [j] } s1
        else ({ e with retry := s.now + 1 }, s1)

/-- R347: the faulted elements tried again, in index order; `left` are those that still wait. -/
def replayUnits (k : Nat) : List Nat → List Nat → VEntry → State → VEntry × State
  | [], left, e, s => ({ e with faulted := left, retry := if left.isEmpty then e.retry else s.now + 1 }, s)
  | j :: r, left, e, s =>
    if e.behindFaulted k left j s then replayUnits k r (left ++ [j]) e s
    else
      match unitOf k e j s with
      | .ok e' s' => replayUnits k r left e' (s'.dropRequests (.sequencer e.id))
      | .error .held _ => replayUnits k r (left ++ [j]) e s
      | .error (.ask loc m) _ => ({ e with faulted := left ++ j :: r, retry := s.now + 1 }, s.askRead (.sequencer e.id) loc m)
      | .error (.fail c a) _ => ({ e with bad := some (c, a), faulted := left ++ j :: r }, s)
      | .error (.miss x w) _ => replayUnits k r (left ++ [j]) e (s.seqMiss k e x w)

/-! ### Channel shapes (R164) -/

/-- The slot size of the channel that a shape names, in bytes. -/
def State.shapeSlot (s : State) (k sl : Nat) (x : Shape) : Nat :=
  (((s.strand k sl).bind (fun t => kfind x.qn t.q)).map s.slotBytes).getD 16

/-- R164: the bytes of the slots that a shape moves. -/
def slotTotal (x : Shape) (slot : Nat) : Nat := (x.count * x.ty.bits + 8 * slot - 1) / (8 * slot) * slot

/-- What a pop or push of one slot does. -/
inductive SlotMove where
  | done (bytes : List Byte) (s : State)
  | waits
  | fail (cause addr : Nat)

/-- All parts of a slot popped. -/
def popParts (k sl q : Nat) : Nat → List Byte → State → Option (List Byte × State)
  | 0, acc, s => some (acc, s)
  | n + 1, acc, s =>
    match s.popAt k sl q with
    | some (v, s1) => popParts k sl q n (acc ++ natBytes 16 v.bits.toNat) s1
    | none => none

/-- R164, R173: one slot popped for a source shape; a slot half moved, or a lost binding, is channel misuse. -/
def State.popSlot (s : State) (k sl q : Nat) : SlotMove :=
  match (s.strand k sl).bind (fun t => kfind q t.q) with
  | none => .fail 0x14 q
  | some b =>
    if !b.pop || decide (b.pos ≠ 0) then .fail 0x14 q
    else
      match popParts k sl q (s.slotBytes b / 16) [] s with
      | some (v, s1) => .done v s1
      | none => .waits

/-- R164, R173: one slot pushed for a destination shape. -/
def State.pushSlot (s : State) (k sl q : Nat) (bytes : List Byte) : SlotMove :=
  match (s.strand k sl).bind (fun t => kfind q t.q) with
  | none => .fail 0x14 q
  | some b =>
    if b.pop || decide (b.pos ≠ 0) then .fail 0x14 q
    else if decide (b.kind = .channel) && (s.chan b.home b.entry).isNone then .fail 0x14 q
    else
      match (if b.kind = .channel then s.messageRefusal k b.home else none) with
      | some c => .fail c q
      | none =>
        match s.putSlot k sl q s.nextAccess bytes with
        | some s1 => .done [] s1
        | none => .waits

/-- The slots of a source shape popped until `total` bytes are in hand. -/
def fillPops (k sl q total : Nat) : Nat → List Byte → State → List Byte × State × Option (Nat × Nat)
  | 0, acc, s => (acc, s, none)
  | n + 1, acc, s =>
    if total ≤ acc.length then (acc, s, none)
    else
      match s.popSlot k sl q with
      | .done v s1 => fillPops k sl q total n (acc ++ v) s1
      | .waits => (acc, s, none)
      | .fail c a => (acc, s, some (c, a))

/-- R164: the slots that the sources of an entry need, popped as far as they have come. -/
def popSources (k : Nat) (e : VEntry) (s : State) : VEntry × State :=
  let a := if e.op.usesA && e.sa.chn then slotTotal e.sa (s.shapeSlot k e.slot e.sa) else 0
  let (pa, s1, f1) := fillPops k e.slot e.sa.qn a (a + 1) e.popA s
  let b := if e.op.usesB && e.sb.chn then slotTotal e.sb (s1.shapeSlot k e.slot e.sb) else 0
  if f1.isSome then ({ e with popA := pa, bad := f1 }, s1)
  else if pa.length < a then ({ e with popA := pa, retry := s.now + 1 }, s1)
  else
    let (pb, s2, f2) := fillPops k e.slot e.sb.qn b (b + 1) e.popB s1
    if f2.isSome then ({ e with popA := pa, popB := pb, bad := f2 }, s2)
    else if pb.length < b then ({ e with popA := pa, popB := pb, retry := s.now + 1 }, s2)
    else ({ e with popA := pa, popB := pb }, s2)

/-- R35: a byte of ternary codes with no code 10. -/
def ternaryByte (b : Byte) : Byte := b &&& (0x55#8 ||| ((b &&& 0x55#8) <<< 1))

/-- The string that a destination in a channel starts from: zeros; the elements that a scatter may leave unwritten have
no stated value and are free (DESIGN CHOICE, log 8), but for the ternary code 10, which is never written. -/
def startPush (k : Nat) (e : VEntry) (s : State) : List Byte × State :=
  if e.op.usesD && e.sd.chn then
    let n := slotTotal e.sd (s.shapeSlot k e.slot e.sd)
    if e.op = .vscat then
      let words := (List.range (n / 8 + 1)).flatMap (fun i => natBytes 8 (Config.freeWord (s.fresh + i)).toNat)
      let str := natBytes n (bytesNat words % 2 ^ (e.sd.count * e.sd.ty.bits))
      (if e.sd.ty = .t2 then str.map ternaryByte else str, { s with fresh := s.fresh + n / 8 + 1 })
    else (List.replicate n 0#8, s)
  else ([], s)

/-- R164: the slots of a destination pushed as far as there is room. -/
def pushSlots (k : Nat) (slot : Nat) : Nat → VEntry → State → VEntry × State
  | 0, e, s => (e, s)
  | n + 1, e, s =>
    if e.pushD.isEmpty then (e, s)
    else
      match s.pushSlot k e.slot e.sd.qn (e.pushD.take slot) with
      | .done _ s1 => pushSlots k slot n { e with pushD := e.pushD.drop slot } s1
      | .waits => ({ e with retry := s.now + 1 }, s)
      | .fail c a => ({ e with bad := some (c, a) }, s)

/-! ### Execution (R171, R188) -/

/-- R188: the end of a pass. -/
def VEntry.passDone (e : VEntry) : VEntry :=
  { e with pass := e.pass + 1, next := 0, started := false, popA := [], popB := [], pushD := [] }

/-- A pass starts. -/
def startPass (k : Nat) (e : VEntry) (s : State) : VEntry × State :=
  if e.started then (e, s)
  else let (p, s1) := startPush k e s; ({ e with started := true, pushD := p }, s1)

/-- All that an entry can do now: pops, elements, pushes, the end of the pass. Every slot of `sa` and then of `sb` is popped
before the first element, and the slots of `sd` are pushed after the last element of the pass, through the bindings that
the strand has then (DESIGN CHOICE, log 63). -/
def runEntry (k : Nat) (e0 : VEntry) (s0 : State) : VEntry × State :=
  let (e1, s1) := startPass k e0 s0
  let (e2, s2) := popSources k e1 s1
  let waits := s2.awaits (.sequencer e2.id)
  if e2.bad.isSome || decide (s2.now < e2.retry) then (e2, s2)
  else if waits && !e2.replays then ({ e2 with retry := s2.now + 1 }, s2)
  else
    let (e3, s3) := replayUnits k e2.faulted [] e2 s2
    let (e4, s4) := if e3.bad.isSome then (e3, s3) else runUnits k (e3.units - e3.next) e3 s3
    if e4.bad.isSome || decide (e4.next < e4.units) || !e4.faulted.isEmpty then ({ e4 with retry := s4.now + 1 }, s4)
    else
      let slot := s4.shapeSlot k e4.slot e4.sd
      let (e5, s5) := pushSlots k slot (e4.pushD.length + 1) e4 s4
      if e5.bad.isSome || !e5.pushD.isEmpty then (e5, s5) else (e5.passDone, s5)

/-- R173, R237, R254: a finished entry's result cannot be pushed: its q register is unbound by now, bound with the other
end or to a closed entry, or the home refuses the push. -/
def State.resultBad (s : State) (k : Nat) (e : VEntry) : Option (Nat × Nat) :=
  if e.gd < 56 || e.held || decide (e.pass < e.passes) then none
  else
    match (s.strand k e.slot).bind (fun t => kfind (e.gd - 56) t.q) with
    | none => some (0x14, e.gd - 56)
    | some b =>
      if b.pop || (decide (b.kind = .channel) && (s.chan b.home b.entry).isNone) then some (0x14, e.gd - 56)
      else (if b.kind = .channel then s.messageRefusal k b.home else none).map (fun c => (c, e.gd - 56))

/-- R347, R349: the failure of an entry, or of an access that it waits on. -/
def State.entryBad (s : State) (k : Nat) (e : VEntry) : Option (Nat × Nat) :=
  match e.bad with
  | some f => some f
  | none => (s.resultBad k e).or <| (s.engineFails.find? (fun f => decide (f.1 = .sequencer e.id))).map (·.2)

/-- R172: every older scalar access of the entry's strand has been performed. -/
def State.olderDone (s : State) (k : Nat) (e : VEntry) : Bool := (s.mine k e.slot).all (fun a => decide (e.id ≤ a.1))

/-- `VECTOR_ENTRY_EXECUTE`, R171: the entry that runs performs what it can of its pass. -/
def vectorExecute (k : Nat) (s : State) : Option State :=
  match (s.core k).runningEntry with
  | none => none
  | some e =>
    if (s.core k).frozen || decide (e.passes ≤ e.pass) || (decide (e.pass ≠ 0) && !e.started) || decide (s.now < e.retry) ||
        (s.entryBad k e).isSome || !s.olderDone k e then none
    else
      let (e', s') := runEntry k e s
      some (s'.updCore k (·.setEntry e'))

/-- `VLOOP_PASS_START`, R188, R173: a later pass is checked under R170 as it starts. -/
def passStart (k : Nat) (s : State) : Option State :=
  match (s.core k).runningEntry with
  | none => none
  | some e =>
    if (s.core k).frozen || decide (e.passes ≤ e.pass) || decide (e.pass = 0) || e.started || (s.entryBad k e).isSome then none
    else
      match s.strand k e.slot with
      | none => none
      | some t =>
        match s.entryFail k t e with
        | some f => some (s.updCore k (·.setEntry { e with bad := some f }))
        | none =>
          let (e', s') := startPass k e s
          some (s'.updCore k (·.setEntry e'))

/-! ### Completion (R174, R181, R244, R249) -/

/-- One interlocked result delivered. -/
def Strand.deliver (t : Strand) (r : Nat) (v : Nat) : Strand :=
  { t.putG r (TV.ofNat v) with busy := t.busy.erase r }

/-- R249: result `i` of `hsrchk`. -/
def searchWord (res : List (Nat × Nat)) (i : Nat) : Nat :=
  match res[i]? with
  | some p => p.1 % 2 ^ 32 + p.2 * 2 ^ 32
  | none => 2 ^ 64 - 1

/-- The general registers that an entry delivers, with their values. -/
def VEntry.results (e : VEntry) : List (Nat × Nat) :=
  let r := e.res.headD (0, 0)
  match e.op with
  | .hsrch => [(e.gd, r.1), (e.gd + 1, r.2)]
  | .hsrchk => (List.range 4).map (fun i => (e.gd + i, searchWord e.res i))
  | _ => e.dests.map (fun d => (d, r.1))

/-- R66, R169, R174: the entry frees: its results delivered, its flags joined. -/
def State.finishEntry (s : State) (k : Nat) (e : VEntry) : State :=
  (s.updStrand k e.slot (fun t => (e.results.foldl (fun (u : Strand) p => u.deliver p.1 p.2) t).orFlags e.fl)).updCore k
    (fun c => { c with seq := c.seq.filter (fun x => decide (x.id ≠ e.id)) })

/-- `VECTOR_ENTRY_COMPLETE`, R174: the entry at the head has run all its passes; a result for a q register is pushed. -/
def vectorComplete (k : Nat) (s : State) : Option State :=
  match (s.core k).seq with
  | [] => none
  | e :: _ =>
    if (s.core k).frozen || e.held || decide (e.pass < e.passes) || (s.entryBad k e).isSome then none
    else if 56 ≤ e.gd then
      (s.pushPart k e.slot (e.gd - 56) s.nextAccess (TV.ofNat (e.res.headD (0, 0)).1)).map (fun s1 => s1.finishEntry k e)
    else some (s.finishEntry k e)

/-! ### Failure (R173) -/

/-- R173: the failure recorded against the strand, whose entries are discarded; the registers that these were to write
are outstanding no more. -/
def Strand.entriesLost (t : Strand) (e : VEntry) (all : List VEntry) (f : Nat × Nat) : Strand :=
  { t with seqFail := t.seqFail.or (some f),
           lost := if t.seqFail.isNone then e.dests else t.lost,
           busy := (all.flatMap VEntry.dests).foldl (fun (b : List Nat) r => b.erase r) t.busy }

/-- R174, R188: the entry at the head has run all its passes and can complete, ahead of the entry that fails. -/
def State.headFirst (s : State) (k : Nat) (e : VEntry) : Bool :=
  (s.core k).seq.head?.any (fun h => decide (h.id ≠ e.id) && decide (h.passes ≤ h.pass) && (s.entryBad k h).isNone)

/-- `VECTOR_ENTRY_FAILURE`, R173: the members of a loop that have run all their passes complete first. -/
def vectorFailure (k cause addr : Nat) (s : State) : Option State :=
  match (s.core k).runningEntry with
  | none => none
  | some e =>
    if (s.core k).frozen || decide (s.entryBad k e ≠ some (cause, addr)) || s.headFirst k e then none
    else
      let all := (s.core k).seq.filter (fun x => decide (x.slot = e.slot))
      let s1 := s.updStrand k e.slot (fun t => t.entriesLost e all (cause, addr))
      let s2 := s1.updCore k (fun c => { c with seq := c.seq.filter (fun x => decide (x.slot ≠ e.slot)) })
      some (({ s2 with engineFails := s2.engineFails.filter (fun g => decide (g.1 ≠ Waiter.sequencer e.id)) } : State).dropEnded s)

/-- `VECTOR_ENTRY_EXECUTE`. -/
def execVectorEntryExecute (core : Nat) (s : State) : Host.Outcome State Fault Refusal := runEvent (s.whileRuns (clusterOf core) (vectorExecute core s)) s

/-- `VLOOP_PASS_START`. -/
def execVloopPassStart (core : Nat) (s : State) : Host.Outcome State Fault Refusal := runEvent (s.whileRuns (clusterOf core) (passStart core s)) s

/-- `VECTOR_ENTRY_COMPLETE`. -/
def execVectorEntryComplete (core : Nat) (s : State) : Host.Outcome State Fault Refusal := runEvent (s.whileRuns (clusterOf core) (vectorComplete core s)) s

/-- `VECTOR_ENTRY_FAILURE`. -/
def execVectorEntryFailure (core cause addr : Nat) (s : State) : Host.Outcome State Fault Refusal :=
  runEvent (s.whileRuns (clusterOf core) (vectorFailure core cause addr s)) s

end Sys2Proof.Machine
end

