-- ==== Sys2Proof/Machine/Tile.lean ====
section
/-! DEFINITION. Tiles on the anvil (R211 to R222): the tile instructions, fetching and pinning, accumulation, and the
failure of a command. -/
namespace Sys2Proof.Machine

/-! ### Operands (R211 to R213, R215) -/

/-- R212: the type of one operand of a pair; `b` for the B operand. -/
def pairType (p : Pair) (b : Bool) (t : ETy) : Bool :=
  let six := decide (t = .flt .e2m3) || decide (t = .flt .e3m2)
  match p with
  | .f4f4 => decide (t = .flt .e2m1)
  | .f6f6 => six
  | .f6f4 => if b then six else decide (t = .flt .e2m1)
  | .e4e4 => decide (t = .flt .e4m3)
  | .e5e5 => decide (t = .flt .e5m2)
  | .i8i8 => decide (t = .int true 8)
  | .i8t2 => if b then decide (t = .t2) else decide (t = .int true 8)
  | .bfbf => decide (t = .flt .bf16)

/-- R213: what an operand shape satisfies. -/
def tileShape (x : Shape) (k : Nat) : Bool :=
  let a := capAddr x.cap
  !x.chn && decide (x.n 1 = 128) && decide (x.n 2 = 1) && decide (x.n 3 = 1) &&
    decide (x.rawCursor 1 = 0) && decide (x.rawCursor 2 = 0) && decide (x.rawCursor 3 = 0) &&
    decide (x.rawCursor 0 % 32 = 0) && decide (0 ≤ x.cursor 0) && decide (x.cursor 0 + k ≤ x.n 0) &&
    (decide (a < 2 ^ 63) || decide (a / 2 ^ 60 = 9))

/-- R215: the bytes that elements `k0` to `k0 + n − 1` of row `r` occupy. -/
def rowBytes (x : Shape) (r k0 n : Nat) : Int × Int :=
  let j := x.rowStart r + k0
  (x.byteAddr j, x.byteAddr (j + n - 1) + x.elemBytes (j + n - 1))

/-- R215: the used footprint: elements and scales of the K indices below `k`. -/
def usedSpans (x : Shape) (k : Nat) : List (Int × Int) :=
  (List.range 128).map (fun r => rowBytes x r 0 k) ++
    (if x.mx then (List.range 128).map (fun r => (x.scaleAddr (x.rowStart r), x.scaleAddr (x.rowStart r + k - 1) + 1)) else [])

/-- R215 steps 2 to 5: the checks of a tile instruction. -/
def tileChecks (p : Pair) (a b : BitVec 4) (k : Nat) (kw : Word) : M Unit := do
  let t ← getStrand
  let x := t.getSh a.toNat
  let y := t.getSh b.toNat
  let na := BitVec.ofNat 64 a.toNat
  let nb := BitVec.ofNat 64 b.toNat
  if !x.valid then trap 0x0D na
  if !y.valid then trap 0x0D nb
  if k % 32 ≠ 0 || k < 32 || 65536 < k then trap 0x0D kw
  if !(pairType p false x.ty && tileShape x k) then trap 0x0D na
  if !(pairType p true y.ty && tileShape y k) then trap 0x0D nb
  for z in [x, y] do
    let sp := usedSpans z k
    let lo := spansLow sp
    let tv := BitVec.ofNat 64 (lo % 2 ^ 64).toNat
    let c := z.cap
    if !c.tag then trap 0x03 tv
    if !capHas c permLoad || (capHas c permLocal && decide (lo < 2 ^ 63)) then trap 0x05 tv
    if decide (lo < capBase c) || decide (capTop c < spansHigh sp) then trap 0x04 tv

/-- R215: a tile instruction of a pair; `ovw` for the overwriting form. -/
def tileInstr (p : Pair) (ovw : Bool) (a b : BitVec 4) (g : BitVec 6) (k : BitVec 1) (op : BitVec 7) (s : State) :
    Host.Outcome State Fault Refusal :=
  runInstr 0 (do
    let v ← operand1 g []
    shapesFree [a.toNat, b.toNat]
    needLease (Sys2Proof.encV (if ovw then 1#5 else 0#5) 0#1 g b a k 0#4 op)
    let n := v.lo.toNat
    tileChecks p a b n v.lo
    let t ← getStrand
    acceptTile (fun c => { c with
      kind := .mtile p ovw, buf := k.toNat, sa := t.getSh a.toNat, sb := t.getSh b.toNat, k := n })
    return .next) s

/-! ### R214: op 0x51 to 0x58 -/

/-- `mtile.f4f4`, R215. -/
def execMtileF4f4 (a b : BitVec 4) (g : BitVec 6) (k : BitVec 1) (s : State) : Host.Outcome State Fault Refusal :=
  tileInstr .f4f4 false a b g k 0x51#7 s

/-- `mtileo.f4f4`, R215. -/
def execMtileoF4f4 (a b : BitVec 4) (g : BitVec 6) (k : BitVec 1) (s : State) : Host.Outcome State Fault Refusal :=
  tileInstr .f4f4 true a b g k 0x51#7 s

/-- `mtile.f6f6`, R215. -/
def execMtileF6f6 (a b : BitVec 4) (g : BitVec 6) (k : BitVec 1) (s : State) : Host.Outcome State Fault Refusal :=
  tileInstr .f6f6 false a b g k 0x52#7 s

/-- `mtileo.f6f6`, R215. -/
def execMtileoF6f6 (a b : BitVec 4) (g : BitVec 6) (k : BitVec 1) (s : State) : Host.Outcome State Fault Refusal :=
  tileInstr .f6f6 true a b g k 0x52#7 s

/-- `mtile.f6f4`, R215. -/
def execMtileF6f4 (a b : BitVec 4) (g : BitVec 6) (k : BitVec 1) (s : State) : Host.Outcome State Fault Refusal :=
  tileInstr .f6f4 false a b g k 0x53#7 s

/-- `mtileo.f6f4`, R215. -/
def execMtileoF6f4 (a b : BitVec 4) (g : BitVec 6) (k : BitVec 1) (s : State) : Host.Outcome State Fault Refusal :=
  tileInstr .f6f4 true a b g k 0x53#7 s

/-- `mtile.e4e4`, R215. -/
def execMtileE4e4 (a b : BitVec 4) (g : BitVec 6) (k : BitVec 1) (s : State) : Host.Outcome State Fault Refusal :=
  tileInstr .e4e4 false a b g k 0x54#7 s

/-- `mtileo.e4e4`, R215. -/
def execMtileoE4e4 (a b : BitVec 4) (g : BitVec 6) (k : BitVec 1) (s : State) : Host.Outcome State Fault Refusal :=
  tileInstr .e4e4 true a b g k 0x54#7 s

/-- `mtile.e5e5`, R215. -/
def execMtileE5e5 (a b : BitVec 4) (g : BitVec 6) (k : BitVec 1) (s : State) : Host.Outcome State Fault Refusal :=
  tileInstr .e5e5 false a b g k 0x55#7 s

/-- `mtileo.e5e5`, R215. -/
def execMtileoE5e5 (a b : BitVec 4) (g : BitVec 6) (k : BitVec 1) (s : State) : Host.Outcome State Fault Refusal :=
  tileInstr .e5e5 true a b g k 0x55#7 s

/-- `mtile.i8i8`, R215. -/
def execMtileI8i8 (a b : BitVec 4) (g : BitVec 6) (k : BitVec 1) (s : State) : Host.Outcome State Fault Refusal :=
  tileInstr .i8i8 false a b g k 0x56#7 s

/-- `mtileo.i8i8`, R215. -/
def execMtileoI8i8 (a b : BitVec 4) (g : BitVec 6) (k : BitVec 1) (s : State) : Host.Outcome State Fault Refusal :=
  tileInstr .i8i8 true a b g k 0x56#7 s

/-- `mtile.i8t2`, R215. -/
def execMtileI8t2 (a b : BitVec 4) (g : BitVec 6) (k : BitVec 1) (s : State) : Host.Outcome State Fault Refusal :=
  tileInstr .i8t2 false a b g k 0x57#7 s

/-- `mtileo.i8t2`, R215. -/
def execMtileoI8t2 (a b : BitVec 4) (g : BitVec 6) (k : BitVec 1) (s : State) : Host.Outcome State Fault Refusal :=
  tileInstr .i8t2 true a b g k 0x57#7 s

/-- `mtile.bfbf`, R215. -/
def execMtileBfbf (a b : BitVec 4) (g : BitVec 6) (k : BitVec 1) (s : State) : Host.Outcome State Fault Refusal :=
  tileInstr .bfbf false a b g k 0x58#7 s

/-- `mtileo.bfbf`, R215. -/
def execMtileoBfbf (a b : BitVec 4) (g : BitVec 6) (k : BitVec 1) (s : State) : Host.Outcome State Fault Refusal :=
  tileInstr .bfbf true a b g k 0x58#7 s

/-! ### The queue of a cluster's anvil (R196) -/

/-- The command at the head of the queue changed. -/
def State.setHead (s : State) (cl : Nat) (m : TileCmd) : State :=
  s.updCluster cl (fun c => { c with cmds := m :: c.cmds.drop 1 })

/-- R172, R218: the accesses that the command's strand issued before it have been performed. -/
def State.strandDone (s : State) (src : Sender) (id : Nat) : Bool :=
  s.accesses.all (fun a => decide (id ≤ a.1) || decide (a.2.sid ≠ src.sid) || decide (a.2.gid ≠ src.gid) ||
    decide (s.partOfCore a.2.core ≠ s.partOfCore src.core))

/-- R218: a `vfence` of the strand holds the command back until the entries before it have completed. -/
def State.fencedBefore (s : State) (src : Sender) (id : Nat) : Bool :=
  (s.core src.core).seq.any (fun e => e.fenced && decide (e.slot = src.slot) && decide (e.id < id))

/-- R221: the failure of a command, met by itself or reported by a translation. -/
def State.cmdBad (s : State) (m : TileCmd) : Option (Nat × Nat) :=
  match m.bad with
  | some f => some f
  | none => (s.engineFails.find? (fun f => decide (f.1 = .tile m.id))).map (·.2)

/-! ### Fetching and pinning (R218 to R220) -/

/-- What looking for the locations of a list of byte ranges gives. -/
inductive Located where
  | all (locs : List (Nat × List (Nat × Nat)))
  | missing (x : Nat)
  | held
  /-- R444: a request of these bytes behind the endpoint is still to be sent -/
  | ask (loc n : Nat)
  | fail (cause addr : Nat)
  deriving DecidableEq, Repr

/-- R444: bytes behind the endpoint that a waiter reads: fetched, or still to be. -/
def State.fetchPiece (s : State) (w : Waiter) (x loc n : Nat) : Located :=
  match s.fetched w loc n with
  | .notSent => .ask loc n
  | .underWay => .held
  | .data => .all [(x, [(loc, n)])]
  | .failed c => .fail c x

/-- The location of one piece for an engine of cluster `cl` that works for core `k` and context `ids`; `own` are sectors that the engine
itself owns. -/
def State.enginePiece (s : State) (w : Waiter) (ids : Nat × Nat) (cl k : Nat) (write : Bool) (own : List Nat) (p : Nat × Nat) : Located :=
  match s.placeAs ids k p.1 p.2 write false with
  | .here loc =>
    if cachedLoc loc && s.clusters.any (fun e => (sectorsOf loc p.2).any (fun sec =>
        (decide (sec ∈ e.2.owned) && !decide (sec ∈ own)) || (write && e.2.pins sec) ||
        (e.2.pins sec && decide (e.1 ≠ cl) && decide (s.sectorIn sec e.1 ≠ .s) && decide (s.sectorIn sec e.1 ≠ .i))))
    then .held else .all [(p.1, [(loc, p.2)])]
  | .pcie loc =>
    if !write then s.fetchPiece w p.1 loc p.2
    else if s.pcieUp then .all [(p.1, [(loc, p.2)])] else .fail 0x10 p.1
  | .missing => .missing p.1
  | .refused c => .fail c p.1
  | .bad c => .fail c p.1
  | .fabric _ => .fail 0x05 p.1
  | .event _ => .fail 0x05 p.1
  | .window _ => .fail 0x05 p.1

/-- The locations of the pieces of one range. -/
def State.engineRange (s : State) (w : Waiter) (cl k : Nat) (write : Bool) (own : List Nat) : List (Nat × Nat) → List (Nat × Nat) → Located
  | [], acc => .all [(0, acc)]
  | p :: r, acc =>
    match s.enginePiece w (s.ctxIds k) cl k write own p with
    | .all l => s.engineRange w cl k write own r (acc ++ l.flatMap (·.2))
    | x => x

/-- The locations of ranges `(key, address, bytes)`. -/
def State.engineRanges (s : State) (w : Waiter) (cl k : Nat) (write : Bool) (own : List Nat) :
    List (Nat × Nat × Nat) → List (Nat × List (Nat × Nat)) → Located
  | [], acc => .all acc
  | (i, x, n) :: r, acc =>
    match s.engineRange w cl k write own (pagePieces x n) [] with
    | .all l => s.engineRanges w cl k write own r (acc ++ [(i, l.flatMap (·.2))])
    | y => y

/-- A span as address and bytes. -/
def spanRange (i : Nat) (p : Int × Int) : Nat × Nat × Nat := (i, (p.1 % 2 ^ 64).toNat, (p.2 - p.1).toNat)

/-- R219: the ranges of block `b`: rows of A, rows of B, then the scales of each. -/
def TileCmd.blockRanges (m : TileCmd) (b : Nat) : List (Nat × Nat × Nat) :=
  let rows (x : Shape) := (List.range 128).map (fun r => spanRange r (rowBytes x r (32 * b) 32))
  let scales (x : Shape) := if x.mx then
      (List.range 128).map (fun r => (r, (x.scaleAddr (x.rowStart r + 32 * b) % 2 ^ 64).toNat, 1)) else []
  rows m.sa ++ rows m.sb ++ scales m.sa ++ scales m.sb

/-- The bytes at located pieces. -/
def State.bytesAt (s : State) (locs : List (Nat × Nat)) : List Byte := locs.flatMap (fun p => s.readBytes p.1 p.2)

/-- The codes of 32 elements of `w` bits packed in bytes. -/
def codes32 (w : Nat) (bytes : List Byte) : List Nat :=
  let n := bytesNat bytes
  (List.range 32).map (fun i => n / 2 ^ (w * i) % 2 ^ w)

/-- R212, R49: the scale code of each row: read, or one code for all. -/
def scaleCodes (mx : Bool) (one : Nat) (bytes : List (List Byte)) : List Nat :=
  if mx then bytes.map bytesNat else List.replicate 128 one

/-- R218, R219: the block read from its locations. -/
def State.readBlockAt (s : State) (m : TileCmd) (locs : List (Nat × List (Nat × Nat))) : TileBlock :=
  let bytes := locs.map (fun l => s.bytesAt l.2)
  let nsa := if m.sa.mx then 128 else 0
  { a := (bytes.take 128).flatMap (codes32 m.sa.ty.bits),
    b := ((bytes.drop 128).take 128).flatMap (codes32 m.sb.ty.bits),
    sa := scaleCodes m.sa.mx 127 ((bytes.drop 256).take nsa),
    sb := scaleCodes m.sb.mx 127 (bytes.drop (256 + nsa)),
    sectors := (locs.flatMap (fun l => l.2.flatMap (fun p => sectorsOf p.1 p.2))).dedup }

/-- R219: sectors read by the cluster's slice. -/
def State.touchAll (s : State) (cl : Nat) (locs : List (Nat × List (Nat × Nat))) (write : Bool) : State :=
  locs.foldl (fun (st : State) l => l.2.foldl (fun (u : State) p => u.touch cl p.1 p.2 write) st) s

/-- `TILE_BLOCK_FETCH`, R219, R220: the command at the head fetches and pins its next block, at most two at a time. -/
def tileFetch (cl : Nat) (s : State) : Option State :=
  match (s.cluster cl).cmds with
  | [] => none
  | m :: _ =>
    match m.kind with
    | .mtile _ _ =>
      if decide (m.k / 32 ≤ m.fetched) || decide (m.done + 2 ≤ m.fetched) || decide (s.now < m.retry) ||
          (s.cmdBad m).isSome || !s.strandDone m.src m.id || s.fencedBefore m.src m.id || s.awaits (.tile m.id) then none
      else
        match s.engineRanges (.tile m.id) cl m.src.core false [] (m.blockRanges m.fetched) [] with
        | .all locs =>
          some (((s.dropRequests (.tile m.id)).touchAll cl locs false).setHead cl { m with
            pinned := m.pinned ++ [s.readBlockAt m locs], fetched := m.fetched + 1 })
        | .held => some (s.setHead cl { m with retry := s.now + 1 })
        | .ask loc n => some ((s.setHead cl { m with retry := s.now + 1 }).askRead (.tile m.id) loc n)
        | .missing x =>
          let ids := s.ctxIds m.src.core
          some ((s.setHead cl { m with retry := s.now + 1 }).waitPage cl ids.1 ids.2 x false (.tile m.id))
        | .fail c a => some (s.setHead cl { m with bad := some (c, a) })
    | _ => none

/-! ### Accumulation (R216, R217, R49, R50) -/

/-- The words of a buffer. -/
def Cluster.acc (c : Cluster) (buf : Nat) : List (Nat × BitVec 32) := if buf = 0 then c.acc0 else c.acc1

def Cluster.setAcc (c : Cluster) (buf : Nat) (a : List (Nat × BitVec 32)) : Cluster :=
  if buf = 0 then { c with acc0 := a } else { c with acc1 := a }

/-- R201: tile flags joined to a buffer. -/
def Cluster.orTileFlags (c : Cluster) (buf : Nat) (f : BitVec 3) : Cluster :=
  if buf = 0 then { c with f0 := c.f0 ||| f } else { c with f1 := c.f1 ||| f }

/-- R49: of an operation's flags, those that a buffer keeps: invalid, overflow, saturation. -/
def tileFlags (f : FlagSet) : BitVec 3 :=
  (if f.getLsbD 0 then 1#3 else 0#3) ||| (if f.getLsbD 1 then 2#3 else 0#3) ||| (if f.getLsbD 4 then 4#3 else 0#3)

/-- Row or column `i` of a block's codes. -/
def blockRow (l : List Nat) (i : Nat) : List Nat := (l.drop (32 * i)).take 32

/-- R216: one element after one block. -/
def tileElem (p : Pair) (ta tb : ETy) (acc : BitVec 32) (a b : List Nat) (sa sb : Nat) : BitVec 32 × BitVec 3 :=
  let ps := a.zip b
  if p.isInt then
    let r := dotRowInt tb acc.toNat ps
    (BitVec.ofNat 32 r.1, tileFlags r.2)
  else
    let r := dotBlock ta tb (acc.toNat, 0#5) (ps, sa, sb)
    (BitVec.ofNat 32 r.1, tileFlags r.2)

/-- R216: a block joined to a buffer, which starts from zero where `fresh`. -/
def tileBlock (p : Pair) (ta tb : ETy) (fresh : Bool) (blk : TileBlock) (acc : List (Nat × BitVec 32)) :
    List (Nat × BitVec 32) × BitVec 3 :=
  let rs := (List.range 128).flatMap (fun i => (List.range 128).map (fun j =>
    let n := 128 * i + j
    let x := if fresh then 0#32 else kget 0#32 n acc
    (n, tileElem p ta tb x (blockRow blk.a i) (blockRow blk.b j) (blk.sa.getD i 127) (blk.sb.getD j 127))))
  ((rs.filter (fun r => decide (r.2.1 ≠ 0#32))).map (fun r => (r.1, r.2.1)),
    rs.foldl (fun (f : BitVec 3) r => f ||| r.2.2) 0#3)

/-- `TILE_BLOCK_DONE`, R216, R219: the block's last plane pass ends; its sectors are unpinned. -/
def tileDone (cl : Nat) (s : State) : Option State :=
  let c := s.cluster cl
  match c.cmds with
  | [] => none
  | m :: _ =>
    match m.kind, m.pinned with
    | .mtile p ovw, blk :: r =>
      let x := tileBlock p m.sa.ty m.sb.ty (ovw && decide (m.done = 0)) blk (c.acc m.buf)
      some ((s.updCluster cl (fun c => c.setAcc m.buf x.1)).setHead cl { m with
        pinned := r, done := m.done + 1, tf := m.tf ||| x.2 })
    | _, _ => none

/-- R210: the strands of a core whose `mflags` waits for no command any more take the flags and clear them. -/
def State.readFlags (s : State) (cl k : Nat) : State :=
  (s.core k).slots.foldl (fun (st : State) e =>
    match e.2.wait with
    | some ⟨.mflags n mask, _, _, _⟩ =>
      let c := st.cluster cl
      if e.2.granted.isSome || c.cmds.any (fun m => decide (m.id < n)) then st
      else (st.setCluster cl (c.clearTileFlags mask)).updStrand k e.1 (·.release c.tileFlagWord)
    | _ => st) s

/-- A command leaves the head of the queue. -/
def State.popCmd (s : State) (cl : Nat) (c : Cluster) : State :=
  (coresOfCluster cl).foldl (fun (st : State) k => st.readFlags cl k) (s.setCluster cl { c with cmds := c.cmds.tail })

/-- `TILE_COMMAND_COMPLETE`, R196, R201, R209, R210, R216: the command at the head has done its work and leaves the queue. -/
def tileComplete (cl : Nat) (s : State) : Option State :=
  let c := s.cluster cl
  match c.cmds with
  | [] => none
  | m :: _ =>
    if (s.cmdBad m).isSome then none
    else
      match m.kind with
      | .mtile _ _ => if m.done = m.k / 32 then some (s.popCmd cl (c.orTileFlags m.buf m.tf)) else none
      | .clear =>
        some (s.popCmd cl { c with
          acc0 := if m.buf % 2 = 1 then [] else c.acc0, acc1 := if m.buf / 2 % 2 = 1 then [] else c.acc1 })
      | .drain =>
        let waits := s.flights.any (fun f => decide (clusterOf f.2.dst = cl) &&
          (match f.2.kind with | .arrival _ _ => true | _ => false))
        if m.started && decide (m.row = 128) && !waits then some (s.popCmd cl c) else none

/-! ### Failure (R221) -/

/-- R221: a cluster on which a command has failed: a failed tile leaves its buffer zero, the commands after it are
discarded, and the failure stands for the core that issued it; the lines of a drain are released, those of the copy engine
stay (R290). -/
def Cluster.tileFailed (c : Cluster) (m : TileCmd) (cause addr : Nat) : Cluster :=
  let isTile : Bool := match m.kind with | .mtile _ _ => true | _ => false
  { (if isTile then c.setAcc m.buf [] else c) with
    cmds := [], owned := c.owned.filter (fun n => decide (n ∈ c.copySectors)), tileFail := kset m.src.core (cause, addr) c.tileFail }

/-- `TILE_COMMAND_FAILURE`, R221: the command at the head fails; then, unless an anvil instruction of its core has taken the
failure before, the kernel of the cluster fails, where it is *running* (R366; DEDUCED, logs 26 and 39). -/
def tileFailure (cl cause addr : Nat) (s : State) : Option State :=
  let c := s.cluster cl
  if c.tileFail.any (fun f => decide (f.2 = (cause, addr))) then
    (s.groupOfCluster cl).bind (fun g =>
      if (s.kernel g.kernel).map (·.st) = some .running then
        some (s.endKernel g.kernel cause (some g.stage) (BitVec.ofNat 64 addr))
      else none)
  else
    match c.cmds with
    | [] => none
    | m :: _ =>
      if s.cmdBad m ≠ some (cause, addr) then none
      else
        let s1 := { s.setCluster cl (c.tileFailed m cause addr) with
          engineFails := s.engineFails.filter (fun g => decide (g.1 ≠ Waiter.tile m.id)) }
        some (s1.dropEnded s)

/-- `TILE_BLOCK_FETCH`. -/
def execTileBlockFetch (cl : Nat) (s : State) : Host.Outcome State Fault Refusal := runEvent (s.whileRuns cl (tileFetch cl s)) s

/-- `TILE_BLOCK_DONE`. -/
def execTileBlockDone (cl : Nat) (s : State) : Host.Outcome State Fault Refusal := runEvent (s.whileRuns cl (tileDone cl s)) s

/-- `TILE_COMMAND_COMPLETE`. -/
def execTileCommandComplete (cl : Nat) (s : State) : Host.Outcome State Fault Refusal := runEvent (s.whileRuns cl (tileComplete cl s)) s

/-- `TILE_COMMAND_FAILURE`. -/
def execTileCommandFailure (cl cause addr : Nat) (s : State) : Host.Outcome State Fault Refusal :=
  runEvent (s.whileRuns cl (tileFailure cl cause addr s)) s

end Sys2Proof.Machine
end

