-- ==== Sys2Proof/Machine/Planisher.lean ====
section
/-! DEFINITION. The planisher (R223 to R231): the epilogue of an element, the layout of a row, and the drain of a buffer. -/
namespace Sys2Proof.Machine

/-! ### The epilogue (R225, R226) -/

/-- R225: the activations on an FP32 code. -/
def activate (act v : Nat) : Nat × FlagSet :=
  let x := Fmt.f32.decode v
  match act with
  | 1 =>
    if x.isNaN then nanOf .f32 x.isSNaN
    else if x.isNeg then (0, 0#5) else (v, 0#5)
  | 2 => specialF32 .sig v
  | 3 => specialF32 .tanh v
  | 4 =>
    if x.isNaN then nanOf .f32 x.isSNaN
    else if x = .inf true then (Fmt.f32.signed true 0, 0#5)
    else
      let g := specialF32 .sig v
      let r := f32Mul v g.1
      (r.1, g.2 ||| r.2)
  | _ => (v, 0#5)

/-- R225: an accumulator word as it enters the epilogue, with its FP32 form. -/
def epiInput (e : BitVec 512) (x : BitVec 32) : Nat × FlagSet :=
  if epiField e 0 0 1 = 0 then (x.toNat, 0#5) else roundVal .f32 .rne false 0 (intVal x.toInt)

/-- R225: the value after scaling, bias and activation. -/
def epiValue (e : BitVec 512) (bias : List Nat) (j : Nat) (x : BitVec 32) : Nat × FlagSet :=
  let v0 := epiInput e x
  let v1 := if epiField e 0 3 1 = 1 then let r := f32Mul v0.1 (epiField e 0 32 32); (r.1, v0.2 ||| r.2) else v0
  let v2 := if epiField e 0 4 1 = 1 then
      let b := if epiField e 0 5 1 = 1 then cvtVal .f32 .rne true 0 (Fmt.bf16.decode (bias.getD j 0)) else (bias.getD j 0, 0#5)
      let r := f32Add v1.1 b.1
      (r.1, v1.2 ||| b.2 ||| r.2)
    else v1
  let r := activate (epiField e 0 16 4) v2.1
  (r.1, v2.2 ||| r.2)

/-- R225: the integer path, for an integer buffer with an integer output and no other step. -/
def epiExact (e : BitVec 512) : Bool :=
  decide (epiField e 0 0 1 = 1) && (epiType e).isInt && decide (epiField e 0 3 2 = 0) && decide (epiField e 0 16 4 = 0)

/-- R225: the output code of an element. -/
def epiOut (e : BitVec 512) (bias : List Nat) (j : Nat) (x : BitVec 32) : Nat × FlagSet :=
  match epiType e with
  | .int sg w =>
    if epiExact e then
      let (v, c) := clampInt (intMin sg w) (intMax sg w) x.toInt
      (intCode w v, flIf c flSaturation)
    else
      let v := epiValue e bias j x
      let r := cvtInt (intMin sg w) (intMax sg w) .rne 0 (Fmt.f32.decode v.1)
      (intCode w r.1, v.2 ||| r.2)
  | .flt f =>
    let v := epiValue e bias j x
    let r := cvtVal f .rne (decide (epiField e 0 2 1 = 1)) 0 (Fmt.f32.decode v.1)
    (r.1, v.2 ||| r.2)
  | _ => (0, 0#5)

/-- Elements of `w` bits packed from bit 0 up (R36, R227). -/
def packCodes (w : Nat) : List Nat → Nat
  | [] => 0
  | c :: r => c % 2 ^ w + 2 ^ w * packCodes w r

/-- R226: block `q` of a row in MX form: scale, codes, flags. -/
def epiBlock (e : BitVec 512) (f : Fmt) (vs : List Nat) : Nat × List Nat × FlagSet :=
  quantise f .rne (decide (epiField e 0 2 1 = 1)) (fun _ => 0) (vs.map Fmt.f32.decode)

/-- R227: the bytes of a row from its 128 words, with the flags it raises. -/
def epiRowBytes (e : BitVec 512) (bias : List Nat) (row : List (BitVec 32)) : List Byte × FlagSet :=
  let w := (epiType e).bits
  match epiMx e, epiType e with
  | true, .flt f =>
    let vs := row.mapIdx (fun j x => epiValue e bias j x)
    let sn := vs.foldl (fun (a : FlagSet) v => a ||| v.2 ||| flIf (Fmt.f32.decode v.1).isSNaN flInvalid) 0#5
    let blocks := (List.range 4).map (fun q => epiBlock e f (((vs.drop (32 * q)).take 32).map (·.1)))
    (natBytes (16 * w) (packCodes w (blocks.flatMap (·.2.1))) ++ blocks.map (fun b => BitVec.ofNat 8 b.1),
      blocks.foldl (fun (a : FlagSet) b => a ||| b.2.2) sn)
  | _, _ =>
    let os := row.mapIdx (fun j x => epiOut e bias j x)
    (natBytes (16 * w) (packCodes w (os.map (·.1))), os.foldl (fun (a : FlagSet) o => a ||| o.2) 0#5)

/-! ### The drain (R228 to R231) -/

/-- R228: the bias vector of a drain at its place on the issuing core. -/
def biasLoc (m : TileCmd) : Nat × Nat :=
  (spadBase m.src.core + epiField m.epi 1 0 19, if epiField m.epi 0 5 1 = 1 then 2 else 4)

/-- R228: the bias values as they are read. -/
def State.readBias (s : State) (m : TileCmd) : List Nat :=
  let (a, w) := biasLoc m
  if epiField m.epi 0 4 1 = 1 then (List.range 128).map (fun j => s.read (a + w * j) w) else []

/-- R231: the ranges of the rows that go to memory. -/
def memRanges (m : TileCmd) : List (Nat × Nat × Nat) :=
  ((List.range 128).filter (fun i => decide (mapDst m.map0 (i / 8) = 8))).map (fun i =>
    (i, epiAddr m.epi + i * epiPitch m.epi, epiRow m.epi))

/-- `DRAIN_START`, R228, R231: the bias and the flags are read; the lines of the rows in memory become the planisher's. -/
def drainStart (cl : Nat) (s : State) : Option State :=
  let c := s.cluster cl
  match c.cmds with
  | [] => none
  | m :: _ =>
    if decide (m.kind ≠ .drain) || m.started || decide (s.now < m.retry) || (s.cmdBad m).isSome ||
        !s.strandDone m.src m.id || s.awaits (.tile m.id) then none
    else
      let (a, _) := biasLoc m
      if epiField m.epi 0 4 1 = 1 ∧ s.belowBound a then some (s.setHead cl { m with bad := some (0x05, a) })
      else
        match s.engineRanges (.tile m.id) cl m.src.core true [] (memRanges m) [] with
        | .all locs =>
          let s1 := s.touchAll cl locs true
          some ((s1.updCluster cl (fun x => { x with owned := (rowSectors locs).foldl (fun o n => sadd n o) x.owned })).setHead cl
            { m with started := true, bias := s.readBias m, tf := (if m.buf = 0 then c.f0 else c.f1), rowsAt := locs })
        | .held | .ask _ _ => some (s.setHead cl { m with retry := s.now + 1 })
        | .missing x =>
          let ids := s.ctxIds m.src.core
          some ((s.setHead cl { m with retry := s.now + 1 }).waitPage cl ids.1 ids.2 x true (.tile m.id))
        | .fail f x => some (s.setHead cl { m with bad := some (f, x) })

/-- R228: the rows sent to slot `d` before row `i`. -/
def rowsBefore (m : Word) (d i : Nat) : Nat := ((List.range i).filter (fun j => decide (mapDst m (j / 8) = d))).length

/-- R229: the lowest row that a destination receives, and whether row `i` is its last. -/
def firstRow (m : Word) (d : Nat) : Nat := ((List.range 16).find? (fun i => decide (mapDst m i = d))).getD 0 * 8
def lastRow (m : Word) (d i : Nat) : Bool :=
  decide (i % 8 = 7) && ((List.range 16).filter (fun j => decide (i / 8 < j))).all (fun j => decide (mapDst m j ≠ d))

/-- R229: the payload of an arrival message. -/
def arrivalWord (m : TileCmd) (d : Nat) (ef : FlagSet) : Nat :=
  m.buf + (if d = 8 then 2 else 0) + rowsTo m.map0 d * 2 ^ 8 + firstRow m.map0 d * 2 ^ 16 + m.tf.toNat * 2 ^ 24 +
    ef.toNat * 2 ^ 27 + slotInCluster m.src.core * 2 ^ 32

/-- R229, R322: an arrival message posted by the planisher. -/
def State.postArrival (s : State) (cl : Nat) (m : TileCmd) (d : Nat) (ef : FlagSet) : State :=
  let dst := if d = 8 then m.src.core else coreOfSlot cl d
  { s with flights := kset s.nextAccess ⟨m.src, dst, .arrival (mapLine m.map1) (BitVec.ofNat 64 (arrivalWord m d ef)), 0#64⟩ s.flights,
           nextAccess := s.nextAccess + 1 }

/-- `DRAIN_ROW_WRITE`, R228, R229: one row written; with the last row of a destination its arrival message. R441, R442: a row
in host-shared memory is refused once the context is fenced, though it was located before. -/
def drainRow (cl : Nat) (s : State) : Option State :=
  let c := s.cluster cl
  match c.cmds with
  | [] => none
  | m :: _ =>
    if decide (m.kind ≠ .drain) || !m.started || decide (128 ≤ m.row) || (s.cmdBad m).isSome then none
    else
      let i := m.row
      let d := mapDst m.map0 (i / 8)
      let r := epiRowBytes m.epi m.bias ((List.range 128).map (fun j => kget 0#32 (128 * i + j) (c.acc m.buf)))
      let core := coreOfSlot cl d
      let a := spadBase core + mapBase m.map1 + rowsBefore m.map0 d i * mapPitch m.map1
      let y := epiAddr m.epi + i * epiPitch m.epi
      let ids := s.ctxIds m.src.core
      if decide (d ≠ 8) && s.belowBound a then some (s.setHead cl { m with bad := some (0x05, a) })
      else if decide (d = 8) && decide (y < 2 ^ 63) && s.fencedFor ids.1 ids.2 then some (s.setHead cl { m with bad := some (0x13, y) })
      else
        let ef := kget 0#5 d m.ef ||| r.2
        let s1 := if d = 8 then s.writeLocs m.src.core (kget [] i m.rowsAt) r.1 else s.write a r.1
        let m1 := { m with row := i + 1, ef := kset d ef m.ef }
        let s2 := s1.setHead cl m1
        some (if lastRow m.map0 d i then s2.postArrival cl m1 d ef else s2)

/-- `DRAIN_START`. -/
def execDrainStart (cl : Nat) (s : State) : Host.Outcome State Fault Refusal := runEvent (s.whileRuns cl (drainStart cl s)) s

/-- `DRAIN_ROW_WRITE`. -/
def execDrainRowWrite (cl : Nat) (s : State) : Host.Outcome State Fault Refusal := runEvent (s.whileRuns cl (drainRow cl s)) s

end Sys2Proof.Machine
end

