-- ==== Sys2Proof/Machine/Region.lean ====
section
/-! DEFINITION. Regions and partitions (19_region): the four controls of a region and its life cycle, write-back and
scrubbing, the loss list, region status, partitions and their windows, permission tables. -/
namespace Sys2Proof.Machine

/-! ### The memory of the ridge die -/

/-- R14, R295: bytes written by an agent of the ridge die or a finial cluster: every cached copy of the sectors is
recalled. -/
def State.ridgeWrite (s : State) (a : Nat) (bs : List Byte) : State := (s.touch 160 a bs.length true).write a bs

/-- A little-endian number read by an agent of the ridge die, at a location. -/
def State.ridgeRead (s : State) (a n : Nat) : Nat × State := (s.read a n, s.touch 160 a n false)

/-! ### Status (R410) -/

def RegionState.code : RegionState → Nat
  | .off => 0
  | .gated => 1
  | .scrubbing => 2
  | .ready => 3
  | .assigned => 4
  | .resetting => 5
  | .quarantined => 6

/-- R410: the status word of a region. -/
def Region.statusWord (x : Region) : Nat :=
  x.st.code + x.part.getD 31 * 2 ^ 3 + min x.ntr 0xFFFF * 2 ^ 16 + min x.nrst 0xFFFF * 2 ^ 32

/-- R410: the region's word in the host's block, where one is registered. -/
def State.writeStatus (s : State) (r : Nat) : State :=
  match s.statusBlock with
  | some b => s.ridgeWrite (b + 8 * r) (natBytes 8 (s.region r).statusWord)
  | none => s

/-- R219, R290: bytes written by an agent of the ridge die, or kept until the lines that they need are given up, in the
order of its writes; the writer goes on meanwhile (DESIGN CHOICE, log 78). -/
def State.ridgePost (s : State) (a : Nat) (bs : List Byte) : State :=
  if s.ridgeQ.isEmpty && !s.linesHeld 160 a bs.length true then s.ridgeWrite a bs
  else { s with ridgeQ := s.ridgeQ ++ [.bytes a bs] }

/-- R410: the region's word as `ridgePost` writes it. -/
def State.putStatus (s : State) (r : Nat) : State :=
  match s.statusBlock with
  | some b =>
    if s.ridgeQ.isEmpty && !s.linesHeld 160 (b + 8 * r) 8 true then s.writeStatus r
    else { s with ridgeQ := s.ridgeQ ++ [.status r] }
  | none => s

/-- R384, R405: an interrupt that follows the writes of the ridge die. -/
def State.interrupt (s : State) (vf vec : Nat) : State :=
  if s.ridgeQ.isEmpty then s.send (.msix vf vec) else { s with ridgeQ := s.ridgeQ ++ [.interrupt vf vec] }

/-- A region changed, and its status word with it. -/
def State.regionTo (s : State) (r : Nat) (f : Region → Region) : State := (s.setRegion r (f (s.region r))).putStatus r

/-! ### The loss list (R405, R406) -/

/-- The physical function's number in an interrupt. -/
def physFunction : Nat := 64

/-- R405: the header words after an entry. -/
def State.writeLossHeader (s : State) (l : LossList) : State :=
  s.ridgePost l.addr (natBytes 8 (l.cnt % 2 ^ 32) ++ natBytes 8 (l.cap % 2 ^ 32) ++ natBytes 8 (if l.ovf then 1 else 0))

/-- R405: the address by which software names a location: device-private memory by its window offset. -/
def deviceAddr (a : Nat) : Nat := if a / 2 ^ 60 = 9 then 0x9000000000000000 + a % 2 ^ 47 else a

/-- R405: an entry: its sector, source, region, partition and event. -/
def State.addLoss (s : State) (sector src reg part evt : Nat) : State :=
  match s.loss with
  | none => s
  | some l =>
    let s1 :=
      if l.cnt < l.cap then
        s.ridgePost (l.addr + 64 + 16 * l.cnt)
          (natBytes 8 (deviceAddr (sector * 64)) ++ natBytes 8 (src + reg % 32 * 2 ^ 8 + part % 32 * 2 ^ 13 + evt % 2 ^ 32 * 2 ^ 32))
      else s
    let l' := { l with cnt := l.cnt + 1, ovf := l.ovf || decide (l.cap ≤ l.cnt), due := sadd evt l.due }
    { s1 with loss := some l' }.writeLossHeader l'

/-- R405: a reset or fencing event begins. -/
def State.lossEvent (s : State) : State := { s with loss := s.loss.map (fun l => { l with evt := l.evt + 1 }) }

/-- R405: the number of the latest event. -/
def State.lossEvt (s : State) : Nat := (s.loss.map (·.evt)).getD 0

/-- R405: the vector is raised once the last entry of an event has been counted. -/
def State.lossDone (s : State) (evt : Nat) : State :=
  match s.loss with
  | some l => if evt ∈ l.due then ({ s with loss := some { l with due := sdel evt l.due } }).interrupt physFunction l.vec else s
  | none => s

/-- R406: a sector takes the value that last reached the ridge cache. -/
def State.loseSector (s : State) (sector : Nat) : State :=
  match kfind sector s.ridge with
  | none => s
  | some (cells, tags) =>
    let s1 := { s with
      mem := cells.foldl (fun (m : List Host.Cell) (c : Nat × Byte) => kput 0#8 c.1 c.2 m) (s.mem.filter (fun c => decide (c.1 / 64 ≠ sector))),
      tags := tags.foldl (fun (t : List Nat) g => sadd g t) (s.tags.filter (fun g => decide (g / 4 ≠ sector))) }
    s1.dirRecall sector

/-- A cluster's slice holds a sector dirty. -/
def State.dirtyIn (s : State) (sector cl : Nat) : Bool :=
  decide (s.sectorIn sector cl = .m) || decide (s.sectorIn sector cl = .o)

/-- R397 step 1, R398: the slices of a region written back and emptied; the dirty sectors among `lost` are not written
back and are recorded. -/
def State.writeBack (s : State) (r : Nat) (lost : List Nat) : State :=
  let cls := clustersOfRegion r
  let bad := lost.filter (fun x => cls.any (s.dirtyIn x))
  let part := ((s.region r).part.getD 31)
  let s1 := bad.foldl (fun (st : State) x => (st.loseSector x).addLoss x 1 r part (s.region r).evt) s
  let mine := s1.dir.filter (fun e => decide (e.1 % 256 ∈ cls))
  let dirty := (mine.filter (fun e => decide (e.2 = .m) || decide (e.2 = .o))).map (·.1 / 256)
  let s2 := { s1 with dir := s1.dir.filter (fun e => !decide (e.1 % 256 ∈ cls)) }
  dirty.foldl (fun (st : State) x => st.writtenBack x) s2

/-- R398: some sector of the list is dirty in the region's slices, so that its loss is recorded. -/
def State.losesAny (s : State) (r : Nat) (lost : List Nat) : Bool :=
  lost.any (fun x => (clustersOfRegion r).any (s.dirtyIn x))

/-! ### Reset and scrub (R394, R397, R407) -/

/-- R394: the reset line of a region: its strands stop without a save, its entries and commands are discarded, and what is
still to be reported to its strands has no receiver (R411). -/
def State.assertReset (s : State) (r : Nat) : State :=
  let s1 := (coresOfRegion r).foldl (fun (st : State) k =>
    if (kfind k st.cores).isNone then st
    else st.updCore k (fun c => { c with slots := [], seq := [], phase := none, transfers := [], held := [] })) s
  let s2 := (clustersOfRegion r).foldl (fun (st : State) cl =>
    if (kfind cl st.clusters).isNone then st
    else st.updCluster cl (fun c => { c with cmds := [], copies := [], owned := [], tileFail := [] })) s1
  { s2 with
    accesses := s2.accesses.filter (fun a => decide (regionOf a.2.core ≠ some r)),
    refusals := s2.refusals.filter (fun a => decide (regionOf a.2.src.core ≠ some r)) }.dropEnded s

/-- R365: the clusters of a region are resident for no stage, in the save sets of contexts either. -/
def State.forgetImages (s : State) (r : Nat) : State :=
  { s with contexts := s.contexts.map (fun e => (e.1, { e.2 with save := e.2.save.map (fun x => { x with
      clusters := x.clusters.map (fun c => if c.1 ∈ clustersOfRegion r then (c.1, { c.2 with resident := none }) else c) }) })) }

/-- R403: every permission that names a cluster of the region is gone, and those that its clusters name. -/
def State.clearWindows (s : State) (r : Nat) : State :=
  let cls := clustersOfRegion r
  { s with clusters := s.clusters.map (fun c =>
      (c.1, { c.2 with perm := if decide (c.1 ∈ cls) then [] else c.2.perm.filter (fun x => !decide (x ∈ cls)) })) }

/-- R407 step 1: the reset of a region begins. -/
def State.beginReset (s : State) (r : Nat) : State :=
  ((s.assertReset r).clearWindows r).regionTo r (fun x =>
    { x with st := .resetting, rst := true, closing := true, nrst := x.nrst + 1, evt := s.lossEvt, resetAt := s.now })

/-- R396, R399, R411: packets on their way as a region is scrubbed: those of its own cores are gone with them, and those for
its cores are refused. -/
def State.scrubFlights (s : State) (r : Nat) : State :=
  let mine (k : Nat) : Bool := decide (regionOf k = some r)
  let s1 := (s.flights.filter (fun f => mine f.2.dst && !mine f.2.src.core)).foldl (fun (st : State) f =>
    st.refuse f.2.src 0x10 f.2.addr) s
  { s1 with flights := s1.flights.filter (fun f => !mine f.2.dst && !mine f.2.src.core),
            refusals := s1.refusals.filter (fun f => !mine f.2.src.core) }

/-- R397 steps 2 to 7: scratchpads, anvils, event units, channels, ATCs, registers and permission tables cleared, with the
windows of the region (R403). -/
def State.scrub (s0 : State) (r : Nat) : State :=
  let s := ((s0.scrubFlights r).clearWindows r).forgetImages r
  let inReg (a : Nat) : Bool := isSpad a && decide (regionOf (spadCore a) = some r)
  ({ s with
    mem := s.mem.filter (fun c => !inReg c.1),
    tags := s.tags.filter (fun g => !inReg (g * 16)),
    cores := (coresOfRegion r).foldl (fun (m : List (Nat × Core)) k => kset k { Core.init with cycleBase := s.now } m) s.cores,
    clusters := s.clusters.filter (fun c => !decide (c.1 ∈ clustersOfRegion r)) } : State).settleDrops.settlePages

/-! ### Partitions (R400, R402, R408) -/

/-- R402, R408: a partition dissolved: its window and the window's tags are zeroed. -/
def State.dissolve (s : State) (p : Nat) : State :=
  match s.partition p with
  | none => s
  | some x =>
    let inWin (a : Nat) : Bool := decide (privBase p ≤ a) && decide (a < privBase p + x.window)
    { s with
      mem := s.mem.filter (fun c => !inWin c.1),
      tags := s.tags.filter (fun g => !inWin (g * 16)),
      dir := s.dir.filter (fun e => !inWin (e.1 / 256 * 64)),
      ridge := s.ridge.filter (fun e => !inWin (e.1 * 64)),
      partitions := kdel p s.partitions }

/-- R408: a region leaves its partition, which is dissolved when none remain. -/
def State.leavePartition (s : State) (r : Nat) : State :=
  match s.partitions.find? (fun e => decide (r ∈ e.2.regions)) with
  | none => s
  | some (p, x) =>
    let rest := x.regions.filter (fun y => decide (y ≠ r))
    let s1 := s.setRegion r { s.region r with part := none }
    if rest.isEmpty then s1.dissolve p else s1.updPartition p (fun x => { x with regions := rest })

/-- R413: *faulted* contexts of a partition are *bound* again once every region of it is *ready* or back in use. -/
def State.partitionReady (s : State) (p : Nat) : State :=
  match s.partition p with
  | none => s
  | some x =>
    if x.regions.all (fun r => decide ((s.region r).st = .ready) || decide ((s.region r).st = .assigned)) then
      { s with contexts := s.contexts.map (fun c =>
          if c.2.part = p ∧ c.2.st = .faulted then (c.1, { c.2 with st := .bound }) else c) }
    else s

/-- R408: `PARTID` of the groups of a partition as its regions now are. -/
def State.renewPartId (s : State) (p : Nat) : State :=
  { s with groups := s.groups.map (fun (e : Nat × Group) =>
      (e.1, if e.2.part = p then { e.2 with partId := BitVec.ofNat 64 (s.partIdFor p (e.2.partId.toNat / 2 ^ 8)) } else e.2)) }

/-- R408: a region enters *quarantined*. -/
def State.quarantine (s : State) (r : Nat) : State :=
  let p := s.partitions.find? (fun e => decide (r ∈ e.2.regions))
  let s0 := match p with
    | some e => (s.leavePartition r).renewPartId e.1
    | none => s.leavePartition r
  let s1 := s0.regionTo r (fun x =>
    { x with st := .quarantined, part := none, gate := false, closing := false, rst := false })
  match p with
  | some e => s1.partitionReady e.1
  | none => s1

/-- R419: some function of a partition holds its interface locked. -/
def State.partLocked (s : State) (p : Nat) : Bool :=
  s.vfs.any (fun v => decide (v.2.part = some p) && decide (v.2.tdisp ≠ .unlocked))

/-- R402: the units of 2 MiB that the windows of all partitions but one may leave to it. -/
def State.windowRoom (s : State) (p : Nat) : Nat :=
  49152 - ((s.partitions.filter (fun e => decide (e.1 ≠ p))).map (fun e => e.2.window / 2 ^ 21)).sum

/-- R402: the window size of a new partition: as firmware has set it, or a free choice of firmware's (log 58), with all
windows within 96 GiB. -/
def State.newWindow (s : State) (p : Nat) : Nat :=
  min ((kfind p s.windowUnits).getD (Config.windowUnits p % 2048 + 1)) (s.windowRoom p) * 2 ^ 21

/-- R402: firmware sets the window of a partition; the bytes that it loses are zeroed. -/
def State.setWindow (s : State) (p units : Nat) : State :=
  let s1 := { s with windowUnits := kset p units s.windowUnits }
  match s.partition p with
  | none => s1
  | some x =>
    let w := units * 2 ^ 21
    if s.partLocked p ∨ s.windowRoom p < units then s1
    else
      let gone (a : Nat) : Bool := decide (privBase p + w ≤ a) && decide (a < privBase p + x.window)
      { s1 with
        mem := s.mem.filter (fun c => !gone c.1),
        tags := s.tags.filter (fun g => !gone (g * 16)),
        dir := s.dir.filter (fun e => !gone (e.1 / 256 * 64)),
        ridge := s.ridge.filter (fun e => !gone (e.1 * 64)) }.updPartition p (fun y => { y with window := w })

/-! ### Events -/

/-- R394: a region whose rail drops loses its state: it is as after power-on (logs 2 and 3). -/
def State.losePower (s : State) (r : Nat) : State := ((s.assertReset r).scrub r).setRegion r { s.region r with rail := false }

/-- R394, R395, R453: firmware raises or drops the rail of a region, in whatever state it is; the bit is stored, and R395
says which state follows. -/
def regionRail (r : Nat) (up : Bool) (s : State) : Option State :=
  if 20 ≤ r then none
  else
    match (s.region r).st, up with
    | .off, true => some (s.regionTo r (fun x => { x with st := .scrubbing, rail := true, clk := true, gate := false, lasting := false }))
    | _, true => some (s.setRegion r { s.region r with rail := true })
    | .ready, false => some ((s.losePower r).regionTo r (fun x => { x with st := .off }))
    | .quarantined, false => some ((s.losePower r).regionTo r (fun x => { x with st := .off }))
    | _, false => some (s.losePower r)

/-- R394, R395: firmware stops or restarts the clock of a region; R453: no clock is raised on a region whose rail is down;
else the bit is stored, and R395 says which state follows. -/
def regionClk (r : Nat) (run : Bool) (s : State) : Option State :=
  if 20 ≤ r then none
  else
    match (s.region r).st, run with
    | .ready, false => some (s.regionTo r (fun x => { x with st := .gated, clk := false, left := .ready }))
    | .assigned, false => some (s.regionTo r (fun x => { x with st := .gated, clk := false, left := .assigned }))
    | _, false => some (s.setRegion r { s.region r with clk := false })
    | .gated, true => if (s.region r).rail then some (s.regionTo r (fun x => { x with st := x.left, clk := true })) else none
    | _, true => if (s.region r).rail then some (s.setRegion r { s.region r with clk := true }) else none

/-- R394, R395, R407, R453: the reset line of a region is asserted or released; on an assigned region its assertion begins a
reset. -/
def regionRst (r : Nat) (on : Bool) (s : State) : Option State :=
  if 20 ≤ r then none
  else if !on then some (s.setRegion r { s.region r with rst := false })
  else if (s.region r).st = .assigned then some (s.lossEvent.beginReset r)
  else some ((s.assertReset r).setRegion r { s.region r with rst := true })

/-- R394, R453: the gate opens only on an assigned region. -/
def regionGate (r : Nat) (openIt : Bool) (s : State) : Option State :=
  if 20 ≤ r then none
  else if openIt then
    if (s.region r).st = .assigned then some (s.setRegion r { s.region r with gate := true }) else none
  else some (s.setRegion r { s.region r with gate := false })

/-- R405: the event's vector, once no region of it is still closing its gate, so that its last entry has been counted. -/
def State.lossSettled (s : State) (evt : Nat) : State :=
  if s.regions.any (fun r => r.2.closing && decide (r.2.evt = evt)) then s else s.lossDone evt

/-- R394: the blocks of a region have power and a clock. -/
def Region.powered (x : Region) : Bool := x.rail && x.clk

/-- R395, R407, R408: the gate of a resetting region is closed and its write-back done. -/
def gateClosed (r : Nat) (lost : List Nat) (s : State) : Option State :=
  if r < 20 ∧ (s.region r).st = .resetting ∧ (s.region r).closing ∧ (s.region r).powered then
    let bad := (s.region r).lasting || s.losesAny r lost
    let s1 := s.writeBack r lost
    let evt := (s.region r).evt
    some (if bad then ((s1.scrub r).quarantine r).lossSettled evt
      else (s1.regionTo r (fun x => { x with st := .scrubbing, rst := false, gate := false, closing := false })).lossSettled evt)
  else none

/-- R395, R397 to R399: scrubbing ends. -/
def scrubComplete (r : Nat) (lost : List Nat) (lasting : Bool) (s : State) : Option State :=
  if r < 20 ∧ (s.region r).st = .scrubbing ∧ (s.region r).powered then
    let bad := lasting || (s.region r).lasting || s.losesAny r lost
    let s1 := ((s.writeBack r lost).scrub r).lossSettled (s.region r).evt
    if bad then some (s1.quarantine r)
    else
      let s2 := s1.regionTo r (fun x => { x with st := .ready, part := none, gate := false })
      some (match s2.partitions.find? (fun e => decide (r ∈ e.2.regions)) with
        | some e => s2.partitionReady e.1
        | none => s2)
  else none

/-- R395, R400, R402, R403: firmware assigns a ready region to a partition, which is formed where it does not exist. -/
def regionAssign (r p : Nat) (s : State) : Option State :=
  let owner := (s.partitions.find? (fun e => decide (r ∈ e.2.regions))).map (·.1)
  if r < 20 ∧ p < 20 ∧ (s.region r).st = .ready ∧ (owner = none ∨ owner = some p) ∧
      (owner = some p ∨ !s.partLocked p) then
    let s1 :=
      match s.partition p with
      | some x => s.updPartition p (fun _ => { x with regions := sadd r x.regions })
      | none => { s with partitions := kset p ⟨[r], s.newWindow p, none, none, none, none, none, 0⟩ s.partitions }
    some (s1.regionTo r (fun x => { x with st := .assigned, part := some p, gate := true }))
  else none

/-- R395, R419: firmware releases an assigned region. -/
def regionRelease (r : Nat) (s : State) : Option State :=
  match (s.region r).part with
  | some p =>
    if r < 20 ∧ (s.region r).st = .assigned ∧ !s.partLocked p then some ((s.leavePartition r).lossEvent.beginReset r) else none
  | none => none

/-- R403, R419: both clusters lie in *assigned* regions of different partitions whose functions are unlocked. -/
def State.windowAllowed (s : State) (a b : Nat) : Bool :=
  match s.partOfCluster a, s.partOfCluster b with
  | some p, some q => decide (a < 160) && decide (b < 160) && decide (p ≠ q) && !s.partLocked p && !s.partLocked q &&
      s.clusterRuns a && s.clusterRuns b
  | _, _ => false

/-- R403: a cross-bulkhead window between two clusters of different partitions: a pair of entries, set together. -/
def windowSet (a b : Nat) (s : State) : Option State :=
  if s.windowAllowed a b then
    some ((s.updCluster a (fun c => { c with perm := sadd b c.perm })).updCluster b (fun c => { c with perm := sadd a c.perm }))
  else none

/-- R403, R419: a window between two clusters of different partitions whose functions are unlocked may be cleared, whatever
state their regions are in. -/
def State.windowClearable (s : State) (a b : Nat) : Bool :=
  match s.partOfCluster a, s.partOfCluster b with
  | some p, some q => decide (p ≠ q) && !s.partLocked p && !s.partLocked q
  | _, _ => false

/-- R403, R404: both entries cleared together. -/
def windowClear (a b : Nat) (s : State) : Option State :=
  if s.windowClearable a b then
    some ((s.updCluster a (fun c => { c with perm := sdel b c.perm })).updCluster b (fun c => { c with perm := sdel a c.perm }))
  else none

/-- R394, R395. -/
def execRgctlRail (reg val : Nat) (s : State) : Host.Outcome State Fault Refusal := runEvent (s.byFirmware (reg / 5) (regionRail reg (val % 2 = 1) s)) s

/-- R394, R395, R453. -/
def execRgctlClk (reg val : Nat) (s : State) : Host.Outcome State Fault Refusal := runEvent (s.byFirmware (reg / 5) (regionClk reg (val % 2 = 1) s)) s

/-- R394, R395, R407. -/
def execRgctlRst (reg val : Nat) (s : State) : Host.Outcome State Fault Refusal := runEvent (s.byFirmware (reg / 5) (regionRst reg (val % 2 = 1) s)) s

/-- R394, R396, R453. -/
def execRgctlGate (reg val : Nat) (s : State) : Host.Outcome State Fault Refusal := runEvent (s.byFirmware (reg / 5) (regionGate reg (val % 2 = 1) s)) s

/-- R395, R407: the region's gate has closed; `lost` are the sectors that fail their check twice. -/
def execGateClosed (reg : Nat) (lost : List Nat) (s : State) : Host.Outcome State Fault Refusal := runEvent (gateClosed reg lost s) s

/-- R397, R398: scrubbing ends, with the sectors that failed and whether some other fault is lasting. -/
def execScrubComplete (reg : Nat) (lost : List Nat) (lasting : Nat) (s : State) : Host.Outcome State Fault Refusal :=
  runEvent (scrubComplete reg lost (lasting ≠ 0) s) s

/-- R395, R400. -/
def execRegionAssign (reg part : Nat) (s : State) : Host.Outcome State Fault Refusal := runEvent (s.byFirmware (reg / 5) (regionAssign reg part s)) s

/-- R395. -/
def execRegionRelease (reg : Nat) (s : State) : Host.Outcome State Fault Refusal := runEvent (s.byFirmware (reg / 5) (regionRelease reg s)) s

/-- R403. -/
def execWindowSet (a b : Nat) (s : State) : Host.Outcome State Fault Refusal := runEvent (s.byFirmware 0 (windowSet a b s)) s

/-- R403, R404. -/
def execWindowClear (a b : Nat) (s : State) : Host.Outcome State Fault Refusal := runEvent (s.byFirmware 0 (windowClear a b s)) s

end Sys2Proof.Machine
end

