-- ==== Sys2Proof/Machine/SysReg.lean ====
section
/-! DEFINITION. The system registers (R23 to R29, R147, R305, R317, R327, R424 to R429, R453) and the instructions that
read and write them. -/
namespace Sys2Proof.Machine

/-- R424, R453: a system register. -/
inductive SysReg where
  | status | pcc | trapVec | trapPc | trapCause | trapVal
  | xobound | member | spinBudget | barTimeout | xmon | srSeed | tieSeed
  | cycle | time | retired
  | coreId | clusterId | dieId | regionId | partId
  | fwId | rgCtl | pwrLim
  deriving DecidableEq, Repr

/-- R424, R453: the register of an index. -/
def SysReg.ofIndex : Nat → Option SysReg
  | 0x000 => some .status
  | 0x001 => some .pcc
  | 0x002 => some .trapVec
  | 0x003 => some .trapPc
  | 0x004 => some .trapCause
  | 0x005 => some .trapVal
  | 0x008 => some .xobound
  | 0x009 => some .member
  | 0x00A => some .spinBudget
  | 0x00B => some .barTimeout
  | 0x00C => some .xmon
  | 0x010 => some .srSeed
  | 0x011 => some .tieSeed
  | 0x020 => some .cycle
  | 0x021 => some .time
  | 0x022 => some .retired
  | 0x030 => some .coreId
  | 0x031 => some .clusterId
  | 0x032 => some .dieId
  | 0x033 => some .regionId
  | 0x034 => some .partId
  | 0x800 => some .fwId
  | 0x801 => some .rgCtl
  | 0x802 => some .pwrLim
  | _ => none

/-- R28, R305, R424, R425, R453: a write traps at the given privilege (for firmware DEDUCED, log 33). -/
def SysReg.readOnly (r : SysReg) (firmware : Bool) : Bool :=
  match r with
  | .coreId | .clusterId | .dieId | .regionId | .partId | .fwId => true
  | .pcc | .cycle | .time | .retired => true
  | .member => !firmware
  | _ => false

/-! ### Identity (R23 to R27) -/

/-- R23. -/
def coreIdWord (k : Nat) : Nat :=
  coreIdLow k + (if isFinial k then 0x7FF else k) * 2 ^ 11 + (if isFinial k then 2 ^ 22 else 0)

/-- R24. -/
def clusterIdWord (k : Nat) : Nat :=
  let cl := clusterOf k
  (if isFinial k then 40 else cl % 40) + coreDie k * 2 ^ 6 + (if isFinial k then 0xFF else cl) * 2 ^ 8 + slotInCluster k * 2 ^ 16

/-- R25. -/
def regionIdWord (k : Nat) : Nat :=
  match regionOf k with
  | some r => r % 5 + coreDie k * 2 ^ 3 + r * 2 ^ 5
  | none => 7 + coreDie k * 2 ^ 3 + 31 * 2 ^ 5

/-- R26. -/
def dieIdWord (k : Nat) : Nat :=
  coreDie k + 4 * 2 ^ 2 + 20 * 2 ^ 5 + 16 * 2 ^ 10 + 5 * 2 ^ 15 + 40 * 2 ^ 18 + (Config.dieStep (coreDie k)).toNat * 2 ^ 24 +
    Config.diePart.toNat * 2 ^ 32

/-! ### Firmware registers (R453) -/

/-- R453: the control bits of one region. -/
def Region.control (x : Region) : Nat :=
  (if x.rail then 1 else 0) + (if x.clk then 2 else 0) + (if x.rst then 4 else 0) + (if x.gate then 8 else 0)

/-- R453: RGCTL of a die. -/
def State.rgctl (s : State) (die : Nat) : Nat :=
  ((List.range 5).map (fun r => (s.region (die * 5 + r)).control * 2 ^ (4 * r))).sum

/-- R394, R395, R453: a write of RGCTL: each control of each region of the die that changes acts. -/
def State.writeRgctl (s : State) (die w : Nat) : State :=
  (List.range 5).foldl (fun (st : State) i =>
    let r := die * 5 + i
    let x := st.region r
    let bit (n : Nat) : Bool := decide (w / 2 ^ (4 * i + n) % 2 = 1)
    let s1 := if x.rail ≠ bit 0 then (regionRail r (bit 0) st).getD st else st
    let s2 := if x.clk ≠ bit 1 then (regionClk r (bit 1) s1).getD s1 else s1
    let s3 := if x.rst ≠ bit 2 then (regionRst r (bit 2) s2).getD s2 else s2
    if x.gate ≠ bit 3 then (regionGate r (bit 3) s3).getD s3 else s3) s

/-- R453, R461: the limit stored by a write of PWRLIM: 200 to the fused ceiling of 800. -/
def limitStored (n : Nat) : Nat := max 200 (min 800 (n % 2 ^ 16))

/-- R453: PWRLIM. -/
def State.pwrLimWord (s : State) : Nat := s.pwrLim + s.pwr % 2 ^ 16 * 2 ^ 32 + (if s.pacing ≠ 0 then 2 ^ 48 else 0)

/-! ### Reading and writing -/

/-- R424 to R428, R453: a register as the strand in slot `sl` of core `k` reads it. -/
def State.sysRead (s : State) (k : Nat) (t : Strand) (r : SysReg) : TV :=
  let c := s.core k
  match r with
  | .status => .ofWord t.status
  | .pcc => t.pcc
  | .trapVec => .ofWord c.trapVec
  | .trapPc => .ofWord t.trapPc
  | .trapCause => .ofWord (t.trapCause.setWidth 64)
  | .trapVal => .ofWord t.trapVal
  | .xobound => .ofWord c.xobound
  | .member => .ofWord c.memberReg
  | .spinBudget => .ofWord c.spinBudget
  | .barTimeout => .ofWord c.barTimeout
  | .xmon => .ofWord c.xmon
  | .srSeed => .ofWord (c.srSeed.setWidth 64)
  | .tieSeed => .ofWord c.tieSeed
  | .cycle => .ofNat (s.cycleOf k % 2 ^ 64)
  | .time => .ofNat (s.timeNs % 2 ^ 64)
  | .retired => .ofWord c.retired
  | .coreId => .ofNat (coreIdWord k)
  | .clusterId => .ofNat (clusterIdWord k)
  | .dieId => .ofNat (dieIdWord k)
  | .regionId => .ofNat (regionIdWord k)
  | .partId => .ofWord (s.partIdWord k t.gid)
  | .fwId => .ofNat (coreDie k + slotInCluster k * 2 ^ 2 + (if coreDie k = 0 then 2 ^ 5 else 0))
  | .rgCtl => .ofNat (s.rgctl (coreDie k))
  | .pwrLim => .ofNat s.pwrLimWord

/-- R147: the boundary that a write of XOBOUND stores. -/
def boundStore (w : Word) : Word := BitVec.ofNat 64 ((min w.toNat 0x80000) / 256 * 256)

/-- R365: the cluster of a core is no longer resident. -/
def State.dropResident (s : State) (k : Nat) : State := s.updCluster (clusterOf k) (fun c => { c with resident := none })

/-- R46, R147, R243, R317, R327, R425 to R428, R453: a register written by the strand in slot `sl` of core `k`. -/
def State.sysWrite (s : State) (k sl : Nat) (r : SysReg) (w : Word) : State :=
  match r with
  | .status => s.updStrand k sl (·.setStatus w)
  | .trapVec => s.updCore k (fun c => { c with trapVec := w &&& ~~~3#64 })
  | .trapPc => s.updStrand k sl (fun t => { t with trapPc := w })
  | .trapCause => s.updStrand k sl (fun t => { t with trapCause := w.setWidth 8 })
  | .trapVal => s.updStrand k sl (fun t => { t with trapVal := w })
  | .xobound => (s.updCore k (fun c => { c with xobound := boundStore w })).dropResident k
  | .member => s.updCore k (fun c => { c with memberReg := w })
  | .spinBudget => s.updCore k (fun c => { c with spinBudget := (w.setWidth 32).setWidth 64 })
  | .barTimeout => s.updCore k (fun c => { c with barTimeout := (w.setWidth 32).setWidth 64 })
  | .xmon => s.updCore k (fun c => { c with xmon := w &&& 3#64 })
  | .srSeed => s.updCore k (fun c => { c with srSeed := seedStore w })
  | .tieSeed => s.updCore k (fun c => { c with tieSeed := tieStore w })
  | .rgCtl => s.writeRgctl (coreDie k) w.toNat
  | .pwrLim => { s with pwrLim := limitStored w.toNat }
  | _ => s

/-- R243: an entry issued earlier on the core has still to take its steps of the tie generator. -/
def Core.tiesPending (c : Core) : Bool := c.seq.any (fun e => decide (e.op = .hthr) && decide (e.tie = 3))

/-- R86, R425, R453: the register that a word names, for a read or a write, by the strand's privilege; `fields` are its
register fields. An index that names no register is found after an unbound q register, in 0x000 to 0x7FF as R425 says and
from 0x800 on, where R453 gives no step, in the same order (DESIGN CHOICE, log 62). -/
def sysNamed (word : BitVec 32) (idx : BitVec 12) (write : Bool) (fields : List (BitVec 6)) : M SysReg := do
  let k ← self
  let t ← getStrand
  if 0x800 ≤ idx.toNat ∧ !privileged k then trap 0x02 (word.setWidth 64)
  match SysReg.ofIndex idx.toNat with
  | none =>
    if let some q := firstUnbound t fields then trap 0x0C (BitVec.ofNat 64 q)
    trap 0x01 (word.setWidth 64)
  | some r =>
    if write && r.readOnly (privileged k) then trap 0x02 (word.setWidth 64)
    return r

/-- R64, R173, R426: a write of STATUS takes a recorded failure, once the q registers it names are found bound. -/
def sysFirst (r : SysReg) (write : Bool) (fields : List (BitVec 6)) : M Unit := do
  boundFirst fields
  if r = .status ∧ write then takeRecorded

/-- R243, R426: what a read or a write of a register waits for. -/
def sysWait (r : SysReg) (write : Bool) : M Unit := do
  let s ← get
  if r = .status ∧ write then
    if s.hasEntries s.turn.1 s.turn.2 then waitFor .inSlot
  if r = .tieSeed ∧ (s.core s.turn.1).tiesPending then waitFor .inSlot

/-- R429: `sget`. -/
def execSget (d : BitVec 6) (imm : BitVec 12) (s : State) : Host.Outcome State Fault Refusal :=
  runInstr 0 (do
    let r ← sysNamed (Sys2Proof.encI (0#1 ++ imm) 0#6 d 45#7) imm false [d]
    let _ ← operands [] [d]
    sysWait r false
    let t ← getStrand
    let s ← get
    result d 0 (s.sysRead s.turn.1 t r)
    return .next) s

/-- R429: `sset`. -/
def execSset (a : BitVec 6) (imm : BitVec 12) (s : State) : Host.Outcome State Fault Refusal :=
  runInstr 0 (do
    let r ← sysNamed (Sys2Proof.encI (0#1 ++ imm) a 0#6 46#7) imm true [a]
    sysFirst r true [a]
    let x ← operand1 a []
    sysWait r true
    modState (fun s => s.sysWrite s.turn.1 s.turn.2 r x.lo)
    return .next) s

/-- R429: `sswap`: the old value read and the new one written in one step. -/
def execSswap (d a : BitVec 6) (imm : BitVec 12) (s : State) : Host.Outcome State Fault Refusal :=
  runInstr 0 (do
    let r ← sysNamed (Sys2Proof.encI (0#1 ++ imm) a d 47#7) imm true [a, d]
    sysFirst r true [a, d]
    let x ← operand1 a [d]
    sysWait r true
    let t ← getStrand
    let s ← get
    let old := s.sysRead s.turn.1 t r
    modState (fun s => s.sysWrite s.turn.1 s.turn.2 r x.lo)
    result d 0 old
    return .next) s

/-- R7, R429: a register with no behaviour of its own is written in a core's or strand's place: nothing but the register
changes. Nothing happens for an index that names another kind of register, or none. -/
def registerWrite (core slot idx val : Nat) (s : State) : Option State :=
  match SysReg.ofIndex idx with
  | some .trapPc | some .trapCause | some .trapVal =>
    if (s.strand core slot).isSome then
      (SysReg.ofIndex idx).map (fun r => s.sysWrite core slot r (BitVec.ofNat 64 val)) else none
  | some .trapVec => some (s.sysWrite core slot .trapVec (BitVec.ofNat 64 val))
  | some .spinBudget => some (s.sysWrite core slot .spinBudget (BitVec.ofNat 64 val))
  | some .barTimeout => some (s.sysWrite core slot .barTimeout (BitVec.ofNat 64 val))
  | some .xmon => some (s.sysWrite core slot .xmon (BitVec.ofNat 64 val))
  | _ => none

/-- R7, R429. -/
def execRegisterWrite (core slot idx val : Nat) (s : State) : Host.Outcome State Fault Refusal :=
  runEvent (registerWrite core slot idx val s) s

/-- R453. -/
def execPwrlimWrite (val : Nat) (s : State) : Host.Outcome State Fault Refusal :=
  runEvent (some { s with pwrLim := limitStored val }) s

end Sys2Proof.Machine
end

