-- ==== Sys2Proof/Machine/StrandEvents.lean ====
section
/-! DEFINITION. What happens to strands between instructions: taking a record, spin budgets, releases of registered waits,
single-core pre-emption, retained registers (R120 to R130), and the answers to outstanding accesses (R66, R150, R303,
R347). -/
namespace Sys2Proof.Machine

/-! ### Taking a record (R121, R122, R124, R126) -/

/-- R310, R311: the group is held in *boundary*, or parked: its strands do not issue. -/
def Group.held (g : Group) : Bool := g.doms.any (fun d => decide (d.st = .boundary) || decide (d.st = .parked))

/-- R311: the group is switched out. -/
def Group.parked (g : Group) : Bool := g.doms.any (fun d => decide (d.st = .parked))

/-- R126: the oldest pointer of the highest priority that holds one. -/
def Group.best (g : Group) : Option (Nat × Nat) :=
  let top := g.pool.foldl (fun (m : Nat) e => max m e.2) 0
  g.pool.find? (fun e => decide (e.2 = top))

/-- The pool without one pointer, its oldest of that value. -/
def dropFirst (x : Nat × Nat) : List (Nat × Nat) → List (Nat × Nat)
  | [] => []
  | y :: l => if x = y then l else y :: dropFirst x l

/-- The core may take a strand from a pool: it issues, and its image is in place (R364, R369). -/
def State.mayTake (s : State) (k : Nat) : Bool :=
  let c := s.core k
  !c.frozen && !c.halted && !(s.cluster (clusterOf k)).loading && s.clusterRuns (clusterOf k)

/-- R124: a saved register as a resume installs it: an unusable granule comes without its tag. -/
def installed (v : TV) : TV := { v with tag := v.tag && capOk v }

/-- R123, R124: the strand that a record describes, under a stage's code capability and priority ceiling. An address that
the capability cannot represent clears the tag of PCC, so that the first fetch faults with 0x03; the spec only replaces the
address bits (DESIGN CHOICE, log 64). -/
def State.fromRecord (s : State) (loc addr : Nat) (g : Group) : Strand :=
  let w0 := s.read loc 8
  let w1 := s.read (loc + 8) 8
  let pc := (capAddr g.code) / 2 ^ 57 * 2 ^ 57 + w0 % 2 ^ 57
  { g := [(1, installed (s.readTagged (loc + 16))), (2, installed (s.readTagged (loc + 32))),
          (3, installed (s.readTagged (loc + 48)))].filter (fun e => decide (e.2 ≠ TV.zero)),
    q := [], sh := [], h := [], y := [], pcc := setAddr g.code pc,
    chk := decide (w0 / 2 ^ 58 % 2 = 1), rm := rmStore (w1 / 2 ^ 56 % 8), sr := BitVec.ofNat 5 (w1 / 2 ^ 59),
    ovl := decide (w0 / 2 ^ 59 % 2 = 1), trapPc := 0#64, trapCause := 0#8, trapVal := 0#64,
    sid := BitVec.ofNat 32 w1, gid := g.gid, pri := w1 / 2 ^ 48 % 16, ceiling := g.ceiling, record := addr,
    pend := [], pendFl := [], busy := [], nextIssue := max s.now (kget 0 addr g.delays), wait := none, granted := none, rep := none, loop := none, seqFail := none,
    lost := [], pendPush := none, popped := [], fabWindow := kfind addr g.windows }

/-- R121: the record passes its check. -/
def State.recordOk (s : State) (loc gid : Nat) : Bool :=
  let w1 := s.read (loc + 8) 8
  decide (s.read loc 8 / 2 ^ 60 = 0) && decide (w1 / 2 ^ 52 % 16 = 1) && decide (w1 / 2 ^ 32 % 2 ^ 16 = gid)

/-- R122, R126: an idle slot takes the oldest pointer of the highest priority; a record that fails its check faults. It
does so also while its group is held in *boundary*, where strands only do not issue (R310); not while the group is parked,
switched out. -/
def slotTakes (k sl : Nat) (s : State) : Option State :=
  if sl < 4 ∧ (s.strand k sl).isNone ∧ s.mayTake k then
    match s.groupOfCluster (clusterOf k) with
    | none => none
    | some g =>
      if g.parked ∨ k ∉ g.cores then none
      else
        match g.best with
        | none => none
        | some e =>
          let loc := privLoc g.part e.1
          if s.linesHeld (clusterOf k) loc 64 true then none
          else
          let s1 := s.updGroup g.part g.gid (fun g =>
            { g with pool := dropFirst e g.pool, delays := kdel e.1 g.delays, windows := kdel e.1 g.windows })
          let t := s1.fromRecord loc e.1 g
          let s2 := s1.setStrand k sl t
          if s1.recordOk loc g.gid then
            let w1 := s2.read (loc + 8) 8
            some (s2.write (loc + 8) (natBytes 8 (w1 + 2 ^ 52)))
          else some (s2.faultStrand k sl 0x01 (BitVec.ofNat 64 e.1) t.pc.toNat)
  else none

/-! ### Blocking waits (R127, R325) -/

/-- R127, R325: the wait may end at a suspension point. -/
def WaitKind.suspends : WaitKind → Bool
  | .blocking => true
  | .barw _ _ b => b
  | .mtxlock _ b => b
  | .evwait _ b => b
  | .waitv _ _ _ b => b
  | _ => false

/-- R325: the request of a slot withdrawn from a mutex. -/
def Cluster.withdrawMutex (c : Cluster) (n k sl : Nat) : Cluster :=
  let m := c.mutex n
  c.setMutex n { m with queue := m.queue.filter (fun e => decide (e ≠ (k, sl))) }

/-- R324, R327: what a timed wait waits for has come about, and its strand goes on: another generation of its counter. -/
def State.waitMet (s : State) (k : Nat) : WaitKind → Bool
  | .barw n gen _ => decide (((s.cluster (clusterOf k)).counter n).gen.toNat ≠ gen)
  | _ => false

/-- R127: what a blocking wait waits for has come about, so that its instruction issues. -/
def State.waitEnds (s : State) (k : Nat) : WaitKind → Bool
  | .evwait mask _ => (firstEvent mask (s.inboxOf k)).isSome
  | x => s.waitMet k x

/-- R122, R127: a blocking wait that has lasted its spin budget becomes a suspension point, unless what it waits for has
been given to it (a mutex, R339): the record is saved with the
blocking instruction as its pc, and the wait is registered. A `waitv` stalled on a page fault waits for that alone (R347).
R175: it comes once the strand's entries have completed;
R255, R314: it faults inside a slot or an exchange phase. -/
def spinExpiry (k sl : Nat) (s : State) : Option State :=
  match s.strand k sl with
  | none => none
  | some t =>
    match t.wait with
    | none => none
    | some w =>
      let n := (s.core k).spinBudget.toNat
      if !w.kind.suspends || t.granted.isSome || s.faulting (.strand k sl t.sid) || decide (n = 0) || decide (s.now < w.since + n) ||
          (s.core k).frozen || s.waitEnds k w.kind then none
      else if s.hasEntries k sl || !t.busy.isEmpty || s.recordHeld k t then none
      else
        let pc := t.pc.toNat
        match t.seqFail, t.halfSlot with
        | some f, _ => some (s.faultStrand k sl f.1 (BitVec.ofNat 64 f.2) pc)
        | none, q =>
          if (s.core k).exchanging then some (s.freeWord.2.faultStrand k sl 0x0E s.freeWord.1 pc)
          else match q with
            | some q => some (s.faultStrand k sl 0x14 (BitVec.ofNat 64 q) pc)
            | none =>
              let s1 := match w.kind with
                | .mtxlock m _ => s.updCluster (clusterOf k) (·.withdrawMutex m k sl)
                | _ => s
              some (((s1.leaveSlot k sl pc 3).updGroupOn k t.gid (fun g =>
                { g with registered := g.registered ++ [(t.record, k, w.kind)] })).dropEnded s)

/-- R122: what a registered wait waits for has come about. -/
def State.waitOver (s : State) (k : Nat) : WaitKind → Bool
  | .evwait mask _ => (firstEvent mask (s.inboxOf k)).isSome
  | .barw n gen _ => decide (((s.cluster (clusterOf k)).counter n).gen.toNat ≠ gen)
  | .mtxlock m _ => (((s.cluster (clusterOf k)).mutex m).owner).isNone
  | .waitv x size e _ =>
    match s.place k x size false true with
    | .here loc => decide (s.read loc size ≠ e)
    | _ => true
  | _ => true

/-- R122: the releasing event of a *suspended* strand's registered wait pushes its record to the pool. -/
def waitRelease (part addr : Nat) (s : State) : Option State :=
  match s.groups.find? (fun e => decide (e.2.part = part) && e.2.registered.any (fun r => decide (r.1 = addr))) with
  | none => none
  | some (_, g) =>
    match g.registered.find? (fun r => decide (r.1 = addr)) with
    | none => none
    | some (_, k, w) =>
      if g.parked || !s.waitOver k w || s.linesHeld (clusterOf k) (privLoc part addr) 64 true || s.poolHeld part g.gid then none
      else some (s.readyRecord part addr)

/-! ### Pre-emption of one core (R129, R199, R277, R314, R418) -/

/-- R418: the partition of a core is held for a switch. -/
def State.heldCore (s : State) (k : Nat) : Bool :=
  (((s.partOfCore k).bind s.partition).bind (·.heldSince)).isSome

/-- R199: the core holds the lease. -/
def State.holdsLease (s : State) (k : Nat) : Bool :=
  let l := (s.cluster (clusterOf k)).lease
  decide (l.holder = some (slotInCluster k)) &&
    (decide (l.st = .granted) || decide (l.st = .expiring) || decide (l.st = .draining))

/-- R129, R199, R277: issue stops on a core; the lease it holds is *revoked*, and its inbox goes to the gutter, up to the
first message that a blocked push came before: the rest follows in the order of arrival. -/
def State.freeze (s : State) (k : Nat) : State :=
  let first (m : Message) : Bool := (s.pushesAt k).all (fun a => decide (m.arrival ≤ a))
  let s0 := (((s.core k).inbox.filter first).foldl (fun (st : State) m => st.segmentPlaced m) s)
  let s1 := s0.updCore k (fun c =>
    { c with frozen := true, preempting := false, gutter := c.gutter ++ (c.inbox.filter first).map GutterItem.message,
             inbox := c.inbox.filter (fun m => !first m) })
  if s.holdsLease k then
    s1.updCluster (clusterOf k) (fun cl => { cl with lease := { cl.lease with left := cl.lease.st, st := .revoked } })
  else s1

/-- R199, R220, R314, R418: a pre-emption has to wait: for an exchange phase to close, for a switch, or for the tile
commands accepted under the lease that the core holds. -/
def State.defersPreempt (s : State) (k : Nat) : Bool :=
  (s.core k).exchanging || s.heldCore k || (s.holdsLease k && !(s.cluster (clusterOf k)).cmds.isEmpty)

/-- `SINGLE_CORE_PREEMPTION`, R15, R129, R199, R277, R314, R418: firmware pre-empts a tenant core, whatever state its region
is in; one that has to wait stands until it can be done. -/
def preempt (k : Nat) (s : State) : Option State :=
  if 1280 ≤ k ∨ (s.core k).frozen then none
  else if s.defersPreempt k then
    if (s.core k).preempting then none else some (s.updCore k (fun c => { c with preempting := true }))
  else some (s.freeze k)

/-- R129, R199, R277: a pre-empted core resumes: its lease returns to the state left, and its gutter is replayed. -/
def resume (k : Nat) (s : State) : Option State :=
  if (s.core k).frozen ∧ !s.heldCore k then
    let s1 := s.updCore k (fun c => { c with frozen := false })
    let s2 := s1.updCluster (clusterOf k) (fun cl =>
      let l := cl.lease
      if l.holder = some (slotInCluster k) ∧ l.st = .revoked then { cl with lease := { l with st := l.left } } else cl)
    some (s2.drainGutter k)
  else none

/-! ### Retained registers (R130) -/

/-- R130: a binding as a retained read gives it: bound, its kind, its end, its position, its slot, its entry and its home
(DESIGN CHOICE, log 62); an unbound register reads as zero. -/
def QBind.image (b : QBind) : TV :=
  .ofNat (1 + (match b.kind with | .channel => 0 | .command => 1 | .status => 2) * 2 + (if b.pop then 2 ^ 3 else 0) +
    b.pos % 4 * 2 ^ 4 + b.slot % 2 ^ 12 * 2 ^ 8 + b.entry % 2 ^ 8 * 2 ^ 24 + b.home * 2 ^ 32)

/-- R130: a register of a strand, by number: g0 to g55; from 64 the status, PCC and the trap registers; from 72 the
bindings of q0 to q7; from 0x100 the
shape records in 16-byte parts; from 0x200 the h and from 0x1000 the y registers in 16-byte parts. -/
def Strand.retained (t : Strand) (r : Nat) : TV :=
  if r < 56 then t.getG r
  else if r = 64 then .ofWord t.status
  else if r = 65 then t.pcc
  else if r = 66 then .ofWord t.trapPc
  else if r = 67 then .ofWord (t.trapCause.setWidth 64)
  else if r = 68 then .ofWord t.trapVal
  else if r < 0x100 then (if 72 ≤ r ∧ r < 80 then ((kfind (r - 72) t.q).map QBind.image).getD TV.zero else TV.zero)
  else if r < 0x200 then
    let x := t.getSh (r / 4 % 16)
    ⟨x.bits.extractLsb' (128 * (r % 4)) 128, x.tag && decide (r % 4 = 0)⟩
  else if r < 0x1000 then ⟨(t.getH (r / 64 % 8)).extractLsb' (128 * (r % 64)) 128, false⟩
  else ⟨(t.getY (r / 512 % 2)).extractLsb' (128 * (r % 512)) 128, false⟩

/-- R130: a read through firmware returns the architectural value and changes nothing; the value comes 40 cycles after
the read, which its answer carries. -/
def retainedRead (k sl r : Nat) (s : State) : Option State :=
  (s.strand k sl).map (fun t => s.send (.retained k sl r ((t.settle s.now).retained r) (s.now + 40)))

/-! ### Answers to outstanding accesses (R66, R67, R150, R292, R303, R347) -/

/-- The place of a strand, by its identity in its partition. -/
def State.slotOf (s : State) (src : Sender) : Option (Nat × Nat) :=
  (s.cores.filter (fun e => decide (s.partOfCore e.1 = s.partOfCore src.core))).findSome? (fun e =>
    (e.2.slots.find? (fun x => decide (x.2.sid = src.sid) && decide (x.2.gid = src.gid))).map (fun x => (e.1, x.1)))

/-- R150: a strand traps when a refusal returns; the trap faults it, whatever TRAPVEC holds. A strand that has left its
slot faults in its record; one that has ended keeps its record (R122), and its kernel fails with the cause. -/
def State.senderFaults (s : State) (src : Sender) (cause : Nat) (val : Word) : State :=
  match s.slotOf src with
  | some (k, sl) => s.faultStrand k sl cause val src.pc
  | none =>
    match s.groupOn src.core src.gid with
    | none => s
    | some g =>
      let loc := privLoc g.part src.record
      let w0 := s.read loc 8
      let w1 := s.read (loc + 8) 8
      let st := w1 / 2 ^ 52 % 16
      if st = 4 ∨ st = 5 then
        if (s.kernel g.kernel).map (·.st) = some .running then s.endKernel g.kernel cause (some g.stage) val else s
      else
        ((s.write loc (natBytes 8 (w0 / 2 ^ 57 * 2 ^ 57 + src.pc % 2 ^ 57) ++
          natBytes 8 (w1 - st * 2 ^ 52 + 5 * 2 ^ 52))).updGroup g.part g.gid (fun g => { g with live := g.live - 1 })).endKernel
            g.kernel cause (some g.stage) val

/-- The strand that made an outstanding access. -/
def Access.src (a : Access) : Sender := ⟨a.core, a.slot, a.sid, a.gid, a.pc, a.record⟩

/-- R152, R295, R297 to R299: an outstanding access performed at its location: the value it returns, its flags. -/
def State.performAt (s : State) (a : Access) : TV × FlagSet × State :=
  let cl := clusterOf a.core
  match a.kind with
  | .load size sg _ =>
    ((if size = 16 then ⟨BitVec.ofNat 128 (s.read a.phys 16), false⟩ else extendBytes size sg (s.read a.phys size)), 0#5,
      if isPcie a.phys then s else s.touch cl a.phys size false)
  | .store size v => (TV.zero, 0#5, (s.touch cl a.phys size true).write a.phys (natBytes size v.toNat))
  | .amo op size v _ =>
    let r := s.atomicAt cl a.phys size a.scope op v.toNat
    (TV.ofNat r.1, r.2.1, r.2.2)
  | .red op size v => (TV.zero, 0#5, (s.atomicAt cl a.phys size a.scope op v.toNat).2.2)
  | .cas size e v _ =>
    let r := s.casAt cl a.phys size a.scope e.toNat ⟨v, false⟩
    (TV.ofNat r.1, 0#5, r.2)
  | .wait size _ _ => (TV.ofNat (s.read a.phys size), 0#5, s.touch cl a.phys size false)
  | .prefetch => (TV.zero, 0#5, s)
  | .shpLoad _ => (TV.zero, 0#5, if isPcie a.phys then s else s.touch cl a.phys 64 false)
  | .shpStore v => (TV.zero, 0#5, (s.touch cl a.phys 64 true).write a.phys (natBytes 64 v.toNat))

/-- R282, R347: no older access of the strand to the same page is still outstanding. -/
def State.oldestOfPage (s : State) (n : Nat) (a : Access) : Bool :=
  s.accesses.all (fun e => decide (n ≤ e.1) || decide (e.2.sid ≠ a.sid) || decide (e.2.gid ≠ a.gid) ||
    decide (s.partOfCore e.2.core ≠ s.partOfCore a.core) || decide (e.2.addr / 4096 ≠ a.addr / 4096))

/-- R300: what an outstanding `waitv` waits for has come about. -/
def State.differs (s : State) (a : Access) : Bool :=
  match a.kind with
  | .wait size e _ => decide (s.read a.phys size ≠ e)
  | _ => true

/-- An outstanding access can be performed: translated or sent, in its order, at a location that no engine holds. -/
def State.mayPerform (s : State) (n : Nat) (a : Access) : Bool :=
  (decide (a.phase = .ready) || decide (a.phase = .sent)) && s.clusterRuns (clusterOf a.core) && s.oldestOfPage n a &&
    !s.linesHeld (clusterOf a.core) a.phys a.kind.bytes a.kind.writes && s.differs a

/-- The access is no longer outstanding. -/
def State.dropAccess (s : State) (n : Nat) : State := { s with accesses := kdel n s.accesses }

/-- R60, R66: a value delivered to field `d` of the strand in a slot, whose register is then free; none where a push
must wait. From 64 on the field is a shape register, and `sh` its record. -/
def State.deliver (s : State) (k sl d : Nat) (v : TV) (fl : FlagSet) (sh : Shape) : Option State :=
  let s1 := s.updStrand k sl (fun t => { (t.orFlags fl) with busy := t.busy.erase d })
  if d < 56 then some (s1.updStrand k sl (·.putG d v))
  else if 64 ≤ d then some (s1.updStrand k sl (·.putSh (d - 64) sh))
  else s1.pushPart k sl (d - 56) s.nextAccess v

/-- R13, R396: an outstanding access whose packet the closed gate of its region refuses. -/
def State.gateStops (s : State) (a : Access) : Bool :=
  decide (a.phase = .ready) && s.gateBlocks (clusterOf a.core) a.phys a.kind a.scope

/-- The access, where the gate refuses it, with that refusal on its way back. -/
def State.atGate (s : State) (n : Nat) (a : Access) : Access :=
  if s.gateStops a && s.oldestOfPage n a then { a with phase := .refused 0x10 } else a

/-- R257, R285: a push of access `n`'s value is a release: every older access of the strand has been performed. -/
def State.olderThan (s : State) (k sl n : Nat) : Bool := (s.mine k sl).any (fun e => decide (e.1 < n))

/-- R292, R444: the request of an engine is answered: with data, or with the cause of its failure. -/
def State.answerRequest (s : State) (n : Nat) (failure : Option Nat) : Option State :=
  match kfind n s.requests with
  | none => none
  | some r => if r.answer.isSome then none else some { s with requests := kset n { r with answer := some failure } s.requests }

/-- R66, R67, R303, R347: the data of a load, returning atomic or compare and swap returns, or its refusal, which traps; the
data of an engine's request. -/
def dataReturn (n : Nat) (s : State) : Option State :=
  match kfind n s.accesses with
  | none => s.answerRequest n none
  | some a =>
    if a.kind.posted ∨ a.kind = .prefetch then none
    else
      match (s.atGate n a).phase with
      | .refused c => s.whileRuns (clusterOf a.core) (some ((s.dropAccess n).senderFaults a.src c (BitVec.ofNat 64 a.addr)))
      | _ =>
        if s.mayPerform n a then
          let r := s.performAt a
          let s1 := r.2.2.dropAccess n
          match s1.slotOf a.src with
          | none => some s1
          | some (k, sl) =>
            if 56 ≤ a.kind.dest ∧ a.kind.dest < 64 ∧ s1.olderThan k sl n then none
            else s1.deliver k sl a.kind.dest r.1 r.2.1 ⟨BitVec.ofNat 512 (s.read a.phys 64), false⟩
        else none

/-- R150, R347: a posted store, `red` or `stl` is performed, or its refusal sets out. A prefetch that is granted ends. -/
def postedPerformed (n : Nat) (s : State) : Option State :=
  match kfind n s.accesses with
  | none => none
  | some a =>
    if a.kind.posted || decide (a.kind = .prefetch) then
      match (s.atGate n a).phase with
      | .refused c => some ((s.dropAccess n).refuse a.src c (BitVec.ofNat 64 a.addr))
      | _ => if s.mayPerform n a then some ((s.performAt a).2.2.dropAccess n) else none
    else none

/-- R150, R396: a refusal of a posted request returns to its sender. -/
def refusalReturn (n : Nat) (s : State) : Option State :=
  (kfind n s.refusals).bind (fun r => s.whileRuns (clusterOf r.src.core)
    (some ({ s with refusals := kdel n s.refusals }.senderFaults r.src r.cause r.val)))

/-! ### Events -/

/-- R122. -/
def execSlotTakesRecord (core slot : Nat) (s : State) : Host.Outcome State Fault Refusal := runEvent (slotTakes core slot s) s

/-- R127. -/
def execSpinBudgetExpiry (core slot : Nat) (s : State) : Host.Outcome State Fault Refusal := runEvent (spinExpiry core slot s) s

/-- R122. -/
def execWaitReleasePush (part addr : Nat) (s : State) : Host.Outcome State Fault Refusal := runEvent (waitRelease part addr s) s

/-- R129. -/
def execSingleCorePreemption (core : Nat) (s : State) : Host.Outcome State Fault Refusal := runEvent (preempt core s) s

/-- R129. -/
def execCoreResume (core : Nat) (s : State) : Host.Outcome State Fault Refusal := runEvent (resume core s) s

/-- R130. -/
def execRetainedRegisterRead (core slot reg : Nat) (s : State) : Host.Outcome State Fault Refusal :=
  runEvent (s.byFirmware (coreDie core) (retainedRead core slot reg s)) s

/-- R66, R67, R303. -/
def execLoadDataReturn (n : Nat) (s : State) : Host.Outcome State Fault Refusal := runEvent (dataReturn n s) s

/-- R150. -/
def execPostedStorePerformed (n : Nat) (s : State) : Host.Outcome State Fault Refusal := runEvent (postedPerformed n s) s

/-- R150, R396. -/
def execRefusalReturn (n : Nat) (s : State) : Host.Outcome State Fault Refusal := runEvent (refusalReturn n s) s

/-- R144 to R146: a refused access of a memory port becomes aged and ranks first. The arbiter's order shows in cycles
alone; this model performs an access when it reaches its port, so nothing is left to age (DESIGN CHOICE, log 12). -/
def execAccessAged (_core : Nat) (s : State) : Host.Outcome State Fault Refusal := .next s

/-- R434: a mesh interrupt message starts a halted firmware core. -/
def execMeshInterruptMessage (core : Nat) (s : State) : Host.Outcome State Fault Refusal :=
  runEvent (if isFinial core && (s.core core).halted then some (s.updCore core (fun c => { c with halted := false })) else none) s

end Sys2Proof.Machine
end

