-- ==== Sys2Proof/Machine/PortEvents.lean ====
section
/-! DEFINITION. What happens at a core's port: blocked pushes and pops, messages, the inbox (R253, R257, R267, R268,
R277). -/
namespace Sys2Proof.Machine

/-- R68: a strand whose push has unblocked: its next instruction issues after its stall count. -/
def Strand.unblocked (t : Strand) (now : Nat) (p : PendPush) : Strand :=
  { t with pendPush := none, nextIssue := max t.nextIssue (now + 1 + p.sc) }

/-- R253, R277: the push that blocks a strand is performed at its channel's home port, or answered by the gutter; one
that could not leave its core takes its place in the order of arrival once it can. One that has arrived needs its core no more. -/
def pushAtPort (k sl : Nat) (s : State) : Option State :=
  match (s.strand k sl).bind (·.pendPush) with
  | none => none
  | some p =>
    if ((s.core k).frozen && p.arrival.isNone) || !s.clusterRuns (clusterOf k) then none
    else
      let n := p.arrival.getD s.nextAccess
      match (if p.slot.isEmpty then s.pushReleased k sl p.q n p.val else s.putSlot k sl p.q n p.slot) with
      | some s1 => some (s1.updStrand k sl (·.unblocked s.now p))
      | none =>
        if p.arrival.isNone && s.pushArrived k sl p.q then
          some { s.updStrand k sl (fun t => { t with pendPush := some { p with arrival := some s.nextAccess } }) with
            nextAccess := s.nextAccess + 1 }
        else none

/-- R253: a pop that waits is performed: its strand keeps the value for the instruction, which issues again. -/
def popAtPort (k sl : Nat) (s : State) : Option State :=
  match s.strand k sl with
  | none => none
  | some t =>
    match t.wait with
    | some ⟨.pop q, since, tried, idle⟩ =>
      if (s.core k).frozen || !s.clusterRuns (clusterOf k) || s.queueHeld k sl [q] then none
      else (s.popAt k sl q).map (fun r => r.2.updStrand k sl (fun u =>
        { u with popped := u.popped ++ [r.1], wait := some ⟨.inSlot, since, tried, idle⟩ }))
    | _ => none

/-- R17: no earlier packet of the same source is on its way to the same core. -/
def State.firstOfPair (s : State) (n : Nat) (f : Flight) : Bool :=
  s.flights.all (fun e => decide (n ≤ e.1) || decide (e.2.src.core ≠ f.src.core) || decide (e.2.dst ≠ f.dst) ||
    (match e.2.kind with | .arrival _ _ => true | _ => false))

/-- R394: a packet within one region whose blocks stand still. -/
def State.standsStill (s : State) (f : Flight) : Bool :=
  decide (regionOf f.src.core = regionOf f.dst) && !s.clusterRuns (clusterOf f.dst)

/-- The packet has left the plane. -/
def State.dropFlight (s : State) (n : Nat) : State := { s with flights := kdel n s.flights }

/-- R267, R268, R277, R404: a message at its destination port: refused, taken by the gutter, placed, or kept in the
inbox; none while the plane holds it at its sender. -/
def messageAtPort (n : Nat) (s : State) : Option State :=
  match kfind n s.flights with
  | none => none
  | some f =>
    match f.kind with
    | .message e v =>
      if !s.firstOfPair n f || s.standsStill f then none
      else
        let h := f.dst
        let m : Message := ⟨e, v, f.src, f.addr, none, s.nextAccess⟩
        match s.messageRefusal f.src.core h with
        | some c => some ((s.dropFlight n).refuse f.src c f.addr)
        | none =>
          let c := s.core h
          if c.frozen then
            if !s.gutterRoom h 16 then none
            else if s.frontOfPort h s.nextAccess then
              some ((s.dropFlight n).updCore h (fun c => { c with gutter := c.gutter ++ [.message m] }))
            else some ((s.dropFlight n).enterInbox h m)
          else if (s.chan h e).isNone then some ((s.dropFlight n).refuse f.src 0x14 f.addr)
          else
            match (if s.portTurn h e s.nextAccess then s.placeSlot h e (natBytes 16 v.toNat) else none) with
            | some s1 => some (s1.dropFlight n)
            | none =>
              if c.inbox.length < 16 then some ((s.dropFlight n).enterInbox h m) else none
    | _ => none

/-- R268: the oldest message of the inbox whose entry has room, those for other entries passed over. -/
def takeReady (s : State) (h : Nat) : List Message → List Message → Option (State × List Message)
  | _, [] => none
  | before, m :: r =>
    if before.any (fun x => decide (x.entry = m.entry)) || !s.portTurn h m.entry m.arrival then
      takeReady s h (before ++ [m]) r
    else if (s.chan h m.entry).isNone then
      some (s.reportDropped m, before ++ r)
    else
      match s.placeSlot h m.entry (natBytes 16 m.val.toNat) with
      | some s1 => some (s1.segmentPlaced m, before ++ r)
      | none => takeReady s h (before ++ [m]) r

/-- R268, R277: a message leaves the inbox for its channel, or, while the core is pre-empted, for the gutter in its turn; one
whose entry is no longer open is refused. -/
def inboxDelivery (h : Nat) (s : State) : Option State :=
  if !s.clusterRuns (clusterOf h) then none
  else if (s.core h).frozen then
    match (s.core h).inbox with
    | [] => none
    | m :: r =>
      if s.gutterRoom h 16 && s.frontOfPort h m.arrival then
        some ((s.updCore h (fun c => { c with gutter := c.gutter ++ [.message m], inbox := r })).segmentPlaced m)
      else none
  else (takeReady s h [] (s.core h).inbox).map (fun r => r.1.updCore h (fun c => { c with inbox := r.2 }))

/-- R253. -/
def execChannelPushAtPort (core slot : Nat) (s : State) : Host.Outcome State Fault Refusal := runEvent (pushAtPort core slot s) s

/-- R253. -/
def execChannelPopAtPort (core slot : Nat) (s : State) : Host.Outcome State Fault Refusal := runEvent (popAtPort core slot s) s

/-- R267. -/
def execMessageAtPort (n : Nat) (s : State) : Host.Outcome State Fault Refusal := runEvent (messageAtPort n s) s

/-- R268. -/
def execInboxDelivery (core : Nat) (s : State) : Host.Outcome State Fault Refusal := runEvent (inboxDelivery core s) s

end Sys2Proof.Machine
end

