-- ==== Sys2Proof/Machine/Copy.lean ====
section
/-! DEFINITION. The copy engine (R270 to R276, R290, R293, R294, R449, R450): checks, rows, segment slots and status. -/
namespace Sys2Proof.Machine

/-! ### Command words (R270, R271) -/

/-- R272: the width of a reduce form's elements in bytes. -/
def CopyCmd.elem (c : CopyCmd) : Nat := if c.wide then 8 else 4

/-- R271: the alignment of a command. -/
def CopyCmd.align (c : CopyCmd) : Nat := if c.keepTags then 16 else if c.reduces then c.elem else 4

/-- R270, R271: the command has invalid or reserved fields; `rop` and `w64` speak of the reduce forms alone (DEDUCED,
log 62). -/
def CopyCmd.malformed (c : CopyCmd) : Bool :=
  decide (6 < c.cop) || decide (c.field 9 7 ≠ 0) || decide (c.field 35 1 ≠ 0) || decide (c.field 56 8 ≠ 0) ||
    (c.reduces && c.wide && decide (c.rop = 1)) ||
    (c.keepTags && decide (1 < c.cop)) ||
    (!c.strided && !c.segment && decide (c.field 64 64 ≠ 0)) ||
    (c.segment && (decide (c.field 69 11 ≠ 0) || decide (c.field 96 32 ≠ 0)))

/-- R271: the permission that a command needs of its capability. -/
def CopyCmd.perms (c : CopyCmd) : Nat :=
  if c.gets then permLoad ||| (if c.keepTags then permLoadCap else 0)
  else permStore ||| (if c.keepTags then permStoreCap else 0)

/-- The first row of a command that breaks a condition. -/
def CopyCmd.firstRow (c : CopyCmd) (p : Nat → Bool) : Option Nat := (List.range c.rows).find? p

/-- R271: the first failed check of an accepted command, with the address that its status reports. -/
def CopyCmd.checkFail (c : CopyCmd) : Option (Nat × Nat) :=
  let x := capAddr c.remote
  let n : Int := c.len
  let a : Int := c.align
  if c.malformed then some (0x14, 0)
  else if !c.remote.tag then some (0x03, x)
  else if !capHas c.remote c.perms then some (0x05, x)
  else
    match c.firstRow (fun r => capHas c.remote permLocal && decide (c.remoteRow r < 2 ^ 63)) with
    | some r => some (0x05, (c.remoteRow r % 2 ^ 64).toNat)
    | none =>
      match c.firstRow (fun r => decide (c.remoteRow r < capBase c.remote) || decide (capTop c.remote < c.remoteRow r + n)) with
      | some r => some (0x04, (c.remoteRow r % 2 ^ 64).toNat)
      | none =>
        match c.firstRow (fun r => decide (c.localRow r < 0) || decide (2 ^ 19 < c.localRow r + n)) with
        | some r => some (0x04, spadBase c.src.core + (c.localRow r % 2 ^ 19).toNat)
        | none =>
          if (c.field 16 19 : Int) % a ≠ 0 ∨ n % a ≠ 0 ∨ (x : Int) % a ≠ 0 ∨
              (c.strided ∧ (signedField (c.field 80 16) 16 % a ≠ 0 ∨ signedField (c.field 96 32) 32 % a ≠ 0)) then some (0x06, x)
          else if c.segment ∧ 2 ^ 63 ≤ x ∧ x / 2 ^ 60 ≠ 8 then some (0x14, x)
          else none

/-! ### Places of a remote row (R271, R278, R292, R449) -/

/-- The location that stands for byte `o` of the partner box's aperture. -/
def partnerBase : Nat := 2 ^ 65

def isPartner (loc : Nat) : Bool := decide (partnerBase ≤ loc)

/-- R449: the aperture offset of a fabric page's physical address, for the partition of a core. -/
def State.apertureOffset (s : State) (k pa : Nat) : Option Nat :=
  (((s.partOfCore k).bind s.partition).bind (·.join)).bind (fun j =>
    if j.1 ≤ pa ∧ pa < j.1 + 2 ^ 44 then some (pa - j.1) else none)

/-- R274, R449, R450: the location of one piece of a remote row; a fabric page is for copies alone. -/
def State.copyPiece (s : State) (cl : Nat) (c : CopyCmd) (own : List Nat) (p : Nat × Nat) : Located :=
  match s.placeAs c.ids c.src.core p.1 p.2 (!c.gets) false with
  | .fabric pa =>
    if c.keepTags then .fail 0x14 p.1
    else if !s.linkUp then .fail 0x10 p.1
    else
      match s.apertureOffset c.src.core pa with
      | none => .fail 0x11 p.1
      | some o =>
        if 2 ≤ o / 2 ^ 42 then .fail 0x04 p.1
        else if c.segment && decide (o / 2 ^ 42 ≠ 1) then .fail 0x14 p.1
        else .all [(p.1, [(partnerBase + o, p.2)])]
  | .pcie _ =>
    if c.segment then .fail 0x14 p.1
    else if (c.reduces && !(decide (c.rop = 0) && c.wide)) then .fail 0x05 p.1
    else s.enginePiece (.copy c.id) c.ids cl c.src.core (!c.gets) own p
  | .here loc =>
    if c.segment && decide (p.1 < 2 ^ 63) then .fail 0x14 p.1
    else if cachedLoc loc || isSpad loc then s.enginePiece (.copy c.id) c.ids cl c.src.core (!c.gets) own p else .fail 0x05 p.1
  | _ => s.enginePiece (.copy c.id) c.ids cl c.src.core (!c.gets) own p

/-- The locations of the pieces of a row. -/
def State.copyRow (s : State) (cl : Nat) (c : CopyCmd) (own : List Nat) : List (Nat × Nat) → List (Nat × Nat) → Located
  | [], acc => .all [(0, acc)]
  | p :: r, acc =>
    match s.copyPiece cl c own p with
    | .all l => s.copyRow cl c own r (acc ++ l.flatMap (·.2))
    | x => x

/-- The locations of rows `r` on. -/
def State.copyRows (s : State) (cl : Nat) (c : CopyCmd) : List Nat → List (Nat × List (Nat × Nat)) → Located
  | [], acc => .all acc
  | r :: rs, acc =>
    match s.copyRow cl c [] (c.pieces r) [] with
    | .all l => s.copyRows cl c rs (acc ++ [(r, l.flatMap (·.2))])
    | y => y

/-! ### Moving bytes (R271, R272, R274) -/

/-- The head command of an engine replaced. -/
def State.setCopy (s : State) (cl : Nat) (c : CopyCmd) : State :=
  s.updCluster cl (fun x => { x with copies := match x.copies with | _ :: r => c :: r | [] => [] })

/-- R99, R271: the granules of a row that carry tags copied one by one. -/
def State.copyTags (s : State) (src dst : List Nat) (held : List (TV)) : State :=
  match src, dst, held with
  | _ :: a, y :: b, v :: r => (if v.tag && capOk v then s.writeTagged y v else s).copyTags a b r
  | _, _, _ => s

/-- The locations of the granules of located pieces. -/
def granules (locs : List (Nat × Nat)) : List Nat := locs.flatMap (fun p => (List.range (p.2 / 16)).map (fun i => p.1 + 16 * i))

/-- R271: bytes moved between two lists of located pieces, read whole and then written, with their tags where kept. -/
def State.moveBytes (s : State) (cl : Nat) (tags : Bool) (src dst : List (Nat × Nat)) : State :=
  let bytes := s.bytesAt src
  let held := if tags then (granules src).map s.readTagged else []
  let s1 := (s.touchAll cl [(0, src)] false).touchAll cl [(0, dst)] true
  let s2 := s1.writeLocs (coreOfSlot cl 0) dst bytes
  if tags then s2.copyTags (granules src) (granules dst) held else s2

/-- R272: the operation of a reduce form. -/
def CopyCmd.op (c : CopyCmd) : AmoOp :=
  match c.rop with
  | 0 => .add
  | 1 => .fadd
  | 2 => .min
  | _ => .max

/-- R272: the elements at located pieces combined in ascending order with the values of a local row; the flags of fadd. -/
def State.reduceBytes (s : State) (cl w : Nat) (op : AmoOp) : List Nat → List Nat → FlagSet → State × FlagSet
  | v :: a, y :: b, f =>
    let r := s.atomicAt cl y w 2 op v
    r.2.2.reduceBytes cl w op a b (f ||| r.2.1)
  | _, _, f => (s, f)

/-- R271: the elements of a row, read whole. -/
def State.elementsAt (s : State) (w : Nat) (locs : List Nat) : List Nat := locs.map (fun x => s.read x w)

/-- R292, R444: the atomic requests of a reduce row behind the endpoint: what the first element that is not done has come to,
and how many elements before it are done. -/
def State.atomicsDone (s : State) (w : Waiter) (n : Nat) : List Nat → Nat → ReqState × Nat
  | [], i => (.data, i)
  | y :: r, i =>
    match if isPcie y then s.fetched w y n else .data with
    | .data => s.atomicsDone w n r (i + 1)
    | x => (x, i)

/-- The locations of the elements of located pieces. -/
def elements (w : Nat) (locs : List (Nat × Nat)) : List Nat := locs.flatMap (fun p => (List.range (p.2 / w)).map (fun i => p.1 + w * i))

/-! ### Fabric flits (R293, R294, R447, R449) -/

/-- R447: the bytes that one flit carries from a location on: to the end of the third sector, so that no sector spans two
flits. -/
def flitBytes (loc : Nat) : Nat := 192 - loc % 64

/-- R447, R449: the kind of access that a flit asks the partner for: 0 a write, 1 a read, 2 to 9 a reduction by its operation
and width. -/
def CopyCmd.flitKind (c : CopyCmd) : Nat :=
  if c.gets then 1 else if c.reduces then 2 + c.rop + (if c.wide then 4 else 0) else 0

/-- R449: a data flit that asks the partner for an access of a core's partition. -/
def State.askPartner (s : State) (k kind loc n val : Nat) : State :=
  s.sendFlit 0 0 (Config.flitAccess kind ((s.partOfCore k).getD 0) (loc - partnerBase) n val)

/-- R449: the partner's refusal of an access, one of those the rule names, or none. -/
def partnerRefusal (n : Nat) : Option Nat :=
  match (Config.partnerAnswer n).toNat with
  | 0 => none
  | 1 => some 0x04
  | 2 => some 0x05
  | _ => some 0x11

/-- The piece of a row at a distance from its start, cut to what one flit carries. -/
def pieceAt : List (Nat × Nat) → Nat → Option (Nat × Nat)
  | [], _ => none
  | (l, m) :: r, o => if o < m then some (l + o, min (flitBytes (l + o)) (m - o)) else pieceAt r (o - m)

/-! ### Performing a command -/

/-- The failure of a command, reported by a translation. -/
def State.copyBad (s : State) (c : CopyCmd) : Option (Nat × Nat) :=
  (s.engineFails.find? (fun f => decide (f.1 = .copy c.id))).map (·.2)

/-- R275: a command ends with a cause and an address; its lines are released. -/
def State.endCopy (s : State) (cl : Nat) (c : CopyCmd) (cause addr : Nat) : State :=
  let mine := rowSectors c.rowsAt
  ((s.dropRequests (.copy c.id)).updCluster cl (fun x => { x with owned := x.owned.filter (fun n => !decide (n ∈ mine)) })).setCopy cl
    { c with status := some (cause, addr), seg := c.segment && decide (cause = 0), rowsAt := [] }

/-- R449, R450: a command whose remote side is found at locations remembers that it is a fabric command, and where. -/
def CopyCmd.foundAt (c : CopyCmd) (locs : List (Nat × Nat)) : CopyCmd :=
  { c with fabric := c.fabric.or ((locs.find? (fun p => isPartner p.1)).map (fun p => p.1 - partnerBase)) }

/-- R271, R274, R290, R352: a command starts: its checks, the translations of its destination rows in memory, and the
ownership of their lines. -/
def State.startCopy (s : State) (cl : Nat) (c : CopyCmd) : State :=
  match c.checkFail with
  | some f => s.endCopy cl c f.1 f.2
  | none =>
    if c.gets || decide (capAddr c.remote / 2 ^ 60 = 8) then s.setCopy cl { c with started := true }
    else
      match s.copyRows cl c (List.range c.rows) [] with
      | .all locs =>
        let s1 := s.touchAll cl locs true
        (s1.updCluster cl (fun x => { x with owned := (rowSectors locs).foldl (fun o n => sadd n o) x.owned })).setCopy cl
          (({ c with started := true, rowsAt := locs } : CopyCmd).foundAt (locs.flatMap (·.2)))
      | .held | .ask _ _ => s.setCopy cl { c with retry := s.now + 1 }
      | .missing x =>
        let ids := c.ids
        (s.setCopy cl { c with retry := s.now + 1 }).waitPage cl ids.1 ids.2 x true (.copy c.id)
      | .fail f x => s.endCopy cl c f x

/-- R271: one row done; the last one ends the command. -/
def State.rowDone (s : State) (cl : Nat) (c : CopyCmd) (n : Nat) (f : FlagSet) : State :=
  let c1 := { c with row := c.row + 1, sent := 0, done := c.done + n, ff := c.ff ||| f }
  let s1 := s.dropRequests (.copy c.id)
  if c1.row = c1.rows then s1.endCopy cl c1 0 0 else s1.setCopy cl c1

/-- R272, R292, R444: a reduce row at its elements. Behind the endpoint each is an atomic request of its own; a failed one
ends the command once the elements before it are done. -/
def State.reduceRow (s : State) (cl : Nat) (c : CopyCmd) (vals locs : List Nat) : State :=
  let w := c.elem
  match s.atomicsDone (.copy c.id) w locs 0 with
  | (.data, _) => let r := s.reduceBytes cl w c.op vals locs 0#5; r.1.rowDone cl c c.len r.2
  | (.underWay, _) => s.setCopy cl { c with retry := s.now + 1 }
  | (.notSent, i) =>
    let y := locs.getD i 0
    (s.setCopy cl { c with retry := s.now + 1 }).askPcie (.copy c.id) y w (fun n => .pcieAtomic n (y - pcieBase) c.op w (vals.getD i 0))
  | (.failed f, i) =>
    let r := s.reduceBytes cl w c.op (vals.take i) (locs.take i) 0#5
    r.1.endCopy cl { c with done := c.done + w * i, ff := c.ff ||| r.2 } f ((c.remoteRow c.row % 2 ^ 64).toNat + w * i)

/-- R294: a command of this strand has sent in a window: its slot, or its group for a record without one, remembers. -/
def State.noteWindow (s : State) (src : Sender) (n : Nat) : State :=
  match s.slotOf src with
  | some (k, sl) => s.updStrand k sl (fun t => { t with fabWindow := some n })
  | none => s.updGroupOn src.core src.gid (fun g => { g with windows := kset src.record n g.windows })

/-- R293, R294, R449: one flit of a fabric row sent and performed, or refused by the partner. -/
def State.fabricStep (s : State) (cl : Nat) (c : CopyCmd) (la : Nat) (locs : List (Nat × Nat)) : State :=
  match pieceAt locs c.sent with
  | none => s
  | some (y, n) =>
    let x := (c.remoteRow c.row % 2 ^ 64).toNat + c.sent
    if !s.flitRoom then s.setCopy cl { c with retry := s.now + 1 }
    else
      let s0 := { s.askPartner c.src.core c.flitKind y n (if c.gets then 0 else s.read (la + c.sent) n) with fresh := s.fresh + 1 }
      let s1 := if c.gets then s0 else
        s0.noteWindow c.src s.windowNow
      match partnerRefusal s.fresh with
      | some f => s1.endCopy cl c f x
      | none =>
        let here := [(la + c.sent, n)]
        let r :=
          if c.gets then (s1.moveBytes cl false [(y, n)] here, 0#5)
          else if c.reduces then
            s1.reduceBytes cl c.elem c.op (s1.elementsAt c.elem (elements c.elem here)) (elements c.elem [(y, n)]) 0#5
          else (s1.moveBytes cl false here [(y, n)], 0#5)
        let c1 := { c with sent := c.sent + n }
        if c1.sent = c.len then r.1.rowDone cl { c1 with done := c.done + n } 0 r.2
        else r.1.setCopy cl { c1 with done := c.done + n, ff := c.ff ||| r.2 }

/-- R271 to R275: the next row of a command that has started. -/
def State.stepCopy (s : State) (cl : Nat) (c : CopyCmd) : State :=
  let k := c.src.core
  let la := spadBase k + (c.localRow c.row % 2 ^ 19).toNat
  let ra := (c.remoteRow c.row % 2 ^ 64).toNat
  let ids := c.ids
  if s.belowBound la then s.endCopy cl c 0x05 la
  else if decide (ra < 2 ^ 63) && s.fencedFor ids.1 ids.2 then s.endCopy cl c 0x13 ra
  else
    let found : Located :=
      match kfind c.row c.rowsAt with
      | some l => .all [(0, l)]
      | none => s.copyRow cl c [] (c.pieces c.row) []
    match found with
    | .held => s.setCopy cl { c with retry := s.now + 1 }
    | .ask loc n => (s.setCopy cl { c with retry := s.now + 1 }).askRead (.copy c.id) loc n
    | .missing x => (s.setCopy cl { c with retry := s.now + 1 }).waitPage cl ids.1 ids.2 x (!c.gets) (.copy c.id)
    | .fail f x => s.endCopy cl c f x
    | .all l =>
      let locs := l.flatMap (·.2)
      if locs.any (fun p => isPartner p.1) then
        if s.linkUp then s.fabricStep cl (c.foundAt locs) la locs else s.endCopy cl c 0x10 ra
      else
        let here := [(la, c.len)]
        if c.gets then (s.moveBytes cl c.keepTags locs here).rowDone cl c c.len 0#5
        else if c.reduces then s.reduceRow cl c (s.elementsAt c.elem (elements c.elem here)) (elements c.elem locs)
        else (s.moveBytes cl c.keepTags here locs).rowDone cl c c.len 0#5

/-- R274, R276: the engine performs the command at its head, of the given kinds: it starts, or moves its next row. -/
def copyStep (kinds : List Nat) (cl : Nat) (s : State) : Option State :=
  match (s.cluster cl).copies with
  | [] => none
  | c :: _ =>
    if !decide (min c.cop 7 ∈ kinds) || c.status.isSome || decide (s.now < c.retry) || !s.clusterRuns cl ||
        !s.strandDone c.src c.id || s.awaits (.copy c.id) then none
    else
      match s.copyBad c with
      | some f => some (({ s with engineFails := s.engineFails.filter (fun g => decide (g.1 ≠ Waiter.copy c.id)) }).endCopy cl c f.1 f.2)
      | none => some (if c.started then s.stepCopy cl c else s.startCopy cl c)

/-! ### Segment slots and status (R273, R275, R276) -/

/-- R275: the status word of a command. -/
def CopyCmd.statusWord (c : CopyCmd) (cause addr : Nat) : Nat :=
  cause % 2 ^ 8 + c.seq % 2 ^ 16 * 2 ^ 8 + c.ff.toNat % 16 * 2 ^ 24 + c.done % 2 ^ 32 * 2 ^ 32 + addr % 2 ^ 64 * 2 ^ 64

/-- R273: the segment slot. -/
def CopyCmd.segmentWord (cl : Nat) (c : CopyCmd) : Nat := c.field 80 16 + c.len * 2 ^ 16 + cl % 256 * 2 ^ 36

/-- R268, R273: the segment slot is placed at the home core of the remote side, as a message is, or enters its inbox, from
which it is placed in its turn; none while it must wait. A
segment for the partner box is placed there by its ridge (R449). -/
def State.placeSegment (s : State) (cl : Nat) (c : CopyCmd) : Option State :=
  let x := capAddr c.remote
  let e := c.field 64 5
  let failed (f : Nat) (st : State) : State := st.setCopy cl { c with status := some (f, x), seg := false }
  let placed (st : State) : State := st.setCopy cl { c with seg := false }
  if x < 2 ^ 63 then
    if !s.linkUp then some (failed 0x10 s)
    else if !s.flitRoom then none
    else
      let s1 := { s.askPartner c.src.core 10 (partnerBase + c.fabric.getD 0) e (c.segmentWord cl) with fresh := s.fresh + 1 }
      some (if (partnerRefusal s.fresh).isNone then placed s1 else failed 0x14 s1)
  else
    let h := spadCore x
    match s.homeRefusal c.src.core h with
    | some f => some (failed f s)
    | none =>
      let v := BitVec.ofNat 128 (c.segmentWord cl)
      let m : Message := ⟨e, v, c.src, BitVec.ofNat 64 x, some c, s.nextAccess⟩
      let co := s.core h
      if co.inbox.any (fun y => decide (y.engine.map (·.id) = some c.id)) then none
      else if co.frozen then
        if !s.gutterRoom h 16 then none
        else if s.frontOfPort h s.nextAccess then some (placed (s.updCore h (fun y => { y with gutter := y.gutter ++ [.message m] })))
        else some (s.enterInbox h m)
      else if (s.chan h e).isNone then some (failed 0x14 s)
      else
        match (if s.portTurn h e s.nextAccess then s.placeSlot h e (natBytes 16 v.toNat) else none) with
        | some s1 => some (placed s1)
        | none => if s.messagesFor h < 16 then some (s.enterInbox h m) else none

/-- R275, R276: the status is posted, or not needed, and the command completes; none while its status port is full. -/
def State.postStatus (s : State) (cl : Nat) (c : CopyCmd) (cause addr : Nat) : Option State :=
  let done (st : State) : State := st.updCluster cl (fun x => { x with copies := x.copies.drop 1 })
  if cause = 0 ∧ c.quiet then some (done s)
  else
    let w := BitVec.ofNat 128 (c.statusWord cause addr)
    let h := c.src.core
    let sl := slotInCluster h
    if (s.core h).frozen || (s.core h).gutter.any (·.isStatus) then
      if s.gutterRoom h 16 then some (done (s.updCore h (fun y => { y with gutter := y.gutter ++ [.status w] }))) else none
    else if (kget [] sl (s.cluster cl).status).length < 16 then
      some (done (s.updCluster cl (fun x => { x with status := kput [] sl (kget [] sl x.status ++ [w]) x.status })))
    else none

/-- R273 to R275: the head command's writes are performed: its segment slot is placed, then its status posted. -/
def copyComplete (cl : Nat) (s : State) : Option State :=
  match (s.cluster cl).copies with
  | [] => none
  | c :: _ =>
    match c.status with
    | none => none
    | some f => if !s.clusterRuns cl then none else if c.seg then s.placeSegment cl c else s.postStatus cl c f.1 f.2

/-- R276: a status port that was full has room again, and the engine's stop ends: the status is posted. -/
def statusRoom (cl : Nat) (s : State) : Option State :=
  match (s.cluster cl).copies with
  | c :: _ => if c.seg then none else c.status.bind (fun f => s.postStatus cl c f.1 f.2)
  | [] => none

/-! ### Events -/

/-- R270, R271. -/
def execCopyPut (cl : Nat) (s : State) : Host.Outcome State Fault Refusal := runEvent (copyStep [0, 7] cl s) s

/-- R270, R271. -/
def execCopyGet (cl : Nat) (s : State) : Host.Outcome State Fault Refusal := runEvent (copyStep [1] cl s) s

/-- R271. -/
def execCopyStridedPut (cl : Nat) (s : State) : Host.Outcome State Fault Refusal := runEvent (copyStep [2] cl s) s

/-- R271. -/
def execCopyStridedGet (cl : Nat) (s : State) : Host.Outcome State Fault Refusal := runEvent (copyStep [3] cl s) s

/-- R272. -/
def execCopyReducePut (cl : Nat) (s : State) : Host.Outcome State Fault Refusal := runEvent (copyStep [4] cl s) s

/-- R273. -/
def execCopySegmentPut (cl : Nat) (s : State) : Host.Outcome State Fault Refusal := runEvent (copyStep [5] cl s) s

/-- R273. -/
def execCopySegmentReduce (cl : Nat) (s : State) : Host.Outcome State Fault Refusal := runEvent (copyStep [6] cl s) s

/-- R274. -/
def execCopyCommandComplete (cl : Nat) (s : State) : Host.Outcome State Fault Refusal := runEvent (copyComplete cl s) s

/-- R276. -/
def execStatusPortRoom (cl : Nat) (s : State) : Host.Outcome State Fault Refusal := runEvent (statusRoom cl s) s

end Sys2Proof.Machine
end

