-- ==== Sys2Proof/Machine/Coherence.lean ====
section
/-! DEFINITION. Steps of the coherence directory, of engines that own sectors, of monitors and of fabric windows (R289,
R290, R293, R294, R300, R438). -/
namespace Sys2Proof.Machine

/-- R219, R289, R290: a snoop of the sector at a cluster's slice is answered only after a pin or an engine's ownership. -/
def State.snoopHeld (s : State) (agent sector : Nat) : Bool :=
  s.clusters.any (fun e => decide (sector ∈ e.2.owned)) || (s.cluster agent).pins sector

/-- R289: a read snoop at a cache; the host is sent a message and answers later (R438), unless it is fenced (R441). -/
def readSnoop (agent sector : Nat) (s : State) : Option State :=
  if s.sectorIn sector agent = .i ∨ s.snoopHeld agent sector then none
  else if agent = hostCache then
    if s.flash.hfen then none
    else some ({ s with snoops := kset sector false s.snoops }.send (.snoop (s.portOf (sector * 64)) sector false))
  else some (s.setSector sector agent (s.sectorIn sector agent).readSnoop)

/-- R289: the sector leaves a cache; a dirty value is supplied, and the ridge cache holds it then. -/
def State.giveUp (s : State) (sector agent : Nat) : State :=
  let s1 := if s.sectorIn sector agent = .m ∨ s.sectorIn sector agent = .o then s.writtenBack sector else s
  s1.setSector sector agent .i

/-- R289: an ownership snoop at a cache. -/
def ownershipSnoop (agent sector : Nat) (s : State) : Option State :=
  if s.sectorIn sector agent = .i ∨ s.snoopHeld agent sector then none
  else if agent = hostCache then
    if s.flash.hfen then none
    else some ({ s with snoops := kset sector true s.snoops }.send (.snoop (s.portOf (sector * 64)) sector true))
  else some (s.giveUp sector agent)

/-- R289, R438: the host answers a snoop. -/
def hostSnoopResponse (sector : Nat) (s : State) : Option State :=
  (kfind sector s.snoops).map (fun own =>
    let s1 := { s with snoops := kdel sector s.snoops }
    if own then s1.giveUp sector hostCache else s1.setSector sector hostCache (s1.sectorIn sector hostCache).readSnoop)

/-- R289: a cache evicts a sector, which is written back where dirty. -/
def sectorEviction (agent sector : Nat) (s : State) : Option State :=
  if s.sectorIn sector agent = .i ∨ s.snoopHeld agent sector then none else some (s.giveUp sector agent)

/-- R231, R274: rows of the engines of a cluster that are still to be written. -/
def Cluster.rowsLeft (c : Cluster) : List (Nat × List (Nat × Nat)) :=
  (match c.cmds with
   | m :: _ => m.rowsAt.filter (fun r => decide (m.row ≤ r.1))
   | [] => []) ++
  (match c.copies with
   | m :: _ => if m.status.isSome then [] else m.rowsAt.filter (fun r => decide (m.row ≤ r.1))
   | [] => [])

/-- R231, R290: an engine has written every byte of a sector that it owns, and answers its recall. -/
def engineSectorFinish (cl sector : Nat) (s : State) : Option State :=
  let c := s.cluster cl
  if sector ∈ c.owned ∧ sector ∉ rowSectors c.rowsLeft then some (s.setCluster cl { c with owned := sdel sector c.owned })
  else none

/-- A waiting strand is tried again in this cycle. -/
def Strand.nudged (t : Strand) : Strand := { t with wait := t.wait.map (fun w => { w with tried := 0 }) }

/-- R300: a monitor fires, for a write to the watched bytes or for another reason: the strand reads the location again. -/
def monitorFire (k sl : Nat) (s : State) : Option State :=
  match (s.strand k sl).bind (·.wait) with
  | some ⟨.waitv _ _ _ _, _, _, _⟩ => some (s.updStrand k sl (·.nudged))
  | _ => none

/-- R293, R294: the window that a strand's `fence.win` waits for is reached. -/
def fabricReached (k sl : Nat) (s : State) : Option State :=
  match (s.strand k sl).bind (·.wait) with
  | some ⟨.fenceWin, _, _, _⟩ =>
    if s.fabricPending k sl then none else some (s.updStrand k sl (fun t => { t.nudged with fabWindow := none }))
  | _ => none

/-- R289. -/
def execReadSnoop (agent sector : Nat) (s : State) : Host.Outcome State Fault Refusal := runEvent (readSnoop agent sector s) s

/-- R289. -/
def execOwnershipSnoop (agent sector : Nat) (s : State) : Host.Outcome State Fault Refusal :=
  runEvent (ownershipSnoop agent sector s) s

/-- R289. -/
def execSectorEviction (agent sector : Nat) (s : State) : Host.Outcome State Fault Refusal :=
  runEvent (sectorEviction agent sector s) s

/-- R289, R438. -/
def execHostSnoopResponse (sector : Nat) (s : State) : Host.Outcome State Fault Refusal := runEvent (hostSnoopResponse sector s) s

/-- R290. -/
def execEngineSectorFinish (cl sector : Nat) (s : State) : Host.Outcome State Fault Refusal :=
  runEvent (engineSectorFinish cl sector s) s

/-- R300. -/
def execMonitorFire (core slot : Nat) (s : State) : Host.Outcome State Fault Refusal := runEvent (monitorFire core slot s) s

/-- R293, R294. -/
def execFabricWindowReached (core slot : Nat) (s : State) : Host.Outcome State Fault Refusal :=
  runEvent (fabricReached core slot s) s

end Sys2Proof.Machine
end

