-- ==== Sys2Proof/Machine/Exchange.lean ====
section
/-! DEFINITION. The exchange phase on the scheduled plane (R312 to R317), and what completes or ends the waits of
barriers and events (R322 to R334). -/
namespace Sys2Proof.Machine

/-! ### Domains at work -/

/-- The group of a partition that has a domain, its context being on the cores. -/
def State.groupOfDom (s : State) (part level value : Nat) : Option (Group × Domain) :=
  s.groups.findSome? (fun e =>
    if e.2.part = part then
      match e.2.dom level value with
      | some d => if e.2.parked then none else some (e.2, d)
      | none => none
    else none)

/-- The strands of a core that wait as told continue with a result. -/
def Core.releaseAll (c : Core) (k : WaitKind) (v : Word) : Core :=
  { c with slots := c.slots.map (fun e => (e.1, if e.2.waitsFor k then e.2.release v else e.2)) }

/-! ### Opening a phase (R314) -/

/-- `EXCHANGE_OPEN`, R311, R314, R317: every core of the domain is in `xstart`: t0 is this cycle and the monitors are
latched. -/
def exchangeOpen (part level value : Nat) (s : State) : Option State :=
  match s.groupOfDom part level value with
  | none => none
  | some (g, d) =>
    let cores := s.domainCores g level value
    let slotOn (k : Nat) : Option Nat := ((s.core k).slots.find? (fun e => e.2.waitsFor (.xstart level))).map (·.1)
    if d.st = .computing ∧ cores ≠ [] ∧ cores.all (fun k => (slotOn k).isSome) then
      let s1 := cores.foldl (fun (st : State) k =>
        let c := s.core k
        st.setCore k { c.releaseAll (.xstart level) 0#64 with
          phase := some ⟨level, s.now, (slotOn k).getD 0, c.xmon.extractLsb' 0 2⟩, transfers := [] }) s
      some (s1.updGroup part g.gid (·.updDom level value (fun d =>
        { d with st := .exchanging, t0 := s.now, offset := 0, beats := [], event := none, done := [] })))
    else none

/-! ### Beats (R312, R313, R315, R317, R401) -/

/-- R312: the hops of a route. -/
def hops (a b : Nat) : Nat :=
  ((coreCol a : Int) - coreCol b).natAbs + ((coreRow a : Int) - coreRow b).natAbs

/-- R19: the core from which the k-th link of a route leaves, and its direction (R317): columns first. Rows are numbered
from the northern edge. -/
def routeLink (a b k : Nat) : Nat × Nat :=
  let dx := ((coreCol a : Int) - coreCol b).natAbs
  if k ≤ dx then
    if coreCol a < coreCol b then (coreAt (coreDie a) (coreRow a) (coreCol a + (k - 1)), 0)
    else (coreAt (coreDie a) (coreRow a) (coreCol a - (k - 1)), 1)
  else
    if coreRow a < coreRow b then (coreAt (coreDie a) (coreRow a + (k - 1 - dx)) (coreCol b), 3)
    else (coreAt (coreDie a) (coreRow a - (k - 1 - dx)) (coreCol b), 2)

/-- R18, R401: the gates pass the scheduled plane between the two ends of a link. -/
def State.linkOpen (s : State) (a dir : Nat) : Bool :=
  let b := if dir = 2 then a - 16 else if dir = 3 then a + 16 else a
  decide (regionOf a = regionOf b) ||
    (decide (s.partOfCore a = s.partOfCore b) && (s.partOfCore a).isSome &&
      !((regionOf a).map s.regionShut).getD true && !((regionOf b).map s.regionShut).getD true)

/-- The beat passes its first `n` links. -/
def State.beatPasses (s : State) (b : Beat) (n : Nat) : Bool :=
  (List.range n).all (fun i => let l := routeLink b.src b.dst (i + 1); s.linkOpen l.1 l.2)

/-- R312: the link that a beat uses at an offset of its domain. -/
def State.linkAt (s : State) (b : Beat) (o : Nat) : Option (Nat × Nat) :=
  let k := o - b.sent + 1
  if b.sent ≤ o ∧ k ≤ hops b.src b.dst ∧ s.beatPasses b k then some (routeLink b.src b.dst k) else none

/-- R316: the transfers that a core holds in its open phase at a level. -/
def Core.heldAt (c : Core) (level : Nat) : List Transfer := if c.phase.map (·.level) = some level then c.transfers else []

/-- The transfer of a core's phase at a level whose beat falls at an offset. -/
def Core.beatAt (c : Core) (level : Nat) (put : Bool) (o : Nat) : Option Transfer :=
  (c.heldAt level).find? (fun t => decide (t.put = put) && decide (t.start ≤ o) && decide (o < t.start + t.n))

/-- R320: the beats that the cores of a domain at a level send at an offset. -/
def State.sends (s : State) (level : Nat) (cores : List Nat) (o : Nat) : List Beat :=
  cores.filterMap (fun k => ((s.core k).beatAt level true o).map (fun t =>
    ⟨k, t.partner, o, BitVec.ofNat 256 (s.read (spadBase k + t.off + 32 * (o - t.start)) 32), false⟩))

/-- The links that all beats of the package use in a cycle, those of closed phases included. -/
def State.linksUsed (s : State) (cycle : Nat) : List (Nat × Nat) :=
  s.groups.flatMap (fun e => e.2.doms.flatMap (fun d =>
    if d.st = .exchanging ∧ d.t0 ≤ cycle then
      let o := cycle - d.t0
      (d.beats ++ (if d.offset ≤ o then s.sends d.level (s.domainCores e.2 d.level d.value) o else [])).filterMap (s.linkAt · o)
    else [])) ++ s.stray.filterMap (s.linkAt · cycle)

/-- R317: the word that reports an event. -/
def eventWord (core kind o : Nat) : Word := BitVec.ofNat 64 (coreIdLow core + kind * 2 ^ 12 + o % 2 ^ 20 * 2 ^ 32)

/-- One of several simultaneous events is the first: which, the spec leaves open. -/
def State.firstEvent (s : State) : List Word → Option Word × State
  | [] => (none, s)
  | [e] => (some e, s)
  | e :: l => ((e :: l)[s.freeWord.1.toNat % (l.length + 1)]?, s.freeWord.2)

/-- What reaches a core of the domain at an offset. -/
def arrivalsAt (beats : List Beat) (o k : Nat) : List Beat :=
  beats.filter (fun b => decide (b.dst = k) && decide (b.sent + hops b.src b.dst = o))

/-- R312: the beats of closed phases that reach a core in a cycle. -/
def State.strayAt (s : State) (cycle k : Nat) : List Beat :=
  (arrivalsAt s.stray cycle k).filter (fun b => s.beatPasses b (hops b.src b.dst))

/-- R313, R320: the beat that an `xget` takes at an offset: written with tags cleared, of undefined value where it
collided. -/
def State.takeBeat (s : State) (level k o : Nat) (arr : List Beat) : State :=
  match (s.core k).beatAt level false o, arr with
  | none, _ => s
  | some _, [] => s
  | some t, b :: r =>
    let a := spadBase k + t.off + 32 * (o - t.start)
    if r.isEmpty ∧ !b.bad then s.write a (natBytes 32 b.data.toNat)
    else ({ s with fresh := s.fresh + 1 }).write a (natBytes 32 (Config.freeBeat s.fresh).toNat)

/-- The beats of a core's transfers of its phase at a level have moved at an offset. -/
def Core.moved (c : Core) (level o : Nat) : Core :=
  if c.phase.map (·.level) = some level then
    { c with transfers := c.transfers.map (fun t =>
        if t.start ≤ o ∧ o < t.start + t.n then { t with moved := o - t.start + 1 } else t) }
  else c

/-- `EXCHANGE_BEAT`, R312, R313, R315, R317: the next offset of a domain: beats sent, links used, beats taken. -/
def exchangeBeat (part level value : Nat) (s : State) : Option State :=
  match s.groupOfDom part level value with
  | none => none
  | some (g, d) =>
    let o := d.offset
    if decide (d.st ≠ .exchanging) || decide (s.now < d.t0 + o) then none
    else
      let cores := s.domainCores g level value
      let used := s.linksUsed (d.t0 + o)
      let all := d.beats ++ s.sends level cores o
      let clash (b : Beat) : Option (Nat × Nat) :=
        (s.linkAt b o).bind (fun l => if 1 < (used.filter (fun x => decide (x = l))).length then some l else none)
      let marked := all.map (fun b => if (clash b).isSome then { b with bad := true } else b)
      let whole := marked.filter (fun b => s.beatPasses b (min (o - b.sent + 1) (hops b.src b.dst)))
      let arr (k : Nat) : List Beat := arrivalsAt whole o k ++ s.strayAt (d.t0 + o) k
      let evs :=
        (all.filterMap clash).eraseDups.map (fun l => eventWord l.1 l.2 o) ++
        cores.filterMap (fun k => if 1 < (arr k).length then some (eventWord k 4 o) else none) ++
        cores.filterMap (fun k =>
          if (arr k).isEmpty then (if ((s.core k).beatAt level false o).isSome then some (eventWord k 6 o) else none)
          else if ((s.core k).beatAt level false o).isNone then some (eventWord k 5 o) else none)
      let s1 := cores.foldl (fun (st : State) k => (st.takeBeat level k o (arr k)).updCore k (·.moved level o)) s
      let fe : Option Word × State := if d.event.isSome then (d.event, s1) else s1.firstEvent evs
      some (fe.2.updGroup part g.gid (·.updDom level value (fun d =>
        { d with offset := o + 1, beats := whole.filter (fun b => decide (o < b.sent + hops b.src b.dst)), event := fe.1 })))

/-- `EXCHANGE_CLOSE`, R311, R312, R316: the last core's `xdone` has completed; beats that are still under way go on. -/
def exchangeClose (part level value : Nat) (s : State) : Option State :=
  match s.groupOfDom part level value with
  | none => none
  | some (g, d) =>
    let cores := s.domainCores g level value
    if d.st = .exchanging ∧ cores.all (fun k => decide (k ∈ d.done)) then
      let late : List Beat := d.beats.map (fun (b : Beat) => { b with sent := d.t0 + b.sent })
      some ({ s with stray := s.stray ++ late }.updGroup part g.gid
        (·.updDom level value (fun d =>
          { d with st := .computing, offset := 0, beats := [], event := none, done := [] })))
    else none

/-- R312, R313: the beats of closed phases as a cycle passes: those that collide in it, those that have arrived. -/
def State.strayTick (s : State) : List Beat :=
  if s.stray.isEmpty then []
  else
    let used := s.linksUsed s.now
    (s.stray.filter (fun b => decide (s.now < b.sent + hops b.src b.dst))).map (fun b =>
      match s.linkAt b s.now with
      | some l => if 1 < (used.filter (fun x => decide (x = l))).length then { b with bad := true } else b
      | none => b)

/-! ### The timeout (R308, R314, R327) -/

/-- R310, R327: the partition of a core is in *boundary*: waits are not counted. -/
def State.inBoundary (s : State) (k : Nat) : Bool :=
  match s.partOfCore k with
  | some p => s.groups.any (fun e => decide (e.2.part = p) && e.2.doms.any (fun d => decide (d.st = .boundary)))
  | none => false

/-- R327: what TRAPVAL holds of a wait that the limit applies to. -/
def WaitKind.timed : WaitKind → Option Nat
  | .sync l => some l
  | .xstart l => some l
  | .barw n _ _ => some n
  | .barrc q => some (q / 2 ^ 18 % 4)
  | _ => none

/-- `BARRIER_TIMEOUT`, R327: the count of a wait reaches its limit. -/
def barrierTimeout (k sl : Nat) (s : State) : Option State :=
  match s.strand k sl with
  | none => none
  | some t =>
    match t.wait with
    | none => none
    | some w =>
      let lim := (s.core k).barTimeout.toNat % 2 ^ 32
      match w.kind.timed with
      | none => none
      | some v =>
        if decide (lim = 0) || t.granted.isSome || (s.core k).frozen || s.inBoundary k || s.waitMet k w.kind ||
            decide (s.now < w.since + w.idle + lim * 1024)
        then none
        else some (s.faultStrand k sl 0x0F (BitVec.ofNat 64 v) t.pc.toNat)

/-! ### Barrier wires (R329) -/

/-- R328, R394, R401: the wires of a rectangle reach all its cores: its regions work and belong to one partition, and where
there are several their gates pass. -/
def State.wiresJoin (s : State) (die : Nat) (r : Rect) : Bool :=
  let regs := (upto (r.rlo / 4) (r.rhi / 4 + 1 - r.rlo / 4)).map (fun i => die * 5 + i)
  let p := (s.region (die * 5 + r.rlo / 4)).part
  p.isSome && regs.all (fun i => decide ((s.region i).part = p) && (s.region i).works) &&
    (decide (regs.length ≤ 1) || regs.all (fun i => !s.regionShut i))

/-- `WIRE_EPISODE_COMPLETE`, R328, R329: every core of the rectangle has raised its flag, the wires reach them all, and some
strand waits. -/
def wireEpisode (die code : Nat) (s : State) : Option State :=
  let r := Rect.ofCode code
  let cores := r.cores die
  if s.wiresJoin die r ∧ cores.any (fun k => !(s.core k).slots.isEmpty) ∧ cores.all (fun k => s.raises k code) then
    some (cores.foldl (fun (st : State) k =>
      let c := st.core k
      let n := kget 0#16 r.w c.episodes + 1
      st.setCore k { c.releaseAll (.barrc code) (n.setWidth 64) with episodes := kput 0#16 r.w n c.episodes }) s)
  else none

/-! ### Events on the dynamic plane (R229, R322, R323, R334) -/

/-- R229, R323: no earlier arrival message of the same planisher is on its way to the core. -/
def State.firstArrival (s : State) (n : Nat) (f : Flight) : Bool :=
  s.flights.all (fun e => decide (n ≤ e.1) || decide (clusterOf e.2.src.core ≠ clusterOf f.src.core) || decide (e.2.dst ≠ f.dst) ||
    (match e.2.kind with | .arrival _ _ => false | _ => true))

/-- `EVENT_TO_INBOX`, R322, R334, R404: an event reaches its destination: refused, placed, or held at its sender; an
arrival message waits at the planisher. -/
def eventToInbox (n : Nat) (s : State) : Option State :=
  match kfind n s.flights with
  | none => none
  | some f =>
    match f.kind with
    | .message _ _ => none
    | .arrival line p => if s.firstArrival n f && !s.standsStill f then ((s.dropFlight n).placeEvent f.dst ⟨line, p⟩) else none
    | .event line p =>
      let waits := (s.core f.src.core).held.any (fun g => decide (g.dst = f.dst))
      if !s.firstOfPair n f || s.standsStill f then none
      else
        match s.messageRefusal f.src.core f.dst with
        | some c => some ((s.dropFlight n).refuse f.src c f.addr)
        | none =>
          match (if waits then none else (s.dropFlight n).placeEvent f.dst ⟨line, p⟩) with
          | some s1 => some s1
          | none => some ((s.dropFlight n).updCore f.src.core (fun c => { c with held := c.held ++ [f] }))

/-- R334: the held events of a core, from a place on, without the first that its destination's inbox now takes, or that a
closed gate refuses; `seen` are the destinations of those passed over, whose later events keep behind them (R323). -/
def releaseHeld (s : State) (k : Nat) : List Flight → List Flight → Option State
  | _, [] => none
  | seen, f :: r =>
    let s1 := s.updCore k (fun c => { c with held := seen ++ r })
    let next := releaseHeld s k (seen ++ [f]) r
    if seen.any (fun g => decide (g.dst = f.dst)) then next
    else
      match s.messageRefusal k f.dst, f.kind with
      | some c, _ => some (s1.refuse f.src c f.addr)
      | none, .event line p => (s1.placeEvent f.dst ⟨line, p⟩).or next
      | none, _ => some s1

/-- `HELD_EVENT_PLACED`, R334: a destination's inbox has room for an event held at a core, or a gate on its way has closed. -/
def heldPlaced (k : Nat) (s : State) : Option State := s.whileRuns (clusterOf k) (releaseHeld s k [] (s.core k).held)

/-- R311. -/
def execExchangeOpen (part level dom : Nat) (s : State) : Host.Outcome State Fault Refusal := runEvent (exchangeOpen part level dom s) s

/-- R312. -/
def execExchangeBeat (part level dom : Nat) (s : State) : Host.Outcome State Fault Refusal := runEvent (exchangeBeat part level dom s) s

/-- R316. -/
def execExchangeClose (part level dom : Nat) (s : State) : Host.Outcome State Fault Refusal := runEvent (exchangeClose part level dom s) s

/-- R327. -/
def execBarrierTimeout (core slot : Nat) (s : State) : Host.Outcome State Fault Refusal := runEvent (barrierTimeout core slot s) s

/-- R329. -/
def execWireEpisodeComplete (die code : Nat) (s : State) : Host.Outcome State Fault Refusal := runEvent (wireEpisode die code s) s

/-- R322. -/
def execEventToInbox (n : Nat) (s : State) : Host.Outcome State Fault Refusal := runEvent (eventToInbox n s) s

/-- R334. -/
def execHeldEventPlaced (core : Nat) (s : State) : Host.Outcome State Fault Refusal := runEvent (heldPlaced core s) s

end Sys2Proof.Machine
end

