-- ==== Sys2Proof/Machine/Pages.lean ====
section
/-! DEFINITION. What the host's translation agent and the host's page handling do: completions, page requests and their
responses, replay-all, invalidation (R342 to R351). -/
namespace Sys2Proof.Machine

/-- R342: a size that a completion may report. -/
def sizeOk (size : Nat) : Bool := decide (4096 ≤ size) && decide (size = 2 ^ size.log2)

/-- `TRANSLATION_COMPLETION`, R342, R343, R345: `perms` holds read in bit 0 and write in bit 1. -/
def translationCompletion (die vf pasid va pa size perms : Nat) (s : State) : Option State :=
  if sizeOk size then s.completeTranslation die vf pasid va pa size (perms.testBit 0) (perms.testBit 1) else none

/-- R351: bytes of a context that some removed entry covers. -/
def goneCovers (gone : List (Nat × AtcEntry)) (ids : Nat × Nat) (r : Nat × Nat) : Bool :=
  gone.any (fun x => x.2.meets ids.1 ids.2 r.1 r.2)

/-- R351: the accesses of strands, and the commands of planishers and copy engines, that have used an entry of a list and
have not been performed: their numbers. -/
def State.usersOf (s : State) (gone : List (Nat × AtcEntry)) : List Nat :=
  ((s.accesses.filter (fun a => (decide (a.2.phase = .ready) || decide (a.2.phase = .queued) || decide (a.2.phase = .sent)) &&
    goneCovers gone (a.2.vf, a.2.pasid) (a.2.addr, 1))).map (·.1)) ++
  s.clusters.flatMap (fun c =>
    (match c.2.cmds with
     | m :: _ => if m.started && (memRanges m).any (fun r => decide (m.row ≤ r.1) && goneCovers gone (s.ctxIds m.src.core) r.2)
         then [m.id] else []
     | [] => []) ++
    (match c.2.copies with
     | m :: _ => if m.started && m.status.isNone && !m.rowsAt.isEmpty &&
           ((upto m.row (m.rows - m.row)).flatMap m.pieces).any (goneCovers gone m.ids) then [m.id] else []
     | [] => []))

/-- R345, R351, R358: entries leave every ATC; their pages are *invalidated* until what had used them has been performed. -/
def State.invalidate (s : State) (p : AtcEntry → Bool) (i : Inval) : State :=
  let gone := s.allAtc.filter (fun x => p x.2)
  let s1 := s.purgeAtc p
  { s1 with invals := s1.invals ++ [{ i with gone := gone, uses := s.usersOf gone }] }

/-- R351: some user of a removed entry is still to be performed. -/
def State.invalBusy (s : State) (i : Inval) : Bool := (s.usersOf i.gone).any (fun n => decide (n ∈ i.uses))

/-- `INVALIDATE_REQUEST`, R351: matching entries leave every ATC; the completion is owed. -/
def invalidateRequest (vf pasid va size : Nat) (s : State) : Option State :=
  some (s.invalidate (·.meets vf pasid va size) ⟨vf, pasid, va, size, [], [], none⟩)

/-- `INVALIDATION_COMPLETION`, R345, R351: every access that had used a removed entry has been performed. -/
def invalidationCompletion (vf pasid va : Nat) (s : State) : Option State :=
  match s.invals.find? (fun i => decide (i.vf = vf) && decide (i.pasid = pasid) && decide (i.va = va) && i.owner.isNone) with
  | none => none
  | some i =>
    if s.invalBusy i then none
    else some ({ s with invals := s.invals.erase i }.send (.invalidationCompletion vf pasid va))

/-- `PGCTL_REPLAY`, R350: bit 0 of the value asks for replay-all. -/
def pgctlReplay (vf val : Nat) (s : State) : Option State := if val % 2 = 1 then some (s.replayAll vf) else none

/-- `PRI_CONTROL_RESET`, R349: the stopped page-request interface of a function works again. -/
def priReset (vf : Nat) (s : State) : Option State := some (s.updVf vf (fun v => { v with stop := false }))

/-- R345. -/
def execTranslationCompletion (die vf pasid va pa size perms : Nat) (s : State) : Host.Outcome State Fault Refusal :=
  runEvent (translationCompletion die vf pasid va pa size perms s) s

/-- R349. -/
def execPageRequestQueue (cl n : Nat) (s : State) : Host.Outcome State Fault Refusal := runEvent (s.queueFault cl n) s

/-- R349. -/
def execPrgResponseSuccess (vf idx : Nat) (s : State) : Host.Outcome State Fault Refusal := runEvent (s.prgSuccess vf idx) s

/-- R349. -/
def execPrgResponseInvalidRequest (vf idx : Nat) (s : State) : Host.Outcome State Fault Refusal := runEvent (s.prgInvalid vf idx) s

/-- R349. -/
def execPrgResponseFailure (vf idx : Nat) (s : State) : Host.Outcome State Fault Refusal := runEvent (s.prgFailure vf idx) s

/-- R351. -/
def execInvalidateRequest (vf pasid va size : Nat) (s : State) : Host.Outcome State Fault Refusal :=
  runEvent (invalidateRequest vf pasid va size s) s

/-- R351. -/
def execInvalidationCompletion (vf pasid va : Nat) (s : State) : Host.Outcome State Fault Refusal :=
  runEvent (invalidationCompletion vf pasid va s) s

/-- R350. -/
def execPgctlReplay (vf val : Nat) (s : State) : Host.Outcome State Fault Refusal := runEvent (s.booted (pgctlReplay vf val s)) s

/-- R349. -/
def execPriControlReset (vf : Nat) (s : State) : Host.Outcome State Fault Refusal := runEvent (priReset vf s) s

end Sys2Proof.Machine
end

