-- ==== Sys2Proof/Machine/Record.lean ====
section
/-! DEFINITION. The scheduler of the ridge die (R373 to R388): its accesses to memory, queue records and their write-back,
the places of a queue. -/
namespace Sys2Proof.Machine

/-! ### Accesses of the scheduler and the loader (R281, R341, R347, R373) -/

/-- The cluster under which the agents of the ridge die are translated: the finial cluster of die 0. -/
def ridgeCluster : Nat := 160

/-- R373: an address that a record or a packet may name, with its last byte. -/
def State.addrOk (s : State) (part x n : Nat) : Bool :=
  (decide (x / 2 ^ 57 = 0) && decide ((x + n - 1) / 2 ^ 57 = 0)) ||
    (decide (x / 2 ^ 47 = 0x12000) && decide (x % 2 ^ 47 + n ≤ s.windowOf (some part)))

/-- The location of one piece for an agent of the ridge die, under a function and PASID of a partition. -/
def State.ridgePiece (s : State) (w : Waiter) (vf pasid part : Nat) (write : Bool) (p : Nat × Nat) : Located :=
  let put (loc : Nat) : Located :=
    if s.linesHeld ridgeCluster loc p.2 write then .held else .all [(0, [(loc, p.2)])]
  if p.1 / 2 ^ 60 = 9 then put (privLoc part p.1)
  else
    match s.hostPlace ridgeCluster vf pasid p.1 write with
    | .here loc => put loc
    | .pcie loc =>
      if !write then s.fetchPiece w p.1 loc p.2
      else if s.pcieUp then .all [(0, [(loc, p.2)])] else .fail 0x10 p.1
    | .missing => .missing p.1
    | .refused c => .fail c p.1
    | _ => .fail 0x05 p.1

/-- The locations of pieces. -/
def State.ridgePieces (s : State) (w : Waiter) (vf pasid part : Nat) (write : Bool) : List (Nat × Nat) → List (Nat × Nat) → Located
  | [], acc => .all [(0, acc)]
  | p :: r, acc =>
    match s.ridgePiece w vf pasid part write p with
    | .all l => s.ridgePieces w vf pasid part write r (acc ++ l.flatMap (·.2))
    | x => x

/-- What an access of the ridge die comes to. -/
inductive Reach where
  /-- its locations -/
  | locs (l : List (Nat × Nat))
  /-- it waits: on a translation that it has asked for, or on lines that an engine holds -/
  | waits (s : State)
  /-- it is refused with a cause, at an address -/
  | fail (cause addr : Nat)

/-- R303, R347: the access of a waiter to `n` bytes at `x`: located, waiting, or refused, a refusal that a page request
brought included. -/
def State.reach (s : State) (vf pasid part : Nat) (write : Bool) (w : Waiter) (x n : Nat) : Reach :=
  match s.engineFails.find? (fun f => decide (f.1 = w) && decide (x ≤ f.2.2) && decide (f.2.2 < x + n)) with
  | some f => .fail f.2.1 f.2.2
  | none =>
    if s.awaits w then .waits s
    else match s.ridgePieces w vf pasid part write (rowPieces 300 x n) [] with
    | .all l => .locs (l.flatMap (·.2))
    | .held => .waits s
    | .ask loc m => .waits (s.askRead w loc m)
    | .missing y => .waits (s.waitPage ridgeCluster vf pasid y write w)
    | .fail c y => .fail c y

/-- The failures reported to a waiter have been taken, and what it fetched has been used. -/
def State.clearFails (s : State) (w : Waiter) : State :=
  { s with engineFails := s.engineFails.filter (fun f => decide (f.1 ≠ w)) }.dropRequests w

/-- Located bytes read as a number. -/
def State.readLocs (s : State) (l : List (Nat × Nat)) : Nat := bytesNat (s.bytesAt l)

/-- Located bytes written by an agent of the ridge die. -/
def State.ridgeWriteLocs (s : State) : List (Nat × Nat) → List Byte → State
  | [], _ => s
  | p :: r, bs => ((s.writeRequest p.1 (bs.take p.2)).ridgeWrite p.1 (bs.take p.2)).ridgeWriteLocs r (bs.drop p.2)

/-! ### Queue records (R373 to R376) -/

/-- R374: the code of a queue's state. -/
def QueueState.code : QueueState → Nat
  | .unmapped => 0
  | .mapped => 1
  | .active => 2
  | .waiting => 3
  | .preempted => 4
  | .faulted => 5

/-- R373: the location of the record of queue `q` of a function. -/
def State.recordAt (s : State) (vf q : Nat) : Option Nat := (s.vf vf).qtab.map (· + 128 * q)

/-- A number with bits `[lo, lo + w)` replaced. -/
def setBits (x lo w v : Nat) : Nat := x - x / 2 ^ lo % 2 ^ w * 2 ^ lo + v % 2 ^ w * 2 ^ lo

/-- R374: the words of a record as they are after the fields of the device and the firmware are written. -/
def recordWords (vf q : Nat) (x : Queue) (old : Nat → Nat) : List (Nat × Nat) :=
  let w1 := setBits (setBits (setBits (setBits (old 1) 29 6 vf) 36 4 x.st.code) 40 8 x.err) 48 3 x.levels.length
  let tl (e : Nat) : Nat := match kfind e x.links with
    | some (l, consumer) => l % 256 + (if consumer then 2 ^ 8 else 0) + 2 ^ 15
    | none => 0
  [(1, w1), (2, setBits (old 2) 0 48 x.ridx), (3, setBits (old 3) 0 48 x.widx), (4, setBits (old 4) 0 48 x.rfence),
    (5, tl 0 + tl 1 * 2 ^ 16 + tl 2 * 2 ^ 32 + tl 3 * 2 ^ 48), (6, setBits (setBits (old 6) 0 16 x.nrpl) 16 8 q)] ++
  (List.range 4).flatMap (fun e =>
    let l := (x.levels[e]?).getD (0, 0)
    [(8 + 2 * e, l.1), (9 + 2 * e, l.2)])

/-- R375: the fields of the device written to a record at a location, each a relaxed write. -/
def State.writeRecord (s : State) (vf q a : Nat) (x : Queue) : State :=
  (recordWords vf q x (fun i => s.read (a + 8 * i) 8)).foldl (fun (st : State) e =>
    if st.read (a + 8 * e.1) 8 = e.2 then st else st.ridgeWrite (a + 8 * e.1) (natBytes 8 e.2)) s

/-- R375: the fields of the device written back; the write waits for lines of the record that an engine holds (R219, R290). -/
def State.writeBackRecord (s : State) (vf q : Nat) : State :=
  match s.queue vf q, s.recordAt vf q with
  | some x, some a =>
    if s.ridgeQ.isEmpty && !s.linesHeld ridgeCluster a 128 true then s.writeRecord vf q a x
    else { s with ridgeQ := s.ridgeQ ++ [.record vf q] }
  | _, _ => s

/-- R219, R290: a waiting write of the ridge die still needs a line that an engine holds. -/
def State.postHeld (s : State) : RidgePost → Bool
  | .bytes a bs => s.linesHeld ridgeCluster a bs.length true
  | .record vf q => (s.recordAt vf q).any (fun a => s.linesHeld ridgeCluster a 128 true)
  | .status r => s.statusBlock.any (fun b => s.linesHeld ridgeCluster (b + 8 * r) 8 true)
  | .interrupt _ _ => false

/-- A waiting write of the ridge die is performed: a record and a status word as they are then. -/
def State.performPost (s : State) : RidgePost → State
  | .bytes a bs => s.ridgeWrite a bs
  | .record vf q =>
    match s.queue vf q, s.recordAt vf q with
    | some x, some a => s.writeRecord vf q a x
    | _, _ => s
  | .status r => s.writeStatus r
  | .interrupt vf vec => s.send (.msix vf vec)

/-- The waiting writes of the ridge die performed in order, up to one that still waits. -/
def State.flushPosts (s : State) : List RidgePost → State
  | [] => { s with ridgeQ := [] }
  | p :: r => if s.postHeld p then { s with ridgeQ := p :: r } else (s.performPost p).flushPosts r

/-- A queue changed, and its record written back. -/
def State.setQueue (s : State) (vf q : Nat) (x : Queue) : State :=
  { s with queues := kset (queueKey vf q) x s.queues }.writeBackRecord vf q

/-- R375, R419: word `i` of the record of a queue; while the function is locked, as it was when it was locked. -/
def State.recordWord (s : State) (vf q i : Nat) : Nat :=
  match s.recordAt vf q with
  | some a => if s.vfLocked vf then { s with mem := (s.vf vf).table }.read (a + 8 * i) 8 else s.read (a + 8 * i) 8
  | none => 0

/-- R375: the fields that software sets, read from the record. -/
def State.softFields (s : State) (vf q : Nat) (x : Queue) : Queue :=
  let w1 := s.recordWord vf q 1
  { x with word0 := BitVec.ofNat 64 (s.recordWord vf q 0), lsz := w1 % 2 ^ 5, pri := w1 / 2 ^ 5 % 2 ^ 3,
           pre := decide (w1 / 2 ^ 8 % 2 = 1), pasid := w1 / 2 ^ 9 % 2 ^ 20 }

/-- R373, R374: the queue of a record when the scheduler first meets it: its own fields as the record holds them; none
where the package holds 4096 records already. -/
def State.loadQueue (s : State) (vf q : Nat) : Option Queue :=
  match s.queue vf q, s.recordAt vf q with
  | some x, _ => some x
  | none, some _ =>
    if 4096 ≤ s.queues.length ∨ 256 ≤ q ∨ 64 ≤ vf then none
    else
      let w (i : Nat) : Nat := s.recordWord vf q i
      some (s.softFields vf q
        { word0 := 0#64, lsz := 0, pri := 0, pre := false, pasid := 0,
          st := if w 1 / 2 ^ 36 % 16 = 5 then .faulted else .unmapped, err := w 1 / 2 ^ 40 % 256,
          ridx := w 2 % 2 ^ 48, widx := w 3 % 2 ^ 48, rfence := w 4 % 2 ^ 48, links := [], nrpl := w 6 % 2 ^ 16, levels := [], slot := none, since := 0, quantumOut := false,
          pendn := false, fenceAt := 0, turn := 0, copied := 0, word := 0#512, rest := [] })
  | none, none => none

/-- R375: the record passes the check at mapping. -/
def State.recordValid (s : State) (vf q : Nat) (x : Queue) : Bool :=
  match s.recordAt vf q with
  | none => false
  | some _ =>
    let w (i : Nat) : Nat := s.recordWord vf q i
    decide (w 0 / 2 ^ 57 = 0) && decide (w 1 / 2 ^ 35 % 2 = 0) && decide (w 1 / 2 ^ 51 = 0) && decide (w 2 / 2 ^ 48 = 0) &&
      decide (w 3 / 2 ^ 48 = 0) && decide (w 4 / 2 ^ 48 = 0) && decide (w 6 / 2 ^ 24 = 0) && decide (w 7 = 0) &&
      decide (4 ≤ x.lsz) && decide (x.lsz ≤ 20) && decide (x.word0.toNat % (64 * 2 ^ x.lsz) = 0) &&
      (match s.context vf x.pasid with
       | some c => decide (c.st ≠ .created) && decide (c.st ≠ .destroyed)
       | none => false)

/-- The partition of a queue: that of its context. -/
def State.partOfQueue (s : State) (vf : Nat) (x : Queue) : Option Nat := (s.context vf x.pasid).map (·.part)

/-! ### States (R387, R388, R391) -/

def QueueState.busy : QueueState → Bool
  | .active => true
  | .waiting => true
  | _ => false

/-- R388: a queue's state changes; R391: the watchdog counts from its becoming *active*; R413: its context may be idle. -/
def State.queueTo (s : State) (vf q : Nat) (st : QueueState) : State :=
  match s.queue vf q with
  | none => s
  | some x =>
    let s1 := s.setQueue vf q { x with st := st, fenceAt := if st.busy ∧ !x.st.busy then s.now else x.fenceAt }
    if st.busy then s1 else s1.contextIdle vf x.pasid

/-- R390: the number of a free hardware slot. -/
def State.freeSlot (s : State) : Option Nat :=
  (List.range 128).find? (fun i => !s.queues.any (fun e => decide (e.2.slot = some i)))

/-- R390: a launch that still waits for clusters has changed nothing: it is read again. -/
def State.forgetLaunch (s : State) (vf q : Nat) : State :=
  { s with kernels := s.kernels.filter (fun e => !(decide (e.2.st = .declared) && decide (e.2.vf = vf) && decide (e.2.q = q))) }


/-! ### The packet at the head (R376, R386) -/

/-- R376, R386: the address of the next packet; none where the queue holds none. -/
def Queue.headAddr (x : Queue) : Option Nat :=
  match x.levels.getLast? with
  | some l => some l.1
  | none => if x.ridx = x.widx then none else some (x.word0.toNat + 64 * (x.ridx % 2 ^ x.lsz))

/-- R386: levels whose packets are used up are popped. -/
def popLevels (l : List (Nat × Nat)) : List (Nat × Nat) := (l.reverse.dropWhile (fun e => decide (e.2 = 0))).reverse

/-- R376, R386: the head packet has begun, pushing an indirect level where it is one. -/
def Queue.begun (x : Queue) (push : Option (Nat × Nat)) : Queue :=
  let y : Queue :=
    match x.levels.getLast? with
    | none => { x with ridx := (x.ridx + 1) % 2 ^ 48 }
    | some l => { x with levels := x.levels.dropLast ++ [(l.1 + 64, l.2 - 1)] }
  { y with levels := popLevels (y.levels ++ push.toList), copied := 0 }

/-- R387, R388: a copy of which some bytes are performed has begun: it goes on by itself. -/
def Queue.letGo (x : Queue) : Queue :=
  if x.copied = 0 then x else { x.begun none with rest := x.rest ++ [(x.copied, x.word)] }

/-- R387: a queue faults with a cause: it begins no packet and holds no slot; what it has begun goes on. -/
def State.faultQueue (s : State) (vf q cause : Nat) : State :=
  match s.queue vf q with
  | none => s
  | some x =>
    (((s.forgetLaunch vf q).clearFails (.queue vf q)).setQueue vf q { x.letGo with
      st := .faulted, err := cause, slot := none, pendn := false, quantumOut := false }).contextIdle vf x.pasid

/-- R388: the head packet has begun; with every packet begun the queue is *mapped*. -/
def State.packetBegun (s : State) (vf q : Nat) (push : Option (Nat × Nat)) : State :=
  match s.queue vf q with
  | none => s
  | some x =>
    let y := x.begun push
    ((s.clearFails (.queue vf q)).setQueue vf q y).queueTo vf q (if y.headAddr.isSome then .active else .mapped)

end Sys2Proof.Machine
end

