-- ==== Sys2Proof/Machine/Kernels.lean ====
section
/-! DEFINITION. Kernels (17_kernel): descriptors and their checks, placement, loading, residency, draining, moves of
clusters between stages. -/
namespace Sys2Proof.Machine

/-! ### Descriptors (R359, R360) -/

/-- Bits `[lo, lo + w)` of word `n` of a descriptor. -/
def descField (d : BitVec 512) (n lo w : Nat) : Nat := descWord d n / 2 ^ lo % 2 ^ w

def kStages (d : BitVec 512) : Nat := descField d 0 0 3 + 1
def kRebal (d : BitVec 512) : Bool := decide (descField d 0 3 1 = 1)
def kId (d : BitVec 512) : Nat := descField d 0 32 32
def kArea (d : BitVec 512) : Nat := descField d 1 0 47

def sImg (d : BitVec 512) : Nat := descWord d 0
def sIsz (d : BitVec 512) : Nat := descField d 1 0 19
def sEntry (d : BitVec 512) : Nat := descField d 1 20 19
def sCmin (d : BitVec 512) : Nat := descField d 1 40 8
def sCmax (d : BitVec 512) : Nat := descField d 1 48 8
def sPri (d : BitVec 512) : Nat := descField d 1 56 4
def sCeil (d : BitVec 512) : Nat := descField d 1 60 4
def sNinit (d : BitVec 512) : Nat := descField d 2 0 24
def sLim (d : BitVec 512) : Nat := descField d 2 32 24
def sArea (d : BitVec 512) : Nat := descField d 3 0 47
def sIch (d : BitVec 512) : Nat := descField d 4 0 5
def sIssz (d : BitVec 512) : Nat := descField d 4 5 2
def sIon (d : BitVec 512) : Bool := decide (descField d 4 7 1 = 1)
def sIcap (d : BitVec 512) : Nat := descField d 4 8 12 + 1
def sIbase (d : BitVec 512) : Nat := descField d 4 20 19
def sFsz (d : BitVec 512) : Nat := descField d 5 0 19

/-- Rounded up to a multiple. -/
def roundUp (x a : Nat) : Nat := (x + a - 1) / a * a

/-- R364: the boundary of a stage's code. -/
def sTop (d : BitVec 512) : Nat := roundUp (sIsz d) 256

/-- R361: the frame floor. -/
def sFloor (d : BitVec 512) : Int :=
  (0x80000 : Int) - ((sNinit d + 8 * max 1 (sCmin d) - 1) / (8 * max 1 (sCmin d)) * sFsz d : Nat)

/-- R361: the high mark. -/
def sHigh (d : BitVec 512) : Nat := if sIon d then sIbase d + sIcap d * (16 * 2 ^ sIssz d) else sTop d

/-- R360: the bytes of a stage's records and pool. -/
def sAreaSize (d : BitVec 512) : Nat := 64 * sNinit d + roundUp (8 * sLim d) 64

/-! ### The checks of R361 -/

/-- Rules 1 of the kernel descriptor, and 4. -/
def State.kernelOk (s : State) (part : Nat) (d : BitVec 512) (stages : List (BitVec 512)) : Bool :=
  decide (descField d 0 4 28 = 0) && decide (descField d 1 47 17 = 0) && decide (kArea d % 256 = 0) &&
    (upto 2 6).all (fun i => decide (descWord d i = 0)) &&
    decide ((stages.map sCmin).sum ≤ 8 * ((s.partition part).map (·.regions.length)).getD 0)

/-- Rules 1 and 2 of stage `i`. -/
def State.stageOk (s : State) (part i : Nat) (d : BitVec 512) : Bool :=
  decide (sImg d % 256 = 0) && s.addrOk part (sImg d) (sIsz d) && decide (sIsz d % 4 = 0) && decide (4 ≤ sIsz d) &&
    decide (sEntry d % 4 = 0) && decide (sEntry d < sIsz d) && decide (1 ≤ sCmin d) && decide (sCmin d ≤ sCmax d) &&
    decide (sCmax d ≤ 160) && decide (sPri d ≤ sCeil d) && decide (1 ≤ sNinit d) && decide (sNinit d ≤ sLim d) &&
    decide (sArea d % 64 = 0) && decide (sIssz d ≠ 3) && decide (sIbase d % 64 = 0) && decide (sFsz d % 64 = 0) &&
    decide (sIon d = decide (i ≠ 0)) && decide (descField d 1 19 1 = 0) && decide (descField d 1 39 1 = 0) &&
    decide (descField d 2 24 8 = 0) && decide (descField d 2 56 8 = 0) && decide (descField d 3 47 17 = 0) &&
    decide (descField d 4 39 25 = 0) && decide (descField d 5 19 45 = 0) && decide (descWord d 6 = 0) &&
    decide (descWord d 7 = 0) && decide ((sTop d : Int) ≤ sFloor d) &&
    (!sIon d || (decide (sTop d ≤ sIbase d) && decide ((sHigh d : Int) ≤ sFloor d)))

/-- Rule 3: the areas by descriptor, as first offset and end. -/
def areas (d : BitVec 512) (stages : List (BitVec 512)) : List (Nat × Nat) :=
  (kArea d, kArea d + 256) :: stages.map (fun x => (sArea x, sArea x + sAreaSize x))

/-- Rule 3 for one descriptor. -/
def State.areaOk (s : State) (part i : Nat) (l : List (Nat × Nat)) : Bool :=
  match l[i]? with
  | none => true
  | some a => decide (a.2 ≤ s.windowOf (some part)) &&
      (List.range l.length).all (fun j => decide (j = i) ||
        (match l[j]? with
         | some b => decide (b.2 ≤ a.1) || decide (a.2 ≤ b.1)
         | none => true))

/-- Rule 5 for one stage. -/
def rebalOk (d : BitVec 512) (stages : List (BitVec 512)) (x : BitVec 512) : Bool :=
  !kRebal d || (stages.all (fun y => decide ((sHigh x : Int) ≤ sFloor y)) && stages.all (fun y => decide ((sHigh y : Int) ≤ sFloor x)))

/-- R361: the first descriptor that fails: 0 for the kernel's, i + 1 for that of stage i. -/
def State.firstBad (s : State) (part : Nat) (d : BitVec 512) (stages : List (BitVec 512)) : Option Nat :=
  let l := areas d stages
  (List.range (stages.length + 1)).find? (fun i =>
    !s.areaOk part i l ||
      (if i = 0 then !s.kernelOk part d stages
       else
         match stages[i - 1]? with
         | some x => !s.stageOk part (i - 1) x || !rebalOk d stages x
         | none => true))

/-! ### Placement (R362, R363) -/

/-- R362, R366: a loading kernel has reserved the cluster. -/
def State.reserved (s : State) (part cl : Nat) : Bool :=
  s.kernels.any (fun k => decide (k.2.part = part) && decide (k.2.st = .loading) &&
    k.2.stages.any (fun g => decide (cl ∈ g.clusters)))

/-- R362: the free clusters of a partition, in ascending number. -/
def State.freeClusters (s : State) (part : Nat) : List Nat :=
  (((s.partition part).map (·.regions)).getD []).flatMap clustersOfRegion |>.filter (fun cl =>
    (s.cluster cl).holder.isNone && s.clusterRuns cl && !s.reserved part cl)

/-- R362: `cmin` clusters for each stage in turn. -/
def dealMin : List (BitVec 512) → List Nat → List (List Nat) × List Nat
  | [], l => ([], l)
  | d :: r, l =>
    let (a, rest) := dealMin r (l.drop (sCmin d))
    (l.take (sCmin d) :: a, rest)

/-- R362: one round of dealing: each stage below its `cmax` takes one cluster. -/
def dealRound : List (BitVec 512) → List (List Nat) → List Nat → List (List Nat) × List Nat
  | d :: ds, c :: cs, x :: l =>
    if c.length < sCmax d then
      let (a, rest) := dealRound ds cs l
      ((c ++ [x]) :: a, rest)
    else
      let (a, rest) := dealRound ds cs (x :: l)
      (c :: a, rest)
  | _, cs, l => (cs, l)

/-- R362: the rest dealt until clusters or stages run out. -/
def dealRest : Nat → List (BitVec 512) → List (List Nat) → List Nat → List (List Nat)
  | 0, _, cs, _ => cs
  | n + 1, ds, cs, l =>
    let r := dealRound ds cs l
    if r.2.length = l.length then cs else dealRest n ds r.1 r.2

/-- Numbers in ascending order. -/
def sorted (l : List Nat) : List Nat := l.foldl (fun acc x => sadd x acc) []

/-- R362: the clusters of each stage; none while too few are free. -/
def State.placement (s : State) (part : Nat) (stages : List (BitVec 512)) : Option (List (List Nat)) :=
  let free := sorted (s.freeClusters part)
  if free.length < (stages.map sCmin).sum then none
  else
    let m := dealMin stages free
    some (dealRest 160 stages m.1 m.2)

/-- R364: group numbers that no running group of the partition holds, lowest first. -/
def State.freeGids (s : State) (part n : Nat) : List Nat :=
  ((List.range 2048).filter (fun g => (s.group part g).isNone &&
    !s.kernels.any (fun k => decide (k.2.part = part) && k.2.stages.any (fun x => decide (x.group = some g))))).take n

/-- R363: the bytes of one stage of the placement table. -/
def tableBytes (cls : List Nat) (ver : Nat) : List Byte :=
  natBytes 20 ((cls.map (2 ^ ·)).sum) ++ natBytes 2 cls.length ++ natBytes 2 0 ++ natBytes 8 ver

/-- R363: the placement table written. -/
def State.writeTable (s : State) (n : Nat) : State :=
  match s.kernel n with
  | none => s
  | some k =>
    (List.range k.stages.length).foldl (fun (st : State) i =>
      match k.stages[i]? with
      | some g => st.ridgePost (privBase k.part + kArea k.desc + 32 * i) (tableBytes g.clusters k.ver)
      | none => st) s

/-- `KERNEL_PLACEMENT`, R362, R363, R366, R380: clusters are free and its context is resident: a declared kernel is placed,
and its launch has begun. -/
def kernelPlacement (n : Nat) (s : State) : Option State :=
  match s.kernel n with
  | none => none
  | some k =>
    let resident := ((s.partition k.part).bind (·.resident)) = some (k.vf, k.pasid)
    if k.st = .declared ∧ resident then
      match s.placement k.part (k.stages.map (·.desc)) with
      | none => none
      | some cls =>
        let gids := s.freeGids k.part cls.length
        if gids.length < cls.length then none
        else
          let stages := (k.stages.zip (cls.zip gids)).map (fun e =>
            { e.1 with clusters := sorted e.2.1, group := some e.2.2 })
          let s1 := stages.foldl (fun (st : State) g => g.clusters.foldl (fun (u : State) cl =>
            u.updCluster cl (fun c => { c with holder := g.group, loading := true })) st) s
          let s2 := s1.updKernel n (fun k => { k with st := .loading, stages := stages, ver := 1 })
          some ((s2.writeTable n).packetBegun k.vf k.q none)
    else none

/-! ### Loading (R364, R365) -/

/-- R365: the key of a stage's image on a cluster. -/
def Kernel.image (k : Kernel) (i : Nat) : Nat × Nat × Nat := (kId k.desc, i, ctxKey k.vf k.pasid)

/-- R360: the location of a stage's pool. -/
def poolLoc (part : Nat) (d : BitVec 512) : Nat := privBase part + sArea d + 64 * sNinit d

/-- R304, R364: the level-3 domain of a group of a partition. -/
def State.l3Of (s : State) (part gid : Nat) : Nat := (((s.partition part).bind (·.join)).map (·.2)).getD gid

/-- R364: the MEMBER value of a core. -/
def State.memberOf (s : State) (part gid k : Nat) : Word :=
  BitVec.ofNat 64 (clusterOf k + ((regionOf k).getD 0 * 2 ^ 11 + gid) * 2 ^ 16 + gid * 2 ^ 32 + s.l3Of part gid % 2 ^ 16 * 2 ^ 48)

/-- The cores of clusters, in ascending number. -/
def coresOf (cls : List Nat) : List Nat := sorted (cls.flatMap coresOfCluster)

/-- R304, R311: the domains that the cores of a group form: those it has, kept; new ones *computing*. -/
def State.domainsOf (s : State) (g : Group) : List Domain :=
  let keys := (List.range 4).flatMap (fun l => ((g.cores.map (fun k => s.domainOf k l)).eraseDups).map (fun v => (l, v)))
  keys.map (fun e => (g.dom e.1 e.2).getD ⟨e.1, e.2, .computing, 0#64, 0, 0, [], none, []⟩)

/-- R147, R364: an image of a stage placed on a cluster: code written on every core, unless it is resident, and the
boundary set. -/
def State.placeImage (s : State) (key : Nat × Nat × Nat) (d : BitVec 512) (bytes : List Byte) (cl : Nat) : State :=
  let copied := decide ((s.cluster cl).resident ≠ some key)
  let s1 := (coresOfCluster cl).foldl (fun (st : State) k =>
    let st1 := if copied then st.write (spadBase k) bytes else st
    st1.updCore k (fun c => { c with xobound := BitVec.ofNat 64 (sTop d), fetchBound := BitVec.ofNat 64 (sTop d) })) s
  s1.updCluster cl (fun c => { c with resident := some key, loading := false })

/-- R364, R369: MEMBER set and the input entry opened on the cores of a cluster that joins a stage. -/
def State.joinStage (s : State) (part gid : Nat) (d : BitVec 512) (cl : Nat) : State :=
  (coresOfCluster cl).foldl (fun (st : State) k => st.updCore k (fun c =>
    { c with memberReg := s.memberOf part gid k,
             chans := if sIon d then kset (sIch d) { Chan.opened (sIbase d) (16 * 2 ^ sIssz d) (sIcap d) with ends := 0 } c.chans
               else c.chans })) s

/-- R381: the argument-block capability; none where its bounds cannot be represented exactly. -/
def argCap (x n : Nat) : Option TV :=
  if n = 0 then some TV.zero
  else
    let r := narrow (mkCap 0 0 0 0 0x03) x (x + n)
    if r.2 ∧ x + n ≤ 2 ^ 64 then some r.1 else none

/-- R364: g1 of initial strand `n`: its frame. -/
def frameCap (d : BitVec 512) (cores : List Nat) (n : Nat) : TV :=
  if sFsz d = 0 then TV.zero
  else
    let base := spadBase ((cores[n % cores.length]?).getD 0)
    let k := n / cores.length
    (narrow (mkCap 0 0 0 0 0x7B) (base + 0x80000 - (k + 1) * sFsz d) (base + 0x80000 - k * sFsz d)).1

/-- R364: the initial records of a stage, from number `n` down to 0. -/
def State.writeRecords (s : State) (part gid : Nat) (d : BitVec 512) (cores : List Nat) (g2 g3 : TV) : Nat → State
  | 0 => s
  | n + 1 =>
    let s1 := s.writeRecords part gid d cores g2 g3 n
    let loc := privBase part + sArea d + 64 * n
    let pc := (spadBase ((cores.head?).getD 0) + sEntry d) % 2 ^ 57
    let s2 := s1.ridgeWrite loc (natBytes 8 (recordWord0 pc false false false) ++
      natBytes 8 (recordWord1 n gid (sPri d) 1 0 0))
    ((s2.writeTagged (loc + 16) (frameCap d cores n)).writeTagged (loc + 32) g2).writeTagged (loc + 48) g3

/-- R364: one stage loaded, its image bytes given: cores set, records written, the group formed. -/
def State.loadStage (s : State) (n : Nat) (k : Kernel) (i : Nat) (g : Stage) (bytes : List Byte) : State :=
  let d := g.desc
  let gid := g.group.getD 0
  let cores := coresOf g.clusters
  let s1 := g.clusters.foldl (fun (st : State) cl =>
    ((st.joinStage k.part gid d cl).placeImage (k.image i) d bytes cl).updCluster cl (fun c => { c with holder := g.group })) s
  let g2 := (argCap k.arg.toNat k.argLen).getD TV.zero
  let g3 := ((s.context k.vf k.pasid).map (·.global)).getD TV.zero
  let s2 := s1.writeRecords k.part gid d cores g2 g3 (sNinit d)
  let code := (narrow (mkCap 0 0 0 0 permExec) (spadBase ((cores.head?).getD 0)) (spadBase ((cores.head?).getD 0) + sIsz d)).1
  let grp : Group :=
    { gid := gid, part := k.part, kernel := n, stage := i,
      pool := (List.range (sNinit d)).map (fun j => (0x9000000000000000 + sArea d + 64 * j, sPri d)),
      live := sNinit d, limit := sLim d, nextId := sNinit d, cores := cores, code := code, ceiling := sCeil d,
      doms := [], registered := [], delays := [], windows := [], poolAt := poolLoc k.part d, pushes := sNinit d,
      partId := BitVec.ofNat 64 (s.partIdFor k.part k.vf) }
  let s3 := s2.ridgeWrite (poolLoc k.part d) (grp.pool.flatMap (fun e => natBytes 8 e.1))
  { s3 with groups := kset (groupKey k.part gid) { grp with doms := s3.domainsOf grp } s3.groups }

/-- R365: some cluster of a stage lacks its image. -/
def State.needsImage (s : State) (k : Kernel) (i : Nat) (g : Stage) : Bool :=
  g.clusters.any (fun cl => decide ((s.cluster cl).resident ≠ some (k.image i)))

/-- The images of the stages from `i` on that are needed, in order; what the first that cannot be read comes to. -/
def State.readImages (s : State) (n : Nat) (k : Kernel) : Nat → List Stage → List (List (Nat × Nat)) ⊕ (Nat × Reach)
  | _, [] => .inl []
  | i, g :: r =>
    if s.needsImage k i g then
      match s.reach k.vf k.pasid k.part false (.kernel n) (sImg g.desc) (sIsz g.desc) with
      | .locs l =>
        match s.readImages n k (i + 1) r with
        | .inl ls => .inl (l :: ls)
        | .inr x => .inr x
      | x => .inr (i, x)
    else
      match s.readImages n k (i + 1) r with
      | .inl ls => .inl ([] :: ls)
      | .inr x => .inr x

/-- R219, R290: an engine holds lines of the records or the pools that the loading of a kernel writes. -/
def State.areasHeld (s : State) (k : Kernel) : Bool :=
  k.stages.any (fun g => s.linesHeld ridgeCluster (privBase k.part + sArea g.desc) (72 * sNinit g.desc) true)

/-- `KERNEL_LOADING_COMPLETE`, R364, R366: the images are read and every stage is loaded; a refused read fails the
kernel. -/
def kernelLoading (n : Nat) (s : State) : Option State :=
  match s.kernel n with
  | none => none
  | some k =>
    if k.st ≠ .loading ∨ ((s.partition k.part).bind (·.resident)) ≠ some (k.vf, k.pasid) ∨ s.areasHeld k then none
    else
      match s.readImages n k 0 k.stages with
      | .inl ls =>
        let s1 := (ls.flatten).foldl (fun (st : State) p => st.touch ridgeCluster p.1 p.2 false) s
        let s2 := (List.range k.stages.length).foldl (fun (st : State) i =>
          match k.stages[i]?, ls[i]? with
          | some g, some l => st.loadStage n k i g (s.bytesAt l)
          | _, _ => st) s1
        some ((s2.clearFails (.kernel n)).updKernel n (fun k => { k with st := .running }))
      | .inr (_, .waits s') => some s'
      | .inr (i, .fail c a) => some ((s.clearFails (.kernel n)).endKernel n c (some i) (BitVec.ofNat 64 a))
      | .inr (_, .locs _) => none

/-! ### Draining (R366) -/

/-- R308, R366: accesses, messages, copies and tile commands of a group are still under way. -/
def State.groupBusy (s : State) (part gid : Nat) : Bool :=
  let mine (src : Sender) : Bool := decide (src.gid = gid) && decide (s.partOfCore src.core = some part)
  s.accesses.any (fun a => mine a.2.src) || s.refusals.any (fun r => mine r.2.src) ||
    s.flights.any (fun f => mine f.2.src && !f.2.kind.isEvent) ||
    s.clusters.any (fun c => c.2.copies.any (fun x => mine x.src) || c.2.cmds.any (fun x => mine x.src))

/-- R366: an input channel of a stage holds a filled or a reserved slot. -/
def State.inputHeld (s : State) (g : Stage) : Bool :=
  sIon g.desc && (coresOf g.clusters).any (fun k =>
    match s.chan k (sIch g.desc) with
    | some c => !c.filled.isEmpty || !c.reserved.isEmpty
    | none => false)

/-- The context of a kernel is resident in its partition. -/
def State.kernelResident (s : State) (k : Kernel) : Bool :=
  decide (((s.partition k.part).bind (·.resident)) = some (k.vf, k.pasid))

/-- `KERNEL_DRAINED`, R366, R367: the work of a draining kernel has been performed; it is *complete* at once where it has
no completion record to write. -/
def kernelDrained (n : Nat) (s : State) : Option State :=
  match s.kernel n with
  | none => none
  | some k =>
    if k.st ≠ .draining ∨ k.drained ∨ !s.kernelResident k ∨ k.stages.any (fun g => s.groupBusy k.part (g.group.getD 0)) then none
    else
      match (List.range k.stages.length).find? (fun i => ((k.stages[i]?).map s.inputHeld).getD false) with
      | some i => some (s.endKernel n 0x14 (some i) 0#64)
      | none => some (if k.comp = 0 then s.endKernel n 0 none 0#64 else s.updKernel n (fun x => { x with drained := true }))

/-! ### Moving a cluster (R368, R369) -/

/-- R368: the filled slots and the capacity of a stage's input. -/
def State.fillOf (s : State) (g : Stage) : Nat × Nat :=
  (coresOf g.clusters).foldl (fun (a : Nat × Nat) k =>
    match s.chan k (sIch g.desc) with
    | some c => (a.1 + c.count, a.2 + c.cap)
    | none => a) (0, 0)

/-- R368: stage `i` donates. -/
def State.donates (s : State) (k : Kernel) (i : Nat) : Bool :=
  match k.stages[i]?, k.stages[i + 1]? with
  | some g, some h =>
    let next := s.fillOf h
    decide (sCmin g.desc < g.clusters.length) && (decide (i = 0) || decide ((s.fillOf g).1 = 0)) &&
      decide (3 * next.2 < 4 * next.1)
  | _, _ => false

/-- R368: the receiver, other than the donor: the highest fill above one half, the lowest index of equals. -/
def State.receiver (s : State) (k : Kernel) (donor : Nat) : Option Nat :=
  (List.range k.stages.length).foldl (fun (best : Option Nat) i =>
    match k.stages[i]? with
    | none => best
    | some g =>
      let f := s.fillOf g
      if i = 0 ∨ i = donor ∨ sCmax g.desc ≤ g.clusters.length ∨ 2 * f.1 ≤ f.2 then best
      else
        match best.bind (k.stages[·]?) with
        | some b => if (s.fillOf b).1 * f.2 < f.1 * (s.fillOf b).2 then some i else best
        | none => some i) none

/-- R368: a cluster of a stage that may move: no slot of its cores holds a strand, and their input entries are idle. -/
def State.mayMove (s : State) (g : Stage) (cl : Nat) : Bool :=
  (coresOfCluster cl).all (fun k => (s.core k).slots.isEmpty &&
    (!sIon g.desc ||
      (match s.chan k (sIch g.desc) with
       | some c => decide (c.ends = 0) && c.filled.isEmpty && c.reserved.isEmpty
       | none => true)))

/-- R368: the move that a kernel allows: donor, receiver, cluster. -/
def State.moveOf (s : State) (k : Kernel) : Option (Nat × Nat × Nat) :=
  if k.st ≠ .running ∨ !kRebal k.desc then none
  else
    match (List.range k.stages.length).find? (s.donates k) with
    | none => none
    | some d =>
      match s.receiver k d, k.stages[d]? with
      | some r, some g => ((g.clusters.reverse).find? (s.mayMove g)).map (fun cl => (d, r, cl))
      | _, _ => none

/-- R368: the move of a partition at a boundary: one, of the first kernel that allows one. -/
def State.moveIn (s : State) (part : Nat) : Option (Nat × Nat × Nat × Nat) :=
  s.kernels.findSome? (fun e =>
    if decide (e.2.part = part) && e.2.stages.all (fun g =>
        (((g.group.bind (s.group part)).map (fun x => x.doms.all (fun d => decide (d.st ≠ .parked))))).getD false)
    then (s.moveOf e.2).map (fun m => (e.1, m)) else none)

/-- A group's cores replaced, and its domains with them. -/
def State.regroup (s : State) (part gid : Nat) (cls : List Nat) : State :=
  s.updGroup part gid (fun g => let h := { g with cores := coresOf cls }; { h with doms := s.domainsOf h })

/-- R369: a cluster moved from a stage to another; its image follows. -/
def State.moveCluster (s : State) (n donor recv cl : Nat) : State :=
  match s.kernel n with
  | none => s
  | some k =>
    match k.stages[donor]?, k.stages[recv]? with
    | some g, some h =>
      let gid := h.group.getD 0
      let s1 := (coresOfCluster cl).foldl (fun (st : State) c => st.updCore c (fun x =>
        { x with chans := if sIon g.desc then kdel (sIch g.desc) x.chans else x.chans })) s
      let s2 := (s1.joinStage k.part gid h.desc cl).updCluster cl (fun c =>
        { c with holder := h.group, loading := true })
      let g' := { g with clusters := g.clusters.filter (fun x => decide (x ≠ cl)) }
      let h' := { h with clusters := sadd cl h.clusters }
      let s3 := s2.updKernel n (fun k => { k with stages := (k.stages.set donor g').set recv h', ver := k.ver + 1 })
      ((s3.regroup k.part (g.group.getD 0) g'.clusters).regroup k.part gid h'.clusters).writeTable n
    | _, _ => s

/-- `MOVED_IMAGE_COPY`, R369: the image of a moved cluster's new stage is copied after the partition has left *boundary*. R366
lists no event for a read that is refused now: the kernel goes on, and the cluster stays without its image (R4; DEDUCED,
log 39). -/
def movedImage (cl : Nat) (s : State) : Option State :=
  let c := s.cluster cl
  if !c.loading then none
  else
    match s.groupOfCluster cl with
    | none => none
    | some g =>
      match s.kernel g.kernel with
      | none => none
      | some k =>
        match k.stages[g.stage]? with
        | none => none
        | some st =>
          if g.held ∨ (k.st ≠ .running ∧ k.st ≠ .draining) then none
          else if c.resident = some (k.image g.stage) then some (s.placeImage (k.image g.stage) st.desc [] cl)
          else
            match s.reach k.vf k.pasid k.part false (.kernel g.kernel) (sImg st.desc) (sIsz st.desc) with
            | .locs l =>
              let s1 := l.foldl (fun (u : State) p => u.touch ridgeCluster p.1 p.2 false) s
              some ((s1.clearFails (.kernel g.kernel)).placeImage (k.image g.stage) st.desc (s.bytesAt l) cl)
            | .waits s' => some s'
            | .fail _ _ => none

/-- R366. -/
def execKernelPlacement (k : Nat) (s : State) : Host.Outcome State Fault Refusal := runEvent (kernelPlacement k s) s

/-- R366. -/
def execKernelLoadingComplete (k : Nat) (s : State) : Host.Outcome State Fault Refusal := runEvent (kernelLoading k s) s

/-- R366. -/
def execKernelDrained (k : Nat) (s : State) : Host.Outcome State Fault Refusal := runEvent (kernelDrained k s) s

/-- R369. -/
def execMovedImageCopy (cl : Nat) (s : State) : Host.Outcome State Fault Refusal := runEvent (movedImage cl s) s

end Sys2Proof.Machine
end

