-- ==== Sys2Proof/Machine/Shake.lean ====
section
/-! DEFINITION. SHAKE256 (R454, R456) with an output of 64 bytes. The spec names the function; its definition is taken from
FIPS 202 (PRESUMED, log 70). -/
namespace Sys2Proof.Machine

/-- Lane x + 5y of a state of 25 lanes. -/
def lane (a : List (BitVec 64)) (i : Nat) : BitVec 64 := a.getD i 0#64

/-- The 25 lanes given by a function of their places. -/
def lanes25 (f : Nat → Nat → BitVec 64) : List (BitVec 64) := (List.range 25).map (fun i => f (i % 5) (i / 5))

/-- Step theta: every lane is joined with the parities of two neighbouring columns. -/
def keccakTheta (a : List (BitVec 64)) : List (BitVec 64) :=
  let c := (List.range 5).map (fun x => lane a x ^^^ lane a (x + 5) ^^^ lane a (x + 10) ^^^ lane a (x + 15) ^^^ lane a (x + 20))
  lanes25 (fun x y => lane a (x + 5 * y) ^^^ lane c ((x + 4) % 5) ^^^ (lane c ((x + 1) % 5)).rotateLeft 1)

/-- The rotation of each lane in step rho. -/
def rhoOffsets : List Nat :=
  [0, 1, 62, 28, 27, 36, 44, 6, 55, 20, 3, 10, 43, 25, 39, 41, 45, 15, 21, 8, 18, 2, 61, 56, 14]

/-- Steps rho and pi: lane (x, y) is the rotated lane (x + 3y, x). -/
def keccakRhoPi (a : List (BitVec 64)) : List (BitVec 64) :=
  lanes25 (fun x y => (lane a ((x + 3 * y) % 5 + 5 * x)).rotateLeft (rhoOffsets.getD ((x + 3 * y) % 5 + 5 * x) 0))

/-- Step chi. -/
def keccakChi (b : List (BitVec 64)) : List (BitVec 64) :=
  lanes25 (fun x y => lane b (x + 5 * y) ^^^ (~~~(lane b ((x + 1) % 5 + 5 * y)) &&& lane b ((x + 2) % 5 + 5 * y)))

/-- Step iota: lane 0 takes the constant of the round. -/
def keccakIota (rc : BitVec 64) : List (BitVec 64) → List (BitVec 64)
  | [] => []
  | x :: r => (x ^^^ rc) :: r

/-- The constants of the 24 rounds. -/
def roundConstants : List (BitVec 64) :=
  [0x0000000000000001#64, 0x0000000000008082#64, 0x800000000000808A#64, 0x8000000080008000#64, 0x000000000000808B#64,
    0x0000000080000001#64, 0x8000000080008081#64, 0x8000000000008009#64, 0x000000000000008A#64, 0x0000000000000088#64,
    0x0000000080008009#64, 0x000000008000000A#64, 0x000000008000808B#64, 0x800000000000008B#64, 0x8000000000008089#64,
    0x8000000000008003#64, 0x8000000000008002#64, 0x8000000000000080#64, 0x000000000000800A#64, 0x800000008000000A#64,
    0x8000000080008081#64, 0x8000000000008080#64, 0x0000000080000001#64, 0x8000000080008008#64]

/-- The permutation of a state. -/
def keccak (a : List (BitVec 64)) : List (BitVec 64) :=
  roundConstants.foldl (fun s rc => keccakIota rc (keccakChi (keccakRhoPi (keccakTheta s)))) a

/-- Eight bytes as a lane. -/
def laneOf : List Byte → BitVec 64
  | [] => 0#64
  | b :: r => (b.setWidth 64) ||| (laneOf r <<< 8)

/-- The bytes that one permutation absorbs. -/
def shakeRate : Nat := 136

/-- A block joined to the first lanes of a state. -/
def absorbBlock (a : List (BitVec 64)) (b : List Byte) : List (BitVec 64) :=
  keccak ((List.range 25).map (fun i => lane a i ^^^ laneOf ((b.drop (8 * i)).take 8)))

/-- `n` blocks absorbed. -/
def absorb (a : List (BitVec 64)) : Nat → List Byte → List (BitVec 64)
  | 0, _ => a
  | n + 1, m => absorb (absorbBlock a (m.take shakeRate)) n (m.drop shakeRate)

/-- The message with its domain suffix and padding: whole blocks. -/
def shakePad (m : List Byte) : List Byte :=
  let z := shakeRate - 1 - m.length % shakeRate
  if z = 0 then m ++ [0x9F#8] else m ++ [0x1F#8] ++ List.replicate (z - 1) 0#8 ++ [0x80#8]

/-- R454, R456: SHAKE256 of a byte string, its first 64 bytes. -/
def shake256 (m : List Byte) : List Byte :=
  let p := shakePad m
  ((absorb (List.replicate 25 0#64) (p.length / shakeRate) p).take 8).flatMap (fun x =>
    (List.range 8).map (fun i => x.extractLsb' (8 * i) 8))

end Sys2Proof.Machine
end

