-- ==== Sys2Proof/Machine/Contexts.lean ====
section
/-! DEFINITION. Contexts (R412 to R418, R479), their creation and host grants (R466), the switch at a boundary, and the
security interface of a function (R419, R456). -/
namespace Sys2Proof.Machine

/-! ### Zeroing a partition (R415, R479) -/

/-- R415: a core's registers zeroed; its clock counts and its place in the issue order are not state of a context. -/
def Core.zeroed (c : Core) : Core :=
  { Core.init with cycleBase := c.cycleBase, retired := c.retired, last := c.last, issued := c.issued, frozen := c.frozen,
                   preempting := c.preempting }

/-- R415: a cluster zeroed; what scrubbing steps 5 and 7 would clear stays. -/
def Cluster.zeroed (c : Cluster) : Cluster :=
  { Cluster.init with atc := c.atc, faults := c.faults, parked := c.parked, perm := c.perm }

/-- The regions of a partition. -/
def State.regionsOf (s : State) (part : Nat) : List Nat := ((s.partition part).map (·.regions)).getD []

/-- A location of the scratchpads of regions. -/
def inScratch (regs : List Nat) (a : Nat) : Bool := isSpad a && ((regionOf (spadCore a)).map (fun r => decide (r ∈ regs))).getD false

/-- The entries of a table after every listed record of the given numbers is changed. -/
def mapKeys {α : Type} (p : Nat → Bool) (f : α → α) (l : List (Nat × α)) : List (Nat × α) :=
  l.map (fun e => if p e.1 then (e.1, f e.2) else e)

/-- R415, R479: the scratchpads, anvils, event units, channel entries and core registers of a partition zeroed; what is
still on its way within the partition, of kernels that have ended, goes with its inboxes. -/
def State.zeroPart (s : State) (part : Nat) : State :=
  let regs := s.regionsOf part
  let own (k : Nat) : Bool := ((regionOf k).map (fun r => decide (r ∈ regs))).getD false
  { s with
    flights := s.flights.filter (fun f => !(own f.2.src.core && own f.2.dst)),
    mem := s.mem.filter (fun c => !inScratch regs c.1),
    tags := s.tags.filter (fun g => !inScratch regs (g * 16)),
    cores := mapKeys (fun k => ((regionOf k).map (fun r => decide (r ∈ regs))).getD false) Core.zeroed s.cores,
    clusters := mapKeys (fun cl => ((regionOfCluster cl).map (fun r => decide (r ∈ regs))).getD false) Cluster.zeroed s.clusters }

/-! ### Completed supersteps (R308, R311) -/

/-- R308, R311: a domain's superstep completes: its count rises by 1, and its waiting strands continue with it. -/
def State.completeDom (s : State) (g : Group) (level value : Nat) : State :=
  match g.dom level value with
  | none => s
  | some d =>
    let n := d.counter + 1
    let s1 := (s.domainCores g level value).foldl (fun (st : State) k =>
      st.updCore k (·.releaseAll (.sync level) n)) s
    s1.updGroup g.part g.gid (·.updDom level value (fun d => { d with counter := n, st := .computing }))

/-- Some strand of a domain waits in its `sync`. -/
def State.domWaits (s : State) (g : Group) (level value : Nat) : Bool :=
  (s.domainCores g level value).any (fun k => (s.core k).slots.any (fun e => e.2.waitsFor (.sync level)))

/-- R310, R311: a group leaves *boundary*, or comes back from *parked*. -/
def State.leaveBoundary (s : State) (g : Group) : State :=
  g.doms.foldl (fun (st : State) d =>
    if d.st = .boundary ∨ d.st = .parked then st.completeDom g d.level d.value else st) s

/-! ### Residence and switching (R413 to R416, R479) -/

/-- The context's groups in its partition. -/
def State.groupsOf (s : State) (part vf pasid : Nat) : List Group :=
  (s.groups.filter (fun e => decide (e.2.part = part) &&
    decide ((s.kernel e.2.kernel).map (fun k => (k.vf, k.pasid)) = some (vf, pasid)))).map (·.2)

/-- R413: a context is the resident one of its partition. -/
def State.setResident (s : State) (part vf pasid : Nat) : State :=
  (s.updContext vf pasid (fun c => { c with st := .resident })).updPartition part (fun p =>
    { p with resident := some (vf, pasid), lastResident := some (vf, pasid) })

/-- R413, R479: a context becomes resident in a partition that has no resident context, at once. -/
def State.becomeResident (s : State) (part vf pasid : Nat) : State :=
  let kept := ((s.partition part).bind (·.lastResident)) = some (vf, pasid)
  (if kept then s else s.zeroPart part).setResident part vf pasid

/-- R322: an event on its way from a core of a partition to another. -/
def State.eventWithin (s : State) (part : Nat) (f : Nat × Flight) : Bool :=
  f.2.kind.isEvent && decide (s.partOfCore f.2.src.core = some part) && decide (s.partOfCore f.2.dst = some part)

/-- R416: the save set of a partition's resident context. -/
def State.saveSet (s : State) (part : Nat) : SaveSet :=
  let regs := s.regionsOf part
  { cores := s.cores.filter (fun e => ((regionOf e.1).map (fun r => decide (r ∈ regs))).getD false),
    clusters := s.clusters.filter (fun e => ((regionOfCluster e.1).map (fun r => decide (r ∈ regs))).getD false),
    mem := s.mem.filter (fun c => inScratch regs c.1),
    tags := s.tags.filter (fun g => inScratch regs (g * 16)),
    flights := s.flights.filter (s.eventWithin part) }

/-- R202, R415, R416: a core loaded from a save set. -/
def Core.restored (old : Core) (now : Core) : Core :=
  { old with cycleBase := now.cycleBase, retired := now.retired, last := now.last, issued := now.issued, frozen := now.frozen,
             preempting := now.preempting }

/-- R198, R199, R202: a saved lease: *free*, or *requested* where requests were saved; slot 7 counts as the previous
holder. -/
def Lease.restored (l : Lease) : Lease :=
  { l with st := if l.reqs = 0#8 then .free else .requested, holder := none, last := 7 }

/-- R202, R415, R416: a cluster loaded from a save set: its accumulators are zero, its status ports empty. -/
def Cluster.restored (old : Cluster) (now : Cluster) : Cluster :=
  { old with lease := old.lease.restored, acc0 := [], acc1 := [], cmds := [], copies := [], owned := [], status := [],
             atc := now.atc, faults := now.faults, parked := now.parked, perm := now.perm }

/-- R415 step 4: a save set loaded into a zeroed partition. -/
def State.loadSave (s : State) (x : SaveSet) : State :=
  { s with
    cores := x.cores.foldl (fun (m : List (Nat × Core)) e => kset e.1 (e.2.restored (s.core e.1)) m) s.cores,
    clusters := x.clusters.foldl (fun (m : List (Nat × Cluster)) e => kset e.1 (e.2.restored (s.cluster e.1)) m) s.clusters,
    mem := x.mem.foldl (fun (m : List Host.Cell) (c : Nat × Byte) => kput 0#8 c.1 c.2 m) s.mem,
    tags := x.tags.foldl (fun m g => sadd g m) s.tags,
    flights := x.flights.foldl (fun (m : List (Nat × Flight)) (f : Nat × Flight) => kset f.1 f.2 m) s.flights }

/-- R202, R415: the clusters of a partition after a switch: their buffers were zeroed by it. -/
def State.markZeroed (s : State) (part : Nat) : State :=
  ((s.regionsOf part).flatMap clustersOfRegion).foldl (fun (st : State) cl =>
    st.updCluster cl (fun c => { c with lease := { c.lease with zs := true } })) s

/-- R311, R415: the outgoing half of a switch. -/
def State.switchOut (s : State) (part : Nat) : State :=
  match (s.partition part).bind (·.resident) with
  | none => s
  | some (v, p) =>
    let save := s.saveSet part
    let s1 := (s.groupsOf part v p).foldl (fun (st : State) g => st.updGroup part g.gid (fun g =>
      { g with doms := g.doms.map (fun d => if d.st = .boundary then { d with st := .parked } else d) })) s
    { s1 with flights := s1.flights.filter (fun f => !s.eventWithin part f) }.updContext v p (fun c =>
      { c with st := .switchedOut, save := some save })

/-- R389, R414: the quanta of a context's queues count anew from its switch. -/
def State.restartTurns (s : State) (vf pasid : Nat) : State :=
  { s with queues := s.queues.map (fun (e : Nat × Queue) =>
      (e.1, if e.1 / 256 = vf ∧ e.2.pasid = pasid then { e.2 with turn := s.now, quantumOut := false } else e.2)) }

/-- R415: a switch in favour of a context. -/
def State.switchTo (s : State) (part vf pasid : Nat) : State :=
  let s1 := (s.switchOut part).zeroPart part
  let save := (s1.context vf pasid).bind (·.save)
  let s2 := match save with
    | some x => (s1.loadSave x).updContext vf pasid (fun c => { c with save := none })
    | none => s1
  let s3 := (s2.groupsOf part vf pasid).foldl (fun (st : State) g => st.leaveBoundary g) (s2.markZeroed part)
  (s3.setResident part vf pasid).restartTurns vf pasid |>.updPartition part (fun p => { p with pending := none, heldSince := none })

/-! ### Creating and destroying (R412, R413, R419, R466) -/

/-- R412: a part of a partition's window in which no other context of it has a part. -/
def State.apart (s : State) (part vf pasid lo len : Nat) : Bool :=
  s.contexts.all (fun e => decide (e.2.part ≠ part) || decide (e.1 = ctxKey vf pasid) || decide (e.2.st = .destroyed) ||
    decide (capTop e.2.global ≤ (lo : Int)) || decide (((lo + len : Nat) : Int) ≤ capBase e.2.global))

/-- `CONTEXT_CREATE`, R353, R412, R417: a context of a function and its partition, with its global capability over `len`
bytes from window offset `base`, its save area, and the gutter size and way masks that firmware has chosen. -/
def contextCreate (vf pasid part base len : Nat) (s : State) : Option State :=
  let live := (s.context vf pasid).map (fun c => decide (c.st ≠ .destroyed))
  let count := (s.contexts.filter (fun e => decide (e.2.vf = vf) && decide (e.2.st ≠ .destroyed))).length
  let own := (s.vf vf).part
  let lo := 0x9000000000000000 + base
  let cap := narrow (mkCap 0 0 0 0 0x7B) lo (lo + len)
  if vf < 64 ∧ pasid < 2 ^ 20 ∧ live ≠ some true ∧ count < 256 ∧ !s.vfLocked vf ∧ (own = none ∨ own = some part) ∧
      base + len ≤ s.windowOf (some part) ∧ 0 < len ∧ cap.2 ∧ s.apart part vf pasid lo len then
    some { (s.updVf vf (fun v => { v with part := some part })) with
      contexts := kset (ctxKey vf pasid) ⟨vf, pasid, part, .created, cap.1, none, [], Config.saveArea vf pasid, s.gutterSize,
        s.contextWays⟩ s.contexts }
  else none

/-- `CONTEXT_ENABLE`, R413. -/
def contextEnable (vf pasid : Nat) (s : State) : Option State :=
  if (s.context vf pasid).map (·.st) = some .created then some (s.updContext vf pasid (fun c => { c with st := .bound })) else none

/-- R413: a queue of the context is mapped, or will be again. -/
def State.contextQueued (s : State) (vf pasid : Nat) : Bool :=
  s.queues.any (fun e => decide (e.1 / 256 = vf) && decide (e.2.pasid = pasid) &&
    (e.2.slot.isSome || decide (e.2.st = .preempted)))

/-- R365, R479: a context whose number may be used again: no cluster is resident for it, no partition remembers it. -/
def State.forgetContext (s : State) (vf pasid : Nat) : State :=
  { s with
    clusters := s.clusters.map (fun c => (c.1, { c.2 with
      resident := if c.2.resident.map (·.2.2) = some (ctxKey vf pasid) then none else c.2.resident })),
    partitions := s.partitions.map (fun p => (p.1, { p.2 with
      lastResident := if p.2.lastResident = some (vf, pasid) then none else p.2.lastResident })) }

/-- `CONTEXT_DESTROY`, R413, R466: its save area and PASID are released; its grants and its stopped kernels are gone; an
ended kernel whose record is still to be written writes it (R381). -/
def contextDestroy (vf pasid : Nat) (s : State) : Option State :=
  match s.context vf pasid with
  | none => none
  | some c =>
    if (c.st = .bound ∨ c.st = .switchedOut) ∧ !s.contextQueued vf pasid ∧ !s.vfLocked vf then
      let mine (k : Kernel) : Bool := decide (k.vf = vf) && decide (k.pasid = pasid)
      let s1 := c.grants.foldl (fun (st : State) o => st.ridgePost (privBase c.part + o) (natBytes 16 0)) s
      let s2 := { s1 with
        groups := s1.groups.filter (fun g => !((s.kernel g.2.kernel).map mine).getD false),
        kernels := s1.kernels.filter (fun (k : Nat × Kernel) => !mine k.2 || k.2.st.ended) }
      some ((s2.forgetContext vf pasid).updContext vf pasid (fun c => { c with st := .destroyed, save := none, grants := [] }))
    else none

/-- `FENCE_LIFT`, R413: a fenced context is *bound* again, unless the device side is fenced (R442). -/
def fenceLift (vf pasid : Nat) (s : State) : Option State :=
  if (s.context vf pasid).map (·.st) = some .fenced ∧ !s.flash.dfen then
    some (s.updContext vf pasid (fun c => { c with st := .bound }))
  else none

/-- `HOST_GRANT_WRITE`, R466: a host grant over a host-shared range at an offset of the context's window. Whether the
function's translation covers the range is the host's to say (a free value, log 59); a range that it does not cover is
refused. -/
def hostGrant (vf pasid base len perms off : Nat) (s : State) : Option State :=
  match s.context vf pasid with
  | none => none
  | some c =>
    let cap := narrow (mkCap 0 0 0 0 (perms % 2 ^ 8)) base (base + len)
    let lo := 0x9000000000000000 + off
    if c.st ≠ .destroyed ∧ !s.vfLocked vf ∧ perms &&& 0x43 = perms ∧ cap.2 ∧ base + len ≤ 2 ^ 57 ∧ off % 16 = 0 ∧
        capBase c.global ≤ lo ∧ (lo : Int) + 16 ≤ capTop c.global then
      let loc := privBase c.part + off
      let covered := Config.grantCovered s.fresh
      if s.linesHeld ridgeCluster loc 16 true then none
      else
      let s := { s with fresh := s.fresh + 1 }
      if !covered then some s
      else some (((s.touch ridgeCluster loc 16 true).writeTagged loc cap.1).updContext vf pasid (fun c =>
        { c with grants := sadd off c.grants }))
    else none

/-! ### TDISP (R419, R456) -/

/-- R456: what is measured of a partition: its number, regions, window and colour masks, eight bytes each (DESIGN CHOICE,
log 74). -/
def State.partitionFields (s : State) (p : Nat) : List Nat :=
  match s.partition p with
  | some x => [p, (x.regions.map (2 ^ ·)).sum, privBase p, x.window, x.ways] ++
      (s.contexts.filter (fun c => decide (c.2.part = p) && decide (c.2.st ≠ .destroyed))).flatMap (fun c =>
        [c.1, c.2.ways.1, c.2.ways.2])
  | none => [p]

/-- R456: what the measurement of an index is the digest of; none where there is none. -/
def State.measured (s : State) (idx : Nat) : Option (List Byte) :=
  if idx = 1 then some Config.maskRom
  else if idx = 2 then some (Config.fuseKeyHash ++ natBytes 8 s.rollback ++ natBytes 8 Config.linkIdentity)
  else if idx = 3 then some (s.slotImage.take (29872 + bytesNat ((s.slotImage.drop 12).take 4)))
  else if 0x10 ≤ idx ∧ idx < 0x10 + 20 then some ((s.partitionFields (idx - 0x10)).flatMap (natBytes 8))
  else none

/-- R456: a measurement block: a 64-byte SHAKE256 digest. -/
def State.measurement (s : State) (idx : Nat) : Option (List Byte) := (s.measured idx).map shake256

/-- The numbers of bytes. -/
def byteNumbers (l : List Byte) : List Nat := l.map (·.toNat)

/-- R456: every measurement index. -/
def measurementIndexes : List Nat := [1, 2, 3] ++ upto 0x10 20

/-- The codes of the interface's messages in `OutMsg.tdisp`, and the refusal of one. -/
def tdispLock : Nat := 1
def tdispStart : Nat := 2
def tdispStop : Nat := 3
def tdispState : Nat := 4
def tdispReport : Nat := 5
def tdispRefused : Nat := 6

/-- R419: the codes of the interface's states. -/
def TdispState.code : TdispState → Nat
  | .unlocked => 0
  | .locked => 1
  | .run => 2
  | .error => 3

/-- R375, R419: the bytes of a function's record table. -/
def State.tableCells (s : State) (vf : Nat) : List Host.Cell :=
  match (s.vf vf).qtab with
  | some a => s.mem.filter (fun c => decide (a ≤ c.1) && decide (c.1 < a + 32768))
  | none => []

/-- R419: a message that moves the interface from one state to another; in another state it is refused. -/
def tdispMove (vf code : Nat) (ok : TdispState → Bool) (dst : TdispState) (s : State) : Option State :=
  if 64 ≤ vf then none
  else if ok (s.vf vf).tdisp then some ((s.updVf vf (fun v =>
    { v with tdisp := dst, table := if dst = .unlocked then [] else if v.tdisp = .unlocked then s.tableCells vf else v.table })).send
      (.tdisp code vf []))
  else some (s.send (.tdisp tdispRefused vf [code]))

/-- R419: the interface report: the partition's regions, the contexts' PASIDs, the measurements. -/
def State.report (s : State) (vf : Nat) : List Nat :=
  (((s.vf vf).part.map s.regionsOf).getD []) ++
    (s.contexts.filter (fun e => decide (e.2.vf = vf) && decide (e.2.st ≠ .destroyed))).map (·.2.pasid) ++
    byteNumbers (measurementIndexes.filterMap s.measurement).flatten

/-- R412. -/
def execContextCreate (vf pasid part base len : Nat) (s : State) : Host.Outcome State Fault Refusal :=
  runEvent (s.byFirmware 0 (contextCreate vf pasid part base len s)) s

/-- R413. -/
def execContextEnable (vf pasid : Nat) (s : State) : Host.Outcome State Fault Refusal :=
  runEvent (s.byFirmware 0 (contextEnable vf pasid s)) s

/-- R413. -/
def execContextDestroy (vf pasid : Nat) (s : State) : Host.Outcome State Fault Refusal :=
  runEvent (s.byFirmware 0 (contextDestroy vf pasid s)) s

/-- R413. -/
def execFenceLift (vf pasid : Nat) (s : State) : Host.Outcome State Fault Refusal := runEvent (s.byFirmware 0 (fenceLift vf pasid s)) s

/-- R466. -/
def execHostGrantWrite (vf pasid base len perms off : Nat) (s : State) : Host.Outcome State Fault Refusal :=
  runEvent (s.byFirmware 0 (hostGrant vf pasid base len perms off s)) s

/-- R419. -/
def execLockInterfaceRequest (vf : Nat) (s : State) : Host.Outcome State Fault Refusal :=
  runEvent (s.byFirmware 0 (tdispMove vf tdispLock (fun t => decide (t = .unlocked)) .locked s)) s

/-- R419. -/
def execStartInterfaceRequest (vf : Nat) (s : State) : Host.Outcome State Fault Refusal :=
  runEvent (s.byFirmware 0 (tdispMove vf tdispStart (fun t => decide (t = .locked)) .run s)) s

/-- R419. -/
def execStopInterfaceRequest (vf : Nat) (s : State) : Host.Outcome State Fault Refusal :=
  runEvent (s.byFirmware 0 (tdispMove vf tdispStop (fun _ => true) .unlocked s)) s

/-- R419. -/
def execGetDeviceInterfaceState (vf : Nat) (s : State) : Host.Outcome State Fault Refusal :=
  runEvent (s.byFirmware 0 (some (s.send (.tdisp tdispState vf [(s.vf vf).tdisp.code])))) s

/-- R419. -/
def execGetDeviceInterfaceReport (vf : Nat) (s : State) : Host.Outcome State Fault Refusal :=
  runEvent (s.byFirmware 0 (some (s.send (.tdisp tdispReport vf (s.report vf))))) s

end Sys2Proof.Machine
end

