-- ==== Sys2Proof/Machine/Convert.lean ====
section
/-! DEFINITION. Conversions (R118, R119). -/
namespace Sys2Proof.Machine

/-- A conversion of latency 2 (R118): the source's low `bits` bits; `rounds` where the form is a rounding. -/
def cvtOp (rounds : Bool) (bits : Nat) (d a : BitVec 6) (f : RMode → Nat → Nat → Nat × FlagSet) : M Flow := do
  let x ← operand1 a [d]
  let t ← getStrand
  let draw ← if rounds then takeDraw t.mode else pure 0
  let (r, fl) := f t.mode draw (x.bits.toNat % 2 ^ bits)
  resultFlags d 2 fl
  result d 2 (TV.ofNat r)
  return .next

/-- A 64-bit pattern as a signed integer. -/
def asSigned (n : Nat) : Int := (BitVec.ofNat 64 n).toInt

/-- An integer result as its 64-bit pattern. -/
def asBits (r : Int × FlagSet) : Nat × FlagSet := ((BitVec.ofInt 64 r.1).toNat, r.2)

/-! ### R118, R119: op 0x22 -/

/-- `fcvt.f32.i64`, R118. -/
def execFcvtF32I64 (d a : BitVec 6) (sc : BitVec 2) (s : State) : Host.Outcome State Fault Refusal :=
  runInstr sc.toNat (cvtOp true 64 d a (fun rm dr x => roundVal .f32 rm false dr (intVal (asSigned x)))) s

/-- `fcvt.f32.n64`, R118. -/
def execFcvtF32N64 (d a : BitVec 6) (sc : BitVec 2) (s : State) : Host.Outcome State Fault Refusal :=
  runInstr sc.toNat (cvtOp true 64 d a (fun rm dr x => roundVal .f32 rm false dr (intVal (x : Int)))) s

/-- `fcvt.i64.f32`, R118, R119. -/
def execFcvtI64F32 (d a : BitVec 6) (sc : BitVec 2) (s : State) : Host.Outcome State Fault Refusal :=
  runInstr sc.toNat (cvtOp true 32 d a (fun rm dr x => asBits (cvtInt (-(2 ^ 63)) (2 ^ 63 - 1) rm dr (fv x)))) s

/-- `fcvt.n64.f32`, R118, R119. -/
def execFcvtN64F32 (d a : BitVec 6) (sc : BitVec 2) (s : State) : Host.Outcome State Fault Refusal :=
  runInstr sc.toNat (cvtOp true 32 d a (fun rm dr x => asBits (cvtInt 0 (2 ^ 64 - 1) rm dr (fv x)))) s

/-- `fcvt.f32.bf16`, R118. -/
def execFcvtF32Bf16 (d a : BitVec 6) (sc : BitVec 2) (s : State) : Host.Outcome State Fault Refusal :=
  runInstr sc.toNat (cvtOp false 16 d a (fun _ _ x => cvtVal .f32 .rne false 0 (Fmt.bf16.decode x))) s

/-- `fcvt.bf16.f32`, R118. -/
def execFcvtBf16F32 (d a : BitVec 6) (sc : BitVec 2) (s : State) : Host.Outcome State Fault Refusal :=
  runInstr sc.toNat (cvtOp true 32 d a (fun rm dr x => cvtVal .bf16 rm false dr (fv x))) s

/-- `fcvt.f32.f16`, R118. -/
def execFcvtF32F16 (d a : BitVec 6) (sc : BitVec 2) (s : State) : Host.Outcome State Fault Refusal :=
  runInstr sc.toNat (cvtOp false 16 d a (fun _ _ x => cvtVal .f32 .rne false 0 (Fmt.f16.decode x))) s

/-- `fcvt.f16.f32`, R118. -/
def execFcvtF16F32 (d a : BitVec 6) (sc : BitVec 2) (s : State) : Host.Outcome State Fault Refusal :=
  runInstr sc.toNat (cvtOp true 32 d a (fun rm dr x => cvtVal .f16 rm false dr (fv x))) s

/-- `fcvt.f32.e8`, R118. -/
def execFcvtF32E8 (d a : BitVec 6) (sc : BitVec 2) (s : State) : Host.Outcome State Fault Refusal :=
  runInstr sc.toNat (cvtOp false 8 d a (fun _ _ x => cvtVal .f32 .rne false 0 (e8Val x))) s

/-- `fcvt.e8.f32`, R118. -/
def execFcvtE8F32 (d a : BitVec 6) (sc : BitVec 2) (s : State) : Host.Outcome State Fault Refusal :=
  runInstr sc.toNat (cvtOp true 32 d a (fun rm dr x => toE8 rm dr (fv x))) s

end Sys2Proof.Machine
end

