-- ==== Sys2Proof/Machine/Fetch.lean ====
section
/-! DEFINITION. Fetching an instruction (R57, R64 step 1, R148, R149), the advanced words and the permitted instructions
of a `rep` body (R135, R136) and of a `vloop` body (R188), and the two outcomes that are no instruction. -/
namespace Sys2Proof.Machine

/-- What a fetch gives. -/
inductive Fetched where
  /-- a fetch check fails: cause and TRAPVAL -/
  | fail (cause : Nat) (val : Word)
  /-- the word may not be executed here: illegal encoding, with the word for TRAPVAL -/
  | illegal (w : BitVec 32)
  | word (w : BitVec 32)
  deriving DecidableEq, Repr

/-- R64, R148: the first failed fetch check of a strand on core `k`: tag, execute permission and bounds of PCC, the
space, and the boundary that fetches follow. Between a write of XOBOUND and the `ifence` a fetch may follow either boundary
(R149): it follows the old one. Bits 48 to 19 of the address are ignored as bits 59 to 49 are; R148 does not speak of them
(both DESIGN CHOICE, log 64). -/
def State.fetchFail (s : State) (k : Nat) (t : Strand) : Option (Nat × Word) :=
  let x := t.pc.toNat
  if !t.pcc.tag then some (0x03, t.pc)
  else if !capHas t.pcc permExec then some (0x05, t.pc)
  else if decide ((x : Int) < capBase t.pcc) || decide (capTop t.pcc < (x : Int) + 4) then some (0x04, t.pc)
  else if x / 2 ^ 60 ≠ 8 then some (0x04, t.pc)
  else if boundOffset (s.core k).fetchBound ≤ x % 2 ^ 19 then some (0x08, t.pc)
  else none

/-- R148: the word at an address in the core's own scratchpad. -/
def State.fetchWordAt (s : State) (k x : Nat) : BitVec 32 := BitVec.ofNat 32 (s.read (spadBase k + x % 2 ^ 19) 4)

/-- R58, R135: the 6-bit register fields of a word's format that a `rep` mask can select: mask bit and low bit. -/
def repFields (op : Nat) : List (Nat × Nat) :=
  if op = 0x0F ∨ op = 0x23 ∨ op = 0x33 then [(0, 7), (1, 13), (2, 19), (3, 25)]
  else if op = 0x0D ∨ op = 0x0E then [(0, 7)]
  else if 0x1B ≤ op ∧ op ≤ 0x1F then [(1, 13), (2, 19)]
  else if (0x03 ≤ op ∧ op ≤ 0x0C) ∨ op = 0x11 ∨ op = 0x12 ∨ (0x13 ≤ op ∧ op ≤ 0x1A) then [(0, 7), (1, 13)]
  else if op = 0x60 then [(3, 19)]
  else if 0x41 ≤ op ∧ op ≠ 0x47 ∧ op ≠ 0x50 then [(3, 20)]
  else [(0, 7), (1, 13), (2, 19)]

/-- R136: the opcodes that a `rep` body may hold. -/
def repBodyOp (op : Nat) : Bool :=
  (decide (0x01 ≤ op) && decide (op ≤ 0x23)) || decide (op = 0x33) || (decide (0x35 ≤ op) && decide (op ≤ 0x38)) ||
  decide (op = 0x3A) || decide (op = 0x3B) || (decide (0x40 ≤ op) && decide (op ≤ 0x46)) ||
  (decide (0x48 ≤ op) && decide (op ≤ 0x4F)) || (decide (0x51 ≤ op) && decide (op ≤ 0x58)) ||
  decide (op = 0x60) || decide (op = 0x61)

/-- A 6-bit field of a word. -/
def regField (w lo : Nat) : Nat := w / 2 ^ lo % 64

/-- R135: one field advanced by `n` where it holds 1 to 55, modulo 64; and whether it passed 55. -/
def advanceField (w lo n : Nat) : Nat × Bool :=
  let v := regField w lo
  if 1 ≤ v ∧ v ≤ 55 then (w - v * 2 ^ lo + (v + n) % 64 * 2 ^ lo, decide (55 < v + n)) else (w, false)

/-- R135: the word that pass `p` of a `rep` issues, and whether some field passed 55. -/
def advanceWord (w : BitVec 32) (mask n : Nat) : BitVec 32 × Bool :=
  let r := ((repFields (w.toNat % 128)).filter (fun f => decide (mask / 2 ^ f.1 % 2 = 1))).foldl
    (fun (acc : Nat × Bool) f => let x := advanceField acc.1 f.2 n; (x.1, acc.2 || x.2)) (w.toNat, false)
  (BitVec.ofNat 32 r.1, r.2)

/-- R136: a word of a `rep` body names a queue register. -/
def namesQ (w : BitVec 32) : Bool :=
  (repFields (w.toNat % 128)).any (fun f => decide (56 ≤ regField w.toNat f.2))

/-- R188: the word may stand in a `vloop` body: a vector instruction, a reduction only with `g` = 0. -/
def loopBodyOk (w : BitVec 32) : Bool :=
  let op := w.toNat % 128
  ((decide (0x41 ≤ op) && decide (op ≤ 0x46)) || (decide (0x48 ≤ op) && decide (op ≤ 0x4F))) &&
    (decide (op ≠ 0x44) || decide (regField w.toNat 20 = 0))

/-- The next word of the strand in slot `sl` of core `k`. -/
def State.fetch (s : State) (k : Nat) (t : Strand) : Fetched :=
  match s.fetchFail k t with
  | some f => .fail f.1 f.2
  | none =>
    let w := s.fetchWordAt k t.pc.toNat
    match t.rep with
    | some r =>
      if !repBodyOp (w.toNat % 128) || namesQ w then .illegal w
      else
        let (w', past) := advanceWord w r.mask (r.pass * r.stride)
        if past then .illegal w'
        else if t.loop.isSome && !loopBodyOk w' then .illegal w' else .word w'
    | none => if t.loop.isSome && !loopBodyOk w then .illegal w else .word w

/-- R88, R64 step 2: a word that names no instruction traps with illegal encoding; TRAPVAL holds the word. -/
def execIllegalEncoding (word : BitVec 32) (s : State) : Host.Outcome State Fault Refusal :=
  runInstr 0 (trap 0x01 (word.setWidth 64)) s

/-- R64 step 1, R132, R148: a fetch whose check fails traps with that check's cause; TRAPPC and TRAPVAL hold the fetched
address. Nothing happens where the strand's fetch does not fail so. -/
def execFetchCheckFailure (cause val : Nat) (s : State) : Host.Outcome State Fault Refusal :=
  match s.cur with
  | none => .fault .noStrand
  | some t =>
    if s.fetchFail s.turn.1 t = some (cause, BitVec.ofNat 64 val) then
      .next (takeTrap cause (BitVec.ofNat 64 val) t.pc.toNat t.pc.toNat s)
    else .next s

end Sys2Proof.Machine
end

