-- ==== Sys2Proof/Machine/Superstep.lean ====
section
/-! DEFINITION. Supersteps (R307 to R311) and what is done at a boundary: switches and moves (R310, R368, R414). -/
namespace Sys2Proof.Machine

/-! ### Arrival and completion (R307, R308) -/

/-- R307: a core has arrived at a level: each of its strands waits in `sync` at exactly that level, and no idle slot of it
has a pointer to take. -/
def State.arrived (s : State) (g : Group) (k level : Nat) : Bool :=
  let c := s.core k
  c.slots.all (fun e => e.2.waitsFor (.sync level)) && !(decide (c.slots.length < 4) && !g.pool.isEmpty)

/-- R308: something of a group is in flight: accesses, messages and pushes still to be performed, copies and tile
commands. -/
def State.inFlightOf (s : State) (g : Group) : Bool :=
  let mine (src : Sender) : Bool := decide (src.gid = g.gid) && decide (s.partOfCore src.core = some g.part)
  s.groupBusy g.part g.gid ||
    s.cores.any (fun c => c.2.inbox.any (fun m => mine m.src) || c.2.gutter.any (fun x => match x with
      | .part _ src _ _ _ _ => mine src
      | .whole _ src _ _ => mine src
      | .message m => mine m.src
      | .status _ => false)) ||
    g.cores.any (fun k => (s.core k).slots.any (fun e => e.2.pendPush.isSome || !e.2.busy.isEmpty))

/-- R308: the conditions on which the `sync` of a domain completes. -/
def State.syncReady (s : State) (g : Group) (d : Domain) : Bool :=
  let cores := s.domainCores g d.level d.value
  decide (d.st = .computing) && cores.all (fun k => s.arrived g k d.level && (s.core k).phase.isNone) &&
    (decide (d.level < 2) || !s.inFlightOf g)

/-- R310: the scheduler has an action pending for a partition: a switch, or a move that is due. -/
def State.actionPending (s : State) (part : Nat) : Bool :=
  ((s.partition part).bind (·.pending)).isSome || (s.moveIn part).isSome

/-- R304, R308: the group whose domain of a level and value completes its `sync`; at level 3 of a joined partition several
groups have one value. -/
def State.groupToSync (s : State) (part level value : Nat) : Option Group :=
  s.groups.findSome? (fun e =>
    match e.2.dom level value with
    | some d => if e.2.part = part ∧ !e.2.parked ∧ s.syncReady e.2 d ∧ s.domWaits e.2 level value then some e.2 else none
    | none => none)

/-- `SYNC_COMPLETE`, R308 to R311. At level 2 and 3 the group passes through *boundary*, and is held there while an action
is pending. -/
def syncComplete (part level value : Nat) (s : State) : Option State :=
  match s.groupToSync part level value with
  | none => none
  | some g =>
    if decide (2 ≤ level) && s.actionPending part then
      some ((s.updGroup part g.gid (·.updDom level value (fun d => { d with st := .boundary }))).updPartition part (fun p =>
        { p with heldSince := match p.heldSince with | some t => some t | none => some s.now }))
    else some (s.completeDom g level value)

/-! ### The boundary (R310, R414) -/

/-- R310: the group is in *boundary*. -/
def Group.atBoundary (g : Group) : Bool := g.doms.any (fun d => decide (d.st = .boundary))

/-- The groups of a partition whose context is on its cores. -/
def State.liveGroups (s : State) (part : Nat) : List Group :=
  (s.groups.filter (fun e => decide (e.2.part = part) && !e.2.parked)).map (·.2)

/-- R310: the held groups of a partition leave *boundary*. -/
def State.releaseHeld (s : State) (part : Nat) : State :=
  ((s.liveGroups part).foldl (fun (st : State) g => st.leaveBoundary g) s).updPartition part (fun p => { p with heldSince := none })

/-- R415: nothing of the partition's engines is under way, and none of its cores is pre-empted (R418). -/
def State.quiet (s : State) (part : Nat) : Bool :=
  (s.regionsOf part).all (fun r => decide ((s.region r).st = .assigned) &&
    (clustersOfRegion r).all (fun cl => (s.cluster cl).copies.isEmpty && (s.cluster cl).cmds.isEmpty) &&
    (coresOfRegion r).all (fun k => !(s.core k).frozen))

/-- R413, R414: the switch still serves a context that can become resident. -/
def State.switchable (s : State) (part vf pasid : Nat) : Bool :=
  match s.context vf pasid with
  | some c => decide (c.part = part) && (decide (c.st = .bound) || decide (c.st = .switchedOut))
  | none => false

/-- `BOUNDARY_ACTION`, R310, R368, R369, R414, R415: a switch that serves no context any more is given up; with no action
pending the held groups leave *boundary* at once; with every group of the partition in *boundary*, the pending switch, else
one move, and the partition leaves *boundary*. -/
def boundaryAction (part : Nat) (s : State) : Option State :=
  match s.partition part with
  | none => none
  | some p =>
    let all := (s.liveGroups part).all Group.atBoundary
    match p.pending, s.moveIn part with
    | some (.switch v q), _ =>
      if !s.switchable part v q then some (s.updPartition part (fun p => { p with pending := none }))
      else if all && s.quiet part then some (s.switchTo part v q)
      else none
    | none, some (n, d, r, cl) =>
      if all && p.heldSince.isSome then some ((s.moveCluster n d r cl).releaseHeld part) else none
    | none, none => if p.heldSince.isSome then some (s.releaseHeld part) else none

/-- `BOUNDARY_HOLD_EXPIRY`, R310: the hold limit has passed: the held groups go on without the action. -/
def holdExpiry (part : Nat) (s : State) : Option State :=
  match (s.partition part).bind (·.heldSince) with
  | some t => if t + s.holdLimit ≤ s.now then some (s.releaseHeld part) else none
  | none => none

/-- R308. -/
def execSyncComplete (part level dom : Nat) (s : State) : Host.Outcome State Fault Refusal := runEvent (syncComplete part level dom s) s

/-- R310. -/
def execBoundaryAction (part : Nat) (s : State) : Host.Outcome State Fault Refusal := runEvent (boundaryAction part s) s

/-- R310. -/
def execBoundaryHoldExpiry (part : Nat) (s : State) : Host.Outcome State Fault Refusal := runEvent (holdExpiry part s) s

end Sys2Proof.Machine
end

