-- ==== Sys2Proof/Machine/Packets.lean ====
section
/-! DEFINITION. Queues at work (R376 to R393): notifies, packets, token links, launch completions, slots, resets of a
partition. -/
namespace Sys2Proof.Machine

/-! ### Packets (R379, R380) -/

/-- R379: the fields of a packet are valid for its type. -/
def packetValid (w : BitVec 512) : Bool :=
  let f (n : Nat) : Nat := descWord w n
  let zero (a : Nat) : Bool := (upto a (8 - a)).all (fun i => decide (f i = 0))
  decide (f 0 / 2 ^ 10 = 0) && (decide (f 0 / 2 ^ 9 % 2 = 0) || decide (f 0 % 256 = 2)) &&
    match f 0 % 256 with
    | 1 => zero 1
    | 2 => decide (f 1 % 64 = 0) && decide (f 3 / 2 ^ 32 = 0) && decide (f 4 % 16 = 0) && zero 5
    | 3 => decide (1 ≤ f 3) && decide (f 3 ≤ 2 ^ 32) && zero 4
    | 4 => decide (f 1 % 8 = 0) && decide (f 3 ≤ 2) && zero 4
    | 5 => decide (f 1 % 8 = 0) && decide (f 3 / 2 ^ 11 % 2 ^ 4 = 0) && decide (f 3 / 2 ^ 16 = 0) && zero 4
    | 6 => decide (f 1 < 256) && decide (1 ≤ f 2) && decide (f 2 < 2 ^ 31) && zero 3
    | 7 => decide (f 1 < 256) && decide (1 ≤ f 2) && decide (f 2 < 2 ^ 31) && zero 3
    | 8 => decide (f 1 % 64 = 0) && decide (1 ≤ f 2) && decide (f 2 ≤ 2 ^ 20) && zero 3
    | 9 => decide (f 1 % 8 = 0) && decide (f 3 % 8 = 0) && decide (f 5 % 8 = 0) && decide (f 7 = 0)
    | _ => false

/-- What the head of a queue comes to. -/
inductive Attempt where
  /-- it holds no packet -/
  | idle
  /-- the packet cannot begin or go on -/
  | waits (s : State)
  /-- it begins, or goes on -/
  | goes (s : State)
  /-- the queue faults -/
  | faults (cause : Nat) (s : State)

/-- R380: a launch of the queue has begun and not completed. -/
def State.launchOpen (s : State) (vf q : Nat) : Bool :=
  s.kernels.any (fun e => decide (e.2.vf = vf) && decide (e.2.q = q) && decide (e.2.st ≠ .declared))

/-- R380: the launch at the head is declared and waits for clusters. -/
def State.launchHeld (s : State) (vf q : Nat) : Bool :=
  s.kernels.any (fun e => decide (e.2.vf = vf) && decide (e.2.q = q) && decide (e.2.st = .declared))

/-- R381: a kernel of the queue has failed, and its launch asked to stop. -/
def State.launchStops (s : State) (vf q : Nat) : Option Nat :=
  (s.kernels.find? (fun e => decide (e.2.vf = vf) && decide (e.2.q = q) && e.2.stop && decide (e.2.st = .failed))).map (·.2.cause)

/-! #### Launch (R361, R381, R413) -/

/-- R413, R414, R479: a context that begins a launch: resident, made resident at once, or waiting for a switch. -/
def State.residentFor (s : State) (part vf pasid : Nat) : State × Bool :=
  let s1 : State := match (s.partition part).bind (·.resident) with
    | some r => if r = (vf, pasid) then s else s.contextIdle r.1 r.2
    | none => s
  match (s1.partition part).bind (·.resident), (s1.context vf pasid).map (·.st) with
  | some r, st =>
    if r ≠ (vf, pasid) then (s1, false)
    else (if st = some CtxState.bound then s1.setResident part vf pasid else s1, true)
  | none, some CtxState.bound => (s1.becomeResident part vf pasid, true)
  | none, some CtxState.switchedOut => (s1.updPartition part (fun p => { p with pending := some (.switch vf pasid) }), false)
  | none, _ => (s1, false)

/-- A kernel added to the table. -/
def State.addKernel (s : State) (k : Kernel) : State :=
  { s with kernels := kset s.nextAccess k s.kernels, nextAccess := s.nextAccess + 1 }

/-- A descriptor read: its value, or what its read comes to. -/
def State.readDesc (s : State) (vf q pasid part a : Nat) : BitVec 512 ⊕ Reach :=
  match s.reach vf pasid part false (.queue vf q) a 64 with
  | .locs l => .inl (BitVec.ofNat 512 (s.readLocs l))
  | x => .inr x

/-- The stage descriptors from number `i` on; the first that cannot be read, with its number. -/
def State.readStages (s : State) (vf q pasid part a : Nat) : Nat → Nat → List (BitVec 512) ⊕ (Nat × Reach)
  | 0, _ => .inl []
  | n + 1, i =>
    match s.readDesc vf q pasid part (a + 64 * (i + 1)) with
    | .inr x => .inr (i, x)
    | .inl d =>
      match s.readStages vf q pasid part a n (i + 1) with
      | .inl ds => .inl (d :: ds)
      | .inr x => .inr x

/-- R361, R366, R381: a launch begins with a kernel that has failed: cause, stage, word 1. -/
def State.launchFailed (s : State) (vf q : Nat) (k : Kernel) (cause : Nat) (stage : Option Nat) (value : Nat) : Attempt :=
  .goes ((s.addKernel { k with st := .failed, cause := cause, causeStage := stage, value := BitVec.ofNat 64 value }).packetBegun
    vf q none)

/-- R361, R381: a launch packet. -/
def State.tryLaunch (s : State) (vf q : Nat) (x : Queue) (part : Nat) (w : BitVec 512) : Attempt :=
  let a := descWord w 1
  if !s.addrOk part a 1 || (decide (descWord w 3 ≠ 0) && !s.addrOk part (descWord w 2) 1) ||
      (decide (descWord w 4 ≠ 0) && !s.addrOk part (descWord w 4) 1) then .faults 0x04 s
  else
    match s.residentFor part vf x.pasid with
    | (s1, false) => .waits s1
    | (s1, true) =>
      let k0 : Kernel :=
        { st := .declared, vf := vf, q := q, pasid := x.pasid, part := part, desc := 0#512, descAddr := a, stages := [],
          arg := BitVec.ofNat 64 (descWord w 2), argLen := descWord w 3, comp := descWord w 4,
          stop := decide (descWord w 0 / 2 ^ 9 % 2 = 1), ver := 0, cause := 0, causeStage := none, value := 0#64,
          drained := false, written := false }
      match s1.readDesc vf q x.pasid part a with
      | .inr (.waits s2) => .waits s2
      | .inr (.fail c _) => s1.launchFailed vf q k0 c none a
      | .inr (.locs _) => .waits s1
      | .inl d =>
        match s1.readStages vf q x.pasid part a (kStages d) 0 with
        | .inr (_, .waits s2) => .waits s2
        | .inr (i, .fail c _) => s1.launchFailed vf q { k0 with desc := d } c (some i) (a + 64 * (i + 1))
        | .inr (_, .locs _) => .waits s1
        | .inl ds =>
          let k := { k0 with desc := d, stages := ds.map (fun e => ⟨e, [], none⟩) }
          match s1.firstBad part d ds with
          | some i => s1.launchFailed vf q k 0x01 (if i = 0 then none else some (i - 1)) (a + 64 * i)
          | none =>
            if (argCap (descWord w 2) (descWord w 3)).isNone then s1.launchFailed vf q k 0x04 none (descWord w 2)
            else
              let s2 := s1.addKernel k
              .goes (if (s2.placement part ds).isNone then s2.queueTo vf q .waiting else s2)

/-! #### Copies (R382) -/

/-- Bytes copied one at a time in ascending order, from the listed locations to `b` and up, tags cleared. -/
def State.copyUp (s : State) (b : Nat) : List Nat → State
  | [] => s
  | a :: r => (s.write b [s.byte a]).copyUp (b + 1) r

/-- What the next piece of a copy comes to. -/
inductive PacketPiece where
  /-- performed; so many bytes are performed now -/
  | moved (s : State) (done : Nat)
  | waits (s : State)
  /-- refused: no further byte is written -/
  | fails (cause : Nat)

/-- R382, R290: the next piece of a copy of which `done` bytes are performed: to the end of its destination page, so that
every sector that it writes is finished in one step. -/
def State.packetPiece (s : State) (vf q : Nat) (x : Queue) (part : Nat) (w : BitVec 512) (done : Nat) : PacketPiece :=
  let src := descWord w 1 + done
  let dst := descWord w 2 + done
  let n := min (descWord w 3 - done) (4096 - dst % 4096)
  if !s.addrOk part src n || !s.addrOk part dst n then .fails 0x04
  else
    match s.reach vf x.pasid part false (.queue vf q) src n, s.reach vf x.pasid part true (.queue vf q) dst n with
    | .locs l, .locs m =>
      let b := ((m.head?).map (·.1)).getD 0
      let s1 := ((s.dropRequests (.queue vf q)).touchAll ridgeCluster [(0, l)] false).touch ridgeCluster b n true
      let s2 := s1.copyUp b (l.flatMap (fun p => upto p.1 p.2))
      .moved (s2.writeRequest b (s2.readBytes b n)) (done + n)
    | .waits s1, _ => .waits s1
    | .fail c _, _ => .fails c
    | _, .waits s1 => .waits s1
    | _, .fail c _ => .fails c

/-- R382: the copy at the head of a queue. -/
def State.tryCopy (s : State) (vf q : Nat) (x : Queue) (part : Nat) (w : BitVec 512) : Attempt :=
  match s.packetPiece vf q x part w x.copied with
  | .moved s1 n =>
    if n = descWord w 3 then .goes (s1.packetBegun vf q none) else .goes (s1.setQueue vf q { x with copied := n, word := w })
  | .waits s1 => .waits s1
  | .fails c => .faults c (s.updQueue vf q (fun y => { y with copied := 0 }))

/-- R382, R387, R388: the oldest copy that goes on by itself. None while it must wait. -/
def State.restCopy (s : State) (vf q : Nat) (x : Queue) (part : Nat) : Option State :=
  match x.rest with
  | [] => none
  | (done, w) :: r =>
    match s.packetPiece vf q x part w done with
    | .moved s1 n => some (s1.setQueue vf q { x with rest := if n = descWord w 3 then r else (n, w) :: r })
    | .waits s1 => if s1 = s then none else some s1
    | .fails c =>
      let s1 := s.updQueue vf q (fun y => { y with rest := r })
      some (if x.st = .unmapped ∨ x.st = .faulted then s1.clearFails (.queue vf q) else s1.faultQueue vf q c)

/-! #### Fences (R383, R384, R391, R393) -/

/-- An 8-byte word of a packet's address: its value, or what its access comes to. -/
def State.readWord (s : State) (vf q : Nat) (x : Queue) (part a : Nat) : Nat ⊕ Attempt :=
  if !s.addrOk part a 8 then .inr (.faults 0x04 s)
  else
    match s.reach vf x.pasid part false (.queue vf q) a 8 with
    | .locs l => .inl (s.readLocs l)
    | .waits s1 => .inr (.waits s1)
    | .fail c _ => .inr (.faults c s)

/-- R383: a fence-wait. -/
def State.tryFenceWait (s : State) (vf q : Nat) (x : Queue) (part : Nat) (w : BitVec 512) : Attempt :=
  match s.readWord vf q x part (descWord w 1) with
  | .inr r => r
  | .inl v =>
    let y := descWord w 2
    let holds := match descWord w 3 with
      | 0 => decide (y ≤ v)
      | 1 => decide (v = y)
      | _ => decide (v ≠ y)
    if holds then .goes (s.packetBegun vf q none) else .waits s

/-- R383: a barrier-and: each nonzero address holds at least its value. -/
def State.tryBarrier (s : State) (vf q : Nat) (x : Queue) (part : Nat) (w : BitVec 512) : List Nat → Attempt
  | [] => .goes (s.packetBegun vf q none)
  | i :: r =>
    if descWord w i = 0 then s.tryBarrier vf q x part w r
    else
      match s.readWord vf q x part (descWord w i) with
      | .inr a => a
      | .inl v => if descWord w (i + 1) ≤ v then s.tryBarrier vf q x part w r else .waits s

/-- R393: the snapshot of the links that a queue is bound to. -/
def State.snapLinks (s : State) (vf q : Nat) : State :=
  { s with links := s.links.map (fun e => (e.1, { e.2 with
      pf := if e.2.producer = (vf, q) then e.2.p else e.2.pf, tf := if e.2.consumer = (vf, q) then e.2.t else e.2.tf })) }

/-- R384: the replay point after a fence-signal. -/
def Queue.fencePoint (x : Queue) : Nat :=
  if x.levels.isEmpty then (x.ridx + 1) % 2 ^ 48 else (x.ridx + 2 ^ 48 - 1) % 2 ^ 48

/-- R384, R391: a fence-signal: its write, the replay point and the snapshot in one step. -/
def State.tryFenceSignal (s : State) (vf q : Nat) (x : Queue) (part : Nat) (w : BitVec 512) : Attempt :=
  let a := descWord w 1
  if !s.addrOk part a 8 then .faults 0x04 s
  else
    match s.reach vf x.pasid part true (.queue vf q) a 8 with
    | .waits s1 => .waits s1
    | .fail c _ => .faults c s
    | .locs l =>
      let s1 : State := (s.ridgeWriteLocs l (natBytes 8 (descWord w 2))).snapLinks vf q
      let s2 := { s1 with queues := s1.queues.map (fun (e : Nat × Queue) =>
        if s.partOfQueue (e.1 / 256) e.2 = some part then (e.1, { e.2 with fenceAt := s.now }) else e) }
      let s3 := (s2.setQueue vf q { x with rfence := x.fencePoint, fenceAt := s.now }).packetBegun vf q none
      .goes (if descWord w 3 / 2 ^ 15 % 2 = 1 then s3.send (.msix vf (descWord w 3 % 2 ^ 11)) else s3)

/-! #### Token links and indirect buffers (R385, R386) -/

def State.link (s : State) (n : Nat) : Option TokenLink := kfind n s.links

def State.setLink (s : State) (n : Nat) (l : TokenLink) : State := { s with links := kset n l s.links }

/-- R385: a token-put. -/
def State.tryPut (s : State) (vf q : Nat) (w : BitVec 512) : Attempt :=
  match s.link (descWord w 1) with
  | none => .faults 0x43 s
  | some l =>
    let n : Int := descWord w 2
    if l.producer ≠ (vf, q) ∨ 2 ^ 31 - 1 < l.c + n then .faults 0x43 s
    else .goes ((s.setLink (descWord w 1) { l with c := l.c + n, p := l.p + n }).packetBegun vf q none)

/-- R385: a token-take. -/
def State.tryTake (s : State) (vf q : Nat) (w : BitVec 512) : Attempt :=
  match s.link (descWord w 1) with
  | none => .faults 0x43 s
  | some l =>
    let n : Int := descWord w 2
    if l.consumer ≠ (vf, q) then .faults 0x43 s
    else if l.c < n then .waits s
    else .goes ((s.setLink (descWord w 1) { l with c := l.c - n, t := l.t + n }).packetBegun vf q none)

/-- R386: an indirect packet. -/
def State.tryIndirect (s : State) (vf q : Nat) (x : Queue) (part : Nat) (w : BitVec 512) : Attempt :=
  if 4 ≤ x.levels.length then .faults 0x41 s
  else if !s.addrOk part (descWord w 1) 1 then .faults 0x04 s
  else .goes (s.packetBegun vf q (some (descWord w 1, descWord w 2)))

/-! ### The head of a queue -/

/-- R376: the head packet read whole; or what its read comes to. -/
def State.headPacket (s : State) (vf q : Nat) (x : Queue) (part : Nat) : BitVec 512 ⊕ Attempt :=
  match x.headAddr with
  | none => .inr .idle
  | some a =>
    if !s.addrOk part a 64 then .inr (.faults 0x04 s)
    else
      match s.readDesc vf q x.pasid part a with
      | .inl w => .inl w
      | .inr (.waits s1) => .inr (.waits s1)
      | .inr (.fail c _) => .inr (.faults c s)
      | .inr (.locs _) => .inr (.waits s)

/-- R379 to R386: what the head of a queue comes to now. -/
def State.attempt (s : State) (vf q : Nat) (x : Queue) (part : Nat) : Attempt :=
  match s.launchStops vf q with
  | some c => .faults c s
  | none =>
    if s.launchHeld vf q then .waits s
    else
      match s.headPacket vf q x part with
      | .inr r => r
      | .inl w =>
        let t := descWord w 0 % 256
        if (decide (descWord w 0 / 2 ^ 8 % 2 = 1) || decide (t = 5) || decide (t = 6)) &&
            (s.launchOpen vf q || !x.rest.isEmpty) then .waits s
        else if !packetValid w then .faults 0x40 s
        else
          match t with
          | 1 => .goes (s.packetBegun vf q none)
          | 2 => s.tryLaunch vf q x part w
          | 3 => s.tryCopy vf q x part w
          | 4 => s.tryFenceWait vf q x part w
          | 5 => s.tryFenceSignal vf q x part w
          | 6 => s.tryPut vf q w
          | 7 => s.tryTake vf q w
          | 8 => s.tryIndirect vf q x part w
          | _ => s.tryBarrier vf q x part w [1, 3, 5]

/-- R392: no region of a partition is being reset or scrubbed, so that its queues are served. -/
def State.partServed (s : State) (part : Nat) : Bool :=
  !(s.regionsOf part).isEmpty && (s.regionsOf part).all (fun r =>
    decide ((s.region r).st = .ready) || decide ((s.region r).st = .assigned) || decide ((s.region r).st = .gated))

/-- R389: the slots that may be served: *active* queues of the highest priority whose partition is in use, with their keys. -/
def State.servable (s : State) : List (Nat × Queue) :=
  let l := s.queues.filter (fun e => decide (e.2.st = .active) && e.2.slot.isSome &&
    ((s.partOfQueue (e.1 / 256) e.2).map s.partServed).getD false)
  let top := l.foldl (fun (m : Nat) e => max m e.2.pri) 0
  l.filter (fun e => decide (e.2.pri = top))

/-- R389: the distance of a slot from the one last served, in round-robin order. -/
def State.slotDistance (s : State) (x : Queue) : Nat := (x.slot.getD 0 + 127 - s.lastSlot) % 128

/-- R389: the queue that is served: the last one until its quantum has run out while another of equal priority is *active*;
else the next in round-robin order. -/
def State.servedQueue (s : State) : Option (Nat × Queue) :=
  let l := s.servable
  match l.find? (fun e => decide (e.2.slot = some s.lastSlot) && (!e.2.quantumOut || decide (l.length = 1))) with
  | some e => some e
  | none => l.foldl (fun (m : Option (Nat × Queue)) e =>
      match m with
      | none => some e
      | some x => if s.slotDistance e.2 < s.slotDistance x.2 then some e else m) none

/-- R389: the queue is the one that is served. -/
def State.serves (s : State) (vf q : Nat) : Bool := decide ((s.servedQueue.map (·.1)) = some (queueKey vf q))

/-- R389: a slot begins to be served: its quantum begins. -/
def State.beginService (s : State) (vf q : Nat) (x : Queue) : State :=
  if x.slot = some s.lastSlot then s
  else { (s.updQueue vf q (fun y => { y with turn := s.now, quantumOut := false })) with lastSlot := x.slot.getD 0 }

/-- The type under which the head of a queue is served: that of its packet, or 1 where the packet cannot be read or has no
valid type. -/
def State.headType (s : State) (vf q : Nat) (x : Queue) (part : Nat) : Nat :=
  match s.headPacket vf q x part with
  | .inl w => if 1 ≤ descWord w 0 % 256 ∧ descWord w 0 % 256 ≤ 9 then descWord w 0 % 256 else 1
  | .inr _ => 1

/-- R380, R388, R389: a served queue's head packet of a type begins or goes on, waits, or faults the queue. -/
def headEvent (t vf q : Nat) (s : State) : Option State :=
  match s.queue vf q with
  | none => none
  | some x =>
    match s.partOfQueue vf x with
    | none => none
    | some part =>
      if !s.serves vf q || decide (s.headType vf q x part ≠ t) then none
      else
        let s := s.beginService vf q x
        let x := (s.queue vf q).getD x
        match s.attempt vf q x part with
        | .idle => some (s.queueTo vf q .mapped)
        | .waits s1 => some (s1.queueTo vf q .waiting)
        | .goes s1 => some s1
        | .faults c s1 => some (s1.faultQueue vf q c)

/-- A packet of a type at work: a copy of the queue that goes on by itself, else the packet at its head. -/
def packet (t vf q : Nat) (s : State) : Option State :=
  let rest := match s.queue vf q with
    | some x => if t = 3 then (s.partOfQueue vf x).bind (s.restCopy vf q x) else none
    | none => none
  rest <|> headEvent t vf q s

/-- `QUEUE_CONDITION_HOLDS`, R380, R388: what a waiting queue waits for has come about. -/
def conditionHolds (vf q : Nat) (s : State) : Option State :=
  match s.queue vf q with
  | none => none
  | some x =>
    match s.partOfQueue vf x with
    | none => none
    | some part =>
      if x.st ≠ .waiting ∨ !s.partServed part then none
      else
        match s.attempt vf q x part with
        | .waits s1 =>
          -- it waits on something else now: a page or bytes that it has asked for, or a switch
          if (s1.awaits (.queue vf q) && !s.awaits (.queue vf q)) || decide (s1.partitions ≠ s.partitions) ||
              decide (s1.requests ≠ s.requests) then some s1 else none
        | _ => some (s.queueTo vf q .active)

/-! ### Launch completion (R381) -/

/-- R381: word 0 of the completion record. -/
def Kernel.outcome (k : Kernel) : Nat :=
  k.cause % 256 + (match k.causeStage with | some i => i % 8 * 2 ^ 8 + 2 ^ 11 | none => 0)

/-- R381: accesses of an ended kernel of the partition are still to be performed. -/
def State.orphansLeft (s : State) (part : Nat) : Bool :=
  s.accesses.any (fun a => decide (a.2.gid = endedGroup) && decide (s.partOfCore a.2.core = some part)) ||
    s.clusters.any (fun c => decide (s.partOfCluster c.1 = some part) &&
      c.2.copies.any (fun x => decide (x.src.gid = endedGroup)))

/-- R380, R381: a launch has completed: its kernel is gone from the table, and its queue faults where it must. -/
def State.launchDone (s : State) (n : Nat) (k : Kernel) (refused : Nat) : State :=
  let s1 := { (s.clearFails (.kernel n)) with kernels := kdel n s.kernels }
  let cause := if refused ≠ 0 then refused else if k.stop then k.cause else 0
  match s1.queue k.vf k.q with
  | some x =>
    if cause ≠ 0 ∧ (x.st = .mapped ∨ x.st = .active ∨ x.st = .waiting ∨ x.st = .preempted) then s1.faultQueue k.vf k.q cause
    else s1
  | none => s1

/-- R367: a kernel whose work has been performed is *complete*, its record written or refused. -/
def State.kernelDone (s : State) (n : Nat) (k : Kernel) (refused : Nat) : State :=
  (s.endKernel n 0 none 0#64).launchDone n k refused

/-- `LAUNCH_COMPLETION_WRITE`, R367, R381: the record of a failed kernel, whose accesses have been performed; or that of one
that is *complete* once its write is performed, with the end of the kernel next (R476). -/
def launchCompletion (n : Nat) (s : State) : Option State :=
  match s.kernel n with
  | none => none
  | some k =>
    if !(k.st.ended && !s.orphansLeft k.part) && !(decide (k.st = .draining) && k.drained) then none
    else if k.comp = 0 ∨ k.written then some (s.kernelDone n k 0)
    else
      match s.reach k.vf k.pasid k.part true (.kernel n) k.comp 16 with
      | .waits s1 => some s1
      | .fail c _ => some (s.kernelDone n k c)
      | .locs l =>
        let s1 := s.ridgeWriteLocs l (natBytes 8 k.outcome ++ natBytes 8 k.value.toNat)
        some (if k.st.ended then s1.kernelDone n k 0 else s1.updKernel n (fun x => { x with written := true }))

/-! ### Slots (R377, R378, R388 to R390) -/

/-- R390: the queue's partition is in use, so that it may take a slot. -/
def State.mayMap (s : State) (vf : Nat) (x : Queue) : Bool :=
  match s.partOfQueue vf x with
  | some p => s.partServed p
  | none => true

/-- R375, R419: the fields of software as they are now: those of the record while the queue is *unmapped*. -/
def State.fieldsNow (s : State) (vf q : Nat) (x : Queue) : Queue :=
  if x.st = .unmapped ∧ (s.recordAt vf q).isSome then s.softFields vf q x else x

/-- R375, R388: a queue takes a slot: *active*, or *mapped* where it holds no packet; an invalid record faults it. -/
def State.mapQueue (s : State) (vf q : Nat) (x : Queue) (slot : Nat) : State :=
  let y := s.fieldsNow vf q x
  if x.st = .unmapped ∧ !s.recordValid vf q y then (s.setQueue vf q y).faultQueue vf q 0x46
  else
    (s.setQueue vf q { y with slot := some slot, since := s.now, turn := s.now, pendn := false, quantumOut := false }).queueTo vf q
      (if y.headAddr.isSome then .active else .mapped)

/-- R390: the pending queue that a free slot goes to: the highest priority, the lowest function, the lowest number. -/
def State.bestPending (s : State) : Option (Nat × Queue) :=
  let l := s.queues.filter (fun e => e.2.pendn && e.2.slot.isNone && s.mayMap (e.1 / 256) e.2)
  let top := l.foldl (fun (m : Nat) e => max m e.2.pri) 0
  l.find? (fun e => decide (e.2.pri = top))

/-- `NOTIFY`, R377, R378. -/
def notify (vf val : Nat) (s : State) : Option State :=
  let q := val % 256
  match s.loadQueue vf q with
  | none => none
  | some x0 =>
    let x := s.fieldsNow vf q x0
    let n := val / 2 ^ 16 % 2 ^ 48
    let off (i : Nat) : Nat := (i + 2 ^ 48 - x.rfence) % 2 ^ 48
    if x.st = .faulted then none
    else if 2 ^ x.lsz < off n then some ((s.setQueue vf q x).faultQueue vf q 0x42)
    else if off n < off x.widx ∨ n = x.widx then none
    else
      let y := { x with widx := n }
      match y.st with
      | .mapped => some ((s.setQueue vf q y).queueTo vf q .active)
      | .unmapped | .preempted =>
        match s.freeSlot with
        | some sl => if s.bestPending.isNone && s.mayMap vf y then some (s.mapQueue vf q y sl)
            else some (s.setQueue vf q { y with pendn := true })
        | none => some (s.setQueue vf q { y with pendn := true })
      | _ => some (s.setQueue vf q y)

/-- `QUEUE_MAP`, R388, R390: firmware maps a queue in a free slot, a pending one first. -/
def queueMap (vf q : Nat) (s : State) : Option State :=
  match s.loadQueue vf q, s.freeSlot with
  | some x, some sl =>
    if (x.st = .unmapped ∨ x.st = .preempted) ∧ s.mayMap vf x ∧
        ((s.bestPending.map (·.1)) = none ∨ (s.bestPending.map (·.1)) = some (queueKey vf q)) then some (s.mapQueue vf q x sl)
    else none
  | _, _ => none

/-- `QUEUE_UNMAP`, R388, R419: firmware unmaps a queue that holds no packet. -/
def queueUnmap (vf q : Nat) (s : State) : Option State :=
  match s.queue vf q with
  | some x =>
    if x.st = .mapped ∧ !s.vfLocked vf then some ((s.setQueue vf q { x with slot := none, quantumOut := false }).queueTo vf q .unmapped) else none
  | none => none

/-- `QUEUE_RESET`, R387, R419: firmware resets a faulted queue. -/
def queueReset (vf q : Nat) (s : State) : Option State :=
  match s.queue vf q with
  | some x =>
    if x.st = .faulted ∧ !s.vfLocked vf then
      some (s.setQueue vf q { x with st := .unmapped, ridx := x.rfence, widx := x.rfence, levels := [], copied := 0 })
    else none
  | none => none

/-- R388, R390: a slot withdrawn, between packets or while the queue waits; a copy that has begun goes on. -/
def State.withdrawSlot (s : State) (vf q : Nat) (x : Queue) : State :=
  let y := x.letGo
  ((s.forgetLaunch vf q).setQueue vf q { y with slot := none, quantumOut := false, pendn := y.headAddr.isSome }).queueTo vf q .preempted

/-- R390: the slot may be withdrawn at this point. -/
def Queue.between (x : Queue) : Bool := decide (x.st = .waiting) || decide (x.copied = 0)

/-- R389: the quantum of a priority, in cycles. -/
def State.quantum (s : State) (pri : Nat) : Nat := kget 17000 pri s.quanta

/-- R414: the context of a partition that a switch would serve, other than the resident one: one with a queue *active* or
*waiting*, or switched out with a kernel that has not ended; the next in order of its number. -/
def State.wanting (s : State) (part vf pasid : Nat) : Option (Nat × Nat) :=
  let me := ctxKey vf pasid
  let l := s.contexts.filter (fun e => decide (e.2.part = part) && decide (e.1 ≠ me) &&
    ((decide (e.2.st = .bound) || decide (e.2.st = .switchedOut)) &&
      s.queues.any (fun x => decide (ctxKey (x.1 / 256) x.2.pasid = e.1) && x.2.st.busy) ||
     (decide (e.2.st = .switchedOut) && s.kernels.any (fun k => decide (ctxKey k.2.vf k.2.pasid = e.1) &&
        decide (k.2.st ≠ .complete) && decide (k.2.st ≠ .failed)))))
  match l.find? (fun e => decide (me < e.1)), l.head? with
  | some e, _ => some (e.2.vf, e.2.pasid)
  | none, some e => some (e.2.vf, e.2.pasid)
  | none, none => none

/-- R389, R390, R414: what an expired quantum brings: a switch requested, a slot to withdraw. -/
def State.switchDue (s : State) (vf : Nat) (x : Queue) : Option (Nat × Nat × Nat) :=
  match s.partOfQueue vf x with
  | none => none
  | some p =>
    match s.partition p with
    | none => none
    | some y => if y.resident = some (vf, x.pasid) ∧ y.pending = none then (s.wanting p vf x.pasid).map (fun c => (p, c)) else none

/-- `QUANTUM_EXPIRY`, R389, R390, R414. -/
def quantumExpiry (vf q : Nat) (s : State) : Option State :=
  match s.queue vf q with
  | none => none
  | some x =>
    let due := x.slot.isSome && decide (max x.since x.turn + s.quantum x.pri ≤ s.now)
    let withdraw := x.pre && x.between && s.freeSlot.isNone &&
      ((s.bestPending.map (fun e => decide (x.pri ≤ e.2.pri))).getD false)
    let sw := s.switchDue vf x
    if !due || !(decide (x.st = .active) || withdraw || sw.isSome) then none
    else
      let s1 : State := match sw with
        | some (p, c) => s.updPartition p (fun y => { y with pending := some (.switch c.1 c.2) })
        | none => s
      let y := { x with quantumOut := true, turn := s.now }
      some (if withdraw then s1.withdrawSlot vf q y else s1.setQueue vf q y)

/-- `TENURE_LIMIT_EXPIRY`, R390. -/
def tenureExpiry (vf q : Nat) (s : State) : Option State :=
  match s.queue vf q with
  | none => none
  | some x =>
    if x.slot.isSome ∧ !x.pre ∧ x.between ∧ x.since + s.tenure ≤ s.now ∧ s.queues.any (·.2.pendn) ∧ s.freeSlot.isNone then
      some (s.withdrawSlot vf q x)
    else none

/-! ### Registration and binding (R373, R385, R419) -/

/-- `QTAB_REGISTRATION`, R373, R375: the record table of a function, at a host physical address. -/
def qtabRegister (vf addr : Nat) (s : State) : Option State :=
  if vf < 64 ∧ addr % 128 = 0 ∧ addr < 2 ^ 57 ∧ !s.vfLocked vf then some (s.updVf vf (fun v => { v with qtab := some addr }))
  else none

/-- The lowest free token binding of a queue. -/
def Queue.freeBind (x : Queue) : Option Nat := (List.range 4).find? (fun e => (kfind e x.links).isNone)

/-- R385: a link bound to one more queue. -/
def State.bindEnd (s : State) (link vf q : Nat) (consumer : Bool) : Option State :=
  match s.loadQueue vf q with
  | none => none
  | some x => x.freeBind.map (fun e => s.setQueue vf q { x with links := kset e (link, consumer) x.links })

/-- R385: a link that was bound is unbound from its queues. -/
def State.unbindLink (s : State) (link : Nat) : State :=
  s.queues.foldl (fun (st : State) e =>
    if e.2.links.any (fun b => decide (b.2.1 = link)) then
      st.setQueue (e.1 / 256) (e.1 % 256) { e.2 with links := e.2.links.filter (fun b => decide (b.2.1 ≠ link)) }
    else st) s

/-- `TOKEN_LINK_BIND`, R385, R419: a link bound to a producer and a consumer of one partition. -/
def linkBind (link pvf pq cvf cq : Nat) (s : State) : Option State :=
  let part (vf q : Nat) : Option Nat := (s.loadQueue vf q).bind (s.partOfQueue vf)
  if link < 256 ∧ (part pvf pq).isSome ∧ part pvf pq = part cvf cq ∧ !s.vfLocked pvf ∧ !s.vfLocked cvf then
    (((s.unbindLink link).bindEnd link pvf pq false).bind (fun s1 => s1.bindEnd link cvf cq true)).map (fun s2 =>
      s2.setLink link ⟨(pvf, pq), (cvf, cq), 0, 0, 0, 0, 0⟩)
  else none

/-! ### Resets of a partition (R391 to R393, R407, R413, R419) -/

/-- R366, R392: the *running* and *draining* kernels of a partition fail with 0x45; one whose record is written is *complete*;
one that is *loading* stays so (R4; DEDUCED, log 67); a launch that still waits is forgotten; a launch that asked to stop
faults its queue (R381). -/
def State.failKernels (s : State) (part : Nat) : State :=
  s.kernels.foldl (fun (st : State) e =>
    let k := e.2
    if k.part ≠ part then st
    else if k.st = .declared then { st with kernels := kdel e.1 st.kernels }
    else if k.st ≠ .running ∧ k.st ≠ .draining then st
    else if k.written then st.kernelDone e.1 k 0
    else
      let st1 := st.endKernel e.1 0x45 none 0#64
      if k.stop then st1.faultQueue k.vf k.q 0x45 else st1) s

/-- R392: one queue of a partition rewound. -/
def Queue.rewound (x : Queue) (cause : Nat) : Queue :=
  { x with ridx := x.rfence, levels := [], copied := 0, rest := [], err := cause, nrpl := min (x.nrpl + 1) 0xFFFF, slot := none,
           quantumOut := false, st := if x.rfence ≠ x.widx then .preempted else .unmapped,
           pendn := decide (x.rfence ≠ x.widx) }

/-- R392, R388: the queues of a partition rewound, but for the unmapped ones (DEDUCED, log 50). -/
def State.rewindQueues (s : State) (part cause : Nat) : State :=
  s.queues.foldl (fun (st : State) e =>
    if s.partOfQueue (e.1 / 256) e.2 = some part ∧ e.2.st ≠ .faulted ∧ e.2.st ≠ .unmapped then
      st.setQueue (e.1 / 256) (e.1 % 256) (e.2.rewound cause)
    else st) s

/-- R393: the links of a partition back at their snapshots. -/
def State.restoreLinks (s : State) (part : Nat) : State :=
  { s with links := s.links.map (fun e =>
      if ((s.queue e.2.producer.1 e.2.producer.2).bind (s.partOfQueue e.2.producer.1)) = some part then
        (e.1, { e.2 with p := e.2.pf, t := e.2.tf, c := e.2.pf - e.2.tf })
      else e) }

/-- R418: a kernel of a context that has not ended. -/
def State.runsKernel (s : State) (vf pasid : Nat) : Bool :=
  s.kernels.any (fun e => decide (e.2.vf = vf) && decide (e.2.pasid = pasid) && decide (e.2.st ≠ .declared) && !e.2.st.ended)

/-- R413, R418: a context as its partition is reset. -/
def State.resetContext (s : State) (resident : Option (Nat × Nat)) (c : Context) : Context :=
  if c.st = .resident ∨ resident = some (c.vf, c.pasid) ∨ (c.st = .switchedOut ∧ s.runsKernel c.vf c.pasid) then
    { c with st := .faulted, save := none }
  else if c.st = .switchedOut then { c with save := none }
  else c

/-- R391 to R393, R395, R407, R413, R418, R419: a partition reset, with the cause that its queues record: every *assigned*
region of it is reset. -/
def State.resetPartition (s : State) (part cause : Nat) : State :=
  match s.partition part with
  | none => s
  | some x =>
    let gone (w : Waiter) : Bool := match w with
      | .queue vf q => ((s.queue vf q).bind (s.partOfQueue vf)) = some part
      | .kernel n => ((s.kernel n).map (·.part)) = some part
      | _ => false
    let s1 : State := (((s.failKernels part).dropWaiters gone).rewindQueues part cause).restoreLinks part
    let s2 := { s1 with
      contexts := s1.contexts.map (fun (c : Nat × Context) =>
        if c.2.part = part then (c.1, s.resetContext x.resident c.2) else c),
      vfs := s1.vfs.map (fun (v : Nat × Vf) => if decide (v.2.part = some part) && decide ((v.2).tdisp = TdispState.run) then (v.1, { v.2 with tdisp := .error }) else v) }
    let s3 := s2.updPartition part (fun p => { p with resident := none, lastResident := none, pending := none, heldSince := none })
    let s4 := x.regions.foldl (fun (st : State) r => st.clearWindows r) s3.lossEvent
    (x.regions.filter (fun r => decide ((s.region r).st = .assigned))).foldl (fun (st : State) r => st.beginReset r) s4

/-- `WATCHDOG_HANG`, R391. -/
def watchdogHang (part : Nat) (s : State) : Option State :=
  if (s.partition part).isSome ∧ s.queues.any (fun e => decide (s.partOfQueue (e.1 / 256) e.2 = some part) && e.2.st.busy &&
      decide (e.2.fenceAt + s.watchdog ≤ s.now)) then some (s.resetPartition part 0x44)
  else none

/-- `PARTITION_RESET`, R407. -/
def partitionReset (part : Nat) (s : State) : Option State :=
  if (s.partition part).isSome then some (s.resetPartition part 0x45) else none

/-! ### Events -/

/-- R378. -/
def execNotify (vf val : Nat) (s : State) : Host.Outcome State Fault Refusal := runEvent (s.booted (notify vf val s)) s

/-- R379. -/
def execPacketNop (vf q : Nat) (s : State) : Host.Outcome State Fault Refusal := runEvent (packet 1 vf q s) s

/-- R381. -/
def execPacketLaunch (vf q : Nat) (s : State) : Host.Outcome State Fault Refusal := runEvent (packet 2 vf q s) s

/-- R382. -/
def execPacketCopy (vf q : Nat) (s : State) : Host.Outcome State Fault Refusal := runEvent (packet 3 vf q s) s

/-- R383. -/
def execPacketFenceWait (vf q : Nat) (s : State) : Host.Outcome State Fault Refusal := runEvent (packet 4 vf q s) s

/-- R384. -/
def execPacketFenceSignal (vf q : Nat) (s : State) : Host.Outcome State Fault Refusal := runEvent (packet 5 vf q s) s

/-- R385. -/
def execPacketTokenPut (vf q : Nat) (s : State) : Host.Outcome State Fault Refusal := runEvent (packet 6 vf q s) s

/-- R385. -/
def execPacketTokenTake (vf q : Nat) (s : State) : Host.Outcome State Fault Refusal := runEvent (packet 7 vf q s) s

/-- R386. -/
def execPacketIndirect (vf q : Nat) (s : State) : Host.Outcome State Fault Refusal := runEvent (packet 8 vf q s) s

/-- R383. -/
def execPacketBarrierAnd (vf q : Nat) (s : State) : Host.Outcome State Fault Refusal := runEvent (packet 9 vf q s) s

/-- R388. -/
def execQueueConditionHolds (vf q : Nat) (s : State) : Host.Outcome State Fault Refusal := runEvent (conditionHolds vf q s) s

/-- R381. -/
def execLaunchCompletionWrite (k : Nat) (s : State) : Host.Outcome State Fault Refusal := runEvent (launchCompletion k s) s

/-- R389. -/
def execQuantumExpiry (vf q : Nat) (s : State) : Host.Outcome State Fault Refusal := runEvent (quantumExpiry vf q s) s

/-- R390. -/
def execTenureLimitExpiry (vf q : Nat) (s : State) : Host.Outcome State Fault Refusal := runEvent (tenureExpiry vf q s) s

/-- R388. -/
def execQueueMap (vf q : Nat) (s : State) : Host.Outcome State Fault Refusal := runEvent (queueMap vf q s) s

/-- R388. -/
def execQueueUnmap (vf q : Nat) (s : State) : Host.Outcome State Fault Refusal := runEvent (s.byFirmware 0 (queueUnmap vf q s)) s

/-- R387. -/
def execQueueReset (vf q : Nat) (s : State) : Host.Outcome State Fault Refusal := runEvent (s.byFirmware 0 (queueReset vf q s)) s

/-- R385. -/
def execTokenLinkBind (link pvf pq cvf cq : Nat) (s : State) : Host.Outcome State Fault Refusal :=
  runEvent (s.byFirmware 0 (linkBind link pvf pq cvf cq s)) s

/-- R391. -/
def execWatchdogHang (part : Nat) (s : State) : Host.Outcome State Fault Refusal := runEvent (watchdogHang part s) s

/-- R407. -/
def execPartitionReset (part : Nat) (s : State) : Host.Outcome State Fault Refusal := runEvent (s.byFirmware 0 (partitionReset part s)) s

/-- R373. -/
def execQtabRegistration (vf addr : Nat) (s : State) : Host.Outcome State Fault Refusal := runEvent (s.byFirmware 0 (qtabRegister vf addr s)) s

end Sys2Proof.Machine
end

