-- ==== Sys2Proof/Machine/HostPort.lean ====
section
/-! DEFINITION. The host ports and the flashing (R436 to R442): requests of the host, the pages of registers, heartbeats
and the two fences. -/
namespace Sys2Proof.Machine

/-! ### Fences (R441, R442) -/

/-- R441, R442: outstanding accesses to host-shared memory are refused with 0x13. -/
def State.refuseShared (s : State) : State :=
  let s1 := s.dropWaiters (fun w => match w with
    | .access _ => true
    | _ => false)
  { s1 with accesses := s1.accesses.map (fun e =>
      (e.1, if e.2.addr < 2 ^ 63 ∧ e.2.phase ≠ .sent then { e.2 with phase := .refused 0x13 } else e.2)) }

/-- R441 step 2: what the host's caches hold is dropped, and dirty sectors are recorded as lost. -/
def State.dropHost (s : State) : State :=
  (s.dir.filter (fun e => decide (e.1 % 256 = hostCache))).foldl (fun (st : State) (e : Nat × Moesi) =>
    let sec := e.1 / 256
    let st1 := st.setSector sec hostCache .i
    if e.2 = .m ∨ e.2 = .o then (st1.loseSector sec).addLoss sec 2 31 31 s.lossEvt else st1) s

/-- R422: the kernels of contexts that are not resident fail with 0x13 at once, their strands having no core to run on; a
launch that still waits for clusters is forgotten. Those of a resident context run on until an access of theirs to
host-shared memory traps (R441: device-private memory and scratchpads are unaffected; DEDUCED, log 72). -/
def State.fenceKernels (s : State) : State :=
  s.kernels.foldl (fun (st : State) e =>
    if e.2.st = .declared then { st with kernels := kdel e.1 st.kernels }
    else if s.kernelResident e.2 then st
    else st.endKernel e.1 0x13 none 0#64) s

/-- R422: every queue that holds a slot or waits for one is *faulted*. -/
def State.fenceQueues (s : State) : State :=
  s.queues.foldl (fun (st : State) e =>
    if e.2.st ≠ .unmapped ∧ e.2.st ≠ .faulted then st.faultQueue (e.1 / 256) (e.1 % 256) 0x13 else st) s

/-- R413, R422, R441 step 3: every context is *fenced*, partitions being unaffected; a switch that is pending is dropped. -/
def State.fenceContexts (s : State) : State :=
  let s1 := s.fenceKernels.fenceQueues
  { s1 with
    contexts := s1.contexts.map (fun (c : Nat × Context) =>
      (c.1, if c.2.st = .destroyed then c.2 else { c.2 with st := .fenced, save := none })),
    partitions := s1.partitions.map (fun (p : Nat × Partition) =>
      (p.1, { p.2 with pending := none, heldSince := none })) }

/-- R439: the number of the event that has begun. -/
def State.fenceEvent (s : State) : Nat :=
  match s.loss with
  | some l => l.evt
  | none => s.flash.evt + 1

/-- R441: the host side is fenced. -/
def State.hostFence (s : State) : State :=
  let s1 := { s with flash := { s.flash with hfen := true }, snoops := [] }.lossEvent
  let s2 := s1.dropHost.fenceContexts.refuseShared
  { s2 with
    flash := { s2.flash with evt := s2.fenceEvent },
    loss := s2.loss.map (fun (l : LossList) => { l with due := sadd s1.lossEvt l.due }) }.lossDone s1.lossEvt

/-- R442 step 1: one sector of host-shared memory leaves the L2 slices; it is written back, or lost where its slice's
checks fail. -/
def State.releaseShared (s : State) (bad : List Nat) (e : Nat × Moesi) : State :=
  let sec := e.1 / 256
  let cl := e.1 % 256
  let s1 := s.setSector sec cl .i
  if e.2 = .m ∨ e.2 = .o then
    if sec ∈ bad then (s1.loseSector sec).addLoss sec 3 (regionOfCluster cl |>.getD 31) (s.partOfCluster cl |>.getD 31) s.lossEvt
    else s1.writtenBack sec
  else s1

/-- R442: the device side is fenced. -/
def State.deviceFence (s : State) : State :=
  let s1 := { s with fresh := s.fresh + 1 }.lossEvent
  let bad := Config.failedSectors s.fresh
  let mine := s1.dir.filter (fun e => decide (e.1 % 256 < 160) && decide (e.1 / 256 * 64 < 2 ^ 63))
  let s2 := (mine.foldl (fun (st : State) e => st.releaseShared bad e) s1).refuseShared
  { s2 with
    flash := { s2.flash with dfen := true, evt := s2.fenceEvent },
    loss := s2.loss.map (fun (l : LossList) => { l with due := sadd s1.lossEvt l.due }) }.lossDone s1.lossEvt

/-! ### Heartbeats (R439, R440) -/

/-- R439: the period as stored. -/
def periodStored (n : Nat) : Nat := max 10 (min 10000 n)

/-- R6, R439: a period in cycles of the package clock. -/
def Flashing.cycles (f : Flashing) : Nat := f.per * 1700

/-- R440: the device beat: the counter in host memory. -/
def State.deviceBeat (s : State) : Nat := s.read s.flash.addr 8

/-- R439, R440: `per` and `en` written. A watch that starts takes the beats as they are. -/
def State.writePeriod (s : State) (val : Nat) : State :=
  let f := s.flash
  let per := periodStored (val % 2 ^ 24)
  if val / 2 ^ 24 % 2 = 0 then { s with flash := { f with per := per, en := false, hmiss := 0, dmiss := 0 } }
  else if f.en then { s with flash := { f with per := per } }
  else
    let g := { f with per := per, en := true }
    { s with flash := { g with lastHost := f.hostBeat, lastDev := s.deviceBeat, next := s.now + g.cycles, beaten := false } }

/-- R440: the host's beat. -/
def State.writeBeat (s : State) (val : Nat) : State :=
  let w := BitVec.ofNat 64 val
  { s with flash := { s.flash with hostBeat := w, hostAt := if w ≠ s.flash.hostBeat then some s.now else s.flash.hostAt } }

/-- R441: the host fence is lifted, where host beats have arrived in the last period. -/
def hostResume (s : State) : Option State :=
  let f := s.flash
  let seen := match f.hostAt with
    | some t => decide (s.now ≤ t + f.cycles)
    | none => false
  if f.hfen && seen then
    some { s with
      flash := { f with hfen := false },
      contexts := s.contexts.map (fun c => if c.2.st = .fenced then (c.1, { c.2 with st := .bound }) else c) }
  else none

/-- `HBCTL` written, R439. -/
def State.writeHbctl (s : State) (val : Nat) : State :=
  let s1 := s.writePeriod val
  if val / 2 ^ 25 % 2 = 1 then (hostResume s1).getD s1 else s1

/-- `FIRMWARE_DEVICE_BEAT`, R440: the firmware core of die 0 adds 1 to the counter, once in each period; R442: not past a
device fence. -/
def firmwareBeat (s : State) : Option State :=
  let f := s.flash
  if f.en && !f.dfen && !f.beaten && s.firmwareRuns 0 && !s.linesHeld ridgeCluster f.addr 8 true then
    some { s.ridgeWrite f.addr (natBytes 8 ((s.deviceBeat + 1) % 2 ^ 64)) with flash := { f with beaten := true } }
  else none

/-- R440: consecutive missed periods. -/
def missed (changed : Bool) (n : Nat) : Nat := if changed then 0 else min 3 (n + 1)

/-- `HEARTBEAT_PERIOD`, R440: a period boundary; the host side is fenced first. -/
def heartbeat (s : State) : Option State :=
  let f := s.flash
  if f.en && decide (f.next ≤ s.now) then
    let h := missed (decide (f.hostBeat ≠ f.lastHost)) f.hmiss
    let d := missed (decide (s.deviceBeat ≠ f.lastDev)) f.dmiss
    let s1 := { s with flash := { f with hmiss := h, dmiss := d, lastHost := f.hostBeat, lastDev := s.deviceBeat,
                                         next := s.now + f.cycles, beaten := false } }
    let s2 := if h = 3 ∧ !f.hfen then s1.hostFence else s1
    some (if d = 3 ∧ !f.dfen then s2.deviceFence else s2)
  else none

/-! ### Register pages (R350, R377, R439) -/

/-- R350: `PGSTAT` of a function. -/
def Vf.pgstat (v : Vf) : Nat :=
  min v.requests.length 64 + (if v.drop then 2 ^ 8 else 0) + (if v.stop then 2 ^ 9 else 0) + min v.ndrop 0xFFFF * 2 ^ 32

/-- R377: `PENDN`n of a function. -/
def State.pendWord (s : State) (vf n : Nat) : Nat :=
  ((List.range 64).map (fun m => if ((s.queue vf (64 * n + m)).map (·.pendn)).getD false then 2 ^ m else 0)).sum

/-- R350: `PGVEC` as written. -/
def pgvecStored (val : Nat) : Word := BitVec.ofNat 64 (val % 2 ^ 11 + val / 2 ^ 15 % 2 * 2 ^ 15)

/-- A register of a function's notify page as read. -/
def State.notifyRead (s : State) (vf off : Nat) : Nat :=
  if off = 0xF00 then (s.vf vf).pgstat
  else if off = 0xF10 then (s.vf vf).pgvec.toNat
  else if 0x10 ≤ off ∧ off < 0x30 ∧ off % 8 = 0 then s.pendWord vf ((off - 0x10) / 8)
  else 0

/-- A register of a function's notify page as written; R419: `PGVEC` of a locked function stays. -/
def State.notifyWrite (s : State) (vf off val : Nat) : State :=
  if off = 0 then (notify vf val s).getD s
  else if off = 0xF08 then (pgctlReplay vf val s).getD s
  else if off = 0xF10 ∧ !s.vfLocked vf then s.updVf vf (fun v => { v with pgvec := pgvecStored val })
  else s

/-- R439: `HBSTAT`. -/
def Flashing.stat (f : Flashing) : Nat :=
  (if f.hfen then 1 else 0) + (if f.dfen then 2 else 0) + f.hmiss % 4 * 2 ^ 8 + f.dmiss % 4 * 2 ^ 10 + f.evt % 2 ^ 32 * 2 ^ 32

/-- R439: a register of the management page as read. -/
def State.manageRead (s : State) (off : Nat) : Nat :=
  if off = 0x000 then s.flash.per + (if s.flash.en then 2 ^ 24 else 0)
  else if off = 0x008 then s.flash.hostBeat.toNat
  else if off = 0x010 then s.flash.addr
  else if off = 0x018 then s.flash.stat
  else 0

/-- R439: a register of the management page as written. -/
def State.manageWrite (s : State) (off val : Nat) : State :=
  if off = 0x000 then s.writeHbctl val
  else if off = 0x008 then s.writeBeat val
  else if off = 0x010 then { s with flash := { s.flash with addr := val % 2 ^ 57 / 64 * 64 } }
  else s

/-! ### Requests of the host (R437, R438) -/

/-- The operations of a host's memory request, by the model's codes 16 to 27 (DESIGN CHOICE, log 42). -/
def hostOp : Nat → Option AmoOp
  | 16 => some .swap | 17 => some .add | 18 => some .and | 19 => some .or | 20 => some .xor | 21 => some .min | 22 => some .max
  | 23 => some .minn | 24 => some .maxn | 25 => some .fadd | 26 => some .fmin | 27 => some .fmax | _ => none

/-- R289, R291: a request of the host for bytes of one sector: read (code 0), write (1), ownership (2), write-back (3),
an atomic (16 to 27), compare and swap (28: the expected value below the new one). -/
def State.hostMemory (s : State) (port op addr val size : Nat) : Option State :=
  let sec := addr / 64
  let old := s.read addr size
  let put (n : Nat) : State := (s.dirWrite sec hostCache).write addr (natBytes size n)
  if op = 0 then some ((s.dirRead sec hostCache).send (.hostReply port addr old))
  else if op = 1 then some ((put val).send (.hostReply port addr 0))
  else if op = 2 then some ((s.dirWrite sec hostCache).send (.hostReply port addr old))
  else if op = 3 then
    if s.sectorIn sec hostCache = .m ∨ s.sectorIn sec hostCache = .o then
      some ((((s.write addr (natBytes size val)).writtenBack sec).setSector sec hostCache .i).send (.hostReply port addr 0))
    else none
  else if op = 28 then
    some ((if old = val % 2 ^ (8 * size) then put (val / 2 ^ (8 * size)) else s.dirWrite sec hostCache).send (.hostReply port addr old))
  else (hostOp op).map (fun f => (put (f.apply size old val).1).send (.hostReply port addr old))

/-- The first address of the management page among the register pages; a function's page lies at 4096 times its number. -/
def managePage : Nat := 64 * 4096

/-- R455: the mailbox of the management page: its upper half (DESIGN CHOICE, log 73). -/
def inManageBox (addr size : Nat) : Bool :=
  decide (managePage + 0x800 ≤ addr) && decide (0 < size) && decide (size ≤ 8) && decide (addr + size ≤ managePage + 4096)

/-- R455: an access to the mailbox of the management page: read (code 32) or write (33). -/
def State.hostBox (s : State) (port op addr val size : Nat) : State :=
  let off := addr - managePage
  if op = 32 then s.send (.hostReply port addr (boxRead s.manageBox off size))
  else { s with manageBox := boxWrite s.manageBox off size val }.send (.hostReply port addr 0)

/-- R377, R438: an aligned access of 8 bytes to a register page: read (code 32) or write (33). -/
def State.hostRegister (s : State) (port op addr val size : Nat) : State :=
  let page := addr / 4096
  let off := addr % 4096
  let ok := decide (size = 8) && decide (addr % 8 = 0)
  if op = 32 then
    s.send (.hostReply port addr (if !ok then 0 else if page = 64 then s.manageRead off else s.notifyRead page off))
  else
    (if !ok then s else if page = 64 then s.manageWrite off val else s.notifyWrite page off val).send (.hostReply port addr 0)

/-- `HOST_REQUEST`, R437, R438, R441, R455: a request of the host on port 0 or 1, for memory on its sector's port; the recovery
loader serves only the mailbox of the management page. Ports 2 and 3 stand for writes that the
second host and the partner box make to their own memory (R292, R449). -/
def hostRequest (port op addr val size : Nat) (s : State) : Option State :=
  let one := decide (0 < size) && decide (size ≤ 64) && decide (addr % 64 + size ≤ 64)
  if port = 2 ∨ port = 3 then
    if op = 1 ∧ one ∧ addr < 2 ^ 64 then some (s.write (if port = 2 then pcieBase + addr else partnerBase + addr) (natBytes size val))
    else none
  else if 2 ≤ port ∨ !s.portUp port then none
  else if op = 32 ∨ op = 33 then
    if managePage + 4096 ≤ addr then none
    else if inManageBox addr size && decide (s.boot ≠ .reset) then some (s.hostBox port op addr val size)
    else if s.boot ≠ .running ∨ (s.flash.hfen ∧ addr < managePage) then some (s.send (.hostError port addr))
    else some (s.hostRegister port op addr val size)
  else if s.boot ≠ .running ∨ s.flash.hfen then some (s.send (.hostError port addr))
  else if !one ∨ 2 ^ 57 < addr + size ∨ s.portOf addr ≠ port then none
  else if s.linesHeld hostCache addr size (decide (op ≠ 0)) then none
  else s.hostMemory port op addr val size

/-- R437: a port goes down or comes up. -/
def portTo (p : Nat) (up : Bool) (s : State) : Option State :=
  if p < 2 ∧ s.portUp p ≠ up then some { s with ports := kput true p up s.ports } else none

/-- `LOSS_LIST_REGISTRATION`, R405. -/
def lossRegister (addr n vec : Nat) (s : State) : Option State :=
  if 16 ≤ n ∧ n ≤ 65536 ∧ addr + 64 + 16 * n ≤ 2 ^ 57 then
    let l : LossList := ⟨addr, n, 0, false, 0, vec % 2 ^ 11, []⟩
    some ({ s with loss := some l, regions := s.regions.map (fun (r : Nat × Region) => (r.1, { r.2 with evt := 0 })) }.ridgePost addr (natBytes 64 0) |>.writeLossHeader l)
  else none

/-! ### Events -/

/-- R438. -/
def execHostRequest (port op addr val size : Nat) (s : State) : Host.Outcome State Fault Refusal :=
  runEvent (hostRequest port op addr val size s) s

/-- R437. -/
def execUciePortDown (port : Nat) (s : State) : Host.Outcome State Fault Refusal := runEvent (portTo port false s) s

/-- R437. -/
def execUciePortUp (port : Nat) (s : State) : Host.Outcome State Fault Refusal := runEvent (portTo port true s) s

/-- R440, R455. -/
def execHbhostWrite (val : Nat) (s : State) : Host.Outcome State Fault Refusal := runEvent (s.booted (some (s.writeBeat val))) s

/-- R439, R440, R455: HBCTL written without `resume`. -/
def execHbctlEnable (val : Nat) (s : State) : Host.Outcome State Fault Refusal := runEvent (s.booted (some (s.writePeriod val))) s

/-- R441, R455. -/
def execHbctlResume (s : State) : Host.Outcome State Fault Refusal := runEvent (s.booted (hostResume s)) s

/-- R440. -/
def execFirmwareDeviceBeat (s : State) : Host.Outcome State Fault Refusal := runEvent (firmwareBeat s) s

/-- R440. -/
def execHeartbeatPeriod (s : State) : Host.Outcome State Fault Refusal := runEvent (heartbeat s) s

/-- R405, R455. -/
def execLossListRegistration (addr n vec : Nat) (s : State) : Host.Outcome State Fault Refusal :=
  runEvent (s.byFirmware 0 (lossRegister addr n vec s)) s

end Sys2Proof.Machine
end

