-- ==== Sys2Proof/Machine/Firmware.lean ====
section
/-! DEFINITION. Firmware, boot and errors (22_firmware): package reset and the ROM, firmware cores, attestation, errors of
memories and links, fatal errors, power. -/
namespace Sys2Proof.Machine

/-! ### Package reset (R454, R459) -/

/-- R406: what the L2 slices held dirty is gone: memory keeps what last reached the ridge cache. -/
def State.loseDirty (s : State) : State :=
  (s.dir.filter (fun e => decide (e.1 % 256 < 160) && (decide (e.2 = .m) || decide (e.2 = .o)))).foldl
    (fun (st : State) (e : Nat × Moesi) => st.loseSector (e.1 / 256)) s

/-- R454: the package is reset: host memory, what lies beyond the ports, the image slot and the fuses stay. -/
def State.packageReset (s : State) : State :=
  let s1 := s.loseDirty
  { State.reset with
    agenda := s.agenda, out := s.out, fresh := s.fresh, ports := s.ports, slotImage := s.slotImage, rollback := s.rollback,
    mem := s1.mem.filter (fun c => decide (c.1 < 2 ^ 63) || decide (2 ^ 64 ≤ c.1)) }

/-! ### Fatal errors (R459, R460) -/

/-- R460: the header of a dump. -/
def State.dumpHeader (s : State) (cause len : Nat) (parts : List (Nat × Nat)) : List Byte :=
  natBytes 8 (0x504D5544 + Config.dumpVersion.toNat * 2 ^ 32) ++ natBytes 8 len ++ natBytes 8 cause ++ natBytes 8 s.timeNs ++
    (parts ++ List.replicate (8 - parts.length) (0, 0)).flatMap (fun (p : Nat × Nat) => natBytes 4 p.1 ++ natBytes 4 p.2)

/-- R130, R460: a register of a strand in a dump: its 16 bytes, and a byte for its tag. -/
def registerBytes (v : TV) : List Byte := natBytes 16 v.bits.toNat ++ [if v.tag then 1#8 else 0#8]

/-- R130, R416: the registers of a strand that a dump holds, by the numbers of `Strand.retained`. -/
def dumpedRegisters : List Nat := upto 1 55 ++ upto 64 5 ++ upto 72 8 ++ upto 0x100 64 ++ upto 0x200 512 ++ upto 0x1000 1024

/-- R416: the registers of a core that a dump holds. -/
def Core.dumpWords (c : Core) : List Word :=
  [c.trapVec, c.xobound, c.spinBudget, c.barTimeout, c.xmon, c.memberReg, c.srSeed.setWidth 64, c.tieSeed]

/-- R458, R460: a core cannot be read: a lasting fault was found in its region, or in itself. -/
def State.unreadable (s : State) (k : Nat) : Bool :=
  match regionOf k with
  | some r => (s.region r).lasting
  | none => decide ((1, 32 + 8 * coreDie k + slotInCluster k) ∈ s.errorLog)

/-- R416, R460: the part of a dump for a core: its COREID, its registers, its occupied slots, each with its number and its
strand's registers. What cannot be read is filled with 0xFF (the layout is a DESIGN CHOICE, log 75). -/
def State.coreDump (s : State) (k : Nat) (c : Core) : List Byte :=
  let body := c.dumpWords.flatMap (fun w => natBytes 8 w.toNat) ++
    c.slots.flatMap (fun e => natBytes 8 e.1 ++ dumpedRegisters.flatMap (fun r => registerBytes ((e.2.settle s.now).retained r)))
  natBytes 8 (coreIdWord k) ++ (if s.unreadable k then body.map (fun _ => 0xFF#8) else body)

/-- R460: the cores of a dump: those that hold a strand. -/
def State.dumpCores (s : State) : List (Nat × Core) := s.cores.filter (fun e => !e.2.slots.isEmpty)

/-- R460: the parts that a dump cannot read are listed in the error log. -/
def State.logUnreadable (s : State) : State :=
  { s with errorLog := s.errorLog ++ ((s.dumpCores.filter (fun e => s.unreadable e.1)).map (fun e => (3, coreIdWord e.1))) }

/-- R460: the sections of a dump: core and strand state, queue records, status words, error logs, the loss list. -/
def State.dumpSections (s : State) : List (List Byte) :=
  [s.dumpCores.flatMap (fun e => s.coreDump e.1 e.2),
   (s.queues.filterMap (fun e => s.recordAt (e.1 / 256) (e.1 % 256))).flatMap (fun a => s.readBytes a 128),
   (List.range 20).flatMap (fun r => natBytes 8 (s.region r).statusWord),
   s.errorLog.flatMap (fun e => natBytes 8 e.1 ++ natBytes 8 e.2),
   match s.loss with
   | some l => s.readBytes l.addr (64 + 16 * l.cap)
   | none => []]

/-- R460: sections written one after the other from an offset: their places, and the end. -/
def State.putSections (s : State) (a off : Nat) (acc : List (Nat × Nat)) : List (List Byte) → State × List (Nat × Nat) × Nat
  | [] => (s, acc, off)
  | b :: r => (s.ridgeWrite (a + off) b).putSections a (off + b.length) (acc ++ [(off, b.length)]) r

/-- R459: the bytes that a dump's buffer needs. -/
def dumpBytes : Nat := 2 ^ 26

/-- R459, R460: the dump. -/
def State.dump (s : State) (cause : Nat) : State :=
  match s.dumpBuf with
  | none => s
  | some (a, size) =>
    if size < dumpBytes then s.ridgeWrite a (s.dumpHeader cause 0 [])
    else
      let r := s.putSections a 4096 [] s.logUnreadable.dumpSections
      r.1.ridgeWrite a (s.dumpHeader cause r.2.2 r.2.1)

/-- R459: a fatal error: the dump, then a reset of the package. -/
def State.fatal (s : State) (cause : Nat) : State := (s.dump cause).packageReset

/-! ### Boot (R451, R454, R455) -/

/-- A little-endian field of an image. -/
def imageField (l : List Byte) (off n : Nat) : Nat := bytesNat ((l.drop off).take n)

/-- R454: the body length of an image. -/
def imageLen (l : List Byte) : Nat := imageField l 12 4

/-- R454: the security version of an image. -/
def imageSvn (l : List Byte) : Nat := imageField l 8 4

/-- R454: the image passes the checks of the ROM. -/
def imageOk (l : List Byte) (fuses : Nat) : Bool :=
  let pk := (l.drop 16).take 64
  let total := 29872 + imageLen l
  decide (imageField l 0 4 = 0x41424D4F) && decide (total ≤ 4194304) && decide (total ≤ l.length) &&
    decide (shake256 pk = Config.fuseKeyHash) && decide (fuses ≤ imageSvn l) &&
    Config.slhVerify pk ((l.drop 80).take 29792) (l.take 80 ++ (l.drop 29872).take (imageLen l))

/-- R451, R452: the lowest-numbered core of a die's finial cluster that passes the test, of those not yet used: bit
8 die + i of `pass` stands for the core with `fslot` i (R453). -/
def firstPassing (pass die : Nat) (spent : List Nat) : Option Nat :=
  ((List.range 8).find? (fun i => decide (pass / 2 ^ (8 * die + i) % 2 = 1) && decide (coreOfSlot (160 + die) i ∉ spent))).map
    (coreOfSlot (160 + die))

/-- R454: the first byte of the firmware area. -/
def firmwareArea : Nat := Config.firmwarePage.toNat * 2 ^ 22

/-- R454: the bytes of the boot stage of an image: the first 256 KiB of its body (DESIGN CHOICE, log 76). -/
def stageBytes (len : Nat) : Nat := min len 0x40000

/-- R451: the strand that runs the boot stage: slot 0, from offset 0 of the core's scratchpad, with a capability that covers the
scratchpad with every permission (DESIGN CHOICE, log 76). -/
def bootStrand (base : Nat) : Strand :=
  { g := [], q := [], sh := [], h := [], y := [], pcc := mkCap base (2 ^ 19) 0 0 0x7F,
    chk := false, rm := 0#3, sr := 0#5, ovl := false, trapPc := 0#64, trapCause := 0#8, trapVal := 0#64, sid := 1#32,
    gid := 0, pri := 0, ceiling := 0, record := 0x1000, pend := [], pendFl := [], busy := [], nextIssue := 0, wait := none,
    granted := none, rep := none, loop := none, seqFail := none, lost := [], pendPush := none, popped := [], fabWindow := none }

/-- R452, R454: the boot stage of the image in the firmware area placed in a firmware core's scratchpad, and the core released. -/
def State.startFirmware (s : State) (k : Nat) : State :=
  let len := s.read (firmwareArea + 12) 4
  let stage := s.readBytes (firmwareArea + 29872) (stageBytes len)
  (s.putBytes (spadBase k) stage).setCore k
    { Core.init with slots := [(0, bootStrand (spadBase k))], xobound := 0x40000#64, fetchBound := 0x40000#64, cycleBase := s.now }

/-- R451, R454, R455, R456: the ROM after a package reset: the firmware core of each die is chosen, the signing key derived,
the image checked, and, where it passes, copied to the firmware area and its boot stage started. -/
def romBoot (pass : Nat) (s0 : State) : State :=
  let s := s0.packageReset
  match firstPassing pass 0 [], firstPassing pass 1 [], firstPassing pass 2 [], firstPassing pass 3 [] with
  | some a, some b, some c, some d =>
    let s1 := { s with fwCore := [(0, a), (1, b), (2, c), (3, d)], fwSpent := [a, b, c, d], bootKey := Config.deriveKey s.fresh,
                       fresh := s.fresh + 1 }
    if !imageOk s.slotImage s.rollback then { s1 with boot := .recovery }
    else
      { [a, b, c, d].foldl State.startFirmware (s1.putBytes firmwareArea (s.slotImage.take (29872 + imageLen s.slotImage))) with
        boot := .running }
  | _, _, _, _ => s.fatal 0x81

/-- `ROM_RECOVERY_IMAGE`, R455: the recovery loader takes a complete image of `len` bytes. -/
def recoveryImage (img len : Nat) (s : State) : Option State :=
  let l := natBytes (min len 4194304) img
  if s.boot = .recovery ∧ imageOk l s.rollback then some { s with slotImage := l }.packageReset else none

/-- R455: a write of the slot that is cut short after `n` bytes: the loader had accepted the image. -/
def State.slotCut (s : State) (img n : Nat) : State :=
  let l := natBytes (29872 + min (img / 2 ^ 96 % 2 ^ 32) 4194304) img
  if s.boot = .recovery ∧ imageOk l s.rollback ∧ n < l.length then { s with slotImage := l.take n }.packageReset else s

/-- `ROLLBACK_FUSE_SET`, R455: up to `n` fuses are set, no further than the firmware's own `svn`. -/
def rollbackSet (n : Nat) (s : State) : Option State :=
  if s.boot = .running ∧ s.rollback < n ∧ n ≤ imageSvn s.slotImage ∧ n ≤ 64 then some { s with rollback := n } else none

/-- R452: a finial core is reset: its strands stop, and what they have under way has no receiver. -/
def State.resetFinial (s : State) (k : Nat) : State :=
  ({ s.setCore k Core.init with
    accesses := s.accesses.filter (fun a => decide (a.2.core ≠ k)),
    refusals := s.refusals.filter (fun a => decide (a.2.src.core ≠ k)),
    flights := s.flights.filter (fun f => decide (f.2.src.core ≠ k)) } : State).dropEnded s

/-- `FIRMWARE_BEAT_MISS`, R452, R459: the ridge die resets a firmware core that has missed three beats, and a spare that passes
the test (bit i of `pass` for `fslot` i) takes over and restarts from the image in the firmware area. -/
def beatMiss (die pass : Nat) (s : State) : Option State :=
  if s.boot = .running ∧ die < 4 ∧ 3 ≤ kget 0 die s.fwMissed then
    match firstPassing (pass * 2 ^ (8 * die)) die s.fwSpent with
    | some k =>
      let s1 := match kfind die s.fwCore with
        | some old => s.resetFinial old
        | none => s
      some { (s1.startFirmware k) with
        fwCore := kset die k s1.fwCore, fwSpent := sadd k s1.fwSpent, fwMissed := kdel die s1.fwMissed, fwSilent := sdel die s1.fwSilent }
    | none => some (s.fatal 0x81)
  else none

/-- R452: a firmware core is still running when it makes its beat: it is not *halted* (R434), and not silent. -/
def State.beats (s : State) (die : Nat) : Bool :=
  decide (die ∉ s.fwSilent) && !((kfind die s.fwCore).map (fun k => (s.core k).halted)).getD true

/-- R452: once per millisecond the internal beat of each die is due; the ridge die counts those missed in a row. -/
def State.internalBeats (s : State) : State :=
  if s.boot = .running ∧ s.fwBeatAt ≤ s.now then
    { s with
      fwBeatAt := s.now + 1700000,
      fwMissed := (List.range 4).foldl (fun (l : List (Nat × Nat)) d =>
        if s.beats d then kdel d l else kset d (min 3 (kget 0 d l + 1)) l) s.fwMissed }
  else s

/-! ### Attestation (R456) -/

/-- R456: the algorithms that both sides name: 1 for SHAKE256 and 1 for SLH-DSA-SHAKE-256s. -/
def negotiated (hash sig : Nat) : List Nat := [hash % 2, sig % 2]

/-- R456: the answer to GET_MEASUREMENTS: index 0 asks how many there are, 0xFF asks for all. -/
def State.measurements (s : State) (idx : Nat) : List Nat :=
  if idx = 0 then [measurementIndexes.length]
  else if idx = 0xFF then byteNumbers (measurementIndexes.filterMap s.measurement).flatten
  else byteNumbers ((s.measurement idx).getD [])

/-- R456: the device answers an SPDM request while its firmware runs. -/
def spdm (code : Nat) (vals : List Nat) (s : State) : Option State :=
  if s.boot = .running then some (s.send (.spdm code vals)) else none

/-! ### Checks and retry (R409, R458) -/

/-- R409, R458: a transient fault of a region, counted in its status word; one outside every region, counted for the ridge die. -/
def State.transient (s : State) (r : Nat) : State :=
  if r < 20 then s.regionTo r (fun x => { x with ntr := min (x.ntr + 1) 0xFFFF }) else { s with ntr := min (s.ntr + 1) 0xFFFF }

/-- R452, R458, R459: a lasting fault in a finial core: no firmware runs on it any more. Where it is its die's firmware core it
makes no more beats, and a spare takes over; with no spare left it is fatal. -/
def State.finialFault (s : State) (k : Nat) : State :=
  let die := coreDie k
  let s1 := { s with fwSpent := sadd k s.fwSpent }
  if kfind die s.fwCore ≠ some k then s1
  else if (coresOfCluster (160 + die)).all (fun j => decide (j ∈ s1.fwSpent)) then s1.fatal 0x81
  else { s1 with fwSilent := sadd die s1.fwSilent }

/-- R391, R409, R458, R459, R460: a lasting fault, noted in the error log: in a region of a partition it resets the partition with
cause 0x44, and the region ends in *quarantined*; components 32 to 63 are the finial cores by die and `fslot`; elsewhere it is
fatal. -/
def State.lastingFault (s0 : State) (r : Nat) : State :=
  let s := { s0 with errorLog := s0.errorLog ++ [(1, r)] }
  if 32 ≤ r ∧ r < 64 then s.finialFault (coreOfSlot (160 + (r - 32) / 8) ((r - 32) % 8))
  else if 20 ≤ r then s.fatal 0x80
  else
    let s1 := s.setRegion r { s.region r with lasting := true }
    match (s.region r).st, (s.region r).part with
    | .assigned, some p => s1.resetPartition p 0x44
    | _, _ => s1

/-- R458: a fault found; `clean` says that the second read or transmission is good. -/
def faultFound (r clean : Nat) (s : State) : Option State :=
  if r < 20 ∧ (s.region r).st = .off then none
  else some (if clean ≠ 0 then s.transient r else s.lastingFault r)

/-! ### Power (R461) -/

/-- `POWER_PACING_TICK`, R461: `pwr` W over the last 100 ms; pacing in steps of one-sixteenth, one every 1 ms. -/
def pacingTick (pwr : Nat) (s : State) : Option State :=
  if s.pacingAt ≤ s.now then
    some { s with pwr := pwr, pacing := if s.pwrLim < pwr then min 15 (s.pacing + 1) else s.pacing - 1, pacingAt := s.now + 1700000 }
  else none

/-! ### Settings of firmware, and requests from outside beside the table of events -/

/-- The nearest number of a range. -/
def clamp (lo hi n : Nat) : Nat := max lo (min hi n)

/-- R410: the block of status words registered: every word is written. -/
def State.registerStatus (s : State) (addr : Nat) : State :=
  if addr % 8 = 0 ∧ addr + 160 ≤ 2 ^ 57 then
    (List.range 20).foldl (fun (st : State) r => st.putStatus r) { s with statusBlock := some addr }
  else s

/-- R456: the code of an SPDM error answer, and what it says: an unsupported request. -/
def spdmError : Nat := 0x7F
def spdmUnsupported : Nat := 0x07

/-- R451, R455: the inputs that the firmware acts on; the others reach the package whether it runs or not. -/
def Input.forFirmware : Input → Bool
  | .firmwareSilent _ | .slotWriteCut _ _ | .configRead _ | .configWrite _ _ | .manageReply _ _ _ | .allocation _ _
  | .globalInvalidation | .invalidationNoPasid _ => false
  | _ => true

/-- A setting of firmware, taken to the nearest value of its range (R293, R389, R391, R417), or a request from outside; one that
the device does not support is refused as its standard says (R10). -/
def State.takeInput (s : State) : Input → State
  | .quantum pri n => if pri < 8 then { s with quanta := kset pri (clamp 1700 17000000 n) s.quanta } else s
  | .tenure n => { s with tenure := n }
  | .watchdog n => { s with watchdog := clamp 17000000 102000000000 n }
  | .holdLimit n => { s with holdLimit := n }
  | .window p units => if p < 20 then s.setWindow p units else s
  | .gutter n => { s with gutterSize := clamp 4096 1048576 n }
  | .partWays p m => s.updPartition p (fun x => { x with ways := m % 2 ^ 32 })
  | .portWays p m => if p < 2 then { s with portWays := kset p (m % 2 ^ 32) s.portWays } else s
  | .contextWays a b => { s with contextWays := (a % 2 ^ 32, b % 2 ^ 16) }
  | .statusBlock a => s.registerStatus a
  | .windowLength n => { s with fabricL := clamp 1 64 n }
  | .dumpBuffer a n => if a + n ≤ 2 ^ 57 then { s with dumpBuf := some (a, n) } else s
  | .allocation vf n => if vf < 64 then s.updVf vf (fun v => { v with alloc := min n 64 }) else s
  | .globalInvalidation => s.send (.atsUnsupported physFunction)
  | .invalidationNoPasid vf => s.send (.atsUnsupported vf)
  | .tdispOther vf code => if vf < 64 then s.send (.tdisp tdispRefused vf [code]) else s
  | .spdmOther code => s.send (.spdm spdmError [spdmUnsupported, code])
  | .configRead reg =>
    if s.pcieUp then { s with fresh := s.fresh + 1 }.send (.pcieConfig reg (Config.configRegister s.fresh).toNat) else s
  | .configWrite reg _ => if s.pcieUp then s.send (.pcieConfig reg 0) else s
  | .mailboxReply off n val => if off + n ≤ 4096 then { s with mailbox := boxWrite s.mailbox off n val } else s
  | .manageReply off n val =>
    if 0x800 ≤ off ∧ off + n ≤ 4096 ∧ s.boot ≠ .reset then { s with manageBox := boxWrite s.manageBox off n val } else s
  | .firmwareSilent die => if die < 4 then { s with fwSilent := sadd die s.fwSilent } else s
  | .slotWriteCut img n => s.slotCut img n

/-- An input; R452, R455: one for the firmware has no effect while no firmware of die 0 runs. -/
def State.input (s : State) (a : Input) : State := if a.forFirmware && !s.firmwareRuns 0 then s else s.takeInput a

/-! ### Events -/

/-- R451, R454. -/
def execPackageReset (pass : Nat) (s : State) : Host.Outcome State Fault Refusal := .next (romBoot pass s)

/-- R455. -/
def execRomRecoveryImage (img len : Nat) (s : State) : Host.Outcome State Fault Refusal := runEvent (recoveryImage img len s) s

/-- R455. -/
def execRollbackFuseSet (n : Nat) (s : State) : Host.Outcome State Fault Refusal := runEvent (s.byFirmware 0 (rollbackSet n s)) s

/-- R452. -/
def execFirmwareBeatMiss (die pass : Nat) (s : State) : Host.Outcome State Fault Refusal := runEvent (beatMiss die pass s) s

/-- R459. -/
def execFatalError (cause : Nat) (s : State) : Host.Outcome State Fault Refusal := .next (s.fatal cause)

/-- R456: version 1.2. -/
def execSpdmGetVersion (s : State) : Host.Outcome State Fault Refusal := runEvent (spdm 1 [0x12] s) s

/-- R456. -/
def execSpdmGetCapabilities (s : State) : Host.Outcome State Fault Refusal := runEvent (spdm 2 [] s) s

/-- R456. -/
def execSpdmNegotiateAlgorithms (hash sig : Nat) (s : State) : Host.Outcome State Fault Refusal :=
  runEvent (spdm 3 (negotiated hash sig) s) s

/-- R456. -/
def execSpdmGetDigests (s : State) : Host.Outcome State Fault Refusal := runEvent (spdm 4 (byteNumbers (shake256 Config.certChain)) s) s

/-- R456. -/
def execSpdmGetCertificate (s : State) : Host.Outcome State Fault Refusal :=
  runEvent (spdm 5 (Config.certChain.map (·.toNat)) s) s

/-- R456: the challenge is signed. -/
def execSpdmChallenge (nonce : Nat) (s : State) : Host.Outcome State Fault Refusal :=
  runEvent (spdm 6 (byteNumbers (Config.slhSign s.bootKey (natBytes 32 nonce))) s) s

/-- R456. -/
def execSpdmGetMeasurements (idx : Nat) (s : State) : Host.Outcome State Fault Refusal :=
  runEvent (spdm 7 (s.measurements idx) s) s

/-- R458. -/
def execSramSingleBitError (reg : Nat) (s : State) : Host.Outcome State Fault Refusal := runEvent (faultFound reg 1 s) s

/-- R458. -/
def execSramDoubleBitError (reg clean : Nat) (s : State) : Host.Outcome State Fault Refusal := runEvent (faultFound reg clean s) s

/-- R458. -/
def execLinkCrcFailure (reg clean : Nat) (s : State) : Host.Outcome State Fault Refusal := runEvent (faultFound reg clean s) s

/-- R461. -/
def execPowerPacingTick (pwr : Nat) (s : State) : Host.Outcome State Fault Refusal := runEvent (pacingTick pwr s) s

end Sys2Proof.Machine
end

