-- ==== Sys2Proof/Machine/Link.lean ====
section
/-! DEFINITION. The PCI Express endpoint (R443, R444) and the Eave link (R445 to R450). -/
namespace Sys2Proof.Machine

/-! ### The endpoint (R443, R444) -/

/-- R444: an outstanding request through an aperture fails with remote error (0x10): precisely where it returns a value,
under R150 where it is posted; that of an engine as its chapter states. -/
def requestFails (n : Nat) (s : State) : Option State :=
  match kfind n s.accesses with
  | none => s.answerRequest n (some 0x10)
  | some a =>
    if a.phase ≠ .sent then none
    else
      let s1 := { s with accesses := kset n { a with phase := .refused 0x10 } s.accesses }
      if a.kind.posted then postedPerformed n s1 else dataReturn n s1

/-- R292: the request is one that a completion answers: every form but a memory write. -/
def AccessKind.completes : AccessKind → Bool
  | .store _ _ => false
  | .shpStore _ => false
  | _ => true

/-- `PCIE_ERROR_COMPLETION`, R444. -/
def errorCompletion (n : Nat) (s : State) : Option State :=
  if ((kfind n s.accesses).map (·.kind.completes)).getD true then requestFails n s else none

/-- R6, R444: 50 ms in cycles. -/
def completionTimeout : Nat := 85000000

/-- `PCIE_COMPLETION_TIMEOUT`, R444. -/
def timeoutCompletion (n : Nat) (s : State) : Option State :=
  match ((kfind n s.accesses).map (·.sentAt)).or ((kfind n s.requests).map (·.sentAt)) with
  | some t => if t + completionTimeout ≤ s.now then errorCompletion n s else none
  | none => none

/-- `PCIE_LINK_DOWN`, R444: requests under way have no completion any more. -/
def pcieDown (s : State) : Option State :=
  if s.pcieUp then
    some { s with
      pcieUp := false,
      requests := s.requests.map (fun e => (e.1, { e.2 with answer := e.2.answer.or (some (some 0x10)) })),
      accesses := s.accesses.map (fun e =>
        (e.1, if e.2.phase = .sent then { e.2 with phase := .refused 0x10 } else e.2)) }
  else none

/-- `PCIE_LINK_UP`, R443. -/
def pcieTrained (s : State) : Option State := if s.pcieUp then none else some { s with pcieUp := true }

/-- `PCIE_INBOUND_MAILBOX`, R443: a read (`op` even) or write (odd) of bytes of BAR0, `op / 2` of them, 8 where that is 0 (DESIGN
CHOICE, log 73). A read gives the bytes that stand there, of the host or of the firmware. -/
def mailbox (op off val : Nat) (s : State) : Option State :=
  let n := if op / 2 = 0 then 8 else op / 2
  if !s.pcieUp || decide (4096 < off + n) then none
  else if op % 2 = 0 then some (s.send (.pcieMailbox off (boxRead s.mailbox off n)))
  else some { s with mailbox := boxWrite s.mailbox off n val }

/-- `APERTURE_PROGRAM`, R444: one of eight apertures; a size of 0 clears it. -/
def programAperture (idx base size bus : Nat) (s : State) : Option State :=
  if idx < 8 ∧ base % 4096 = 0 ∧ size % 4096 = 0 ∧ base + size ≤ 2 ^ 57 ∧ bus + size ≤ 2 ^ 64 then
    some { s with apertures := if size = 0 then kdel idx s.apertures else kset idx ⟨base, size, bus⟩ s.apertures }
  else none

/-! ### Leaving *up* and *degraded* (R294, R450) -/

/-- R449: the command's remote side lies on a fabric page: it was found there, or would be found there now. -/
def State.isFabric (s : State) (c : CopyCmd) : Bool :=
  c.fabric.isSome || c.rowsAt.any (fun r => r.2.any (fun p => isPartner p.1)) ||
    match s.placeAs c.ids c.src.core (capAddr c.remote) 1 (!c.gets) false with
    | .fabric _ => true
    | _ => false

/-- R450: a fabric command that has not finished ends with remote error. -/
def State.failFabric (s : State) (c : CopyCmd) : CopyCmd :=
  if (c.status.isNone || c.seg) && s.isFabric c then
    { c with status := some (0x10, (c.remoteRow c.row % 2 ^ 64).toNat), seg := false, rowsAt := [], started := true }
  else c

/-- R294, R450: what a strand waits for when the link leaves *up* and *degraded*: a fabric window, or a level-3 `sync` of a
joined partition. -/
def State.linkWaits (s : State) (k : Nat) (t : Strand) : Bool :=
  t.granted.isNone &&
    match t.wait with
    | some ⟨.fenceWin, _, _, _⟩ => true
    | some ⟨.sync 3, _, _, _⟩ => ((s.partOfCore k).map s.joined).getD false
    | _ => false

/-- R450: the waiting strands of a core trap with 0x10. -/
def State.failWaits (s : State) (k : Nat) : State :=
  (List.range 4).foldl (fun (st : State) sl =>
    match st.strand k sl with
    | some t =>
      if st.linkWaits k t then st.freeWord.2.faultStrand k sl 0x10 st.freeWord.1 t.pc.toNat else st
    | none => st) s

/-- R445, R450: the link leaves *up* or *degraded* for another state. -/
def State.linkLost (s : State) (st : LinkState) : State :=
  let s1 := { s with
    clusters := s.clusters.map (fun (c : Nat × Cluster) => (c.1, { c.2 with copies := c.2.copies.map s.failFabric })),
    eave := { s.eave with st := st, replay := [] } }
  (s1.cores.map (·.1)).foldl (fun (u : State) k => u.failWaits k) s1

/-! ### Link states (R445, R446) -/

/-- R445: lanes of the link, over both ports. -/
def Link.lanes (e : Link) : Nat := e.ports.1 + e.ports.2

/-- R445: a port runs 16, 8 or 4 lanes, or none. -/
def portLanes (n : Nat) : Bool := decide (n ∈ [0, 4, 8, 16])

/-- R445: the lanes of the two ports that an event names, the second times 64 (DESIGN CHOICE, log 16). -/
def portPair (n : Nat) : Nat × Nat := (n % 64, n / 64)

/-- R445: 100 ms in cycles. -/
def trainingLimit : Nat := 170000000

/-- R448: 125 µs in cycles. -/
def syncPeriod : Nat := 212500

/-- R445, R446: training begins, and this box sends its identity. -/
def State.train (s : State) : State :=
  { s with eave := { Link.idle with st := .training, partner := s.eave.partner, since := s.now, syncAt := s.now } }.send
    (.eaveIdentity Config.linkIdentity)

/-- `LINK_ENABLE`: *down* to *training*. -/
def linkEnable (s : State) : Option State := if s.eave.st = .down then some s.train else none

/-- `LINK_TRAINED`: 8 lanes or more are up, the partner is authenticated, the time offset is within 100 ns. -/
def linkTrained (lanes auth skew pid : Nat) (s : State) : Option State :=
  let p := portPair lanes
  if s.eave.st = .training ∧ portLanes p.1 ∧ portLanes p.2 ∧ 8 ≤ p.1 + p.2 ∧ auth ≠ 0 ∧ skew ≤ 100 then
    some { s with eave := { s.eave with st := if p.1 + p.2 = 32 then .up else .degraded, ports := p, partner := some pid,
                                        beatAt := s.now + s.flash.cycles, heard := false, missed := 0 } }
  else none

/-- `LINK_TRAINING_FAIL`: the cause is logged: 1 too few lanes after 100 ms, 2 the authentication before. -/
def trainingFail (s : State) : Option State :=
  if s.eave.st = .training then
    some { s with
      eave := { s.eave with st := .down, ports := (0, 0) },
      errorLog := s.errorLog ++ [(2, if s.eave.since + trainingLimit ≤ s.now then 1 else 2)] }
  else none

/-- `LANE_DROP`: the lanes that are left. -/
def laneDrop (lanes : Nat) (s : State) : Option State :=
  let p := portPair lanes
  if s.linkUp ∧ portLanes p.1 ∧ portLanes p.2 ∧ p.1 ≤ s.eave.ports.1 ∧ p.2 ≤ s.eave.ports.2 ∧ p.1 + p.2 < s.eave.lanes then
    let s1 := { s with eave := { s.eave with ports := p } }
    some (if p.1 + p.2 < 8 then s1.linkLost .fenced else { s1 with eave := { s1.eave with st := .degraded } })
  else none

/-- `LINK_RETRAIN`. -/
def linkRetrain (s : State) : Option State :=
  match s.eave.st with
  | .degraded => some { s with eave := { s.eave with st := .up, ports := (16, 16) } }
  | .fenced => some s.train
  | _ => none

/-- R445: the link is fenced. -/
def linkFence (s : State) : Option State := if s.linkUp then some (s.linkLost .fenced) else none

/-- `PARTNER_BEAT_MISS`, R445: three beats of the partner have been missed in a row. -/
def partnerMissed (s : State) : Option State := if 3 ≤ s.eave.missed then linkFence s else none

/-- `LINK_DOWN`. -/
def linkDown (s : State) : Option State :=
  if s.linkUp then some (({ s with eave := { s.eave with ports := (0, 0) } } : State).linkLost .down)
  else if s.eave.st = .down then none
  else some { s with eave := { s.eave with st := .down, ports := (0, 0) } }

/-- `PARTITION_JOIN`, R446, R449: firmware joins a partition to one of the partner box, one partition in all. -/
def partitionJoin (part base l3 : Nat) (s : State) : Option State :=
  if s.linkUp ∧ s.partitions.all (fun e => decide (e.1 = part) || e.2.join.isNone) ∧ base % 2 ^ 44 = 0 ∧ base < 2 ^ 57 ∧ l3 < 2 ^ 16 ∧ (s.partition part).isSome then
    some (s.updPartition part (fun p => { p with join := some (base, l3) }))
  else none

/-! ### Flits (R447, R448) -/

/-- R447: flits up to `n` are acknowledged. -/
def ackUpTo (n : Nat) (l : List HeldFlit) : List HeldFlit :=
  if l.any (fun e => decide (e.seq = n)) then (l.dropWhile (fun e => decide (e.seq ≠ n))).drop 1 else l

/-- R447: an acknowledgement of flits up to `n`. -/
def State.acked (s : State) (n : Nat) : State := { s with eave := { s.eave with replay := ackUpTo n s.eave.replay } }

/-- R445, R447: every flit not acknowledged is sent again; one sent again 16 times fences the link. -/
def State.resend (s : State) : State :=
  let l := s.eave.replay.map (fun e => { e with times := e.times + 1 })
  let s1 := { s with eave := { s.eave with replay := l }, out := s.out ++ l.map (fun e => OutMsg.eaveFlit e.flit) }
  if l.any (fun e => decide (16 ≤ e.times)) then s1.linkLost .fenced else s1

/-- R449: where an aperture offset of a partition decodes, or the refusal. -/
def State.fabricTarget (s : State) (part o n : Nat) : Nat ⊕ Nat :=
  if !s.joined part then .inr 0x11
  else if o / 2 ^ 42 = 0 then (if o + n ≤ s.windowOf (some part) then .inl (privBase part + o) else .inr 0x04)
  else if o / 2 ^ 42 = 1 ∧ o / 2 ^ 30 % 2 ^ 12 = 0 ∧ o / 2 ^ 23 % 32 ≤ 19 ∧ o % 2 ^ 19 + n ≤ 2 ^ 19 then
    let k := coreAt (o / 2 ^ 28 % 4) (o / 2 ^ 23 % 32) (o / 2 ^ 19 % 16)
    let loc := spadBase k + o % 2 ^ 19
    if s.partOfCore k ≠ some part then .inr 0x11
    else if (regionOf k).any (s.regionShut ·) then .inr 0x10
    else if s.belowBound loc then .inr 0x05
    else .inl loc
  else .inr 0x04

/-- R272: the operation of a reduction by its code and width: code and element size. -/
def fabricOp : Nat → AmoOp
  | 0 => .add | 1 => .fadd | 2 => .min | _ => .max

/-- R268, R273, R277, R449: a segment slot placed for the partner, as a message is; none while it must wait, and the cause of its
refusal. No strand of this box has sent it. -/
def State.fabricSegment (s : State) (loc e val : Nat) : Option (Nat × State) :=
  let h := spadCore loc
  let m : Message := ⟨e, BitVec.ofNat 128 val, ⟨h, 0, 0#32, endedGroup, 0, 0⟩, BitVec.ofNat 64 loc, none, s.nextAccess⟩
  if !isSpad loc then some (0x14, s)
  else if (s.core h).frozen then
    if !s.gutterRoom h 16 then none
    else if s.frontOfPort h s.nextAccess then some (0, s.updCore h (fun c => { c with gutter := c.gutter ++ [.message m] }))
    else some (0, s.enterInbox h m)
  else if (s.chan h e).isNone then some (0x14, s)
  else
    match (if s.portTurn h e s.nextAccess then s.placeSlot h e (natBytes 16 val) else none) with
    | some s1 => some (0, s1)
    | none => if s.messagesFor h < 16 then some (0, s.enterInbox h m) else none

/-- R447, R449: the answer to an access of the partner: the cause of its refusal or 0, bytes, data. -/
def State.answerPartner (s : State) (cause n val : Nat) : State := s.sendFlit 0 1 (Config.flitAnswer cause n val)

/-- R272, R273, R449: one access of the partner: kind 0 writes, 1 reads, 2 to 9 reduce, 10 places a segment slot of entry
`n`. Every access but a write that is performed is answered by a flit, and waits while 1,024 flits are held. -/
def State.fabricAccess (s : State) (x : Nat × Nat × Nat × Nat × Nat) : Option State :=
  let (kind, part, o, n, val) := x
  let size := if kind = 10 then 16 else if 2 ≤ kind ∧ kind ≤ 9 then (if 6 ≤ kind then 8 else 4) else n
  if !s.flitRoom then none
  else
    match s.fabricTarget part o size with
    | .inr c => some (s.answerPartner c 0 0)
    | .inl loc =>
      if s.linesHeld ridgeCluster loc size (decide (kind ≠ 1)) then none
      else if kind = 0 then some (s.ridgeWrite loc (natBytes n val))
      else if kind = 1 then some ((s.touch ridgeCluster loc n false).answerPartner 0 n (s.read loc n))
      else if kind ≤ 9 then
        let r := s.atomicAt ridgeCluster loc size 4 (fabricOp ((kind - 2) % 4)) val
        some (r.2.2.answerPartner 0 size r.2.1.toNat)
      else if kind = 10 then (s.fabricSegment loc n val).map (fun r => r.2.answerPartner r.1 0 0)
      else some s

/-- R447: the accesses of a flit, in order; none while one must wait. -/
def State.fabricAccesses (s : State) : List (Nat × Nat × Nat × Nat × Nat) → Option State
  | [] => some s
  | x :: l => (s.fabricAccess x).bind (·.fabricAccesses l)

/-- `PTP_SYNC`, R448: box 1 takes the master's time; R445: an offset over 1 µs fences a link that is *up* or *degraded*. -/
def ptpSync (time : Nat) (s : State) : Option State :=
  let off := (time : Int) - (s.timeNs : Int)
  if (s.linkUp || decide (s.eave.st = .training)) && !s.firstBox then
    if s.linkUp && decide (1000 < off.natAbs) then some (s.linkLost .fenced) else some { s with timeAdj := s.timeAdj + off }
  else none

/-- R447: what a flit received in order brings, by its class; none while it must wait. -/
def State.flitBrings (s : State) (cls payload : Nat) : Option State :=
  match cls with
  | 0 =>
    if !s.linkUp then some s
    else (s.fabricAccesses (Config.flitWrites payload)).bind (fun u => if u.flitRoom then some (u.sendFlit 0 1 []) else none)
  | 2 => some ((ptpSync (Config.syncTime payload) s).getD s)
  | 3 => some (if Config.isBeat payload then { s with eave := { s.eave with heard := true } } else s)
  | _ => some s

/-- `FLIT_RECEIVE`, R447: a flit arrives, byte b in bits 8b to 8b + 7. One whose CRC fails or whose number is out of order is
dropped and answered by a `nak`. -/
def flitReceive (f : Nat) (s : State) : Option State :=
  let seq := flitField f 0 12
  if !s.linkUp && !decide (s.eave.st = .training) then none
  else if !flitOk f ∨ seq ≠ s.eave.recvSeq then some (if s.flitRoom then s.sendFlit 1 1 [] else s)
  else
    let s1 := ({ s with eave := { s.eave with recvSeq := (seq + 1) % 4096 } } : State).acked (flitField f 12 12)
    (s1.flitBrings (flitField f 25 2) (flitPayload f)).map (fun u => if flitField f 24 1 = 1 then u.resend else u)

/-- `FLIT_NAK`, R447. -/
def flitNak (ack : Nat) (s : State) : Option State := if s.linkUp then some (s.acked ack).resend else none

/-- R447: the flit carries fabric data, and window N + 2 after its own has begun. -/
def HeldFlit.late (e : HeldFlit) (now : Nat) : Bool := decide (flitField e.flit 25 2 = 0) && decide (e.window + 2 ≤ now)

/-- `FLIT_ACK_TIMEOUT`, R447: a data flit sent in window N is not acknowledged before window N + 2 begins. -/
def flitTimeout (s : State) : Option State :=
  if s.linkUp && s.eave.replay.any (·.late s.windowNow) then some (s.linkLost .fenced) else none

/-! ### What the link does by itself (R445, R448) -/

/-- R445: at the end of each period the firmware's beat goes over the link, and a partner that was not heard has missed one. -/
def State.linkBeat (s : State) : State :=
  let e := s.eave
  if s.linkUp && decide (e.beatAt ≤ s.now) then
    let s1 := { s with eave := { e with beatAt := s.now + s.flash.cycles, heard := false, missed := missed e.heard e.missed } }
    if s1.flitRoom && s1.firmwareRuns 0 then s1.sendFlit 0 3 Config.beatWords else s1
  else s

/-- R448: the master sends a sync message every 125 µs. -/
def State.linkSync (s : State) : State :=
  let e := s.eave
  if (s.linkUp || decide (e.st = .training)) && s.firstBox && decide (e.syncAt ≤ s.now) && s.flitRoom then
    { s with eave := { e with syncAt := s.now + syncPeriod } }.sendFlit 0 2 (Config.syncWords s.timeNs)
  else s

/-! ### Events -/

/-- R443. -/
def execPcieInboundMailbox (op off val : Nat) (s : State) : Host.Outcome State Fault Refusal := runEvent (mailbox op off val s) s

/-- R443. -/
def execPcieInboundUnsupported (s : State) : Host.Outcome State Fault Refusal :=
  runEvent (if s.pcieUp then some (s.send .pcieUnsupported) else none) s

/-- R444. -/
def execPcieErrorCompletion (n : Nat) (s : State) : Host.Outcome State Fault Refusal := runEvent (errorCompletion n s) s

/-- R444. -/
def execPcieCompletionTimeout (n : Nat) (s : State) : Host.Outcome State Fault Refusal := runEvent (timeoutCompletion n s) s

/-- R444. -/
def execPcieLinkDown (s : State) : Host.Outcome State Fault Refusal := runEvent (pcieDown s) s

/-- R443. -/
def execPcieLinkUp (s : State) : Host.Outcome State Fault Refusal := runEvent (pcieTrained s) s

/-- R444. -/
def execApertureProgram (idx base size bus : Nat) (s : State) : Host.Outcome State Fault Refusal :=
  runEvent (s.byFirmware 0 (programAperture idx base size bus s)) s

/-- R445. -/
def execLinkEnable (s : State) : Host.Outcome State Fault Refusal := runEvent (s.byFirmware 0 (linkEnable s)) s

/-- R445. -/
def execLinkTrained (lanes auth skew pid : Nat) (s : State) : Host.Outcome State Fault Refusal :=
  runEvent (linkTrained lanes auth skew pid s) s

/-- R445. -/
def execLinkTrainingFail (s : State) : Host.Outcome State Fault Refusal := runEvent (trainingFail s) s

/-- R445. -/
def execLaneDrop (lanes : Nat) (s : State) : Host.Outcome State Fault Refusal := runEvent (laneDrop lanes s) s

/-- R445. -/
def execLinkRetrain (s : State) : Host.Outcome State Fault Refusal := runEvent (s.byFirmware 0 (linkRetrain s)) s

/-- R445. -/
def execPartnerBeatMiss (s : State) : Host.Outcome State Fault Refusal := runEvent (partnerMissed s) s

/-- R445. -/
def execTimeOffsetExceeded (s : State) : Host.Outcome State Fault Refusal := runEvent (linkFence s) s

/-- R445, R450. -/
def execLinkDown (s : State) : Host.Outcome State Fault Refusal := runEvent (linkDown s) s

/-- R447. -/
def execFlitReceive (flit : Nat) (s : State) : Host.Outcome State Fault Refusal := runEvent (flitReceive flit s) s

/-- R447. -/
def execFlitNak (ack : Nat) (s : State) : Host.Outcome State Fault Refusal := runEvent (flitNak ack s) s

/-- R447. -/
def execFlitAckTimeout (s : State) : Host.Outcome State Fault Refusal := runEvent (flitTimeout s) s

/-- R448. -/
def execPtpSync (time : Nat) (s : State) : Host.Outcome State Fault Refusal := runEvent (ptpSync time s) s

/-- R446. -/
def execPartitionJoin (part base l3 : Nat) (s : State) : Host.Outcome State Fault Refusal :=
  runEvent (s.byFirmware 0 (partitionJoin part base l3 s)) s

end Sys2Proof.Machine
end

