-- ==== Sys2Proof/Machine/MulDiv.lean ====
section
/-! DEFINITION. Multiply, divide and multiply-add (R105 to R107). -/
namespace Sys2Proof.Machine

/-- R106: bits 127 to 64 of a product. -/
def highWord (p : Int) : Word := BitVec.ofInt 64 (p / 2 ^ 64)

/-- R107: the signed quotient, rounded toward zero; all ones for a divisor of zero; −2^63 ÷ −1 wraps. -/
def quotS (w : Nat) (x y : BitVec w) : BitVec w := if y = 0#w then BitVec.allOnes w else BitVec.ofInt w (x.toInt.tdiv y.toInt)

/-- R107: the natural quotient. -/
def quotN (w : Nat) (x y : BitVec w) : BitVec w := if y = 0#w then BitVec.allOnes w else BitVec.ofNat w (x.toNat / y.toNat)

/-- R106, R107: the signed remainder, of the dividend's sign; the dividend for a divisor of zero. -/
def remS (w : Nat) (x y : BitVec w) : BitVec w := if y = 0#w then x else BitVec.ofInt w (x.toInt.tmod y.toInt)

/-- R106, R107: the natural remainder. -/
def remN (w : Nat) (x y : BitVec w) : BitVec w := if y = 0#w then x else BitVec.ofNat w (x.toNat % y.toNat)

/-- R106: a 32-bit operation on the low halves, sign-extended. -/
def halfOp (f : BitVec 32 → BitVec 32 → BitVec 32) (x y : Word) : Word := (f (x.setWidth 32) (y.setWidth 32)).signExtend 64

/-! ### R106, R107: op 0x02; `mul` and `mulw` of latency 3, the others interlocked -/

/-- `mul`, R106, R107. -/
def execMul (d a b : BitVec 6) (sc : BitVec 2) (s : State) : Host.Outcome State Fault Refusal :=
  runInstr sc.toNat (wordOp2 3 d a b (fun x y => x * y)) s

/-- `mulh`, R106, R107. -/
def execMulh (d a b : BitVec 6) (sc : BitVec 2) (s : State) : Host.Outcome State Fault Refusal :=
  runInstr sc.toNat (wordOp2 0 d a b (fun x y => highWord (x.toInt * y.toInt))) s

/-- `mulhn`, R106, R107. -/
def execMulhn (d a b : BitVec 6) (sc : BitVec 2) (s : State) : Host.Outcome State Fault Refusal :=
  runInstr sc.toNat (wordOp2 0 d a b (fun x y => highWord ((x.toNat * y.toNat : Nat) : Int))) s

/-- `mulhsn`, R106, R107. -/
def execMulhsn (d a b : BitVec 6) (sc : BitVec 2) (s : State) : Host.Outcome State Fault Refusal :=
  runInstr sc.toNat (wordOp2 0 d a b (fun x y => highWord (x.toInt * (y.toNat : Int)))) s

/-- `div`, R106, R107. -/
def execDiv (d a b : BitVec 6) (sc : BitVec 2) (s : State) : Host.Outcome State Fault Refusal :=
  runInstr sc.toNat (wordOp2 0 d a b (quotS 64)) s

/-- `divn`, R106, R107. -/
def execDivn (d a b : BitVec 6) (sc : BitVec 2) (s : State) : Host.Outcome State Fault Refusal :=
  runInstr sc.toNat (wordOp2 0 d a b (quotN 64)) s

/-- `rem`, R106, R107. -/
def execRem (d a b : BitVec 6) (sc : BitVec 2) (s : State) : Host.Outcome State Fault Refusal :=
  runInstr sc.toNat (wordOp2 0 d a b (remS 64)) s

/-- `remn`, R106, R107. -/
def execRemn (d a b : BitVec 6) (sc : BitVec 2) (s : State) : Host.Outcome State Fault Refusal :=
  runInstr sc.toNat (wordOp2 0 d a b (remN 64)) s

/-- `mulw`, R106, R107. -/
def execMulw (d a b : BitVec 6) (sc : BitVec 2) (s : State) : Host.Outcome State Fault Refusal :=
  runInstr sc.toNat (wordOp2 3 d a b (halfOp (fun x y => x * y))) s

/-- `divw`, R106, R107. -/
def execDivw (d a b : BitVec 6) (sc : BitVec 2) (s : State) : Host.Outcome State Fault Refusal :=
  runInstr sc.toNat (wordOp2 0 d a b (halfOp (quotS 32))) s

/-- `divnw`, R106, R107. -/
def execDivnw (d a b : BitVec 6) (sc : BitVec 2) (s : State) : Host.Outcome State Fault Refusal :=
  runInstr sc.toNat (wordOp2 0 d a b (halfOp (quotN 32))) s

/-- `remw`, R106, R107. -/
def execRemw (d a b : BitVec 6) (sc : BitVec 2) (s : State) : Host.Outcome State Fault Refusal :=
  runInstr sc.toNat (wordOp2 0 d a b (halfOp (remS 32))) s

/-- `remnw`, R106, R107. -/
def execRemnw (d a b : BitVec 6) (sc : BitVec 2) (s : State) : Host.Outcome State Fault Refusal :=
  runInstr sc.toNat (wordOp2 0 d a b (halfOp (remN 32))) s

/-! ### R105: op 0x0F, latency 4 -/

/-- `madd`, R105. -/
def execMadd (d a b c : BitVec 6) (s : State) : Host.Outcome State Fault Refusal :=
  runInstr 0 (wordOp3 4 d a b c (fun x y z => x * y + z)) s

/-- `msub`, R105. -/
def execMsub (d a b c : BitVec 6) (s : State) : Host.Outcome State Fault Refusal :=
  runInstr 0 (wordOp3 4 d a b c (fun x y z => x * y - z)) s

end Sys2Proof.Machine
end

