-- ==== Sys2Proof/Machine/Probe.lean ====
section
/-! DEFINITION. The translation instructions (R356 to R358). -/
namespace Sys2Proof.Machine

/-- R356: `xlpf`. -/
def execXlpf (a b : BitVec 6) (sc : BitVec 2) (s : State) : Host.Outcome State Fault Refusal :=
  runInstr sc.toNat (do
    let (c, o) ← operand2 a b []
    let x := c.lo.toNat
    let w := o.lo.getLsbD 1
    derefCheck c x 1 (if w then permStore else permLoad)
    if x < 2 ^ 63 then
      if x / 2 ^ 57 ≠ 0 then trap 0x04 (BitVec.ofNat 64 x)
      modState (fun s =>
        match s.place s.turn.1 x 1 w false with
        | .missing =>
          let ids := s.ctxIds s.turn.1
          s.miss ids.1 ids.2 ⟨.prefetch (o.lo.getLsbD 0), x, w, clusterOf s.turn.1⟩
        | _ => s)
    return .next) s

/-- R357: the state code of a page that no ATC of the core holds. -/
def State.pageCode (s : State) (die vf pasid page : Nat) : Nat :=
  match s.pageRec die vf pasid page with
  | some r =>
    match r.st with
    | .translating => 1
    | .notPresent => 3
    | .requested => 4
    | .failed => 5
  | none =>
    if s.invals.any (fun i => i.gone.any (fun x => decide (x.1 = die) && x.2.holds vf pasid (page * 4096))) then 6 else 0

/-- R357: the fields of a mapped entry. -/
def AtcEntry.probe (e : AtcEntry) (found : Nat) : Nat :=
  2 + e.size * 2 ^ 3 + (if e.rd then 2 ^ 6 else 0) + (if e.wr then 2 ^ 7 else 0) +
    (if e.noncoh && !e.fabric then 2 ^ 8 else 0) + found * 2 ^ 9 + (if e.fabric then 2 ^ 12 else 0)

/-- R357: what the issuing die holds for an address. -/
def State.probe (s : State) (k x : Nat) : Nat :=
  if 2 ^ 63 ≤ x then 2 ^ 11
  else
    let ids := s.ctxIds k
    let cl := clusterOf k
    match (s.cluster cl).atc.find? (·.holds ids.1 ids.2 x) with
    | some e => e.probe 1
    | none =>
      match (s.dieAtcOf (clusterDie cl)).find? (·.holds ids.1 ids.2 x) with
      | some e => e.probe 2
      | none => s.pageCode (clusterDie cl) ids.1 ids.2 (x / 4096)

/-- R357: the check: read or write permission suffices. -/
def probeFail (c : TV) (x : Nat) : Option Nat :=
  match derefFail c x 1 permLoad with
  | none => none
  | some f => if f = 0x05 then derefFail c x 1 permStore else some f

/-- R357: `pgprobe`. -/
def execPgprobe (d a : BitVec 6) (sc : BitVec 2) (s : State) : Host.Outcome State Fault Refusal :=
  runInstr sc.toNat (do
    let c ← operand1 a [d]
    let x := c.lo.toNat
    if let some f := probeFail c x then trap f (BitVec.ofNat 64 x)
    if decide (x < 2 ^ 63) && decide (x / 2 ^ 57 ≠ 0) then trap 0x04 (BitVec.ofNat 64 x)
    let s ← get
    result d 0 (TV.ofNat (s.probe s.turn.1 x))
    return .next) s

/-- R358: the entries that a selector names. -/
def AtcEntry.selected (e : AtcEntry) (addr sel : Nat) : Bool :=
  let pasid := sel % 2 ^ 20
  let vf := sel / 2 ^ 20 % 64
  match sel / 2 ^ 26 % 4 with
  | 0 => e.holds vf pasid addr
  | 1 => decide (e.vf = vf) && decide (e.pasid = pasid)
  | 2 => decide (e.vf = vf)
  | _ => true

/-- R358: `atcinv`: matching entries are removed at once, and the instruction waits until what had used them has been
performed. -/
def execAtcinv (d a b : BitVec 6) (sc : BitVec 2) (s : State) : Host.Outcome State Fault Refusal :=
  runInstr sc.toNat (do
    let k ← self
    if !privileged k then trap 0x02 ((Sys2Proof.encode (.atcinv d a b sc)).setWidth 64)
    let (x, y) ← operand2 a b [d]
    let p := fun (e : AtcEntry) => e.selected (x.lo.toNat % 2 ^ 57) y.lo.toNat
    let s ← get
    let me := some (s.turn.1, s.turn.2, (s.cur.map (·.sid)).getD 0#32)
    let remove (st : State) : State := st.invalidate p ⟨0, 0, 0, 0, [], [], me⟩
    match s.invals.find? (fun i => decide (i.owner = me)) with
    | none =>
      let gone := s.allAtc.filter (fun e => p e.2)
      if !(s.usersOf gone).isEmpty then throw (.waitDo .inSlot remove)
      modState (·.purgeAtc p)
      result d 0 (TV.ofNat (min gone.length 0xFFFFFFFF))
    | some i =>
      if s.invalBusy i then waitFor .inSlot
      modState (fun st => { st with invals := st.invals.erase i })
      result d 0 (TV.ofNat (min i.gone.length 0xFFFFFFFF))
    return .next) s

end Sys2Proof.Machine
end

