-- ==== Sys2Proof/Machine/System.lean ====
section
/-! DEFINITION. Traps by instruction, the return from one, the instruction fence, `halt` and the counters (R431 to
R435). -/
namespace Sys2Proof.Machine

/-- R431: `trap`: the cause 0x0A with the operand, returning to the next instruction. -/
def execTrap (a : BitVec 6) (sc : BitVec 2) (s : State) : Host.Outcome State Fault Refusal :=
  runInstr sc.toNat (do
    let x ← operand1 a []
    throw (.trapNext 0x0A x.lo)) s

/-- R431: `brk`: the cause 0x09 with 0. -/
def execBrk (sc : BitVec 2) (s : State) : Host.Outcome State Fault Refusal :=
  runInstr sc.toNat (throw (.trapNext 0x09 0#64)) s

/-- R432: `rett`. -/
def execRett (sc : BitVec 2) (s : State) : Host.Outcome State Fault Refusal :=
  runInstr sc.toNat (returnFromTrap ((Sys2Proof.encode (.rett sc)).setWidth 64)) s

/-- R433: a store of the strand, or a copy that it has commanded, has still to be performed. -/
def State.writesPending (s : State) (k sl : Nat) : Bool :=
  (s.mine k sl).any (fun e => e.2.kind.writes) ||
    (s.copiesOf k sl).any (·.status.isNone)

/-- R433, R149: `ifence`: fetches follow XOBOUND. -/
def execIfence (sc : BitVec 2) (s : State) : Host.Outcome State Fault Refusal :=
  runInstr sc.toNat (do
    let s ← get
    if s.writesPending s.turn.1 s.turn.2 then waitFor .inSlot
    modCore (fun c => { c with fetchBound := c.xobound })
    return .next) s

/-- R434: `halt`: a firmware core stops issue; a tenant traps. -/
def execHalt (sc : BitVec 2) (s : State) : Host.Outcome State Fault Refusal :=
  runInstr sc.toNat (do
    let k ← self
    if !privileged k then trap 0x02 ((Sys2Proof.encode (.halt sc)).setWidth 64)
    modCore (fun c => { c with halted := true })
    return .next) s

/-- R435: a counter of the core as it stands. -/
def readCounter (d : BitVec 6) (f : State → Word) : M Flow := do
  let _ ← operands [] [d]
  let s ← get
  result d 0 (TV.ofWord (f s))
  return .next

/-- R435: `rdcyc`. -/
def execRdcyc (d : BitVec 6) (sc : BitVec 2) (s : State) : Host.Outcome State Fault Refusal :=
  runInstr sc.toNat (readCounter d (fun s => BitVec.ofNat 64 (s.cycleOf s.turn.1))) s

/-- R435: `rdtime`. -/
def execRdtime (d : BitVec 6) (sc : BitVec 2) (s : State) : Host.Outcome State Fault Refusal :=
  runInstr sc.toNat (readCounter d (fun s => BitVec.ofNat 64 s.timeNs)) s

/-- R435: `rdret`. -/
def execRdret (d : BitVec 6) (sc : BitVec 2) (s : State) : Host.Outcome State Fault Refusal :=
  runInstr sc.toNat (readCounter d (fun s => (s.core s.turn.1).retired)) s

end Sys2Proof.Machine
end

