-- ==== Sys2Proof/Machine/Dispatch.lean ====
section
/-! DEFINITION. One arm per row of the table: the meaning of each instruction and each event. -/
namespace Sys2Proof.Machine

/-- The meaning of one row. -/
def exec (i : Instr) (s : State) : Host.Outcome State Fault Refusal :=
  match i with
  | .add d a b sc => Sys2Proof.Machine.execAdd d a b sc s
  | .sub d a b sc => Sys2Proof.Machine.execSub d a b sc s
  | .and d a b sc => Sys2Proof.Machine.execAnd d a b sc s
  | .or d a b sc => Sys2Proof.Machine.execOr d a b sc s
  | .xor d a b sc => Sys2Proof.Machine.execXor d a b sc s
  | .andn d a b sc => Sys2Proof.Machine.execAndn d a b sc s
  | .orn d a b sc => Sys2Proof.Machine.execOrn d a b sc s
  | .sll d a b sc => Sys2Proof.Machine.execSll d a b sc s
  | .srl d a b sc => Sys2Proof.Machine.execSrl d a b sc s
  | .sra d a b sc => Sys2Proof.Machine.execSra d a b sc s
  | .rol d a b sc => Sys2Proof.Machine.execRol d a b sc s
  | .ror d a b sc => Sys2Proof.Machine.execRor d a b sc s
  | .slt d a b sc => Sys2Proof.Machine.execSlt d a b sc s
  | .sltn d a b sc => Sys2Proof.Machine.execSltn d a b sc s
  | .seq d a b sc => Sys2Proof.Machine.execSeq d a b sc s
  | .sne d a b sc => Sys2Proof.Machine.execSne d a b sc s
  | .min d a b sc => Sys2Proof.Machine.execMin d a b sc s
  | .max d a b sc => Sys2Proof.Machine.execMax d a b sc s
  | .minn d a b sc => Sys2Proof.Machine.execMinn d a b sc s
  | .maxn d a b sc => Sys2Proof.Machine.execMaxn d a b sc s
  | .clz d a sc => Sys2Proof.Machine.execClz d a sc s
  | .ctz d a sc => Sys2Proof.Machine.execCtz d a sc s
  | .popc d a sc => Sys2Proof.Machine.execPopc d a sc s
  | .brev d a sc => Sys2Proof.Machine.execBrev d a sc s
  | .bswap d a sc => Sys2Proof.Machine.execBswap d a sc s
  | .sxt d a b sc => Sys2Proof.Machine.execSxt d a b sc s
  | .zxt d a b sc => Sys2Proof.Machine.execZxt d a b sc s
  | .addw d a b sc => Sys2Proof.Machine.execAddw d a b sc s
  | .subw d a b sc => Sys2Proof.Machine.execSubw d a b sc s
  | .mul d a b sc => Sys2Proof.Machine.execMul d a b sc s
  | .mulh d a b sc => Sys2Proof.Machine.execMulh d a b sc s
  | .mulhn d a b sc => Sys2Proof.Machine.execMulhn d a b sc s
  | .mulhsn d a b sc => Sys2Proof.Machine.execMulhsn d a b sc s
  | .div d a b sc => Sys2Proof.Machine.execDiv d a b sc s
  | .divn d a b sc => Sys2Proof.Machine.execDivn d a b sc s
  | .rem d a b sc => Sys2Proof.Machine.execRem d a b sc s
  | .remn d a b sc => Sys2Proof.Machine.execRemn d a b sc s
  | .mulw d a b sc => Sys2Proof.Machine.execMulw d a b sc s
  | .divw d a b sc => Sys2Proof.Machine.execDivw d a b sc s
  | .divnw d a b sc => Sys2Proof.Machine.execDivnw d a b sc s
  | .remw d a b sc => Sys2Proof.Machine.execRemw d a b sc s
  | .remnw d a b sc => Sys2Proof.Machine.execRemnw d a b sc s
  | .addi d a imm => Sys2Proof.Machine.execAddi d a imm s
  | .andi d a imm => Sys2Proof.Machine.execAndi d a imm s
  | .ori d a imm => Sys2Proof.Machine.execOri d a imm s
  | .xori d a imm => Sys2Proof.Machine.execXori d a imm s
  | .slti d a imm => Sys2Proof.Machine.execSlti d a imm s
  | .sltni d a imm => Sys2Proof.Machine.execSltni d a imm s
  | .slli d a imm => Sys2Proof.Machine.execSlli d a imm s
  | .srli d a imm => Sys2Proof.Machine.execSrli d a imm s
  | .srai d a imm => Sys2Proof.Machine.execSrai d a imm s
  | .addwi d a imm => Sys2Proof.Machine.execAddwi d a imm s
  | .lui d imm => Sys2Proof.Machine.execLui d imm s
  | .auipc d imm => Sys2Proof.Machine.execAuipc d imm s
  | .madd d a b c => Sys2Proof.Machine.execMadd d a b c s
  | .msub d a b c => Sys2Proof.Machine.execMsub d a b c s
  | .cbnd d a b sc => Sys2Proof.Machine.execCbnd d a b sc s
  | .cbnde d a b sc => Sys2Proof.Machine.execCbnde d a b sc s
  | .cperm d a b sc => Sys2Proof.Machine.execCperm d a b sc s
  | .cseta d a b sc => Sys2Proof.Machine.execCseta d a b sc s
  | .cadd d a b sc => Sys2Proof.Machine.execCadd d a b sc s
  | .cbase d a sc => Sys2Proof.Machine.execCbase d a sc s
  | .clen d a sc => Sys2Proof.Machine.execClen d a sc s
  | .cperms d a sc => Sys2Proof.Machine.execCperms d a sc s
  | .ctag d a sc => Sys2Proof.Machine.execCtag d a sc s
  | .cclr d a sc => Sys2Proof.Machine.execCclr d a sc s
  | .cmv d a sc => Sys2Proof.Machine.execCmv d a sc s
  | .csub d a b sc => Sys2Proof.Machine.execCsub d a b sc s
  | .ctest d a b sc => Sys2Proof.Machine.execCtest d a b sc s
  | .caddi d a imm => Sys2Proof.Machine.execCaddi d a imm s
  | .cbndi d a imm => Sys2Proof.Machine.execCbndi d a imm s
  | .ldI8 d a imm => Sys2Proof.Machine.execLdI8 d a imm s
  | .ldN8 d a imm => Sys2Proof.Machine.execLdN8 d a imm s
  | .ldI16 d a imm => Sys2Proof.Machine.execLdI16 d a imm s
  | .ldN16 d a imm => Sys2Proof.Machine.execLdN16 d a imm s
  | .ldI32 d a imm => Sys2Proof.Machine.execLdI32 d a imm s
  | .ldN32 d a imm => Sys2Proof.Machine.execLdN32 d a imm s
  | .ld64 d a imm => Sys2Proof.Machine.execLd64 d a imm s
  | .ld128 d a imm => Sys2Proof.Machine.execLd128 d a imm s
  | .st8 a b imm => Sys2Proof.Machine.execSt8 a b imm s
  | .st16 a b imm => Sys2Proof.Machine.execSt16 a b imm s
  | .st32 a b imm => Sys2Proof.Machine.execSt32 a b imm s
  | .st64 a b imm => Sys2Proof.Machine.execSt64 a b imm s
  | .st128 a b imm => Sys2Proof.Machine.execSt128 a b imm s
  | .ldbI d a b sc => Sys2Proof.Machine.execLdbI d a b sc s
  | .ldbN d a b sc => Sys2Proof.Machine.execLdbN d a b sc s
  | .ldbpI d a b sc => Sys2Proof.Machine.execLdbpI d a b sc s
  | .ldbpN d a b sc => Sys2Proof.Machine.execLdbpN d a b sc s
  | .stb d a b sc => Sys2Proof.Machine.execStb d a b sc s
  | .stbp d a b sc => Sys2Proof.Machine.execStbp d a b sc s
  | .faddF32 d a b sc => Sys2Proof.Machine.execFaddF32 d a b sc s
  | .fsubF32 d a b sc => Sys2Proof.Machine.execFsubF32 d a b sc s
  | .fmulF32 d a b sc => Sys2Proof.Machine.execFmulF32 d a b sc s
  | .fdivF32 d a b sc => Sys2Proof.Machine.execFdivF32 d a b sc s
  | .fsqrtF32 d a sc => Sys2Proof.Machine.execFsqrtF32 d a sc s
  | .fminF32 d a b sc => Sys2Proof.Machine.execFminF32 d a b sc s
  | .fmaxF32 d a b sc => Sys2Proof.Machine.execFmaxF32 d a b sc s
  | .feqF32 d a b sc => Sys2Proof.Machine.execFeqF32 d a b sc s
  | .fltF32 d a b sc => Sys2Proof.Machine.execFltF32 d a b sc s
  | .fleF32 d a b sc => Sys2Proof.Machine.execFleF32 d a b sc s
  | .fclassF32 d a sc => Sys2Proof.Machine.execFclassF32 d a sc s
  | .fsgnF32 d a b sc => Sys2Proof.Machine.execFsgnF32 d a b sc s
  | .fnegF32 d a sc => Sys2Proof.Machine.execFnegF32 d a sc s
  | .fabsF32 d a sc => Sys2Proof.Machine.execFabsF32 d a sc s
  | .fcvtF32I64 d a sc => Sys2Proof.Machine.execFcvtF32I64 d a sc s
  | .fcvtF32N64 d a sc => Sys2Proof.Machine.execFcvtF32N64 d a sc s
  | .fcvtI64F32 d a sc => Sys2Proof.Machine.execFcvtI64F32 d a sc s
  | .fcvtN64F32 d a sc => Sys2Proof.Machine.execFcvtN64F32 d a sc s
  | .fcvtF32Bf16 d a sc => Sys2Proof.Machine.execFcvtF32Bf16 d a sc s
  | .fcvtBf16F32 d a sc => Sys2Proof.Machine.execFcvtBf16F32 d a sc s
  | .fcvtF32F16 d a sc => Sys2Proof.Machine.execFcvtF32F16 d a sc s
  | .fcvtF16F32 d a sc => Sys2Proof.Machine.execFcvtF16F32 d a sc s
  | .fcvtF32E8 d a sc => Sys2Proof.Machine.execFcvtF32E8 d a sc s
  | .fcvtE8F32 d a sc => Sys2Proof.Machine.execFcvtE8F32 d a sc s
  | .fmaddF32 d a b c => Sys2Proof.Machine.execFmaddF32 d a b c s
  | .fmsubF32 d a b c => Sys2Proof.Machine.execFmsubF32 d a b c s
  | .beq a b imm => Sys2Proof.Machine.execBeq a b imm s
  | .bne a b imm => Sys2Proof.Machine.execBne a b imm s
  | .blt a b imm => Sys2Proof.Machine.execBlt a b imm s
  | .bge a b imm => Sys2Proof.Machine.execBge a b imm s
  | .bltn a b imm => Sys2Proof.Machine.execBltn a b imm s
  | .bgen a b imm => Sys2Proof.Machine.execBgen a b imm s
  | .jal d imm => Sys2Proof.Machine.execJal d imm s
  | .jalr d a imm => Sys2Proof.Machine.execJalr d a imm s
  | .rep a mask n stride => Sys2Proof.Machine.execRep a mask n stride s
  | .sget d imm => Sys2Proof.Machine.execSget d imm s
  | .sset a imm => Sys2Proof.Machine.execSset a imm s
  | .sswap d a imm => Sys2Proof.Machine.execSswap d a imm s
  | .trap a sc => Sys2Proof.Machine.execTrap a sc s
  | .brk sc => Sys2Proof.Machine.execBrk sc s
  | .rett sc => Sys2Proof.Machine.execRett sc s
  | .ifence sc => Sys2Proof.Machine.execIfence sc s
  | .halt sc => Sys2Proof.Machine.execHalt sc s
  | .rdcyc d sc => Sys2Proof.Machine.execRdcyc d sc s
  | .rdtime d sc => Sys2Proof.Machine.execRdtime d sc s
  | .rdret d sc => Sys2Proof.Machine.execRdret d sc s
  | .xlpf a b sc => Sys2Proof.Machine.execXlpf a b sc s
  | .pgprobe d a sc => Sys2Proof.Machine.execPgprobe d a sc s
  | .atcinv d a b sc => Sys2Proof.Machine.execAtcinv d a b sc s
  | .spawn d a b sc => Sys2Proof.Machine.execSpawn d a b sc s
  | .suspend sc => Sys2Proof.Machine.execSuspend sc s
  | .yield sc => Sys2Proof.Machine.execYield sc s
  | .retire sc => Sys2Proof.Machine.execRetire sc s
  | .wake d a sc => Sys2Proof.Machine.execWake d a sc s
  | .stid d sc => Sys2Proof.Machine.execStid d sc s
  | .setpri d a sc => Sys2Proof.Machine.execSetpri d a sc s
  | .sync d level sc => Sys2Proof.Machine.execSync d level sc s
  | .xstart level sc => Sys2Proof.Machine.execXstart level sc s
  | .xdone sc => Sys2Proof.Machine.execXdone sc s
  | .grank d level sc => Sys2Proof.Machine.execGrank d level sc s
  | .gsize d level sc => Sys2Proof.Machine.execGsize d level sc s
  | .gmember d a level sc => Sys2Proof.Machine.execGmember d a level sc s
  | .xput a b c => Sys2Proof.Machine.execXput a b c s
  | .xget a b c => Sys2Proof.Machine.execXget a b c s
  | .evwait d a sc => Sys2Proof.Machine.execEvwait d a sc s
  | .evsig a b sc => Sys2Proof.Machine.execEvsig a b sc s
  | .evsend a b sc => Sys2Proof.Machine.execEvsend a b sc s
  | .barc d a b sc => Sys2Proof.Machine.execBarc d a b sc s
  | .bara d a sc => Sys2Proof.Machine.execBara d a sc s
  | .barw a b sc => Sys2Proof.Machine.execBarw a b sc s
  | .barrc d a sc => Sys2Proof.Machine.execBarrc d a sc s
  | .mtxlock a sc => Sys2Proof.Machine.execMtxlock a sc s
  | .mtxfree d a sc => Sys2Proof.Machine.execMtxfree d a sc s
  | .amoSwap d a b scope ord => Sys2Proof.Machine.execAmoSwap d a b scope ord s
  | .amoAdd d a b scope ord => Sys2Proof.Machine.execAmoAdd d a b scope ord s
  | .amoAnd d a b scope ord => Sys2Proof.Machine.execAmoAnd d a b scope ord s
  | .amoOr d a b scope ord => Sys2Proof.Machine.execAmoOr d a b scope ord s
  | .amoXor d a b scope ord => Sys2Proof.Machine.execAmoXor d a b scope ord s
  | .amoMin d a b scope ord => Sys2Proof.Machine.execAmoMin d a b scope ord s
  | .amoMax d a b scope ord => Sys2Proof.Machine.execAmoMax d a b scope ord s
  | .amoMinn d a b scope ord => Sys2Proof.Machine.execAmoMinn d a b scope ord s
  | .amoMaxn d a b scope ord => Sys2Proof.Machine.execAmoMaxn d a b scope ord s
  | .amoFaddF32 d a b scope ord => Sys2Proof.Machine.execAmoFaddF32 d a b scope ord s
  | .amoFminF32 d a b scope ord => Sys2Proof.Machine.execAmoFminF32 d a b scope ord s
  | .amoFmaxF32 d a b scope ord => Sys2Proof.Machine.execAmoFmaxF32 d a b scope ord s
  | .redAdd a b scope ord => Sys2Proof.Machine.execRedAdd a b scope ord s
  | .redFaddF32 a b scope ord => Sys2Proof.Machine.execRedFaddF32 a b scope ord s
  | .redMin a b scope ord => Sys2Proof.Machine.execRedMin a b scope ord s
  | .redMax a b scope ord => Sys2Proof.Machine.execRedMax a b scope ord s
  | .cas64 d a b scope ord => Sys2Proof.Machine.execCas64 d a b scope ord s
  | .cas128 d a b scope ord => Sys2Proof.Machine.execCas128 d a b scope ord s
  | .waitv64 d a b scope ord => Sys2Proof.Machine.execWaitv64 d a b scope ord s
  | .waitv32 d a b scope ord => Sys2Proof.Machine.execWaitv32 d a b scope ord s
  | .fence scope => Sys2Proof.Machine.execFence scope s
  | .fenceAcq scope => Sys2Proof.Machine.execFenceAcq scope s
  | .fenceRel scope => Sys2Proof.Machine.execFenceRel scope s
  | .fenceWin => Sys2Proof.Machine.execFenceWin s
  | .lda64 d a scope => Sys2Proof.Machine.execLda64 d a scope s
  | .lda32 d a scope => Sys2Proof.Machine.execLda32 d a scope s
  | .stl64 a b scope => Sys2Proof.Machine.execStl64 a b scope s
  | .stl32 a b scope => Sys2Proof.Machine.execStl32 a b scope s
  | .chbind d a b sc => Sys2Proof.Machine.execChbind d a b sc s
  | .chfree d b sc => Sys2Proof.Machine.execChfree d b sc s
  | .chcnt d a sc => Sys2Proof.Machine.execChcnt d a sc s
  | .chspace d a sc => Sys2Proof.Machine.execChspace d a sc s
  | .chpeek d a b sc => Sys2Proof.Machine.execChpeek d a b sc s
  | .chtry d a sc => Sys2Proof.Machine.execChtry d a sc s
  | .chput d a sc => Sys2Proof.Machine.execChput d a sc s
  | .msend a b sc => Sys2Proof.Machine.execMsend a b sc s
  | .shpLd d a sc => Sys2Proof.Machine.execShpLd d a sc s
  | .shpSt d a sc => Sys2Proof.Machine.execShpSt d a sc s
  | .shpGet d a b sc => Sys2Proof.Machine.execShpGet d a b sc s
  | .shpSet d a b sc => Sys2Proof.Machine.execShpSet d a b sc s
  | .shpAdv d a b sc => Sys2Proof.Machine.execShpAdv d a b sc s
  | .shpMv d a sc => Sys2Proof.Machine.execShpMv d a sc s
  | .vadd d a b k => Sys2Proof.Machine.execVadd d a b k s
  | .vsub d a b k => Sys2Proof.Machine.execVsub d a b k s
  | .vmul d a b k => Sys2Proof.Machine.execVmul d a b k s
  | .vfma d a b k => Sys2Proof.Machine.execVfma d a b k s
  | .vmin d a b => Sys2Proof.Machine.execVmin d a b s
  | .vmax d a b => Sys2Proof.Machine.execVmax d a b s
  | .vabs d a k => Sys2Proof.Machine.execVabs d a k s
  | .vneg d a k => Sys2Proof.Machine.execVneg d a k s
  | .vrcp d a => Sys2Proof.Machine.execVrcp d a s
  | .vrsqrt d a => Sys2Proof.Machine.execVrsqrt d a s
  | .vexp2 d a => Sys2Proof.Machine.execVexp2 d a s
  | .vlog2 d a => Sys2Proof.Machine.execVlog2 d a s
  | .vtanh d a => Sys2Proof.Machine.execVtanh d a s
  | .vsig d a => Sys2Proof.Machine.execVsig d a s
  | .vaddi d a g k => Sys2Proof.Machine.execVaddi d a g k s
  | .vsubi d a g k => Sys2Proof.Machine.execVsubi d a g k s
  | .vmuli d a g k => Sys2Proof.Machine.execVmuli d a g k s
  | .vand d a b => Sys2Proof.Machine.execVand d a b s
  | .vor d a b => Sys2Proof.Machine.execVor d a b s
  | .vxor d a b => Sys2Proof.Machine.execVxor d a b s
  | .vshl d a g => Sys2Proof.Machine.execVshl d a g s
  | .vshr d a g => Sys2Proof.Machine.execVshr d a g s
  | .vsra d a g => Sys2Proof.Machine.execVsra d a g s
  | .vsat d a g => Sys2Proof.Machine.execVsat d a g s
  | .vcmpEq d a b => Sys2Proof.Machine.execVcmpEq d a b s
  | .vcmpLt d a b => Sys2Proof.Machine.execVcmpLt d a b s
  | .vcmpLe d a b => Sys2Proof.Machine.execVcmpLe d a b s
  | .vsel d a b => Sys2Proof.Machine.execVsel d a b s
  | .vfill d g => Sys2Proof.Machine.execVfill d g s
  | .vcopy d a => Sys2Proof.Machine.execVcopy d a s
  | .viota d g => Sys2Proof.Machine.execViota d g s
  | .vclamp d a g => Sys2Proof.Machine.execVclamp d a g s
  | .vrsum d a g => Sys2Proof.Machine.execVrsum d a g s
  | .vrmax d a g => Sys2Proof.Machine.execVrmax d a g s
  | .vrmin d a g => Sys2Proof.Machine.execVrmin d a g s
  | .vrargmax d a g => Sys2Proof.Machine.execVrargmax d a g s
  | .vrsumsq d a g => Sys2Proof.Machine.execVrsumsq d a g s
  | .vcvt d a o k => Sys2Proof.Machine.execVcvt d a o k s
  | .vquant d a o => Sys2Proof.Machine.execVquant d a o s
  | .vdequant d a => Sys2Proof.Machine.execVdequant d a s
  | .vgath d a b => Sys2Proof.Machine.execVgath d a b s
  | .vscat d a b => Sys2Proof.Machine.execVscat d a b s
  | .vscatAdd d a b k => Sys2Proof.Machine.execVscatAdd d a b k s
  | .vloop a b sc => Sys2Proof.Machine.execVloop a b sc s
  | .vwait sc => Sys2Proof.Machine.execVwait sc s
  | .vfence sc => Sys2Proof.Machine.execVfence sc s
  | .vstat d sc => Sys2Proof.Machine.execVstat d sc s
  | .vcancel d sc => Sys2Proof.Machine.execVcancel d sc s
  | .vdotF4f4 d a b g => Sys2Proof.Machine.execVdotF4f4 d a b g s
  | .vdotaF4f4 d a b g => Sys2Proof.Machine.execVdotaF4f4 d a b g s
  | .vdotF6f6 d a b g => Sys2Proof.Machine.execVdotF6f6 d a b g s
  | .vdotaF6f6 d a b g => Sys2Proof.Machine.execVdotaF6f6 d a b g s
  | .vdotF6f4 d a b g => Sys2Proof.Machine.execVdotF6f4 d a b g s
  | .vdotaF6f4 d a b g => Sys2Proof.Machine.execVdotaF6f4 d a b g s
  | .vdotE4e4 d a b g => Sys2Proof.Machine.execVdotE4e4 d a b g s
  | .vdotaE4e4 d a b g => Sys2Proof.Machine.execVdotaE4e4 d a b g s
  | .vdotE5e5 d a b g => Sys2Proof.Machine.execVdotE5e5 d a b g s
  | .vdotaE5e5 d a b g => Sys2Proof.Machine.execVdotaE5e5 d a b g s
  | .vdotI8i8 d a b => Sys2Proof.Machine.execVdotI8i8 d a b s
  | .vdotaI8i8 d a b => Sys2Proof.Machine.execVdotaI8i8 d a b s
  | .vdotI8t2 d a b => Sys2Proof.Machine.execVdotI8t2 d a b s
  | .vdotaI8t2 d a b => Sys2Proof.Machine.execVdotaI8t2 d a b s
  | .vdotBfbf d a b => Sys2Proof.Machine.execVdotBfbf d a b s
  | .vdotaBfbf d a b => Sys2Proof.Machine.execVdotaBfbf d a b s
  | .mlease d sc => Sys2Proof.Machine.execMlease d sc s
  | .mwait sc => Sys2Proof.Machine.execMwait sc s
  | .mrelease sc => Sys2Proof.Machine.execMrelease sc s
  | .mstat d sc => Sys2Proof.Machine.execMstat d sc s
  | .mmap a b sc => Sys2Proof.Machine.execMmap a b sc s
  | .mepi a sc => Sys2Proof.Machine.execMepi a sc s
  | .mdrain a sc => Sys2Proof.Machine.execMdrain a sc s
  | .mclear a sc => Sys2Proof.Machine.execMclear a sc s
  | .mflags d a sc => Sys2Proof.Machine.execMflags d a sc s
  | .mtileF4f4 a b g k => Sys2Proof.Machine.execMtileF4f4 a b g k s
  | .mtileoF4f4 a b g k => Sys2Proof.Machine.execMtileoF4f4 a b g k s
  | .mtileF6f6 a b g k => Sys2Proof.Machine.execMtileF6f6 a b g k s
  | .mtileoF6f6 a b g k => Sys2Proof.Machine.execMtileoF6f6 a b g k s
  | .mtileF6f4 a b g k => Sys2Proof.Machine.execMtileF6f4 a b g k s
  | .mtileoF6f4 a b g k => Sys2Proof.Machine.execMtileoF6f4 a b g k s
  | .mtileE4e4 a b g k => Sys2Proof.Machine.execMtileE4e4 a b g k s
  | .mtileoE4e4 a b g k => Sys2Proof.Machine.execMtileoE4e4 a b g k s
  | .mtileE5e5 a b g k => Sys2Proof.Machine.execMtileE5e5 a b g k s
  | .mtileoE5e5 a b g k => Sys2Proof.Machine.execMtileoE5e5 a b g k s
  | .mtileI8i8 a b g k => Sys2Proof.Machine.execMtileI8i8 a b g k s
  | .mtileoI8i8 a b g k => Sys2Proof.Machine.execMtileoI8i8 a b g k s
  | .mtileI8t2 a b g k => Sys2Proof.Machine.execMtileI8t2 a b g k s
  | .mtileoI8t2 a b g k => Sys2Proof.Machine.execMtileoI8t2 a b g k s
  | .mtileBfbf a b g k => Sys2Proof.Machine.execMtileBfbf a b g k s
  | .mtileoBfbf a b g k => Sys2Proof.Machine.execMtileoBfbf a b g k s
  | .hbind d a b => Sys2Proof.Machine.execHbind d a b s
  | .hperm d a g => Sys2Proof.Machine.execHperm d a g s
  | .hbund a g mode y => Sys2Proof.Machine.execHbund a g mode y s
  | .hthr d b mode tie y => Sys2Proof.Machine.execHthr d b mode tie y s
  | .hclrH d => Sys2Proof.Machine.execHclrH d s
  | .hclrY y => Sys2Proof.Machine.execHclrY y s
  | .hldH d g => Sys2Proof.Machine.execHldH d g s
  | .hldY g y => Sys2Proof.Machine.execHldY g y s
  | .hstH a g => Sys2Proof.Machine.execHstH a g s
  | .hstY g y => Sys2Proof.Machine.execHstY g y s
  | .hmv d a => Sys2Proof.Machine.execHmv d a s
  | .hham a b g => Sys2Proof.Machine.execHham a b g s
  | .hpopc a g => Sys2Proof.Machine.execHpopc a g s
  | .hnot d a => Sys2Proof.Machine.execHnot d a s
  | .hgetb a g idx => Sys2Proof.Machine.execHgetb a g idx s
  | .hsrch a b g => Sys2Proof.Machine.execHsrch a b g s
  | .hsrchk a b g => Sys2Proof.Machine.execHsrchk a b g s
  | .hsrcht d a b g => Sys2Proof.Machine.execHsrcht d a b g s
  | .registerWrite core slot idx val => Sys2Proof.Machine.execRegisterWrite core slot idx val s
  | .slotTakesRecord core slot => Sys2Proof.Machine.execSlotTakesRecord core slot s
  | .spinBudgetExpiry core slot => Sys2Proof.Machine.execSpinBudgetExpiry core slot s
  | .waitReleasePush part addr => Sys2Proof.Machine.execWaitReleasePush part addr s
  | .singleCorePreemption core => Sys2Proof.Machine.execSingleCorePreemption core s
  | .coreResume core => Sys2Proof.Machine.execCoreResume core s
  | .retainedRegisterRead core slot reg => Sys2Proof.Machine.execRetainedRegisterRead core slot reg s
  | .loadDataReturn n => Sys2Proof.Machine.execLoadDataReturn n s
  | .refusalReturn n => Sys2Proof.Machine.execRefusalReturn n s
  | .accessAged core => Sys2Proof.Machine.execAccessAged core s
  | .vectorEntryExecute core => Sys2Proof.Machine.execVectorEntryExecute core s
  | .vectorEntryComplete core => Sys2Proof.Machine.execVectorEntryComplete core s
  | .vectorEntryFailure core cause addr => Sys2Proof.Machine.execVectorEntryFailure core cause addr s
  | .vloopPassStart core => Sys2Proof.Machine.execVloopPassStart core s
  | .leaseGrant cl => Sys2Proof.Machine.execLeaseGrant cl s
  | .leaseBudgetExpiry cl => Sys2Proof.Machine.execLeaseBudgetExpiry cl s
  | .leaseHolderDrained cl => Sys2Proof.Machine.execLeaseHolderDrained cl s
  | .tileBlockFetch cl => Sys2Proof.Machine.execTileBlockFetch cl s
  | .tileBlockDone cl => Sys2Proof.Machine.execTileBlockDone cl s
  | .tileCommandComplete cl => Sys2Proof.Machine.execTileCommandComplete cl s
  | .tileCommandFailure cl cause addr => Sys2Proof.Machine.execTileCommandFailure cl cause addr s
  | .drainStart cl => Sys2Proof.Machine.execDrainStart cl s
  | .drainRowWrite cl => Sys2Proof.Machine.execDrainRowWrite cl s
  | .channelPushAtPort core slot => Sys2Proof.Machine.execChannelPushAtPort core slot s
  | .channelPopAtPort core slot => Sys2Proof.Machine.execChannelPopAtPort core slot s
  | .messageAtPort n => Sys2Proof.Machine.execMessageAtPort n s
  | .inboxDelivery core => Sys2Proof.Machine.execInboxDelivery core s
  | .copyPut cl => Sys2Proof.Machine.execCopyPut cl s
  | .copyGet cl => Sys2Proof.Machine.execCopyGet cl s
  | .copyStridedPut cl => Sys2Proof.Machine.execCopyStridedPut cl s
  | .copyStridedGet cl => Sys2Proof.Machine.execCopyStridedGet cl s
  | .copyReducePut cl => Sys2Proof.Machine.execCopyReducePut cl s
  | .copySegmentPut cl => Sys2Proof.Machine.execCopySegmentPut cl s
  | .copySegmentReduce cl => Sys2Proof.Machine.execCopySegmentReduce cl s
  | .copyCommandComplete cl => Sys2Proof.Machine.execCopyCommandComplete cl s
  | .statusPortRoom cl => Sys2Proof.Machine.execStatusPortRoom cl s
  | .readSnoop agent sector => Sys2Proof.Machine.execReadSnoop agent sector s
  | .ownershipSnoop agent sector => Sys2Proof.Machine.execOwnershipSnoop agent sector s
  | .sectorEviction agent sector => Sys2Proof.Machine.execSectorEviction agent sector s
  | .engineSectorFinish cl sector => Sys2Proof.Machine.execEngineSectorFinish cl sector s
  | .monitorFire core slot => Sys2Proof.Machine.execMonitorFire core slot s
  | .fabricWindowReached core slot => Sys2Proof.Machine.execFabricWindowReached core slot s
  | .syncComplete part level dom => Sys2Proof.Machine.execSyncComplete part level dom s
  | .boundaryAction part => Sys2Proof.Machine.execBoundaryAction part s
  | .boundaryHoldExpiry part => Sys2Proof.Machine.execBoundaryHoldExpiry part s
  | .movedImageCopy cl => Sys2Proof.Machine.execMovedImageCopy cl s
  | .exchangeOpen part level dom => Sys2Proof.Machine.execExchangeOpen part level dom s
  | .exchangeBeat part level dom => Sys2Proof.Machine.execExchangeBeat part level dom s
  | .exchangeClose part level dom => Sys2Proof.Machine.execExchangeClose part level dom s
  | .barrierTimeout core slot => Sys2Proof.Machine.execBarrierTimeout core slot s
  | .wireEpisodeComplete die code => Sys2Proof.Machine.execWireEpisodeComplete die code s
  | .eventToInbox n => Sys2Proof.Machine.execEventToInbox n s
  | .heldEventPlaced core => Sys2Proof.Machine.execHeldEventPlaced core s
  | .translationCompletion die vf pasid va pa size perms => Sys2Proof.Machine.execTranslationCompletion die vf pasid va pa size perms s
  | .pageRequestQueue cl n => Sys2Proof.Machine.execPageRequestQueue cl n s
  | .prgResponseSuccess vf idx => Sys2Proof.Machine.execPrgResponseSuccess vf idx s
  | .prgResponseInvalidRequest vf idx => Sys2Proof.Machine.execPrgResponseInvalidRequest vf idx s
  | .prgResponseFailure vf idx => Sys2Proof.Machine.execPrgResponseFailure vf idx s
  | .invalidateRequest vf pasid va size => Sys2Proof.Machine.execInvalidateRequest vf pasid va size s
  | .invalidationCompletion vf pasid va => Sys2Proof.Machine.execInvalidationCompletion vf pasid va s
  | .pgctlReplay vf val => Sys2Proof.Machine.execPgctlReplay vf val s
  | .priControlReset vf => Sys2Proof.Machine.execPriControlReset vf s
  | .kernelPlacement k => Sys2Proof.Machine.execKernelPlacement k s
  | .kernelLoadingComplete k => Sys2Proof.Machine.execKernelLoadingComplete k s
  | .kernelDrained k => Sys2Proof.Machine.execKernelDrained k s
  | .notify vf val => Sys2Proof.Machine.execNotify vf val s
  | .packetNop vf q => Sys2Proof.Machine.execPacketNop vf q s
  | .packetLaunch vf q => Sys2Proof.Machine.execPacketLaunch vf q s
  | .packetCopy vf q => Sys2Proof.Machine.execPacketCopy vf q s
  | .packetFenceWait vf q => Sys2Proof.Machine.execPacketFenceWait vf q s
  | .packetFenceSignal vf q => Sys2Proof.Machine.execPacketFenceSignal vf q s
  | .packetTokenPut vf q => Sys2Proof.Machine.execPacketTokenPut vf q s
  | .packetTokenTake vf q => Sys2Proof.Machine.execPacketTokenTake vf q s
  | .packetIndirect vf q => Sys2Proof.Machine.execPacketIndirect vf q s
  | .packetBarrierAnd vf q => Sys2Proof.Machine.execPacketBarrierAnd vf q s
  | .queueConditionHolds vf q => Sys2Proof.Machine.execQueueConditionHolds vf q s
  | .launchCompletionWrite k => Sys2Proof.Machine.execLaunchCompletionWrite k s
  | .quantumExpiry vf q => Sys2Proof.Machine.execQuantumExpiry vf q s
  | .tenureLimitExpiry vf q => Sys2Proof.Machine.execTenureLimitExpiry vf q s
  | .queueMap vf q => Sys2Proof.Machine.execQueueMap vf q s
  | .queueUnmap vf q => Sys2Proof.Machine.execQueueUnmap vf q s
  | .queueReset vf q => Sys2Proof.Machine.execQueueReset vf q s
  | .tokenLinkBind link pvf pq cvf cq => Sys2Proof.Machine.execTokenLinkBind link pvf pq cvf cq s
  | .watchdogHang part => Sys2Proof.Machine.execWatchdogHang part s
  | .partitionReset part => Sys2Proof.Machine.execPartitionReset part s
  | .rgctlRail reg val => Sys2Proof.Machine.execRgctlRail reg val s
  | .rgctlClk reg val => Sys2Proof.Machine.execRgctlClk reg val s
  | .rgctlRst reg val => Sys2Proof.Machine.execRgctlRst reg val s
  | .rgctlGate reg val => Sys2Proof.Machine.execRgctlGate reg val s
  | .gateClosed reg lost => Sys2Proof.Machine.execGateClosed reg lost s
  | .scrubComplete reg lost lasting => Sys2Proof.Machine.execScrubComplete reg lost lasting s
  | .regionAssign reg part => Sys2Proof.Machine.execRegionAssign reg part s
  | .regionRelease reg => Sys2Proof.Machine.execRegionRelease reg s
  | .windowSet a b => Sys2Proof.Machine.execWindowSet a b s
  | .windowClear a b => Sys2Proof.Machine.execWindowClear a b s
  | .contextCreate vf pasid part base len => Sys2Proof.Machine.execContextCreate vf pasid part base len s
  | .contextEnable vf pasid => Sys2Proof.Machine.execContextEnable vf pasid s
  | .contextDestroy vf pasid => Sys2Proof.Machine.execContextDestroy vf pasid s
  | .fenceLift vf pasid => Sys2Proof.Machine.execFenceLift vf pasid s
  | .hostGrantWrite vf pasid base len perms off => Sys2Proof.Machine.execHostGrantWrite vf pasid base len perms off s
  | .lockInterfaceRequest vf => Sys2Proof.Machine.execLockInterfaceRequest vf s
  | .startInterfaceRequest vf => Sys2Proof.Machine.execStartInterfaceRequest vf s
  | .stopInterfaceRequest vf => Sys2Proof.Machine.execStopInterfaceRequest vf s
  | .getDeviceInterfaceState vf => Sys2Proof.Machine.execGetDeviceInterfaceState vf s
  | .getDeviceInterfaceReport vf => Sys2Proof.Machine.execGetDeviceInterfaceReport vf s
  | .spdmGetVersion => Sys2Proof.Machine.execSpdmGetVersion s
  | .spdmGetCapabilities => Sys2Proof.Machine.execSpdmGetCapabilities s
  | .spdmNegotiateAlgorithms hash sig => Sys2Proof.Machine.execSpdmNegotiateAlgorithms hash sig s
  | .spdmGetDigests => Sys2Proof.Machine.execSpdmGetDigests s
  | .spdmGetCertificate => Sys2Proof.Machine.execSpdmGetCertificate s
  | .spdmChallenge nonce => Sys2Proof.Machine.execSpdmChallenge nonce s
  | .spdmGetMeasurements idx => Sys2Proof.Machine.execSpdmGetMeasurements idx s
  | .hostRequest port op addr val size => Sys2Proof.Machine.execHostRequest port op addr val size s
  | .uciePortDown port => Sys2Proof.Machine.execUciePortDown port s
  | .hbhostWrite val => Sys2Proof.Machine.execHbhostWrite val s
  | .hbctlEnable val => Sys2Proof.Machine.execHbctlEnable val s
  | .hbctlResume => Sys2Proof.Machine.execHbctlResume s
  | .firmwareDeviceBeat => Sys2Proof.Machine.execFirmwareDeviceBeat s
  | .heartbeatPeriod => Sys2Proof.Machine.execHeartbeatPeriod s
  | .pcieInboundMailbox op off val => Sys2Proof.Machine.execPcieInboundMailbox op off val s
  | .pcieInboundUnsupported => Sys2Proof.Machine.execPcieInboundUnsupported s
  | .pcieErrorCompletion n => Sys2Proof.Machine.execPcieErrorCompletion n s
  | .pcieCompletionTimeout n => Sys2Proof.Machine.execPcieCompletionTimeout n s
  | .pcieLinkDown => Sys2Proof.Machine.execPcieLinkDown s
  | .apertureProgram idx base size bus => Sys2Proof.Machine.execApertureProgram idx base size bus s
  | .linkEnable => Sys2Proof.Machine.execLinkEnable s
  | .linkTrained lanes auth skew pid => Sys2Proof.Machine.execLinkTrained lanes auth skew pid s
  | .linkTrainingFail => Sys2Proof.Machine.execLinkTrainingFail s
  | .laneDrop lanes => Sys2Proof.Machine.execLaneDrop lanes s
  | .linkRetrain => Sys2Proof.Machine.execLinkRetrain s
  | .partnerBeatMiss => Sys2Proof.Machine.execPartnerBeatMiss s
  | .timeOffsetExceeded => Sys2Proof.Machine.execTimeOffsetExceeded s
  | .linkDown => Sys2Proof.Machine.execLinkDown s
  | .flitReceive flit => Sys2Proof.Machine.execFlitReceive flit s
  | .flitNak ack => Sys2Proof.Machine.execFlitNak ack s
  | .flitAckTimeout => Sys2Proof.Machine.execFlitAckTimeout s
  | .ptpSync time => Sys2Proof.Machine.execPtpSync time s
  | .packageReset pass => Sys2Proof.Machine.execPackageReset pass s
  | .romRecoveryImage img len => Sys2Proof.Machine.execRomRecoveryImage img len s
  | .rollbackFuseSet n => Sys2Proof.Machine.execRollbackFuseSet n s
  | .firmwareBeatMiss die pass => Sys2Proof.Machine.execFirmwareBeatMiss die pass s
  | .pwrlimWrite val => Sys2Proof.Machine.execPwrlimWrite val s
  | .powerPacingTick pwr => Sys2Proof.Machine.execPowerPacingTick pwr s
  | .sramSingleBitError reg => Sys2Proof.Machine.execSramSingleBitError reg s
  | .sramDoubleBitError reg clean => Sys2Proof.Machine.execSramDoubleBitError reg clean s
  | .linkCrcFailure reg clean => Sys2Proof.Machine.execLinkCrcFailure reg clean s
  | .fatalError cause => Sys2Proof.Machine.execFatalError cause s
  | .illegalEncoding word => Sys2Proof.Machine.execIllegalEncoding word s
  | .fetchCheckFailure cause val => Sys2Proof.Machine.execFetchCheckFailure cause val s
  | .postedStorePerformed n => Sys2Proof.Machine.execPostedStorePerformed n s
  | .hostSnoopResponse sector => Sys2Proof.Machine.execHostSnoopResponse sector s
  | .uciePortUp port => Sys2Proof.Machine.execUciePortUp port s
  | .pcieLinkUp => Sys2Proof.Machine.execPcieLinkUp s
  | .meshInterruptMessage core => Sys2Proof.Machine.execMeshInterruptMessage core s
  | .lossListRegistration addr n vec => Sys2Proof.Machine.execLossListRegistration addr n vec s
  | .partitionJoin part base l3 => Sys2Proof.Machine.execPartitionJoin part base l3 s
  | .qtabRegistration vf addr => Sys2Proof.Machine.execQtabRegistration vf addr s

end Sys2Proof.Machine
end

