-- ==== Sys2Proof/Machine/Schedule.lean ====
section
/-! DEFINITION. The model's schedule: which enabled event happens next, which slot issues (R125), and what the passing of
a cycle changes. -/
namespace Sys2Proof.Machine

/-- The event, where its meaning changes the state or is enabled. -/
def offered (i : Sys2Proof.Instr) (r : Option State) : Option Sys2Proof.Instr := if r.isSome then some i else none

/-- The event, where it changes the state: for one that may find that it still waits. -/
def moves (i : Sys2Proof.Instr) (s : State) (r : Option State) : Option Sys2Proof.Instr :=
  if r.isSome && decide (r ≠ some s) then some i else none

/-! ### Events of cores and clusters -/

/-- R444: a request under way through the endpoint that has had no completion for 50 ms. -/
noncomputable def State.timedRequest (s : State) : Option Sys2Proof.Instr :=
  (s.accesses.map (·.1) ++ s.requests.map (·.1)).findSome? (fun n => offered (.pcieCompletionTimeout n) (timeoutCompletion n s))

/-- Requests under way: their answers, their refusals, their arrival (R66, R150, R267, R334). -/
noncomputable def State.requestEvent (s : State) : Option Sys2Proof.Instr :=
  s.accesses.findSome? (fun e => offered (.loadDataReturn e.1) (dataReturn e.1 s) <|>
    offered (.postedStorePerformed e.1) (postedPerformed e.1 s)) <|>
  s.requests.findSome? (fun e => offered (.loadDataReturn e.1) (s.answerRequest e.1 none)) <|>
  s.timedRequest <|>
  s.refusals.findSome? (fun e => offered (.refusalReturn e.1) (refusalReturn e.1 s)) <|>
  s.flights.findSome? (fun e => offered (.messageAtPort e.1) (messageAtPort e.1 s) <|>
    offered (.eventToInbox e.1) (eventToInbox e.1 s))

/-- The sequencer of a core (R171 to R174, R188). -/
noncomputable def State.sequencerEvent (s : State) (k : Nat) (c : Core) : Option Sys2Proof.Instr :=
  if c.seq.isEmpty || !s.clusterRuns (clusterOf k) then none
  else
    (match c.runningEntry.bind (s.entryBad k) with
      | some f => offered (.vectorEntryFailure k f.1 f.2) (vectorFailure k f.1 f.2 s)
      | none => none) <|>
    offered (.vectorEntryComplete k) (vectorComplete k s) <|>
    offered (.vloopPassStart k) (passStart k s) <|>
    offered (.vectorEntryExecute k) (vectorExecute k s)

/-- R127, R327: the limits of a strand's wait. -/
noncomputable def State.limitEvent (s : State) (k sl : Nat) : Option Sys2Proof.Instr :=
  offered (.barrierTimeout k sl) (barrierTimeout k sl s) <|>
  offered (.spinBudgetExpiry k sl) (spinExpiry k sl s)

/-- A slot of a core: pushes and pops that wait, barrier wires, limits (R63, R127, R327, R329). -/
noncomputable def State.slotEvent (s : State) (k sl : Nat) (t : Strand) : Option Sys2Proof.Instr :=
  (if t.pendPush.isSome then offered (.channelPushAtPort k sl) (pushAtPort k sl s) else none) <|>
  match t.wait with
  | none => none
  | some w =>
    (match w.kind with
      | .pop _ => offered (.channelPopAtPort k sl) (popAtPort k sl s)
      | .barrc q => offered (.wireEpisodeComplete (coreDie k) q) (wireEpisode (coreDie k) q s)
      | _ => none) <|>
    s.limitEvent k sl

/-- One core. -/
noncomputable def State.coreEvent (s : State) (k : Nat) (c : Core) : Option Sys2Proof.Instr :=
  (if c.preempting then offered (.singleCorePreemption k) (preempt k s) else none) <|>
  (if !c.held.isEmpty then offered (.heldEventPlaced k) (heldPlaced k s) else none) <|>
  (if c.inbox.isEmpty then none else offered (.inboxDelivery k) (inboxDelivery k s)) <|>
  s.sequencerEvent k c <|>
  c.slots.findSome? (fun e => s.slotEvent k e.1 e.2)

/-- R228 to R231, R216 to R221: a failure that stands, and the command at the head of an anvil. -/
noncomputable def State.tileEvent (s : State) (cl : Nat) (c : Cluster) : Option Sys2Proof.Instr :=
  c.tileFail.findSome? (fun f => offered (.tileCommandFailure cl f.2.1 f.2.2) (tileFailure cl f.2.1 f.2.2 s)) <|>
  match c.cmds with
  | [] => none
  | m :: _ =>
    (match s.cmdBad m with
      | some f => offered (.tileCommandFailure cl f.1 f.2) (tileFailure cl f.1 f.2 s)
      | none => none) <|>
    offered (.tileCommandComplete cl) (tileComplete cl s) <|>
    offered (.tileBlockDone cl) (tileDone cl s) <|>
    offered (.tileBlockFetch cl) (tileFetch cl s) <|>
    offered (.drainStart cl) (drainStart cl s) <|>
    offered (.drainRowWrite cl) (drainRow cl s)

/-- The event of a copy command by its operation (R271). -/
noncomputable def copyInstr (cl : Nat) : Nat → Sys2Proof.Instr
  | 1 => .copyGet cl
  | 2 => .copyStridedPut cl
  | 3 => .copyStridedGet cl
  | 4 => .copyReducePut cl
  | 5 => .copySegmentPut cl
  | 6 => .copySegmentReduce cl
  | _ => .copyPut cl

/-- R274 to R276: the command at the head of a copy engine. -/
noncomputable def State.engineEvent (s : State) (cl : Nat) (c : Cluster) : Option Sys2Proof.Instr :=
  match c.copies with
  | [] => none
  | m :: _ =>
    offered (.copyCommandComplete cl) (copyComplete cl s) <|>
    offered (copyInstr cl m.cop) (copyStep [min m.cop 7] cl s)

/-- One cluster. -/
noncomputable def State.clusterEvent (s : State) (cl : Nat) (c : Cluster) : Option Sys2Proof.Instr :=
  if !s.clusterRuns cl then none
  else
    c.owned.findSome? (fun sec => offered (.engineSectorFinish cl sec) (engineSectorFinish cl sec s)) <|>
    s.tileEvent cl c <|> s.engineEvent cl c <|>
    offered (.leaseHolderDrained cl) (leaseDrained cl s) <|>
    offered (.leaseBudgetExpiry cl) (leaseBudget cl s) <|>
    offered (.leaseGrant cl) (leaseGrant cl s) <|>
    (if c.loading then moves (.movedImageCopy cl) s (movedImage cl s) else none) <|>
    (List.range c.faults.length).findSome? (fun n => offered (.pageRequestQueue cl n) (s.queueFault cl n))

/-! ### Events of groups, kernels and queues -/

/-- A domain of a group (R308, R311 to R316). -/
noncomputable def State.domainEvent (s : State) (g : Group) (d : Domain) : Option Sys2Proof.Instr :=
  offered (.exchangeBeat g.part d.level d.value) (exchangeBeat g.part d.level d.value s) <|>
  offered (.exchangeClose g.part d.level d.value) (exchangeClose g.part d.level d.value s) <|>
  offered (.exchangeOpen g.part d.level d.value) (exchangeOpen g.part d.level d.value s) <|>
  (if d.level = 3 ∧ s.joined g.part then none
    else offered (.syncComplete g.part d.level d.value) (syncComplete g.part d.level d.value s))

/-- The strands of a group outside its slots: its registered waits, the pointers of its pool (R122, R126). -/
noncomputable def State.strandEvent (s : State) (g : Group) : Option Sys2Proof.Instr :=
  g.registered.findSome? (fun r => offered (.waitReleasePush g.part r.1) (waitRelease g.part r.1 s)) <|>
  (if g.pool.isEmpty then none
    else g.cores.findSome? (fun k => (List.range 4).findSome? (fun sl => offered (.slotTakesRecord k sl) (slotTakes k sl s))))

/-- A group: its domains and its strands. -/
noncomputable def State.groupEvent (s : State) (g : Group) : Option Sys2Proof.Instr :=
  g.doms.findSome? (fun d => s.domainEvent g d) <|> s.strandEvent g

/-- A kernel (R361 to R367, R381). -/
noncomputable def State.kernelEvent (s : State) (n : Nat) : Option Sys2Proof.Instr :=
  offered (.kernelDrained n) (kernelDrained n s) <|>
  offered (.kernelPlacement n) (kernelPlacement n s) <|>
  moves (.kernelLoadingComplete n) s (kernelLoading n s) <|>
  moves (.launchCompletionWrite n) s (launchCompletion n s)

/-- The event of a packet by its type (R379). -/
noncomputable def packetInstr (vf q : Nat) : Nat → Sys2Proof.Instr
  | 2 => .packetLaunch vf q
  | 3 => .packetCopy vf q
  | 4 => .packetFenceWait vf q
  | 5 => .packetFenceSignal vf q
  | 6 => .packetTokenPut vf q
  | 7 => .packetTokenTake vf q
  | 8 => .packetIndirect vf q
  | 9 => .packetBarrierAnd vf q
  | _ => .packetNop vf q

/-- The packet that the scheduler serves now (R389). -/
noncomputable def State.packetEvent (s : State) : Option Sys2Proof.Instr :=
  match s.servedQueue with
  | none => none
  | some (n, x) =>
    match s.partOfQueue (n / 256) x with
    | none => none
    | some part =>
      let t := s.headType (n / 256) (n % 256) x part
      moves (packetInstr (n / 256) (n % 256) t) s (packet t (n / 256) (n % 256) s)

/-- A queue (R380, R388 to R390). -/
noncomputable def State.queueEvent (s : State) (n : Nat) (x : Queue) : Option Sys2Proof.Instr :=
  (if x.rest.isEmpty then none else moves (.packetCopy (n / 256) (n % 256)) s (packet 3 (n / 256) (n % 256) s)) <|>
  (if x.st = .waiting then moves (.queueConditionHolds (n / 256) (n % 256)) s (conditionHolds (n / 256) (n % 256) s) else none) <|>
  (if x.pendn && x.slot.isNone && decide ((s.bestPending.map (·.1)) = some n)
    then moves (.queueMap (n / 256) (n % 256)) s (queueMap (n / 256) (n % 256) s) else none) <|>
  offered (.quantumExpiry (n / 256) (n % 256)) (quantumExpiry (n / 256) (n % 256) s) <|>
  offered (.tenureLimitExpiry (n / 256) (n % 256)) (tenureExpiry (n / 256) (n % 256) s)

/-- A partition (R310, R391, R414). -/
noncomputable def State.partitionEvent (s : State) (p : Nat) : Option Sys2Proof.Instr :=
  moves (.boundaryAction p) s (boundaryAction p s) <|>
  offered (.boundaryHoldExpiry p) (holdExpiry p s) <|>
  offered (.watchdogHang p) (watchdogHang p s)

/-- A region: a reset and a scrub run to their end; with no fault found (R395, R407). -/
noncomputable def State.regionEvent (r : Nat) (x : Region) : Option Sys2Proof.Instr :=
  if !x.powered then none
  else if x.st = .resetting ∧ x.closing then some (.gateClosed r [])
  else if x.st = .scrubbing then some (.scrubComplete r [] 0)
  else none

/-- R440, R445, R447, R452, R461: what falls due for the package as a whole: a period of the heartbeats, the limits of the link,
a firmware core that has missed its beats, a pacing step. -/
noncomputable def State.packageTimed (s : State) : Option Sys2Proof.Instr :=
  offered .heartbeatPeriod (heartbeat s) <|>
  offered .firmwareDeviceBeat (firmwareBeat s) <|>
  offered .flitAckTimeout (flitTimeout s) <|>
  offered .partnerBeatMiss (partnerMissed s) <|>
  (if s.boot = .running then
    s.fwMissed.findSome? (fun e => if 3 ≤ e.2 then
      some (.firmwareBeatMiss e.1 ((Config.finialTest s.now).toNat / 2 ^ (8 * e.1) % 2 ^ 8)) else none)
   else none) <|>
  (if s.pacingAt ≤ s.now then some (.powerPacingTick (Config.powerDrawn s.now).toNat) else none)

/-- R352, R440, R442, R447, R459: the package as a whole. -/
noncomputable def State.packageEvent (s : State) : Option Sys2Proof.Instr :=
  (if s.flash.dfen then some (.fatalError 0x82) else none) <|>
  s.packageTimed <|>
  s.invals.findSome? (fun i => offered (.invalidationCompletion i.vf i.pasid i.va) (invalidationCompletion i.vf i.pasid i.va s))

/-- The event that happens next: the first that is enabled, in a fixed order. -/
noncomputable def State.nextInternal (s : State) : Option Sys2Proof.Instr :=
  s.packageEvent <|>
  s.requestEvent <|>
  s.cores.findSome? (fun e => s.coreEvent e.1 e.2) <|>
  s.clusters.findSome? (fun e => s.clusterEvent e.1 e.2) <|>
  s.groups.findSome? (fun e => s.groupEvent e.2) <|>
  s.kernels.findSome? (fun e => s.kernelEvent e.1) <|>
  s.packetEvent <|>
  s.queues.findSome? (fun e => s.queueEvent e.1 e.2) <|>
  s.partitions.findSome? (fun e => s.partitionEvent e.1) <|>
  s.regions.findSome? (fun e => State.regionEvent e.1 e.2)

/-- R128: what a group's strands have been promised: the pushing of a released strand's record, and its taking. -/
noncomputable def State.promised (s : State) : Option Sys2Proof.Instr := s.groups.findSome? (fun e => s.strandEvent e.2)

/-- What falls due at a cycle that the spec gives (R127, R205, R310, R312, R327, R389 to R391, R440, R444, R445, R447, R452, R461):
it happens before that cycle has passed. -/
noncomputable def State.timed (s : State) : Option Sys2Proof.Instr :=
  s.packageTimed <|>
  s.timedRequest <|>
  s.groups.findSome? (fun e => e.2.doms.findSome? (fun d =>
    offered (.exchangeBeat e.2.part d.level d.value) (exchangeBeat e.2.part d.level d.value s))) <|>
  s.cores.findSome? (fun e => e.2.slots.findSome? (fun x => if x.2.wait.isSome then s.limitEvent e.1 x.1 else none)) <|>
  s.clusters.findSome? (fun e => offered (.leaseBudgetExpiry e.1) (leaseBudget e.1 s)) <|>
  s.queues.findSome? (fun e =>
    offered (.quantumExpiry (e.1 / 256) (e.1 % 256)) (quantumExpiry (e.1 / 256) (e.1 % 256) s) <|>
    offered (.tenureLimitExpiry (e.1 / 256) (e.1 % 256)) (tenureExpiry (e.1 / 256) (e.1 % 256) s)) <|>
  s.partitions.findSome? (fun e =>
    offered (.boundaryHoldExpiry e.1) (holdExpiry e.1 s) <|> offered (.watchdogHang e.1) (watchdogHang e.1 s))

/-! ### The passing of a cycle -/

/-- R394: a strand whose clock stands still: what it counts in cycles does not go on. -/
def Strand.gated (t : Strand) : Strand :=
  { t with nextIssue := t.nextIssue + 1, pend := t.pend.map (fun p => { p with avail := p.avail + 1 }),
           pendFl := t.pendFl.map (fun e => (e.1 + 1, e.2)),
           wait := t.wait.map (fun w => { w with since := w.since + 1, tried := w.tried + 1 }) }

/-- R310, R327, R418: a cycle of a wait that the limit of R327 does not count. -/
def Strand.uncounted (t : Strand) : Strand := { t with wait := t.wait.map (fun w => { w with idle := w.idle + 1 }) }

/-- The cores of a gated region (R394). -/
def State.gatedCore (s : State) (k : Nat) : Bool := (regionOf k).any (fun r => decide ((s.region r).st = .gated))

/-- A core as a cycle passes. -/
def State.coreTick (s : State) (k : Nat) (c : Core) : Core :=
  if s.gatedCore k then
    { c with slots := c.slots.map (fun e => (e.1, e.2.gated)), issued := c.issued + 1,
             phase := c.phase.map (fun p => { p with t0 := p.t0 + 1 }) }
  else if c.frozen || s.inBoundary k then { c with slots := c.slots.map (fun e => (e.1, e.2.uncounted)) }
  else c

/-- A group as a cycle passes: an exchange of gated cores stands still. -/
def State.groupTick (s : State) (g : Group) : Group :=
  if g.cores.any s.gatedCore then
    { g with doms := g.doms.map (fun d => { d with t0 := d.t0 + 1, beats := d.beats }) }
  else g

/-- The cycle count advances; R205: the lease budgets run. -/
def State.cycle (s : State) : State :=
  { s with
    now := s.now + 1,
    stray := s.strayTick,
    cores := s.cores.map (fun e => (e.1, s.coreTick e.1 e.2)),
    clusters := s.clusters.map (fun e => (e.1, if s.clusterRuns e.1 then e.2.leaseTick else e.2)),
    groups := s.groups.map (fun e => (e.1, s.groupTick e.2)) }

/-- A cycle passes, with the beats and messages that fall due (R445, R448, R452) and the writes of the ridge die that had to
wait (R219, R290). -/
def State.tick (s : State) : State :=
  let s1 := s.cycle.internalBeats.linkBeat.linkSync
  s1.flushPosts s1.ridgeQ

/-! ### Issue (R125) -/

/-- The core issues: it is not pre-empted, halted or waiting for its image, and its region is in a tenant's hands; of the
finial cores, the firmware core of the die (R451). -/
def State.coreRuns (s : State) (k : Nat) (c : Core) : Bool :=
  !c.frozen && !c.halted && decide (c.issued ≤ s.now) && !(s.cluster (clusterOf k)).loading &&
    match regionOf k with
    | some r => (s.region r).works
    | none => decide (kfind (coreDie k) s.fwCore = some k)

/-- R310, R311: the strand's group is held in *boundary*. -/
def State.strandHeld (s : State) (k : Nat) (t : Strand) : Bool := ((s.groupOn k t.gid).map (·.held)).getD false

/-- R68, R125: the strand may issue in this cycle: its last stall count has passed, no push of it blocks, and it has
not been tried in this cycle. -/
def Strand.ready (t : Strand) (now : Nat) : Bool :=
  decide (t.nextIssue ≤ now) && t.pendPush.isNone &&
    match t.wait with
    | some w => decide (w.tried < now)
    | none => true

/-- R125: the slots in the order in which they are asked: round-robin from the one after the last served. -/
def slotOrder (last : Nat) : List Nat := (List.range 4).map (fun i => (last + 1 + i) % 4)

/-- The slot of a core that issues next. -/
def State.slotToIssue (s : State) (k : Nat) (c : Core) : Option Nat :=
  if s.coreRuns k c then (slotOrder c.last).find? (fun sl => ((kfind sl c.slots).map (fun t => t.ready s.now && !s.strandHeld k t)).getD false) else none

/-- The first core that has a slot to issue, among those listed. -/
def State.pickFrom (s : State) : List (Nat × Core) → Option (Nat × Nat)
  | [] => none
  | (k, c) :: r =>
    match s.slotToIssue k c with
    | some sl => some (k, sl)
    | none => s.pickFrom r

/-- The core and slot that issue next. -/
def State.pick (s : State) : Option (Nat × Nat) := s.pickFrom s.cores

/-- The slot given to issue: its strand waits after its turn, or the core has issued in this cycle (R125). -/
def State.markIssued (k sl : Nat) (s : State) : State :=
  let waits : Bool := match s.strand k sl with
    | some t => decide (t.wait.map (·.tried) = some s.now)
    | none => false
  if waits then s else s.updCore k (fun c => { c with issued := s.now + 1, last := sl })

/-- What the strand of a slot does next: the instruction that its fetch gives, or the outcome of a failed one (R64). Where
a word that a `rep` has advanced is illegal though no field passed 55, TRAPVAL holds the word issued, the advanced one; R88
names only a field past 55 (DESIGN CHOICE, log 64). -/
noncomputable def State.nextInstr (s : State) (k : Nat) (t : Strand) : Sys2Proof.Instr :=
  match s.fetch k t with
  | .fail c v => .fetchCheckFailure c v.toNat
  | .illegal w => .illegalEncoding w
  | .word w =>
    match Sys2Proof.decode w with
    | .ok i => i
    | .error _ => .illegalEncoding w

end Sys2Proof.Machine
end

