-- ==== Sys2Proof/Machine/Step.lean ====
section
/-! DEFINITION. One step of the package: the next move of the agenda; else an enabled event; else an instruction of the
slot whose turn it is; else a cycle passes. This order is a DESIGN CHOICE (log 4). -/
namespace Sys2Proof.Machine

/-- A state after an issue: the slot is marked. -/
def afterIssue (k sl : Nat) : Host.Outcome State Fault Refusal → Host.Outcome State Fault Refusal
  | .next s => .next (s.markIssued k sl)
  | .fault f => .fault f
  | .refused r => .refused r

/-- The given slot issues its next instruction; nothing happens where it holds no strand. -/
noncomputable def issueAt (k sl : Nat) (s : State) : Host.Outcome State Fault Refusal :=
  match s.strand k sl with
  | none => .next s
  | some t => afterIssue k sl (exec (s.nextInstr k t) { s with turn := (k, sl) })

/-- A step with nothing on the agenda. -/
noncomputable def ownStep (s : State) : Host.Outcome State Fault Refusal :=
  match s.nextInternal with
  | some i => exec i s
  | none =>
    match s.pick with
    | some p => issueAt p.1 p.2 s
    | none => .next s.tick

/-- R6, R407: 2 µs in cycles. -/
def gateLimit : Nat := 3400

/-- R407: a region whose gate has to close now. -/
def State.gateDue (s : State) : Option Nat :=
  (s.regions.find? (fun r => r.2.closing && r.2.powered && decide (r.2.resetAt + gateLimit ≤ s.now))).map (·.1)

/-- R128, R407: a cycle passes once every promise that falls due has been kept: a gate closed, an event at its cycle, a record pushed
or taken, a slot that can issue issued. The rest of the agenda, `r`, follows. -/
noncomputable def passCycle (s : State) (r : List Move) : Host.Outcome State Fault Refusal :=
  match s.gateDue with
  | some n => exec (.gateClosed n []) s
  | none =>
    match s.timed <|> s.promised with
    | some i => exec i s
    | none =>
      match s.pick with
      | some p => issueAt p.1 p.2 s
      | none => .next { s with agenda := r }.tick

/-- What a slot does in its turn: an instruction word, or the outcome of a fetch that gave none. -/
def instrInTurn : Sys2Proof.Instr → Bool
  | .fetchCheckFailure _ _ => true
  | .illegalEncoding _ => true
  | i => i.isWord

/-- One step. R125: a slot issues in its turn alone: no move of the agenda makes it issue otherwise, or when it may not. -/
noncomputable def step (s : State) : Host.Outcome State Fault Refusal :=
  match s.agenda with
  | [] => ownStep s
  | .ev i :: r => if instrInTurn i then .next { s with agenda := r } else exec i { s with agenda := r }
  | .pick k sl :: r => if s.slotToIssue k (s.core k) = some sl then issueAt k sl { s with agenda := r } else .next { s with agenda := r }
  | .input a :: r => .next ({ s with agenda := r }.input a)
  | .tick :: r => passCycle s r

/-- The strand that stands for a loaded program: at offset 0 of core 0, with a capability that covers the core's
scratchpad (R142) with every permission. -/
def loadedStrand : Strand := bootStrand (2 ^ 63)

/-- A program placed for the next step, where the machine would load it through a launch (R359 to R365): region 0 in
partition 0, a strand in slot 0 of core 0, and the word at offset 0 of its scratchpad below the boundary of its code. -/
def State.withFetchWord (s : State) (nbits w : Nat) : State :=
  let code := ({ s with agenda := [], cores := [], clusters := [] }).putBytes (2 ^ 63)
    (natBytes 4 (w % 2 ^ nbits % 2 ^ 32))
  let s1 := code.setRegion 0 { Region.init with st := .assigned, part := some 0, rail := true, clk := true, gate := true }
  let s2 := { s1 with partitions := [(0, ⟨[0], 2 ^ 30, none, none, none, none, none, 0⟩)] }
  s2.setCore 0 { Core.init with slots := [(0, loadedStrand)], xobound := 0x1000#64, fetchBound := 0x1000#64 }

end Sys2Proof.Machine
end

