-- ==== Sys2Proof/Safety.lean ====
section
/-! DEFINITION. The words in which claims are stated: what an instruction finds when it issues, where its result goes,
what a step leaves alone, and the invariant of memory. -/
namespace Sys2Proof.Machine

/-! ### The instruction that issues (R63 to R67) -/

/-- R65: the state with the results written that are available to the strand whose turn it is. -/
def State.settled (s : State) (t : Strand) : State := s.setStrand s.turn.1 s.turn.2 (t.settle s.now)

/-- The strand `t` has the turn, and no push of it blocks (R63). -/
def Turn (s : State) (t : Strand) : Prop := s.cur = some t ∧ t.pendPush = none

/-- R63 to R67: the instruction of the strand that has the turn reads the sources `srcs` as `vals`, popping queue
registers, and finds nothing in its register fields that stops it; `s'` is the state after the pops, whose values the strand
keeps until the instruction issues. `fields` are the fields whose queue registers must be bound and whose order R257 and
R285 let pass. -/
def ReadsFields (s : State) (fields srcs dests : List (BitVec 6)) (vals : List TV) (s' : State) : Prop :=
  ∃ t, Turn s t ∧
    firstUnbound (t.settle s.now) fields = none ∧
    firstWrongEnd (t.settle s.now) true (srcs.filter isQ) = none ∧
    firstWrongEnd (t.settle s.now) false (dests.filter isQ) = none ∧
    lostRead (t.settle s.now) srcs = none ∧
    anyBusy (t.settle s.now) (srcs ++ dests) = false ∧
    ((t.settle s.now).chk = true → firstEarly (t.settle s.now) s.now srcs = none) ∧
    (fields.any isQ && (s.settled t).queueHeld s.turn.1 s.turn.2 ((fields.filter isQ).map qNum)) = false ∧
    ∃ n, gather s.turn.1 s.turn.2 srcs (t.settle s.now).popped (t.settle s.now) (s.settled t) = .inl (vals, n) ∧
      s' = n.keepPops srcs vals

/-- The same for an instruction whose register fields are its sources and its destinations. -/
def Reads (s : State) (srcs dests : List (BitVec 6)) (vals : List TV) (s' : State) : Prop :=
  ReadsFields s (srcs ++ dests) srcs dests vals s'

/-- R63, R65 to R67: the sources `srcs` and destinations `dests` are general registers that hold their values: none is a
queue register, none awaits a result. -/
def Plain (t : Strand) (now : Nat) (srcs dests : List (BitVec 6)) : Prop :=
  (∀ r ∈ srcs ++ dests, isQ r = false) ∧ lostRead (t.settle now) srcs = none ∧
    anyBusy (t.settle now) (srcs ++ dests) = false ∧
    ((t.settle now).chk = true → firstEarly (t.settle now) now srcs = none)

/-- R60, R63, R65, R67, R285: the result `v` of latency `lat` in field `d`: pushed, or waiting with its strand while the
channel is full or an earlier access is still to be performed; discarded by g0; written, or due after `lat` cycles. -/
def State.written (s : State) (d : BitVec 6) (lat : Nat) (v : TV) : State :=
  if isQ d then
    match s.pushReleased s.turn.1 s.turn.2 (qNum d) s.nextAccess v with
    | some s' => s'
    | none => s.blockPush s.turn.1 s.turn.2 (qNum d) v []
  else if d = 0#6 then s
  else if lat ≤ 1 then s.updStrand s.turn.1 s.turn.2 (fun t => t.putG d.toNat v)
  else s.updStrand s.turn.1 s.turn.2 (fun t =>
    { t with pend := t.pend.filter (fun p => decide (p.reg ≠ d.toNat)) ++ [⟨d.toNat, s.now + lat, v⟩] })

/-- The outcome of an instruction that completes and goes on to the next one, with stall count `sc` (R68). -/
abbrev goesOn (sc : Nat) (s : State) : Host.Outcome State Fault Refusal := .next (finish .next sc s)

/-- The outcome of an instruction that completes with a result in `d`. -/
abbrev gives (sc : Nat) (d : BitVec 6) (lat : Nat) (v : TV) (s : State) : Host.Outcome State Fault Refusal :=
  goesOn sc (s.written d lat v)

/-- The outcome of an instruction that traps with the instruction itself as return address (R421). -/
abbrev traps (cause : Nat) (val : Word) (t : Strand) (s : State) : Host.Outcome State Fault Refusal :=
  .next (takeTrap cause val t.pc.toNat t.pc.toNat s)

/-- R55: flags joined to STATUS.sr of the strand that has the turn. -/
def State.flagged (s : State) (f : FlagSet) : State := s.updStrand s.turn.1 s.turn.2 (·.orFlags f)

/-- R55: flags set together with a result of latency `lat` in field `d`: at once where the result is pushed or stands for
the next issue, else when it becomes available. -/
def State.flaggedWith (s : State) (d : BitVec 6) (lat : Nat) (f : FlagSet) : State :=
  if isQ d = true ∨ lat ≤ 1 then s.flagged f
  else s.updStrand s.turn.1 s.turn.2 (·.pendFlags (s.now + lat) f)

/-- The outcome of an instruction that completes with a floating-point result and its flags. -/
abbrev givesFp (sc : Nat) (d : BitVec 6) (lat : Nat) (r : Nat × FlagSet) (s : State) : Host.Outcome State Fault Refusal :=
  gives sc d lat (TV.ofNat r.1) (s.flaggedWith d lat r.2)

/-- The outcome of an instruction that completes and continues under a program counter capability. -/
abbrev jumps (pcc : TV) (s : State) : Host.Outcome State Fault Refusal := .next (finish (.jump pcc) 0 s)

/-- R131, R133: a target lies within the bounds of a program counter capability. -/
def InBounds (pcc : TV) (t : Nat) : Prop := capBase pcc ≤ (t : Int) ∧ (t : Int) + 4 ≤ capTop pcc

/-- R131: what a branch does that is taken under a condition on its two sources. -/
def BranchesOn (i : BitVec 6 → BitVec 6 → BitVec 13 → Sys2Proof.Instr) (taken : Word → Word → Prop) : Prop :=
  ∀ (s s' : State) (t0 t : Strand) (a b : BitVec 6) (imm : BitVec 13) (x y : TV) (target : Nat), Turn s t0 →
    Reads s [a, b] [] [x, y] s' → s'.cur = some t → target = (t.pc + BitVec.ofInt 64 (imm.toInt * 4)).toNat →
    (¬ taken x.lo y.lo → exec (i a b imm) s = goesOn 0 s') ∧
    (taken x.lo y.lo → InBounds t.pcc target → exec (i a b imm) s = jumps (setAddr t.pcc target) s') ∧
    (taken x.lo y.lo → ¬ InBounds t.pcc target → exec (i a b imm) s = traps 0x04 (BitVec.ofNat 64 target) t0 s')

/-- R45, R46: the draw of the core that has the turn: a value under SR, none otherwise. -/
def State.drawOf (s : State) (rm : RMode) : Nat := if rm = .sr then lfsrDraw (s.core s.turn.1).srSeed else 0

/-- R46: the state after the draw. -/
def State.drawn (s : State) (rm : RMode) : State :=
  if rm = .sr then s.updCore s.turn.1 (fun c => { c with srSeed := lfsrSkip 1 c.srSeed }) else s

/-- R188, R285: no acquire of the strand is outstanding, and no `vfence` holds its scalar accesses back. -/
def Clear (s : State) : Prop := s.acquiring s.turn.1 s.turn.2 = false ∧ s.behindFence = false

/-- R285: every earlier access of the strand has been performed, as a release requires. -/
def Released (s : State) : Prop := s.mine s.turn.1 s.turn.2 = [] ∧ s.behindFence = false

/-- R95, R278: an access of `n` bytes at `x` through `c` for permissions `p` passes its checks and lies at location `loc`,
which no engine holds, to which nothing sent before is on its way, and no older access of the strand awaits. -/
def Reaches (s : State) (c : TV) (x n p : Nat) (write fm : Bool) (loc : Nat) : Prop :=
  derefFail c x n p = none ∧ s.place s.turn.1 x n write fm = .here loc ∧
    s.accessHeld s.turn.1 loc n write = false ∧
    (decide (x < 2 ^ 63) && s.pageBusy s.turn.1 s.turn.2 x) = false

/-! ### Waiting and boundaries -/

/-- The outcome of an instruction that has not issued: it waits for `k`, and nothing else changes but that the results that
are due are written (R63, R127). -/
abbrev waits (k : WaitKind) (t : Strand) (s : State) : Host.Outcome State Fault Refusal :=
  .next ((s.settled t).updStrand s.turn.1 s.turn.2 (·.waiting k s.now))

/-- The same for an instruction that has read its sources: `s'` is the state after the pops, whose values its strand
keeps. -/
abbrev waitsWith (k : WaitKind) (s s' : State) : Host.Outcome State Fault Refusal :=
  .next (s'.updStrand s.turn.1 s.turn.2 (·.waiting k s.now))

/-- R303, R347: no failure is reported to the instruction whose turn it is, and it waits on no page. -/
def NoFailure (s : State) : Prop :=
  s.engineFails.find? (fun f => decide (f.1 = s.curWaiter)) = none ∧ s.awaits s.curWaiter = false

/-- R294, R309: the strand's fabric writes have been sent and their window has passed. -/
def FabricDone (s : State) : Prop := s.fabricPending s.turn.1 s.turn.2 = false

/-- The state after the wait of `fence.win` (R294). -/
def State.fabricDone (s : State) : State := s.updStrand s.turn.1 s.turn.2 (fun t => { t with fabWindow := none })

/-- R285, R288, R294: what a release at a scope finds and leaves: earlier accesses performed; at fabric scope the wait of
`fence.win` done. -/
def ReleasedAt (s : State) (scope : Nat) : Prop := Released s ∧ (scope = 4 → FabricDone s)

def State.releasedAt (s : State) (scope : Nat) : State := if scope = 4 then s.fabricDone else s

/-! ### Atomics (R295 to R298) -/

/-- R285, R288, R294: a release with which an access begins, if its order code says so. -/
def OrderOk (s : State) (ord : BitVec 2) (scope : BitVec 3) : Prop := ord.getLsbD 1 = true → ReleasedAt s scope.toNat

def State.ordered (s : State) (ord : BitVec 2) (scope : BitVec 3) : State :=
  if ord.getLsbD 1 then s.releasedAt scope.toNat else s

/-- R13, R295, R396: an atomic at scope 3 or 4 reaches the ridge die: the gate of its cluster's region is open, or its
location is no cached memory. -/
def RidgeOk (s : State) (scope : BitVec 3) (loc : Nat) : Prop :=
  3 ≤ scope.toNat → cachedLoc loc = true → s.gateShut (clusterOf s.turn.1) = false

/-- R295 to R297: an atomic of `size` bytes: it reads the value at its location and replaces it by Op(old, operand) in one
step, sets the operation's flags, and gives the old value. -/
def PerformsAmo (i : BitVec 6 → BitVec 6 → BitVec 6 → BitVec 3 → BitVec 2 → Sys2Proof.Instr) (op : AmoOp) (size : Nat) : Prop :=
  ∀ (s s' s1 n : State) (d a b : BitVec 6) (scope : BitVec 3) (ord : BitVec 2) (c y : TV) (loc : Nat) (r : Nat × FlagSet),
    Reads s [a, b] [d] [c, y] s' → Clear s' → OrderOk s' ord scope → s1 = s'.ordered ord scope → capAddr c % size = 0 →
    Reaches s1 c (capAddr c) size (permLoad ||| permStore ||| permAtomic) true true loc → RidgeOk s1 scope loc →
    r = op.apply size (s1.read loc size) (y.bits.toNat % 2 ^ (8 * size)) →
    n = ((s1.touchAtomic (clusterOf s1.turn.1) loc size scope.toNat).write loc (natBytes size r.1)).flagged r.2 →
    exec (i d a b scope ord) s = gives 0 d 0 (TV.ofNat (s1.read loc size)) n

/-- R298: a reduction of `size` bytes: the same without a result or flags. -/
def PerformsRed (i : BitVec 6 → BitVec 6 → BitVec 3 → BitVec 2 → Sys2Proof.Instr) (op : AmoOp) (size : Nat) : Prop :=
  ∀ (s s' s1 : State) (a b : BitVec 6) (scope : BitVec 3) (ord : BitVec 2) (c y : TV) (loc : Nat),
    Reads s [a, b] [] [c, y] s' → Clear s' → OrderOk s' ord scope → s1 = s'.ordered ord scope → capAddr c % size = 0 →
    Reaches s1 c (capAddr c) size (permStore ||| permAtomic) true true loc → RidgeOk s1 scope loc →
    exec (i a b scope ord) s = goesOn 0 ((s1.touchAtomic (clusterOf s1.turn.1) loc size scope.toNat).write loc
      (natBytes size (op.apply size (s1.read loc size) (y.bits.toNat % 2 ^ (8 * size))).1))

/-! ### Entries of the vector sequencer (R46, R169, R170, R173, R188) -/

/-- R169, R188: the entry that strand `t` issues: copies of the shapes it names, the strand's modes, and its place in the
loop whose body the strand issues. -/
def State.entryFrom (s : State) (t : Strand) (e : VEntry) : VEntry :=
  { e with sa := t.shapeNamed e.op.usesA e.na, sb := t.shapeNamed e.op.usesB e.nb, sd := t.shapeNamed e.op.usesD e.nd,
           slot := s.turn.2, id := s.nextAccess, rm := t.rm, chk := t.chk }.inLoop t.loop

/-- R169, R173, R189: no failure is recorded, and an entry is free or granted to the strand's loop. -/
def EntryFree (s : State) (t : Strand) : Prop :=
  t.seqFail = none ∧ (t.loop ≠ none ∨ (s.core s.turn.1).freeEntries ≠ 0)

/-- R66, R170, R257: no shape that the entry names awaits a result, the entry passes the checks of its issue, and no value is
still to be pushed to a q register that it moves. -/
def EntryPasses (s : State) (t : Strand) (e : VEntry) : Prop :=
  (e.op.usesA = true → 64 + e.na ∉ t.busy) ∧ (e.op.usesB = true → 64 + e.nb ∉ t.busy) ∧
    (e.op.usesD = true → 64 + e.nd ∉ t.busy) ∧ s.entryFail s.turn.1 t (s.entryFrom t e) = none ∧
    (s.entryFrom t e).queues.any (fun q => decide (q + 56 ∈ t.busy)) = false

/-- R46, R169, R188: the state after the entry is taken: it stands last in the queue of its core, with the draws it will
take; a loop counts one more instruction of its body, and the last one lets the body's entries run. -/
def State.taken (s : State) (t : Strand) (e : VEntry) : State :=
  let e1 := s.entryFrom t e
  let per := if t.mode = .sr then e1.drawsPerPass else 0
  let s1 := { s with nextAccess := s.nextAccess + 1 }.updCore s.turn.1 (fun c =>
    { c with seq := c.seq ++ [{ e1 with draws := c.srSeed, perPass := per, qs := e1.queues }],
             srSeed := lfsrSkip (per * e1.passes) c.srSeed })
  match t.loop with
  | none => s1
  | some l =>
    if l.issued + 1 < l.n then
      s1.updStrand s.turn.1 s.turn.2 (fun u => { u with loop := some { l with issued := l.issued + 1 } })
    else
      (s1.updCore s.turn.1 (fun c =>
        { c with seq := c.seq.map (fun x => if x.slot = s.turn.2 then { x with held := false } else x) })).updStrand
          s.turn.1 s.turn.2 (·.loopDone l)

/-- R66: the register awaits an interlocked result. -/
def State.awaiting (s : State) (d : BitVec 6) : State :=
  if d = 0#6 then s else s.updStrand s.turn.1 s.turn.2 (fun t => { t with busy := d.toNat :: t.busy })

/-- R169: an instruction of shapes alone takes its entry. -/
def TakesEntry (i : Sys2Proof.Instr) (e : VEntry) : Prop :=
  ∀ (s : State) (t u : Strand), Turn s t → u = t.settle s.now → EntryFree (s.settled t) u → EntryPasses (s.settled t) u e →
    exec i s = goesOn 0 ((s.settled t).taken u e)

/-- R169: an instruction with a g operand reads it once, at issue, and takes its entry. -/
def TakesEntryWith (i : BitVec 6 → Sys2Proof.Instr) (e : VEntry) : Prop :=
  ∀ (s s' : State) (t u : Strand) (g : BitVec 6) (v : TV), Turn s t → EntryFree (s.settled t) (t.settle s.now) →
    Reads s [g] [] [v] s' → s'.cur = some u → EntryPasses s' u { e with g := v } →
    exec (i g) s = goesOn 0 (s'.taken u { e with g := v })

/-- R66, R181, R244: an instruction with a g result takes its entry; the register awaits it, a queue register is pushed at
completion. -/
def TakesEntryFor (i : BitVec 6 → Sys2Proof.Instr) (e : VEntry) : Prop :=
  ∀ (s s' : State) (t u : Strand) (g : BitVec 6), Turn s t → EntryFree (s.settled t) (t.settle s.now) →
    Reads s [] [g] [] s' → s'.cur = some u → EntryPasses s' u { e with gd := g.toNat } →
    exec (i g) s = goesOn 0 (if isQ g then s'.taken u { e with gd := g.toNat }
      else (s'.taken u { e with gd := g.toNat }).awaiting g)

/-! ### The anvil (R195, R196, R221) -/

/-- R195, R221: the core holds the lease of its cluster's anvil, and no failure of a tile command is recorded for it. -/
def HoldsLease (s : State) : Prop :=
  kfind s.turn.1 (s.cluster (clusterOf s.turn.1)).tileFail = none ∧
    (s.cluster (clusterOf s.turn.1)).lease.grantedTo (slotInCluster s.turn.1) = true

/-- R196: a tile command as it is accepted. -/
def State.tileCmd (s : State) : TileCmd :=
  { id := s.nextAccess, kind := .clear, buf := 0, src := s.sender s.turn.1 s.turn.2, sa := Shape.zero, sb := Shape.zero,
    k := 0, map0 := 0#64, map1 := 0#64, epi := 0#512, fetched := 0, done := 0, pinned := [], started := false, row := 0,
    tf := 0#3, bias := [], ef := [], rowsAt := [], retry := 0, bad := none }

/-- R196, R197: the state after a command is accepted: last in the queue of the anvil, one command of the budget spent. -/
def State.accepted (s : State) (c : TileCmd) : State :=
  { s with nextAccess := s.nextAccess + 1 }.updCluster (clusterOf s.turn.1) (fun x =>
    { x with cmds := x.cmds ++ [c], lease := x.lease.spend })

/-- R196: the queue of the anvil has room, and no pre-emption of the core waits for it to empty (R199). -/
def AnvilRoom (s : State) : Prop :=
  (s.cluster (clusterOf s.turn.1)).cmds.length < 8 ∧
    ((s.core s.turn.1).preempting = false ∨ (s.core s.turn.1).phase ≠ none)

/-- R66, R215: the operand shapes await no result, and they and the count pass every check of a tile instruction: validity, the count, the types and the
form of the shapes, and the tag, permission and bounds of each capability over the footprint that is used. -/
def TileFits (t : Strand) (p : Pair) (a b : BitVec 4) (k : Nat) : Prop :=
  64 + a.toNat ∉ t.busy ∧ 64 + b.toNat ∉ t.busy ∧
  (t.getSh a.toNat).valid = true ∧ (t.getSh b.toNat).valid = true ∧ k % 32 = 0 ∧ 32 ≤ k ∧ k ≤ 65536 ∧
    pairType p false (t.getSh a.toNat).ty = true ∧ tileShape (t.getSh a.toNat) k = true ∧
    pairType p true (t.getSh b.toNat).ty = true ∧ tileShape (t.getSh b.toNat) k = true ∧
    ∀ z ∈ [t.getSh a.toNat, t.getSh b.toNat], z.cap.tag = true ∧ capHas z.cap permLoad = true ∧
      (capHas z.cap permLocal = true → (2 : Int) ^ 63 ≤ spansLow (usedSpans z k)) ∧
      capBase z.cap ≤ spansLow (usedSpans z k) ∧ spansHigh (usedSpans z k) ≤ capTop z.cap

/-- R215: a tile instruction of a pair enters a command with copies of its shapes. -/
def TakesTile (i : BitVec 4 → BitVec 4 → BitVec 6 → BitVec 1 → Sys2Proof.Instr) (p : Pair) (ovw : Bool) : Prop :=
  ∀ (s s' : State) (t : Strand) (a b : BitVec 4) (g : BitVec 6) (k : BitVec 1) (v : TV), Reads s [g] [] [v] s' →
    s'.cur = some t → HoldsLease s' → TileFits t p a b v.lo.toNat → AnvilRoom s' →
    exec (i a b g k) s = goesOn 0 (s'.accepted { s'.tileCmd with
      kind := .mtile p ovw, buf := k.toNat, sa := t.getSh a.toNat, sb := t.getSh b.toNat, k := v.lo.toNat })

/-! ### Frames -/

/-- Nothing of the package but the table of cores changes. -/
def SameButCores (s n : State) : Prop := { n with cores := s.cores } = s

/-- Memory as a reader sees it: every byte and every tag. -/
def SameMemory (s n : State) : Prop := (∀ a, n.byte a = s.byte a) ∧ n.tags = s.tags

/-- The other cores, and of the core that has the turn everything but its slots and its count of instructions. -/
def SameCores (s n : State) : Prop :=
  (∀ k, k ≠ s.turn.1 → n.core k = s.core k) ∧
    { n.core s.turn.1 with slots := (s.core s.turn.1).slots, retired := (s.core s.turn.1).retired } = s.core s.turn.1 ∧
    ∀ sl, sl ≠ s.turn.2 → n.strand s.turn.1 sl = s.strand s.turn.1 sl

/-- The strand `u` has what `t` has, but for general register `d`, a result still due in it, the cycle of its next issue,
and the place where it goes on (R57, R135): it waits for nothing and keeps no popped value, and every other field of the
strand, PCC's bounds and permissions, STATUS and the results still due among them, is as it was. -/
def SameStrand (t u : Strand) (d : Nat) : Prop :=
  (∀ r, r ≠ d → u.getG r = t.getG r) ∧ (∀ p, p.reg ≠ d → (p ∈ u.pend ↔ p ∈ t.pend)) ∧
    (∀ r, r ≠ d → (r ∈ u.lost ↔ r ∈ t.lost)) ∧ u.pcc = t.advance.pcc ∧ u.rep = t.advance.rep ∧
    u.wait = none ∧ u.granted = none ∧ u.popped = [] ∧
    { u with g := t.g, pend := t.pend, lost := t.lost, pcc := t.pcc, rep := t.rep, wait := t.wait, granted := t.granted,
             popped := t.popped, nextIssue := t.nextIssue } = t

/-- What an instruction that writes nothing but general register `d` leaves: all but the strand, its core's count of
instructions and the general register. -/
def WritesOnly (s n : State) (t : Strand) (d : Nat) : Prop :=
  SameButCores s n ∧ SameMemory s n ∧ SameCores s n ∧
    ∃ u, n.strand s.turn.1 s.turn.2 = some u ∧ SameStrand (t.settle s.now) u d

/-- Every byte outside the `n` bytes from location `a` reads as before. -/
def SameOutside (s t : State) (a n : Nat) : Prop := ∀ x, x < a ∨ a + n ≤ x → t.byte x = s.byte x

/-- R99: no byte and no tag changes but those of the `n` bytes from location `a` and of their granules. -/
def ChangesOnly (s t : State) (a n : Nat) : Prop :=
  SameOutside s t a n ∧ ∀ g, g < a / 16 ∨ (a + n - 1) / 16 < g → (g ∈ t.tags ↔ g ∈ s.tags)

/-- R99: the `n` bytes from location `a` hold the number `v`, and their granules no tag. -/
def HoldsData (t : State) (a n v : Nat) : Prop :=
  t.read a n = v % 2 ^ (8 * n) ∧ ∀ g, a / 16 ≤ g → g ≤ (a + n - 1) / 16 → g ∉ t.tags

/-! ### Queues and regions (R376 to R389, R395) -/

/-- R376, R379, R380, R388, R389: queue `q` of a function is the one that is served; `w` is its head packet, valid and of
type `t`; no launch and no copy of the queue holds it back or stops it. `s'` is the state as its service begins, `x` the queue there. -/
def HeadReady (s : State) (vf q : Nat) (s' : State) (x : Queue) (part t : Nat) (w : BitVec 512) : Prop :=
  ∃ y, s.queue vf q = some y ∧ s.partOfQueue vf y = some part ∧ s.serves vf q = true ∧
    s.headPacket vf q y part = .inl w ∧ s' = s.beginService vf q y ∧ s'.queue vf q = some x ∧
    s'.headPacket vf q x part = .inl w ∧ s'.launchStops vf q = none ∧ s'.launchHeld vf q = false ∧
    packetValid w = true ∧ descWord w 0 % 256 = t ∧
    ((descWord w 0 / 2 ^ 8 % 2 = 1 ∨ t = 5 ∨ t = 6) → s'.launchOpen vf q = false ∧ x.rest = []) ∧
    (t = 3 → y.rest = [])

/-- R395, R455: the event `i`, a write of the firmware of the region's die, takes region `r` from state `a` as `f` says, and
writes its status word (R410). -/
def MovesRegion (i : Sys2Proof.Instr) (r : Nat) (a : RegionState) (f : Region → Region) : Prop :=
  ∀ s : State, s.firmwareRuns (r / 5) = true → (s.region r).st = a → exec i s = .next (s.regionTo r f)

/-! ### The invariant of memory -/

/-! ### What rounding gives (R38 to R45) -/

/-- R31, R39 step 1: the magnitudes that a format expresses with its exponent range open above, in ascending order. -/
def gridValue (f : Fmt) (c : Nat) : ℚ :=
  if c < 2 ^ f.mbits then (c : ℚ) * 2 ^ (1 - (f.bias : ℤ) - (f.mbits : ℤ))
  else ((c % 2 ^ f.mbits + 2 ^ f.mbits : Nat) : ℚ) * 2 ^ (((c / 2 ^ f.mbits : Nat) : ℤ) - (f.bias : ℤ) - (f.mbits : ℤ))

/-- The number that a finite value stands for. -/
def finValue (neg : Bool) (man : Nat) (exp : Int) : ℚ := (if neg then -1 else 1) * (man : ℚ) * 2 ^ exp

/-- R38, R45: the magnitude `v` of a number of the stated sign, rounded to member `c` of a rising sequence of magnitudes. -/
def RoundsTo (grid : Nat → ℝ) (rm : RMode) (draw : Nat) (neg : Bool) (v : ℝ) (c : Nat) : Prop :=
  let down := grid c ≤ v ∧ v < grid (c + 1)
  let up := v ≤ grid c ∧ ∀ i, i < c → grid i < v
  match rm with
  | .rne => ∀ i, |v - grid c| < |v - grid i| ∨ i = c ∨ (|v - grid c| = |v - grid i| ∧ c % 2 = 0)
  | .rtz => down
  | .rdn => if neg then up else down
  | .rup => if neg then down else up
  | .sr => ∃ t, grid t ≤ v ∧ v < grid (t + 1) ∧
      (((draw : ℝ) + 1) * (grid (t + 1) - grid t) ≤ (v - grid t) * 2 ^ 16 → c = t + 1) ∧
      ((v - grid t) * 2 ^ 16 < ((draw : ℝ) + 1) * (grid (t + 1) - grid t) → c = t)

/-- R44: with the exponent range open below, the magnitude rounds to less than the smallest normal one. -/
def RoundsTiny (f : Fmt) (rm : RMode) (draw : Nat) (neg : Bool) (v : ℝ) : Prop :=
  let a : ℝ := 2 ^ (1 - (f.bias : ℤ))
  let u : ℝ := a / 2 ^ (f.mbits + 1)
  v < a ∧
    match rm with
    | .rne => v < a - u / 2
    | .rtz => True
    | .rdn => neg = true → v ≤ a - u
    | .rup => neg = false → v ≤ a - u
    | .sr => (v - (a - u)) * 2 ^ 16 < ((draw : ℝ) + 1) * u

/-- R38, R39, R44, R45: `r` is the number of magnitude `v` and the stated sign, rounded once to a format, with its flags. -/
def Rounds (f : Fmt) (rm : RMode) (o : Bool) (draw : Nat) (neg : Bool) (v : ℝ) (r : Nat × FlagSet) : Prop :=
  (v = 0 → r = (f.signed neg 0, 0#5)) ∧
  (0 < v → ∃ c, RoundsTo (fun i => (gridValue f i : ℝ)) rm draw neg v c ∧
    (f.maxCode < c → r = (f.overflowCode rm o neg, flOverflow ||| flInexact)) ∧
    (c ≤ f.maxCode → ∃ under inx : Bool, r = (f.signed neg c, flIf under flUnderflow ||| flIf inx flInexact) ∧
      (inx = true ↔ (gridValue f c : ℝ) ≠ v) ∧
      (under = true ↔ (gridValue f c : ℝ) ≠ v ∧ RoundsTiny f rm draw neg v)))

/-- Memory and the tables kept in canonical form. -/
def Canonical (s : State) : Prop := Memory.wf s.mem = true

end Sys2Proof.Machine
end

