-- ==== Sys2Proof/Certificates/Slice0/Obligations.lean ====
section
/-! DEFINITION. What is claimed of the model: statements from the numbered rules of the spec. `Reads`, `goesOn`,
`gives` and the other words of these statements stand in Sys2Proof/Safety.lean. -/
section

open Sys2Proof Sys2Proof.Machine

/-! ### Words -/

/-- R58, R81 to R84, R88: words written out from the encodings of the spec, and the instructions they stand for; a reserved
opcode, a reserved minor value and an unused field that is not 0 name none, and every word whose opcode no table row has
is refused as reserved. -/
def Obligations.WrittenOutWordsDecode : Prop :=
  (decode 0b00000000001110001100001010000001#32 = .ok (.add 5#6 6#6 7#6 0#2) ∧
    decode 0x0018C289#32 = .ok (.slli 5#6 6#6 3#6) ∧
    decode 0x2468A38D#32 = .ok (.lui 7#6 0x12345#19) ∧
    decode 0x00302A10#32 = .ok (.cbnd 20#6 1#6 6#6 0#2) ∧
    decode 0x0638C2A1#32 = .ok (.faddF32 5#6 6#6 7#6 3#2) ∧
    decode 0x00000000#32 = .error .reservedOpcode ∧
    decode 0xE8000001#32 = .error .reservedMinor ∧
    decode 0xA0080001#32 = .error .badField) ∧
  (∀ w : BitVec 32,
      ((w.extractLsb' 0 7).toNat = 0x00 ∨ (w.extractLsb' 0 7).toNat = 0x3D ∨ (w.extractLsb' 0 7).toNat = 0x3E ∨
        (w.extractLsb' 0 7).toNat = 0x3F ∨ (0x59 ≤ (w.extractLsb' 0 7).toNat ∧ (w.extractLsb' 0 7).toNat ≤ 0x5F) ∨
        0x62 ≤ (w.extractLsb' 0 7).toNat) → decode w = .error .reservedOpcode)

/-- R58 to R60, R81 to R85: encoding and decoding agree for every well-formed instruction that has a word: no field is
dropped, and no two instructions share a word. -/
def Obligations.DecodingInvertsEncoding : Prop :=
  ∀ i : Instr, i.isWord = true → i.wf = true → decode (encode i) = .ok i

/-! ### Integer instructions (R101 to R107) -/

/-- R101: the forms of op 0x01: what each writes, 64 bits of data; the forms that count, reverse and extend bits are stated bit
by bit. The word of each; a word of op 0x01 with a reserved `fn`, or with `b` ≠ 0 in a form of one source, names none. -/
def Obligations.IntegerFormsGiveTheirResults : Prop :=
  (∀ (s s' : State) (d a b : BitVec 6) (sc : BitVec 2) (x y : TV), Reads s [a, b] [d] [x, y] s' →
      exec (.add d a b sc) s = gives sc.toNat d 1 (TV.ofWord (x.lo + y.lo)) s' ∧
      exec (.sub d a b sc) s = gives sc.toNat d 1 (TV.ofWord (x.lo - y.lo)) s' ∧
      exec (.and d a b sc) s = gives sc.toNat d 1 (TV.ofWord (x.lo &&& y.lo)) s' ∧
      exec (.or d a b sc) s = gives sc.toNat d 1 (TV.ofWord (x.lo ||| y.lo)) s' ∧
      exec (.xor d a b sc) s = gives sc.toNat d 1 (TV.ofWord (x.lo ^^^ y.lo)) s' ∧
      exec (.andn d a b sc) s = gives sc.toNat d 1 (TV.ofWord (x.lo &&& ~~~y.lo)) s' ∧
      exec (.orn d a b sc) s = gives sc.toNat d 1 (TV.ofWord (x.lo ||| ~~~y.lo)) s' ∧
      exec (.sll d a b sc) s = gives sc.toNat d 1 (TV.ofWord (x.lo <<< (y.lo.toNat % 64))) s' ∧
      exec (.srl d a b sc) s = gives sc.toNat d 1 (TV.ofWord (x.lo >>> (y.lo.toNat % 64))) s' ∧
      exec (.sra d a b sc) s = gives sc.toNat d 1 (TV.ofWord (x.lo.sshiftRight (y.lo.toNat % 64))) s' ∧
      exec (.rol d a b sc) s = gives sc.toNat d 1 (TV.ofWord (x.lo.rotateLeft (y.lo.toNat % 64))) s' ∧
      exec (.ror d a b sc) s = gives sc.toNat d 1 (TV.ofWord (x.lo.rotateRight (y.lo.toNat % 64))) s' ∧
      exec (.slt d a b sc) s = gives sc.toNat d 1 (TV.ofNat (if x.lo.toInt < y.lo.toInt then 1 else 0)) s' ∧
      exec (.sltn d a b sc) s = gives sc.toNat d 1 (TV.ofNat (if x.lo.toNat < y.lo.toNat then 1 else 0)) s' ∧
      exec (.seq d a b sc) s = gives sc.toNat d 1 (TV.ofNat (if x.lo = y.lo then 1 else 0)) s' ∧
      exec (.sne d a b sc) s = gives sc.toNat d 1 (TV.ofNat (if x.lo = y.lo then 0 else 1)) s' ∧
      exec (.min d a b sc) s = gives sc.toNat d 1 (TV.ofWord (BitVec.ofInt 64 (min x.lo.toInt y.lo.toInt))) s' ∧
      exec (.max d a b sc) s = gives sc.toNat d 1 (TV.ofWord (BitVec.ofInt 64 (max x.lo.toInt y.lo.toInt))) s' ∧
      exec (.minn d a b sc) s = gives sc.toNat d 1 (TV.ofNat (min x.lo.toNat y.lo.toNat)) s' ∧
      exec (.maxn d a b sc) s = gives sc.toNat d 1 (TV.ofNat (max x.lo.toNat y.lo.toNat)) s' ∧
      exec (.addw d a b sc) s = gives sc.toNat d 1 (TV.ofWord (((x.lo + y.lo).extractLsb' 0 32).signExtend 64)) s' ∧
      exec (.subw d a b sc) s = gives sc.toNat d 1 (TV.ofWord (((x.lo - y.lo).extractLsb' 0 32).signExtend 64)) s') ∧
  ((∀ (s s' : State) (d a : BitVec 6) (sc : BitVec 2) (x : TV), Reads s [a] [d] [x] s' →
      (∃ n, exec (.clz d a sc) s = gives sc.toNat d 1 (TV.ofNat n) s' ∧ n ≤ 64 ∧
        (∀ i, i < n → x.lo.getLsbD (63 - i) = false) ∧ (n < 64 → x.lo.getLsbD (63 - n) = true)) ∧
      (∃ n, exec (.ctz d a sc) s = gives sc.toNat d 1 (TV.ofNat n) s' ∧ n ≤ 64 ∧
        (∀ i, i < n → x.lo.getLsbD i = false) ∧ (n < 64 → x.lo.getLsbD n = true)) ∧
      exec (.popc d a sc) s =
        gives sc.toNat d 1 (TV.ofNat ((List.range 64).filter (fun i => x.lo.getLsbD i)).length) s' ∧
      (∃ w : Word, exec (.brev d a sc) s = gives sc.toNat d 1 (TV.ofWord w) s' ∧
        ∀ i, i < 64 → w.getLsbD i = x.lo.getLsbD (63 - i)) ∧
      (∃ w : Word, exec (.bswap d a sc) s = gives sc.toNat d 1 (TV.ofWord w) s' ∧
        ∀ i, i < 8 → w.extractLsb' (8 * i) 8 = x.lo.extractLsb' (8 * (7 - i)) 8)) ∧
    (∀ (s s' : State) (d a b : BitVec 6) (sc : BitVec 2) (x y : TV), Reads s [a, b] [d] [x, y] s' →
      (∃ w : Word, exec (.sxt d a b sc) s = gives sc.toNat d 1 (TV.ofWord w) s' ∧
        ∀ i, i < 64 → w.getLsbD i = x.lo.getLsbD (min i (y.lo.toNat % 64))) ∧
      (∃ w : Word, exec (.zxt d a b sc) s = gives sc.toNat d 1 (TV.ofWord w) s' ∧
        ∀ i, i < 64 → w.getLsbD i = (decide (i ≤ y.lo.toNat % 64) && x.lo.getLsbD i)))) ∧
  (∀ (d a b : BitVec 6) (sc : BitVec 2),
    (∀ p ∈ [(Instr.add d a b sc, 0#5), (.sub d a b sc, 1#5), (.and d a b sc, 2#5), (.or d a b sc, 3#5),
        (.xor d a b sc, 4#5), (.andn d a b sc, 5#5), (.orn d a b sc, 6#5), (.sll d a b sc, 7#5),
        (.srl d a b sc, 8#5), (.sra d a b sc, 9#5), (.rol d a b sc, 10#5), (.ror d a b sc, 11#5),
        (.slt d a b sc, 12#5), (.sltn d a b sc, 13#5), (.seq d a b sc, 14#5), (.sne d a b sc, 15#5),
        (.min d a b sc, 16#5), (.max d a b sc, 17#5), (.minn d a b sc, 18#5), (.maxn d a b sc, 19#5),
        (.sxt d a b sc, 25#5), (.zxt d a b sc, 26#5), (.addw d a b sc, 27#5), (.subw d a b sc, 28#5)],
      encode p.1 = p.2 ++ sc ++ b ++ a ++ d ++ 0x01#7) ∧
    (∀ p ∈ [(Instr.clz d a sc, 20#5), (.ctz d a sc, 21#5), (.popc d a sc, 22#5), (.brev d a sc, 23#5),
        (.bswap d a sc, 24#5)],
      encode p.1 = p.2 ++ sc ++ 0#6 ++ a ++ d ++ 0x01#7)) ∧
  (∀ w : BitVec 32, w.extractLsb' 0 7 = 0x01#7 →
    (29 ≤ (w.extractLsb' 27 5).toNat → decode w = .error .reservedMinor) ∧
    (20 ≤ (w.extractLsb' 27 5).toNat → (w.extractLsb' 27 5).toNat ≤ 24 → w.extractLsb' 19 6 ≠ 0#6 →
      decode w = .error .badField))

/-- R102, R103: the immediate forms and `lui`: what each writes. The word of each; a word with a shift count outside 0 to 63
names none. -/
def Obligations.ImmediateFormsGiveTheirResults : Prop :=
  (∀ (s s' : State) (d a : BitVec 6) (imm : BitVec 13) (n : BitVec 6) (x : TV), Reads s [a] [d] [x] s' →
    exec (.addi d a imm) s = gives 0 d 1 (TV.ofWord (x.lo + imm.signExtend 64)) s' ∧
    exec (.andi d a imm) s = gives 0 d 1 (TV.ofWord (x.lo &&& imm.signExtend 64)) s' ∧
    exec (.ori d a imm) s = gives 0 d 1 (TV.ofWord (x.lo ||| imm.signExtend 64)) s' ∧
    exec (.xori d a imm) s = gives 0 d 1 (TV.ofWord (x.lo ^^^ imm.signExtend 64)) s' ∧
    exec (.slti d a imm) s = gives 0 d 1 (TV.ofNat (if x.lo.toInt < imm.toInt then 1 else 0)) s' ∧
    exec (.sltni d a imm) s = gives 0 d 1 (TV.ofNat (if x.lo.toNat < (imm.signExtend 64).toNat then 1 else 0)) s' ∧
    exec (.slli d a n) s = gives 0 d 1 (TV.ofWord (x.lo <<< n.toNat)) s' ∧
    exec (.srli d a n) s = gives 0 d 1 (TV.ofWord (x.lo >>> n.toNat)) s' ∧
    exec (.srai d a n) s = gives 0 d 1 (TV.ofWord (x.lo.sshiftRight n.toNat)) s' ∧
    exec (.addwi d a imm) s = gives 0 d 1 (TV.ofWord (((x.lo + imm.signExtend 64).extractLsb' 0 32).signExtend 64)) s') ∧
  (∀ (s s' : State) (d : BitVec 6) (imm : BitVec 19), Reads s [] [d] [] s' →
    exec (.lui d imm) s = gives 0 d 1 (TV.ofWord (BitVec.ofInt 64 (imm.toInt * 2 ^ 13))) s') ∧
  (∀ (d a n : BitVec 6) (imm : BitVec 13) (up : BitVec 19),
    (∀ p ∈ [(Instr.addi d a imm, 3#7), (.andi d a imm, 4#7), (.ori d a imm, 5#7), (.xori d a imm, 6#7),
        (.slti d a imm, 7#7), (.sltni d a imm, 8#7), (.addwi d a imm, 12#7)],
      encode p.1 = imm ++ a ++ d ++ p.2) ∧
    (∀ p ∈ [(Instr.slli d a n, 9#7), (.srli d a n, 10#7), (.srai d a n, 11#7)], encode p.1 = 0#7 ++ n ++ a ++ d ++ p.2) ∧
    encode (.lui d up) = up ++ d ++ 0x0D#7) ∧
  (∀ w : BitVec 32, w.extractLsb' 0 7 ∈ [0x09#7, 0x0A#7, 0x0B#7] → 64 ≤ (w.extractLsb' 19 13).toNat →
    decode w = .error .badField)

/-- R105 to R107: multiplication, multiply-add and division: what each writes. A divisor of zero gives all ones and the
dividend, in every width; the most negative dividend divided by −1 wraps, with remainder 0. -/
def Obligations.MultiplyAndDivideGiveTheirResults : Prop :=
  ((∀ (s s' : State) (d a b : BitVec 6) (sc : BitVec 2) (x y : TV), Reads s [a, b] [d] [x, y] s' →
      exec (.mul d a b sc) s = gives sc.toNat d 3 (TV.ofWord (x.lo * y.lo)) s' ∧
      exec (.mulh d a b sc) s = gives sc.toNat d 0 (TV.ofWord (BitVec.ofInt 64 (x.lo.toInt * y.lo.toInt / 2 ^ 64))) s' ∧
      exec (.mulhn d a b sc) s = gives sc.toNat d 0 (TV.ofWord (BitVec.ofNat 64 (x.lo.toNat * y.lo.toNat / 2 ^ 64))) s' ∧
      exec (.mulhsn d a b sc) s =
        gives sc.toNat d 0 (TV.ofWord (BitVec.ofInt 64 (x.lo.toInt * (y.lo.toNat : Int) / 2 ^ 64))) s' ∧
      exec (.mulw d a b sc) s = gives sc.toNat d 3
        (TV.ofWord ((x.lo.extractLsb' 0 32 * y.lo.extractLsb' 0 32).signExtend 64)) s') ∧
    (∀ (s s' : State) (d a b : BitVec 6) (sc : BitVec 2) (x y : TV), Reads s [a, b] [d] [x, y] s' →
      y.lo ≠ 0#64 →
      exec (.div d a b sc) s = gives sc.toNat d 0 (TV.ofWord (BitVec.ofInt 64 (x.lo.toInt.tdiv y.lo.toInt))) s' ∧
      exec (.divn d a b sc) s = gives sc.toNat d 0 (TV.ofNat (x.lo.toNat / y.lo.toNat)) s' ∧
      exec (.rem d a b sc) s = gives sc.toNat d 0 (TV.ofWord (BitVec.ofInt 64 (x.lo.toInt.tmod y.lo.toInt))) s' ∧
      exec (.remn d a b sc) s = gives sc.toNat d 0 (TV.ofNat (x.lo.toNat % y.lo.toNat)) s') ∧
    (∀ (s s' : State) (d a b : BitVec 6) (sc : BitVec 2) (x y : TV) (p q : BitVec 32),
      Reads s [a, b] [d] [x, y] s' → p = x.lo.extractLsb' 0 32 → q = y.lo.extractLsb' 0 32 → q ≠ 0#32 →
      exec (.divw d a b sc) s =
        gives sc.toNat d 0 (TV.ofWord ((BitVec.ofInt 32 (p.toInt.tdiv q.toInt)).signExtend 64)) s' ∧
      exec (.divnw d a b sc) s = gives sc.toNat d 0 (TV.ofWord ((BitVec.ofNat 32 (p.toNat / q.toNat)).signExtend 64)) s' ∧
      exec (.remw d a b sc) s =
        gives sc.toNat d 0 (TV.ofWord ((BitVec.ofInt 32 (p.toInt.tmod q.toInt)).signExtend 64)) s' ∧
      exec (.remnw d a b sc) s =
        gives sc.toNat d 0 (TV.ofWord ((BitVec.ofNat 32 (p.toNat % q.toNat)).signExtend 64)) s') ∧
    (∀ (s s' : State) (d a b c : BitVec 6) (x y z : TV), Reads s [a, b, c] [d] [x, y, z] s' →
      exec (.madd d a b c) s = gives 0 d 4 (TV.ofWord (x.lo * y.lo + z.lo)) s' ∧
      exec (.msub d a b c) s = gives 0 d 4 (TV.ofWord (x.lo * y.lo - z.lo)) s')) ∧
  ((∀ (s s' : State) (d a b : BitVec 6) (sc : BitVec 2) (x y : TV), Reads s [a, b] [d] [x, y] s' →
      y.lo = 0#64 →
      exec (.div d a b sc) s = gives sc.toNat d 0 (TV.ofWord (BitVec.allOnes 64)) s' ∧
      exec (.divn d a b sc) s = gives sc.toNat d 0 (TV.ofWord (BitVec.allOnes 64)) s' ∧
      exec (.rem d a b sc) s = gives sc.toNat d 0 (TV.ofWord x.lo) s' ∧
      exec (.remn d a b sc) s = gives sc.toNat d 0 (TV.ofWord x.lo) s') ∧
    (∀ (s s' : State) (d a b : BitVec 6) (sc : BitVec 2) (x y : TV), Reads s [a, b] [d] [x, y] s' →
      y.lo.extractLsb' 0 32 = 0#32 →
      exec (.divw d a b sc) s = gives sc.toNat d 0 (TV.ofWord (BitVec.allOnes 64)) s' ∧
      exec (.divnw d a b sc) s = gives sc.toNat d 0 (TV.ofWord (BitVec.allOnes 64)) s' ∧
      exec (.remw d a b sc) s = gives sc.toNat d 0 (TV.ofWord ((x.lo.extractLsb' 0 32).signExtend 64)) s' ∧
      exec (.remnw d a b sc) s = gives sc.toNat d 0 (TV.ofWord ((x.lo.extractLsb' 0 32).signExtend 64)) s') ∧
    (∀ (s s' : State) (d a b : BitVec 6) (sc : BitVec 2) (x y : TV), Reads s [a, b] [d] [x, y] s' →
      x.lo = 0x8000000000000000#64 → y.lo = BitVec.allOnes 64 →
      exec (.div d a b sc) s = gives sc.toNat d 0 (TV.ofWord 0x8000000000000000#64) s' ∧
      exec (.rem d a b sc) s = gives sc.toNat d 0 (TV.ofWord 0#64) s') ∧
    (∀ (s s' : State) (d a b : BitVec 6) (sc : BitVec 2) (x y : TV), Reads s [a, b] [d] [x, y] s' →
      x.lo.extractLsb' 0 32 = 0x80000000#32 → y.lo.extractLsb' 0 32 = BitVec.allOnes 32 →
      exec (.divw d a b sc) s = gives sc.toNat d 0 (TV.ofWord 0xFFFFFFFF80000000#64) s' ∧
      exec (.remw d a b sc) s = gives sc.toNat d 0 (TV.ofWord 0#64) s'))

/-! ### Capabilities (R93 to R96, R104, R108 to R111) -/

/-- R104, R108, R110, R111: the capability instructions that cannot trap: the value each writes. -/
def Obligations.CapabilityFormsGiveTheirResults : Prop :=
  (∀ (s s' : State) (d a b : BitVec 6) (sc : BitVec 2) (x y : TV), Reads s [a, b] [d] [x, y] s' →
    exec (.cperm d a b sc) s = gives sc.toNat d 1
      { x with bits := (x.bits.extractLsb' 120 8 &&& y.bits.extractLsb' 0 8) ++ x.bits.extractLsb' 0 120 } s' ∧
    exec (.cseta d a b sc) s = gives sc.toNat d 1 (setAddr x y.lo.toNat) s' ∧
    exec (.cadd d a b sc) s = gives sc.toNat d 1 (setAddr x (x.lo + y.lo).toNat) s' ∧
    exec (.csub d a b sc) s = gives sc.toNat d 1 (TV.ofWord (x.lo - y.lo)) s' ∧
    exec (.ctest d a b sc) s = gives sc.toNat d 1 (TV.ofNat (if x.tag = true ∧ y.tag = true ∧ capBase x ≤ capBase y ∧
      capTop y ≤ capTop x ∧ capPerms y &&& capPerms x = capPerms y then 1 else 0)) s') ∧
  (∀ (s s' : State) (d a : BitVec 6) (sc : BitVec 2) (imm : BitVec 13) (x : TV), Reads s [a] [d] [x] s' →
    exec (.cbase d a sc) s = gives sc.toNat d 1 (TV.ofWord (if x.tag then BitVec.ofInt 64 (capBase x) else 0#64)) s' ∧
    exec (.clen d a sc) s =
      gives sc.toNat d 1 (TV.ofWord (if x.tag then BitVec.ofInt 64 (capTop x - capBase x) else 0#64)) s' ∧
    exec (.cperms d a sc) s =
      gives sc.toNat d 1 (TV.ofNat (if x.tag then (x.bits.extractLsb' 120 8).toNat else 0)) s' ∧
    exec (.ctag d a sc) s = gives sc.toNat d 1 (TV.ofNat (if x.tag then 1 else 0)) s' ∧
    exec (.cclr d a sc) s = gives sc.toNat d 1 ⟨x.bits, false⟩ s' ∧
    exec (.cmv d a sc) s = gives sc.toNat d 1 x s' ∧
    exec (.caddi d a imm) s = gives 0 d 1 (setAddr x (x.lo + imm.signExtend 64).toNat) s') ∧
  (∀ (s s' : State) (d : BitVec 6) (imm : BitVec 19) (t : Strand), Reads s [] [d] [] s' → s'.cur = some t →
    exec (.auipc d imm) s = gives 0 d 1 (setAddr t.pcc (t.pc + BitVec.ofInt 64 (imm.toInt * 2 ^ 13)).toNat) s')

/-- R109: narrowing traps without a tag and outside the bounds; `cbnde` also where the bounds would be rounded. Else it
gives the capability with the address kept, the least exponent that holds the length, bounds rounded outward, distance 0
and the permissions of its source.
R109: `cbndi` narrows as `cbnd` does, to a length of its immediate. -/
def Obligations.NarrowingFollowsItsPseudocode : Prop :=
  (∀ (s s' : State) (t : Strand) (d a b : BitVec 6) (sc : BitVec 2) (x y : TV) (lo top : Nat), Turn s t →
      Reads s [a, b] [d] [x, y] s' → lo = x.lo.toNat → top = lo + y.lo.toNat →
      (x.tag = false → exec (.cbnd d a b sc) s = traps 0x03 x.lo t s' ∧ exec (.cbnde d a b sc) s = traps 0x03 x.lo t s') ∧
      (x.tag = true → ((lo : Int) < capBase x ∨ capTop x < (top : Int)) →
        exec (.cbnd d a b sc) s = traps 0x04 (BitVec.ofNat 64 top) t s' ∧
        exec (.cbnde d a b sc) s = traps 0x04 (BitVec.ofNat 64 top) t s') ∧
      (x.tag = true → capBase x ≤ (lo : Int) → (top : Int) ≤ capTop x → capOk x = true →
        ∃ e, e ≤ capE x ∧ (top + 2 ^ e - 1) / 2 ^ e - lo / 2 ^ e ≤ 0xC00000 ∧
          (∀ f, f < e → 0xC00000 < (top + 2 ^ f - 1) / 2 ^ f - lo / 2 ^ f) ∧
          exec (.cbnd d a b sc) s =
            gives sc.toNat d 1 (mkCap lo ((top + 2 ^ e - 1) / 2 ^ e - lo / 2 ^ e) 0 e (capPerms x)) s' ∧
          (lo % 2 ^ e = 0 → top % 2 ^ e = 0 → exec (.cbnde d a b sc) s = exec (.cbnd d a b sc) s) ∧
          ((lo % 2 ^ e ≠ 0 ∨ top % 2 ^ e ≠ 0) → exec (.cbnde d a b sc) s = traps 0x04 (BitVec.ofNat 64 top) t s'))) ∧
  (∀ (s s' : State) (t : Strand) (d a : BitVec 6) (imm : BitVec 12) (x : TV) (lo top : Nat), Turn s t →
      Reads s [a] [d] [x] s' → lo = x.lo.toNat → top = lo + imm.toNat →
      (x.tag = false → exec (.cbndi d a imm) s = traps 0x03 x.lo t s') ∧
      (x.tag = true → ((lo : Int) < capBase x ∨ capTop x < (top : Int)) →
        exec (.cbndi d a imm) s = traps 0x04 (BitVec.ofNat 64 top) t s') ∧
      (x.tag = true → capBase x ≤ (lo : Int) → (top : Int) ≤ capTop x →
        exec (.cbndi d a imm) s = gives 0 d 1 (mkCap lo imm.toNat 0 0 (capPerms x)) s'))

/-- R92, R96, R110: setting the address of a capability keeps its base, its top and its permissions, or takes its tag; the
new address is the one asked for.
R92: narrowing within the bounds of a capability gives one whose bounds lie within them and hold all that was asked
for, usable, with the same permissions; masking permissions adds none and keeps the bounds. -/
def Obligations.DerivedCapabilitiesStayWithinTheirSource : Prop :=
  (∀ (c : TV) (y : Nat), y < 2 ^ 64 → capOk c = true → c.tag = true →
    capAddr (setAddr c y) = y ∧
    ((setAddr c y).tag = representable c y) ∧
    (representable c y = true → capBase (setAddr c y) = capBase c ∧ capTop (setAddr c y) = capTop c ∧
      capPerms (setAddr c y) = capPerms c ∧ capOk (setAddr c y) = true)) ∧
  (∀ (c : TV) (lo top : Nat) (w : Word), capOk c = true → c.tag = true → capBase c ≤ (lo : Int) → lo < 2 ^ 64 → lo ≤ top →
    (top : Int) ≤ capTop c →
    capBase c ≤ capBase (narrow c lo top).1 ∧ capBase (narrow c lo top).1 ≤ (lo : Int) ∧
    (top : Int) ≤ capTop (narrow c lo top).1 ∧ capTop (narrow c lo top).1 ≤ capTop c ∧
    capPerms (narrow c lo top).1 = capPerms c ∧ capOk (narrow c lo top).1 = true ∧
    capPerms (maskPerms c w) &&& capPerms c = capPerms (maskPerms c w) ∧ capBase (maskPerms c w) = capBase c ∧
    capTop (maskPerms c w) = capTop c)

/-! ### Floating point (R45, R112 to R119) -/

/-- R45, R55, R112, R113, R117: the arithmetic forms: one rounding under STATUS.rm, one draw under SR, the flags set together
with the result.
R55: flags that wait for a result join the sticky flags in the cycle in which it becomes available. -/
def Obligations.FloatArithmeticGivesItsRoundings : Prop :=
  (∀ (s s' : State) (t : Strand) (d a b : BitVec 6) (sc : BitVec 2) (x y : TV), Reads s [a, b] [d] [x, y] s' →
    s'.cur = some t →
    exec (.faddF32 d a b sc) s = givesFp sc.toNat d 4
      (addVal .f32 t.mode false (s'.drawOf t.mode) (fv x.f32) (fv y.f32)) (s'.drawn t.mode) ∧
    exec (.fsubF32 d a b sc) s = givesFp sc.toNat d 4
      (addVal .f32 t.mode false (s'.drawOf t.mode) (fv x.f32) (fv y.f32).neg) (s'.drawn t.mode) ∧
    exec (.fmulF32 d a b sc) s = givesFp sc.toNat d 4
      (mulVal .f32 t.mode (s'.drawOf t.mode) (fv x.f32) (fv y.f32)) (s'.drawn t.mode) ∧
    exec (.fdivF32 d a b sc) s = givesFp sc.toNat d 0
      (divVal .f32 t.mode (s'.drawOf t.mode) (fv x.f32) (fv y.f32)) (s'.drawn t.mode)) ∧
  (∀ (s s' : State) (t : Strand) (d a : BitVec 6) (sc : BitVec 2) (x : TV), Reads s [a] [d] [x] s' →
    s'.cur = some t →
    exec (.fsqrtF32 d a sc) s =
      givesFp sc.toNat d 0 (sqrtVal .f32 t.mode (s'.drawOf t.mode) (fv x.f32)) (s'.drawn t.mode)) ∧
  (∀ (s s' : State) (t : Strand) (d a b c : BitVec 6) (x y z : TV), Reads s [a, b, c] [d] [x, y, z] s' →
    s'.cur = some t →
    exec (.fmaddF32 d a b c) s = givesFp 0 d 4
      (fmaVal .f32 t.mode (s'.drawOf t.mode) (fv x.f32) (fv y.f32) (fv z.f32)) (s'.drawn t.mode) ∧
    exec (.fmsubF32 d a b c) s = givesFp 0 d 4
      (fmaVal .f32 t.mode (s'.drawOf t.mode) (fv x.f32) (fv y.f32) (fv z.f32).neg) (s'.drawn t.mode)) ∧
  (∀ (t : Strand) (f : FlagSet) (avail now : Nat),
    (now < avail → ((t.pendFlags avail f).settle now).sr = (t.settle now).sr) ∧
    (avail ≤ now → ((t.pendFlags avail f).settle now).sr = (t.settle now).sr ||| f))

/-- R114 to R116: minimum, maximum, comparisons, classification and the sign operations: they take no draw.
R118, R119, R42: the conversions; a widening takes no draw.
R178, R179, R180: the element operations on floating elements are these of the scalars, each rounded once. R183: a conversion of
elements by the types of its pair, R184, R185: blocks of 32 quantised under one scale, and elements scaled back. -/
def Obligations.FloatSelectionsAndConversionsGiveTheirResults : Prop :=
  ((∀ (s s' : State) (d a b : BitVec 6) (sc : BitVec 2) (x y : TV), Reads s [a, b] [d] [x, y] s' →
      exec (.fminF32 d a b sc) s = givesFp sc.toNat d 4 (minMaxVal .f32 false x.f32 y.f32) s' ∧
      exec (.fmaxF32 d a b sc) s = givesFp sc.toNat d 4 (minMaxVal .f32 true x.f32 y.f32) s' ∧
      (∃ r fl, exec (.feqF32 d a b sc) s = givesFp sc.toNat d 4 (r, fl) s' ∧ (r = 0 ∨ r = 1) ∧
        (r = 1 ↔ (fv x.f32).isNaN = false ∧ (fv y.f32).isNaN = false ∧ cmpVal (fv x.f32) (fv y.f32) = 0) ∧
        fl = if (fv x.f32).isSNaN = true ∨ (fv y.f32).isSNaN = true then flInvalid else 0#5) ∧
      (∃ r fl, exec (.fltF32 d a b sc) s = givesFp sc.toNat d 4 (r, fl) s' ∧ (r = 0 ∨ r = 1) ∧
        (r = 1 ↔ (fv x.f32).isNaN = false ∧ (fv y.f32).isNaN = false ∧ cmpVal (fv x.f32) (fv y.f32) < 0) ∧
        fl = if (fv x.f32).isNaN = true ∨ (fv y.f32).isNaN = true then flInvalid else 0#5) ∧
      (∃ r fl, exec (.fleF32 d a b sc) s = givesFp sc.toNat d 4 (r, fl) s' ∧ (r = 0 ∨ r = 1) ∧
        (r = 1 ↔ (fv x.f32).isNaN = false ∧ (fv y.f32).isNaN = false ∧ cmpVal (fv x.f32) (fv y.f32) ≤ 0) ∧
        fl = if (fv x.f32).isNaN = true ∨ (fv y.f32).isNaN = true then flInvalid else 0#5) ∧
      exec (.fsgnF32 d a b sc) s =
        givesFp sc.toNat d 4 ((y.bits.extractLsb' 31 1 ++ x.bits.extractLsb' 0 31).toNat, 0#5) s') ∧
    (∀ (s s' : State) (d a : BitVec 6) (sc : BitVec 2) (x : TV), Reads s [a] [d] [x] s' →
      exec (.fclassF32 d a sc) s = givesFp sc.toNat d 4 (classMask .f32 x.f32, 0#5) s' ∧
      exec (.fnegF32 d a sc) s =
        givesFp sc.toNat d 4 ((~~~(x.bits.extractLsb' 31 1) ++ x.bits.extractLsb' 0 31).toNat, 0#5) s' ∧
      exec (.fabsF32 d a sc) s = givesFp sc.toNat d 4 ((x.bits.extractLsb' 0 31).toNat, 0#5) s')) ∧
  (∀ (s s' : State) (t : Strand) (d a : BitVec 6) (sc : BitVec 2) (x : TV), Reads s [a] [d] [x] s' →
      s'.cur = some t →
      exec (.fcvtF32I64 d a sc) s = givesFp sc.toNat d 2
        (roundVal .f32 t.mode false (s'.drawOf t.mode) (intVal x.lo.toInt)) (s'.drawn t.mode) ∧
      exec (.fcvtF32N64 d a sc) s = givesFp sc.toNat d 2
        (roundVal .f32 t.mode false (s'.drawOf t.mode) (intVal (x.lo.toNat : Int))) (s'.drawn t.mode) ∧
      (∃ v fl, cvtInt (-(2 ^ 63)) (2 ^ 63 - 1) t.mode (s'.drawOf t.mode) (fv x.f32) = (v, fl) ∧
        -(2 ^ 63) ≤ v ∧ v ≤ 2 ^ 63 - 1 ∧
        exec (.fcvtI64F32 d a sc) s = givesFp sc.toNat d 2 ((BitVec.ofInt 64 v).toNat, fl) (s'.drawn t.mode)) ∧
      (∃ v fl, cvtInt 0 (2 ^ 64 - 1) t.mode (s'.drawOf t.mode) (fv x.f32) = (v, fl) ∧ 0 ≤ v ∧ v ≤ 2 ^ 64 - 1 ∧
        exec (.fcvtN64F32 d a sc) s = givesFp sc.toNat d 2 (v.toNat, fl) (s'.drawn t.mode)) ∧
      exec (.fcvtF32Bf16 d a sc) s =
        givesFp sc.toNat d 2 (cvtVal .f32 .rne false 0 (Fmt.bf16.decode (x.bits.extractLsb' 0 16).toNat)) s' ∧
      exec (.fcvtBf16F32 d a sc) s =
        givesFp sc.toNat d 2 (cvtVal .bf16 t.mode false (s'.drawOf t.mode) (fv x.f32)) (s'.drawn t.mode) ∧
      exec (.fcvtF32F16 d a sc) s =
        givesFp sc.toNat d 2 (cvtVal .f32 .rne false 0 (Fmt.f16.decode (x.bits.extractLsb' 0 16).toNat)) s' ∧
      exec (.fcvtF16F32 d a sc) s =
        givesFp sc.toNat d 2 (cvtVal .f16 t.mode false (s'.drawOf t.mode) (fv x.f32)) (s'.drawn t.mode) ∧
      exec (.fcvtF32E8 d a sc) s =
        givesFp sc.toNat d 2 (cvtVal .f32 .rne false 0 (e8Val (x.bits.extractLsb' 0 8).toNat)) s' ∧
      exec (.fcvtE8F32 d a sc) s =
        givesFp sc.toNat d 2 (toE8 t.mode (s'.drawOf t.mode) (fv x.f32)) (s'.drawn t.mode)) ∧
  ((∀ (f : Fmt) (k : Bool) (rm : RMode) (dr a b d : Nat) (w h : Nat) (x y : FVal), w = f.width → h = 2 ^ (w - 1) →
      x = f.decode a → y = f.decode b →
      arith .vadd (.flt f) k rm dr a b d = addVal f rm false dr x y ∧
      arith .vsub (.flt f) k rm dr a b d = addVal f rm false dr x y.neg ∧
      arith .vmul (.flt f) k rm dr a b d = mulVal f rm dr x y ∧
      arith .vfma (.flt f) k rm dr a b d = fmaVal f rm dr x y (f.decode d) ∧
      (a < 2 ^ w → signOp false (.flt f) k a = (if h ≤ a then a - h else a, 0#5) ∧
        signOp true (.flt f) k a = (if h ≤ a then a - h else a + h, 0#5)) ∧
      (∀ m, minMax m (.flt f) a b = minMaxVal f m a b) ∧
      (∀ g lo hi r, lo = g % 2 ^ w → hi = g / 2 ^ 64 % 2 ^ w → r = minMaxVal f true a lo → clampOp (.flt f) a g =
        ((minMaxVal f false r.1 hi).1, r.2 ||| (minMaxVal f false r.1 hi).2)) ∧
      ((relation .vcmpEq (.flt f) a b).1 = true ↔ x.isNaN = false ∧ y.isNaN = false ∧ cmpVal x y = 0) ∧
      ((relation .vcmpLt (.flt f) a b).1 = true ↔ x.isNaN = false ∧ y.isNaN = false ∧ cmpVal x y < 0) ∧
      ((relation .vcmpLe (.flt f) a b).1 = true ↔ x.isNaN = false ∧ y.isNaN = false ∧ cmpVal x y ≤ 0) ∧
      (relation .vcmpEq (.flt f) a b).2 = (if x.isSNaN = true ∨ y.isSNaN = true then flInvalid else 0#5) ∧
      (relation .vcmpLt (.flt f) a b).2 = (if x.isNaN = true ∨ y.isNaN = true then flInvalid else 0#5) ∧
      (relation .vcmpLe (.flt f) a b).2 = (if x.isNaN = true ∨ y.isNaN = true then flInvalid else 0#5)) ∧
    (∀ (ta : ETy) (f : Fmt) (k o sg : Bool) (w : Nat) (rm : RMode) (dr c : Nat) (x : FVal × FlagSet), x = elemVal ta c →
      (widening ta (.flt f) = true → convert ta (.flt f) k o rm dr c =
        ((cvtVal f .rne true 0 x.1).1, (cvtVal f .rne true 0 x.1).2 ||| x.2)) ∧
      (widening ta (.flt f) = false → convert ta (.flt f) k o rm dr c =
        ((cvtVal f rm o dr x.1).1, (cvtVal f rm o dr x.1).2 ||| x.2)) ∧
      (∀ v, elemInt ta c = some v → convert ta (.int sg w) k o rm dr c = ((narrowInt sg w k v).1, (narrowInt sg w k v).2 ||| x.2) ∧
        convert ta .t2 k o rm dr c = (t2Code (max (-1) (min 1 v)),
          (if v < -1 ∨ 1 < v then flSaturation ||| flInexact else 0#5) ||| x.2)) ∧
      (elemInt ta c = none → convert ta (.int sg w) k o rm dr c = (intCode w (cvtInt (intMin sg w) (intMax sg w) rm dr x.1).1,
          (cvtInt (intMin sg w) (intMax sg w) rm dr x.1).2 ||| x.2) ∧
        convert ta .t2 k o rm dr c = (t2Code (cvtT2 rm dr x.1).1, (cvtT2 rm dr x.1).2 ||| x.2)) ∧
      (ta ≠ .e8 → convert ta .e8 k o rm dr c = ((toE8 rm dr x.1).1, (toE8 rm dr x.1).2 ||| x.2))) ∧
    (∀ (fa fd : Fmt) (rm : RMode) (dr c scale : Nat),
      ((fa.decode c).isNaN = true ∨ scale = 255 → dequantise fa fd rm dr c scale = (fd.nan, 0#5)) ∧
      (∀ n, fa.decode c = .inf n → scale ≠ 255 → dequantise fa fd rm dr c scale = (fd.signed n fd.infCode, 0#5)) ∧
      (∀ n m e, fa.decode c = .fin n m e → scale ≠ 255 →
        dequantise fa fd rm dr c scale = fd.round rm false dr n m (e + scale - 127))) ∧
    (∀ (f : Fmt) (rm : RMode) (o : Bool) (draw : Nat → Nat) (xs : List FVal),
      ((∃ x ∈ xs, ∀ n m e, x ≠ .fin n m e) → quantise f rm o draw xs = (0xFF, xs.map (fun _ => 0), flInvalid)) ∧
      ((∀ x ∈ xs, ∃ n e, x = .fin n 0 e) → quantise f rm o draw xs = (0, xs.map (fun x => f.signed x.isNeg 0), 0#5)) ∧
      (∀ (p q : Int) (r : Nat → Nat × FlagSet), (∀ x ∈ xs, ∃ n m e, x = .fin n m e ∧ (m ≠ 0 → e + Nat.log2 m ≤ p)) →
        (∃ n m e, .fin n m e ∈ xs ∧ m ≠ 0 ∧ e + Nat.log2 m = p) →
        q = max (-127) (min 127 (p - (match f with | .e4m3 => 8 | .e5m2 => 15 | .e3m2 => 4 | _ => 2))) →
        (∀ i n m e, xs[i]? = some (.fin n m e) → r i = f.round rm o (draw i) n m (e - q)) →
        ∃ es fl, quantise f rm o draw xs = ((q + 127).toNat, es, fl) ∧ es.length = xs.length ∧
          (∀ i, i < xs.length → es[i]? = some (r i).1) ∧
          ∀ b, b < 5 → (fl.getLsbD b = true ↔ ∃ i, i < xs.length ∧ (r i).2.getLsbD b = true))))

/-- R33, R113, R117: special operands: the combinations that give the canonical NaN and set invalid, the infinities, and
NaN operands, which set invalid only where one is signalling. -/
def Obligations.FloatSpecialOperandsFollowTheTable : Prop :=
  ∀ (rm : RMode) (dr : Nat) (n m q : Bool) (man : Nat) (e e' : Int) (x y : FVal),
    addVal .f32 rm false dr (.inf n) (.inf (!n)) = (0x7FC00000, flInvalid) ∧
    addVal .f32 rm false dr (.inf n) (.inf n) = (if n then 0xFF800000 else 0x7F800000, 0#5) ∧
    mulVal .f32 rm dr (.fin n 0 e) (.inf m) = (0x7FC00000, flInvalid) ∧
    mulVal .f32 rm dr (.inf m) (.fin n 0 e) = (0x7FC00000, flInvalid) ∧
    divVal .f32 rm dr (.fin n 0 e) (.fin m 0 e') = (0x7FC00000, flInvalid) ∧
    divVal .f32 rm dr (.inf n) (.inf m) = (0x7FC00000, flInvalid) ∧
    (man ≠ 0 → divVal .f32 rm dr (.fin n man e) (.fin m 0 e') =
      (if n = m then 0x7F800000 else 0xFF800000, 0#5)) ∧
    (man ≠ 0 → sqrtVal .f32 rm dr (.fin true man e) = (0x7FC00000, flInvalid)) ∧
    sqrtVal .f32 rm dr (.inf true) = (0x7FC00000, flInvalid) ∧
    sqrtVal .f32 rm dr (.fin true 0 e) = (0x80000000, 0#5) ∧
    sqrtVal .f32 rm dr (.inf false) = (0x7F800000, 0#5) ∧
    fmaVal .f32 rm dr (.fin n 0 e) (.inf m) (.nan false) = (0x7FC00000, flInvalid) ∧
    ((x.isNaN = true ∨ y.isNaN = true) →
      addVal .f32 rm false dr x y = (0x7FC00000, if x.isSNaN = true ∨ y.isSNaN = true then flInvalid else 0#5) ∧
      mulVal .f32 rm dr x y = (0x7FC00000, if x.isSNaN = true ∨ y.isSNaN = true then flInvalid else 0#5) ∧
      divVal .f32 rm dr x y = (0x7FC00000, if x.isSNaN = true ∨ y.isSNaN = true then flInvalid else 0#5)) ∧
    sqrtVal .f32 rm dr (.nan q) = (0x7FC00000, if q then flInvalid else 0#5)

/-! ### Control flow (R131 to R136) -/

/-- R131: each branch is taken under its condition on the two sources, to its target within the bounds of PCC, and traps
where the target lies outside them; not taken, it only goes on. The word of each. -/
def Obligations.BranchesAreTakenUnderTheirConditions : Prop :=
  BranchesOn .beq (fun x y => x = y) ∧ BranchesOn .bne (fun x y => x ≠ y) ∧
  BranchesOn .blt (fun x y => x.toInt < y.toInt) ∧ BranchesOn .bge (fun x y => y.toInt ≤ x.toInt) ∧
  BranchesOn .bltn (fun x y => x.toNat < y.toNat) ∧ BranchesOn .bgen (fun x y => y.toNat ≤ x.toNat) ∧
  (∀ (a b : BitVec 6) (imm : BitVec 13),
    ∀ p ∈ [(Instr.beq a b imm, 36#7), (.bne a b imm, 37#7), (.blt a b imm, 38#7), (.bge a b imm, 39#7),
        (.bltn a b imm, 40#7), (.bgen a b imm, 41#7)],
      encode p.1 = imm ++ b ++ a ++ p.2)

/-- R133 to R135: the jumps write the link after their checks and continue at the target; `jalr` installs the capability it
jumps through; `rep` starts its passes, or skips its body when it is to run no times.
R135: after an instruction of a body the strand stands at the next word of the body; after its last word, at the
first word of the next pass, or behind the body once the passes are done. -/
def Obligations.JumpsAndRepeatsContinueAtTheirTargets : Prop :=
  ((∀ (s s' : State) (t0 t : Strand) (d : BitVec 6) (imm : BitVec 19) (target : Nat), Turn s t0 → Reads s [] [d] [] s' →
      s'.cur = some t → target = (t.pc + BitVec.ofInt 64 (imm.toInt * 4)).toNat →
      (InBounds t.pcc target → exec (.jal d imm) s =
        jumps (setAddr t.pcc target) (s'.written d 1 (setAddr t.pcc (t.pc + 4#64).toNat))) ∧
      (¬ InBounds t.pcc target → exec (.jal d imm) s = traps 0x04 (BitVec.ofNat 64 target) t0 s')) ∧
    (∀ (s s' : State) (t0 t : Strand) (d a : BitVec 6) (imm : BitVec 13) (c : TV) (x : Word), Turn s t0 →
      Reads s [a] [d] [c] s' → s'.cur = some t → x = c.lo + imm.signExtend 64 →
      (c.tag = false → exec (.jalr d a imm) s = traps 0x03 x t0 s') ∧
      (c.tag = true → capHas c permExec = false → exec (.jalr d a imm) s = traps 0x05 x t0 s') ∧
      (c.tag = true → capHas c permExec = true → x.toNat % 4 ≠ 0 → exec (.jalr d a imm) s = traps 0x06 x t0 s') ∧
      (c.tag = true → capHas c permExec = true → x.toNat % 4 = 0 → ¬ InBounds c x.toNat →
        exec (.jalr d a imm) s = traps 0x04 x t0 s') ∧
      (c.tag = true → capHas c permExec = true → x.toNat % 4 = 0 → InBounds c x.toNat → exec (.jalr d a imm) s =
        jumps (setAddr c x.toNat) (s'.written d 1 (setAddr t.pcc (t.pc + 4#64).toNat)))) ∧
    (∀ (s s' : State) (t : Strand) (a : BitVec 6) (mask n : BitVec 4) (stride : BitVec 5) (x : TV) (k : Nat),
      Reads s [a] [] [x] s' → s'.cur = some t → k = x.lo.toNat % 2 ^ 16 →
      (k = 0 → exec (.rep a mask n stride) s =
        jumps (setAddr t.pcc ((t.pc.toNat + 4 + 4 * (n.toNat + 1)) % 2 ^ 64)) s') ∧
      (k ≠ 0 → exec (.rep a mask n stride) s = jumps (setAddr t.pcc ((t.pc.toNat + 4) % 2 ^ 64))
        (s'.updStrand s'.turn.1 s'.turn.2 (fun u => { u with
          rep := some ⟨(t.pc.toNat + 4) % 2 ^ 64, n.toNat + 1, mask.toNat, stride.toNat, k, 0⟩ }))))) ∧
  (∀ (t : Strand) (r : RepState) (i : Nat), t.rep = some r → i < r.n → t.pc.toNat = r.start + 4 * i →
      (i + 1 < r.n → t.advance = t.setPc (r.start + 4 * (i + 1))) ∧
      (i + 1 = r.n → r.pass + 1 < r.count →
        t.advance = { t.setPc r.start with rep := some { r with pass := r.pass + 1 } }) ∧
      (i + 1 = r.n → r.count ≤ r.pass + 1 → t.advance = { t.setPc (r.start + 4 * r.n) with rep := none }))

/-! ### Loads, stores and bit fields (R95, R99, R152 to R158) -/

/-- R95, R99, R152: the loads: each passes the checks of its capability, is aligned, and delivers the bytes of its location,
extended; `ld.128` the granule, with its tag only where it is a usable capability and the load holds `pldc`.
R95, R99, R154: the stores: the bytes of the data are written at the location that the place of the address names, with
the tags of the granules they touch; nothing else of memory changes, which `StoresAndAtomicsChangeOnlyTheirBytes` says. -/
def Obligations.LoadsAndStoresMoveTheirBytes : Prop :=
  (∀ (s s' : State) (d a : BitVec 6) (imm : BitVec 13) (c : TV) (x loc : Nat), Reads s [a] [d] [c] s' →
      Clear s' → x = (c.lo + imm.signExtend 64).toNat →
      (Reaches s' c x 1 permLoad false false loc →
        exec (.ldI8 d a imm) s = gives 0 d 0 (TV.ofWord ((BitVec.ofNat 8 (s'.read loc 1)).signExtend 64))
          (s'.touch (clusterOf s'.turn.1) loc 1 false) ∧
        exec (.ldN8 d a imm) s = gives 0 d 0 (TV.ofNat (s'.read loc 1)) (s'.touch (clusterOf s'.turn.1) loc 1 false)) ∧
      (x % 2 = 0 → Reaches s' c x 2 permLoad false false loc →
        exec (.ldI16 d a imm) s = gives 0 d 0 (TV.ofWord ((BitVec.ofNat 16 (s'.read loc 2)).signExtend 64))
          (s'.touch (clusterOf s'.turn.1) loc 2 false) ∧
        exec (.ldN16 d a imm) s = gives 0 d 0 (TV.ofNat (s'.read loc 2)) (s'.touch (clusterOf s'.turn.1) loc 2 false)) ∧
      (x % 4 = 0 → Reaches s' c x 4 permLoad false false loc →
        exec (.ldI32 d a imm) s = gives 0 d 0 (TV.ofWord ((BitVec.ofNat 32 (s'.read loc 4)).signExtend 64))
          (s'.touch (clusterOf s'.turn.1) loc 4 false) ∧
        exec (.ldN32 d a imm) s = gives 0 d 0 (TV.ofNat (s'.read loc 4)) (s'.touch (clusterOf s'.turn.1) loc 4 false)) ∧
      (x % 8 = 0 → Reaches s' c x 8 permLoad false false loc →
        exec (.ld64 d a imm) s = gives 0 d 0 (TV.ofNat (s'.read loc 8)) (s'.touch (clusterOf s'.turn.1) loc 8 false)) ∧
      (x % 16 = 0 → Reaches s' c x 16 permLoad false false loc →
        exec (.ld128 d a imm) s = gives 0 d 0 ⟨BitVec.ofNat 128 (s'.read loc 16), s'.tagAt loc &&
            capOk (s'.readTagged loc) && capHas c permLoadCap⟩ (s'.touch (clusterOf s'.turn.1) loc 16 false))) ∧
  (∀ (s s' : State) (a b : BitVec 6) (imm : BitVec 13) (c v : TV) (x loc : Nat), Reads s [a, b] [] [c, v] s' → Clear s' →
      x = (c.lo + imm.signExtend 64).toNat →
      (Reaches s' c x 1 permStore true false loc → exec (.st8 a b imm) s =
        goesOn 0 ((s'.touch (clusterOf s'.turn.1) loc 1 true).write loc (natBytes 1 v.bits.toNat))) ∧
      (x % 2 = 0 → Reaches s' c x 2 permStore true false loc → exec (.st16 a b imm) s =
        goesOn 0 ((s'.touch (clusterOf s'.turn.1) loc 2 true).write loc (natBytes 2 v.bits.toNat))) ∧
      (x % 4 = 0 → Reaches s' c x 4 permStore true false loc → exec (.st32 a b imm) s =
        goesOn 0 ((s'.touch (clusterOf s'.turn.1) loc 4 true).write loc (natBytes 4 v.bits.toNat))) ∧
      (x % 8 = 0 → Reaches s' c x 8 permStore true false loc → exec (.st64 a b imm) s =
        goesOn 0 ((s'.touch (clusterOf s'.turn.1) loc 8 true).write loc (natBytes 8 v.bits.toNat))) ∧
      (x % 16 = 0 → Reaches s' c x 16 permStore true false loc → (v.tag = true → capHas c permStoreCap = true) →
        exec (.st128 a b imm) s = goesOn 0 ((s'.touch (clusterOf s'.turn.1) loc 16 true).writeTagged loc v)))

/-- R95, R152, R154: the checks of every load and every store, in their order: the tag, the permission, the bounds, for a
tagged store the permission to store it, then the alignment, then those of the space; the trap's value is the address. -/
def Obligations.AccessChecksTrapInOrder : Prop :=
  (∀ (s s' : State) (t0 : Strand) (d a : BitVec 6) (imm : BitVec 13) (c : TV) (x n : Nat) (i : Instr), Turn s t0 → Clear s' →
    Reads s [a] [d] [c] s' → x = (c.lo + imm.signExtend 64).toNat →
    (i, n) ∈ [(Instr.ldI8 d a imm, 1), (.ldN8 d a imm, 1), (.ldI16 d a imm, 2), (.ldN16 d a imm, 2), (.ldI32 d a imm, 4),
      (.ldN32 d a imm, 4), (.ld64 d a imm, 8), (.ld128 d a imm, 16)] →
    (∀ f, derefFail c x n permLoad = some f → exec i s = traps f (BitVec.ofNat 64 x) t0 s') ∧
    (derefFail c x n permLoad = none → x % n ≠ 0 → exec i s = traps 0x06 (BitVec.ofNat 64 x) t0 s') ∧
    (∀ f, derefFail c x n permLoad = none → x % n = 0 → s'.place s'.turn.1 x n false false = .bad f →
      exec i s = traps f (BitVec.ofNat 64 x) t0 s')) ∧
  (∀ (s s' : State) (t0 : Strand) (a b : BitVec 6) (imm : BitVec 13) (c v : TV) (x n : Nat) (i : Instr), Turn s t0 → Clear s' →
    Reads s [a, b] [] [c, v] s' → x = (c.lo + imm.signExtend 64).toNat →
    (i, n) ∈ [(Instr.st8 a b imm, 1), (.st16 a b imm, 2), (.st32 a b imm, 4), (.st64 a b imm, 8), (.st128 a b imm, 16)] →
    (∀ f, derefFail c x n permStore = some f → exec i s = traps f (BitVec.ofNat 64 x) t0 s') ∧
    (derefFail c x n permStore = none → n = 16 → v.tag = true → capHas c permStoreCap = false →
      exec i s = traps 0x05 (BitVec.ofNat 64 x) t0 s') ∧
    (derefFail c x n permStore = none → (n = 16 → v.tag = true → capHas c permStoreCap = true) →
      (x % n ≠ 0 → exec i s = traps 0x06 (BitVec.ofNat 64 x) t0 s') ∧
      (∀ f, x % n = 0 → s'.place s'.turn.1 x n true false = .bad f → exec i s = traps f (BitVec.ofNat 64 x) t0 s'))) ∧
  (∀ (c : TV) (x n p : Nat),
    (c.tag = false → derefFail c x n p = some 0x03) ∧
    (c.tag = true → (capHas c p = false ∨ (capHas c permLocal = true ∧ x < 2 ^ 63)) → derefFail c x n p = some 0x05) ∧
    (c.tag = true → capHas c p = true → (capHas c permLocal = true → 2 ^ 63 ≤ x) →
      (((x : Int) < capBase c ∨ capTop c < (x : Int) + n) → derefFail c x n p = some 0x04) ∧
      (capBase c ≤ (x : Int) → (x : Int) + n ≤ capTop c → derefFail c x n p = none)))

/-- R99, R154, R167: a store changes the bytes it stores and the tags of their granules, and no other byte and no other tag of
the package: the bytes at the location read as the data, and their granules hold no tag but the one that `st.128` or
`shp.st` stores.
R99, R156, R297 to R299, R301: so do the bit stores, the releasing stores, the atomics, the reductions and compare and swap: of memory
every byte outside the operand stays, and every tag but those of its granules. -/
def Obligations.StoresAndAtomicsChangeOnlyTheirBytes : Prop :=
  (∀ (s s' n : State) (a b : BitVec 6) (imm : BitVec 13) (c v : TV) (x loc k : Nat) (i : Instr), Reads s [a, b] [] [c, v] s' →
    Clear s' → x = (c.lo + imm.signExtend 64).toNat → Reaches s' c x k permStore true false loc → x % k = 0 →
    exec i s = .next n →
    ((i, k) ∈ [(Instr.st8 a b imm, 1), (.st16 a b imm, 2), (.st32 a b imm, 4), (.st64 a b imm, 8)] →
      ChangesOnly s' n loc k ∧ HoldsData n loc k v.bits.toNat) ∧
    (i = .st128 a b imm → k = 16 → (v.tag = true → capHas c permStoreCap = true) →
      ChangesOnly s' n loc 16 ∧ n.read loc 16 = v.bits.toNat ∧
        (loc / 16 ∈ n.tags ↔ v.tag = true ∧ taggedLoc loc = true))) ∧
  (∀ (s s' s1 n : State) (a b : BitVec 6) (scope : BitVec 3) (c v : TV) (loc k : Nat) (i : Instr), Reads s [a, b] [] [c, v] s' →
    Clear s' → ReleasedAt s' scope.toNat → s1 = s'.releasedAt scope.toNat →
    (i, k) ∈ [(Instr.stl64 a b scope, 8), (.stl32 a b scope, 4)] → capAddr c % k = 0 →
    Reaches s1 c (capAddr c) k permStore true true loc → exec i s = .next n →
    ChangesOnly s' n loc k ∧ HoldsData n loc k v.bits.toNat) ∧
  (∀ (s s' m : State) (d a b : BitVec 6) (sc : BitVec 2) (c cur v : TV) (p x n loc : Nat) (i : Instr),
    p = capAddr c * 8 + cur.lo.toNat % 2 ^ 58 → x = p / 8 → n = (p + cur.lo.toNat / 2 ^ 58 + 8) / 8 - x →
    derefFail c x n permStore = none → x / 2 ^ 60 = 8 → s'.place s'.turn.1 x n true false = .here loc →
    s'.accessHeld s'.turn.1 loc n true = false → Clear s' →
    (i = .stb d a b sc ∧ Reads s [a, b, d] [] [c, cur, v] s' ∨ i = .stbp d a b sc ∧ Reads s [a, b, d] [b] [c, cur, v] s') →
    exec i s = .next m → ChangesOnly s' m loc n ∧ ∀ g, loc / 16 ≤ g → g ≤ (loc + n - 1) / 16 → g ∉ m.tags) ∧
  (∀ (s s' n : State) (t : Strand) (d : BitVec 4) (a : BitVec 6) (sc : BitVec 2) (c : TV) (loc : Nat), Reads s [a] [] [c] s' →
    s'.cur = some t → 64 + d.toNat ∉ t.busy → Clear s' → capAddr c % 64 = 0 →
    Reaches s' c (capAddr c) 64 permStore true false loc →
    ((t.getSh d.toNat).tag = true → capHas c permStoreCap = true) → exec (.shpSt d a sc) s = .next n →
    ChangesOnly s' n loc 64 ∧ n.read loc 64 = (t.getSh d.toNat).bits.toNat ∧
      ∀ g, loc / 16 ≤ g → g ≤ (loc + 63) / 16 →
        (g ∈ n.tags ↔ g = loc / 16 ∧ (t.getSh d.toNat).tag = true ∧ taggedLoc loc = true)) ∧
  (∀ (s s' s1 : State) (d a b : BitVec 6) (scope : BitVec 3) (ord : BitVec 2) (c y : TV) (loc k : Nat) (i : Instr), Clear s' →
    OrderOk s' ord scope → s1 = s'.ordered ord scope → capAddr c % k = 0 → RidgeOk s1 scope loc →
    (Reads s [a, b] [d] [c, y] s' → Reaches s1 c (capAddr c) k (permLoad ||| permStore ||| permAtomic) true true loc →
      (i, k) ∈ [(Instr.amoSwap d a b scope ord, 8), (.amoAdd d a b scope ord, 8), (.amoAnd d a b scope ord, 8),
        (.amoOr d a b scope ord, 8), (.amoXor d a b scope ord, 8), (.amoMin d a b scope ord, 8), (.amoMax d a b scope ord, 8),
        (.amoMinn d a b scope ord, 8), (.amoMaxn d a b scope ord, 8), (.amoFaddF32 d a b scope ord, 4),
        (.amoFminF32 d a b scope ord, 4), (.amoFmaxF32 d a b scope ord, 4)] →
      ∃ m v, exec i s = gives 0 d 0 v m ∧ ChangesOnly s' m loc k) ∧
    (∀ e, ReadsFields s [a, b, d] [a, b, d] [d] [c, y, e] s' →
      Reaches s1 c (capAddr c) k ((permLoad ||| permStore ||| permAtomic) |||
        (if k = 16 ∧ y.tag = true then permStoreCap else 0)) true true loc →
      (i, k) ∈ [(Instr.cas64 d a b scope ord, 8), (.cas128 d a b scope ord, 16)] →
      ∃ m v, exec i s = gives 0 d 0 v m ∧ ChangesOnly s' m loc k) ∧
    (∀ n, Reads s [a, b] [] [c, y] s' → Reaches s1 c (capAddr c) k (permStore ||| permAtomic) true true loc →
      (i, k) ∈ [(Instr.redAdd a b scope ord, 8), (.redFaddF32 a b scope ord, 4), (.redMin a b scope ord, 8),
        (.redMax a b scope ord, 8)] → exec i s = .next n → ChangesOnly s' n loc k)) ∧
  (∀ (m : State) (d : BitVec 6) (sc : Nat) (v : TV), isQ d = false → SameMemory m (finish .next sc (m.written d 0 v)))

/-- R155 to R158: the bit accesses: the field that the cursor names, read and extended, or replaced with the other bits of
its bytes kept; the forms that advance the cursor write it back behind the field, unless the field's own register is it. -/
def Obligations.BitAccessesReadAndReplaceTheirField : Prop :=
  (∀ (s s' : State) (d a b : BitVec 6) (sc : BitVec 2) (c cur : TV) (p w x n f loc : Nat),
    w = cur.lo.toNat / 2 ^ 58 + 1 → p = capAddr c * 8 + cur.lo.toNat % 2 ^ 58 → x = p / 8 → n = (p + w + 7) / 8 - x →
    derefFail c x n permLoad = none → x / 2 ^ 60 = 8 → s'.place s'.turn.1 x n false false = .here loc →
    s'.accessHeld s'.turn.1 loc n false = false → Clear s' → f = s'.read loc n / 2 ^ (p % 8) % 2 ^ w →
    (Reads s [a, b] [d] [c, cur] s' →
      exec (.ldbI d a b sc) s = gives sc.toNat d 0 (TV.ofWord (BitVec.ofInt 64 ((BitVec.ofNat w f).toInt))) s' ∧
      exec (.ldbN d a b sc) s = gives sc.toNat d 0 (TV.ofNat f) s') ∧
    (Reads s [a, b] [d, b] [c, cur] s' →
      exec (.ldbpI d a b sc) s = goesOn sc.toNat (if d = b then
          s'.written d 0 (TV.ofWord (BitVec.ofInt 64 ((BitVec.ofNat w f).toInt)))
        else (s'.written d 0 (TV.ofWord (BitVec.ofInt 64 ((BitVec.ofNat w f).toInt)))).written b 0
          (TV.ofNat ((w - 1) * 2 ^ 58 + (cur.lo.toNat % 2 ^ 58 + w) % 2 ^ 58))) ∧
      exec (.ldbpN d a b sc) s = goesOn sc.toNat (if d = b then s'.written d 0 (TV.ofNat f)
        else (s'.written d 0 (TV.ofNat f)).written b 0
          (TV.ofNat ((w - 1) * 2 ^ 58 + (cur.lo.toNat % 2 ^ 58 + w) % 2 ^ 58))))) ∧
  (∀ (s s' : State) (d a b : BitVec 6) (sc : BitVec 2) (v c cur : TV) (p w x n old loc : Nat),
    w = cur.lo.toNat / 2 ^ 58 + 1 → p = capAddr c * 8 + cur.lo.toNat % 2 ^ 58 → x = p / 8 → n = (p + w + 7) / 8 - x →
    derefFail c x n permStore = none → x / 2 ^ 60 = 8 → s'.place s'.turn.1 x n true false = .here loc →
    s'.accessHeld s'.turn.1 loc n true = false → Clear s' → old = s'.read loc n →
    ∃ new, (∀ i, i < 8 * n → new.testBit i =
        if p % 8 ≤ i ∧ i < p % 8 + w then v.lo.toNat.testBit (i - p % 8) else old.testBit i) ∧
      (Reads s [a, b, d] [] [c, cur, v] s' →
        exec (.stb d a b sc) s = goesOn sc.toNat (s'.write loc (natBytes n new))) ∧
      (Reads s [a, b, d] [b] [c, cur, v] s' →
        exec (.stbp d a b sc) s = goesOn sc.toNat ((s'.write loc (natBytes n new)).written b 0
          (TV.ofNat ((w - 1) * 2 ^ 58 + (cur.lo.toNat % 2 ^ 58 + w) % 2 ^ 58)))))

/-! ### Traps (R420 to R423, R431, R432) -/

/-- R122, R366, R421, R422: a deliverable trap, with TRAPVEC set and no trap being handled, saves its return address, cause
and value, and the strand continues at TRAPVEC under the bounds and permissions of PCC; results still due are written, and
STATUS, with the flags of those results, and every q, s, h and y register keep their values. Any other trap faults its strand:
the slot is freed, words 0 and 1 of the strand's record hold the program counter and the state *faulted* (a record that an
engine holds is written once it is released), the group's kernel fails, and its outcome holds the cause, the stage and the
value. -/
def Obligations.TrapsEnterTheHandlerOrFaultTheStrand : Prop :=
  (∀ (s : State) (t : Strand) (cause pc ret : Nat) (val : Word), s.cur = some t →
     (cause = 0x07 ∨ cause = 0x09 ∨ cause = 0x0A ∨ (cause = 0x08 ∧ t.ovl = true)) →
     (s.core s.turn.1).trapVec ≠ 0#64 → t.trapCause = 0#8 →
     SameButCores s (takeTrap cause val pc ret s) ∧
     ∃ u, (takeTrap cause val pc ret s).strand s.turn.1 s.turn.2 = some u ∧
       u.trapPc = BitVec.ofNat 64 ret ∧ u.trapCause = BitVec.ofNat 8 cause ∧ u.trapVal = val ∧
       u.pcc = setAddr t.pcc (s.core s.turn.1).trapVec.toNat ∧ u.status = t.settleAll.status ∧ u.q = t.q ∧ u.sh = t.sh ∧
       u.h = t.h ∧ u.y = t.y ∧ u.rep = none ∧ ∀ r, u.getG r = t.settleAll.getG r) ∧
  (∀ (s n : State) (t : Strand) (g : Group) (kn : Kernel) (cause pc ret : Nat) (val : Word), s.cur = some t →
     (¬ (cause = 0x07 ∨ cause = 0x09 ∨ cause = 0x0A ∨ (cause = 0x08 ∧ t.ovl = true)) ∨
       (s.core s.turn.1).trapVec = 0#64 ∨ t.trapCause ≠ 0#8) → cause ≠ 0 →
     s.groupOn s.turn.1 t.gid = some g → s.kernel g.kernel = some kn → kn.st ≠ .complete → kn.st ≠ .failed →
     n = takeTrap cause val pc ret s →
     n.strand s.turn.1 s.turn.2 = none ∧
     (s.linesHeld (clusterOf s.turn.1) (s.recordLoc s.turn.1 t) 16 true = false →
       n.read (s.recordLoc s.turn.1 t) 8 % 2 ^ 57 = pc % 2 ^ 57 ∧ n.read (s.recordLoc s.turn.1 t + 8) 8 / 2 ^ 52 % 16 = 5) ∧
     (s.linesHeld (clusterOf s.turn.1) (s.recordLoc s.turn.1 t) 16 true = true →
       ∃ l, n.ridgeQ = s.ridgeQ ++ [.bytes (s.recordLoc s.turn.1 t) l] ∧ bytesNat (l.take 8) % 2 ^ 57 = pc % 2 ^ 57 ∧
         bytesNat (l.drop 8) / 2 ^ 52 % 16 = 5) ∧
     ∃ kn', n.kernel g.kernel = some kn' ∧ kn'.st = .failed ∧ kn'.cause = cause ∧ kn'.causeStage = some g.stage ∧
       kn'.value = val)

/-- R431: `trap` and `brk` take their traps with the next instruction as return address.
R432: `rett` returns from a delivered trap; outside a handler it traps with illegal encoding and its own word, and at a
return address that is no place for an instruction with that address: each of these traps faults the strand. -/
def Obligations.TrapInstructionsEnterAndReturn : Prop :=
  (∀ (s s' : State) (t : Strand) (a : BitVec 6) (sc : BitVec 2) (x : TV), Turn s t → Reads s [a] [] [x] s' →
    exec (.trap a sc) s = .next (takeTrap 0x0A x.lo t.pc.toNat (t.pc.toNat + 4) s')) ∧
  (∀ (s : State) (t : Strand) (sc : BitVec 2), Turn s t →
    exec (.brk sc) s = .next (takeTrap 0x09 0#64 t.pc.toNat (t.pc.toNat + 4) (s.settled t))) ∧
  (∀ (s : State) (t u : Strand) (sc : BitVec 2), Turn s t → u = t.settle s.now →
    (u.trapCause = 0#8 → exec (.rett sc) s = .next
      ((s.settled t).faultStrand s.turn.1 s.turn.2 0x01 ((encode (.rett sc)).setWidth 64) t.pc.toNat)) ∧
    (u.trapCause ≠ 0#8 → u.trapPc.toNat % 4 ≠ 0 →
      exec (.rett sc) s = .next ((s.settled t).faultStrand s.turn.1 s.turn.2 0x06 u.trapPc t.pc.toNat)) ∧
    (u.trapCause ≠ 0#8 → u.trapPc.toNat % 4 = 0 → ¬ InBounds u.pcc u.trapPc.toNat →
      exec (.rett sc) s = .next ((s.settled t).faultStrand s.turn.1 s.turn.2 0x04 u.trapPc t.pc.toNat)) ∧
    (u.trapCause ≠ 0#8 → u.trapPc.toNat % 4 = 0 → InBounds u.pcc u.trapPc.toNat →
      exec (.rett sc) s = .next (finish (.jump (setAddr u.pcc u.trapPc.toNat)) sc.toNat
        (s.setStrand s.turn.1 s.turn.2 { u with trapCause := 0#8 }))))

/-! ### System registers (R23 to R28, R46, R147, R243, R317, R327, R424 to R429, R453) -/

/-- R424 to R426, R429: the three forms read and write the register that their index names; a write of STATUS waits for the
strand's entries, and TIESEED for the entries that still step it. -/
def Obligations.SystemRegisterFormsReadAndWrite : Prop :=
  (∀ (s s' : State) (t : Strand) (d : BitVec 6) (idx : BitVec 12) (r : SysReg), Reads s [] [d] [] s' →
    s'.cur = some t → SysReg.ofIndex idx.toNat = some r → (idx.toNat < 0x800 ∨ privileged s.turn.1 = true) →
    (r = .tieSeed → (s.core s.turn.1).tiesPending = false) →
    exec (.sget d idx) s = gives 0 d 0 (s'.sysRead s.turn.1 t r) s') ∧
  (∀ (s s' : State) (t : Strand) (a : BitVec 6) (idx : BitVec 12) (r : SysReg) (x : TV), Turn s t →
    Reads s [a] [] [x] s' → SysReg.ofIndex idx.toNat = some r → (idx.toNat < 0x800 ∨ privileged s.turn.1 = true) →
    r.readOnly (privileged s.turn.1) = false →
    (r = .status → (t.settle s.now).seqFail = none ∧ s.hasEntries s.turn.1 s.turn.2 = false) →
    (r = .tieSeed → (s.core s.turn.1).tiesPending = false) →
    exec (.sset a idx) s = goesOn 0 (s'.sysWrite s'.turn.1 s'.turn.2 r x.lo)) ∧
  (∀ (s s' : State) (t t' : Strand) (d a : BitVec 6) (idx : BitVec 12) (r : SysReg) (x : TV), Turn s t →
    Reads s [a] [d] [x] s' → s'.cur = some t' →
    SysReg.ofIndex idx.toNat = some r → (idx.toNat < 0x800 ∨ privileged s.turn.1 = true) →
    r.readOnly (privileged s.turn.1) = false →
    (r = .status → (t.settle s.now).seqFail = none ∧ s.hasEntries s.turn.1 s.turn.2 = false) →
    (r = .tieSeed → (s.core s.turn.1).tiesPending = false) →
    exec (.sswap d a idx) s =
      gives 0 d 0 (s'.sysRead s'.turn.1 t' r) (s'.sysWrite s'.turn.1 s'.turn.2 r x.lo))

/-- R46, R147, R243, R317, R327, R425 to R428, R453: what a write of each register that can be written stores: of XOBOUND the
boundary, while fetches keep the old one until the next `ifence`, one of the two that R149 allows (the model's choice, log
entry 64); of RGCTL, each control of each region that changes acts, and the word read back leaves all as it is.
R23 to R27, R424 to R426, R428, R453: what a read of each register gives, on tenant and on finial cores; what the fused fields of
DIEID hold is open, and PARTID holds what it held when the strand's group was loaded. -/
def Obligations.SystemRegistersStoreAndReadUnderTheirRules : Prop :=
  (∀ (s : State) (t : Strand) (k sl : Nat) (w : Word), s.strand k sl = some t →
      (∃ u, (s.sysWrite k sl .status w).strand k sl = some u ∧ u.chk = w.getLsbD 0 ∧
        u.rm = (if (w.extractLsb' 1 3).toNat ≤ 4 then w.extractLsb' 1 3 else 0#3) ∧ u.sr = w.extractLsb' 4 5 ∧
        u.ovl = w.getLsbD 9 ∧ u.status.toNat < 2 ^ 10 ∧ u.g = t.g ∧ u.pcc = t.pcc) ∧
      ((s.sysWrite k sl .trapVec w).core k).trapVec = w &&& ~~~3#64 ∧
      (∃ u, (s.sysWrite k sl .trapPc w).strand k sl = some u ∧ u = { t with trapPc := w }) ∧
      (∃ u, (s.sysWrite k sl .trapCause w).strand k sl = some u ∧ u = { t with trapCause := w.extractLsb' 0 8 }) ∧
      (∃ u, (s.sysWrite k sl .trapVal w).strand k sl = some u ∧ u = { t with trapVal := w }) ∧
      ((s.sysWrite k sl .xobound w).core k).xobound.toNat = min w.toNat 0x80000 / 256 * 256 ∧
      ((s.sysWrite k sl .xobound w).core k).fetchBound = (s.core k).fetchBound ∧
      ((s.sysWrite k sl .member w).core k).memberReg = w ∧
      ((s.sysWrite k sl .spinBudget w).core k).spinBudget.toNat = w.toNat % 2 ^ 32 ∧
      ((s.sysWrite k sl .barTimeout w).core k).barTimeout.toNat = w.toNat % 2 ^ 32 ∧
      ((s.sysWrite k sl .xmon w).core k).xmon.toNat = w.toNat % 4 ∧
      ((s.sysWrite k sl .srSeed w).core k).srSeed = (if w.extractLsb' 0 32 = 0#32 then 1#32 else w.extractLsb' 0 32) ∧
      ((s.sysWrite k sl .tieSeed w).core k).tieSeed = (if w = 0#64 then 1#64 else w) ∧
      s.sysWrite k sl .pwrLim w = { s with pwrLim := max 200 (min 800 (w.toNat % 2 ^ 16)) } ∧
      s.sysWrite k sl .rgCtl (s.sysRead k t .rgCtl).lo = s) ∧
  (∀ (s : State) (t : Strand) (k : Nat),
      (s.sysRead k t .status).bits.toNat =
        (if t.chk then 1 else 0) + t.rm.toNat * 2 + t.sr.toNat * 16 + (if t.ovl then 512 else 0) ∧
      s.sysRead k t .pcc = t.pcc ∧
      s.sysRead k t .trapVec = TV.ofWord (s.core k).trapVec ∧ s.sysRead k t .trapPc = TV.ofWord t.trapPc ∧
      s.sysRead k t .trapCause = TV.ofNat t.trapCause.toNat ∧ s.sysRead k t .trapVal = TV.ofWord t.trapVal ∧
      s.sysRead k t .xobound = TV.ofWord (s.core k).xobound ∧ s.sysRead k t .member = TV.ofWord (s.core k).memberReg ∧
      s.sysRead k t .spinBudget = TV.ofWord (s.core k).spinBudget ∧
      s.sysRead k t .barTimeout = TV.ofWord (s.core k).barTimeout ∧ s.sysRead k t .xmon = TV.ofWord (s.core k).xmon ∧
      s.sysRead k t .srSeed = TV.ofNat (s.core k).srSeed.toNat ∧ s.sysRead k t .tieSeed = TV.ofWord (s.core k).tieSeed ∧
      s.sysRead k t .cycle = TV.ofNat ((s.now - (s.core k).cycleBase) % 2 ^ 64) ∧
      s.sysRead k t .time = TV.ofNat (((s.now * 10 / 17 : Nat) + s.timeAdj).toNat % 2 ^ 64) ∧
      s.sysRead k t .retired = TV.ofWord (s.core k).retired ∧
      (∀ g, s.groupOn k t.gid = some g → s.sysRead k t .partId = TV.ofWord g.partId) ∧
      (s.pwrLim < 2 ^ 16 → (s.sysRead k t .pwrLim).bits.toNat =
        s.pwrLim + s.pwr % 2 ^ 16 * 2 ^ 32 + (if s.pacing = 0 then 0 else 2 ^ 48)) ∧
      (∀ i, i < 5 → ∀ x, x = s.region (coreDie k * 5 + i) → (s.sysRead k t .rgCtl).bits.toNat / 2 ^ (4 * i) % 16 =
        (if x.rail then 1 else 0) + (if x.clk then 2 else 0) + (if x.rst then 4 else 0) + (if x.gate then 8 else 0)) ∧
      (∀ r, (s.sysRead k t r).tag = true → r = .pcc)) ∧
  (∀ (s : State) (t : Strand) (k die row col : Nat), k < 1280 → die = k / 320 → row = k % 320 / 16 → col = k % 16 →
      (s.sysRead k t .coreId).bits.toNat = col + row * 16 + die * 512 + k * 2 ^ 11 ∧
      (s.sysRead k t .clusterId).bits.toNat = (row / 2 * 4 + col / 4) + die * 2 ^ 6 +
        (die * 40 + row / 2 * 4 + col / 4) * 2 ^ 8 + (row % 2 * 4 + col % 4) * 2 ^ 16 ∧
      (s.sysRead k t .regionId).bits.toNat = row / 4 + die * 8 + (die * 5 + row / 4) * 32 ∧
      (s.sysRead k t .dieId).bits.toNat % 2 ^ 24 = die + 4 * 2 ^ 2 + 20 * 2 ^ 5 + 16 * 2 ^ 10 + 5 * 2 ^ 15 + 40 * 2 ^ 18 ∧
      (s.sysRead k t .dieId).bits.toNat < 2 ^ 48) ∧
  (∀ (s : State) (t : Strand) (die i : Nat), die < 4 → i < 8 → ∀ k, k = 1280 + die * 8 + i →
      (s.sysRead k t .coreId).bits.toNat = (6 + i % 4) + (20 + i / 4) * 16 + die * 512 + 0x7FF * 2 ^ 11 + 2 ^ 22 ∧
      (s.sysRead k t .clusterId).bits.toNat = 40 + die * 2 ^ 6 + 0xFF * 2 ^ 8 + (i / 4 * 4 + (6 + i % 4) % 4) * 2 ^ 16 ∧
      (s.sysRead k t .regionId).bits.toNat = 7 + die * 8 + 31 * 32 ∧
      (s.sysRead k t .dieId).bits.toNat % 2 ^ 24 = die + 4 * 2 ^ 2 + 20 * 2 ^ 5 + 16 * 2 ^ 10 + 5 * 2 ^ 15 + 40 * 2 ^ 18 ∧
      s.sysRead k t .partId = TV.zero ∧
      (s.sysRead k t .fwId).bits.toNat = die + (i / 4 * 4 + (6 + i % 4) % 4) * 4 + (if die = 0 then 32 else 0))

/-- R28, R86, R87, R358, R425, R434, R453: at tenant privilege the firmware registers, `halt` and `atcinv` trap with cause
0x02 and the word; so does a write of a register that is read-only, an identity register at every privilege; an index that
names no register is an illegal encoding, after an unbound q register (for indices from 0x800 on the model's choice, log entry
62). That PCC, CYCLE, TIME and RETIRED trap on a write at firmware privilege too is the model's reading (log entry 33). -/
def Obligations.PrivilegedFormsTrapForTenants : Prop :=
  ∀ (s : State) (t : Strand) (d a b : BitVec 6) (sc : BitVec 2) (idx : BitVec 12), Turn s t →
    (privileged s.turn.1 = false →
      exec (.halt sc) s = traps 0x02 ((encode (.halt sc)).setWidth 64) t (s.settled t) ∧
      exec (.atcinv d a b sc) s = traps 0x02 ((encode (.atcinv d a b sc)).setWidth 64) t (s.settled t) ∧
      (0x800 ≤ idx.toNat →
        exec (.sget d idx) s = traps 0x02 ((encode (.sget d idx)).setWidth 64) t (s.settled t) ∧
        exec (.sset a idx) s = traps 0x02 ((encode (.sset a idx)).setWidth 64) t (s.settled t) ∧
        exec (.sswap d a idx) s = traps 0x02 ((encode (.sswap d a idx)).setWidth 64) t (s.settled t))) ∧
    ((idx = 0x001#12 ∨ idx = 0x020#12 ∨ idx = 0x021#12 ∨ idx = 0x022#12 ∨ idx = 0x030#12 ∨ idx = 0x031#12 ∨
        idx = 0x032#12 ∨ idx = 0x033#12 ∨ idx = 0x034#12 ∨ idx = 0x800#12 ∨ (idx = 0x009#12 ∧ privileged s.turn.1 = false)) →
      exec (.sset a idx) s = traps 0x02 ((encode (.sset a idx)).setWidth 64) t (s.settled t) ∧
      exec (.sswap d a idx) s = traps 0x02 ((encode (.sswap d a idx)).setWidth 64) t (s.settled t)) ∧
    ((idx.toNat < 0x800 ∨ privileged s.turn.1 = true) → SysReg.ofIndex idx.toNat = none →
      ∀ (i : Instr) (fields : List (BitVec 6)),
        (i, fields) ∈ [(Instr.sget d idx, [d]), (.sset a idx, [a]), (.sswap d a idx, [a, d])] →
        (firstUnbound (t.settle s.now) fields = none → exec i s = traps 0x01 ((encode i).setWidth 64) t (s.settled t)) ∧
        (∀ q, firstUnbound (t.settle s.now) fields = some q → exec i s = traps 0x0C (BitVec.ofNat 64 q) t (s.settled t)))

/-- R149, R433 to R435: the instruction fence waits for the strand's writes and copies and lets fetches follow XOBOUND, `halt`
stops a firmware core, and the counters read as they stand. -/
def Obligations.SystemFormsCompleteWithTheirEffects : Prop :=
  (∀ (s : State) (t : Strand) (sc : BitVec 2), Turn s t →
    ((s.settled t).writesPending s.turn.1 s.turn.2 = false → exec (.ifence sc) s = goesOn sc.toNat
      ((s.settled t).updCore s.turn.1 (fun c => { c with fetchBound := c.xobound }))) ∧
    ((s.settled t).writesPending s.turn.1 s.turn.2 = true → exec (.ifence sc) s = waits .inSlot t s) ∧
    (privileged s.turn.1 = true →
      exec (.halt sc) s = goesOn sc.toNat ((s.settled t).updCore s.turn.1 (fun c => { c with halted := true })))) ∧
  (∀ (s s' : State) (d : BitVec 6) (sc : BitVec 2), Reads s [] [d] [] s' →
    exec (.rdcyc d sc) s = gives sc.toNat d 0 (TV.ofWord (BitVec.ofNat 64 (s.now - (s.core s.turn.1).cycleBase))) s' ∧
    exec (.rdtime d sc) s = gives sc.toNat d 0 (TV.ofWord (BitVec.ofNat 64 s.timeNs)) s' ∧
    exec (.rdret d sc) s = gives sc.toNat d 0 (TV.ofWord (s.core s.turn.1).retired) s')

/-! ### Translation (R341 to R358) -/

/-- R356 to R358: a prefetch asks for the translation that is missing and does nothing else; a probe reports what the die
holds: the entry of the cluster's ATC, else that of the die's, else the state of the page; an invalidation removes the entries that it names from every cache at once and gives their number, when every access
that had used one has been performed: then or later. -/
def Obligations.TranslationFormsProbeAndInvalidate : Prop :=
  (∀ (s s' : State) (a b : BitVec 6) (sc : BitVec 2) (c o : TV) (x : Nat), Reads s [a, b] [] [c, o] s' → x = capAddr c →
    derefFail c x 1 (if o.lo.getLsbD 1 then permStore else permLoad) = none →
    (2 ^ 63 ≤ x → exec (.xlpf a b sc) s = goesOn sc.toNat s') ∧
    (x < 2 ^ 57 → s'.place s'.turn.1 x 1 (o.lo.getLsbD 1) false ≠ .missing →
      exec (.xlpf a b sc) s = goesOn sc.toNat s') ∧
    (x < 2 ^ 57 → s'.place s'.turn.1 x 1 (o.lo.getLsbD 1) false = .missing →
      exec (.xlpf a b sc) s = goesOn sc.toNat (s'.miss (s'.ctxIds s'.turn.1).1 (s'.ctxIds s'.turn.1).2
        ⟨.prefetch (o.lo.getLsbD 0), x, o.lo.getLsbD 1, clusterOf s'.turn.1⟩))) ∧
  (∀ (s s' : State) (d a : BitVec 6) (sc : BitVec 2) (c : TV), Reads s [a] [d] [c] s' →
    (derefFail c (capAddr c) 1 permLoad = none ∨
      (derefFail c (capAddr c) 1 permLoad = some 0x05 ∧ derefFail c (capAddr c) 1 permStore = none)) →
    (2 ^ 63 ≤ capAddr c ∨ capAddr c < 2 ^ 57) →
    exec (.pgprobe d a sc) s = gives sc.toNat d 0 (TV.ofNat (s'.probe s'.turn.1 (capAddr c))) s' ∧
    (2 ^ 63 ≤ capAddr c → s'.probe s'.turn.1 (capAddr c) = 2 ^ 11)) ∧
  (∀ (s : State) (k x cl : Nat) (ids : Nat × Nat), x < 2 ^ 63 → ids = s.ctxIds k → cl = clusterOf k →
    (∀ (e : AtcEntry) (found w : Nat), e.size ≤ 5 → w = s.probe k x →
      ((s.cluster cl).atc.find? (·.holds ids.1 ids.2 x) = some e ∧ found = 1 ∨
        (s.cluster cl).atc.find? (·.holds ids.1 ids.2 x) = none ∧
          (s.dieAtcOf (clusterDie cl)).find? (·.holds ids.1 ids.2 x) = some e ∧ found = 2) →
      w % 8 = 2 ∧ w / 2 ^ 3 % 8 = e.size ∧ w.testBit 6 = e.rd ∧ w.testBit 7 = e.wr ∧ w.testBit 8 = (e.noncoh && !e.fabric) ∧
        w / 2 ^ 9 % 4 = found ∧ w.testBit 11 = false ∧ w.testBit 12 = e.fabric ∧ w < 2 ^ 13) ∧
    ((s.cluster cl).atc.find? (·.holds ids.1 ids.2 x) = none →
      (s.dieAtcOf (clusterDie cl)).find? (·.holds ids.1 ids.2 x) = none →
      (∀ r, s.pageRec (clusterDie cl) ids.1 ids.2 (x / 4096) = some r → s.probe k x =
        (match r.st with | .translating => 1 | .notPresent => 3 | .requested => 4 | .failed => 5)) ∧
      (s.pageRec (clusterDie cl) ids.1 ids.2 (x / 4096) = none → s.probe k x = (if s.invals.any (fun i => i.gone.any (fun g =>
        decide (g.1 = clusterDie cl) && g.2.holds ids.1 ids.2 (x / 4096 * 4096))) then 6 else 0)))) ∧
  (∀ (s s' : State) (d a b : BitVec 6) (sc : BitVec 2) (x y : TV), Reads s [a, b] [d] [x, y] s' →
    privileged s.turn.1 = true →
    (s'.invals.find? (fun i => decide (i.owner = some (s.turn.1, s.turn.2, (s'.cur.map (·.sid)).getD 0#32))) = none →
      (s'.usersOf (s'.allAtc.filter (fun e => e.2.selected (x.lo.toNat % 2 ^ 57) y.lo.toNat)) = [] →
        exec (.atcinv d a b sc) s = gives sc.toNat d 0
          (TV.ofNat (min (s'.allAtc.filter (fun e => e.2.selected (x.lo.toNat % 2 ^ 57) y.lo.toNat)).length 0xFFFFFFFF))
          (s'.purgeAtc (fun e => e.selected (x.lo.toNat % 2 ^ 57) y.lo.toNat))) ∧
      (s'.usersOf (s'.allAtc.filter (fun e => e.2.selected (x.lo.toNat % 2 ^ 57) y.lo.toNat)) ≠ [] →
        ∃ n, exec (.atcinv d a b sc) s = .next n ∧
          ∀ e ∈ n.allAtc, e.2.selected (x.lo.toNat % 2 ^ 57) y.lo.toNat = false)) ∧
    (∀ i, s'.invals.find? (fun i => decide (i.owner = some (s.turn.1, s.turn.2, (s'.cur.map (·.sid)).getD 0#32))) = some i →
      s'.invalBusy i = false →
      exec (.atcinv d a b sc) s = gives sc.toNat d 0 (TV.ofNat (min i.gone.length 0xFFFFFFFF))
        { s' with invals := s'.invals.erase i }))

/-! ### Strands (R120 to R141) -/

/-- R138: `spawn` writes words 0 and 1 of the record, pushes it to the group's pool, counts the strand live and gives its
id; a group at its limit gives all ones. R139: `wake` makes a suspended record ready, leaves a pending wake with one that
has not suspended, and reports which.
R141: a strand reads its identity and priority, and sets its priority up to the ceiling of its stage. -/
def Obligations.StrandFormsActOnRecords : Prop :=
  ((∀ (s s' : State) (t : Strand) (g : Group) (p : Nat) (d a b : BitVec 6) (sc : BitVec 2) (c e : TV) (loc : Nat),
      Reads s [a, b] [d] [c, e] s' → Clear s' → Released s' → s'.cur = some t → s'.partOfCore s'.turn.1 = some p →
      s'.group p t.gid = some g → c.tag = true → capHas c (permLoad ||| permStore ||| permStoreCap) = true →
      capAddr c % 64 = 0 → capAddr c / 2 ^ 60 = 9 → capBase c ≤ (capAddr c : Int) → (capAddr c : Int) + 64 ≤ capTop c →
      s'.place s'.turn.1 (capAddr c) 64 true false = .here loc → s'.accessHeld s'.turn.1 loc 64 true = false →
      s'.poolHeld g.part g.gid = false →
      (g.live = g.limit → exec (.spawn d a b sc) s = gives sc.toNat d 0 (TV.ofNat 0xFFFFFFFF) s') ∧
      (g.live ≠ g.limit → exec (.spawn d a b sc) s = gives sc.toNat d 0 (TV.ofNat g.nextId)
        ((((s'.touch (clusterOf s'.turn.1) loc 16 true).writeRecordWords loc (t.child g.nextId) e.lo.toNat 1 false).pushPool p
          t.gid (capAddr c) t.pri).updGroup p t.gid (fun x =>
            { x with nextId := (g.nextId + 1) % 0xFFFFFFFF, live := x.live + 1 })))) ∧
    (∀ (s : State) (g : Group) (p gid x pri : Nat), s.group p gid = some g →
      ∃ g', (s.pushPool p gid x pri).group p gid = some g' ∧ g'.pool = g.pool ++ [(x, pri)] ∧ g'.live = g.live) ∧
    (∀ (s s' : State) (g : Group) (p : Nat) (d a : BitVec 6) (sc : BitVec 2) (c : TV) (loc w : Nat),
      Reads s [a] [d] [c] s' → Clear s' → Released s' → s'.partOfCore s'.turn.1 = some p → c.tag = true →
      capHas c (permLoad ||| permStore) = true → capAddr c % 64 = 0 → capAddr c / 2 ^ 60 = 9 →
      capBase c ≤ (capAddr c : Int) → (capAddr c : Int) + 64 ≤ capTop c →
      s'.place s'.turn.1 (capAddr c) 64 true false = .here loc → s'.accessHeld s'.turn.1 loc 64 true = false →
      w = s'.read (loc + 8) 8 → s'.poolHeld p (w / 2 ^ 32 % 2 ^ 16) = false →
      (s'.wakeGroup s'.turn.1 (w / 2 ^ 32 % 2 ^ 16) = none →
        exec (.wake d a sc) s = gives sc.toNat d 0 (TV.ofNat 3) s') ∧
      (s'.wakeGroup s'.turn.1 (w / 2 ^ 32 % 2 ^ 16) = some g → w / 2 ^ 52 % 16 = 3 → exec (.wake d a sc) s =
        gives sc.toNat d 0 (TV.ofNat 1) ((s'.touch (clusterOf s'.turn.1) loc 16 true).readyRecord p (capAddr c))) ∧
      (s'.wakeGroup s'.turn.1 (w / 2 ^ 32 % 2 ^ 16) = some g → w / 2 ^ 52 % 16 ≤ 2 → exec (.wake d a sc) s =
        gives sc.toNat d 0 (TV.ofNat 0) ((s'.touch (clusterOf s'.turn.1) loc 16 true).write loc
          (natBytes 8 ((s'.touch (clusterOf s'.turn.1) loc 16 true).read loc 8 ||| 2 ^ 57)))) ∧
      (s'.wakeGroup s'.turn.1 (w / 2 ^ 32 % 2 ^ 16) = some g → 3 < w / 2 ^ 52 % 16 →
        exec (.wake d a sc) s = gives sc.toNat d 0 (TV.ofNat 2) s'))) ∧
  ((∀ (s s' : State) (t : Strand) (d : BitVec 6) (sc : BitVec 2), Reads s [] [d] [] s' → s'.cur = some t →
      exec (.stid d sc) s =
        gives sc.toNat d 1 (TV.ofNat (t.sid.toNat + t.gid % 2 ^ 16 * 2 ^ 32 + t.pri % 16 * 2 ^ 48)) s') ∧
    (∀ (s s' : State) (t : Strand) (d a : BitVec 6) (sc : BitVec 2) (x : TV), Reads s [a] [d] [x] s' → s'.cur = some t →
      exec (.setpri d a sc) s = gives sc.toNat d 1 (TV.ofNat (min x.lo.toNat t.ceiling))
        (s'.setStrand s'.turn.1 s'.turn.2 { t with pri := min x.lo.toNat t.ceiling })))

/-- R122 to R124, R140: `yield` and `suspend` save the strand behind them and free its slot, `yield` back to its group's
pool; `suspend` with a wake pending takes the wake and goes on; `retire` ends the strand and counts it out of its group. -/
def Obligations.SuspensionPointsLeaveTheSlot : Prop :=
  ∀ (s r : State) (t u : Strand) (sc : BitVec 2) (p : Nat), Turn s t → u = t.settle s.now → r = s.settled t →
    u.seqFail = none → r.hasEntries s.turn.1 s.turn.2 = false → u.busy = [] → (r.core s.turn.1).exchanging = false →
    u.halfSlot = none → r.recordHeld s.turn.1 u = false → s.partOfCore s.turn.1 = some p →
    (r.poolHeld p u.gid = false →
      exec (.yield sc) s = .next (finish .left sc.toNat (((r.leaveSlot s.turn.1 s.turn.2 (u.pc.toNat + 4) 1).pushPool p u.gid
      u.record u.pri).updGroup p u.gid (·.delay u.record (s.now + 1 + sc.toNat))))) ∧
    (r.wpend (r.recordLoc s.turn.1 u) = false → exec (.suspend sc) s =
      .next (finish .left sc.toNat ((r.leaveSlot s.turn.1 s.turn.2 (u.pc.toNat + 4) 3).updGroup p u.gid
        (·.delay u.record (s.now + 1 + sc.toNat))))) ∧
    (r.wpend (r.recordLoc s.turn.1 u) = true → ∃ n v, exec (.suspend sc) s = .next n ∧
      n.strand s.turn.1 s.turn.2 = some v ∧ v.pc = u.pc + 4#64 ∧ v.q = [] ∧ v.trapCause = 0#8 ∧
      v.getG 1 = u.settleAll.getG 1 ∧ v.getG 2 = u.settleAll.getG 2 ∧ v.getG 3 = u.settleAll.getG 3 ∧
      (∀ i, 4 ≤ i → v.getG i = TV.zero) ∧ n.wpend (r.recordLoc s.turn.1 u) = false) ∧
    ∃ n, exec (.retire sc) s = .next n ∧ n.strand s.turn.1 s.turn.2 = none ∧
      n.read (r.recordLoc s.turn.1 u + 8) 8 / 2 ^ 52 % 16 = 4 ∧
      (∀ g, s.group p u.gid = some g → ∃ g', n.group p u.gid = some g' ∧ g'.live = g.live - 1)

/-! ### The step, reset, operands -/

/-- R57, R58, R88: a step at which no event is due runs, in the slot whose turn it is, the instruction that the four bytes at
its program counter encode; a word that encodes none raises illegal encoding, and a failed fetch its own check. What is due
from the agenda or from the package itself comes first, and with no slot to issue a cycle passes. No move of the agenda makes
a slot issue out of its turn (R125), and a cycle on the agenda passes once what falls due in it has happened. The order of
these moves is the model's own (log entry 4). -/
def Obligations.StepRunsTheDecodedInstruction : Prop :=
  (∀ (s : State) (k sl : Nat) (t : Strand) (w : BitVec 32), s.agenda = [] → s.nextInternal = none → s.pick = some (k, sl) →
    s.strand k sl = some t → s.fetch k t = .word w →
    (∀ i, decode w = .ok i → step s = afterIssue k sl (exec i { s with turn := (k, sl) })) ∧
    (∀ e, decode w = .error e → step s = afterIssue k sl (exec (.illegalEncoding w) { s with turn := (k, sl) }))) ∧
  (∀ (s : State) (k : Nat) (t : Strand), s.fetchFail k t = none → t.rep = none → t.loop = none →
    s.fetch k t = .word (BitVec.ofNat 32 (s.read (spadBase k + t.pc.toNat % 2 ^ 19) 4))) ∧
  (∀ (s : State) (k sl : Nat) (t : Strand) (c : Nat) (v : Word), s.agenda = [] → s.nextInternal = none →
    s.pick = some (k, sl) → s.strand k sl = some t → s.fetchFail k t = some (c, v) →
    step s = .next ((takeTrap c v t.pc.toNat t.pc.toNat { s with turn := (k, sl) }).markIssued k sl)) ∧
  (∀ (s : State) (i : Instr), s.agenda = [] → s.nextInternal = some i → step s = exec i s) ∧
  (∀ s : State, s.agenda = [] → s.nextInternal = none → s.pick = none → step s = .next s.tick) ∧
  (∀ (s : State) (i : Instr) (r : List Move), s.agenda = .ev i :: r →
    (instrInTurn i = false → step s = exec i { s with agenda := r }) ∧
    (instrInTurn i = true → step s = .next { s with agenda := r })) ∧
  (∀ (s : State) (a : Input) (r : List Move), s.agenda = .input a :: r → step s = .next ({ s with agenda := r }.input a)) ∧
  (∀ (s : State) (k sl : Nat) (r : List Move), s.agenda = .pick k sl :: r → s.slotToIssue k (s.core k) ≠ some sl →
    step s = .next { s with agenda := r }) ∧
  (∀ (s n : State) (k sl : Nat) (t : Strand) (w : BitVec 32) (i : Instr) (r : List Move), s.agenda = .pick k sl :: r →
    s.slotToIssue k (s.core k) = some sl → n = { s with agenda := r } → n.strand k sl = some t → n.fetch k t = .word w →
    decode w = .ok i → step s = afterIssue k sl (exec i { n with turn := (k, sl) })) ∧
  (∀ (s : State) (r : List Move), s.agenda = .tick :: r →
    (∀ g, s.gateDue = some g → step s = exec (.gateClosed g []) s) ∧
    (s.gateDue = none →
      (∀ i, s.timed = some i → step s = exec i s) ∧
      (∀ i, s.timed = none → s.promised = some i → step s = exec i s) ∧
      (s.timed = none → s.promised = none →
        (∀ k sl t w i, s.pick = some (k, sl) → s.strand k sl = some t → s.fetch k t = .word w → decode w = .ok i →
          step s = afterIssue k sl (exec i { s with turn := (k, sl) })) ∧
        (s.pick = none → step s = .next { s with agenda := r }.tick))))

/-- R394, R428, R439, R454: package reset leaves every region *off*, no strand, group, kernel or queue, TIME at 0, the
heartbeat disabled with a period of 100, and the package in its boot state before the ridge ROM has run. That memory reads
as 0 is R151's for scratchpad and the model's own choice for system memory (log entry 2); that the Eave link is *down* is the
model's own choice too (log entry 6). -/
def Obligations.ResetLeavesThePackageOff : Prop :=
  (∀ r, (State.reset.region r).st = .off ∧ (State.reset.region r).part = none) ∧
  (∀ k sl, State.reset.strand k sl = none) ∧ State.reset.groups = [] ∧ State.reset.kernels = [] ∧
  State.reset.queues = [] ∧ State.reset.partitions = [] ∧ State.reset.contexts = [] ∧ State.reset.timeNs = 0 ∧
  State.reset.flash.en = false ∧ State.reset.flash.per = 100 ∧ State.reset.eave.st = .down ∧ State.reset.boot = .reset ∧
  State.reset.tags = [] ∧ (∀ a, State.reset.byte a = 0#8) ∧ Canonical State.reset

/-- R99, R124, R154, R253: the bytes that instructions store, save and push leave memory in its canonical form (addresses rising,
no listed byte 0), which is the model's own representation (log entry 56), whatever the instruction's outcome: every
instruction word that a slot runs, and the two outcomes of a fetch that gives none. -/
def Obligations.InstructionsKeepMemoryCanonical : Prop :=
  ∀ (s n : State) (i : Instr), Canonical s → instrInTurn i = true → exec i s = .next n → Canonical n

/-- R60, R63 to R65, R91, R104: the frame of the integer and capability instructions of registers alone: on general registers
that hold their values each completes, and changes nothing but its destination, the program counter and the count of
instructions: no other register, no flag or mode of STATUS, no trap register, nothing else of its strand but what the
instruction had waited for, no other strand or core, no byte and no tag. -/
def Obligations.RegisterFormsChangeOnlyTheirDestination : Prop :=
  (∀ (s : State) (t : Strand) (d a b : BitVec 6) (sc : BitVec 2), Turn s t → Plain t s.now [a, b] [d] →
    ∀ i ∈ [Instr.add d a b sc, .sub d a b sc, .and d a b sc, .or d a b sc, .xor d a b sc, .andn d a b sc, .orn d a b sc,
        .sll d a b sc, .srl d a b sc, .sra d a b sc, .rol d a b sc, .ror d a b sc, .slt d a b sc, .sltn d a b sc,
        .seq d a b sc, .sne d a b sc, .min d a b sc, .max d a b sc, .minn d a b sc, .maxn d a b sc, .addw d a b sc,
        .subw d a b sc, .sxt d a b sc, .zxt d a b sc, .mul d a b sc, .mulh d a b sc, .mulhn d a b sc, .mulhsn d a b sc,
        .mulw d a b sc, .div d a b sc, .divn d a b sc, .rem d a b sc, .remn d a b sc, .divw d a b sc, .divnw d a b sc,
        .remw d a b sc, .remnw d a b sc, .cperm d a b sc, .cseta d a b sc, .cadd d a b sc, .csub d a b sc, .ctest d a b sc],
      ∃ n, exec i s = .next n ∧ WritesOnly s n t d.toNat) ∧
  (∀ (s : State) (t : Strand) (d a b c : BitVec 6), Turn s t → Plain t s.now [a, b, c] [d] →
    ∀ i ∈ [Instr.madd d a b c, .msub d a b c], ∃ n, exec i s = .next n ∧ WritesOnly s n t d.toNat) ∧
  (∀ (s : State) (t : Strand) (d : BitVec 6) (imm : BitVec 19), Turn s t → Plain t s.now [] [d] →
    ∀ i ∈ [Instr.lui d imm, .auipc d imm], ∃ n, exec i s = .next n ∧ WritesOnly s n t d.toNat) ∧
  (∀ (s : State) (t : Strand) (d a : BitVec 6) (imm : BitVec 13) (sh : BitVec 6) (sc : BitVec 2), Turn s t →
    Plain t s.now [a] [d] →
    ∀ i ∈ [Instr.addi d a imm, .andi d a imm, .ori d a imm, .xori d a imm, .slti d a imm, .sltni d a imm, .slli d a sh,
        .srli d a sh, .srai d a sh, .addwi d a imm, .caddi d a imm, .clz d a sc, .ctz d a sc, .popc d a sc, .brev d a sc,
        .bswap d a sc, .cbase d a sc, .clen d a sc, .cperms d a sc, .ctag d a sc, .cclr d a sc, .cmv d a sc],
      ∃ n, exec i s = .next n ∧ WritesOnly s n t d.toNat)

/-- R63, R65 to R67, R254: what stops an instruction at its register fields, shown on `add`: an unbound queue register, a
source bound to a push end or a destination bound to a pop end: a trap with nothing read; a register that awaits its
result, a queue register that order holds back, a channel without a value, a push of the strand that still blocks: the
instruction waits, and nothing else changes; a register read before its result is available under `chk`: a trap, once the
sources have been popped. That channel misuse comes before such a stall, and that of several early sources the first in field
order is named, is the model's own (log entry 62).
R88, R64, R132, R148: a word that names no instruction traps with cause 0x01 and the word; a fetch whose check fails
traps with that check's cause and the address. -/
def Obligations.FetchAndOperandsStopInstructions : Prop :=
  (∀ (s : State) (t u : Strand) (d a b : BitVec 6) (sc : BitVec 2), s.cur = some t → u = t.settle s.now →
      (t.pendPush = none →
        (∀ q, firstUnbound u [a, b, d] = some q → exec (.add d a b sc) s = traps 0x0C (BitVec.ofNat 64 q) t (s.settled t)) ∧
        (firstUnbound u [a, b, d] = none →
          (∀ q, firstWrongEnd u true ([a, b].filter isQ) = some q →
            exec (.add d a b sc) s = traps 0x14 (BitVec.ofNat 64 q) t (s.settled t)) ∧
          (∀ q, firstWrongEnd u true ([a, b].filter isQ) = none → firstWrongEnd u false ([d].filter isQ) = some q →
            exec (.add d a b sc) s = traps 0x14 (BitVec.ofNat 64 q) t (s.settled t)) ∧
          (firstWrongEnd u true ([a, b].filter isQ) = none → firstWrongEnd u false ([d].filter isQ) = none →
            lostRead u [a, b] = none →
            (anyBusy u [a, b, d] = true → exec (.add d a b sc) s = waits .inSlot t s) ∧
            (anyBusy u [a, b, d] = false →
              ([a, b, d].any isQ = true →
                (s.settled t).queueHeld s.turn.1 s.turn.2 (([a, b, d].filter isQ).map qNum) = true →
                exec (.add d a b sc) s = waits .inSlot t s) ∧
              (([a, b, d].any isQ && (s.settled t).queueHeld s.turn.1 s.turn.2 (([a, b, d].filter isQ).map qNum)) = false →
                (∀ r vals n, gather s.turn.1 s.turn.2 [a, b] u.popped u (s.settled t) = .inl (vals, n) → u.chk = true →
                  firstEarly u s.now [a, b] = some r →
                  exec (.add d a b sc) s = traps 0x07 (BitVec.ofNat 64 r) t (n.keepPops [a, b] vals)) ∧
                (∀ q, t.popped = [] → isQ a = true → qNum a = q → (s.settled t).popAt s.turn.1 s.turn.2 q = none →
                  exec (.add d a b sc) s = waits (.pop q) t s)))))) ∧
      (t.pendPush ≠ none → exec (.add d a b sc) s = waits .inSlot t s)) ∧
  ((∀ (s : State) (t : Strand) (w : BitVec 32), Turn s t →
      exec (.illegalEncoding w) s = traps 0x01 (w.setWidth 64) t (s.settled t)) ∧
    (∀ (s : State) (t : Strand) (c v : Nat), s.cur = some t → s.fetchFail s.turn.1 t = some (c, BitVec.ofNat 64 v) →
      exec (.fetchCheckFailure c v) s = traps c (BitVec.ofNat 64 v) t s) ∧
    (∀ (s : State) (k : Nat) (t : Strand),
      (t.pcc.tag = false → s.fetchFail k t = some (0x03, t.pc)) ∧
      (t.pcc.tag = true → capHas t.pcc permExec = false → s.fetchFail k t = some (0x05, t.pc)) ∧
      (t.pcc.tag = true → capHas t.pcc permExec = true → ¬ InBounds t.pcc t.pc.toNat →
        s.fetchFail k t = some (0x04, t.pc)) ∧
      (t.pcc.tag = true → capHas t.pcc permExec = true → InBounds t.pcc t.pc.toNat → t.pc.toNat / 2 ^ 60 = 8 →
        (boundOffset (s.core k).fetchBound ≤ t.pc.toNat % 2 ^ 19 → s.fetchFail k t = some (0x08, t.pc)) ∧
        (t.pc.toNat % 2 ^ 19 < boundOffset (s.core k).fetchBound → s.fetchFail k t = none))))

/-! ### Groups, supersteps and the exchange (R304 to R320) -/

/-- R306, R319: a strand reads its rank and the size of its domain at a level, or its place among the strands of its group;
`gmember` gives the rank of a named core, all ones for one that is no member. -/
def Obligations.GroupFormsReadRanksAndSizes : Prop :=
  (∀ (s s' : State) (t : Strand) (g : Group) (d : BitVec 6) (lv : BitVec 3) (sc : BitVec 2), Reads s [] [d] [] s' →
    s'.cur = some t → s'.groupOn s'.turn.1 t.gid = some g →
    exec (.grank d 4#3 sc) s = gives sc.toNat d 1 (TV.ofNat t.sid.toNat) s' ∧
    exec (.gsize d 4#3 sc) s = gives sc.toNat d 1 (TV.ofNat g.live) s' ∧
    (lv.toNat < 4 →
      exec (.grank d lv sc) s = gives sc.toNat d 1 (TV.ofNat ((s'.rankIn g lv.toNat (s'.domainOf s'.turn.1 lv.toNat) false
        (coreIdLow s'.turn.1)).getD 0)) s' ∧
      exec (.gsize d lv sc) s = gives sc.toNat d 1 (TV.ofNat
        ((g.cores.filter (fun k => decide (s'.domainOf k lv.toNat = s'.domainOf s'.turn.1 lv.toNat))).length +
          (s'.partnerCores g.part lv.toNat (s'.domainOf s'.turn.1 lv.toNat)).length)) s')) ∧
  (∀ (s s' : State) (t : Strand) (g : Group) (d a : BitVec 6) (lv sc : BitVec 2) (x : TV) (r : Option Nat),
    Reads s [a] [d] [x] s' → s'.cur = some t → s'.groupOn s'.turn.1 t.gid = some g →
    r = s'.rankIn g lv.toNat (s'.domainOf s'.turn.1 lv.toNat) (decide (x.lo.toNat / 2 ^ 11 % 2 = 1)) (x.lo.toNat % 2 ^ 11) →
    exec (.gmember d a lv sc) s = gives sc.toNat d 1
      (match r with | some i => TV.ofNat i | none => TV.ofNat 0xFFFFFFFFFFFFFFFF) s')

/-- R307, R309, R314: `sync` waits as a release, with its level, and completes with the superstep counter once its domain
has, and traps with an exchange violation while a phase of its core is pending or open; `xstart` waits for the phase and
completes when it opens, and traps with that violation where the core's phase is pending or open already, or where its
domain spans dies.
R315 to R317, R320: `xput` and `xget` enter a transfer in the core's open phase; `xdone` closes the phase for its core once
the core's transfers have moved, or traps with the event that the core's monitor reports. -/
def Obligations.SuperstepAndExchangeFormsComplete : Prop :=
  ((∀ (s s' : State) (t : Strand) (d : BitVec 6) (lv sc : BitVec 2), Reads s [] [d] [] s' → s'.cur = some t →
      (∀ n, t.granted = some n → exec (.sync d lv sc) s = gives sc.toNat d 0 (TV.ofWord n) s') ∧
      (∀ t0, Turn s t0 → t.granted = none → (s'.core s'.turn.1).exchanging = false → t.seqFail = none →
        s'.hasEntries s'.turn.1 s'.turn.2 = false → Released s' → (lv = 3#2 → FabricDone s') →
        exec (.sync d lv sc) s = waitsWith (.sync lv.toNat) s (if lv = 3#2 then s'.fabricDone else s')) ∧
      (∀ t0, Turn s t0 → t.granted = none → t.wait = none → (s'.core s'.turn.1).exchanging = true →
        exec (.sync d lv sc) s = traps 0x0E s'.freeWord.1 t0 s'.freeWord.2)) ∧
    (∀ (s : State) (t : Strand) (lv sc : BitVec 2), Turn s t →
      (∀ n, t.granted = some n → exec (.xstart lv sc) s = goesOn sc.toNat (s.settled t)) ∧
      (∀ g, t.granted = none → s.groupOn s.turn.1 t.gid = some g →
        ((∀ j ∈ s.domainCores g lv.toNat (s.domainOf s.turn.1 lv.toNat), coreDie j = coreDie s.turn.1) →
          (s.core s.turn.1).phase = none →
          (∀ e ∈ (s.core s.turn.1).slots, e.1 ≠ s.turn.2 → ∀ w, e.2.wait = some w → ∀ l, w.kind ≠ .xstart l) →
          exec (.xstart lv sc) s = waits (.xstart lv.toNat) t s) ∧
        ((∀ j ∈ s.domainCores g lv.toNat (s.domainOf s.turn.1 lv.toNat), coreDie j = coreDie s.turn.1) →
          ((s.core s.turn.1).phase ≠ none ∨
            ∃ e ∈ (s.core s.turn.1).slots, e.1 ≠ s.turn.2 ∧ ∃ w l, e.2.wait = some w ∧ w.kind = .xstart l) →
          exec (.xstart lv sc) s = traps 0x0E (s.settled t).freeWord.1 t (s.settled t).freeWord.2) ∧
        ((∃ j ∈ s.domainCores g lv.toNat (s.domainOf s.turn.1 lv.toNat), coreDie j ≠ coreDie s.turn.1) →
          exec (.xstart lv sc) s = traps 0x0E (BitVec.ofNat 64 lv.toNat) t (s.settled t))))) ∧
  ((∀ (s s' : State) (t : Strand) (g : Group) (p : Phase) (a b c : BitVec 6) (cap r off : TV) (x w n o : Nat),
      Reads s [a, b, c] [] [cap, r, off] s' → Clear s' → s'.cur = some t → s'.groupOn s'.turn.1 t.gid = some g →
      x = capAddr cap → w = r.lo.toNat → n = w / 2 ^ 16 % 256 + 1 → o = off.lo.toNat →
      x / 2 ^ 60 = 8 → spadCore x = s'.turn.1 → x % 32 = 0 → (s'.core s'.turn.1).phase = some p →
      o ≤ 1048575 → s'.now + 4 ≤ o + p.t0 →
      ((s'.core s'.turn.1).transfers.filter (fun y => decide (y.moved < y.n))).length < 16 →
      (∀ y ∈ (s'.core s'.turn.1).transfers, y.moved < y.n → y.start + y.n ≤ o ∨ o + n ≤ y.start) →
      (derefFail cap x (32 * n) permLoad = none → (∀ f, s'.place s'.turn.1 x (32 * n) false false ≠ .bad f) →
        s'.mine s'.turn.1 s'.turn.2 = [] → w / 16 % 32 ≤ 19 → routeCore s'.turn.1 w ∈ s'.domainCores g p.level (s'.domainOf s'.turn.1 p.level) →
        exec (.xput a b c) s = goesOn 0 (s'.updCore s'.turn.1 (fun y =>
          { y with transfers := y.transfers ++ [⟨true, x % 2 ^ 19, n, o, routeCore s'.turn.1 w, 0⟩] }))) ∧
      (derefFail cap x (32 * n) permStore = none → (∀ f, s'.place s'.turn.1 x (32 * n) true false ≠ .bad f) →
        exec (.xget a b c) s = goesOn 0 (s'.updCore s'.turn.1 (fun y =>
          { y with transfers := y.transfers ++ [⟨false, x % 2 ^ 19, n, o, routeCore s'.turn.1 w, 0⟩] })))) ∧
    (∀ (s : State) (t : Strand) (sc : BitVec 2), Turn s t →
      ((s.core s.turn.1).phase = none → exec (.xdone sc) s = goesOn sc.toNat (s.settled t)) ∧
      (∀ p r, (s.core s.turn.1).phase = some p → (∀ x ∈ (s.core s.turn.1).transfers, x.n ≤ x.moved) →
        r = (s.settled t).updCore s.turn.1 (fun c => { c with phase := none, transfers := [] }) →
        (s.groupOn s.turn.1 t.gid = none → exec (.xdone sc) s = goesOn sc.toNat r) ∧
        (∀ g n, s.groupOn s.turn.1 t.gid = some g →
          n = r.updGroup g.part g.gid (·.updDom p.level (s.domainOf s.turn.1 p.level) (fun d =>
            { d with done := sadd s.turn.1 d.done })) →
          (reported p.mon ((g.dom p.level (s.domainOf s.turn.1 p.level)).bind (·.event)) = none →
            exec (.xdone sc) s = goesOn sc.toNat n) ∧
          (∀ e, reported p.mon ((g.dom p.level (s.domainOf s.turn.1 p.level)).bind (·.event)) = some e →
            exec (.xdone sc) s = traps 0x0E e t n)))))

/-! ### Events and barriers (R322 to R339) -/

/-- R332 to R334: `evwait` takes the oldest event of a line in its mask, or polls, or waits; `evsig` places its event in
each inbox that its mask names; `evsend` sends its event on the dynamic plane. -/
def Obligations.EventFormsTakeAndPlaceEvents : Prop :=
  (∀ (s s' : State) (t0 : Strand) (d a : BitVec 6) (sc : BitVec 2) (x : TV), Turn s t0 → Reads s [a] [d] [x] s' →
    (∀ e, (s'.inboxOf s'.turn.1).find? (fun e => x.lo.getLsbD e.line && decide (e.line < 32)) = some e →
      exec (.evwait d a sc) s = gives sc.toNat d 0 (TV.ofNat (e.payload.toNat + e.line * 2 ^ 64 + 2 ^ 69))
        (s'.setInbox s'.turn.1 (dropEvent (x.lo.toNat % 2 ^ 32) (s'.inboxOf s'.turn.1)))) ∧
    (s'.inboxOf s'.turn.1 = [] → (x.lo.getLsbD 32 = true ∨ x.lo.toNat % 2 ^ 32 = 0) →
      exec (.evwait d a sc) s = gives sc.toNat d 0 TV.zero s') ∧
    (s'.inboxOf s'.turn.1 = [] → x.lo.getLsbD 32 = false → x.lo.toNat % 2 ^ 32 ≠ 0 →
      exec (.evwait d a sc) s = waitsWith (.evwait (x.lo.toNat % 2 ^ 32) (blockingFields d [a])) s s')) ∧
  (∀ (s s' : State) (t : Strand) (a b : BitVec 6) (sc : BitVec 2) (x y : TV), Reads s [a, b] [] [x, y] s' → Released s' →
    s'.cur = some t → t.granted = none → s'.turn.1 < 1280 →
    (∀ i, i < 8 → x.lo.getLsbD (8 + i) = true → (s'.inboxOf (coreOfSlot (clusterOf s'.turn.1) i)).length < 16 ∧
      s'.eventBehind s'.turn.1 (coreOfSlot (clusterOf s'.turn.1) i) (x.lo.toNat % 32) = false) →
    ∃ n, exec (.evsig a b sc) s = goesOn sc.toNat n ∧ ∀ i, i < 8 →
      n.inboxOf (coreOfSlot (clusterOf s'.turn.1) i) = s'.inboxOf (coreOfSlot (clusterOf s'.turn.1) i) ++
        (if x.lo.getLsbD (8 + i) then [⟨x.lo.toNat % 32, y.lo⟩] else [])) ∧
  (∀ (s s' : State) (a b : BitVec 6) (sc : BitVec 2) (x y : TV), Reads s [a, b] [] [x, y] s' →
    x.lo.toNat / 16 % 32 ≤ 19 → s'.maySend s'.turn.1 (coreOfId x.lo.toNat) = true → Released s' →
    (s'.core s'.turn.1).held = [] →
    exec (.evsend a b sc) s = goesOn sc.toNat { s' with
      flights := kset s'.nextAccess ⟨s'.sender s'.turn.1 s'.turn.2, coreOfId x.lo.toNat,
        .event (x.lo.toNat / 2 ^ 16 % 32) y.lo, x.lo⟩ s'.flights,
      nextAccess := s'.nextAccess + 1 })

/-- R335 to R338: `barc` sets a counter that no arrival has reached; `bara` arrives and gives the generation it joined, the
last arrival ending it; `barw` goes on once the generation has passed, which it looks at before the counter's state (the
model's reading, log entry 34); `barrc` is checked as it issues, waits, and completes with its wire episode.
R324, R339: `mtxlock` takes a free mutex, completes when the mutex is passed on to it, and traps where its strand owns
it; `mtxfree` passes the mutex of its strand to the oldest request or frees it, and reports whether it was the owner. -/
def Obligations.BarrierAndMutexFormsSynchronise : Prop :=
  ((∀ (s s' : State) (d a b : BitVec 6) (sc : BitVec 2) (x y : TV) (c : BarCounter), Reads s [a, b] [d] [x, y] s' →
      c = (s'.cluster (clusterOf s'.turn.1)).counter (x.lo.toNat % 8) →
      (c.target ≠ 0 → c.arrivals ≠ 0 → exec (.barc d a b sc) s = gives sc.toNat d 0 TV.zero s') ∧
      ((c.target = 0 ∨ c.arrivals = 0) →
        exec (.barc d a b sc) s = gives sc.toNat d 0 (TV.ofNat 1) (s'.updCluster (clusterOf s'.turn.1)
          (·.setCounter (x.lo.toNat % 8) ⟨y.lo.toNat % 256, 0, c.gen⟩)))) ∧
    (∀ (s s' : State) (t0 : Strand) (d a : BitVec 6) (sc : BitVec 2) (x : TV) (c c1 : BarCounter), Turn s t0 →
      Reads s [a] [d] [x] s' → Released s' →
      c = (s'.cluster (clusterOf s'.turn.1)).counter (x.lo.toNat % 8) →
      c1 = (if c.arrivals + 1 < c.target then { c with arrivals := c.arrivals + 1 }
        else { c with arrivals := 0, gen := c.gen + 1#16 }) →
      (c.target = 0 → exec (.bara d a sc) s = traps 0x0F (BitVec.ofNat 64 (x.lo.toNat % 8)) t0 s') ∧
      (c.target ≠ 0 →
        exec (.bara d a sc) s = gives sc.toNat d 0 (TV.ofNat c.gen.toNat)
          (s'.updCluster (clusterOf s'.turn.1) (·.setCounter (x.lo.toNat % 8) c1)))) ∧
    (∀ (s s' : State) (t0 : Strand) (a b : BitVec 6) (sc : BitVec 2) (x y : TV) (c : BarCounter), Turn s t0 →
      Reads s [a, b] [] [x, y] s' → c = (s'.cluster (clusterOf s'.turn.1)).counter (x.lo.toNat % 8) →
      (c.gen.toNat ≠ y.lo.toNat % 2 ^ 16 → exec (.barw a b sc) s = goesOn sc.toNat s') ∧
      (c.gen.toNat = y.lo.toNat % 2 ^ 16 → c.target = 0 →
        exec (.barw a b sc) s = traps 0x0F (BitVec.ofNat 64 (x.lo.toNat % 8)) t0 s') ∧
      (c.gen.toNat = y.lo.toNat % 2 ^ 16 → c.target ≠ 0 → exec (.barw a b sc) s =
        waitsWith (.barw (x.lo.toNat % 8) (y.lo.toNat % 2 ^ 16) (blockingFields 0#6 [a, b])) s s')) ∧
    (∀ (s s' : State) (t0 t : Strand) (d a : BitVec 6) (sc : BitVec 2) (x : TV), Turn s t0 → Reads s [a] [d] [x] s' →
      s'.cur = some t →
      (∀ n, t.granted = some n → exec (.barrc d a sc) s = gives sc.toNat d 0 (TV.ofWord n) s') ∧
      (t.granted = none → t.wait = none → s'.rectOk s'.turn.1 t.gid (Rect.ofCode (x.lo.toNat % 2 ^ 20)) = false →
        exec (.barrc d a sc) s = traps 0x11 (BitVec.ofNat 64 (x.lo.toNat % 2 ^ 20)) t0 s') ∧
      (t.granted = none → t.wait = none → s'.rectOk s'.turn.1 t.gid (Rect.ofCode (x.lo.toNat % 2 ^ 20)) = true →
        (s'.core s'.turn.1).exchanging = true → exec (.barrc d a sc) s = traps 0x0E s'.freeWord.1 t0 s'.freeWord.2) ∧
      (t.granted = none → t.wait = none → s'.rectOk s'.turn.1 t.gid (Rect.ofCode (x.lo.toNat % 2 ^ 20)) = true →
        (s'.core s'.turn.1).exchanging = false → Released s' →
        exec (.barrc d a sc) s = waitsWith (.barrc (x.lo.toNat % 2 ^ 20)) s s'))) ∧
  ((∀ (s s' : State) (t0 t : Strand) (a : BitVec 6) (sc : BitVec 2) (x : TV) (m : Mutex), Turn s t0 →
      Reads s [a] [] [x] s' → s'.cur = some t → m = (s'.cluster (clusterOf s'.turn.1)).mutex (x.lo.toNat % 16) →
      (∀ n, t.granted = some n → exec (.mtxlock a sc) s = goesOn sc.toNat s') ∧
      (t.granted = none → m.owner = none → exec (.mtxlock a sc) s = goesOn sc.toNat (s'.updCluster (clusterOf s'.turn.1)
        (fun c => c.setMutex (x.lo.toNat % 16) { m with owner := some (t.gid, t.sid.toNat) }))) ∧
      (t.granted = none → m.owner = some (t.gid, t.sid.toNat) →
        exec (.mtxlock a sc) s = traps 0x0F (BitVec.ofNat 64 (x.lo.toNat % 16)) t0 s')) ∧
    (∀ (s s' : State) (t : Strand) (d a : BitVec 6) (sc : BitVec 2) (x : TV) (m : Mutex), Reads s [a] [d] [x] s' →
      Released s' → s'.cur = some t → m = (s'.cluster (clusterOf s'.turn.1)).mutex (x.lo.toNat % 16) →
      (m.owner ≠ some (t.gid, t.sid.toNat) →
        exec (.mtxfree d a sc) s = gives sc.toNat d 0 TV.zero s') ∧
      (m.owner = some (t.gid, t.sid.toNat) → m.queue = [] →
        exec (.mtxfree d a sc) s = gives sc.toNat d 0 (TV.ofNat 1)
          (s'.updCluster (clusterOf s'.turn.1) (·.setMutex (x.lo.toNat % 16) ⟨none, []⟩))) ∧
      (∀ k sl r u n, m.owner = some (t.gid, t.sid.toNat) → m.queue = (k, sl) :: r → s'.strand k sl = some u →
        n = (s'.updCluster (clusterOf s'.turn.1) (·.setMutex (x.lo.toNat % 16) ⟨some (u.gid, u.sid.toNat), r⟩)).setStrand k sl
          { u with granted := some 0#64 } →
        exec (.mtxfree d a sc) s = gives sc.toNat d 0 (TV.ofNat 1) n)))

/-! ### Format M (R285, R288, R294 to R303) -/

/-- R295 to R298: every atomic and reduction performs its operation on the value at its location, aligned, with the
permissions of its form, after the release its order code asks for.
R297, R298: the operations: what replaces the old value; the FP32 sum is rounded to nearest even, and the FP32 minimum
and maximum are those of R114. -/
def Obligations.AtomicsReplaceTheirValueInOneStep : Prop :=
  (PerformsAmo .amoSwap .swap 8 ∧ PerformsAmo .amoAdd .add 8 ∧ PerformsAmo .amoAnd .and 8 ∧ PerformsAmo .amoOr .or 8 ∧
    PerformsAmo .amoXor .xor 8 ∧ PerformsAmo .amoMin .min 8 ∧ PerformsAmo .amoMax .max 8 ∧ PerformsAmo .amoMinn .minn 8 ∧
    PerformsAmo .amoMaxn .maxn 8 ∧ PerformsAmo .amoFaddF32 .fadd 4 ∧ PerformsAmo .amoFminF32 .fmin 4 ∧
    PerformsAmo .amoFmaxF32 .fmax 4 ∧ PerformsRed .redAdd .add 8 ∧ PerformsRed .redFaddF32 .fadd 4 ∧
    PerformsRed .redMin .min 8 ∧ PerformsRed .redMax .max 8) ∧
  ((∀ (old v : BitVec 64),
      AmoOp.swap.apply 8 old.toNat v.toNat = (v.toNat, 0#5) ∧ AmoOp.add.apply 8 old.toNat v.toNat = ((old + v).toNat, 0#5) ∧
      AmoOp.and.apply 8 old.toNat v.toNat = ((old &&& v).toNat, 0#5) ∧
      AmoOp.or.apply 8 old.toNat v.toNat = ((old ||| v).toNat, 0#5) ∧
      AmoOp.xor.apply 8 old.toNat v.toNat = ((old ^^^ v).toNat, 0#5) ∧
      ((AmoOp.min.apply 8 old.toNat v.toNat).1 : Int) = (BitVec.ofInt 64 (min old.toInt v.toInt)).toNat ∧
      ((AmoOp.max.apply 8 old.toNat v.toNat).1 : Int) = (BitVec.ofInt 64 (max old.toInt v.toInt)).toNat ∧
      AmoOp.minn.apply 8 old.toNat v.toNat = (min old.toNat v.toNat, 0#5) ∧
      AmoOp.maxn.apply 8 old.toNat v.toNat = (max old.toNat v.toNat, 0#5)) ∧
    (∀ (old v : BitVec 32),
      AmoOp.fadd.apply 4 old.toNat v.toNat = addVal .f32 .rne false 0 (Fmt.f32.decode old.toNat) (Fmt.f32.decode v.toNat) ∧
      AmoOp.fmin.apply 4 old.toNat v.toNat = minMaxVal .f32 false old.toNat v.toNat ∧
      AmoOp.fmax.apply 4 old.toNat v.toNat = minMaxVal .f32 true old.toNat v.toNat))

/-- R299 to R301: compare and swap replaces the value it expects and gives the old one; `waitv` gives the value once it
differs, and waits while it does not; the acquiring loads and the releasing stores move their bytes. -/
def Obligations.CompareWaitAndOrderedAccesses : Prop :=
  (∀ (s s' s1 m : State) (d a b : BitVec 6) (scope : BitVec 3) (ord : BitVec 2) (c y e : TV) (loc : Nat),
    ReadsFields s [a, b, d] [a, b, d] [d] [c, y, e] s' → Clear s' → OrderOk s' ord scope → s1 = s'.ordered ord scope →
    (capAddr c % 8 = 0 → Reaches s1 c (capAddr c) 8 (permLoad ||| permStore ||| permAtomic) true true loc →
      RidgeOk s1 scope loc → m = s1.touchAtomic (clusterOf s1.turn.1) loc 8 scope.toNat →
      (s1.read loc 8 = e.lo.toNat → exec (.cas64 d a b scope ord) s =
        gives 0 d 0 (TV.ofNat (s1.read loc 8)) (m.write loc (natBytes 8 y.bits.toNat))) ∧
      (s1.read loc 8 ≠ e.lo.toNat →
        exec (.cas64 d a b scope ord) s = gives 0 d 0 (TV.ofNat (s1.read loc 8)) m)) ∧
    (capAddr c % 16 = 0 → Reaches s1 c (capAddr c) 16
        ((permLoad ||| permStore ||| permAtomic) ||| (if y.tag then permStoreCap else 0)) true true loc →
      RidgeOk s1 scope loc → m = s1.touchAtomic (clusterOf s1.turn.1) loc 16 scope.toNat → taggedLoc loc = true →
      (s1.read loc 16 = e.bits.toNat → exec (.cas128 d a b scope ord) s =
        gives 0 d 0 ⟨BitVec.ofNat 128 (s1.read loc 16),
          s1.tagAt loc && capOk (s1.readTagged loc) && capHas c permLoadCap⟩ (m.writeTagged loc y)) ∧
      (s1.read loc 16 ≠ e.bits.toNat → exec (.cas128 d a b scope ord) s =
        gives 0 d 0 ⟨BitVec.ofNat 128 (s1.read loc 16),
          s1.tagAt loc && capOk (s1.readTagged loc) && capHas c permLoadCap⟩ m))) ∧
  (∀ (s s' : State) (d a b : BitVec 6) (scope : BitVec 3) (ord : BitVec 1) (c y : TV) (loc : Nat),
    Reads s [a, b] [d] [c, y] s' → Clear s' →
    (capAddr c % 8 = 0 → NoFailure s' → Reaches s' c (capAddr c) 8 permLoad false true loc →
      (s'.read loc 8 ≠ y.bits.toNat % 2 ^ 64 →
        exec (.waitv64 d a b scope ord) s =
          gives 0 d 0 (TV.ofNat (s'.read loc 8)) (s'.touch (clusterOf s'.turn.1) loc 8 false)) ∧
      (s'.read loc 8 = y.bits.toNat % 2 ^ 64 → exec (.waitv64 d a b scope ord) s =
        waitsWith (.waitv (capAddr c) 8 (y.bits.toNat % 2 ^ 64) (blockingFields d [a, b])) s s')) ∧
    (capAddr c % 4 = 0 → NoFailure s' → Reaches s' c (capAddr c) 4 permLoad false true loc →
      (s'.read loc 4 ≠ y.bits.toNat % 2 ^ 32 →
        exec (.waitv32 d a b scope ord) s =
          gives 0 d 0 (TV.ofNat (s'.read loc 4)) (s'.touch (clusterOf s'.turn.1) loc 4 false)) ∧
      (s'.read loc 4 = y.bits.toNat % 2 ^ 32 → exec (.waitv32 d a b scope ord) s =
        waitsWith (.waitv (capAddr c) 4 (y.bits.toNat % 2 ^ 32) (blockingFields d [a, b])) s s'))) ∧
  (∀ (s s' : State) (d a : BitVec 6) (scope : BitVec 3) (c : TV) (loc : Nat), Reads s [a] [d] [c] s' → Clear s' →
    (capAddr c % 8 = 0 → Reaches s' c (capAddr c) 8 permLoad false true loc →
      exec (.lda64 d a scope) s =
        gives 0 d 0 (TV.ofNat (s'.read loc 8)) (s'.touch (clusterOf s'.turn.1) loc 8 false)) ∧
    (capAddr c % 4 = 0 → Reaches s' c (capAddr c) 4 permLoad false true loc →
      exec (.lda32 d a scope) s =
        gives 0 d 0 (TV.ofNat (s'.read loc 4)) (s'.touch (clusterOf s'.turn.1) loc 4 false))) ∧
  (∀ (s s' s1 : State) (a b : BitVec 6) (scope : BitVec 3) (c v : TV) (loc : Nat), Reads s [a, b] [] [c, v] s' → Clear s' →
    ReleasedAt s' scope.toNat → s1 = s'.releasedAt scope.toNat →
    (capAddr c % 8 = 0 → Reaches s1 c (capAddr c) 8 permStore true true loc → exec (.stl64 a b scope) s =
      goesOn 0 ((s1.touch (clusterOf s1.turn.1) loc 8 true).write loc (natBytes 8 v.bits.toNat))) ∧
    (capAddr c % 4 = 0 → Reaches s1 c (capAddr c) 4 permStore true true loc → exec (.stl32 a b scope) s =
      goesOn 0 ((s1.touch (clusterOf s1.turn.1) loc 4 true).write loc (natBytes 4 v.bits.toNat))))

/-- R285, R288, R294, R302: the fences complete once the accesses they order have been performed, and wait until then; at
fabric scope, and for `fence.win`, once the strand's fabric writes have been sent and their window has passed. -/
def Obligations.FencesWaitForEarlierAccesses : Prop :=
  ∀ (s r : State) (t : Strand) (scope : BitVec 3), Turn s t → r = s.settled t →
    (ReleasedAt r scope.toNat → exec (.fence scope) s = goesOn 0 (r.releasedAt scope.toNat) ∧
      exec (.fenceRel scope) s = goesOn 0 (r.releasedAt scope.toNat)) ∧
    (¬ Released r → ∀ k, k = (if scope.toNat = 4 then WaitKind.fenceWin else .inSlot) →
      exec (.fence scope) s = waits k t s ∧ exec (.fenceRel scope) s = waits k t s) ∧
    (Released r → scope.toNat = 4 → ¬ FabricDone r →
      exec (.fence scope) s = waits .fenceWin t s ∧ exec (.fenceRel scope) s = waits .fenceWin t s) ∧
    ((∀ e ∈ r.mine s.turn.1 s.turn.2, e.2.kind.posted = true) → exec (.fenceAcq scope) s = goesOn 0 r) ∧
    ((∃ e ∈ r.mine s.turn.1 s.turn.2, e.2.kind.posted = false) → exec (.fenceAcq scope) s = waits .inSlot t s) ∧
    (FabricDone r → exec .fenceWin s = goesOn 0 r.fabricDone) ∧
    (¬ FabricDone r → exec .fenceWin s = waits .fenceWin t s)

/-! ### Channels and messages (R251 to R269) -/

/-- R258, R260 to R263: `chbind` opens or joins an entry at its home and binds the register; `chfree` releases the binding
and, with close, the entry; `chcnt` and `chspace` give the filled and the free count: at a command port the commands accepted and
not yet complete, and the places that neither these nor half-pushed commands take, which a place is until its command
completes by the model's own choice (log entry 62). -/
def Obligations.ChannelFormsBindAndCount : Prop :=
  (∀ (s s' : State) (t : Strand) (q : BitVec 3) (a b : BitVec 6) (sc : BitVec 2) (c w : TV) (d : Descriptor) (x h : Nat)
      (e : Chan), Reads s [a, b] [] [c, w] s' → s'.cur = some t → kfind q.toNat t.q = none → descriptorOk w.lo = true →
    c.tag = true → d = Descriptor.ofWord w.lo → x = capAddr c →
    (d.kind = 0 → x / 2 ^ 60 = 8 → derefFail c x (d.cap * d.size) (if d.pop then permLoad else permStore) = none →
      s'.spadPlace s'.turn.1 x (d.cap * d.size) ≠ .bad 0x04 → x % 64 = 0 → h = spadCore x →
      (d.pop = true → h = s'.turn.1) → s'.maySend s'.turn.1 h = true → s'.messageRefusal s'.turn.1 h = none →
      isFinial h = false → (s'.core h).frozen = false →
      bindStep d (spadOff x) (boundOffset (s'.core h).xobound) (s'.chan h d.ch) = .inl e →
      exec (.chbind q a b sc) s = goesOn sc.toNat ((s'.setChan h d.ch e).updStrand s'.turn.1 s'.turn.2
        (·.setBind q.toNat ⟨.channel, h, d.ch, d.pop, 0, 0, TV.zero, 0⟩))) ∧
    (d.kind = 1 → derefFail c x 16 permStore = none → portNamed s'.turn.1 x = 1 →
      exec (.chbind q a b sc) s = goesOn sc.toNat (s'.updStrand s'.turn.1 s'.turn.2
        (·.setBind q.toNat ⟨.command, clusterOf s'.turn.1, 0, d.pop, 0, 0, TV.zero, 0⟩))) ∧
    (d.kind = 2 → derefFail c x 16 permLoad = none → portNamed s'.turn.1 x = 2 →
      exec (.chbind q a b sc) s = goesOn sc.toNat (s'.updStrand s'.turn.1 s'.turn.2
        (·.setBind q.toNat ⟨.status, s'.turn.1, 0, d.pop, 0, 0, TV.zero, 0⟩)))) ∧
  (∀ (d : Descriptor) (base bound : Nat), bound ≤ base →
    (d.opens = true → bindStep d base bound none = .inl ⟨base, 16 * 2 ^ d.ssz, d.cap, 0, 0, d.cap, [], [], 1⟩) ∧
    (d.opens = false → bindStep d base bound none = .inr 0x14) ∧
    (∀ e : Chan, d.opens = false → e.base = base → e.size = 16 * 2 ^ d.ssz → e.cap = d.cap →
      bindStep d base bound (some e) = .inl { e with ends := e.ends + 1 }) ∧
    (∀ e : Chan, (d.opens = true ∨ e.base ≠ base ∨ e.size ≠ 16 * 2 ^ d.ssz ∨ e.cap ≠ d.cap) →
      bindStep d base bound (some e) = .inr 0x14)) ∧
  (∀ (s s' : State) (t : Strand) (q : BitVec 3) (b : BitVec 6) (sc : BitVec 2) (w : TV) (x : QBind),
    ReadsFields s [b, qField q] [b] [] [w] s' → s'.cur = some t → kfind q.toNat t.q = some x → x.pos = 0 →
    s'.homeFrozen x = false → (x.kind = .channel → s'.messageRefusal s'.turn.1 x.home = none) →
    (w.lo.getLsbD 0 = true → s'.endInUse x = false) →
    exec (.chfree q b sc) s = goesOn sc.toNat ((s'.releaseEnd x (w.lo.getLsbD 0)).updStrand s'.turn.1 s'.turn.2
      (fun u => { u with q := kdel q.toNat u.q }))) ∧
  (∀ (s s' : State) (t : Strand) (d : BitVec 6) (q : BitVec 3) (sc : BitVec 2) (x : QBind),
    ReadsFields s [qField q, d] [] [d] [] s' → s'.cur = some t → kfind q.toNat t.q = some x →
    (x.kind = .channel → s'.messageRefusal s'.turn.1 x.home = none) →
    exec (.chcnt d q sc) s = gives sc.toNat d 0 (TV.ofNat (s'.filledOf x)) s' ∧
    exec (.chspace d q sc) s = gives sc.toNat d 0 (TV.ofNat (s'.freeOf x)) s' ∧
    (x.kind = .channel → ∀ c, s'.chan x.home x.entry = some c → s'.filledOf x = c.count ∧ s'.freeOf x = c.free) ∧
    (x.kind = .command → s'.filledOf x = (s'.cluster x.home).copies.length ∧
      s'.freeOf x = 16 - s'.commandsHeld x.home ∧ s'.filledOf x ≤ s'.commandsHeld x.home) ∧
    (x.kind = .status → s'.freeOf x = 16 - s'.filledOf x))

/-- R264 to R267: `chpeek` reads a part of the slot at the head without taking it; `chtry` pops if it can and reports it;
`chput` pushes a whole slot from memory, or blocks with it; `msend` sends its message. -/
def Obligations.ChannelFormsMoveSlots : Prop :=
  (∀ (s s' : State) (t : Strand) (d b : BitVec 6) (q : BitVec 3) (sc : BitVec 2) (p : TV) (x : QBind) (v : BitVec 128),
    ReadsFields s [qField q, b, d] [b] [d] [p] s' → s'.cur = some t → kfind q.toNat t.q = some x →
    x.pop = true → p.lo.toNat < s'.slotBytes x / 16 → s'.peekPart x p.lo.toNat = some v →
    exec (.chpeek d q b sc) s = gives sc.toNat d 0 ⟨v, false⟩ s') ∧
  (∀ (s s' : State) (t : Strand) (d : BitVec 6) (q : BitVec 3) (sc : BitVec 2) (x : QBind),
    ReadsFields s [qField q, d] [] [d, d + 1#6] [] s' → s'.cur = some t → kfind q.toNat t.q = some x → x.pop = true →
    (∀ v n, s'.popAt s'.turn.1 s'.turn.2 q.toNat = some (v, n) →
      exec (.chtry d q sc) s = goesOn sc.toNat ((n.written d 0 (TV.ofWord v.lo)).written (d + 1#6) 0 (TV.ofNat 1))) ∧
    (s'.popAt s'.turn.1 s'.turn.2 q.toNat = none →
      exec (.chtry d q sc) s = goesOn sc.toNat ((s'.written d 0 TV.zero).written (d + 1#6) 0 TV.zero))) ∧
  (∀ (s s' m : State) (t : Strand) (a : BitVec 6) (q : BitVec 3) (sc : BitVec 2) (c : TV) (x : QBind) (k loc : Nat),
    ReadsFields s [a, qField q] [a] [] [c] s' → s'.cur = some t → kfind q.toNat t.q = some x → x.pop = false → x.pos = 0 →
    k = s'.slotBytes x → 0 < k → capAddr c % 4096 + k ≤ 4096 → capAddr c % 16 = 0 → Clear s' → Released s' → NoFailure s' →
    Reaches s' c (capAddr c) k permLoad false false loc → m = (s'.touch (clusterOf s'.turn.1) loc k false).dropRequests s'.curWaiter →
    (∀ n, m.putSlot m.turn.1 m.turn.2 q.toNat m.nextAccess (s'.readBytes loc k) = some n →
      exec (.chput q a sc) s = goesOn sc.toNat n) ∧
    (m.putSlot m.turn.1 m.turn.2 q.toNat m.nextAccess (s'.readBytes loc k) = none →
      exec (.chput q a sc) s =
        goesOn sc.toNat (m.blockPush m.turn.1 m.turn.2 q.toNat TV.zero (s'.readBytes loc k)))) ∧
  (∀ (s s' : State) (a b : BitVec 6) (sc : BitVec 2) (x v : TV), Reads s [a, b] [] [x, v] s' →
    x.lo.toNat / 16 % 32 ≤ 19 → s'.maySend s'.turn.1 (coreOfId x.lo.toNat) = true → Released s' →
    s'.messagesFor (coreOfId x.lo.toNat) < 16 →
    exec (.msend a b sc) s = goesOn sc.toNat { s' with
      flights := kset s'.nextAccess ⟨s'.sender s'.turn.1 s'.turn.2, coreOfId x.lo.toNat,
        .message (x.lo.toNat / 2 ^ 16 % 32) v.bits, x.lo⟩ s'.flights,
      nextAccess := s'.nextAccess + 1 })

/-! ### Shapes (R159 to R168) -/

/-- R166 to R168: the shape instructions load, store, read, set, advance and move the records of shape registers that await no
result (R66). -/
def Obligations.ShapeFormsHandleRecords : Prop :=
  (∀ (s s' : State) (t : Strand) (d : BitVec 4) (a : BitVec 6) (sc : BitVec 2) (c : TV) (loc : Nat),
    Reads s [a] [] [c] s' → Clear s' → s'.cur = some t → 64 + d.toNat ∉ t.busy → capAddr c % 64 = 0 →
    (Reaches s' c (capAddr c) 64 permLoad false false loc → exec (.shpLd d a sc) s = goesOn sc.toNat
      ((s'.touch (clusterOf s'.turn.1) loc 64 false).updStrand s'.turn.1 s'.turn.2 (·.putSh d.toNat
        ⟨BitVec.ofNat 512 (s'.read loc 64), s'.tagAt loc && capOk (s'.readTagged loc) && capHas c permLoadCap⟩))) ∧
    (Reaches s' c (capAddr c) 64 permStore true false loc → ((t.getSh d.toNat).tag = true → capHas c permStoreCap = true) →
      exec (.shpSt d a sc) s = goesOn sc.toNat (((s'.touch (clusterOf s'.turn.1) loc 64 true).write loc
        (natBytes 64 (t.getSh d.toNat).bits.toNat)).writeTagged loc (t.getSh d.toNat).cap)) ∧
    (Reaches s' c (capAddr c) 64 permStore true false loc → (t.getSh d.toNat).tag = true → capHas c permStoreCap = false →
      ∀ t0, Turn s t0 → exec (.shpSt d a sc) s = traps 0x05 (BitVec.ofNat 64 (capAddr c)) t0 s')) ∧
  (∀ (s s' : State) (t : Strand) (d : BitVec 6) (a : BitVec 4) (b : BitVec 6) (sc : BitVec 2) (sel : TV) (x : Shape),
    Reads s [b] [d] [sel] s' → s'.cur = some t → 64 + a.toNat ∉ t.busy → x = t.getSh a.toNat →
    exec (.shpGet d a b sc) s = gives sc.toNat d 1 (if sel.lo.toNat = 0 then ⟨x.bits.extractLsb' 0 128, x.tag⟩
      else if 2 ≤ sel.lo.toNat ∧ sel.lo.toNat ≤ 7 then TV.ofWord (x.bits.extractLsb' (64 * sel.lo.toNat) 64)
      else if sel.lo.toNat = 8 then TV.ofNat (if x.valid then 1 else 0) else TV.zero) s') ∧
  (∀ (s s' : State) (t : Strand) (d : BitVec 4) (a b : BitVec 6) (sc : BitVec 2) (v sel : TV), Reads s [a, b] [] [v, sel] s' →
    s'.cur = some t → 64 + d.toNat ∉ t.busy →
    exec (.shpSet d a b sc) s = goesOn sc.toNat (s'.updStrand s'.turn.1 s'.turn.2 (fun u =>
      u.putSh d.toNat ((u.getSh d.toNat).set sel.lo.toNat v))) ∧
    exec (.shpAdv d a b sc) s = goesOn sc.toNat (s'.updStrand s'.turn.1 s'.turn.2 (fun u => u.putSh d.toNat
      (if sel.lo.toNat ≤ 3 then (u.getSh d.toNat).advance sel.lo.toNat v.lo.toNat else u.getSh d.toNat)))) ∧
  (∀ (s : State) (t : Strand) (d a : BitVec 4) (sc : BitVec 2), Turn s t → 64 + d.toNat ∉ t.busy → 64 + a.toNat ∉ t.busy →
    exec (.shpMv d a sc) s = goesOn sc.toNat ((s.settled t).updStrand s.turn.1 s.turn.2 (·.putSh d.toNat
      (t.getSh a.toNat)))) ∧
  (∀ (x : Shape) (sel d v : Nat) (w : TV),
    (∀ i, i < 512 → (x.set sel w).bits.getLsbD i =
      (if sel = 0 ∧ i < 128 then w.bits.getLsbD i
       else if 2 ≤ sel ∧ sel ≤ 7 ∧ 64 * sel ≤ i ∧ i < 64 * sel + 64 then w.lo.getLsbD (i - 64 * sel)
       else x.bits.getLsbD i)) ∧
    (x.set sel w).tag = (if sel = 0 then w.tag else x.tag) ∧
    (d < 4 → (x.advance d v).rawCursor d = (x.rawCursor d + v) % 2 ^ 16 ∧ (x.advance d v).tag = x.tag))

/-! ### The vector datapath (R169 to R193) -/

/-- R169, R170, R177 to R187: each vector instruction, once an entry is free and its checks pass, takes an entry of
its core's sequencer that holds its operation, copies of the shapes it names and its option bits. -/
def Obligations.VectorFormsTakeTheirEntries : Prop :=
  (∀ (d a b : BitVec 4) (k : BitVec 1),
    TakesEntry (.vadd d a b k) ((v3 .vadd d a b).withK k) ∧ TakesEntry (.vsub d a b k) ((v3 .vsub d a b).withK k) ∧
    TakesEntry (.vmul d a b k) ((v3 .vmul d a b).withK k) ∧ TakesEntry (.vfma d a b k) ((v3 .vfma d a b).withK k) ∧
    TakesEntry (.vmin d a b) (v3 .vmin d a b) ∧ TakesEntry (.vmax d a b) (v3 .vmax d a b) ∧
    TakesEntry (.vand d a b) (v3 .vand d a b) ∧ TakesEntry (.vor d a b) (v3 .vor d a b) ∧
    TakesEntry (.vxor d a b) (v3 .vxor d a b) ∧ TakesEntry (.vcmpEq d a b) (v3 .vcmpEq d a b) ∧
    TakesEntry (.vcmpLt d a b) (v3 .vcmpLt d a b) ∧ TakesEntry (.vcmpLe d a b) (v3 .vcmpLe d a b) ∧
    TakesEntry (.vsel d a b) (v3 .vsel d a b) ∧ TakesEntry (.vgath d a b) (v3 .vgath d a b) ∧
    TakesEntry (.vscat d a b) (v3 .vscat d a b) ∧ TakesEntry (.vscatAdd d a b k) ((v3 .vscatAdd d a b).withK k)) ∧
  (∀ (d a : BitVec 4) (k o : BitVec 1),
    TakesEntry (.vabs d a k) ((v2 .vabs d a).withK k) ∧ TakesEntry (.vneg d a k) ((v2 .vneg d a).withK k) ∧
    TakesEntry (.vrcp d a) (v2 .vrcp d a) ∧ TakesEntry (.vrsqrt d a) (v2 .vrsqrt d a) ∧
    TakesEntry (.vexp2 d a) (v2 .vexp2 d a) ∧ TakesEntry (.vlog2 d a) (v2 .vlog2 d a) ∧
    TakesEntry (.vtanh d a) (v2 .vtanh d a) ∧ TakesEntry (.vsig d a) (v2 .vsig d a) ∧
    TakesEntry (.vcopy d a) (v2 .vcopy d a) ∧ TakesEntry (.vcvt d a o k) (((v2 .vcvt d a).withK k).withO o) ∧
    TakesEntry (.vquant d a o) ((v2 .vquant d a).withO o) ∧ TakesEntry (.vdequant d a) (v2 .vdequant d a)) ∧
  (∀ (d a : BitVec 4) (k : BitVec 1),
    TakesEntryWith (fun g => .vaddi d a g k) ((v2 .vaddi d a).withK k) ∧
    TakesEntryWith (fun g => .vsubi d a g k) ((v2 .vsubi d a).withK k) ∧
    TakesEntryWith (fun g => .vmuli d a g k) ((v2 .vmuli d a).withK k) ∧
    TakesEntryWith (.vshl d a) (v2 .vshl d a) ∧ TakesEntryWith (.vshr d a) (v2 .vshr d a) ∧
    TakesEntryWith (.vsra d a) (v2 .vsra d a) ∧ TakesEntryWith (.vsat d a) (v2 .vsat d a) ∧
    TakesEntryWith (.vfill d) (v2 .vfill d 0#4) ∧ TakesEntryWith (.viota d) (v2 .viota d 0#4) ∧
    TakesEntryWith (.vclamp d a) (v2 .vclamp d a)) ∧
  (∀ (d a b : BitVec 4),
    TakesEntryWith (.vdotF4f4 d a b) (v3 (.vdot .f4f4 false) d a b) ∧
    TakesEntryWith (.vdotaF4f4 d a b) (v3 (.vdot .f4f4 true) d a b) ∧
    TakesEntryWith (.vdotF6f6 d a b) (v3 (.vdot .f6f6 false) d a b) ∧
    TakesEntryWith (.vdotaF6f6 d a b) (v3 (.vdot .f6f6 true) d a b) ∧
    TakesEntryWith (.vdotF6f4 d a b) (v3 (.vdot .f6f4 false) d a b) ∧
    TakesEntryWith (.vdotaF6f4 d a b) (v3 (.vdot .f6f4 true) d a b) ∧
    TakesEntryWith (.vdotE4e4 d a b) (v3 (.vdot .e4e4 false) d a b) ∧
    TakesEntryWith (.vdotaE4e4 d a b) (v3 (.vdot .e4e4 true) d a b) ∧
    TakesEntryWith (.vdotE5e5 d a b) (v3 (.vdot .e5e5 false) d a b) ∧
    TakesEntryWith (.vdotaE5e5 d a b) (v3 (.vdot .e5e5 true) d a b) ∧
    TakesEntry (.vdotI8i8 d a b) (v3 (.vdot .i8i8 false) d a b) ∧
    TakesEntry (.vdotaI8i8 d a b) (v3 (.vdot .i8i8 true) d a b) ∧
    TakesEntry (.vdotI8t2 d a b) (v3 (.vdot .i8t2 false) d a b) ∧
    TakesEntry (.vdotaI8t2 d a b) (v3 (.vdot .i8t2 true) d a b) ∧
    TakesEntry (.vdotBfbf d a b) (v3 (.vdot .bfbf false) d a b) ∧
    TakesEntry (.vdotaBfbf d a b) (v3 (.vdot .bfbf true) d a b))

/-- R237, R239 to R246: each hypervector instruction takes its entry; loads and stores of a register are checked at issue.
R247 to R249: so do the searches, whose registers await the results.
R66, R181: a row reduction takes its entry; a register named for the last row's result awaits it, g0 names none. -/
def Obligations.ReductionsAndHypervectorFormsTakeTheirEntries : Prop :=
  ((∀ (d a b : BitVec 3) (mode tie : BitVec 2) (y : BitVec 1),
      TakesEntry (.hbind d a b) (hEntry .hbind d.toNat a.toNat b.toNat 0 0 0) ∧
      TakesEntryWith (.hperm d a) (hEntry .hperm d.toNat a.toNat 0 0 0 0) ∧
      TakesEntryWith (fun g => .hbund a g mode y) (hEntry .hbund 0 a.toNat 0 y.toNat mode.toNat 0) ∧
      TakesEntry (.hthr d b mode tie y) (hEntry .hthr d.toNat 0 b.toNat y.toNat mode.toNat tie.toNat) ∧
      TakesEntry (.hclrH d) (hEntry .hclr d.toNat 0 0 0 0 0) ∧ TakesEntry (.hclrY y) (hEntry .hclr 0 0 0 y.toNat 1 0) ∧
      TakesEntry (.hmv d a) (hEntry .hmv d.toNat a.toNat 0 0 0 0) ∧
      TakesEntry (.hnot d a) (hEntry .hnot d.toNat a.toNat 0 0 0 0)) ∧
    (∀ (s s' : State) (t u : Strand) (r : BitVec 3) (y : BitVec 1) (g : BitVec 6) (c : TV) (e : VEntry) (x n : Nat), Turn s t →
      EntryFree (s.settled t) (t.settle s.now) → Reads s [g] [] [c] s' → s'.cur = some u → x = capAddr c → x % 128 = 0 →
      s'.spaceFail s'.turn.1 ((x : Int), ((x + n : Nat) : Int)) = none →
      (spadCore x = s'.turn.1 → s'.belowBound x = false) → EntryPasses s' u { e with g := c } →
      (derefFail c x n permLoad = none →
        (n = 1024 → e = hEntry .hld r.toNat 0 0 0 0 0 → exec (.hldH r g) s = goesOn 0 (s'.taken u { e with g := c })) ∧
        (n = 8192 → e = hEntry .hld 0 0 0 y.toNat 1 0 → exec (.hldY g y) s = goesOn 0 (s'.taken u { e with g := c }))) ∧
      (derefFail c x n permStore = none →
        (n = 1024 → e = hEntry .hst 0 r.toNat 0 0 0 0 → exec (.hstH r g) s = goesOn 0 (s'.taken u { e with g := c })) ∧
        (n = 8192 → e = hEntry .hst 0 0 0 y.toNat 1 0 → exec (.hstY g y) s = goesOn 0 (s'.taken u { e with g := c }))))) ∧
  ((∀ d a : BitVec 4,
      TakesEntryFor (.vrsum d a) (v2 .vrsum d a) ∧ TakesEntryFor (.vrmax d a) (v2 .vrmax d a) ∧
      TakesEntryFor (.vrmin d a) (v2 .vrmin d a) ∧ TakesEntryFor (.vrargmax d a) (v2 .vrargmax d a) ∧
      TakesEntryFor (.vrsumsq d a) (v2 .vrsumsq d a)) ∧
    (∀ (a b : BitVec 3) (idx : BitVec 5),
      TakesEntryFor (.hham a b) (hEntry .hham 0 a.toNat b.toNat 0 0 0) ∧
      TakesEntryFor (.hpopc a) (hEntry .hpopc 0 a.toNat 0 0 0 0) ∧
      TakesEntryFor (fun g => .hgetb a g idx) (hEntry .hgetb 0 a.toNat (idx.toNat % 8) 0 (idx.toNat / 8) 0)) ∧
    (∀ (s s' : State) (t u : Strand) (a : BitVec 4) (b : BitVec 3) (g : BitVec 6) (e : VEntry), Turn s t →
      EntryFree (s.settled t) (t.settle s.now) → s'.cur = some u →
      (e = { VEntry.of .hsrch a.toNat 0 0 with hb := b.toNat, gd := g.toNat } → Reads s [] [g, g + 1#6] [] s' →
        EntryPasses s' u e → exec (.hsrch a b g) s = goesOn 0 (((s'.taken u e).awaiting g).awaiting (g + 1#6))) ∧
      (e = { VEntry.of .hsrchk a.toNat 0 0 with hb := b.toNat, gd := g.toNat } →
        Reads s [] [g, g + 1#6, g + 2#6, g + 3#6] [] s' → EntryPasses s' u e → exec (.hsrchk a b g) s = goesOn 0
          (((((s'.taken u e).awaiting g).awaiting (g + 1#6)).awaiting (g + 2#6)).awaiting (g + 3#6))) ∧
      (∀ (d : BitVec 4) (v : TV), e = { VEntry.of .hsrcht a.toNat 0 d.toNat with hb := b.toNat, gd := g.toNat, g := v } →
        Reads s [g] [g] [v] s' → EntryPasses s' u e → exec (.hsrcht d a b g) s = goesOn 0 ((s'.taken u e).awaiting g))))

/-- R30, R177 to R180: what the element operations compute on integer elements: wrapped, or clamped to the type with the
saturation flag under `k`; the bitwise forms and the shifts at every width, `vsat`, the masks of the comparisons, the copies and
`viota`.
R240 to R245: what the register operations of the hypervector unit do: exclusive or, complement, copy, rotation towards higher
indices, bundling with counters clamped to 8 bits, the sign of each counter under every tie rule (R243), the Hamming distance,
the count of ones, one word, and clearing. -/
def Obligations.IntegerElementAndHypervectorOperationsComputeTheirResults : Prop :=
  ((∀ (w : Nat) (sg k : Bool) (rm : RMode) (a b d : Nat), 0 < w →
      (∀ v : Int, (narrowInt sg w false v) = ((v % 2 ^ w).toNat, 0#5) ∧
        (intMin sg w ≤ v → v ≤ intMax sg w → narrowInt sg w true v = ((v % 2 ^ w).toNat, 0#5)) ∧
        (v < intMin sg w → narrowInt sg w true v = ((intMin sg w % 2 ^ w).toNat, flSaturation)) ∧
        (intMax sg w < v → narrowInt sg w true v = ((intMax sg w % 2 ^ w).toNat, flSaturation))) ∧
      arith .vadd (.int sg w) k rm 0 a b d = narrowInt sg w k (intOf sg w a + intOf sg w b) ∧
      arith .vsub (.int sg w) k rm 0 a b d = narrowInt sg w k (intOf sg w a - intOf sg w b) ∧
      arith .vmul (.int sg w) k rm 0 a b d = narrowInt sg w k (intOf sg w a * intOf sg w b) ∧
      arith .vfma (.int sg w) k rm 0 a b d = narrowInt sg w k (intOf sg w a * intOf sg w b + intOf sg w d) ∧
      signOp true (.int sg w) k a = narrowInt sg w k (-(intOf sg w a)) ∧
      signOp false (.int sg w) k a = narrowInt sg w k (intOf sg w a).natAbs) ∧
    (∀ (sg : Bool) (w a b : Nat), 0 < w → a < 2 ^ w → b < 2 ^ w →
      intOf sg w (minMax false (.int sg w) a b).1 = min (intOf sg w a) (intOf sg w b) ∧
      intOf sg w (minMax true (.int sg w) a b).1 = max (intOf sg w a) (intOf sg w b) ∧
      relation .vcmpEq (.int sg w) a b = (decide (intOf sg w a = intOf sg w b), 0#5) ∧
      relation .vcmpLt (.int sg w) a b = (decide (intOf sg w a < intOf sg w b), 0#5) ∧
      relation .vcmpLe (.int sg w) a b = (decide (intOf sg w a ≤ intOf sg w b), 0#5) ∧
      (∀ g p, p = g % 64 → (p = 0 ∨ w ≤ p → satOp sg w a g = (a, 0#5)) ∧
        (p ≠ 0 → p < w →
          intOf sg w (satOp sg w a g).1 = max (intMin sg p) (min (intMax sg p) (intOf sg w a)) ∧
          ((satOp sg w a g).2 = flSaturation ↔ intOf sg w a < intMin sg p ∨ intMax sg p < intOf sg w a)))) ∧
    (∀ (w : Nat) (a b : BitVec w), 0 < w →
      bitOp .vand w a.toNat b.toNat = (a &&& b).toNat ∧ bitOp .vor w a.toNat b.toNat = (a ||| b).toNat ∧
      bitOp .vxor w a.toNat b.toNat = (a ^^^ b).toNat ∧
      bitOp .vshl w a.toNat b.toNat = (a <<< (b.toNat % w)).toNat ∧
      bitOp .vshr w a.toNat b.toNat = (a >>> (b.toNat % w)).toNat ∧
      bitOp .vsra w a.toNat b.toNat = (a.sshiftRight (b.toNat % w)).toNat) ∧
    (∀ (e : VEntry) (sg : Bool) (w j a b d : Nat), e.sd.ty = .int sg w → a < 2 ^ w →
      (e.op = .vcmpEq → e.elemResult j a b d = ((if intOf sg w a = intOf sg w b then 2 ^ w - 1 else 0), 0#5)) ∧
      (e.op = .vcmpLt → e.elemResult j a b d = ((if intOf sg w a < intOf sg w b then 2 ^ w - 1 else 0), 0#5)) ∧
      (e.op = .vcmpLe → e.elemResult j a b d = ((if intOf sg w a ≤ intOf sg w b then 2 ^ w - 1 else 0), 0#5)) ∧
      (e.op = .vsel → e.elemResult j a b d = ((if d = 0 then b else a), 0#5)) ∧
      (e.op = .vcopy → e.elemResult j a b d = (a, 0#5)) ∧
      (e.op = .vfill → e.elemResult j a b d = (e.g.bits.toNat % 2 ^ w, 0#5)) ∧
      (e.op = .viota → e.elemResult j a b d = ((e.g.lo.toNat + j) % 2 ^ w, 0#5)))) ∧
  ((∀ (a : BitVec 8192) (r i : Nat), i < 8192 → (hRotate a r).getLsbD ((i + r) % 8192) = a.getLsbD i) ∧
    (∀ (s : State) (k : Nat) (e : VEntry) (t : Strand) (a b : BitVec 8192), s.strand k e.slot = some t → a = t.getH e.ha →
      b = t.getH e.hb →
      (e.op = .hbind → unitRegs k e s = .ok e (s.updStrand k e.slot (·.putH e.hd (a ^^^ b)))) ∧
      (e.op = .hnot → unitRegs k e s = .ok e (s.updStrand k e.slot (·.putH e.hd (~~~a)))) ∧
      (e.op = .hmv → unitRegs k e s = .ok e (s.updStrand k e.slot (·.putH e.hd a))) ∧
      (e.op = .hperm → unitRegs k e s = .ok e (s.updStrand k e.slot (·.putH e.hd (hRotate a e.g.lo.toNat)))) ∧
      (e.op = .hclr → unitRegs k e s = .ok e (s.updStrand k e.slot (fun u =>
        if e.mode = 0 then u.putH e.hd 0#8192 else u.putY e.y 0#65536))) ∧
      (e.op = .hham → unitRegs k e s =
        .ok { e with res := [(((List.range 8192).filter (fun i => a.getLsbD i != b.getLsbD i)).length, 0)] } s) ∧
      (e.op = .hpopc → unitRegs k e s =
        .ok { e with res := [(((List.range 8192).filter (fun i => a.getLsbD i)).length, 0)] } s) ∧
      (e.op = .hgetb → unitRegs k e s = .ok { e with res := [((a.extractLsb' (64 * (8 * e.mode + e.hb)) 64).toNat, 0)] } s) ∧
      (e.op = .hbund → ∃ e' y, unitRegs k e s = .ok e' (s.updStrand k e.slot (·.putY e.y y)) ∧
        (∀ i, i < 8192 → (y.extractLsb' (8 * i) 8).toInt = (bundleStep e.mode (signedOf 8 (e.g.lo.toNat % 256))
          ((t.getY e.y).extractLsb' (8 * i) 8).toInt (a.getLsbD i)).1) ∧
        (e'.fl = e.fl ∨ e'.fl = e.fl ||| flSaturation) ∧
        ((∃ i, i < 8192 ∧ (bundleStep e.mode (signedOf 8 (e.g.lo.toNat % 256))
          ((t.getY e.y).extractLsb' (8 * i) 8).toInt (a.getLsbD i)).2 = true) → e'.fl = e.fl ||| flSaturation)) ∧
      (e.op = .hthr → e.tie ≠ 3 → ∃ h n, unitRegs k e s = .ok e n ∧
        n.strand k e.slot = some ((if e.mode = 1 then t.putY e.y 0#65536 else t).putH e.hd h) ∧
        (n.core k).tieSeed = (s.core k).tieSeed ∧
        ∀ i, i < 8192 → h.getLsbD i =
          (let y := ((t.getY e.y).extractLsb' (8 * i) 8).toInt
           if 0 < y then true else if y < 0 then false else if e.tie = 0 then b.getLsbD i else decide (e.tie = 2)))) ∧
    (∀ (mode : Nat) (w y : Int) (bit : Bool), bundleStep mode w y bit =
      (max (-128) (min 127 (y + (if bit then w else if mode = 0 then -w else 0))),
        decide ((y + (if bit then w else if mode = 0 then -w else 0)) < -128 ∨
          127 < (y + (if bit then w else if mode = 0 then -w else 0))))) ∧
    (∀ (tie : Nat) (y : Int) (ys : List Int) (h : Bool) (hs : List Bool) (s : BitVec 64),
      ((y ≠ 0 ∨ tie ≠ 3) → threshold tie (y :: ys) (h :: hs) s =
        ((if 0 < y then true else if y < 0 then false else if tie = 0 then h else decide (tie = 2)) ::
          (threshold tie ys hs s).1, (threshold tie ys hs s).2)) ∧
      (y = 0 → tie = 3 → threshold tie (y :: ys) (h :: hs) s =
        ((tieStep s).1 :: (threshold tie ys hs (tieStep s).2).1, (threshold tie ys hs (tieStep s).2).2)) ∧
      (tieStep s).1 = (s.getLsbD 63 ^^ s.getLsbD 62 ^^ s.getLsbD 60 ^^ s.getLsbD 59) ∧
      (tieStep s).2.getLsbD 0 = (tieStep s).1 ∧ ∀ i, i < 63 → (tieStep s).2.getLsbD (i + 1) = s.getLsbD i))

/-- R188, R189, R172 to R175: `vloop` reserves its body's entries, or skips a body of no passes; `vwait` completes once no
entry of its strand is left; `vfence` marks the entries that later accesses wait for; `vstat` reports; `vcancel` drops the
entries that have not started and leaves the others their current pass. The count that `vcancel` gives, entries
dropped, is the model's reading (log entry 23). -/
def Obligations.SequencerFormsControlEntries : Prop :=
  (∀ (s s' : State) (t0 t : Strand) (a b : BitVec 6) (sc : BitVec 2) (x y : TV) (k n : Nat), Turn s t0 →
    Reads s [a, b] [] [x, y] s' → s'.cur = some t → k = x.lo.toNat % 2 ^ 32 → n = y.lo.toNat % 16 + 1 →
    (k = 0 → exec (.vloop a b sc) s = .next (finish (.jump (setAddr t.pcc ((t.pc.toNat + 4 + 4 * n) % 2 ^ 64))) sc.toNat s')) ∧
    (k ≠ 0 → n ≤ (s'.core s'.turn.1).freeEntries → exec (.vloop a b sc) s =
      goesOn sc.toNat (s'.updStrand s'.turn.1 s'.turn.2 (fun u =>
        { u with loop := some ⟨n, k, y.lo.toNat / 2 ^ 4 % 4, y.lo.toNat / 2 ^ 6 % 2 ^ 16, 0⟩ }))) ∧
    (k ≠ 0 → (s'.core s'.turn.1).freeEntries < n → exec (.vloop a b sc) s = waitsWith .inSlot s s')) ∧
  (∀ (s r : State) (t : Strand) (sc : BitVec 2), Turn s t → r = s.settled t →
    (∀ f, t.seqFail = some f → exec (.vwait sc) s = traps f.1 (BitVec.ofNat 64 f.2) t r ∧
      exec (.vfence sc) s = traps f.1 (BitVec.ofNat 64 f.2) t r) ∧
    (t.seqFail = none →
      (r.hasEntries s.turn.1 s.turn.2 = false → exec (.vwait sc) s = goesOn sc.toNat r) ∧
      (r.hasEntries s.turn.1 s.turn.2 = true → exec (.vwait sc) s = waits .blocking t s) ∧
      exec (.vfence sc) s = goesOn sc.toNat (r.updCore s.turn.1 (fun c =>
        { c with seq := c.seq.map (fun e => if e.slot = s.turn.2 then { e with fenced := true } else e) })))) ∧
  (∀ (s s' : State) (t : Strand) (d : BitVec 6) (sc : BitVec 2), Reads s [] [d] [] s' → s'.cur = some t →
    (exec (.vstat d sc) s = gives sc.toNat d 0 (TV.ofNat
      (((s'.core s'.turn.1).seq.filter (fun e => decide (e.slot = s'.turn.2))).length +
        (s'.core s'.turn.1).freeEntries * 2 ^ 5 +
        (match t.seqFail with | some f => 2 ^ 10 + f.1 % 256 * 2 ^ 16 | none => 0))) s') ∧
    (∀ gone, gone = (s'.core s'.turn.1).seq.filter (fun e => decide (e.slot = s'.turn.2) && e.unstarted) →
      ∃ n, exec (.vcancel d sc) s = gives sc.toNat d 0 (TV.ofNat gone.length) n ∧
        (n.core s'.turn.1).seq = ((s'.core s'.turn.1).seq.filter (fun e =>
          !(decide (e.slot = s'.turn.2) && e.unstarted))).map (fun e => if e.slot = s'.turn.2 then e.lastPass else e) ∧
        n.mem = s'.mem ∧ n.tags = s'.tags))

/-! ### The anvil (R194 to R234) -/

/-- R195 to R199, R204 to R210: the lease instructions: a request, the wait for a grant, the release or withdrawal, the
status word, the map, the epilogue, the drain and the clear of the accumulator, and the tile flags; a core that neither
holds nor asks for the lease traps. That a core of a finial cluster, which has no anvil, asks for no lease, and that a request for
which another strand of the core waits is not withdrawn, are the model's own (log entry 68), as is that a withdrawal leaves the
lease's state (log entry 25). -/
def Obligations.LeaseFormsFollowTheLease : Prop :=
  (∀ (s s' : State) (l : Lease) (n : Nat) (d : BitVec 6) (sc : BitVec 2), Reads s [] [d] [] s' →
    l = (s'.cluster (clusterOf s'.turn.1)).lease → n = slotInCluster s'.turn.1 →
    (l.grantedTo n = true → exec (.mlease d sc) s = gives sc.toNat d 0 (TV.ofNat 1) s') ∧
    (l.grantedTo n = false → hasAnvil s'.turn.1 = true →
      exec (.mlease d sc) s = gives sc.toNat d 0 TV.zero (s'.setLease (clusterOf s'.turn.1) (l.request n))) ∧
    (l.grantedTo n = false → hasAnvil s'.turn.1 = false → exec (.mlease d sc) s = gives sc.toNat d 0 TV.zero s') ∧
    (exec (.mstat d sc) s = gives sc.toNat d 0 (TV.ofNat ((s'.cluster (clusterOf s'.turn.1)).leaseWord n))
        (s'.setLease (clusterOf s'.turn.1) { l with zs := false }))) ∧
  (∀ (s r : State) (t : Strand) (l : Lease) (n : Nat) (sc : BitVec 2), Turn s t → r = s.settled t →
    l = (r.cluster (clusterOf s.turn.1)).lease → n = slotInCluster s.turn.1 →
    (l.grantedTo n = true → exec (.mwait sc) s = goesOn sc.toNat r ∧
      exec (.mrelease sc) s = goesOn sc.toNat (r.setLease (clusterOf s.turn.1) { l with st := .draining })) ∧
    (l.grantedTo n = false → exec (.mrelease sc) s = goesOn sc.toNat (r.setLease (clusterOf s.turn.1)
      (if (r.core s.turn.1).waitsForLease then l else l.withdraw n))) ∧
    (l.grantedTo n = false → (l.awaited n = true ∨ t.waitsIn [.lease] = true) → exec (.mwait sc) s = waits .lease t s) ∧
    (l.grantedTo n = false → l.awaited n = false → t.waitsIn [.lease] = false →
      exec (.mwait sc) s = traps 0x0B ((encode (.mwait sc)).setWidth 64) t r)) ∧
  (∀ (s s' : State) (a b : BitVec 6) (sc : BitVec 2) (m p : TV), Reads s [a, b] [] [m, p] s' → HoldsLease s' →
    (∀ i, i < 16 → m.lo.toNat / 2 ^ (4 * i) % 16 ≤ 8) → p.lo.toNat % 2 ^ 19 % 64 = 0 → p.lo.toNat / 2 ^ 19 % 2 ^ 13 ≠ 0 →
    exec (.mmap a b sc) s = goesOn sc.toNat (s'.setLease (clusterOf s'.turn.1)
      { (s'.cluster (clusterOf s'.turn.1)).lease with map := some (m.lo, p.lo) })) ∧
  (∀ (s s' m : State) (a : BitVec 6) (sc : BitVec 2) (c : TV) (loc : Nat) (e : BitVec 512), Reads s [a] [] [c] s' →
    HoldsLease s' → Clear s' → NoFailure s' → capAddr c % 64 = 0 → Reaches s' c (capAddr c) 64 permLoad false false loc →
    e = BitVec.ofNat 512 (s'.read loc 64) → epiOk e c = true → m = (s'.touch (clusterOf s'.turn.1) loc 64 false).dropRequests s'.curWaiter →
    exec (.mepi a sc) s = goesOn sc.toNat (m.setLease (clusterOf m.turn.1)
      { (m.cluster (clusterOf m.turn.1)).lease with epi := some e, window := epiHasWindow e })) ∧
  (∀ (s s' : State) (a : BitVec 6) (sc : BitVec 2) (x : TV) (l : Lease), Reads s [a] [] [x] s' → HoldsLease s' → AnvilRoom s' →
    l = (s'.cluster (clusterOf s'.turn.1)).lease →
    (∀ m p e, l.map = some (m, p) → l.epi = some e → drainOk m p e l.window = true →
      exec (.mdrain a sc) s = goesOn sc.toNat (s'.accepted { s'.tileCmd with
        kind := .drain, buf := x.lo.toNat % 2, map0 := m, map1 := p, epi := e })) ∧
    (x.lo.toNat % 4 ≠ 0 → exec (.mclear a sc) s =
      goesOn sc.toNat (s'.accepted { s'.tileCmd with kind := .clear, buf := x.lo.toNat % 4 })) ∧
    (x.lo.toNat % 4 = 0 → exec (.mclear a sc) s = goesOn sc.toNat s')) ∧
  (∀ (s s' n : State) (t : Strand) (d a : BitVec 6) (sc : BitVec 2) (x : TV) (c : Cluster), Reads s [a] [d] [x] s' →
    s'.cur = some t →
    (t.granted = none → t.wait = none → HoldsLease s' → c = s'.cluster (clusterOf s'.turn.1) →
      n = s'.updCluster (clusterOf s'.turn.1) (fun c =>
        { c with f0 := c.f0 &&& ~~~(x.lo.extractLsb' 0 3), f1 := c.f1 &&& ~~~(x.lo.extractLsb' 4 3) }) →
      (c.cmds = [] → exec (.mflags d a sc) s = gives sc.toNat d 0 (TV.ofNat (c.f1.toNat * 2 ^ 4 + c.f0.toNat)) n) ∧
      (c.cmds ≠ [] → exec (.mflags d a sc) s = waitsWith (.mflags s'.nextAccess x.lo) s s')) ∧
    (∀ w, t.granted = some w → exec (.mflags d a sc) s = gives sc.toNat d 0 (TV.ofWord w) s')) ∧
  (∀ (s s' : State) (t : Strand) (a : BitVec 6) (sc : BitVec 2) (x : TV) (l : Lease) (n : Nat), Turn s t →
    Reads s [a] [] [x] s' → kfind s'.turn.1 (s'.cluster (clusterOf s'.turn.1)).tileFail = none →
    l = (s'.cluster (clusterOf s'.turn.1)).lease → n = slotInCluster s'.turn.1 → l.grantedTo n = false →
    l.awaited n = false → t.waitsIn [.lease] = false →
    exec (.mdrain a sc) s = traps 0x0B ((encode (.mdrain a sc)).setWidth 64) t s' ∧
    exec (.mclear a sc) s = traps 0x0B ((encode (.mclear a sc)).setWidth 64) t s')

/-- R196, R214, R215: every tile instruction enters a command with its pair, its buffer, copies of its operand shapes and
its count, in the queue of its cluster's anvil, and spends one command of the lease; a full queue holds it back, as R220 says; so
does a pre-emption of its core that waits for the queue to empty, the model's own choice (log entry 68). -/
def Obligations.TileFormsEnterCommands : Prop :=
  TakesTile .mtileF4f4 .f4f4 false ∧ TakesTile .mtileoF4f4 .f4f4 true ∧ TakesTile .mtileF6f6 .f6f6 false ∧
  TakesTile .mtileoF6f6 .f6f6 true ∧ TakesTile .mtileF6f4 .f6f4 false ∧ TakesTile .mtileoF6f4 .f6f4 true ∧
  TakesTile .mtileE4e4 .e4e4 false ∧ TakesTile .mtileoE4e4 .e4e4 true ∧ TakesTile .mtileE5e5 .e5e5 false ∧
  TakesTile .mtileoE5e5 .e5e5 true ∧ TakesTile .mtileI8i8 .i8i8 false ∧ TakesTile .mtileoI8i8 .i8i8 true ∧
  TakesTile .mtileI8t2 .i8t2 false ∧ TakesTile .mtileoI8t2 .i8t2 true ∧ TakesTile .mtileBfbf .bfbf false ∧
  TakesTile .mtileoBfbf .bfbf true ∧
  (∀ (s s' : State) (t : Strand) (a b : BitVec 4) (g : BitVec 6) (k : BitVec 1) (v : TV),
    Reads s [g] [] [v] s' → s'.cur = some t → HoldsLease s' → TileFits t .bfbf a b v.lo.toNat → ¬ AnvilRoom s' →
    exec (.mtileBfbf a b g k) s = waitsWith .inSlot s s')

/-! ### Events of strands and ports (R66, R120 to R130, R150, R253 to R268, R434) -/

/-- R66, R120 to R130, R150, R253, R257, R267, R268, R277, R303, R347, R404, R434: an idle slot takes the record of the best
pointer; a wait past its spin budget suspends its strand; a wait that is over readies its record; one core is pre-empted
and resumes; firmware reads a retained register; a mesh message starts a halted firmware core. The model keeps no order
of arbitration, so that an access that ages changes nothing (R146 gives it a rank; the model's choice, log 12). An outstanding access that
can be performed returns its value or stores its bytes, and one that is refused traps its strand or sets out to; a refusal
that has come back traps its sender. A push or pop that was blocked is performed once it can be; a message is placed in the
channel it names, kept in the inbox while that is full, or refused; the inbox delivers its oldest message that fits. -/
def Obligations.StrandAndPortEventsTakeEffect : Prop :=
  ((∀ (s : State) (k sl loc : Nat) (g : Group) (e : Nat × Nat), sl < 4 → s.strand k sl = none → s.mayTake k = true →
     s.groupOfCluster (clusterOf k) = some g → g.parked = false → k ∈ g.cores → g.best = some e → loc = privLoc g.part e.1 →
     s.linesHeld (clusterOf k) loc 64 true = false → s.recordOk loc g.gid = true →
     ∃ n t, exec (.slotTakesRecord k sl) s = .next n ∧ n.strand k sl = some t ∧
       t.pc.toNat % 2 ^ 57 = s.read loc 8 % 2 ^ 57 ∧ t.sid.toNat = s.read (loc + 8) 8 % 2 ^ 32 ∧ t.gid = g.gid ∧
       t.getG 1 = installed (s.readTagged (loc + 16)) ∧ t.getG 2 = installed (s.readTagged (loc + 32)) ∧
       t.getG 3 = installed (s.readTagged (loc + 48)) ∧ (∀ r, 4 ≤ r → t.getG r = TV.zero) ∧ t.q = [] ∧ t.sh = [] ∧
       t.h = [] ∧ t.y = [] ∧ n.read (loc + 8) 8 / 2 ^ 52 % 16 = 2) ∧
   (∀ (s : State) (k sl p : Nat) (t : Strand) (w : Wait), s.strand k sl = some t → t.wait = some w → w.kind.suspends = true →
     t.granted = none →
     (s.core k).spinBudget.toNat ≠ 0 → w.since + (s.core k).spinBudget.toNat ≤ s.now → (s.core k).frozen = false →
     s.faulting (.strand k sl t.sid) = false → s.waitEnds k w.kind = false → s.recordHeld k t = false →
     s.hasEntries k sl = false → t.busy = [] → t.seqFail = none → t.halfSlot = none → (s.core k).exchanging = false →
     s.partOfCore k = some p →
     ∃ n, exec (.spinBudgetExpiry k sl) s = .next n ∧ n.strand k sl = none ∧
       n.read (s.recordLoc k t) 8 % 2 ^ 57 = t.pc.toNat % 2 ^ 57 ∧ n.read (s.recordLoc k t + 8) 8 / 2 ^ 52 % 16 = 3 ∧
       ∀ g, s.group p t.gid = some g → ∃ g', n.group p t.gid = some g' ∧
         g'.registered = g.registered ++ [(t.record, k, w.kind)]) ∧
   (∀ (s : State) (part addr key k : Nat) (g : Group) (w : WaitKind),
     s.groups.find? (fun e => decide (e.2.part = part) && e.2.registered.any (fun r => decide (r.1 = addr))) = some (key, g) →
     g.registered.find? (fun r => decide (r.1 = addr)) = some (addr, k, w) → (∀ d ∈ g.doms, d.st ≠ .parked) →
     s.linesHeld (clusterOf k) (privLoc part addr) 64 true = false → s.poolHeld part g.gid = false →
     s.waitOver k w = true → exec (.waitReleasePush part addr) s = .next (s.readyRecord part addr)) ∧
   (∀ (s : State) (k : Nat), k < 1280 → (s.core k).frozen = false → s.defersPreempt k = true →
     (s.core k).preempting = false →
     exec (.singleCorePreemption k) s = .next (s.updCore k (fun c => { c with preempting := true }))) ∧
   (∀ (s : State) (k : Nat), k < 1280 → (s.core k).frozen = false → s.defersPreempt k = false →
     ∃ n, exec (.singleCorePreemption k) s = .next n ∧ (n.core k).frozen = true ∧
       (n.core k).inbox = (s.core k).inbox.filter (fun m => (s.pushesAt k).any (fun a => decide (a < m.arrival))) ∧
       (n.core k).gutter = (s.core k).gutter ++ ((s.core k).inbox.filter (fun m =>
         (s.pushesAt k).all (fun a => decide (m.arrival ≤ a)))).map GutterItem.message ∧
       (∀ j, j ≠ k → n.core j = s.core j) ∧
       ((s.cluster (clusterOf k)).lease.grantedTo (slotInCluster k) = true →
         (n.cluster (clusterOf k)).lease = { (s.cluster (clusterOf k)).lease with left := .granted, st := .revoked })) ∧
   (∀ (s : State) (k : Nat), (s.core k).frozen = true → s.heldCore k = false →
     exec (.coreResume k) s = .next (((s.updCore k (fun c => { c with frozen := false })).updCluster (clusterOf k) (fun cl =>
       if cl.lease.holder = some (slotInCluster k) ∧ cl.lease.st = .revoked then
         { cl with lease := { cl.lease with st := cl.lease.left } } else cl)).drainGutter k)) ∧
   (∀ (s : State) (k sl r : Nat) (t : Strand), s.strand k sl = some t → s.firmwareRuns (coreDie k) = true → exec (.retainedRegisterRead k sl r) s =
     .next { s with out := s.out ++ [.retained k sl r ((t.settle s.now).retained r) (s.now + 40)] }) ∧
   (∀ (s : State) (k : Nat), isFinial k = true → (s.core k).halted = true →
     exec (.meshInterruptMessage k) s = .next (s.updCore k (fun c => { c with halted := false }))) ∧
   (∀ (s : State) (k : Nat), exec (.accessAged k) s = .next s)) ∧
  ((∀ (s m : State) (n : Nat) (a : Access), kfind n s.accesses = some a →
     (s.gateStops a = false → s.mayPerform n a = true →
       (a.kind.posted = false → a.kind ≠ .prefetch → m = (s.performAt a).2.2.dropAccess n →
         (m.slotOf a.src = none → exec (.loadDataReturn n) s = .next m) ∧
         (∀ k sl u, m.slotOf a.src = some (k, sl) → a.kind.dest < 56 → m.strand k sl = some u →
           exec (.loadDataReturn n) s = .next ((m.setStrand k sl
             { (u.orFlags (s.performAt a).2.1) with busy := u.busy.erase a.kind.dest }).updStrand k sl
               (·.putG a.kind.dest (s.performAt a).1))) ∧
         (∀ k sl d u, a.kind = .shpLoad d → m.slotOf a.src = some (k, sl) → m.strand k sl = some u →
           exec (.loadDataReturn n) s = .next ((m.setStrand k sl
             { (u.orFlags (s.performAt a).2.1) with busy := u.busy.erase (64 + d) }).updStrand k sl
               (·.putSh d ⟨BitVec.ofNat 512 (s.read a.phys 64), false⟩)))) ∧
       (∀ size v, a.kind = .store size v → exec (.postedStorePerformed n) s = .next
         (((s.touch (clusterOf a.core) a.phys size true).write a.phys (natBytes size v.toNat)).dropAccess n))) ∧
     (∀ c, a.phase = .refused c →
       (a.kind.posted = false → a.kind ≠ .prefetch → s.clusterRuns (clusterOf a.core) = true → exec (.loadDataReturn n) s =
         .next ((s.dropAccess n).senderFaults a.src c (BitVec.ofNat 64 a.addr))) ∧
       (a.kind.posted = true → exec (.postedStorePerformed n) s =
         .next ((s.dropAccess n).refuse a.src c (BitVec.ofNat 64 a.addr)))) ∧
     (s.gateStops a = true → s.oldestOfPage n a = true → a.kind.posted = true → exec (.postedStorePerformed n) s =
       .next ((s.dropAccess n).refuse a.src 0x10 (BitVec.ofNat 64 a.addr))) ∧
     (∀ size sg d, a.kind = .load size sg d → size ≠ 16 → (s.performAt a).1 = extendBytes size sg (s.read a.phys size))) ∧
   (∀ (s : State) (n : Nat) (r : Refusal150), kfind n s.refusals = some r → s.clusterRuns (clusterOf r.src.core) = true →
     exec (.refusalReturn n) s =
     .next ({ s with refusals := kdel n s.refusals }.senderFaults r.src r.cause r.val))) ∧
  ((∀ (s n : State) (k sl : Nat) (t : Strand) (p : PendPush), s.strand k sl = some t → t.pendPush = some p →
     ((s.core k).frozen = false ∨ p.arrival ≠ none) → s.clusterRuns (clusterOf k) = true →
     (p.slot = [] → s.pushReleased k sl p.q (p.arrival.getD s.nextAccess) p.val = some n →
       exec (.channelPushAtPort k sl) s = .next (n.updStrand k sl (fun u =>
         { u with pendPush := none, nextIssue := max u.nextIssue (s.now + 1 + p.sc) }))) ∧
     (p.slot ≠ [] → s.putSlot k sl p.q (p.arrival.getD s.nextAccess) p.slot = some n →
       exec (.channelPushAtPort k sl) s = .next (n.updStrand k sl (fun u =>
         { u with pendPush := none, nextIssue := max u.nextIssue (s.now + 1 + p.sc) })))) ∧
   (∀ (s n : State) (k sl q since tried idle : Nat) (t : Strand) (v : TV), s.strand k sl = some t →
     t.wait = some ⟨.pop q, since, tried, idle⟩ → (s.core k).frozen = false → s.clusterRuns (clusterOf k) = true →
     s.queueHeld k sl [q] = false → s.popAt k sl q = some (v, n) →
     exec (.channelPopAtPort k sl) s = .next (n.updStrand k sl (fun u =>
       { u with popped := u.popped ++ [v], wait := some ⟨.inSlot, since, tried, idle⟩ }))) ∧
   (∀ (s : State) (n e : Nat) (f : Flight) (v : BitVec 128), kfind n s.flights = some f → f.kind = .message e v →
     s.firstOfPair n f = true → s.standsStill f = false →
     (∀ c, s.messageRefusal f.src.core f.dst = some c →
       exec (.messageAtPort n) s = .next ((s.dropFlight n).refuse f.src c f.addr)) ∧
     (s.messageRefusal f.src.core f.dst = none → (s.core f.dst).frozen = true → s.gutterRoom f.dst 16 = true →
       s.frontOfPort f.dst s.nextAccess = true → exec (.messageAtPort n) s = .next ((s.dropFlight n).updCore f.dst (fun c =>
         { c with gutter := c.gutter ++ [.message ⟨e, v, f.src, f.addr, none, s.nextAccess⟩] }))) ∧
     (s.messageRefusal f.src.core f.dst = none → (s.core f.dst).frozen = false →
       (s.chan f.dst e = none → exec (.messageAtPort n) s = .next ((s.dropFlight n).refuse f.src 0x14 f.addr)) ∧
       (∀ c, s.chan f.dst e = some c → s.portTurn f.dst e s.nextAccess = true → c.free ≠ 0 →
         exec (.messageAtPort n) s = .next (((s.setChan f.dst e (c.reserve.fill c.tail)).write (c.partLoc f.dst c.tail 0)
           (natBytes 16 v.toNat ++ List.replicate (c.size - 16) 0#8)).dropFlight n)) ∧
       (∀ c, s.chan f.dst e = some c → c.free = 0 → (s.core f.dst).inbox.length < 16 → exec (.messageAtPort n) s =
         .next { (s.dropFlight n).updCore f.dst (fun x =>
           { x with inbox := x.inbox ++ [⟨e, v, f.src, f.addr, none, s.nextAccess⟩] }) with
           nextAccess := s.nextAccess + 1 }))) ∧
   (∀ (s : State) (k : Nat) (m : Message) (r : List Message) (c : Chan), (s.core k).frozen = false →
     s.clusterRuns (clusterOf k) = true → (s.core k).inbox = m :: r → m.engine = none → s.portTurn k m.entry m.arrival = true →
     s.chan k m.entry = some c → c.free ≠ 0 → exec (.inboxDelivery k) s = .next (((s.setChan k m.entry (c.reserve.fill c.tail)).write
       (c.partLoc k c.tail 0) (natBytes 16 m.val.toNat ++ List.replicate (c.size - 16) 0#8)).updCore k
         (fun x => { x with inbox := r }))))

/-! ### Events of the datapaths (R171 to R174, R188, R196 to R199, R216 to R231) -/

/-- R171 to R174, R188, R196 to R199, R216 to R221: the sequencer entry that runs performs what it can; the head completes
with its results and flags, and leaves the queue; a failure discards the strand's entries and is recorded; a later pass
starts once its checks pass. The lease is granted to the next slot that asks, expires with its budget, and frees when its
holder's commands are done; a tile command fetches its blocks, accumulates them, drains, completes, or fails. A failure stands
for its core, and fails the cluster's kernel, where that runs, if no anvil instruction of the core takes it first: this order
is the model's reading, log 26 (R221 fails the kernel whether or not any strand issues). -/
def Obligations.DatapathEventsRunCommands : Prop :=
  (∀ (s : State) (k : Nat), s.clusterRuns (clusterOf k) = true → (s.core k).frozen = false →
     (∀ e, (s.core k).runningEntry = some e → s.entryBad k e = none →
       (e.pass < e.passes → (e.pass = 0 ∨ e.started = true) → e.retry ≤ s.now → s.olderDone k e = true →
         exec (.vectorEntryExecute k) s = .next ((runEntry k e s).2.updCore k (·.setEntry (runEntry k e s).1))) ∧
       (∀ t, e.pass < e.passes → e.pass ≠ 0 → e.started = false → s.strand k e.slot = some t →
         (s.entryFail k t e = none → exec (.vloopPassStart k) s =
           .next ((startPass k e s).2.updCore k (·.setEntry (startPass k e s).1))) ∧
         (∀ f, s.entryFail k t e = some f →
           exec (.vloopPassStart k) s = .next (s.updCore k (·.setEntry { e with bad := some f }))))) ∧
     (∀ e r, (s.core k).seq = e :: r → e.held = false → e.passes ≤ e.pass → s.entryBad k e = none → e.gd < 56 →
       ∃ n, exec (.vectorEntryComplete k) s = .next n ∧
         (n.core k).seq = (s.core k).seq.filter (fun x => decide (x.id ≠ e.id)) ∧
         ∀ t, s.strand k e.slot = some t → n.strand k e.slot =
           some ((e.results.foldl (fun (u : Strand) p => u.deliver p.1 p.2) t).orFlags e.fl)) ∧
     (∀ e c a, (s.core k).runningEntry = some e → s.entryBad k e = some (c, a) → s.headFirst k e = false →
       ∃ n, exec (.vectorEntryFailure k c a) s = .next n ∧
         (n.core k).seq = (s.core k).seq.filter (fun x => decide (x.slot ≠ e.slot)) ∧
         ∀ t, s.strand k e.slot = some t → ∃ u, n.strand k e.slot = some u ∧
           u.seqFail = (match t.seqFail with | some f => some f | none => some (c, a)))) ∧
  (∀ (s : State) (cl : Nat) (c : Cluster) (l : Lease), s.clusterRuns cl = true → c = s.cluster cl → l = c.lease →
     (∀ n, cl < 160 → l.st = .requested → c.cmds = [] → l.nextSlot = some n → exec (.leaseGrant cl) s = .next (s.setLease cl
       { l with st := .granted, holder := some n, last := n, reqs := l.reqs &&& ~~~(BitVec.ofNat 8 (2 ^ n)),
                ncmd := 64, ncyc := 65536 })) ∧
     (l.st = .granted → (l.ncmd = 0 ∨ l.ncyc = 0) → exec (.leaseBudgetExpiry cl) s = .next (s.setLease cl l.budgetEnd)) ∧
     ((l.st = .expiring ∨ l.st = .draining) → c.cmds = [] → exec (.leaseHolderDrained cl) s = .next (s.setLease cl
       { l with holder := none, st := if l.reqs = 0#8 then .free else .requested })) ∧
     (∀ m r p ovw, c.cmds = m :: r → m.kind = .mtile p ovw → s.cmdBad m = none →
       (∀ locs, m.fetched < m.k / 32 → m.fetched < m.done + 2 → m.retry ≤ s.now → s.strandDone m.src m.id = true →
         s.fencedBefore m.src m.id = false → s.awaits (.tile m.id) = false →
         s.engineRanges (.tile m.id) cl m.src.core false [] (m.blockRanges m.fetched) [] = .all locs →
         exec (.tileBlockFetch cl) s = .next (((s.dropRequests (.tile m.id)).touchAll cl locs false).setHead cl { m with
           pinned := m.pinned ++ [s.readBlockAt m locs], fetched := m.fetched + 1 })) ∧
       (∀ blk rest x, m.pinned = blk :: rest →
         x = tileBlock p m.sa.ty m.sb.ty (ovw && decide (m.done = 0)) blk (c.acc m.buf) →
         exec (.tileBlockDone cl) s = .next ((s.updCluster cl (fun c => c.setAcc m.buf x.1)).setHead cl { m with
           pinned := rest, done := m.done + 1, tf := m.tf ||| x.2 })) ∧
       (m.done = m.k / 32 → exec (.tileCommandComplete cl) s =
         .next (s.popCmd cl (c.orTileFlags m.buf m.tf)))) ∧
     (∀ m r, c.cmds = m :: r → m.kind = .clear → s.cmdBad m = none → exec (.tileCommandComplete cl) s =
       .next (s.popCmd cl { c with
         acc0 := if m.buf % 2 = 1 then [] else c.acc0, acc1 := if m.buf / 2 % 2 = 1 then [] else c.acc1 })) ∧
     ((∀ k ∈ coresOfCluster cl, ∀ e ∈ (s.core k).slots, ∀ n w, e.2.wait.map (·.kind) ≠ some (.mflags n w)) →
       ∀ c2 : Cluster, s.popCmd cl c2 = s.setCluster cl { c2 with cmds := c2.cmds.tail }) ∧
     (∀ m r f a, c.cmds = m :: r → s.cmdBad m = some (f, a) → (∀ x ∈ c.tileFail, x.2 ≠ (f, a)) →
       ∃ c2, exec (.tileCommandFailure cl f a) s = .next ({ s.setCluster cl c2 with
         engineFails := s.engineFails.filter (fun g => decide (g.1 ≠ Waiter.tile m.id)) }.dropEnded s) ∧
         c2.cmds = [] ∧ kfind m.src.core c2.tileFail = some (f, a) ∧
         (∀ p ovw, m.kind = .mtile p ovw → c2.acc m.buf = [])) ∧
     (∀ k f a g, (k, (f, a)) ∈ c.tileFail → s.groupOfCluster cl = some g →
       (s.kernel g.kernel).map (·.st) = some .running →
       exec (.tileCommandFailure cl f a) s = .next (s.endKernel g.kernel f (some g.stage) (BitVec.ofNat 64 a))) ∧
     (∀ m r locs, c.cmds = m :: r → m.kind = .drain → s.cmdBad m = none →
       (m.started = false → m.retry ≤ s.now → s.strandDone m.src m.id = true → s.awaits (.tile m.id) = false →
         (epiField m.epi 0 4 1 = 1 → s.belowBound (biasLoc m).1 = false) →
         s.engineRanges (.tile m.id) cl m.src.core true [] (memRanges m) [] = .all locs →
         ∃ n, exec (.drainStart cl) s = .next n ∧ (n.cluster cl).cmds = { m with
           started := true, bias := s.readBias m, tf := (if m.buf = 0 then c.f0 else c.f1), rowsAt := locs } :: r) ∧
       (∀ d row a, m.started = true → m.row < 128 → d = mapDst m.map0 (m.row / 8) → d ≠ 8 →
         row = epiRowBytes m.epi m.bias ((List.range 128).map (fun j => kget 0#32 (128 * m.row + j) (c.acc m.buf))) →
         a = spadBase (coreOfSlot cl d) + mapBase m.map1 + rowsBefore m.map0 d m.row * mapPitch m.map1 →
         s.belowBound a = false →
         ∃ n m1, exec (.drainRowWrite cl) s = .next n ∧ n.mem = (s.write a row.1).mem ∧ (n.cluster cl).cmds = m1 :: r ∧
           m1.row = m.row + 1)))

/-! ### Copies and coherence (R270 to R276, R289, R290, R293, R300, R438) -/

/-- R270 to R276, R289, R290, R293, R294, R300, R438: the engine performs the command at its head, by its operation: it
starts, or moves its next row; a command that is done places its segment slot, posts its status and leaves. What a snoop
makes of a cached sector, an eviction, the host's answer, the end of an engine's ownership; a monitor and a fabric window
let their strand try again. -/
def Obligations.CopyAndCoherenceEventsMoveData : Prop :=
  (∀ (s : State) (cl : Nat) (c : CopyCmd) (r : List CopyCmd), (s.cluster cl).copies = c :: r → s.clusterRuns cl = true →
     (c.status = none → c.retry ≤ s.now → s.strandDone c.src c.id = true → s.awaits (.copy c.id) = false →
       s.copyBad c = none →
       ∀ i n, (i, n) ∈ [(Instr.copyPut cl, 0), (.copyGet cl, 1), (.copyStridedPut cl, 2), (.copyStridedGet cl, 3),
           (.copyReducePut cl, 4), (.copySegmentPut cl, 5), (.copySegmentReduce cl, 6)] → c.cop = n →
         (c.started = false → ∀ f, c.checkFail = some f → exec i s = .next (s.endCopy cl c f.1 f.2)) ∧
         (c.started = false → c.checkFail = none → (c.gets = true ∨ capAddr c.remote / 2 ^ 60 = 8) →
           exec i s = .next (s.setCopy cl { c with started := true })) ∧
         (c.started = true → exec i s = .next (s.stepCopy cl c))) ∧
     (∀ la locs, c.started = true → s.belowBound la = false → la = spadBase c.src.core + (c.localRow c.row % 2 ^ 19).toNat →
       2 ^ 63 ≤ (c.remoteRow c.row % 2 ^ 64).toNat → kfind c.row c.rowsAt = none →
       s.copyRow cl c [] (c.pieces c.row) [] = .all [(0, locs)] →
       (∀ p ∈ locs, isPartner p.1 = false) → c.reduces = false →
       s.stepCopy cl c = (if c.gets then s.moveBytes cl c.keepTags locs [(la, c.len)]
         else s.moveBytes cl c.keepTags [(la, c.len)] locs).rowDone cl c c.len 0#5) ∧
     (∀ f, c.status = some f →
       (∀ n, c.seg = true → s.placeSegment cl c = some n → exec (.copyCommandComplete cl) s = .next n) ∧
       (c.seg = false → (s.core c.src.core).frozen = false → (s.core c.src.core).gutter.any (·.isStatus) = false →
         (f.1 = 0 → c.quiet = true →
           exec (.copyCommandComplete cl) s = .next (s.updCluster cl (fun x => { x with copies := x.copies.drop 1 }))) ∧
         (¬ (f.1 = 0 ∧ c.quiet = true) →
           (kget [] (slotInCluster c.src.core) (s.cluster cl).status).length < 16 →
           ∃ n, exec (.copyCommandComplete cl) s = .next n ∧ exec (.statusPortRoom cl) s = .next n ∧
             (n.cluster cl).copies = r ∧ kget [] (slotInCluster c.src.core) (n.cluster cl).status =
               kget [] (slotInCluster c.src.core) (s.cluster cl).status ++ [BitVec.ofNat 128 (c.statusWord f.1 f.2)])))) ∧
  ((∀ (s : State) (a x : Nat) (q : Moesi), q = s.sectorIn x a → q ≠ .i → s.snoopHeld a x = false →
     (a ≠ hostCache → exec (.readSnoop a x) s = .next (s.setSector x a q.readSnoop) ∧
       exec (.ownershipSnoop a x) s = .next (s.giveUp x a)) ∧
     (a = hostCache → s.flash.hfen = false →
       exec (.readSnoop a x) s = .next ({ s with snoops := kset x false s.snoops }.send (.snoop (s.portOf (x * 64)) x false)) ∧
       exec (.ownershipSnoop a x) s = .next ({ s with snoops := kset x true s.snoops }.send (.snoop (s.portOf (x * 64)) x true))) ∧
     exec (.sectorEviction a x) s = .next (s.giveUp x a)) ∧
   (Moesi.m.readSnoop = .o ∧ Moesi.o.readSnoop = .o ∧ Moesi.e.readSnoop = .s ∧ Moesi.s.readSnoop = .s) ∧
   (∀ (s : State) (x a : Nat), (s.giveUp x a).sectorIn x a = .i ∧ (s.giveUp x a).mem = s.mem) ∧
   (∀ (s : State) (x : Nat) (own : Bool), kfind x s.snoops = some own → ∃ n, exec (.hostSnoopResponse x) s = .next n ∧
     n.snoops = kdel x s.snoops ∧
     n.sectorIn x hostCache = (if own then .i else (s.sectorIn x hostCache).readSnoop)) ∧
   (∀ (s : State) (cl x : Nat), x ∈ (s.cluster cl).owned → x ∉ rowSectors (s.cluster cl).rowsLeft →
     exec (.engineSectorFinish cl x) s = .next (s.updCluster cl (fun c => { c with owned := sdel x c.owned }))) ∧
   (∀ (s : State) (k sl : Nat) (t : Strand) (w : Wait), s.strand k sl = some t → t.wait = some w →
     ((∃ x n e b, w.kind = .waitv x n e b) → exec (.monitorFire k sl) s =
       .next (s.setStrand k sl { t with wait := some { w with tried := 0 } })) ∧
     (w.kind = .fenceWin → s.fabricPending k sl = false → exec (.fabricWindowReached k sl) s =
       .next (s.setStrand k sl { t with wait := some { w with tried := 0 }, fabWindow := none }))))

/-! ### Groups, exchange, events (R307 to R334) -/

/-- R307 to R317, R320, R327, R329, R334, R368, R369, R414: a domain whose cores have all arrived completes its superstep, or
stays in *boundary* while an action is pending; a phase opens, moves its beats and closes, its late beats going on; a core's
`xget` takes the bytes of the one beat that reaches it whole, as its sender's scratchpad held them when it was sent, and
undefined ones where beats collided. Waits time out; an episode of the barrier wires completes; events reach their inboxes or
are held at their sender. That a pending switch is done before a move, that a move is pending where R368 allows one, and that
the groups go on after it, is the model's reading, log 38. -/
def Obligations.GroupEventsAdvanceDomains : Prop :=
  (∀ (s : State) (p lv v : Nat) (g : Group), s.groupToSync p lv v = some g →
    ((lv < 2 ∨ s.actionPending p = false) → exec (.syncComplete p lv v) s = .next (s.completeDom g lv v)) ∧
    (∀ h, 2 ≤ lv → s.actionPending p = true → s.group p g.gid = some h →
      ∃ n, exec (.syncComplete p lv v) s = .next n ∧ n.cores = s.cores ∧
        n.group p g.gid = some (h.updDom lv v (fun d => { d with st := .boundary })))) ∧
  (∀ (s : State) (p lv v key : Nat) (g : Group) (d : Domain), (key, g) ∈ s.groups → g.part = p → g.parked = false →
    g.dom lv v = some d → s.syncReady g d = true → s.domWaits g lv v = true → (s.groupToSync p lv v).isSome = true) ∧
  (∀ (s : State) (p lv v : Nat) (g : Group) (d : Domain), s.groupOfDom p lv v = some (g, d) →
    (d.st = .exchanging → (∀ k ∈ s.domainCores g lv v, k ∈ d.done) → s.group p g.gid = some g →
      ∃ n h, exec (.exchangeClose p lv v) s = .next n ∧ n.cores = s.cores ∧ n.group p g.gid = some h ∧
        h.dom lv v = some { d with st := .computing, offset := 0, beats := [], event := none, done := [] } ∧
        n.stray = s.stray ++ d.beats.map (fun b => { b with sent := d.t0 + b.sent })) ∧
    (d.st = .computing → s.domainCores g lv v ≠ [] →
      (∀ k ∈ s.domainCores g lv v, ∃ e ∈ (s.core k).slots, e.2.waitsFor (.xstart lv) = true) →
      ∃ n, exec (.exchangeOpen p lv v) s = .next n ∧ ∀ k ∈ s.domainCores g lv v, ∃ x, (n.core k).phase = some x ∧
        x.level = lv ∧ x.t0 = s.now ∧ x.mon = (s.core k).xmon.extractLsb' 0 2) ∧
    (d.st = .exchanging → d.t0 + d.offset ≤ s.now →
      (s.group p g.gid = some g → ∃ n h x, exec (.exchangeBeat p lv v) s = .next n ∧ n.group p g.gid = some h ∧
        h.dom lv v = some x ∧ x.offset = d.offset + 1) ∧
      (∀ cores, cores = s.domainCores g lv v → cores.Nodup → (∀ j ∈ cores, j < 1280) →
        (∀ j ∈ cores, ∀ x ∈ (s.core j).transfers, x.off + 32 * x.n ≤ 2 ^ 19) →
        (∀ k ∈ cores, ∀ t, (s.core k).beatAt lv true d.offset = some t → ⟨k, t.partner, d.offset, BitVec.ofNat 256
          (s.read (spadBase k + t.off + 32 * (d.offset - t.start)) 32), false⟩ ∈ s.sends lv cores d.offset) ∧
        ((∀ b ∈ d.beats ++ s.sends lv cores d.offset, b.bad = false ∧ s.beatPasses b (hops b.src b.dst) = true) →
          (s.linksUsed (d.t0 + d.offset)).Nodup → s.stray = [] →
          ∃ n, exec (.exchangeBeat p lv v) s = .next n ∧ ∀ k ∈ cores, ∀ t, (s.core k).beatAt lv false d.offset = some t →
            (∀ b, arrivalsAt (d.beats ++ s.sends lv cores d.offset) d.offset k = [b] →
              n.read (spadBase k + t.off + 32 * (d.offset - t.start)) 32 = b.data.toNat) ∧
            (2 ≤ (arrivalsAt (d.beats ++ s.sends lv cores d.offset) d.offset k).length →
              ∃ i, n.read (spadBase k + t.off + 32 * (d.offset - t.start)) 32 = (Config.freeBeat i).toNat))))) ∧
  (∀ (s : State) (cl : Nat) (g : Group) (kn : Kernel) (st : Stage), (s.cluster cl).loading = true →
    s.groupOfCluster cl = some g → s.kernel g.kernel = some kn → kn.stages[g.stage]? = some st → g.held = false →
    (kn.st = .running ∨ kn.st = .draining) →
    ((s.cluster cl).resident = some (kn.image g.stage) →
      exec (.movedImageCopy cl) s = .next (s.placeImage (kn.image g.stage) st.desc [] cl)) ∧
    (∀ l, (s.cluster cl).resident ≠ some (kn.image g.stage) →
      s.reach kn.vf kn.pasid kn.part false (.kernel g.kernel) (sImg st.desc) (sIsz st.desc) = .locs l →
      exec (.movedImageCopy cl) s = .next (((l.foldl (fun (u : State) p => u.touch ridgeCluster p.1 p.2 false) s).clearFails
        (.kernel g.kernel)).placeImage (kn.image g.stage) st.desc (s.bytesAt l) cl))) ∧
  (∀ (s : State) (p : Nat) (x : Partition), s.partition p = some x →
    (∀ vf q, x.pending = some (.switch vf q) →
      (s.switchable p vf q = false → exec (.boundaryAction p) s = .next (s.updPartition p (fun p => { p with pending := none }))) ∧
      (s.switchable p vf q = true → (∀ g ∈ s.liveGroups p, g.atBoundary = true) → s.quiet p = true →
        exec (.boundaryAction p) s = .next (s.switchTo p vf q))) ∧
    (∀ c, x.pending = none → x.heldSince = some c →
      (s.moveIn p = none → exec (.boundaryAction p) s = .next (s.releaseHeld p)) ∧
      (∀ n d r cl, s.moveIn p = some (n, d, r, cl) → (∀ g ∈ s.liveGroups p, g.atBoundary = true) →
        exec (.boundaryAction p) s = .next ((s.moveCluster n d r cl).releaseHeld p))) ∧
    (∀ c, x.heldSince = some c → c + s.holdLimit ≤ s.now → exec (.boundaryHoldExpiry p) s = .next (s.releaseHeld p))) ∧
  (∀ (s : State) (k sl v : Nat) (t : Strand) (w : Wait), s.strand k sl = some t → t.wait = some w → w.kind.timed = some v →
    t.granted = none → (s.core k).frozen = false → s.inBoundary k = false → s.waitMet k w.kind = false →
    (s.core k).barTimeout.toNat % 2 ^ 32 ≠ 0 → w.since + w.idle + (s.core k).barTimeout.toNat % 2 ^ 32 * 1024 ≤ s.now →
    exec (.barrierTimeout k sl) s = .next (s.faultStrand k sl 0x0F (BitVec.ofNat 64 v) t.pc.toNat)) ∧
  (∀ (s : State) (die code : Nat), s.wiresJoin die (Rect.ofCode code) = true →
    (∃ k ∈ (Rect.ofCode code).cores die, (s.core k).slots ≠ []) →
    (∀ k ∈ (Rect.ofCode code).cores die, s.raises k code = true) → ((Rect.ofCode code).cores die).Nodup →
    ∃ n, exec (.wireEpisodeComplete die code) s = .next n ∧ ∀ k ∈ (Rect.ofCode code).cores die,
      kget 0#16 (Rect.ofCode code).w (n.core k).episodes = kget 0#16 (Rect.ofCode code).w (s.core k).episodes + 1#16) ∧
  (∀ (s : State) (x l : Nat) (p : Word) (f : Flight), kfind x s.flights = some f → s.standsStill f = false →
    (f.kind = .event l p → s.firstOfPair x f = true →
      (∀ c, s.messageRefusal f.src.core f.dst = some c →
        exec (.eventToInbox x) s = .next ((s.dropFlight x).refuse f.src c f.addr)) ∧
      (s.messageRefusal f.src.core f.dst = none →
        ((s.inboxOf f.dst).length < 16 → (∀ e ∈ (s.core f.src.core).held, e.dst ≠ f.dst) →
          exec (.eventToInbox x) s = .next ((s.dropFlight x).setInbox f.dst (s.inboxOf f.dst ++ [⟨l, p⟩]))) ∧
        ((16 ≤ (s.inboxOf f.dst).length ∨ ∃ e ∈ (s.core f.src.core).held, e.dst = f.dst) → exec (.eventToInbox x) s =
          .next ((s.dropFlight x).updCore f.src.core (fun c => { c with held := c.held ++ [f] }))))) ∧
    (f.kind = .arrival l p → s.firstArrival x f = true → (s.inboxOf f.dst).length < 16 →
      exec (.eventToInbox x) s = .next ((s.dropFlight x).setInbox f.dst (s.inboxOf f.dst ++ [⟨l, p⟩])))) ∧
  (∀ (s : State) (k l : Nat) (p : Word) (f : Flight) (r : List Flight), s.clusterRuns (clusterOf k) = true →
    f.kind = .event l p →
    ((s.core k).held = f :: r →
      (∀ c, s.messageRefusal k f.dst = some c →
        exec (.heldEventPlaced k) s = .next ((s.updCore k (fun c => { c with held := r })).refuse f.src c f.addr)) ∧
      (s.messageRefusal k f.dst = none → (s.inboxOf f.dst).length < 16 → exec (.heldEventPlaced k) s =
        .next ((s.updCore k (fun c => { c with held := r })).setInbox f.dst (s.inboxOf f.dst ++ [⟨l, p⟩])))) ∧
    (∀ a l0 p0, (s.core k).held = a :: f :: r → a.kind = .event l0 p0 → s.messageRefusal k a.dst = none →
      16 ≤ (s.inboxOf a.dst).length → a.dst ≠ f.dst → s.messageRefusal k f.dst = none → (s.inboxOf f.dst).length < 16 →
      exec (.heldEventPlaced k) s =
        .next ((s.updCore k (fun c => { c with held := a :: r })).setInbox f.dst (s.inboxOf f.dst ++ [⟨l, p⟩]))))

/-! ### Translation (R342 to R351) -/

/-- R342 to R351: a completion fills the ATCs, lets the granted access go on and places the denied one in the fault buffer; a
fault is queued as a page request; responses replay or fail what waits; invalidations, replay-all, and the restart of a
stopped page-request interface. An engine's failure keeps the address that failed. -/
def Obligations.TranslationEventsMoveAccesses : Prop :=
  (∀ (s : State) (die vf pasid va pa size perms : Nat) (r : PageRec) (e : AtcEntry), sizeOk size = true →
    s.pageRec die vf pasid (va / 4096) = some r → r.st = .translating →
    e = s.atcEntry vf pasid va pa size (perms.testBit 0) (perms.testBit 1) →
    (s.accesses.map (·.1)).Pairwise (· < ·) →
    ∃ n, exec (.translationCompletion die vf pasid va pa size perms) s = .next n ∧
      (perms % 4 ≠ 0 → e ∈ n.dieAtcOf die) ∧
      (∀ m x w cl a, r.waiters = [⟨.access m, x, w, cl⟩] → kfind m s.accesses = some a →
        (e.grants w = true → e.fabric = false → e.noncoh = false →
          n.pageRec die vf pasid (va / 4096) = none ∧
          kfind m n.accesses = some { a with phase := .ready, phys := e.phys + (a.addr - e.page) }) ∧
        (e.grants w = false → clusterDie cl = die → (s.vf vf).stop = false → (s.cluster cl).faults.length < 8 →
          (∀ f ∈ (s.cluster cl).faults, f.key ≠ ⟨vf, pasid, r.page, w⟩) →
          (n.cluster cl).faults = (s.cluster cl).faults ++ [⟨⟨vf, pasid, r.page, w⟩, [⟨.access m, x, w, cl⟩], false⟩] ∧
          n.pageRec die vf pasid (va / 4096) = some { r with st := .notPresent, waiters := [] }))) ∧
  (∀ (s : State) (cl i j : Nat) (f : FaultEntry), (s.cluster cl).faults[i]? = some f → f.queued = false →
    (s.vf f.key.vf).asked f.key = false → (s.vf f.key.vf).requests.length < min (s.vf f.key.vf).alloc 64 →
    j = freeIndex (s.vf f.key.vf).requests → j < 64 →
    ∃ n, exec (.pageRequestQueue cl i) s = .next n ∧ (n.cluster cl).faults[i]? = some { f with queued := true } ∧
      (n.vf f.key.vf).requests = kset j f.key (s.vf f.key.vf).requests ∧
      n.out = s.out ++ [.pageRequest f.key.vf j f.key.pasid (f.key.page * 4096) f.key.write]) ∧
  (∀ (s : State) (vf idx : Nat) (k : FaultKey), kfind idx (s.vf vf).requests = some k →
    (∃ n, exec (.prgResponseSuccess vf idx) s = .next n ∧ (n.vf vf).requests = kdel idx (s.vf vf).requests ∧
      ∀ w, s.requestWaiters k = [w] → w.addr / 4096 = k.page →
        (s.clearRequest vf idx k).pageRec (clusterDie w.cl) k.vf k.pasid k.page = none →
        n.pageRec (clusterDie w.cl) k.vf k.pasid k.page =
          some ⟨clusterDie w.cl, k.vf, k.pasid, k.page, .translating, [w]⟩) ∧
    (∃ n, exec (.prgResponseInvalidRequest vf idx) s = .next n ∧ (n.vf vf).requests = kdel idx (s.vf vf).requests ∧
      ∀ x ∈ s.requestWaiters k,
        (∀ m a, x.who = .access m → (s.accesses.map (·.1)).Pairwise (· < ·) → kfind m s.accesses = some a →
          kfind m n.accesses = some { a with phase := .refused 0x12 }) ∧
        ((∀ m, x.who ≠ .access m) → (∀ b, x.who ≠ .prefetch b) → (x.who, (0x12, x.addr)) ∈ n.engineFails)) ∧
    (∃ n, exec (.prgResponseFailure vf idx) s = .next n ∧ (n.vf vf).stop = true ∧
      ∀ cl, ∀ f ∈ (n.cluster cl).faults, f.key.vf ≠ vf)) ∧
  (∀ (s : State) (vf : Nat),
    exec (.priControlReset vf) s = .next (s.updVf vf (fun v => { v with stop := false })) ∧
    ∀ val, val % 2 = 1 → s.boot = .running → ∃ n, exec (.pgctlReplay vf val) s = .next n ∧
      ((∀ c ∈ s.clusters, ∀ x ∈ c.2.parked, x.1.vf ≠ vf) → (n.vf vf).drop = false ∧ (n.vf vf).ndrop = 0)) ∧
  (∀ (s : State) (vf pasid va size : Nat), ∃ n, exec (.invalidateRequest vf pasid va size) s = .next n ∧
    (∃ i : Inval, n.invals = s.invals ++ [i] ∧ i.vf = vf ∧ i.pasid = pasid ∧ i.va = va ∧ i.size = size ∧ i.owner = none ∧
      i.gone = s.allAtc.filter (fun x => x.2.meets vf pasid va size) ∧ i.uses = s.usersOf i.gone) ∧
    ∀ x ∈ n.allAtc, x.2.meets vf pasid va size = false) ∧
  (∀ (s : State) (vf pasid va : Nat) (i : Inval),
    s.invals.find? (fun i => decide (i.vf = vf) && decide (i.pasid = pasid) && decide (i.va = va) && i.owner.isNone) = some i →
    (∀ n ∈ s.usersOf i.gone, n ∉ i.uses) →
    ∃ n, exec (.invalidationCompletion vf pasid va) s = .next n ∧ n.invals = s.invals.erase i ∧
      n.out = s.out ++ [.invalidationCompletion vf pasid va])

/-! ### Kernels and queues (R362 to R393) -/

/-- R147, R362 to R367, R381, R476: a declared kernel is placed on free clusters; it loads: the image of a stage stands in the
scratchpad of every core of a cluster that did not hold it, XOBOUND and MEMBER are set, the input entry is open, the records
hold the first pc, the identity, the frame in g1, the argument in g2 and the context's global capability in g3; it drains; it
writes its completion record and ends. -/
def Obligations.KernelEventsRunItsLife : Prop :=
  ∀ (s : State) (i : Nat) (k : Kernel), s.kernel i = some k →
    (∀ cls gids, k.st = .declared → (s.partition k.part).bind (·.resident) = some (k.vf, k.pasid) →
      s.placement k.part (k.stages.map (·.desc)) = some cls → gids = s.freeGids k.part cls.length →
      gids.length = cls.length → cls.length = k.stages.length →
      ∃ n, exec (.kernelPlacement i) s = .next n ∧
        n.kernel i = some { k with st := .loading, ver := 1, stages := (k.stages.zip (cls.zip gids)).map (fun e =>
          { e.1 with clusters := sorted e.2.1, group := some e.2.2 }) } ∧
        ∀ c ∈ cls.flatten, (n.cluster c).loading = true) ∧
    (k.st = .loading → (s.partition k.part).bind (·.resident) = some (k.vf, k.pasid) → s.areasHeld k = false →
      (∀ ls, s.readImages i k 0 k.stages = .inl ls →
        ∃ n, exec (.kernelLoadingComplete i) s = .next n ∧ n.kernel i = some { k with st := .running } ∧
          ∀ g l, k.stages = [g] → ls = [l] → ∃ u : State, u = l.foldl (fun (st : State) p => st.touch ridgeCluster p.1 p.2 false) s ∧
            n = ((u.loadStage i k 0 g (s.bytesAt l)).clearFails (.kernel i)).updKernel i (fun k => { k with st := .running })) ∧
      (∀ (u n : State) (g : Stage) (d : BitVec 512) (gid : Nat) (bytes : List Byte) (grp : Group), d = g.desc → g.group = some gid →
        n = u.loadStage i k 0 g bytes → k.part < 2 ^ 10 → sArea d % 64 = 0 → sArea d + 72 * sNinit d ≤ 2 ^ 47 →
        (∀ cl ∈ g.clusters, cl < 160) → g.clusters.Nodup → bytes.length ≤ 2 ^ 19 → n.group k.part gid = some grp →
        (grp.kernel = i ∧ grp.live = sNinit d ∧ grp.limit = sLim d ∧ grp.ceiling = sCeil d ∧ grp.cores = coresOf g.clusters ∧
          grp.pool = (List.range (sNinit d)).map (fun j => (0x9000000000000000 + sArea d + 64 * j, sPri d)) ∧
          grp.poolAt = poolLoc k.part d ∧ grp.pushes = sNinit d) ∧
        (∀ cl ∈ g.clusters, (n.cluster cl).resident = some (k.image 0) ∧ (n.cluster cl).holder = some gid ∧
          ∀ c ∈ coresOfCluster cl, (n.core c).xobound = BitVec.ofNat 64 (sTop d) ∧
            (n.core c).memberReg = u.memberOf k.part gid c ∧
            (sIon d = true → n.chan c (sIch d) = some { Chan.opened (sIbase d) (16 * 2 ^ sIssz d) (sIcap d) with ends := 0 }) ∧
            ((u.cluster cl).resident ≠ some (k.image 0) → n.readBytes (spadBase c) bytes.length = bytes) ∧
            ((u.cluster cl).resident = some (k.image 0) → n.readBytes (spadBase c) (2 ^ 19) = u.readBytes (spadBase c) (2 ^ 19))) ∧
        ∀ j loc, j < sNinit d → loc = privBase k.part + sArea d + 64 * j →
          n.read loc 8 = (spadBase (((coresOf g.clusters).head?).getD 0) + sEntry d) % 2 ^ 57 ∧
          n.read (loc + 8) 8 = recordWord1 j gid (sPri d) 1 0 0 ∧
          n.readTagged (loc + 16) = frameCap d (coresOf g.clusters) j ∧
          n.readTagged (loc + 32) = (argCap k.arg.toNat k.argLen).getD TV.zero ∧
          n.readTagged (loc + 48) = ((u.context k.vf k.pasid).map (·.global)).getD TV.zero) ∧
      (∀ j c a, s.readImages i k 0 k.stages = .inr (j, .fail c a) → exec (.kernelLoadingComplete i) s =
        .next ((s.clearFails (.kernel i)).endKernel i c (some j) (BitVec.ofNat 64 a)))) ∧
    (k.st = .draining → k.drained = false → s.kernelResident k = true → (∀ g ∈ k.stages, s.groupBusy k.part (g.group.getD 0) = false) →
      ((∀ g ∈ k.stages, s.inputHeld g = false) → exec (.kernelDrained i) s = .next (if k.comp = 0 then s.endKernel i 0 none 0#64
        else s.updKernel i (fun x => { x with drained := true }))) ∧
      (∀ j g, k.stages[j]? = some g → s.inputHeld g = true →
        (∀ j' g', j' < j → k.stages[j']? = some g' → s.inputHeld g' = false) →
        exec (.kernelDrained i) s = .next (s.endKernel i 0x14 (some j) 0#64))) ∧
    ((k.st.ended = true ∧ s.orphansLeft k.part = false) ∨ (k.st = .draining ∧ k.drained = true) →
      (k.comp = 0 ∨ k.written = true → exec (.launchCompletionWrite i) s = .next (s.kernelDone i k 0)) ∧
      (∀ l u, k.comp ≠ 0 → k.written = false → s.reach k.vf k.pasid k.part true (.kernel i) k.comp 16 = .locs l →
        u = s.ridgeWriteLocs l (natBytes 8 k.outcome ++ natBytes 8 k.value.toNat) →
        (∀ a, l = [(a, 16)] → u.read a 8 = k.outcome ∧ u.read (a + 8) 8 = k.value.toNat) ∧
        exec (.launchCompletionWrite i) s = .next (if k.st.ended then u.kernelDone i k 0
          else u.updKernel i (fun x => { x with written := true }))) ∧
      (∀ c a, k.comp ≠ 0 → k.written = false → s.reach k.vf k.pasid k.part true (.kernel i) k.comp 16 = .fail c a →
        exec (.launchCompletionWrite i) s = .next (s.kernelDone i k c)) ∧
      ∀ (u : State) (c : Nat), (u.kernelDone i k c).kernel i = none)

/-- R373, R375 to R393, R414: the head packet of the queue that is served takes its effect by its type, or waits; a packet
that has begun moves the read index. Notifies, slots, quanta and tenure, the reset of a faulted queue, the registration of
records and the binding of links. That a copy moves in pieces, each to the end of a page of its destination, and that a quantum
counts from the later of the mapping and the turn, are the model's choices, log 49. -/
def Obligations.QueueEventsServePackets : Prop :=
  ((∀ (s s' : State) (vf q part : Nat) (x : Queue) (w : BitVec 512),
     (HeadReady s vf q s' x part 1 w → exec (.packetNop vf q) s = .next (s'.packetBegun vf q none)) ∧
     (∀ s1 d ds, HeadReady s vf q s' x part 2 w → s'.addrOk part (descWord w 1) 1 = true →
       (descWord w 3 ≠ 0 → s'.addrOk part (descWord w 2) 1 = true) →
       (descWord w 4 ≠ 0 → s'.addrOk part (descWord w 4) 1 = true) → s'.residentFor part vf x.pasid = (s1, true) →
       s1.readDesc vf q x.pasid part (descWord w 1) = .inl d →
       s1.readStages vf q x.pasid part (descWord w 1) (kStages d) 0 = .inl ds →
       (s1.firstBad part d ds = none → (argCap (descWord w 2) (descWord w 3)).isSome = true →
         ∃ n k, exec (.packetLaunch vf q) s = .next n ∧ n.kernel s1.nextAccess = some k ∧ k.st = .declared ∧ k.vf = vf ∧
           k.q = q ∧ k.pasid = x.pasid ∧ k.desc = d ∧ k.stages.map (·.desc) = ds ∧ k.comp = descWord w 4) ∧
       (∀ j, s1.firstBad part d ds = some j →
         ∃ n k, exec (.packetLaunch vf q) s = .next n ∧ n.kernel s1.nextAccess = some k ∧ k.st = .failed ∧
           k.cause = 0x01 ∧ k.causeStage = (if j = 0 then none else some (j - 1)))) ∧
     (∀ s1 n, HeadReady s vf q s' x part 3 w → s'.packetPiece vf q x part w x.copied = .moved s1 n →
       (n = descWord w 3 → exec (.packetCopy vf q) s = .next (s1.packetBegun vf q none)) ∧
       (n ≠ descWord w 3 → exec (.packetCopy vf q) s = .next (s1.setQueue vf q { x with copied := n, word := w }))) ∧
     (∀ u a b len done, len = min (descWord w 3 - done) (4096 - (descWord w 2 + done) % 4096) →
       s'.addrOk part (descWord w 1 + done) len = true → s'.addrOk part (descWord w 2 + done) len = true →
       s'.reach vf x.pasid part false (.queue vf q) (descWord w 1 + done) len = .locs [(a, len)] →
       s'.reach vf x.pasid part true (.queue vf q) (descWord w 2 + done) len = .locs [(b, len)] →
       u = (((s'.dropRequests (.queue vf q)).touch ridgeCluster a len false).touch ridgeCluster b len true).copyUp b (upto a len) →
       s'.packetPiece vf q x part w done = .moved (u.writeRequest b (u.readBytes b len)) (done + len) ∧
       ((a + len ≤ b ∨ b + len ≤ a) → u.readBytes b len = s'.readBytes a len)) ∧
     (∀ v, HeadReady s vf q s' x part 4 w → s'.readWord vf q x part (descWord w 1) = .inl v →
       ((descWord w 3 = 0 ∧ descWord w 2 ≤ v) ∨ (descWord w 3 = 1 ∧ v = descWord w 2) ∨ (descWord w 3 = 2 ∧ v ≠ descWord w 2) →
         exec (.packetFenceWait vf q) s = .next (s'.packetBegun vf q none)) ∧
       ((descWord w 3 = 0 ∧ v < descWord w 2) ∨ (descWord w 3 = 1 ∧ v ≠ descWord w 2) ∨ (descWord w 3 = 2 ∧ v = descWord w 2) →
         exec (.packetFenceWait vf q) s = .next (s'.queueTo vf q .waiting))) ∧
     (∀ l, HeadReady s vf q s' x part 5 w → s'.addrOk part (descWord w 1) 8 = true →
       s'.reach vf x.pasid part true (.queue vf q) (descWord w 1) 8 = .locs l →
       (∀ a, l = [(a, 8)] → (s'.ridgeWriteLocs l (natBytes 8 (descWord w 2))).read a 8 = descWord w 2) ∧
       ∃ u n : State, u = (s'.ridgeWriteLocs l (natBytes 8 (descWord w 2))).snapLinks vf q ∧
         n = (({ u with queues := u.queues.map (fun (e : Nat × Queue) =>
           if s'.partOfQueue (e.1 / 256) e.2 = some part then (e.1, { e.2 with fenceAt := s'.now }) else e) }.setQueue vf q
             { x with rfence := x.fencePoint, fenceAt := s'.now }).packetBegun vf q none) ∧
         exec (.packetFenceSignal vf q) s = .next (if descWord w 3 / 2 ^ 15 % 2 = 1
           then n.send (.msix vf (descWord w 3 % 2 ^ 11)) else n) ∧
         ∃ y, n.queue vf q = some y ∧ y.rfence = x.fencePoint ∧
           ∀ j z, kfind j s.links = some z → ∃ z', kfind j n.links = some z' ∧ z'.c = z.c ∧
             z'.pf = (if z.producer = (vf, q) then z.p else z.pf) ∧ z'.tf = (if z.consumer = (vf, q) then z.t else z.tf)) ∧
     (∀ z, HeadReady s vf q s' x part 6 w → s'.link (descWord w 1) = some z → z.producer = (vf, q) →
       z.c + (descWord w 2 : Int) ≤ 2 ^ 31 - 1 → exec (.packetTokenPut vf q) s = .next ((s'.setLink (descWord w 1)
         { z with c := z.c + (descWord w 2 : Int), p := z.p + (descWord w 2 : Int) }).packetBegun vf q none)) ∧
     (HeadReady s vf q s' x part 6 w → (∀ z, s'.link (descWord w 1) = some z → z.producer ≠ (vf, q) ∨
       2 ^ 31 - 1 < z.c + (descWord w 2 : Int)) → exec (.packetTokenPut vf q) s = .next (s'.faultQueue vf q 0x43)) ∧
     (HeadReady s vf q s' x part 7 w → (∀ z, s'.link (descWord w 1) = some z → z.consumer ≠ (vf, q)) →
       exec (.packetTokenTake vf q) s = .next (s'.faultQueue vf q 0x43)) ∧
     (∀ z, HeadReady s vf q s' x part 7 w → s'.link (descWord w 1) = some z → z.consumer = (vf, q) →
       ((descWord w 2 : Int) ≤ z.c → exec (.packetTokenTake vf q) s = .next ((s'.setLink (descWord w 1)
         { z with c := z.c - (descWord w 2 : Int), t := z.t + (descWord w 2 : Int) }).packetBegun vf q none)) ∧
       (z.c < (descWord w 2 : Int) → exec (.packetTokenTake vf q) s = .next (s'.queueTo vf q .waiting))) ∧
     (HeadReady s vf q s' x part 8 w → s'.addrOk part (descWord w 1) 1 = true →
       (x.levels.length < 4 → exec (.packetIndirect vf q) s =
         .next (s'.packetBegun vf q (some (descWord w 1, descWord w 2)))) ∧
       (4 ≤ x.levels.length → exec (.packetIndirect vf q) s = .next (s'.faultQueue vf q 0x41))) ∧
     (HeadReady s vf q s' x part 9 w → (∀ j ∈ [1, 3, 5], descWord w j ≠ 0 →
         ∃ v, s'.readWord vf q x part (descWord w j) = .inl v ∧ descWord w (j + 1) ≤ v) →
       exec (.packetBarrierAnd vf q) s = .next (s'.packetBegun vf q none)) ∧
     (HeadReady s vf q s' x part 9 w → (∀ j ∈ [1, 3, 5], descWord w j ≠ 0 → ∃ v, s'.readWord vf q x part (descWord w j) = .inl v) →
       (∃ j ∈ [1, 3, 5], descWord w j ≠ 0 ∧ ∃ v, s'.readWord vf q x part (descWord w j) = .inl v ∧ v < descWord w (j + 1)) →
       exec (.packetBarrierAnd vf q) s = .next (s'.queueTo vf q .waiting))) ∧
   (∀ (s : State) (vf q : Nat) (x : Queue), s.queue vf q = some x → x.levels = [] →
     ∃ y, (s.packetBegun vf q none).queue vf q = some y ∧ y.ridx = (x.ridx + 1) % 2 ^ 48 ∧ y.copied = 0 ∧
       y.st = (if (x.ridx + 1) % 2 ^ 48 = x.widx then .mapped else .active)) ∧
   (∀ (s s1 : State) (vf q p n c : Nat) (x : Queue) (w : BitVec 512) (r : List (Nat × BitVec 512)),
     s.queue vf q = some x → s.partOfQueue vf x = some p → x.rest = (c, w) :: r →
     s.packetPiece vf q x p w c = .moved s1 n → exec (.packetCopy vf q) s =
       .next (s1.setQueue vf q { x with rest := if n = descWord w 3 then r else (n, w) :: r }))) ∧
  ((∀ (s : State) (vf q val m : Nat) (x : Queue), q = val % 256 → m = val / 2 ^ 16 % 2 ^ 48 → s.queue vf q = some x →
     x.st ≠ .faulted → x.st ≠ .unmapped → s.boot = .running →
     (2 ^ x.lsz < (m + 2 ^ 48 - x.rfence) % 2 ^ 48 →
       exec (.notify vf val) s = .next ((s.setQueue vf q x).faultQueue vf q 0x42)) ∧
     ((m + 2 ^ 48 - x.rfence) % 2 ^ 48 ≤ 2 ^ x.lsz → (x.widx + 2 ^ 48 - x.rfence) % 2 ^ 48 ≤ (m + 2 ^ 48 - x.rfence) % 2 ^ 48 →
       m ≠ x.widx →
       (x.st = .mapped → exec (.notify vf val) s = .next ((s.setQueue vf q { x with widx := m }).queueTo vf q .active)) ∧
       (x.st = .active ∨ x.st = .waiting → exec (.notify vf val) s = .next (s.setQueue vf q { x with widx := m })) ∧
       (x.st = .preempted → s.freeSlot = none →
         exec (.notify vf val) s = .next (s.setQueue vf q { x with widx := m, pendn := true })))) ∧
   (∀ (s : State) (vf q : Nat) (x : Queue), s.queue vf q = some x →
     (∀ part, s.partOfQueue vf x = some part → x.st = .waiting → s.partServed part = true →
       (∀ s1, s.attempt vf q x part ≠ .waits s1) → exec (.queueConditionHolds vf q) s = .next (s.queueTo vf q .active)) ∧
     (x.slot.isSome = true → max x.since x.turn + s.quantum x.pri ≤ s.now →
       (x.st = .active → x.pre = false → s.switchDue vf x = none →
         exec (.quantumExpiry vf q) s = .next (s.setQueue vf q { x with quantumOut := true, turn := s.now })) ∧
       (∀ p c, x.pre = false → s.switchDue vf x = some (p, c) → exec (.quantumExpiry vf q) s =
         .next ((s.updPartition p (fun y => { y with pending := some (.switch c.1 c.2) })).setQueue vf q
           { x with quantumOut := true, turn := s.now })) ∧
       (∀ e, x.pre = true → x.between = true → s.freeSlot = none → s.bestPending = some e → x.pri ≤ e.2.pri →
         s.switchDue vf x = none → exec (.quantumExpiry vf q) s =
           .next (s.withdrawSlot vf q { x with quantumOut := true, turn := s.now }))) ∧
     (x.slot.isSome = true → x.pre = false → x.between = true → x.since + s.tenure ≤ s.now →
       (∃ e ∈ s.queues, e.2.pendn = true) → s.freeSlot = none →
       exec (.tenureLimitExpiry vf q) s = .next (s.withdrawSlot vf q x)) ∧
     (∀ sl, x.st = .preempted → s.freeSlot = some sl → s.mayMap vf x = true → s.bestPending = none →
       exec (.queueMap vf q) s = .next ((s.setQueue vf q { x with
         slot := some sl, since := s.now, turn := s.now, pendn := false, quantumOut := false }).queueTo vf q
           (if x.headAddr.isSome then .active else .mapped))) ∧
     (x.st = .mapped → s.vfLocked vf = false → s.firmwareRuns 0 = true → exec (.queueUnmap vf q) s =
       .next ((s.setQueue vf q { x with slot := none, quantumOut := false }).queueTo vf q .unmapped)) ∧
     (x.st = .faulted → s.vfLocked vf = false → s.firmwareRuns 0 = true → exec (.queueReset vf q) s = .next (s.setQueue vf q
       { x with st := .unmapped, ridx := x.rfence, widx := x.rfence, levels := [], copied := 0 }))) ∧
   (∀ (s : State) (vf addr : Nat), vf < 64 → addr % 128 = 0 → addr < 2 ^ 57 → s.vfLocked vf = false → s.firmwareRuns 0 = true →
     exec (.qtabRegistration vf addr) s = .next (s.updVf vf (fun v => { v with qtab := some addr }))) ∧
   (∀ (s : State) (l pvf pq cvf cq p : Nat) (x y : Queue), l < 256 → s.queue pvf pq = some x → s.queue cvf cq = some y →
     (pvf, pq) ≠ (cvf, cq) → pq < 256 → cq < 256 → s.partOfQueue pvf x = some p → s.partOfQueue cvf y = some p →
     s.vfLocked pvf = false → s.vfLocked cvf = false → s.firmwareRuns 0 = true → x.links = [] → y.links = [] →
     (∀ e ∈ s.queues, ∀ b ∈ e.2.links, b.2.1 ≠ l) →
     ∃ n, exec (.tokenLinkBind l pvf pq cvf cq) s = .next n ∧ n.link l = some ⟨(pvf, pq), (cvf, cq), 0, 0, 0, 0, 0⟩ ∧
       (n.queue pvf pq).map (·.links) = some [(0, (l, false))] ∧ (n.queue cvf cq).map (·.links) = some [(0, (l, true))]))


/-! ### Regions, partitions, contexts (R391 to R419, R466) -/

/-- R391 to R408, R412, R413, R419, R456, R466: the controls of a region move it between its states; a closed gate leads to
scrubbing, scrubbing to *ready* with scratchpads and core registers cleared, a failure to *quarantined*; regions are
assigned and released; windows are set and cleared in pairs; a reset of a partition resets its regions. Contexts are
created, enabled, destroyed, and lifted from a fence; a host grant is written; the security interface of a function moves
between its states, and answers. That a release of a region fails no kernel and counts as a numbered loss event is the model's
reading, log 29; whether the host's translation covers a grant is a free value, log 59. -/
def Obligations.RegionAndContextEventsFollowTheirStates : Prop :=
  ((∀ r val, r < 20 →
     (val % 2 = 1 →
       MovesRegion (.rgctlRail r val) r .off (fun x =>
         { x with st := .scrubbing, rail := true, clk := true, gate := false, lasting := false }) ∧
       (∀ s : State, s.firmwareRuns (r / 5) = true →
         ((s.region r).st ≠ .off → exec (.rgctlRail r val) s = .next (s.setRegion r { s.region r with rail := true })) ∧
         ((s.region r).rail = true → (s.region r).st = .gated →
           exec (.rgctlClk r val) s = .next (s.regionTo r (fun x => { x with st := x.left, clk := true }))) ∧
         ((s.region r).rail = true → (s.region r).st ≠ .gated →
           exec (.rgctlClk r val) s = .next (s.setRegion r { s.region r with clk := true })) ∧
         ((s.region r).rail = false → exec (.rgctlClk r val) s = .next s) ∧
         ((s.region r).st = .assigned → exec (.rgctlRst r val) s = .next (s.lossEvent.beginReset r)) ∧
         ((s.region r).st ≠ .assigned →
           exec (.rgctlRst r val) s = .next ((s.assertReset r).setRegion r { s.region r with rst := true })) ∧
         ((s.region r).st = .assigned →
           exec (.rgctlGate r val) s = .next (s.setRegion r { s.region r with gate := true })) ∧
         ((s.region r).st ≠ .assigned → exec (.rgctlGate r val) s = .next s))) ∧
     (val % 2 = 0 →
       (∀ s : State, s.firmwareRuns (r / 5) = true →
         ((s.region r).st = .ready ∨ (s.region r).st = .quarantined →
           exec (.rgctlRail r val) s = .next ((s.losePower r).regionTo r (fun x => { x with st := .off }))) ∧
         ((s.region r).st ≠ .ready → (s.region r).st ≠ .quarantined → exec (.rgctlRail r val) s = .next (s.losePower r)) ∧
         ((s.region r).st ≠ .ready → (s.region r).st ≠ .assigned →
           exec (.rgctlClk r val) s = .next (s.setRegion r { s.region r with clk := false })) ∧
         exec (.rgctlRst r val) s = .next (s.setRegion r { s.region r with rst := false }) ∧
         exec (.rgctlGate r val) s = .next (s.setRegion r { s.region r with gate := false })) ∧
       (∀ a, a = .ready ∨ a = .assigned →
         MovesRegion (.rgctlClk r val) r a (fun x => { x with st := .gated, clk := false, left := a })))) ∧
   (∀ (s : State) (r : Nat) (f : Region → Region), (s.regionTo r f).region r = f (s.region r) ∧
     ((s.beginReset r).region r).st = .resetting ∧ ((s.beginReset r).region r).nrst = (s.region r).nrst + 1) ∧
   (∀ (s : State) (r : Nat) (lost : List Nat), r < 20 → (s.region r).st = .resetting → (s.region r).closing = true →
     (s.region r).powered = true →
     ∃ n, exec (.gateClosed r lost) s = .next n ∧ (n.region r).gate = false ∧ (n.region r).st =
       (if (s.region r).lasting || s.losesAny r lost then .quarantined else .scrubbing)) ∧
   (∀ (s : State) (r : Nat) (lost : List Nat) (lasting : Nat), r < 20 → (s.region r).st = .scrubbing → (s.region r).powered = true →
     ∃ n, exec (.scrubComplete r lost lasting) s = .next n ∧ (n.region r).part = none ∧ (n.region r).gate = false ∧
       (n.region r).st = (if lasting ≠ 0 ∨ (s.region r).lasting = true ∨ s.losesAny r lost = true then .quarantined
         else .ready) ∧
       (∀ k ∈ coresOfRegion r, n.core k = { Core.init with cycleBase := s.now }) ∧
       (s.statusBlock = none → ∀ a, isSpad a = true → regionOf (spadCore a) = some r → n.byte a = 0#8)) ∧
   (∀ (s : State) (r p : Nat), r < 20 → p < 20 → (s.region r).st = .ready →
     (∀ e ∈ s.partitions, r ∉ e.2.regions) → s.partLocked p = false → s.firmwareRuns (r / 5) = true →
     ∃ n, exec (.regionAssign r p) s = .next n ∧ (n.region r).st = .assigned ∧ (n.region r).part = some p ∧
       (n.region r).gate = true ∧ n.partition p = some (match s.partition p with
         | some x => { x with regions := sadd r x.regions }
         | none => ⟨[r], s.newWindow p, none, none, none, none, none, 0⟩)) ∧
   (∀ (s : State) (r p : Nat), r < 20 → (s.region r).part = some p → (s.region r).st = .assigned → s.partLocked p = false →
     s.firmwareRuns (r / 5) = true → exec (.regionRelease r) s = .next ((s.leavePartition r).lossEvent.beginReset r)) ∧
   (∀ (s : State) (a b p q : Nat), a < 160 → b < 160 → s.partOfCluster a = some p → s.partOfCluster b = some q → p ≠ q →
     s.partLocked p = false → s.partLocked q = false → s.firmwareRuns 0 = true →
     (s.clusterRuns a = true → s.clusterRuns b = true → ∃ n, exec (.windowSet a b) s = .next n ∧ (n.cluster a).perm = sadd b (s.cluster a).perm ∧
       (n.cluster b).perm = sadd a (s.cluster b).perm) ∧
     ∃ n, exec (.windowClear a b) s = .next n ∧ (n.cluster a).perm = sdel b (s.cluster a).perm ∧
       (n.cluster b).perm = sdel a (s.cluster b).perm) ∧
   (∀ (s : State) (p : Nat) (x : Partition), s.partition p = some x →
     (s.firmwareRuns 0 = true → exec (.partitionReset p) s = .next (s.resetPartition p 0x45)) ∧
     ((∃ e ∈ s.queues, s.partOfQueue (e.1 / 256) e.2 = some p ∧ e.2.st.busy = true ∧ e.2.fenceAt + s.watchdog ≤ s.now) →
       exec (.watchdogHang p) s = .next (s.resetPartition p 0x44)) ∧
     ∀ c, (∀ r ∈ x.regions, ((s.resetPartition p c).region r).st =
         (if (s.region r).st = .assigned then .resetting else (s.region r).st)) ∧
       ∃ y, (s.resetPartition p c).partition p = some y ∧ y.resident = none ∧ y.pending = none ∧ y.heldSince = none)) ∧
  ((∀ (s : State) (vf pasid part base len : Nat) (cap : TV), vf < 64 → pasid < 2 ^ 20 → s.vfLocked vf = false →
     s.firmwareRuns 0 = true →
     (∀ c, s.context vf pasid = some c → c.st = .destroyed) → (s.vf vf).part = none ∨ (s.vf vf).part = some part →
     (s.contexts.filter (fun e => decide (e.2.vf = vf) && decide (e.2.st ≠ .destroyed))).length < 256 →
     base + len ≤ s.windowOf (some part) → 0 < len → s.apart part vf pasid (0x9000000000000000 + base) len = true →
     narrow (mkCap 0 0 0 0 0x7B) (0x9000000000000000 + base) (0x9000000000000000 + base + len) = (cap, true) →
     ∃ n, exec (.contextCreate vf pasid part base len) s = .next n ∧ (n.vf vf).part = some part ∧
       n.context vf pasid = some ⟨vf, pasid, part, .created, cap, none, [], Config.saveArea vf pasid, s.gutterSize,
         s.contextWays⟩) ∧
   (∀ (s : State) (vf pasid : Nat) (c : Context), s.context vf pasid = some c → s.firmwareRuns 0 = true →
     (c.st = .created → exec (.contextEnable vf pasid) s = .next (s.updContext vf pasid (fun c => { c with st := .bound }))) ∧
     (c.st = .fenced → s.flash.dfen = false →
       exec (.fenceLift vf pasid) s = .next (s.updContext vf pasid (fun c => { c with st := .bound }))) ∧
     (c.st = .bound ∨ c.st = .switchedOut → s.contextQueued vf pasid = false → s.vfLocked vf = false →
       ∃ n, exec (.contextDestroy vf pasid) s = .next n ∧
         n.context vf pasid = some { c with st := .destroyed, save := none, grants := [] } ∧
         (∀ e ∈ n.kernels, (e.2.vf, e.2.pasid) = (vf, pasid) → e.2.st.ended = true) ∧
         (∀ p x, n.partition p = some x → x.lastResident ≠ some (vf, pasid)) ∧
         ∀ cl, (n.cluster cl).resident.map (·.2.2) ≠ some (ctxKey vf pasid)) ∧
     (∀ base len perms off cap, c.st ≠ .destroyed → s.vfLocked vf = false → perms &&& 0x43 = perms →
       narrow (mkCap 0 0 0 0 (perms % 2 ^ 8)) base (base + len) = (cap, true) → base + len ≤ 2 ^ 57 →
       off % 16 = 0 → capBase c.global ≤ ((0x9000000000000000 + off : Nat) : Int) →
       ((0x9000000000000000 + off : Nat) : Int) + 16 ≤ capTop c.global →
       s.linesHeld ridgeCluster (privBase c.part + off) 16 true = false →
       (Config.grantCovered s.fresh = false →
         exec (.hostGrantWrite vf pasid base len perms off) s = .next { s with fresh := s.fresh + 1 }) ∧
       (Config.grantCovered s.fresh = true → ∃ n, exec (.hostGrantWrite vf pasid base len perms off) s = .next n ∧
         n.context vf pasid = some { c with grants := sadd off c.grants } ∧
         n.read (privBase c.part + off) 16 = cap.bits.toNat))) ∧
   (∀ (s : State) (vf : Nat), s.firmwareRuns 0 = true →
     (vf < 64 →
       (∀ i code a b t, (i, code, a, b, t) ∈
           [(Instr.lockInterfaceRequest vf, tdispLock, TdispState.unlocked, TdispState.locked, s.tableCells vf),
            (.startInterfaceRequest vf, tdispStart, .locked, .run, (s.vf vf).table)] →
         ((s.vf vf).tdisp = a →
           exec i s = .next ((s.updVf vf (fun v => { v with tdisp := b, table := t })).send (.tdisp code vf []))) ∧
         ((s.vf vf).tdisp ≠ a → exec i s = .next (s.send (.tdisp tdispRefused vf [code])))) ∧
       exec (.stopInterfaceRequest vf) s =
         .next ((s.updVf vf (fun v => { v with tdisp := .unlocked, table := [] })).send (.tdisp tdispStop vf []))) ∧
     exec (.getDeviceInterfaceState vf) s = .next (s.send (.tdisp tdispState vf [(s.vf vf).tdisp.code])) ∧
     exec (.getDeviceInterfaceReport vf) s = .next (s.send (.tdisp tdispReport vf (s.report vf)))))

/-! ### The host (R405, R436 to R442) -/

/-- R289, R291, R405, R437 to R442, R455: requests of the host on a port that is up, for memory on its sector's port, which is
PA[8] xor PA[16] while both are up; its register pages and the mailbox of the management page; the heartbeats, the fences they
bring, and their end; the registration of the loss list. The numbers of the host's operations (0 to 3, 16 to 28, 32, 33) are
the model's choice, log 42, and so are the mailbox (log 73) and that `resume` looks at one period before it (log 36). -/
def Obligations.HostEventsTakeEffect : Prop :=
  (∀ (s : State) (port addr val size : Nat), port < 2 → s.portUp port = true →
    (s.boot = .running → s.flash.hfen = false → 0 < size → addr % 64 + size ≤ 64 → addr + size ≤ 2 ^ 57 →
      s.portOf addr = port →
      (s.linesHeld hostCache addr size false = false → exec (.hostRequest port 0 addr val size) s =
        .next ((s.dirRead (addr / 64) hostCache).send (.hostReply port addr (s.read addr size)))) ∧
      (s.linesHeld hostCache addr size true = false →
        exec (.hostRequest port 1 addr val size) s = .next (((s.dirWrite (addr / 64) hostCache).write addr
          (natBytes size val)).send (.hostReply port addr 0)) ∧
        exec (.hostRequest port 2 addr val size) s =
          .next ((s.dirWrite (addr / 64) hostCache).send (.hostReply port addr (s.read addr size))) ∧
        (s.sectorIn (addr / 64) hostCache = .m ∨ s.sectorIn (addr / 64) hostCache = .o →
          exec (.hostRequest port 3 addr val size) s = .next ((((s.write addr (natBytes size val)).writtenBack
            (addr / 64)).setSector (addr / 64) hostCache .i).send (.hostReply port addr 0))) ∧
        (∀ op f, hostOp op = some f → exec (.hostRequest port op addr val size) s =
          .next (((s.dirWrite (addr / 64) hostCache).write addr (natBytes size (f.apply size (s.read addr size) val).1)).send
            (.hostReply port addr (s.read addr size)))) ∧
        (s.read addr size = val % 2 ^ (8 * size) → exec (.hostRequest port 28 addr val size) s =
          .next (((s.dirWrite (addr / 64) hostCache).write addr (natBytes size (val / 2 ^ (8 * size)))).send
            (.hostReply port addr (s.read addr size)))) ∧
        (s.read addr size ≠ val % 2 ^ (8 * size) → exec (.hostRequest port 28 addr val size) s =
          .next ((s.dirWrite (addr / 64) hostCache).send (.hostReply port addr (s.read addr size)))))) ∧
    (∀ op, s.boot ≠ .running ∨ s.flash.hfen = true → op ≠ 32 → op ≠ 33 →
      exec (.hostRequest port op addr val size) s = .next (s.send (.hostError port addr))) ∧
    (∀ op, (op = 32 ∨ op = 33) → addr < managePage + 4096 → inManageBox addr size = false →
      (s.boot ≠ .running ∨ (s.flash.hfen = true ∧ addr < managePage)) →
      exec (.hostRequest port op addr val size) s = .next (s.send (.hostError port addr))) ∧
    (s.boot ≠ .reset → inManageBox addr size = true →
      exec (.hostRequest port 32 addr val size) s = .next (s.send (.hostReply port addr
        (boxRead s.manageBox (addr - managePage) size))) ∧
      exec (.hostRequest port 33 addr val size) s = .next ({ s with
        manageBox := boxWrite s.manageBox (addr - managePage) size val }.send (.hostReply port addr 0))) ∧
    (s.boot = .running → (s.flash.hfen = false ∨ managePage ≤ addr) → addr < managePage + 4096 → addr % 8 = 0 →
      inManageBox addr 8 = false →
      exec (.hostRequest port 32 addr val 8) s = .next (s.send (.hostReply port addr
        (if addr / 4096 = 64 then s.manageRead (addr % 4096) else s.notifyRead (addr / 4096) (addr % 4096)))) ∧
      exec (.hostRequest port 33 addr val 8) s = .next ((if addr / 4096 = 64 then s.manageWrite (addr % 4096) val
        else s.notifyWrite (addr / 4096) (addr % 4096) val).send (.hostReply port addr 0)))) ∧
  (∀ (s : State) (pa : Nat), s.portUp 0 = true → s.portUp 1 = true →
    s.portOf pa = if pa / 2 ^ 8 % 2 = pa / 2 ^ 16 % 2 then 0 else 1) ∧
  (∀ (s : State) (p : Nat), p < 2 →
    (s.portUp p = true → ∃ n, exec (.uciePortDown p) s = .next n ∧ n.portUp p = false) ∧
    (s.portUp p = false → ∃ n, exec (.uciePortUp p) s = .next n ∧ n.portUp p = true)) ∧
  (∀ (s : State) (val : Nat), s.boot = .running →
    (∃ n, exec (.hbhostWrite val) s = .next n ∧ n.flash.hostBeat = BitVec.ofNat 64 val ∧
      (BitVec.ofNat 64 val ≠ s.flash.hostBeat → n.flash.hostAt = some s.now)) ∧
    (∃ n, exec (.hbctlEnable val) s = .next n ∧ n.flash.per = max 10 (min 10000 (val % 2 ^ 24)) ∧
      n.flash.en = decide (val / 2 ^ 24 % 2 = 1) ∧
      (s.flash.en = false → n.flash.en = true → n.flash.next = s.now + n.flash.per * 1700))) ∧
  (∀ (s : State) (t : Nat), s.flash.hfen = true → s.flash.hostAt = some t → s.now ≤ t + s.flash.per * 1700 →
    s.boot = .running → ∃ n, exec .hbctlResume s = .next n ∧ n.flash.hfen = false ∧
      ∀ e ∈ s.contexts, e.2.st = .fenced → (e.1, { e.2 with st := .bound }) ∈ n.contexts) ∧
  (∀ s : State, s.flash.en = true →
    (s.flash.dfen = false → s.flash.beaten = false → s.firmwareRuns 0 = true →
      s.linesHeld ridgeCluster s.flash.addr 8 true = false → exec .firmwareDeviceBeat s =
        .next { s.ridgeWrite s.flash.addr (natBytes 8 ((s.read s.flash.addr 8 + 1) % 2 ^ 64)) with
          flash := { s.flash with beaten := true } }) ∧
    (∀ h d, s.flash.next ≤ s.now → h = missed (decide (s.flash.hostBeat ≠ s.flash.lastHost)) s.flash.hmiss →
      d = missed (decide (s.deviceBeat ≠ s.flash.lastDev)) s.flash.dmiss →
      ∃ n, exec .heartbeatPeriod s = .next n ∧ n.flash.next = s.now + s.flash.per * 1700 ∧ n.flash.hmiss = h ∧
        n.flash.dmiss = d ∧ n.flash.hfen = (s.flash.hfen || decide (h = 3)) ∧
        n.flash.dfen = (s.flash.dfen || decide (d = 3)))) ∧
  (∀ (s : State) (addr n vec : Nat), 16 ≤ n → n ≤ 65536 → addr + 64 + 16 * n ≤ 2 ^ 57 →
    s.firmwareRuns 0 = true → s.ridgeQ = [] → s.linesHeld ridgeCluster addr 64 true = false →
    ∃ t, exec (.lossListRegistration addr n vec) s = .next t ∧ t.loss = some ⟨addr, n, 0, false, 0, vec % 2 ^ 11, []⟩ ∧
      t.read addr 8 = 0 ∧ t.read (addr + 8) 8 = n)

/-! ### The endpoint and the Eave link (R443 to R450) -/

/-- R443 to R450: requests, completions and the state of the endpoint, and its mailbox; the link is enabled, trained, degraded,
fenced and taken down; a flit carries its fields and passes its check; flits are received in order and sent again; beats and
sync messages go over the link; the time is set; partitions are joined. The model's choices: requests already sent are
refused at once when the endpoint link goes down (log 53; R444 names those made while it is down), sequence numbers start
at 0 at each training (log 54), a sync takes the whole offset at once (log 18), the lanes of an event name both ports and the
payloads of a flit their layout (log 16), and the mailbox its operations (log 73). -/
def Obligations.LinkEventsMoveStates : Prop :=
  (∀ (s : State),
    (s.pcieUp = true →
      (∀ op off val n, n = (if op / 2 = 0 then 8 else op / 2) → off + n ≤ 4096 →
        (op % 2 = 0 → exec (.pcieInboundMailbox op off val) s = .next (s.send (.pcieMailbox off (boxRead s.mailbox off n)))) ∧
        (op % 2 = 1 → exec (.pcieInboundMailbox op off val) s = .next { s with mailbox := boxWrite s.mailbox off n val })) ∧
      exec .pcieInboundUnsupported s = .next (s.send .pcieUnsupported) ∧
      (∃ n, exec .pcieLinkDown s = .next n ∧ n.pcieUp = false ∧
        ∀ i a, kfind i s.accesses = some a → kfind i n.accesses =
          some (if a.phase = .sent then { a with phase := .refused 0x10 } else a))) ∧
    (s.pcieUp = false → exec .pcieLinkUp s = .next { s with pcieUp := true }) ∧
    (∀ i op size v a, kfind i s.accesses = some a → a.phase = .sent → a.kind = .red op size v →
      exec (.pcieErrorCompletion i) s = .next (({ s with
        accesses := kset i { a with phase := .refused 0x10 } s.accesses } : State).dropAccess i |>.refuse a.src 0x10
          (BitVec.ofNat 64 a.addr))) ∧
    (∀ i a, kfind i s.accesses = some a → a.phase = .sent → a.kind.posted = false → a.kind ≠ .prefetch →
      s.clusterRuns (clusterOf a.core) = true →
      exec (.pcieErrorCompletion i) s = .next (({ s with
        accesses := kset i { a with phase := .refused 0x10 } s.accesses } : State).dropAccess i |>.senderFaults a.src 0x10
          (BitVec.ofNat 64 a.addr)) ∧
      (a.sentAt + 85000000 ≤ s.now → exec (.pcieCompletionTimeout i) s = exec (.pcieErrorCompletion i) s)) ∧
    (∀ i r, kfind i s.accesses = none → kfind i s.requests = some r → r.answer = none →
      exec (.loadDataReturn i) s = .next { s with requests := kset i { r with answer := some none } s.requests } ∧
      exec (.pcieErrorCompletion i) s = .next { s with requests := kset i { r with answer := some (some 0x10) } s.requests } ∧
      (r.sentAt + 85000000 ≤ s.now → exec (.pcieCompletionTimeout i) s = exec (.pcieErrorCompletion i) s)) ∧
    (∀ idx base size bus, idx < 8 → base % 4096 = 0 → size % 4096 = 0 → base + size ≤ 2 ^ 57 → bus + size ≤ 2 ^ 64 →
      s.firmwareRuns 0 = true → ∃ n, exec (.apertureProgram idx base size bus) s = .next n ∧
        kfind idx n.apertures = (if size = 0 then none else some ⟨base, size, bus⟩))) ∧
  (∀ (l : List Host.Cell) (off n val : Nat), boxRead (boxWrite l off n val) off n = val % 256 ^ n) ∧
  (∀ (s : State),
    (s.eave.st = .down → s.firmwareRuns 0 = true → exec .linkEnable s = .next s.train) ∧
    (s.eave.st = .training →
      (∀ a b auth skew pid, a ∈ [0, 4, 8, 16] → b ∈ [0, 4, 8, 16] → 8 ≤ a + b → auth ≠ 0 → skew ≤ 100 →
        exec (.linkTrained (a + 64 * b) auth skew pid) s = .next { s with eave := { s.eave with
          st := if a + b = 32 then .up else .degraded, ports := (a, b), partner := some pid,
          beatAt := s.now + s.flash.per * 1700, heard := false, missed := 0 } }) ∧
      exec .linkTrainingFail s = .next { s with
        eave := { s.eave with st := .down, ports := (0, 0) },
        errorLog := s.errorLog ++ [(2, if s.eave.since + 170000000 ≤ s.now then 1 else 2)] }) ∧
    (s.firmwareRuns 0 = true →
      (s.eave.st = .degraded → exec .linkRetrain s = .next { s with eave := { s.eave with st := .up, ports := (16, 16) } }) ∧
      (s.eave.st = .fenced → exec .linkRetrain s = .next s.train)) ∧
    (s.linkUp = true →
      (∀ a b, a ∈ [0, 4, 8, 16] → b ∈ [0, 4, 8, 16] → a ≤ s.eave.ports.1 → b ≤ s.eave.ports.2 → a + b < s.eave.lanes →
        ∃ n, exec (.laneDrop (a + 64 * b)) s = .next n ∧ n.eave.ports = (a, b) ∧
          n.eave.st = (if a + b < 8 then .fenced else .degraded)) ∧
      (3 ≤ s.eave.missed → exec .partnerBeatMiss s = .next (s.linkLost .fenced)) ∧
      exec .timeOffsetExceeded s = .next (s.linkLost .fenced) ∧
      (∃ n, exec .linkDown s = .next n ∧ n.eave.st = .down ∧ n.eave.ports = (0, 0)) ∧
      ((∃ e ∈ s.eave.replay, flitField e.flit 25 2 = 0 ∧ e.window + 2 ≤ s.windowNow) →
        exec .flitAckTimeout s = .next (s.linkLost .fenced)) ∧
      (∀ ack, exec (.flitNak ack) s = .next (s.acked ack).resend) ∧
      (∀ part base l3 x, base % 2 ^ 44 = 0 → base < 2 ^ 57 → l3 < 2 ^ 16 → s.partition part = some x → s.firmwareRuns 0 = true →
        (∀ e ∈ s.partitions, e.1 = part ∨ e.2.join = none) →
        ∃ n, exec (.partitionJoin part base l3) s = .next n ∧ n.partition part = some { x with join := some (base, l3) }) ∧
      (∀ f, flitOk f = true → flitField f 0 12 = s.eave.recvSeq → flitField f 24 1 = 0 → ∀ s1 : State,
        s1 = ({ s with eave := { s.eave with recvSeq := (s.eave.recvSeq + 1) % 4096 } } : State).acked (flitField f 12 12) →
        (∀ u, flitField f 25 2 = 0 → s1.fabricAccesses (Config.flitWrites (flitPayload f)) = some u → u.flitRoom = true →
          exec (.flitReceive f) s = .next (u.sendFlit 0 1 [])) ∧
        (flitField f 25 2 = 1 → exec (.flitReceive f) s = .next s1) ∧
        (flitField f 25 2 = 2 → exec (.flitReceive f) s = .next ((ptpSync (Config.syncTime (flitPayload f)) s1).getD s1)) ∧
        (flitField f 25 2 = 3 → exec (.flitReceive f) s = .next (if Config.isBeat (flitPayload f)
          then { s1 with eave := { s1.eave with heard := true } } else s1))) ∧
      (∀ f, flitOk f = false ∨ flitField f 0 12 ≠ s.eave.recvSeq →
        exec (.flitReceive f) s = .next (if s.flitRoom then s.sendFlit 1 1 [] else s)) ∧
      (s.eave.beatAt ≤ s.now → s.flitRoom = true → s.firmwareRuns 0 = true →
        s.linkBeat = ({ s with eave := { s.eave with
          beatAt := s.now + s.flash.per * 1700, heard := false, missed := if s.eave.heard then 0 else min 3 (s.eave.missed + 1) } } : State).sendFlit 0 3 Config.beatWords) ∧
      (s.firstBox = true → s.eave.syncAt ≤ s.now → s.flitRoom = true →
        s.linkSync = ({ s with eave := { s.eave with syncAt := s.now + 212500 } } : State).sendFlit 0 2 (Config.syncWords s.timeNs)) ∧
      (∀ time : Nat, s.firstBox = false → 0 ≤ ((s.now * 10 / 17 : Nat) : Int) + s.timeAdj →
        (((time : Int) - s.timeNs).natAbs ≤ 1000 → ∃ n, exec (.ptpSync time) s = .next n ∧ n.timeNs = time) ∧
        (1000 < ((time : Int) - s.timeNs).natAbs → exec (.ptpSync time) s = .next (s.linkLost .fenced))))) ∧
  (∀ s : State, s.train.eave = { Link.idle with st := .training, partner := s.eave.partner, since := s.now, syncAt := s.now } ∧
    s.train.out = s.out ++ [.eaveIdentity Config.linkIdentity]) ∧
  (∀ (seq ack nak cls : Nat) (ws : List (BitVec 64)), seq < 4096 → ack < 4096 → nak < 2 → cls < 4 → ws.length ≤ 30 →
    flitOk (mkFlit seq ack nak cls ws) = true ∧ flitField (mkFlit seq ack nak cls ws) 0 12 = seq ∧
    flitField (mkFlit seq ack nak cls ws) 12 12 = ack ∧ flitField (mkFlit seq ack nak cls ws) 24 1 = nak ∧
    flitField (mkFlit seq ack nak cls ws) 25 2 = cls ∧ flitField (mkFlit seq ack nak cls ws) 32 5 = ws.length ∧
    ∀ i w, ws[i]? = some w → flitPayload (mkFlit seq ack nak cls ws) / 2 ^ (64 * i) % 2 ^ 64 = w.toNat) ∧
  (∀ (s : State) (st : LinkState), (s.linkLost st).eave.st = st ∧ (s.linkLost st).eave.replay = [] ∧
    ∀ k sl t, sl < 4 → s.strand k sl = some t → s.linkWaits k t = true →
      (s.linkLost st).strand k sl = none)

/-! ### Firmware, faults, power, registers (R429, R451 to R461) -/

/-- R429, R451 to R461: package reset and the ROM, the recovery loader, rollback fuses, the firmware's beats and a spare
firmware core, the answers of attestation, faults found and fatal errors, the power limit and pacing, a register written from
outside. The model's choices: the codes of the SPDM messages (log 42), pacing held between 0 and 15 and stepping back below
the limit (log 46), the place of the boot stage and the strand that runs it (log 76), the numbers of the components in which a
fault is found (log 31). -/
def Obligations.FirmwareEventsTakeEffect : Prop :=
  (∀ (s : State) (pass : Nat),
    (∃ n, exec (.packageReset pass) s = .next n ∧ n.slotImage = s.slotImage ∧ n.rollback = s.rollback ∧
      n.groups = [] ∧ n.kernels = [] ∧ n.queues = [] ∧ n.contexts = [] ∧ n.partitions = [] ∧
      ∀ a b c d, firstPassing pass 0 [] = some a → firstPassing pass 1 [] = some b → firstPassing pass 2 [] = some c →
        firstPassing pass 3 [] = some d →
        n.boot = (if imageOk s.slotImage s.rollback then .running else .recovery) ∧
        n.fwCore = [(0, a), (1, b), (2, c), (3, d)] ∧
        (imageOk s.slotImage s.rollback = true → ∀ k ∈ [a, b, c, d], n.strand k 0 = some (bootStrand (spadBase k)) ∧
          n.readBytes (spadBase k) (stageBytes (imageLen s.slotImage)) =
            (s.slotImage.drop 29872).take (stageBytes (imageLen s.slotImage)))) ∧
    (∀ img len, s.boot = .recovery → exec (.romRecoveryImage img len) s =
      .next (if imageOk (natBytes (min len 4194304) img) s.rollback then
        ({ s with slotImage := natBytes (min len 4194304) img } : State).packageReset else s)) ∧
    (∀ m, s.firmwareRuns 0 = true → s.rollback < m → m ≤ imageSvn s.slotImage → m ≤ 64 →
      exec (.rollbackFuseSet m) s = .next { s with rollback := m }) ∧
    (s.boot = .running → s.fwBeatAt ≤ s.now → ∀ die, die < 4 →
      kget 0 die s.internalBeats.fwMissed = if s.beats die then 0 else min 3 (kget 0 die s.fwMissed + 1)) ∧
    (∀ die k, s.boot = .running → die < 4 → 3 ≤ kget 0 die s.fwMissed →
      firstPassing (pass * 2 ^ (8 * die)) die s.fwSpent = some k →
      ∃ n, exec (.firmwareBeatMiss die pass) s = .next n ∧ kfind die n.fwCore = some k ∧ k ∈ n.fwSpent ∧
        n.strand k 0 = some (bootStrand (spadBase k)) ∧
        ∀ old, kfind die s.fwCore = some old → old ≠ k → n.core old = Core.init) ∧
    (∀ die, s.boot = .running → die < 4 → 3 ≤ kget 0 die s.fwMissed →
      firstPassing (pass * 2 ^ (8 * die)) die s.fwSpent = none →
      exec (.firmwareBeatMiss die pass) s = .next (s.fatal 0x81))) ∧
  (∀ s : State, s.boot = .running → ∀ i code vals,
    (i, code, vals) ∈ [(Instr.spdmGetVersion, 1, [0x12]), (.spdmGetCapabilities, 2, []),
      (.spdmGetDigests, 4, byteNumbers (shake256 Config.certChain)),
      (.spdmGetCertificate, 5, byteNumbers Config.certChain)] → exec i s = .next (s.send (.spdm code vals))) ∧
  (∀ s : State, s.boot = .running →
    (∀ h g, exec (.spdmNegotiateAlgorithms h g) s = .next (s.send (.spdm 3 [h % 2, g % 2]))) ∧
    (∀ x, exec (.spdmChallenge x) s = .next (s.send (.spdm 6 (byteNumbers (Config.slhSign s.bootKey (natBytes 32 x)))))) ∧
    (∀ x, exec (.spdmGetMeasurements x) s = .next (s.send (.spdm 7 (s.measurements x))))) ∧
  (∀ l : List Byte, (shake256 l).length = 64) ∧
  (∀ (s : State) (r clean : Nat),
    (r < 20 → (s.region r).st ≠ .off →
      (∀ i ∈ [Instr.sramSingleBitError r, .sramDoubleBitError r 1, .linkCrcFailure r 1],
        exec i s = .next (s.regionTo r (fun x => { x with ntr := min (x.ntr + 1) 0xFFFF }))) ∧
      (∀ i ∈ [Instr.sramDoubleBitError r 0, .linkCrcFailure r 0], ∃ n, exec i s = .next n ∧
        (n.region r).lasting = true ∧ n.errorLog = s.errorLog ++ [(1, r)] ∧
        ∀ p x, (s.region r).st = .assigned → (s.region r).part = some p → s.partition p = some x → r ∈ x.regions →
          (n.region r).st = .resetting)) ∧
    (20 ≤ r →
      (∀ i ∈ [Instr.sramSingleBitError r, .sramDoubleBitError r 1, .linkCrcFailure r 1],
        exec i s = .next { s with ntr := min (s.ntr + 1) 0xFFFF }) ∧
      ∀ i ∈ [Instr.sramDoubleBitError r 0, .linkCrcFailure r 0], ∀ s1 : State,
        s1 = { s with errorLog := s.errorLog ++ [(1, r)] } →
        (¬ (32 ≤ r ∧ r < 64) → exec i s = .next (s1.fatal 0x80)) ∧
        ∀ die sl, die < 4 → sl < 8 → r = 32 + 8 * die + sl →
          (kfind die s.fwCore ≠ some (coreOfSlot (160 + die) sl) →
            exec i s = .next { s1 with fwSpent := sadd (coreOfSlot (160 + die) sl) s.fwSpent }) ∧
          (∀ j ∈ coresOfCluster (160 + die), kfind die s.fwCore = some (coreOfSlot (160 + die) sl) →
            j ≠ coreOfSlot (160 + die) sl → j ∉ s.fwSpent →
            exec i s = .next { s1 with fwSpent := sadd (coreOfSlot (160 + die) sl) s.fwSpent, fwSilent := sadd die s.fwSilent })) ∧
    exec (.fatalError clean) s = .next (s.fatal clean) ∧ (s.fatal clean).boot = .reset) ∧
  (∀ (s : State) (val : Nat),
    exec (.pwrlimWrite val) s = .next { s with pwrLim := max 200 (min 800 (val % 2 ^ 16)) } ∧
    (s.pacingAt ≤ s.now → exec (.powerPacingTick val) s = .next { s with
      pwr := val, pacing := if s.pwrLim < val then min 15 (s.pacing + 1) else s.pacing - 1, pacingAt := s.now + 1700000 })) ∧
  (∀ (s : State) (k sl idx val : Nat) (r : SysReg), SysReg.ofIndex idx = some r →
    (r = .trapVec ∨ r = .spinBudget ∨ r = .barTimeout ∨ r = .xmon ∨
      ((r = .trapPc ∨ r = .trapCause ∨ r = .trapVal) ∧ (s.strand k sl).isSome = true)) →
    exec (.registerWrite k sl idx val) s = .next (s.sysWrite k sl r (BitVec.ofNat 64 val)))

/-! ### What rounding gives (R38 to R46) -/

/-- R38, R39, R43 to R45: one rounding of an exact value: the member of the format's grid that the mode names, the overflow by
its table, underflow where the result is tiny and inexact; sums, products, quotients and roots are rounded once from their exact
value, and an exact zero sum of opposite signs is +0 but under RDN. R31: the value of a code. R40 to R42: conversions to
integers and to E8M0, and the special values between formats. R46: the generator of the draws. R114, R115: minimum and maximum
by value with −0 below +0, and the class of an FP32 code. -/
def Obligations.RoundingsFollowTheirModes : Prop :=
  ((∀ (f : Fmt) (rm : RMode) (o : Bool) (dr : Nat) (n : Bool) (m : Nat) (e : Int),
      Rounds f rm o dr n ((m : ℝ) * 2 ^ e) (f.round rm o dr n m e)) ∧
    (∀ (f : Fmt) (n : Bool) (c : Nat), c ≤ f.maxCode →
      ∃ m e, f.decode (f.signed n c) = .fin n m e ∧ (m : ℚ) * 2 ^ e = gridValue f c) ∧
    (∀ (rm : RMode) (o n : Bool),
      Fmt.overflowCode .f32 rm o n = (if rm = .rtz ∨ (rm = .rdn ∧ n = false) ∨ (rm = .rup ∧ n = true) then 0x7F7FFFFF
        else 0x7F800000) + (if n then 0x80000000 else 0) ∧
      Fmt.overflowCode .f16 rm o n = (if rm = .rtz ∨ (rm = .rdn ∧ n = false) ∨ (rm = .rup ∧ n = true) then 0x7BFF
        else 0x7C00) + (if n then 0x8000 else 0) ∧
      Fmt.overflowCode .bf16 rm o n = (if rm = .rtz ∨ (rm = .rdn ∧ n = false) ∨ (rm = .rup ∧ n = true) then 0x7F7F
        else 0x7F80) + (if n then 0x8000 else 0) ∧
      Fmt.overflowCode .e5m2 rm true n = (if rm = .rtz ∨ (rm = .rdn ∧ n = false) ∨ (rm = .rup ∧ n = true) then 0x7B
        else 0x7C) + (if n then 0x80 else 0) ∧
      Fmt.overflowCode .e5m2 rm false n = 0x7B + (if n then 0x80 else 0) ∧
      Fmt.overflowCode .e4m3 rm false n = 0x7E + (if n then 0x80 else 0) ∧
      Fmt.overflowCode .e4m3 rm true n = 0x7F ∧
      Fmt.overflowCode .e3m2 rm o n = 0x1F + (if n then 0x20 else 0) ∧
      Fmt.overflowCode .e2m3 rm o n = 0x1F + (if n then 0x20 else 0) ∧
      Fmt.overflowCode .e2m1 rm o n = 0x7 + (if n then 0x8 else 0))) ∧
  ((∀ (f : Fmt) (rm : RMode) (o : Bool) (dr : Nat) (n1 n2 n3 : Bool) (m1 m2 m3 : Nat) (e1 e2 e3 : Int),
      (∀ v, v = finValue n1 m1 e1 + finValue n2 m2 e2 →
        (v ≠ 0 → Rounds f rm o dr (decide (v < 0)) (|v| : ℚ) (addVal f rm o dr (.fin n1 m1 e1) (.fin n2 m2 e2))) ∧
        (v = 0 → addVal f rm o dr (.fin n1 m1 e1) (.fin n2 m2 e2) =
          (f.signed (if n1 = n2 then n1 else decide (rm = .rdn)) 0, 0#5))) ∧
      Rounds f rm false dr (n1 != n2) (|finValue n1 m1 e1 * finValue n2 m2 e2| : ℚ)
        (mulVal f rm dr (.fin n1 m1 e1) (.fin n2 m2 e2)) ∧
      (m2 ≠ 0 → Rounds f rm false dr (n1 != n2) (|finValue n1 m1 e1 / finValue n2 m2 e2| : ℚ)
        (divVal f rm dr (.fin n1 m1 e1) (.fin n2 m2 e2))) ∧
      (∀ v, v = finValue n1 m1 e1 * finValue n2 m2 e2 + finValue n3 m3 e3 →
        (v ≠ 0 → Rounds f rm false dr (decide (v < 0)) (|v| : ℚ)
          (fmaVal f rm dr (.fin n1 m1 e1) (.fin n2 m2 e2) (.fin n3 m3 e3))) ∧
        (v = 0 → fmaVal f rm dr (.fin n1 m1 e1) (.fin n2 m2 e2) (.fin n3 m3 e3) =
          (f.signed (if (n1 != n2) = n3 then n3 else decide (rm = .rdn)) 0, 0#5)))) ∧
    (∀ (f : Fmt) (rm : RMode) (dr m : Nat) (e : Int) (v : ℝ), m ≠ 0 → 0 < v → v * v = (m : ℝ) * 2 ^ e →
      Rounds f rm false dr false v (sqrtVal f rm dr (.fin false m e)))) ∧
  ((∀ (lo hi : Int) (rm : RMode) (dr : Nat) (n : Bool) (m : Nat) (e : Int),
      (∃ (k : Nat) (z : Int), RoundsTo (fun i => (i : ℝ)) rm dr n ((m : ℝ) * 2 ^ e) k ∧ z = (if n then -(k : Int) else (k : Int)) ∧
        (z < lo → cvtInt lo hi rm dr (.fin n m e) = (lo, flInvalid ||| flInexact)) ∧
        (lo ≤ z → hi < z → cvtInt lo hi rm dr (.fin n m e) = (hi, flInvalid ||| flInexact)) ∧
        (lo ≤ z → z ≤ hi → ((m : ℝ) * 2 ^ e = k → cvtInt lo hi rm dr (.fin n m e) = (z, 0#5)) ∧
          ((m : ℝ) * 2 ^ e ≠ k → cvtInt lo hi rm dr (.fin n m e) = (z, flInexact)))) ∧
      (∃ (k : Nat) (z : Int), RoundsTo (fun i => (i : ℝ)) rm dr n ((m : ℝ) * 2 ^ e) k ∧ z = (if n then -(k : Int) else (k : Int)) ∧
        (z < -1 → cvtT2 rm dr (.fin n m e) = (-1, flSaturation ||| flInexact)) ∧
        (1 < z → cvtT2 rm dr (.fin n m e) = (1, flSaturation ||| flInexact)) ∧
        (-1 ≤ z → z ≤ 1 → cvtT2 rm dr (.fin n m e) = (z, if (m : ℚ) * 2 ^ e = k then 0#5 else flInexact))) ∧
      (∀ q, cvtInt lo hi rm dr (.nan q) = (0, flInvalid) ∧ cvtT2 rm dr (.nan q) = (0, flInvalid)) ∧
      cvtInt lo hi rm dr (.inf n) = (if n then lo else hi, flInvalid ||| flInexact) ∧
      cvtT2 rm dr (.inf n) = (if n then -1 else 1, flSaturation ||| flInexact)) ∧
    (∀ (f : Fmt) (rm : RMode) (o : Bool) (dr : Nat) (n q : Bool) (m : Nat) (e : Int),
      cvtVal f rm o dr (.fin n m e) = f.round rm o dr n m e ∧
      cvtVal f rm o dr (.inf n) =
        (if f = .f32 ∨ f = .f16 ∨ f = .bf16 ∨ (f = .e5m2 ∧ o = true) then (f.signed n f.infCode, 0#5)
         else if f = .e4m3 ∧ o = true then (0x7F, 0#5) else (f.signed n f.maxCode, flOverflow ||| flInexact)) ∧
      cvtVal f rm o dr (.nan q) = (if f = .e3m2 ∨ f = .e2m3 ∨ f = .e2m1 then (0, flInvalid)
        else (f.nan, if q then flInvalid else 0#5))) ∧
    (∀ (rm : RMode) (dr : Nat) (n q : Bool) (m : Nat) (e : Int),
      toE8 rm dr (.nan q) = (0xFF, flInvalid) ∧ toE8 rm dr (.inf n) = (0xFF, flInvalid) ∧
      toE8 rm dr (.fin n 0 e) = (0x00, flUnderflow ||| flInexact) ∧
      (m ≠ 0 → ∃ p r : Int, (2 : ℚ) ^ p ≤ (m : ℚ) * 2 ^ e ∧ (m : ℚ) * 2 ^ e < 2 ^ (p + 1) ∧
        r = (if (rm = .rne ∧ 3 * (2 : ℚ) ^ p ≤ 2 * ((m : ℚ) * 2 ^ e)) ∨ (rm = .rup ∧ (m : ℚ) * 2 ^ e ≠ 2 ^ p) ∨
          (rm = .sr ∧ ((dr : ℚ) + 1) * 2 ^ p ≤ ((m : ℚ) * 2 ^ e - 2 ^ p) * 2 ^ 16) then p + 1 else p) ∧
        (r < -127 → toE8 rm dr (.fin n m e) = (0x00, flUnderflow ||| flInexact)) ∧
        (127 < r → toE8 rm dr (.fin n m e) = (0xFE, flOverflow ||| flInexact)) ∧
        (-127 ≤ r → r ≤ 127 → toE8 rm dr (.fin n m e) =
          ((r + 127).toNat, if (m : ℚ) * 2 ^ e = 2 ^ r then 0#5 else flInexact))))) ∧
  ((∀ (f : Fmt) (a b : Nat) (key : Nat → Int), a < 2 ^ f.width → b < 2 ^ f.width →
      (∀ c, key c = if c < 2 ^ (f.width - 1) then (c : Int) else -((c - 2 ^ (f.width - 1) : Nat) : Int) - 1) →
      ((f.decode a).isNaN = false → (f.decode b).isNaN = false →
        ∃ r R, minMaxVal f false a b = (r, 0#5) ∧ minMaxVal f true a b = (R, 0#5) ∧ (r = a ∨ r = b) ∧ (R = a ∨ R = b) ∧
          key r = min (key a) (key b) ∧ key R = max (key a) (key b)) ∧
      (∀ w fl, fl = (if (f.decode a).isSNaN = true ∨ (f.decode b).isSNaN = true then flInvalid else 0#5) →
        ((f.decode a).isNaN = true → (f.decode b).isNaN = false → minMaxVal f w a b = (b, fl)) ∧
        ((f.decode a).isNaN = false → (f.decode b).isNaN = true → minMaxVal f w a b = (a, fl)) ∧
        ((f.decode a).isNaN = true → (f.decode b).isNaN = true → minMaxVal f w a b = (f.nan, fl)))) ∧
    (∀ c s e m, c < 2 ^ 32 → s = c / 2 ^ 31 → e = c / 2 ^ 23 % 256 → m = c % 2 ^ 23 → classMask .f32 c =
      (if e = 255 then (if m = 0 then (if s = 1 then 2 ^ 0 else 2 ^ 7) else if m < 2 ^ 22 then 2 ^ 8 else 2 ^ 9)
       else if e = 0 then (if m = 0 then (if s = 1 then 2 ^ 3 else 2 ^ 4) else (if s = 1 then 2 ^ 2 else 2 ^ 5))
       else (if s = 1 then 2 ^ 1 else 2 ^ 6))) ∧
    (∀ s : BitVec 32, (lfsrStep s).getLsbD 0 = (s.getLsbD 31 ^^ s.getLsbD 21 ^^ s.getLsbD 1 ^^ s.getLsbD 0) ∧
      (∀ i, i < 31 → (lfsrStep s).getLsbD (i + 1) = s.getLsbD i) ∧
      lfsrSkip 0 s = s ∧ (∀ n, lfsrSkip (n + 1) s = lfsrSkip n (lfsrSkip 1 s)) ∧
      lfsrSkip 1 s = (List.range 16).foldl (fun x _ => lfsrStep x) s ∧
      lfsrDraw s = (lfsrSkip 1 s).toNat % 2 ^ 16))

/-! ### What blocks, rows, functions and searches give (R49 to R52, R182, R186, R190 to R193, R216, R249) -/

/-- R49, R50, R51: a block of products, its scales, and the sums of a row of blocks or of integers; R216: every word of a tile's
buffer after a block. R52, R182: the tree of a reduction within chunks of 32 and the order across them, sums, maxima, minima and
their index. R190 to R193, R191, R192: the special functions step by step with their flags, and their tables (LG to within 1/256).
R186: gathers and scatters take and skip the elements that their indices name. R249: a search keeps the nearest vectors, the
lower index first among equals. -/
def Obligations.BlocksRowsFunctionsAndSearchesGiveTheirValues : Prop :=
  ((∀ (ps : List (FVal × FVal)) (sa sb : Nat) (num : FVal → ℚ) (v : ℚ),
      (∀ n m e, num (.fin n m e) = finValue n m e) → v = (ps.map (fun p => num p.1 * num p.2)).sum →
      (((∃ p ∈ ps, p.1.isNaN = true ∨ p.2.isNaN = true) ∨ sa = 255 ∨ sb = 255 ∨ (∃ p ∈ ps, mulExact p.1 p.2 = none) ∨
          ((∃ p ∈ ps, mulExact p.1 p.2 = some (.inf true)) ∧ (∃ p ∈ ps, mulExact p.1 p.2 = some (.inf false)))) →
        blockValue ps sa sb = (0x7FC00000, flInvalid)) ∧
      ((∀ p ∈ ps, p.1.isNaN = false ∧ p.2.isNaN = false ∧ mulExact p.1 p.2 ≠ none) → sa ≠ 255 → sb ≠ 255 →
        (∀ n, (∃ p ∈ ps, mulExact p.1 p.2 = some (.inf n)) → (∀ p ∈ ps, mulExact p.1 p.2 ≠ some (.inf (!n))) →
          blockValue ps sa sb = (if n then 0xFF800000 else 0x7F800000, 0#5)) ∧
        ((∀ p ∈ ps, ∀ n, mulExact p.1 p.2 ≠ some (.inf n)) →
          (v = 0 → blockValue ps sa sb = (0, 0#5)) ∧
          (v ≠ 0 → Rounds .f32 .rne false 0 (decide (v < 0)) (|v| * 2 ^ ((sa : Int) + sb - 254) : ℚ) (blockValue ps sa sb))))) ∧
    (∀ (ta tb : ETy) (acc sa sb : Nat) (p ps : List (Nat × Nat)) (sc : List (Nat × Nat)), p.length = 32 →
      dotRow ta tb acc [] [] = (acc, 0#5) ∧
      ∃ b r z, b = blockValue (p.map (fun x => ((elemVal ta x.1).1, (elemVal tb x.2).1))) sa sb ∧
        r = addVal .f32 .rne false 0 (fv acc) (fv b.1) ∧ z = dotRow ta tb r.1 ps sc ∧
        dotRow ta tb acc (p ++ ps) ((sa, sb) :: sc) = (z.1, b.2 ||| r.2 ||| z.2)) ∧
    (∀ (tb : ETy) (acc : Nat) (ps : List (Nat × Nat)) (v : Int), (tb = .int true 8 ∨ tb = .t2) →
      v = intOf true 32 acc + (ps.map (fun p => intOf true 8 p.1 * (elemInt tb p.2).getD 0)).sum →
      ∃ sat bad : Bool, dotRowInt tb acc ps = (((max (-(2 ^ 31)) (min (2 ^ 31 - 1) v)) % 2 ^ 32).toNat,
          flIf sat flSaturation ||| flIf bad flInvalid) ∧
        (sat = true ↔ v < -(2 ^ 31) ∨ 2 ^ 31 - 1 < v) ∧ (bad = true ↔ tb = .t2 ∧ ∃ p ∈ ps, p.2 % 4 = 2)) ∧
    (∀ (p : Pair) (ta tb : ETy) (fresh : Bool) (blk : TileBlock) (acc : List (Nat × BitVec 32)) (word : Nat → Nat → BitVec 32 × BitVec 3),
      (∀ i j, word i j = tileElem p ta tb (if fresh then 0#32 else kget 0#32 (128 * i + j) acc) ((blk.a.drop (32 * i)).take 32)
        ((blk.b.drop (32 * j)).take 32) (blk.sa.getD i 127) (blk.sb.getD j 127)) →
      (∀ i j, i < 128 → j < 128 → kget 0#32 (128 * i + j) (tileBlock p ta tb fresh blk acc).1 = (word i j).1) ∧
      (∀ n, n < 3 → ((tileBlock p ta tb fresh blk acc).2.getLsbD n = true ↔
        ∃ i j, i < 128 ∧ j < 128 ∧ (word i j).2.getLsbD n = true))) ∧
    (∀ (p : Pair) (ta tb : ETy) (acc : BitVec 32) (a b : List Nat) (sa sb : Nat) (r : Nat × FlagSet),
      r = (if p = .i8i8 ∨ p = .i8t2 then dotRowInt tb acc.toNat (a.zip b)
        else dotBlock ta tb (acc.toNat, 0#5) (a.zip b, sa, sb)) →
      (tileElem p ta tb acc a b sa sb).1 = BitVec.ofNat 32 r.1 ∧
      (tileElem p ta tb acc a b sa sb).2.getLsbD 0 = r.2.getLsbD 0 ∧
      (tileElem p ta tb acc a b sa sb).2.getLsbD 1 = r.2.getLsbD 1 ∧
      (tileElem p ta tb acc a b sa sb).2.getLsbD 2 = r.2.getLsbD 4)) ∧
  ((∀ (f : RowVal → RowVal → RowVal) (x : RowVal) (xs ys : List RowVal) (k : Nat),
      reduceTree f [] = none ∧ chunkTree f [x] = some x ∧
      (k < 5 → 2 ^ k < xs.length → xs.length ≤ 2 ^ (k + 1) → ∃ l r, chunkTree f (xs.take (2 ^ k)) = some l ∧
        chunkTree f (xs.drop (2 ^ k)) = some r ∧ chunkTree f xs = some (f l r)) ∧
      (0 < ys.length → ys.length ≤ 32 → reduceTree f ys = chunkTree f ys) ∧
      (xs ≠ [] → xs.length % 32 = 0 → 0 < ys.length → ys.length ≤ 32 → ∃ l r, reduceTree f xs = some l ∧
        chunkTree f ys = some r ∧ reduceTree f (xs ++ ys) = some (f l r))) ∧
    (∀ (t : ETy) (x y : RowVal) (w : Bool),
      rowAdd x y = ⟨(f32Add x.code y.code).1, 0, x.fl ||| y.fl ||| (f32Add x.code y.code).2⟩ ∧
      (elemNaN t x.code = true → rowMinMax w t x y = { x with fl := x.fl ||| y.fl } ∧
        rowArgMax t x y = { x with fl := x.fl ||| y.fl }) ∧
      (elemNaN t x.code = false → elemNaN t y.code = true → rowMinMax w t x y = { y with fl := x.fl ||| y.fl } ∧
        rowArgMax t x y = { y with fl := x.fl ||| y.fl }) ∧
      (elemNaN t x.code = false → elemNaN t y.code = false →
        rowMinMax true t x y = { (if elemLt t x.code y.code then y else x) with fl := x.fl ||| y.fl } ∧
        rowMinMax false t x y = { (if elemLt t y.code x.code then y else x) with fl := x.fl ||| y.fl } ∧
        rowArgMax t x y = { (if elemLt t x.code y.code then y else x) with fl := x.fl ||| y.fl })) ∧
    (∀ (f : Fmt) (sg : Bool) (w : Nat) (row : List Nat) (t : ETy) (wide : Nat → RowVal),
      (∀ c, wide c = ⟨(cvtVal .f32 .rne true 0 (f.decode c)).1, 0, (cvtVal .f32 .rne true 0 (f.decode c)).2⟩) →
      reduceRow .vrsum (.flt f) row = ((reduceTree rowAdd (row.map wide)).map (fun r => (r.code, r.fl))).getD (0, 0#5) ∧
      reduceRow .vrsumsq (.flt f) row = ((reduceTree rowAdd (row.map (fun c =>
        ⟨(f32Mul (wide c).code (wide c).code).1, 0, (wide c).fl ||| (f32Mul (wide c).code (wide c).code).2⟩))).map
          (fun r => (r.code, r.fl))).getD (0, 0#5) ∧
      reduceRow .vrmax t row = ((reduceTree (rowMinMax true t) (row.mapIdx (rowStart t))).map (fun r => (r.code, r.fl))).getD (0, 0#5) ∧
      reduceRow .vrmin t row = ((reduceTree (rowMinMax false t) (row.mapIdx (rowStart t))).map (fun r => (r.code, r.fl))).getD (0, 0#5) ∧
      reduceRow .vrargmax t row = ((reduceTree (rowArgMax t) (row.mapIdx (rowStart t))).map (fun r => (r.idx, r.fl))).getD (0, 0#5) ∧
      (∀ v, v = (row.map (intOf sg w)).sum → reduceRow .vrsum (.int sg w) row =
        (((max (-(2 ^ 31)) (min (2 ^ 31 - 1) v)) % 2 ^ 32).toNat, if v < -(2 ^ 31) ∨ 2 ^ 31 - 1 < v then flSaturation else 0#5)) ∧
      (row ≠ [] → ∃ i c, reduceRow .vrargmax (.int sg w) row = (i, 0#5) ∧ reduceRow .vrmax (.int sg w) row = (c, 0#5) ∧
        row[i]? = some c ∧ (∀ d ∈ row, intOf sg w d ≤ intOf sg w c) ∧
        ∀ j d, row[j]? = some d → j < i → intOf sg w d < intOf sg w c))) ∧
  ((∀ (m : Nat) (e : Int), m ≠ 0 → m < 2 ^ 24 →
      ∃ x k, split m e = (x, k) ∧ gridValue .f32 x * 2 ^ k = (m : ℚ) * 2 ^ e ∧ 0x3F800000 ≤ x ∧ x < 0x40000000 ∧
        (topSix x : ℚ) ≤ (gridValue .f32 x - 1) * 64 ∧ (gridValue .f32 x - 1) * 64 < topSix x + 1) ∧
    (∀ (neg s : Bool) (v : Nat) (n : Int), v ≤ Fmt.maxCode .f32 →
      Rounds .f32 .rne false 0 (s != neg) (gridValue .f32 v * 2 ^ n : ℚ) (scaleF32 neg (Fmt.f32.signed s v) n)) ∧
    (∀ (c : Nat) (n : Bool) (m : Nat) (e : Int) (x : Nat) (k : Int) (ix : Nat × FlagSet → FlagSet) (tab : Nat → FlagSet),
      fv c = .fin n m e → m ≠ 0 → split m e = (x, k) → (∀ r, ix r = r.2 &&& flInexact) →
      (∀ j, tab j = if j = 0 then 0#5 else flInexact) →
      (∀ j v w q r, j = topSix x → v = f32Fma x (tabRC.getD j 0) 0xBF800000 → w = f32Add v.1 0xBF800000 →
        q = f32Fma v.1 w.1 0x3F800000 → r = f32Mul (tabRC.getD j 0) q.1 →
        specialF32 .rcp c = ((scaleF32 n r.1 (-k)).1,
          tab j ||| ix v ||| ix w ||| ix q ||| ix r ||| (scaleF32 n r.1 (-k)).2)) ∧
      (n = false → ∀ y h j a v w q r, y = (if k % 2 = 0 then x else x + 2 ^ 23) → h = (if k % 2 = 0 then k else k - 1) →
        j = (if k % 2 = 0 then 0 else 32) + x / 2 ^ 18 % 32 → a = f32Mul y (tabQS.getD j 0) →
        v = f32Fma a.1 (tabQS.getD j 0) 0xBF800000 → w = f32Fma v.1 0x3EC00000 0xBF000000 → q = f32Fma v.1 w.1 0x3F800000 →
        r = f32Mul (tabQS.getD j 0) q.1 → specialF32 .rsqrt c = ((scaleF32 false r.1 (-(h / 2))).1,
          tab j ||| ix a ||| ix v ||| ix w ||| ix q ||| ix r ||| (scaleF32 false r.1 (-(h / 2))).2)) ∧
      (n = false → ∀ j v w1 w s, j = topSix x → v = f32Fma x (tabRC.getD j 0) 0xBF800000 →
        w1 = f32Fma v.1 0xBF38AA3B 0x3FB8AA3B → w = f32Mul v.1 w1.1 → s = f32Add (tabLG.getD j 0) w.1 →
        specialF32 .log2 c = ((addVal .f32 .rne false 0 (intVal k) (fv s.1)).1,
          tab j ||| ix v ||| ix w1 ||| ix w ||| ix s ||| (addVal .f32 .rne false 0 (intVal k) (fv s.1)).2)) ∧
      (n = true → specialF32 .rsqrt c = (0x7FC00000, flInvalid) ∧ specialF32 .log2 c = (0x7FC00000, flInvalid))) ∧
    (∀ (c : Nat) (n : Bool) (m : Nat) (e : Int), fv c = .fin n m e → c < 2 ^ 32 →
      (∃ (z k : Int) (t : Nat) (f w q r : Nat × FlagSet), RoundsTo (fun i => (i : ℝ)) .rne 0 n ((m : ℝ) * 2 ^ (e + 6)) t ∧
        z = (if n then -(t : Int) else (t : Int)) ∧ k = z / 64 ∧
        (∃ d : ℚ, d = finValue n m e - z / 64 ∧ ∃ (b : Bool) (g : Nat), f.1 = Fmt.f32.signed b g ∧ g ≤ Fmt.maxCode .f32 ∧
          (if b then -gridValue .f32 g else gridValue .f32 g) = d) ∧
        w = f32Fma f.1 0x3E75FDF0 0x3F317218 ∧ q = f32Fma f.1 w.1 0x3F800000 ∧ r = f32Mul (tabEX.getD (z % 64).toNat 0) q.1 ∧
        specialF32 .exp2 c = ((scaleF32 false r.1 k).1, (w.2 &&& flInexact) ||| (q.2 &&& flInexact) |||
          (if z % 64 = 0 then 0#5 else flInexact) ||| (r.2 &&& flInexact) ||| (scaleF32 false r.1 k).2))) ∧
    (∀ (c : Nat) (x : FVal) (z : Nat), x = fv c → x.isNaN = false →
      (z = (specialF32 .exp2 (mulVal .f32 .rne 0 x.abs (fv 0xC038AA3B)).1).1 → x.isNeg = (decide (c / 2 ^ 31 % 2 = 1)) →
        (cmpVal x.abs (.fin false 1 (-12)) < 0 → specialF32 .tanh c = (c, 0#5)) ∧
        (0 ≤ cmpVal x.abs (.fin false 9 0) → specialF32 .tanh c = (if x.isNeg then 0xBF800000 else 0x3F800000, 0#5)) ∧
        (0 ≤ cmpVal x.abs (.fin false 1 (-12)) → cmpVal x.abs (.fin false 9 0) < 0 → specialF32 .tanh c =
          ((mulVal .f32 .rne 0 (if x.isNeg then (fv (f32Sub 0x3F800000 z).1).neg else fv (f32Sub 0x3F800000 z).1)
            (fv (specialF32 .rcp (f32Add 0x3F800000 z).1).1)).1, 0#5))) ∧
      (z = (specialF32 .exp2 (mulVal .f32 .rne 0 x.neg (fv 0x3FB8AA3B)).1).1 →
        specialF32 .sig c = ((specialF32 .rcp (f32Add 0x3F800000 z).1).1, 0#5))) ∧
    (∀ (fn : SpecialFn) (c : Nat), ((fv c).isNaN = true →
        specialF32 fn c = (0x7FC00000, if (fv c).isSNaN = true then flInvalid else 0#5)) ∧
      ((fv c) = .inf true → specialF32 .rcp c = (0x80000000, 0#5) ∧ specialF32 .rsqrt c = (0x7FC00000, flInvalid) ∧
        specialF32 .exp2 c = (0, 0#5) ∧ specialF32 .log2 c = (0x7FC00000, flInvalid)) ∧
      ((fv c) = .inf false → specialF32 .rcp c = (0, 0#5) ∧ specialF32 .rsqrt c = (0, 0#5) ∧
        specialF32 .exp2 c = (0x7F800000, 0#5) ∧ specialF32 .log2 c = (0x7F800000, 0#5)) ∧
      (∀ n e, (fv c) = .fin n 0 e → specialF32 .rcp c = (if n then 0xFF800000 else 0x7F800000, 0#5) ∧
        specialF32 .rsqrt c = (if n then 0xFF800000 else 0x7F800000, 0#5) ∧ specialF32 .log2 c = (0xFF800000, 0#5)) ∧
      (∀ f : Fmt, f ≠ .f32 → ∃ w r d, w = cvtVal .f32 .rne true 0 (f.decode c) ∧ r = specialF32 fn w.1 ∧
        d = cvtVal f .rne true 0 (fv r.1) ∧ specialVal fn f c = (d.1, w.2 ||| r.2 ||| d.2)) ∧
      specialVal fn .f32 c = specialF32 fn c) ∧
    (∀ j, j < 64 → ∀ rc lg ex qs u : ℚ, rc = gridValue .f32 (tabRC.getD j 0) → lg = gridValue .f32 (tabLG.getD j 0) →
      ex = gridValue .f32 (tabEX.getD j 0) → qs = gridValue .f32 (tabQS.getD j 0) →
      u = (if j < 32 then 1 + (j : ℚ) / 32 else 2 + ((j : ℚ) - 32) / 16) →
      (rc - 1 / 2 ^ 25) * (1 + (j : ℚ) / 64) < 1 ∧ 1 < (rc + 1 / 2 ^ 25) * (1 + (j : ℚ) / 64) ∧
      (ex - 1 / 2 ^ 24) ^ 64 < 2 ^ j ∧ (2 : ℚ) ^ j < (ex + 1 / 2 ^ 24) ^ 64 ∧
      (qs - 1 / 2 ^ 25) ^ 2 * u < 1 ∧ 1 < (qs + 1 / 2 ^ 25) ^ 2 * u ∧
      (2 : ℚ) ^ (⌊256 * lg⌋) * rc ^ 256 ≤ 1 ∧ 1 < (2 : ℚ) ^ (⌊256 * lg⌋ + 1) * rc ^ 256)) ∧
  ((∀ (x table : Shape) (sg : Bool) (c t : Nat), x.ty = .int sg 32 →
      (tableIndex x table c = some t ↔ intOf sg 32 c = (t : Int) ∧ t < table.count)) ∧
    (∀ (k : Nat) (e : VEntry) (j c : Nat) (s s1 : State), readElem k e.shA e.popA j s = .ok c s1 →
      (tableIndex e.shA e.shB c = none → ∀ w s2, destOf k e.shD j s1 = .ok w s2 →
        unitGather k e j s = deliver k e.shD j 0 w { e with fl := e.fl ||| flInvalid } s2) ∧
      (∀ t v w r s2 s3, tableIndex e.shA e.shB c = some t → readElem k e.shB e.popB t s1 = .ok v s2 →
        destOf k e.shD j s2 = .ok w s3 → r = copyBits e.sd.ty v →
        unitGather k e j s = deliver k e.shD j r.1 w { e with fl := e.fl ||| r.2 } s3) ∧
      (tableIndex e.shA e.shD c = none → unitScatter k e j s = .ok { e with fl := e.fl ||| flInvalid } s1) ∧
      (∀ t v w r s2 s3, tableIndex e.shA e.shD c = some t → readElem k e.shB e.popB j s1 = .ok v s2 → e.op ≠ .vscatAdd →
        destOf k e.shD t s2 = .ok w s3 → r = copyBits e.sd.ty v →
        unitScatter k e j s = deliver k e.shD t r.1 w { e with fl := e.fl ||| r.2 } s3) ∧
      (∀ t v w r old s2 s3 s4, tableIndex e.shA e.shD c = some t → readElem k e.shB e.popB j s1 = .ok v s2 → e.op = .vscatAdd →
        readElem k e.shD [] t s2 = .ok old s3 → destOf k e.shD t s3 = .ok w s4 →
        r = arith .vadd e.sd.ty e.k e.mode' (e.draw j) old v 0 →
        unitScatter k e j s = deliver k e.shD t r.1 w { e with fl := e.fl ||| r.2 } s4)) ∧
    (∀ (d : Nat → Nat) (n m : Nat) (r : List (Nat × Nat)), 0 < m →
      r = (List.range n).foldl (fun acc j => (insertNearest j (d j) acc).take m) [] →
      r.length = min n m ∧ (∀ p ∈ r, p.1 < n ∧ p.2 = d p.1) ∧
      r.Pairwise (fun p q => p.2 < q.2 ∨ (p.2 = q.2 ∧ p.1 < q.1)) ∧
      ∀ i, i < n → (i, d i) ∉ r → ∀ p ∈ r, p.2 < d i ∨ (p.2 = d i ∧ p.1 < i)) ∧
    (∀ (k : Nat) (e : VEntry) (j v dist : Nat) (s s1 : State) (t : Strand), s.strand k e.slot = some t →
      readElem k e.shA [] j s = .ok v s1 →
      dist = ((List.range 8192).filter (fun i => (BitVec.ofNat 8192 v).getLsbD i != (t.getH e.hb).getLsbD i)).length →
      (e.op = .hsrch → unitSearch k e j s = .ok { e with res := (insertNearest j dist e.res).take 1 } s1) ∧
      (e.op = .hsrchk → unitSearch k e j s = .ok { e with res := (insertNearest j dist e.res).take 4 } s1) ∧
      (e.op = .hsrcht → (e.g.lo.toNat < dist → unitSearch k e j s = .ok e s1) ∧
        (dist ≤ e.g.lo.toNat → ∀ n, n = (e.res.headD (0, 0)).1 →
          (e.sd.count ≤ n → unitSearch k e j s = .ok { e with res := [(n + 1, 0)] } s1) ∧
          (∀ w s2 e3 s3, n < e.sd.count → destOf k e.shD n s1 = .ok w s2 → deliver k e.shD n j w e s2 = .ok e3 s3 →
            unitSearch k e j s = .ok { e with res := [(n + 1, 0)] } s3)))) ∧
    (∀ (e : VEntry) (i : Nat), e.results = (match e.op with
        | .hsrch => [(e.gd, (e.res.headD (0, 0)).1), (e.gd + 1, (e.res.headD (0, 0)).2)]
        | .hsrchk => (List.range 4).map (fun i => (e.gd + i, searchWord e.res i))
        | _ => if 1 ≤ e.gd ∧ e.gd ≤ 55 then [(e.gd, (e.res.headD (0, 0)).1)] else []) ∧
      (e.res.length ≤ i → searchWord e.res i = 2 ^ 64 - 1) ∧
      (∀ p, e.res[i]? = some p → p.1 < 2 ^ 32 → searchWord e.res i = p.1 + p.2 * 2 ^ 32)) ∧
    (∀ (k : Nat) (x : Shape) (j v : Nat) (e : VEntry) (s : State) (locs : List (Nat × Nat)),
      deliver k x j v (.mem locs) e s = .ok e (s.writeElem k x j locs v) ∧
      deliver k x j v .chan e s = .ok { e with pushD := packBits e.pushD (j * x.ty.bits) x.ty.bits v } s))

end
end

