-- ==== Sys2Proof/Laws/Encoding.lean ====
section
/-! SUPPORT. The fields of a word that an encoder has put together, format by format (R58). -/
namespace Sys2Proof

open BitVec

/-- A part of a field of a word, through the field. -/
theorem field_part (x : BitVec 32) (p w st n : Nat) (h : p ≤ st) (hn : st + n ≤ p + w) :
    x.extractLsb' st n = (x.extractLsb' p w).extractLsb' (st - p) n := by
  apply eq_of_getLsbD_eq
  intro i hi
  have h1 : st - p + i < w := by omega
  have h2 : p + (st - p + i) = st + i := by omega
  simp [hi, h1, h2]

/-! ### encA -/

@[simp] theorem encA_op (fn : BitVec 5) (sc : BitVec 2) (b a d : BitVec 6) (op : BitVec 7) :
    (encA fn sc b a d op).extractLsb' 0 7 = op := by
  unfold encA
  rw [extractLsb'_append_eq_of_add_le (by decide)]
  simp

@[simp] theorem encA_d (fn : BitVec 5) (sc : BitVec 2) (b a d : BitVec 6) (op : BitVec 7) :
    (encA fn sc b a d op).extractLsb' 7 6 = d := by
  unfold encA
  rw [extractLsb'_append_eq_of_le (by decide), extractLsb'_append_eq_of_add_le (by decide)]
  simp

@[simp] theorem encA_a (fn : BitVec 5) (sc : BitVec 2) (b a d : BitVec 6) (op : BitVec 7) :
    (encA fn sc b a d op).extractLsb' 13 6 = a := by
  unfold encA
  rw [extractLsb'_append_eq_of_le (by decide), extractLsb'_append_eq_of_le (by decide), extractLsb'_append_eq_of_add_le (by decide)]
  simp

@[simp] theorem encA_b (fn : BitVec 5) (sc : BitVec 2) (b a d : BitVec 6) (op : BitVec 7) :
    (encA fn sc b a d op).extractLsb' 19 6 = b := by
  unfold encA
  rw [extractLsb'_append_eq_of_le (by decide), extractLsb'_append_eq_of_le (by decide), extractLsb'_append_eq_of_le (by decide), extractLsb'_append_eq_of_add_le (by decide)]
  simp

@[simp] theorem encA_sc (fn : BitVec 5) (sc : BitVec 2) (b a d : BitVec 6) (op : BitVec 7) :
    (encA fn sc b a d op).extractLsb' 25 2 = sc := by
  unfold encA
  rw [extractLsb'_append_eq_of_le (by decide), extractLsb'_append_eq_of_le (by decide), extractLsb'_append_eq_of_le (by decide), extractLsb'_append_eq_of_le (by decide), extractLsb'_append_eq_of_add_le (by decide)]
  simp

@[simp] theorem encA_fn (fn : BitVec 5) (sc : BitVec 2) (b a d : BitVec 6) (op : BitVec 7) :
    (encA fn sc b a d op).extractLsb' 27 5 = fn := by
  unfold encA
  rw [extractLsb'_append_eq_of_le (by decide), extractLsb'_append_eq_of_le (by decide), extractLsb'_append_eq_of_le (by decide), extractLsb'_append_eq_of_le (by decide), extractLsb'_append_eq_of_le (by decide)]
  simp

/-! ### encI -/

@[simp] theorem encI_op (imm : BitVec 13) (a d : BitVec 6) (op : BitVec 7) :
    (encI imm a d op).extractLsb' 0 7 = op := by
  unfold encI
  rw [extractLsb'_append_eq_of_add_le (by decide)]
  simp

@[simp] theorem encI_d (imm : BitVec 13) (a d : BitVec 6) (op : BitVec 7) :
    (encI imm a d op).extractLsb' 7 6 = d := by
  unfold encI
  rw [extractLsb'_append_eq_of_le (by decide), extractLsb'_append_eq_of_add_le (by decide)]
  simp

@[simp] theorem encI_a (imm : BitVec 13) (a d : BitVec 6) (op : BitVec 7) :
    (encI imm a d op).extractLsb' 13 6 = a := by
  unfold encI
  rw [extractLsb'_append_eq_of_le (by decide), extractLsb'_append_eq_of_le (by decide), extractLsb'_append_eq_of_add_le (by decide)]
  simp

@[simp] theorem encI_imm (imm : BitVec 13) (a d : BitVec 6) (op : BitVec 7) :
    (encI imm a d op).extractLsb' 19 13 = imm := by
  unfold encI
  rw [extractLsb'_append_eq_of_le (by decide), extractLsb'_append_eq_of_le (by decide), extractLsb'_append_eq_of_le (by decide)]
  simp

/-! ### encS -/

@[simp] theorem encS_op (hi : BitVec 7) (b a lo : BitVec 6) (op : BitVec 7) :
    (encS hi b a lo op).extractLsb' 0 7 = op := by
  unfold encS
  rw [extractLsb'_append_eq_of_add_le (by decide)]
  simp

@[simp] theorem encS_lo (hi : BitVec 7) (b a lo : BitVec 6) (op : BitVec 7) :
    (encS hi b a lo op).extractLsb' 7 6 = lo := by
  unfold encS
  rw [extractLsb'_append_eq_of_le (by decide), extractLsb'_append_eq_of_add_le (by decide)]
  simp

@[simp] theorem encS_a (hi : BitVec 7) (b a lo : BitVec 6) (op : BitVec 7) :
    (encS hi b a lo op).extractLsb' 13 6 = a := by
  unfold encS
  rw [extractLsb'_append_eq_of_le (by decide), extractLsb'_append_eq_of_le (by decide), extractLsb'_append_eq_of_add_le (by decide)]
  simp

@[simp] theorem encS_b (hi : BitVec 7) (b a lo : BitVec 6) (op : BitVec 7) :
    (encS hi b a lo op).extractLsb' 19 6 = b := by
  unfold encS
  rw [extractLsb'_append_eq_of_le (by decide), extractLsb'_append_eq_of_le (by decide), extractLsb'_append_eq_of_le (by decide), extractLsb'_append_eq_of_add_le (by decide)]
  simp

@[simp] theorem encS_hi (hi : BitVec 7) (b a lo : BitVec 6) (op : BitVec 7) :
    (encS hi b a lo op).extractLsb' 25 7 = hi := by
  unfold encS
  rw [extractLsb'_append_eq_of_le (by decide), extractLsb'_append_eq_of_le (by decide), extractLsb'_append_eq_of_le (by decide), extractLsb'_append_eq_of_le (by decide)]
  simp

/-! ### encB -/

@[simp] theorem encB_op (imm : BitVec 13) (b a : BitVec 6) (op : BitVec 7) :
    (encB imm b a op).extractLsb' 0 7 = op := by
  unfold encB
  rw [extractLsb'_append_eq_of_add_le (by decide)]
  simp

@[simp] theorem encB_a (imm : BitVec 13) (b a : BitVec 6) (op : BitVec 7) :
    (encB imm b a op).extractLsb' 7 6 = a := by
  unfold encB
  rw [extractLsb'_append_eq_of_le (by decide), extractLsb'_append_eq_of_add_le (by decide)]
  simp

@[simp] theorem encB_b (imm : BitVec 13) (b a : BitVec 6) (op : BitVec 7) :
    (encB imm b a op).extractLsb' 13 6 = b := by
  unfold encB
  rw [extractLsb'_append_eq_of_le (by decide), extractLsb'_append_eq_of_le (by decide), extractLsb'_append_eq_of_add_le (by decide)]
  simp

@[simp] theorem encB_imm (imm : BitVec 13) (b a : BitVec 6) (op : BitVec 7) :
    (encB imm b a op).extractLsb' 19 13 = imm := by
  unfold encB
  rw [extractLsb'_append_eq_of_le (by decide), extractLsb'_append_eq_of_le (by decide), extractLsb'_append_eq_of_le (by decide)]
  simp

/-! ### encU -/

@[simp] theorem encU_op (imm : BitVec 19) (d : BitVec 6) (op : BitVec 7) :
    (encU imm d op).extractLsb' 0 7 = op := by
  unfold encU
  rw [extractLsb'_append_eq_of_add_le (by decide)]
  simp

@[simp] theorem encU_d (imm : BitVec 19) (d : BitVec 6) (op : BitVec 7) :
    (encU imm d op).extractLsb' 7 6 = d := by
  unfold encU
  rw [extractLsb'_append_eq_of_le (by decide), extractLsb'_append_eq_of_add_le (by decide)]
  simp

@[simp] theorem encU_imm (imm : BitVec 19) (d : BitVec 6) (op : BitVec 7) :
    (encU imm d op).extractLsb' 13 19 = imm := by
  unfold encU
  rw [extractLsb'_append_eq_of_le (by decide), extractLsb'_append_eq_of_le (by decide)]
  simp

/-! ### encQ -/

@[simp] theorem encQ_op (f : BitVec 1) (c b a d : BitVec 6) (op : BitVec 7) :
    (encQ f c b a d op).extractLsb' 0 7 = op := by
  unfold encQ
  rw [extractLsb'_append_eq_of_add_le (by decide)]
  simp

@[simp] theorem encQ_d (f : BitVec 1) (c b a d : BitVec 6) (op : BitVec 7) :
    (encQ f c b a d op).extractLsb' 7 6 = d := by
  unfold encQ
  rw [extractLsb'_append_eq_of_le (by decide), extractLsb'_append_eq_of_add_le (by decide)]
  simp

@[simp] theorem encQ_a (f : BitVec 1) (c b a d : BitVec 6) (op : BitVec 7) :
    (encQ f c b a d op).extractLsb' 13 6 = a := by
  unfold encQ
  rw [extractLsb'_append_eq_of_le (by decide), extractLsb'_append_eq_of_le (by decide), extractLsb'_append_eq_of_add_le (by decide)]
  simp

@[simp] theorem encQ_b (f : BitVec 1) (c b a d : BitVec 6) (op : BitVec 7) :
    (encQ f c b a d op).extractLsb' 19 6 = b := by
  unfold encQ
  rw [extractLsb'_append_eq_of_le (by decide), extractLsb'_append_eq_of_le (by decide), extractLsb'_append_eq_of_le (by decide), extractLsb'_append_eq_of_add_le (by decide)]
  simp

@[simp] theorem encQ_c (f : BitVec 1) (c b a d : BitVec 6) (op : BitVec 7) :
    (encQ f c b a d op).extractLsb' 25 6 = c := by
  unfold encQ
  rw [extractLsb'_append_eq_of_le (by decide), extractLsb'_append_eq_of_le (by decide), extractLsb'_append_eq_of_le (by decide), extractLsb'_append_eq_of_le (by decide), extractLsb'_append_eq_of_add_le (by decide)]
  simp

@[simp] theorem encQ_f (f : BitVec 1) (c b a d : BitVec 6) (op : BitVec 7) :
    (encQ f c b a d op).extractLsb' 31 1 = f := by
  unfold encQ
  rw [extractLsb'_append_eq_of_le (by decide), extractLsb'_append_eq_of_le (by decide), extractLsb'_append_eq_of_le (by decide), extractLsb'_append_eq_of_le (by decide), extractLsb'_append_eq_of_le (by decide)]
  simp

/-! ### encM -/

@[simp] theorem encM_op (scope : BitVec 3) (ord fn2 : BitVec 2) (b a d : BitVec 6) (op : BitVec 7) :
    (encM scope ord fn2 b a d op).extractLsb' 0 7 = op := by
  unfold encM
  rw [extractLsb'_append_eq_of_add_le (by decide)]
  simp

@[simp] theorem encM_d (scope : BitVec 3) (ord fn2 : BitVec 2) (b a d : BitVec 6) (op : BitVec 7) :
    (encM scope ord fn2 b a d op).extractLsb' 7 6 = d := by
  unfold encM
  rw [extractLsb'_append_eq_of_le (by decide), extractLsb'_append_eq_of_add_le (by decide)]
  simp

@[simp] theorem encM_a (scope : BitVec 3) (ord fn2 : BitVec 2) (b a d : BitVec 6) (op : BitVec 7) :
    (encM scope ord fn2 b a d op).extractLsb' 13 6 = a := by
  unfold encM
  rw [extractLsb'_append_eq_of_le (by decide), extractLsb'_append_eq_of_le (by decide), extractLsb'_append_eq_of_add_le (by decide)]
  simp

@[simp] theorem encM_b (scope : BitVec 3) (ord fn2 : BitVec 2) (b a d : BitVec 6) (op : BitVec 7) :
    (encM scope ord fn2 b a d op).extractLsb' 19 6 = b := by
  unfold encM
  rw [extractLsb'_append_eq_of_le (by decide), extractLsb'_append_eq_of_le (by decide), extractLsb'_append_eq_of_le (by decide), extractLsb'_append_eq_of_add_le (by decide)]
  simp

@[simp] theorem encM_fn2 (scope : BitVec 3) (ord fn2 : BitVec 2) (b a d : BitVec 6) (op : BitVec 7) :
    (encM scope ord fn2 b a d op).extractLsb' 25 2 = fn2 := by
  unfold encM
  rw [extractLsb'_append_eq_of_le (by decide), extractLsb'_append_eq_of_le (by decide), extractLsb'_append_eq_of_le (by decide), extractLsb'_append_eq_of_le (by decide), extractLsb'_append_eq_of_add_le (by decide)]
  simp

@[simp] theorem encM_ord (scope : BitVec 3) (ord fn2 : BitVec 2) (b a d : BitVec 6) (op : BitVec 7) :
    (encM scope ord fn2 b a d op).extractLsb' 27 2 = ord := by
  unfold encM
  rw [extractLsb'_append_eq_of_le (by decide), extractLsb'_append_eq_of_le (by decide), extractLsb'_append_eq_of_le (by decide), extractLsb'_append_eq_of_le (by decide), extractLsb'_append_eq_of_le (by decide), extractLsb'_append_eq_of_add_le (by decide)]
  simp

@[simp] theorem encM_scope (scope : BitVec 3) (ord fn2 : BitVec 2) (b a d : BitVec 6) (op : BitVec 7) :
    (encM scope ord fn2 b a d op).extractLsb' 29 3 = scope := by
  unfold encM
  rw [extractLsb'_append_eq_of_le (by decide), extractLsb'_append_eq_of_le (by decide), extractLsb'_append_eq_of_le (by decide), extractLsb'_append_eq_of_le (by decide), extractLsb'_append_eq_of_le (by decide), extractLsb'_append_eq_of_le (by decide)]
  simp

/-! ### encV -/

@[simp] theorem encV_op (fn : BitVec 5) (o : BitVec 1) (g : BitVec 6) (sb sa : BitVec 4) (k : BitVec 1) (sd : BitVec 4) (op : BitVec 7) :
    (encV fn o g sb sa k sd op).extractLsb' 0 7 = op := by
  unfold encV
  rw [extractLsb'_append_eq_of_add_le (by decide)]
  simp

@[simp] theorem encV_sd (fn : BitVec 5) (o : BitVec 1) (g : BitVec 6) (sb sa : BitVec 4) (k : BitVec 1) (sd : BitVec 4) (op : BitVec 7) :
    (encV fn o g sb sa k sd op).extractLsb' 7 4 = sd := by
  unfold encV
  rw [extractLsb'_append_eq_of_le (by decide), extractLsb'_append_eq_of_add_le (by decide)]
  simp

@[simp] theorem encV_k (fn : BitVec 5) (o : BitVec 1) (g : BitVec 6) (sb sa : BitVec 4) (k : BitVec 1) (sd : BitVec 4) (op : BitVec 7) :
    (encV fn o g sb sa k sd op).extractLsb' 11 1 = k := by
  unfold encV
  rw [extractLsb'_append_eq_of_le (by decide), extractLsb'_append_eq_of_le (by decide), extractLsb'_append_eq_of_add_le (by decide)]
  simp

@[simp] theorem encV_sa (fn : BitVec 5) (o : BitVec 1) (g : BitVec 6) (sb sa : BitVec 4) (k : BitVec 1) (sd : BitVec 4) (op : BitVec 7) :
    (encV fn o g sb sa k sd op).extractLsb' 12 4 = sa := by
  unfold encV
  rw [extractLsb'_append_eq_of_le (by decide), extractLsb'_append_eq_of_le (by decide), extractLsb'_append_eq_of_le (by decide), extractLsb'_append_eq_of_add_le (by decide)]
  simp

@[simp] theorem encV_sb (fn : BitVec 5) (o : BitVec 1) (g : BitVec 6) (sb sa : BitVec 4) (k : BitVec 1) (sd : BitVec 4) (op : BitVec 7) :
    (encV fn o g sb sa k sd op).extractLsb' 16 4 = sb := by
  unfold encV
  rw [extractLsb'_append_eq_of_le (by decide), extractLsb'_append_eq_of_le (by decide), extractLsb'_append_eq_of_le (by decide), extractLsb'_append_eq_of_le (by decide), extractLsb'_append_eq_of_add_le (by decide)]
  simp

@[simp] theorem encV_g (fn : BitVec 5) (o : BitVec 1) (g : BitVec 6) (sb sa : BitVec 4) (k : BitVec 1) (sd : BitVec 4) (op : BitVec 7) :
    (encV fn o g sb sa k sd op).extractLsb' 20 6 = g := by
  unfold encV
  rw [extractLsb'_append_eq_of_le (by decide), extractLsb'_append_eq_of_le (by decide), extractLsb'_append_eq_of_le (by decide), extractLsb'_append_eq_of_le (by decide), extractLsb'_append_eq_of_le (by decide), extractLsb'_append_eq_of_add_le (by decide)]
  simp

@[simp] theorem encV_o (fn : BitVec 5) (o : BitVec 1) (g : BitVec 6) (sb sa : BitVec 4) (k : BitVec 1) (sd : BitVec 4) (op : BitVec 7) :
    (encV fn o g sb sa k sd op).extractLsb' 26 1 = o := by
  unfold encV
  rw [extractLsb'_append_eq_of_le (by decide), extractLsb'_append_eq_of_le (by decide), extractLsb'_append_eq_of_le (by decide), extractLsb'_append_eq_of_le (by decide), extractLsb'_append_eq_of_le (by decide), extractLsb'_append_eq_of_le (by decide), extractLsb'_append_eq_of_add_le (by decide)]
  simp

@[simp] theorem encV_fn (fn : BitVec 5) (o : BitVec 1) (g : BitVec 6) (sb sa : BitVec 4) (k : BitVec 1) (sd : BitVec 4) (op : BitVec 7) :
    (encV fn o g sb sa k sd op).extractLsb' 27 5 = fn := by
  unfold encV
  rw [extractLsb'_append_eq_of_le (by decide), extractLsb'_append_eq_of_le (by decide), extractLsb'_append_eq_of_le (by decide), extractLsb'_append_eq_of_le (by decide), extractLsb'_append_eq_of_le (by decide), extractLsb'_append_eq_of_le (by decide), extractLsb'_append_eq_of_le (by decide)]
  simp

/-! ### encH -/

@[simp] theorem encH_op (fn : BitVec 5) (mode : BitVec 2) (g : BitVec 6) (hb ha hd : BitVec 3) (tie : BitVec 2) (y : BitVec 1) (op : BitVec 7) :
    (encH fn mode g hb ha hd tie y op).extractLsb' 0 7 = op := by
  unfold encH
  rw [extractLsb'_append_eq_of_add_le (by decide)]
  simp

@[simp] theorem encH_y (fn : BitVec 5) (mode : BitVec 2) (g : BitVec 6) (hb ha hd : BitVec 3) (tie : BitVec 2) (y : BitVec 1) (op : BitVec 7) :
    (encH fn mode g hb ha hd tie y op).extractLsb' 7 1 = y := by
  unfold encH
  rw [extractLsb'_append_eq_of_le (by decide), extractLsb'_append_eq_of_add_le (by decide)]
  simp

@[simp] theorem encH_tie (fn : BitVec 5) (mode : BitVec 2) (g : BitVec 6) (hb ha hd : BitVec 3) (tie : BitVec 2) (y : BitVec 1) (op : BitVec 7) :
    (encH fn mode g hb ha hd tie y op).extractLsb' 8 2 = tie := by
  unfold encH
  rw [extractLsb'_append_eq_of_le (by decide), extractLsb'_append_eq_of_le (by decide), extractLsb'_append_eq_of_add_le (by decide)]
  simp

@[simp] theorem encH_hd (fn : BitVec 5) (mode : BitVec 2) (g : BitVec 6) (hb ha hd : BitVec 3) (tie : BitVec 2) (y : BitVec 1) (op : BitVec 7) :
    (encH fn mode g hb ha hd tie y op).extractLsb' 10 3 = hd := by
  unfold encH
  rw [extractLsb'_append_eq_of_le (by decide), extractLsb'_append_eq_of_le (by decide), extractLsb'_append_eq_of_le (by decide), extractLsb'_append_eq_of_add_le (by decide)]
  simp

@[simp] theorem encH_ha (fn : BitVec 5) (mode : BitVec 2) (g : BitVec 6) (hb ha hd : BitVec 3) (tie : BitVec 2) (y : BitVec 1) (op : BitVec 7) :
    (encH fn mode g hb ha hd tie y op).extractLsb' 13 3 = ha := by
  unfold encH
  rw [extractLsb'_append_eq_of_le (by decide), extractLsb'_append_eq_of_le (by decide), extractLsb'_append_eq_of_le (by decide), extractLsb'_append_eq_of_le (by decide), extractLsb'_append_eq_of_add_le (by decide)]
  simp

@[simp] theorem encH_hb (fn : BitVec 5) (mode : BitVec 2) (g : BitVec 6) (hb ha hd : BitVec 3) (tie : BitVec 2) (y : BitVec 1) (op : BitVec 7) :
    (encH fn mode g hb ha hd tie y op).extractLsb' 16 3 = hb := by
  unfold encH
  rw [extractLsb'_append_eq_of_le (by decide), extractLsb'_append_eq_of_le (by decide), extractLsb'_append_eq_of_le (by decide), extractLsb'_append_eq_of_le (by decide), extractLsb'_append_eq_of_le (by decide), extractLsb'_append_eq_of_add_le (by decide)]
  simp

@[simp] theorem encH_g (fn : BitVec 5) (mode : BitVec 2) (g : BitVec 6) (hb ha hd : BitVec 3) (tie : BitVec 2) (y : BitVec 1) (op : BitVec 7) :
    (encH fn mode g hb ha hd tie y op).extractLsb' 19 6 = g := by
  unfold encH
  rw [extractLsb'_append_eq_of_le (by decide), extractLsb'_append_eq_of_le (by decide), extractLsb'_append_eq_of_le (by decide), extractLsb'_append_eq_of_le (by decide), extractLsb'_append_eq_of_le (by decide), extractLsb'_append_eq_of_le (by decide), extractLsb'_append_eq_of_add_le (by decide)]
  simp

@[simp] theorem encH_mode (fn : BitVec 5) (mode : BitVec 2) (g : BitVec 6) (hb ha hd : BitVec 3) (tie : BitVec 2) (y : BitVec 1) (op : BitVec 7) :
    (encH fn mode g hb ha hd tie y op).extractLsb' 25 2 = mode := by
  unfold encH
  rw [extractLsb'_append_eq_of_le (by decide), extractLsb'_append_eq_of_le (by decide), extractLsb'_append_eq_of_le (by decide), extractLsb'_append_eq_of_le (by decide), extractLsb'_append_eq_of_le (by decide), extractLsb'_append_eq_of_le (by decide), extractLsb'_append_eq_of_le (by decide), extractLsb'_append_eq_of_add_le (by decide)]
  simp

@[simp] theorem encH_fn (fn : BitVec 5) (mode : BitVec 2) (g : BitVec 6) (hb ha hd : BitVec 3) (tie : BitVec 2) (y : BitVec 1) (op : BitVec 7) :
    (encH fn mode g hb ha hd tie y op).extractLsb' 27 5 = fn := by
  unfold encH
  rw [extractLsb'_append_eq_of_le (by decide), extractLsb'_append_eq_of_le (by decide), extractLsb'_append_eq_of_le (by decide), extractLsb'_append_eq_of_le (by decide), extractLsb'_append_eq_of_le (by decide), extractLsb'_append_eq_of_le (by decide), extractLsb'_append_eq_of_le (by decide), extractLsb'_append_eq_of_le (by decide)]
  simp

end Sys2Proof
end

