-- ==== Sys2Proof/Laws/KMap.lean ====
section
/-! SUPPORT. Tables: reading after writing, and the canonical form kept. -/
namespace Sys2Proof.Machine

@[simp] theorem kfind_nil {α : Type} (k : Nat) : kfind k ([] : List (Nat × α)) = none := rfl

/-- The value just set is found. -/
@[simp] theorem kfind_kset_same {α : Type} (k : Nat) (v : α) (m : List (Nat × α)) : kfind k (kset k v m) = some v := by
  induction m with
  | nil => simp [kset, kfind]
  | cons e m ih =>
    simp only [kset]
    split
    · simp [kfind]
    · split
      · simp [kfind]
      · rename_i h; simp [kfind, h, ih]

/-- Setting one key leaves the others. -/
theorem kfind_kset_ne {α : Type} {k j : Nat} (h : j ≠ k) (v : α) (m : List (Nat × α)) :
    kfind j (kset k v m) = kfind j m := by
  induction m with
  | nil => simp [kset, kfind, Ne.symm h]
  | cons e m ih =>
    obtain ⟨i, w⟩ := e
    simp only [kset]
    split
    · simp [kfind, Ne.symm h]
    · split
      · rename_i _ hi; subst hi; simp [kfind, Ne.symm h]
      · simp only [kfind, ih]

/-- A removed key is absent. -/
@[simp] theorem kfind_kdel_same {α : Type} (k : Nat) (m : List (Nat × α)) : kfind k (kdel k m) = none := by
  induction m with
  | nil => rfl
  | cons e m ih =>
    by_cases h : e.1 = k
    · simpa [kdel, h] using ih
    · simpa [kdel, kfind, h] using ih

/-- Removing one key leaves the others. -/
theorem kfind_kdel_ne {α : Type} {k j : Nat} (h : j ≠ k) (m : List (Nat × α)) : kfind j (kdel k m) = kfind j m := by
  induction m with
  | nil => rfl
  | cons e m ih =>
    obtain ⟨i, w⟩ := e
    by_cases hk : i = k
    · have hf : kdel k ((i, w) :: m) = kdel k m := by simp [kdel, hk]
      have hj : i ≠ j := fun hj => h (hj.symm.trans hk)
      rw [hf, ih]; simp [kfind, hj]
    · have hf : kdel k ((i, w) :: m) = (i, w) :: kdel k m := by simp [kdel, hk]
      rw [hf]; simp only [kfind, ih]

/-- Reading the key just put. -/
@[simp] theorem kget_kput_same {α : Type} [DecidableEq α] (d : α) (k : Nat) (v : α) (m : List (Nat × α)) :
    kget d k (kput d k v m) = v := by
  unfold kput kget
  split
  · rename_i h; simp [h]
  · simp

/-- Putting one key leaves the others. -/
theorem kget_kput_ne {α : Type} [DecidableEq α] {d : α} {k j : Nat} (h : j ≠ k) (v : α) (m : List (Nat × α)) :
    kget d j (kput d k v m) = kget d j m := by
  unfold kput kget
  split
  · rw [kfind_kdel_ne h]
  · rw [kfind_kset_ne h]

@[simp] theorem kget_kset_same {α : Type} (d : α) (k : Nat) (v : α) (m : List (Nat × α)) : kget d k (kset k v m) = v := by
  simp [kget]

theorem kget_kset_ne {α : Type} {d : α} {k j : Nat} (h : j ≠ k) (v : α) (m : List (Nat × α)) :
    kget d j (kset k v m) = kget d j m := by
  simp [kget, kfind_kset_ne h]

/-- The keys of a table with one more key set. -/
theorem mem_kset {α : Type} {k : Nat} {v : α} {m : List (Nat × α)} {e : Nat × α} (h : e ∈ kset k v m) :
    e = (k, v) ∨ e ∈ m := by
  induction m with
  | nil => simpa [kset] using h
  | cons f m ih =>
    obtain ⟨j, w⟩ := f
    simp only [kset] at h
    split at h
    · simpa using h
    · split at h
      · rcases List.mem_cons.mp h with h | h
        · exact .inl h
        · exact .inr (List.mem_cons_of_mem _ h)
      · rcases List.mem_cons.mp h with h | h
        · exact .inr (h ▸ List.mem_cons_self)
        · rcases ih h with h | h
          · exact .inl h
          · exact .inr (List.mem_cons_of_mem _ h)

/-- Removing a key keeps the canonical form. -/
theorem kwf_kdel {α : Type} [DecidableEq α] {d : α} {m : List (Nat × α)} (h : kwf d m = true) (k : Nat) :
    kwf d (kdel k m) = true := by
  induction m with
  | nil => rfl
  | cons e m ih =>
    obtain ⟨j, v⟩ := e
    simp only [kwf, Bool.and_eq_true, List.all_eq_true, decide_eq_true_eq] at h
    obtain ⟨⟨hv, ha⟩, hm⟩ := h
    by_cases hj : j = k
    · simpa [kdel, hj] using ih hm
    · simp only [kdel, List.filter_cons, ne_eq, hj, not_false_eq_true, decide_true, ↓reduceIte, kwf, Bool.and_eq_true,
        List.all_eq_true, decide_eq_true_eq]
      exact ⟨⟨hv, fun e he => ha e (List.mem_filter.mp he).1⟩, ih hm⟩

/-- Setting a key to a value other than the absent one keeps the canonical form. -/
theorem kwf_kset {α : Type} [DecidableEq α] {d : α} {m : List (Nat × α)} (h : kwf d m = true) (k : Nat) {v : α} (hv : v ≠ d) :
    kwf d (kset k v m) = true := by
  induction m with
  | nil => simp [kset, kwf, hv]
  | cons e m ih =>
    obtain ⟨j, w⟩ := e
    have h0 := h
    simp only [kwf, Bool.and_eq_true, List.all_eq_true, decide_eq_true_eq] at h
    obtain ⟨⟨hw, ha⟩, hm⟩ := h
    simp only [kset]
    split
    · rename_i hk
      simp only [kwf, Bool.and_eq_true, List.all_eq_true, decide_eq_true_eq]
      refine ⟨⟨hv, fun e he => ?_⟩, ⟨⟨hw, ha⟩, hm⟩⟩
      rcases List.mem_cons.mp he with rfl | he
      · exact hk
      · exact Nat.lt_trans hk (ha e he)
    · split
      · rename_i hj
        subst hj
        simp only [kwf, Bool.and_eq_true, List.all_eq_true, decide_eq_true_eq]
        exact ⟨⟨hv, ha⟩, hm⟩
      · rename_i h1 h2
        simp only [kwf, Bool.and_eq_true, List.all_eq_true, decide_eq_true_eq]
        refine ⟨⟨hw, fun e he => ?_⟩, ih hm⟩
        rcases mem_kset he with rfl | he
        · show j < k; omega
        · exact ha e he

/-- Putting any value keeps the canonical form. -/
theorem kwf_kput {α : Type} [DecidableEq α] {d : α} {m : List (Nat × α)} (h : kwf d m = true) (k : Nat) (v : α) :
    kwf d (kput d k v m) = true := by
  unfold kput
  split
  · exact kwf_kdel h k
  · rename_i hv; exact kwf_kset h k hv

end Sys2Proof.Machine
end

