-- ==== Sys2Proof/Laws/State.lean ====
section
/-! SUPPORT. What the updates of the state leave alone, field by field, and what a lookup finds after them. -/
namespace Sys2Proof.Machine

/-! ### Updates of one core or strand change nothing but the table of cores -/

@[simp] theorem setCore_now (s : State) (k : Nat) (c : Core) : (s.setCore k c).now = s.now := rfl
@[simp] theorem setCore_timeAdj (s : State) (k : Nat) (c : Core) : (s.setCore k c).timeAdj = s.timeAdj := rfl
@[simp] theorem setCore_turn (s : State) (k : Nat) (c : Core) : (s.setCore k c).turn = s.turn := rfl
@[simp] theorem setCore_agenda (s : State) (k : Nat) (c : Core) : (s.setCore k c).agenda = s.agenda := rfl
@[simp] theorem setCore_out (s : State) (k : Nat) (c : Core) : (s.setCore k c).out = s.out := rfl
@[simp] theorem setCore_fresh (s : State) (k : Nat) (c : Core) : (s.setCore k c).fresh = s.fresh := rfl
@[simp] theorem setCore_clusters (s : State) (k : Nat) (c : Core) : (s.setCore k c).clusters = s.clusters := rfl
@[simp] theorem setCore_dieAtc (s : State) (k : Nat) (c : Core) : (s.setCore k c).dieAtc = s.dieAtc := rfl
@[simp] theorem setCore_pages (s : State) (k : Nat) (c : Core) : (s.setCore k c).pages = s.pages := rfl
@[simp] theorem setCore_invals (s : State) (k : Nat) (c : Core) : (s.setCore k c).invals = s.invals := rfl
@[simp] theorem setCore_engineFails (s : State) (k : Nat) (c : Core) : (s.setCore k c).engineFails = s.engineFails := rfl
@[simp] theorem setCore_mem (s : State) (k : Nat) (c : Core) : (s.setCore k c).mem = s.mem := rfl
@[simp] theorem setCore_tags (s : State) (k : Nat) (c : Core) : (s.setCore k c).tags = s.tags := rfl
@[simp] theorem setCore_dir (s : State) (k : Nat) (c : Core) : (s.setCore k c).dir = s.dir := rfl
@[simp] theorem setCore_ridge (s : State) (k : Nat) (c : Core) : (s.setCore k c).ridge = s.ridge := rfl
@[simp] theorem setCore_snoops (s : State) (k : Nat) (c : Core) : (s.setCore k c).snoops = s.snoops := rfl
@[simp] theorem setCore_accesses (s : State) (k : Nat) (c : Core) : (s.setCore k c).accesses = s.accesses := rfl
@[simp] theorem setCore_nextAccess (s : State) (k : Nat) (c : Core) : (s.setCore k c).nextAccess = s.nextAccess := rfl
@[simp] theorem setCore_requests (s : State) (k : Nat) (c : Core) : (s.setCore k c).requests = s.requests := rfl
@[simp] theorem setCore_refusals (s : State) (k : Nat) (c : Core) : (s.setCore k c).refusals = s.refusals := rfl
@[simp] theorem setCore_stray (s : State) (k : Nat) (c : Core) : (s.setCore k c).stray = s.stray := rfl
@[simp] theorem setCore_flights (s : State) (k : Nat) (c : Core) : (s.setCore k c).flights = s.flights := rfl
@[simp] theorem setCore_groups (s : State) (k : Nat) (c : Core) : (s.setCore k c).groups = s.groups := rfl
@[simp] theorem setCore_kernels (s : State) (k : Nat) (c : Core) : (s.setCore k c).kernels = s.kernels := rfl
@[simp] theorem setCore_queues (s : State) (k : Nat) (c : Core) : (s.setCore k c).queues = s.queues := rfl
@[simp] theorem setCore_lastSlot (s : State) (k : Nat) (c : Core) : (s.setCore k c).lastSlot = s.lastSlot := rfl
@[simp] theorem setCore_links (s : State) (k : Nat) (c : Core) : (s.setCore k c).links = s.links := rfl
@[simp] theorem setCore_vfs (s : State) (k : Nat) (c : Core) : (s.setCore k c).vfs = s.vfs := rfl
@[simp] theorem setCore_regions (s : State) (k : Nat) (c : Core) : (s.setCore k c).regions = s.regions := rfl
@[simp] theorem setCore_partitions (s : State) (k : Nat) (c : Core) : (s.setCore k c).partitions = s.partitions := rfl
@[simp] theorem setCore_contexts (s : State) (k : Nat) (c : Core) : (s.setCore k c).contexts = s.contexts := rfl
@[simp] theorem setCore_quanta (s : State) (k : Nat) (c : Core) : (s.setCore k c).quanta = s.quanta := rfl
@[simp] theorem setCore_tenure (s : State) (k : Nat) (c : Core) : (s.setCore k c).tenure = s.tenure := rfl
@[simp] theorem setCore_watchdog (s : State) (k : Nat) (c : Core) : (s.setCore k c).watchdog = s.watchdog := rfl
@[simp] theorem setCore_holdLimit (s : State) (k : Nat) (c : Core) : (s.setCore k c).holdLimit = s.holdLimit := rfl
@[simp] theorem setCore_fabricL (s : State) (k : Nat) (c : Core) : (s.setCore k c).fabricL = s.fabricL := rfl
@[simp] theorem setCore_statusBlock (s : State) (k : Nat) (c : Core) : (s.setCore k c).statusBlock = s.statusBlock := rfl
@[simp] theorem setCore_windowUnits (s : State) (k : Nat) (c : Core) : (s.setCore k c).windowUnits = s.windowUnits := rfl
@[simp] theorem setCore_portWays (s : State) (k : Nat) (c : Core) : (s.setCore k c).portWays = s.portWays := rfl
@[simp] theorem setCore_contextWays (s : State) (k : Nat) (c : Core) : (s.setCore k c).contextWays = s.contextWays := rfl
@[simp] theorem setCore_loss (s : State) (k : Nat) (c : Core) : (s.setCore k c).loss = s.loss := rfl
@[simp] theorem setCore_ridgeQ (s : State) (k : Nat) (c : Core) : (s.setCore k c).ridgeQ = s.ridgeQ := rfl
@[simp] theorem setCore_ports (s : State) (k : Nat) (c : Core) : (s.setCore k c).ports = s.ports := rfl
@[simp] theorem setCore_flash (s : State) (k : Nat) (c : Core) : (s.setCore k c).flash = s.flash := rfl
@[simp] theorem setCore_pcieUp (s : State) (k : Nat) (c : Core) : (s.setCore k c).pcieUp = s.pcieUp := rfl
@[simp] theorem setCore_mailbox (s : State) (k : Nat) (c : Core) : (s.setCore k c).mailbox = s.mailbox := rfl
@[simp] theorem setCore_manageBox (s : State) (k : Nat) (c : Core) : (s.setCore k c).manageBox = s.manageBox := rfl
@[simp] theorem setCore_apertures (s : State) (k : Nat) (c : Core) : (s.setCore k c).apertures = s.apertures := rfl
@[simp] theorem setCore_eave (s : State) (k : Nat) (c : Core) : (s.setCore k c).eave = s.eave := rfl
@[simp] theorem setCore_boot (s : State) (k : Nat) (c : Core) : (s.setCore k c).boot = s.boot := rfl
@[simp] theorem setCore_slotImage (s : State) (k : Nat) (c : Core) : (s.setCore k c).slotImage = s.slotImage := rfl
@[simp] theorem setCore_rollback (s : State) (k : Nat) (c : Core) : (s.setCore k c).rollback = s.rollback := rfl
@[simp] theorem setCore_fwCore (s : State) (k : Nat) (c : Core) : (s.setCore k c).fwCore = s.fwCore := rfl
@[simp] theorem setCore_fwSpent (s : State) (k : Nat) (c : Core) : (s.setCore k c).fwSpent = s.fwSpent := rfl
@[simp] theorem setCore_fwSilent (s : State) (k : Nat) (c : Core) : (s.setCore k c).fwSilent = s.fwSilent := rfl
@[simp] theorem setCore_fwMissed (s : State) (k : Nat) (c : Core) : (s.setCore k c).fwMissed = s.fwMissed := rfl
@[simp] theorem setCore_fwBeatAt (s : State) (k : Nat) (c : Core) : (s.setCore k c).fwBeatAt = s.fwBeatAt := rfl
@[simp] theorem setCore_bootKey (s : State) (k : Nat) (c : Core) : (s.setCore k c).bootKey = s.bootKey := rfl
@[simp] theorem setCore_errorLog (s : State) (k : Nat) (c : Core) : (s.setCore k c).errorLog = s.errorLog := rfl
@[simp] theorem setCore_ntr (s : State) (k : Nat) (c : Core) : (s.setCore k c).ntr = s.ntr := rfl
@[simp] theorem setCore_gutterSize (s : State) (k : Nat) (c : Core) : (s.setCore k c).gutterSize = s.gutterSize := rfl
@[simp] theorem setCore_pwrLim (s : State) (k : Nat) (c : Core) : (s.setCore k c).pwrLim = s.pwrLim := rfl
@[simp] theorem setCore_pwr (s : State) (k : Nat) (c : Core) : (s.setCore k c).pwr = s.pwr := rfl
@[simp] theorem setCore_pacing (s : State) (k : Nat) (c : Core) : (s.setCore k c).pacing = s.pacing := rfl
@[simp] theorem setCore_pacingAt (s : State) (k : Nat) (c : Core) : (s.setCore k c).pacingAt = s.pacingAt := rfl
@[simp] theorem setCore_dumpBuf (s : State) (k : Nat) (c : Core) : (s.setCore k c).dumpBuf = s.dumpBuf := rfl
@[simp] theorem updCore_now (s : State) (k : Nat) (g : Core → Core) : (s.updCore k g).now = s.now := rfl
@[simp] theorem updCore_timeAdj (s : State) (k : Nat) (g : Core → Core) : (s.updCore k g).timeAdj = s.timeAdj := rfl
@[simp] theorem updCore_turn (s : State) (k : Nat) (g : Core → Core) : (s.updCore k g).turn = s.turn := rfl
@[simp] theorem updCore_agenda (s : State) (k : Nat) (g : Core → Core) : (s.updCore k g).agenda = s.agenda := rfl
@[simp] theorem updCore_out (s : State) (k : Nat) (g : Core → Core) : (s.updCore k g).out = s.out := rfl
@[simp] theorem updCore_fresh (s : State) (k : Nat) (g : Core → Core) : (s.updCore k g).fresh = s.fresh := rfl
@[simp] theorem updCore_clusters (s : State) (k : Nat) (g : Core → Core) : (s.updCore k g).clusters = s.clusters := rfl
@[simp] theorem updCore_dieAtc (s : State) (k : Nat) (g : Core → Core) : (s.updCore k g).dieAtc = s.dieAtc := rfl
@[simp] theorem updCore_pages (s : State) (k : Nat) (g : Core → Core) : (s.updCore k g).pages = s.pages := rfl
@[simp] theorem updCore_invals (s : State) (k : Nat) (g : Core → Core) : (s.updCore k g).invals = s.invals := rfl
@[simp] theorem updCore_engineFails (s : State) (k : Nat) (g : Core → Core) : (s.updCore k g).engineFails = s.engineFails := rfl
@[simp] theorem updCore_mem (s : State) (k : Nat) (g : Core → Core) : (s.updCore k g).mem = s.mem := rfl
@[simp] theorem updCore_tags (s : State) (k : Nat) (g : Core → Core) : (s.updCore k g).tags = s.tags := rfl
@[simp] theorem updCore_dir (s : State) (k : Nat) (g : Core → Core) : (s.updCore k g).dir = s.dir := rfl
@[simp] theorem updCore_ridge (s : State) (k : Nat) (g : Core → Core) : (s.updCore k g).ridge = s.ridge := rfl
@[simp] theorem updCore_snoops (s : State) (k : Nat) (g : Core → Core) : (s.updCore k g).snoops = s.snoops := rfl
@[simp] theorem updCore_accesses (s : State) (k : Nat) (g : Core → Core) : (s.updCore k g).accesses = s.accesses := rfl
@[simp] theorem updCore_nextAccess (s : State) (k : Nat) (g : Core → Core) : (s.updCore k g).nextAccess = s.nextAccess := rfl
@[simp] theorem updCore_requests (s : State) (k : Nat) (g : Core → Core) : (s.updCore k g).requests = s.requests := rfl
@[simp] theorem updCore_refusals (s : State) (k : Nat) (g : Core → Core) : (s.updCore k g).refusals = s.refusals := rfl
@[simp] theorem updCore_stray (s : State) (k : Nat) (g : Core → Core) : (s.updCore k g).stray = s.stray := rfl
@[simp] theorem updCore_flights (s : State) (k : Nat) (g : Core → Core) : (s.updCore k g).flights = s.flights := rfl
@[simp] theorem updCore_groups (s : State) (k : Nat) (g : Core → Core) : (s.updCore k g).groups = s.groups := rfl
@[simp] theorem updCore_kernels (s : State) (k : Nat) (g : Core → Core) : (s.updCore k g).kernels = s.kernels := rfl
@[simp] theorem updCore_queues (s : State) (k : Nat) (g : Core → Core) : (s.updCore k g).queues = s.queues := rfl
@[simp] theorem updCore_lastSlot (s : State) (k : Nat) (g : Core → Core) : (s.updCore k g).lastSlot = s.lastSlot := rfl
@[simp] theorem updCore_links (s : State) (k : Nat) (g : Core → Core) : (s.updCore k g).links = s.links := rfl
@[simp] theorem updCore_vfs (s : State) (k : Nat) (g : Core → Core) : (s.updCore k g).vfs = s.vfs := rfl
@[simp] theorem updCore_regions (s : State) (k : Nat) (g : Core → Core) : (s.updCore k g).regions = s.regions := rfl
@[simp] theorem updCore_partitions (s : State) (k : Nat) (g : Core → Core) : (s.updCore k g).partitions = s.partitions := rfl
@[simp] theorem updCore_contexts (s : State) (k : Nat) (g : Core → Core) : (s.updCore k g).contexts = s.contexts := rfl
@[simp] theorem updCore_quanta (s : State) (k : Nat) (g : Core → Core) : (s.updCore k g).quanta = s.quanta := rfl
@[simp] theorem updCore_tenure (s : State) (k : Nat) (g : Core → Core) : (s.updCore k g).tenure = s.tenure := rfl
@[simp] theorem updCore_watchdog (s : State) (k : Nat) (g : Core → Core) : (s.updCore k g).watchdog = s.watchdog := rfl
@[simp] theorem updCore_holdLimit (s : State) (k : Nat) (g : Core → Core) : (s.updCore k g).holdLimit = s.holdLimit := rfl
@[simp] theorem updCore_fabricL (s : State) (k : Nat) (g : Core → Core) : (s.updCore k g).fabricL = s.fabricL := rfl
@[simp] theorem updCore_statusBlock (s : State) (k : Nat) (g : Core → Core) : (s.updCore k g).statusBlock = s.statusBlock := rfl
@[simp] theorem updCore_windowUnits (s : State) (k : Nat) (g : Core → Core) : (s.updCore k g).windowUnits = s.windowUnits := rfl
@[simp] theorem updCore_portWays (s : State) (k : Nat) (g : Core → Core) : (s.updCore k g).portWays = s.portWays := rfl
@[simp] theorem updCore_contextWays (s : State) (k : Nat) (g : Core → Core) : (s.updCore k g).contextWays = s.contextWays := rfl
@[simp] theorem updCore_loss (s : State) (k : Nat) (g : Core → Core) : (s.updCore k g).loss = s.loss := rfl
@[simp] theorem updCore_ridgeQ (s : State) (k : Nat) (g : Core → Core) : (s.updCore k g).ridgeQ = s.ridgeQ := rfl
@[simp] theorem updCore_ports (s : State) (k : Nat) (g : Core → Core) : (s.updCore k g).ports = s.ports := rfl
@[simp] theorem updCore_flash (s : State) (k : Nat) (g : Core → Core) : (s.updCore k g).flash = s.flash := rfl
@[simp] theorem updCore_pcieUp (s : State) (k : Nat) (g : Core → Core) : (s.updCore k g).pcieUp = s.pcieUp := rfl
@[simp] theorem updCore_mailbox (s : State) (k : Nat) (g : Core → Core) : (s.updCore k g).mailbox = s.mailbox := rfl
@[simp] theorem updCore_manageBox (s : State) (k : Nat) (g : Core → Core) : (s.updCore k g).manageBox = s.manageBox := rfl
@[simp] theorem updCore_apertures (s : State) (k : Nat) (g : Core → Core) : (s.updCore k g).apertures = s.apertures := rfl
@[simp] theorem updCore_eave (s : State) (k : Nat) (g : Core → Core) : (s.updCore k g).eave = s.eave := rfl
@[simp] theorem updCore_boot (s : State) (k : Nat) (g : Core → Core) : (s.updCore k g).boot = s.boot := rfl
@[simp] theorem updCore_slotImage (s : State) (k : Nat) (g : Core → Core) : (s.updCore k g).slotImage = s.slotImage := rfl
@[simp] theorem updCore_rollback (s : State) (k : Nat) (g : Core → Core) : (s.updCore k g).rollback = s.rollback := rfl
@[simp] theorem updCore_fwCore (s : State) (k : Nat) (g : Core → Core) : (s.updCore k g).fwCore = s.fwCore := rfl
@[simp] theorem updCore_fwSpent (s : State) (k : Nat) (g : Core → Core) : (s.updCore k g).fwSpent = s.fwSpent := rfl
@[simp] theorem updCore_fwSilent (s : State) (k : Nat) (g : Core → Core) : (s.updCore k g).fwSilent = s.fwSilent := rfl
@[simp] theorem updCore_fwMissed (s : State) (k : Nat) (g : Core → Core) : (s.updCore k g).fwMissed = s.fwMissed := rfl
@[simp] theorem updCore_fwBeatAt (s : State) (k : Nat) (g : Core → Core) : (s.updCore k g).fwBeatAt = s.fwBeatAt := rfl
@[simp] theorem updCore_bootKey (s : State) (k : Nat) (g : Core → Core) : (s.updCore k g).bootKey = s.bootKey := rfl
@[simp] theorem updCore_errorLog (s : State) (k : Nat) (g : Core → Core) : (s.updCore k g).errorLog = s.errorLog := rfl
@[simp] theorem updCore_ntr (s : State) (k : Nat) (g : Core → Core) : (s.updCore k g).ntr = s.ntr := rfl
@[simp] theorem updCore_gutterSize (s : State) (k : Nat) (g : Core → Core) : (s.updCore k g).gutterSize = s.gutterSize := rfl
@[simp] theorem updCore_pwrLim (s : State) (k : Nat) (g : Core → Core) : (s.updCore k g).pwrLim = s.pwrLim := rfl
@[simp] theorem updCore_pwr (s : State) (k : Nat) (g : Core → Core) : (s.updCore k g).pwr = s.pwr := rfl
@[simp] theorem updCore_pacing (s : State) (k : Nat) (g : Core → Core) : (s.updCore k g).pacing = s.pacing := rfl
@[simp] theorem updCore_pacingAt (s : State) (k : Nat) (g : Core → Core) : (s.updCore k g).pacingAt = s.pacingAt := rfl
@[simp] theorem updCore_dumpBuf (s : State) (k : Nat) (g : Core → Core) : (s.updCore k g).dumpBuf = s.dumpBuf := rfl
@[simp] theorem setStrand_now (s : State) (k sl : Nat) (t : Strand) : (s.setStrand k sl t).now = s.now := rfl
@[simp] theorem setStrand_timeAdj (s : State) (k sl : Nat) (t : Strand) : (s.setStrand k sl t).timeAdj = s.timeAdj := rfl
@[simp] theorem setStrand_turn (s : State) (k sl : Nat) (t : Strand) : (s.setStrand k sl t).turn = s.turn := rfl
@[simp] theorem setStrand_agenda (s : State) (k sl : Nat) (t : Strand) : (s.setStrand k sl t).agenda = s.agenda := rfl
@[simp] theorem setStrand_out (s : State) (k sl : Nat) (t : Strand) : (s.setStrand k sl t).out = s.out := rfl
@[simp] theorem setStrand_fresh (s : State) (k sl : Nat) (t : Strand) : (s.setStrand k sl t).fresh = s.fresh := rfl
@[simp] theorem setStrand_clusters (s : State) (k sl : Nat) (t : Strand) : (s.setStrand k sl t).clusters = s.clusters := rfl
@[simp] theorem setStrand_dieAtc (s : State) (k sl : Nat) (t : Strand) : (s.setStrand k sl t).dieAtc = s.dieAtc := rfl
@[simp] theorem setStrand_pages (s : State) (k sl : Nat) (t : Strand) : (s.setStrand k sl t).pages = s.pages := rfl
@[simp] theorem setStrand_invals (s : State) (k sl : Nat) (t : Strand) : (s.setStrand k sl t).invals = s.invals := rfl
@[simp] theorem setStrand_engineFails (s : State) (k sl : Nat) (t : Strand) : (s.setStrand k sl t).engineFails = s.engineFails := rfl
@[simp] theorem setStrand_mem (s : State) (k sl : Nat) (t : Strand) : (s.setStrand k sl t).mem = s.mem := rfl
@[simp] theorem setStrand_tags (s : State) (k sl : Nat) (t : Strand) : (s.setStrand k sl t).tags = s.tags := rfl
@[simp] theorem setStrand_dir (s : State) (k sl : Nat) (t : Strand) : (s.setStrand k sl t).dir = s.dir := rfl
@[simp] theorem setStrand_ridge (s : State) (k sl : Nat) (t : Strand) : (s.setStrand k sl t).ridge = s.ridge := rfl
@[simp] theorem setStrand_snoops (s : State) (k sl : Nat) (t : Strand) : (s.setStrand k sl t).snoops = s.snoops := rfl
@[simp] theorem setStrand_accesses (s : State) (k sl : Nat) (t : Strand) : (s.setStrand k sl t).accesses = s.accesses := rfl
@[simp] theorem setStrand_nextAccess (s : State) (k sl : Nat) (t : Strand) : (s.setStrand k sl t).nextAccess = s.nextAccess := rfl
@[simp] theorem setStrand_requests (s : State) (k sl : Nat) (t : Strand) : (s.setStrand k sl t).requests = s.requests := rfl
@[simp] theorem setStrand_refusals (s : State) (k sl : Nat) (t : Strand) : (s.setStrand k sl t).refusals = s.refusals := rfl
@[simp] theorem setStrand_stray (s : State) (k sl : Nat) (t : Strand) : (s.setStrand k sl t).stray = s.stray := rfl
@[simp] theorem setStrand_flights (s : State) (k sl : Nat) (t : Strand) : (s.setStrand k sl t).flights = s.flights := rfl
@[simp] theorem setStrand_groups (s : State) (k sl : Nat) (t : Strand) : (s.setStrand k sl t).groups = s.groups := rfl
@[simp] theorem setStrand_kernels (s : State) (k sl : Nat) (t : Strand) : (s.setStrand k sl t).kernels = s.kernels := rfl
@[simp] theorem setStrand_queues (s : State) (k sl : Nat) (t : Strand) : (s.setStrand k sl t).queues = s.queues := rfl
@[simp] theorem setStrand_lastSlot (s : State) (k sl : Nat) (t : Strand) : (s.setStrand k sl t).lastSlot = s.lastSlot := rfl
@[simp] theorem setStrand_links (s : State) (k sl : Nat) (t : Strand) : (s.setStrand k sl t).links = s.links := rfl
@[simp] theorem setStrand_vfs (s : State) (k sl : Nat) (t : Strand) : (s.setStrand k sl t).vfs = s.vfs := rfl
@[simp] theorem setStrand_regions (s : State) (k sl : Nat) (t : Strand) : (s.setStrand k sl t).regions = s.regions := rfl
@[simp] theorem setStrand_partitions (s : State) (k sl : Nat) (t : Strand) : (s.setStrand k sl t).partitions = s.partitions := rfl
@[simp] theorem setStrand_contexts (s : State) (k sl : Nat) (t : Strand) : (s.setStrand k sl t).contexts = s.contexts := rfl
@[simp] theorem setStrand_quanta (s : State) (k sl : Nat) (t : Strand) : (s.setStrand k sl t).quanta = s.quanta := rfl
@[simp] theorem setStrand_tenure (s : State) (k sl : Nat) (t : Strand) : (s.setStrand k sl t).tenure = s.tenure := rfl
@[simp] theorem setStrand_watchdog (s : State) (k sl : Nat) (t : Strand) : (s.setStrand k sl t).watchdog = s.watchdog := rfl
@[simp] theorem setStrand_holdLimit (s : State) (k sl : Nat) (t : Strand) : (s.setStrand k sl t).holdLimit = s.holdLimit := rfl
@[simp] theorem setStrand_fabricL (s : State) (k sl : Nat) (t : Strand) : (s.setStrand k sl t).fabricL = s.fabricL := rfl
@[simp] theorem setStrand_statusBlock (s : State) (k sl : Nat) (t : Strand) : (s.setStrand k sl t).statusBlock = s.statusBlock := rfl
@[simp] theorem setStrand_windowUnits (s : State) (k sl : Nat) (t : Strand) : (s.setStrand k sl t).windowUnits = s.windowUnits := rfl
@[simp] theorem setStrand_portWays (s : State) (k sl : Nat) (t : Strand) : (s.setStrand k sl t).portWays = s.portWays := rfl
@[simp] theorem setStrand_contextWays (s : State) (k sl : Nat) (t : Strand) : (s.setStrand k sl t).contextWays = s.contextWays := rfl
@[simp] theorem setStrand_loss (s : State) (k sl : Nat) (t : Strand) : (s.setStrand k sl t).loss = s.loss := rfl
@[simp] theorem setStrand_ridgeQ (s : State) (k sl : Nat) (t : Strand) : (s.setStrand k sl t).ridgeQ = s.ridgeQ := rfl
@[simp] theorem setStrand_ports (s : State) (k sl : Nat) (t : Strand) : (s.setStrand k sl t).ports = s.ports := rfl
@[simp] theorem setStrand_flash (s : State) (k sl : Nat) (t : Strand) : (s.setStrand k sl t).flash = s.flash := rfl
@[simp] theorem setStrand_pcieUp (s : State) (k sl : Nat) (t : Strand) : (s.setStrand k sl t).pcieUp = s.pcieUp := rfl
@[simp] theorem setStrand_mailbox (s : State) (k sl : Nat) (t : Strand) : (s.setStrand k sl t).mailbox = s.mailbox := rfl
@[simp] theorem setStrand_manageBox (s : State) (k sl : Nat) (t : Strand) : (s.setStrand k sl t).manageBox = s.manageBox := rfl
@[simp] theorem setStrand_apertures (s : State) (k sl : Nat) (t : Strand) : (s.setStrand k sl t).apertures = s.apertures := rfl
@[simp] theorem setStrand_eave (s : State) (k sl : Nat) (t : Strand) : (s.setStrand k sl t).eave = s.eave := rfl
@[simp] theorem setStrand_boot (s : State) (k sl : Nat) (t : Strand) : (s.setStrand k sl t).boot = s.boot := rfl
@[simp] theorem setStrand_slotImage (s : State) (k sl : Nat) (t : Strand) : (s.setStrand k sl t).slotImage = s.slotImage := rfl
@[simp] theorem setStrand_rollback (s : State) (k sl : Nat) (t : Strand) : (s.setStrand k sl t).rollback = s.rollback := rfl
@[simp] theorem setStrand_fwCore (s : State) (k sl : Nat) (t : Strand) : (s.setStrand k sl t).fwCore = s.fwCore := rfl
@[simp] theorem setStrand_fwSpent (s : State) (k sl : Nat) (t : Strand) : (s.setStrand k sl t).fwSpent = s.fwSpent := rfl
@[simp] theorem setStrand_fwSilent (s : State) (k sl : Nat) (t : Strand) : (s.setStrand k sl t).fwSilent = s.fwSilent := rfl
@[simp] theorem setStrand_fwMissed (s : State) (k sl : Nat) (t : Strand) : (s.setStrand k sl t).fwMissed = s.fwMissed := rfl
@[simp] theorem setStrand_fwBeatAt (s : State) (k sl : Nat) (t : Strand) : (s.setStrand k sl t).fwBeatAt = s.fwBeatAt := rfl
@[simp] theorem setStrand_bootKey (s : State) (k sl : Nat) (t : Strand) : (s.setStrand k sl t).bootKey = s.bootKey := rfl
@[simp] theorem setStrand_errorLog (s : State) (k sl : Nat) (t : Strand) : (s.setStrand k sl t).errorLog = s.errorLog := rfl
@[simp] theorem setStrand_ntr (s : State) (k sl : Nat) (t : Strand) : (s.setStrand k sl t).ntr = s.ntr := rfl
@[simp] theorem setStrand_gutterSize (s : State) (k sl : Nat) (t : Strand) : (s.setStrand k sl t).gutterSize = s.gutterSize := rfl
@[simp] theorem setStrand_pwrLim (s : State) (k sl : Nat) (t : Strand) : (s.setStrand k sl t).pwrLim = s.pwrLim := rfl
@[simp] theorem setStrand_pwr (s : State) (k sl : Nat) (t : Strand) : (s.setStrand k sl t).pwr = s.pwr := rfl
@[simp] theorem setStrand_pacing (s : State) (k sl : Nat) (t : Strand) : (s.setStrand k sl t).pacing = s.pacing := rfl
@[simp] theorem setStrand_pacingAt (s : State) (k sl : Nat) (t : Strand) : (s.setStrand k sl t).pacingAt = s.pacingAt := rfl
@[simp] theorem setStrand_dumpBuf (s : State) (k sl : Nat) (t : Strand) : (s.setStrand k sl t).dumpBuf = s.dumpBuf := rfl
@[simp] theorem updStrand_now (s : State) (k sl : Nat) (g : Strand → Strand) : (s.updStrand k sl g).now = s.now := by
  unfold State.updStrand; split <;> rfl
@[simp] theorem updStrand_timeAdj (s : State) (k sl : Nat) (g : Strand → Strand) : (s.updStrand k sl g).timeAdj = s.timeAdj := by
  unfold State.updStrand; split <;> rfl
@[simp] theorem updStrand_turn (s : State) (k sl : Nat) (g : Strand → Strand) : (s.updStrand k sl g).turn = s.turn := by
  unfold State.updStrand; split <;> rfl
@[simp] theorem updStrand_agenda (s : State) (k sl : Nat) (g : Strand → Strand) : (s.updStrand k sl g).agenda = s.agenda := by
  unfold State.updStrand; split <;> rfl
@[simp] theorem updStrand_out (s : State) (k sl : Nat) (g : Strand → Strand) : (s.updStrand k sl g).out = s.out := by
  unfold State.updStrand; split <;> rfl
@[simp] theorem updStrand_fresh (s : State) (k sl : Nat) (g : Strand → Strand) : (s.updStrand k sl g).fresh = s.fresh := by
  unfold State.updStrand; split <;> rfl
@[simp] theorem updStrand_clusters (s : State) (k sl : Nat) (g : Strand → Strand) : (s.updStrand k sl g).clusters = s.clusters := by
  unfold State.updStrand; split <;> rfl
@[simp] theorem updStrand_dieAtc (s : State) (k sl : Nat) (g : Strand → Strand) : (s.updStrand k sl g).dieAtc = s.dieAtc := by
  unfold State.updStrand; split <;> rfl
@[simp] theorem updStrand_pages (s : State) (k sl : Nat) (g : Strand → Strand) : (s.updStrand k sl g).pages = s.pages := by
  unfold State.updStrand; split <;> rfl
@[simp] theorem updStrand_invals (s : State) (k sl : Nat) (g : Strand → Strand) : (s.updStrand k sl g).invals = s.invals := by
  unfold State.updStrand; split <;> rfl
@[simp] theorem updStrand_engineFails (s : State) (k sl : Nat) (g : Strand → Strand) : (s.updStrand k sl g).engineFails = s.engineFails := by
  unfold State.updStrand; split <;> rfl
@[simp] theorem updStrand_mem (s : State) (k sl : Nat) (g : Strand → Strand) : (s.updStrand k sl g).mem = s.mem := by
  unfold State.updStrand; split <;> rfl
@[simp] theorem updStrand_tags (s : State) (k sl : Nat) (g : Strand → Strand) : (s.updStrand k sl g).tags = s.tags := by
  unfold State.updStrand; split <;> rfl
@[simp] theorem updStrand_dir (s : State) (k sl : Nat) (g : Strand → Strand) : (s.updStrand k sl g).dir = s.dir := by
  unfold State.updStrand; split <;> rfl
@[simp] theorem updStrand_ridge (s : State) (k sl : Nat) (g : Strand → Strand) : (s.updStrand k sl g).ridge = s.ridge := by
  unfold State.updStrand; split <;> rfl
@[simp] theorem updStrand_snoops (s : State) (k sl : Nat) (g : Strand → Strand) : (s.updStrand k sl g).snoops = s.snoops := by
  unfold State.updStrand; split <;> rfl
@[simp] theorem updStrand_accesses (s : State) (k sl : Nat) (g : Strand → Strand) : (s.updStrand k sl g).accesses = s.accesses := by
  unfold State.updStrand; split <;> rfl
@[simp] theorem updStrand_nextAccess (s : State) (k sl : Nat) (g : Strand → Strand) : (s.updStrand k sl g).nextAccess = s.nextAccess := by
  unfold State.updStrand; split <;> rfl
@[simp] theorem updStrand_requests (s : State) (k sl : Nat) (g : Strand → Strand) : (s.updStrand k sl g).requests = s.requests := by
  unfold State.updStrand; split <;> rfl
@[simp] theorem updStrand_refusals (s : State) (k sl : Nat) (g : Strand → Strand) : (s.updStrand k sl g).refusals = s.refusals := by
  unfold State.updStrand; split <;> rfl
@[simp] theorem updStrand_stray (s : State) (k sl : Nat) (g : Strand → Strand) : (s.updStrand k sl g).stray = s.stray := by
  unfold State.updStrand; split <;> rfl
@[simp] theorem updStrand_flights (s : State) (k sl : Nat) (g : Strand → Strand) : (s.updStrand k sl g).flights = s.flights := by
  unfold State.updStrand; split <;> rfl
@[simp] theorem updStrand_groups (s : State) (k sl : Nat) (g : Strand → Strand) : (s.updStrand k sl g).groups = s.groups := by
  unfold State.updStrand; split <;> rfl
@[simp] theorem updStrand_kernels (s : State) (k sl : Nat) (g : Strand → Strand) : (s.updStrand k sl g).kernels = s.kernels := by
  unfold State.updStrand; split <;> rfl
@[simp] theorem updStrand_queues (s : State) (k sl : Nat) (g : Strand → Strand) : (s.updStrand k sl g).queues = s.queues := by
  unfold State.updStrand; split <;> rfl
@[simp] theorem updStrand_lastSlot (s : State) (k sl : Nat) (g : Strand → Strand) : (s.updStrand k sl g).lastSlot = s.lastSlot := by
  unfold State.updStrand; split <;> rfl
@[simp] theorem updStrand_links (s : State) (k sl : Nat) (g : Strand → Strand) : (s.updStrand k sl g).links = s.links := by
  unfold State.updStrand; split <;> rfl
@[simp] theorem updStrand_vfs (s : State) (k sl : Nat) (g : Strand → Strand) : (s.updStrand k sl g).vfs = s.vfs := by
  unfold State.updStrand; split <;> rfl
@[simp] theorem updStrand_regions (s : State) (k sl : Nat) (g : Strand → Strand) : (s.updStrand k sl g).regions = s.regions := by
  unfold State.updStrand; split <;> rfl
@[simp] theorem updStrand_partitions (s : State) (k sl : Nat) (g : Strand → Strand) : (s.updStrand k sl g).partitions = s.partitions := by
  unfold State.updStrand; split <;> rfl
@[simp] theorem updStrand_contexts (s : State) (k sl : Nat) (g : Strand → Strand) : (s.updStrand k sl g).contexts = s.contexts := by
  unfold State.updStrand; split <;> rfl
@[simp] theorem updStrand_quanta (s : State) (k sl : Nat) (g : Strand → Strand) : (s.updStrand k sl g).quanta = s.quanta := by
  unfold State.updStrand; split <;> rfl
@[simp] theorem updStrand_tenure (s : State) (k sl : Nat) (g : Strand → Strand) : (s.updStrand k sl g).tenure = s.tenure := by
  unfold State.updStrand; split <;> rfl
@[simp] theorem updStrand_watchdog (s : State) (k sl : Nat) (g : Strand → Strand) : (s.updStrand k sl g).watchdog = s.watchdog := by
  unfold State.updStrand; split <;> rfl
@[simp] theorem updStrand_holdLimit (s : State) (k sl : Nat) (g : Strand → Strand) : (s.updStrand k sl g).holdLimit = s.holdLimit := by
  unfold State.updStrand; split <;> rfl
@[simp] theorem updStrand_fabricL (s : State) (k sl : Nat) (g : Strand → Strand) : (s.updStrand k sl g).fabricL = s.fabricL := by
  unfold State.updStrand; split <;> rfl
@[simp] theorem updStrand_statusBlock (s : State) (k sl : Nat) (g : Strand → Strand) : (s.updStrand k sl g).statusBlock = s.statusBlock := by
  unfold State.updStrand; split <;> rfl
@[simp] theorem updStrand_windowUnits (s : State) (k sl : Nat) (g : Strand → Strand) : (s.updStrand k sl g).windowUnits = s.windowUnits := by
  unfold State.updStrand; split <;> rfl
@[simp] theorem updStrand_portWays (s : State) (k sl : Nat) (g : Strand → Strand) : (s.updStrand k sl g).portWays = s.portWays := by
  unfold State.updStrand; split <;> rfl
@[simp] theorem updStrand_contextWays (s : State) (k sl : Nat) (g : Strand → Strand) : (s.updStrand k sl g).contextWays = s.contextWays := by
  unfold State.updStrand; split <;> rfl
@[simp] theorem updStrand_loss (s : State) (k sl : Nat) (g : Strand → Strand) : (s.updStrand k sl g).loss = s.loss := by
  unfold State.updStrand; split <;> rfl
@[simp] theorem updStrand_ridgeQ (s : State) (k sl : Nat) (g : Strand → Strand) : (s.updStrand k sl g).ridgeQ = s.ridgeQ := by
  unfold State.updStrand; split <;> rfl
@[simp] theorem updStrand_ports (s : State) (k sl : Nat) (g : Strand → Strand) : (s.updStrand k sl g).ports = s.ports := by
  unfold State.updStrand; split <;> rfl
@[simp] theorem updStrand_flash (s : State) (k sl : Nat) (g : Strand → Strand) : (s.updStrand k sl g).flash = s.flash := by
  unfold State.updStrand; split <;> rfl
@[simp] theorem updStrand_pcieUp (s : State) (k sl : Nat) (g : Strand → Strand) : (s.updStrand k sl g).pcieUp = s.pcieUp := by
  unfold State.updStrand; split <;> rfl
@[simp] theorem updStrand_mailbox (s : State) (k sl : Nat) (g : Strand → Strand) : (s.updStrand k sl g).mailbox = s.mailbox := by
  unfold State.updStrand; split <;> rfl
@[simp] theorem updStrand_manageBox (s : State) (k sl : Nat) (g : Strand → Strand) : (s.updStrand k sl g).manageBox = s.manageBox := by
  unfold State.updStrand; split <;> rfl
@[simp] theorem updStrand_apertures (s : State) (k sl : Nat) (g : Strand → Strand) : (s.updStrand k sl g).apertures = s.apertures := by
  unfold State.updStrand; split <;> rfl
@[simp] theorem updStrand_eave (s : State) (k sl : Nat) (g : Strand → Strand) : (s.updStrand k sl g).eave = s.eave := by
  unfold State.updStrand; split <;> rfl
@[simp] theorem updStrand_boot (s : State) (k sl : Nat) (g : Strand → Strand) : (s.updStrand k sl g).boot = s.boot := by
  unfold State.updStrand; split <;> rfl
@[simp] theorem updStrand_slotImage (s : State) (k sl : Nat) (g : Strand → Strand) : (s.updStrand k sl g).slotImage = s.slotImage := by
  unfold State.updStrand; split <;> rfl
@[simp] theorem updStrand_rollback (s : State) (k sl : Nat) (g : Strand → Strand) : (s.updStrand k sl g).rollback = s.rollback := by
  unfold State.updStrand; split <;> rfl
@[simp] theorem updStrand_fwCore (s : State) (k sl : Nat) (g : Strand → Strand) : (s.updStrand k sl g).fwCore = s.fwCore := by
  unfold State.updStrand; split <;> rfl
@[simp] theorem updStrand_fwSpent (s : State) (k sl : Nat) (g : Strand → Strand) : (s.updStrand k sl g).fwSpent = s.fwSpent := by
  unfold State.updStrand; split <;> rfl
@[simp] theorem updStrand_fwSilent (s : State) (k sl : Nat) (g : Strand → Strand) : (s.updStrand k sl g).fwSilent = s.fwSilent := by
  unfold State.updStrand; split <;> rfl
@[simp] theorem updStrand_fwMissed (s : State) (k sl : Nat) (g : Strand → Strand) : (s.updStrand k sl g).fwMissed = s.fwMissed := by
  unfold State.updStrand; split <;> rfl
@[simp] theorem updStrand_fwBeatAt (s : State) (k sl : Nat) (g : Strand → Strand) : (s.updStrand k sl g).fwBeatAt = s.fwBeatAt := by
  unfold State.updStrand; split <;> rfl
@[simp] theorem updStrand_bootKey (s : State) (k sl : Nat) (g : Strand → Strand) : (s.updStrand k sl g).bootKey = s.bootKey := by
  unfold State.updStrand; split <;> rfl
@[simp] theorem updStrand_errorLog (s : State) (k sl : Nat) (g : Strand → Strand) : (s.updStrand k sl g).errorLog = s.errorLog := by
  unfold State.updStrand; split <;> rfl
@[simp] theorem updStrand_ntr (s : State) (k sl : Nat) (g : Strand → Strand) : (s.updStrand k sl g).ntr = s.ntr := by
  unfold State.updStrand; split <;> rfl
@[simp] theorem updStrand_gutterSize (s : State) (k sl : Nat) (g : Strand → Strand) : (s.updStrand k sl g).gutterSize = s.gutterSize := by
  unfold State.updStrand; split <;> rfl
@[simp] theorem updStrand_pwrLim (s : State) (k sl : Nat) (g : Strand → Strand) : (s.updStrand k sl g).pwrLim = s.pwrLim := by
  unfold State.updStrand; split <;> rfl
@[simp] theorem updStrand_pwr (s : State) (k sl : Nat) (g : Strand → Strand) : (s.updStrand k sl g).pwr = s.pwr := by
  unfold State.updStrand; split <;> rfl
@[simp] theorem updStrand_pacing (s : State) (k sl : Nat) (g : Strand → Strand) : (s.updStrand k sl g).pacing = s.pacing := by
  unfold State.updStrand; split <;> rfl
@[simp] theorem updStrand_pacingAt (s : State) (k sl : Nat) (g : Strand → Strand) : (s.updStrand k sl g).pacingAt = s.pacingAt := by
  unfold State.updStrand; split <;> rfl
@[simp] theorem updStrand_dumpBuf (s : State) (k sl : Nat) (g : Strand → Strand) : (s.updStrand k sl g).dumpBuf = s.dumpBuf := by
  unfold State.updStrand; split <;> rfl
@[simp] theorem settled_now (s : State) (t : Strand) : (s.settled t).now = s.now := rfl
@[simp] theorem settled_timeAdj (s : State) (t : Strand) : (s.settled t).timeAdj = s.timeAdj := rfl
@[simp] theorem settled_turn (s : State) (t : Strand) : (s.settled t).turn = s.turn := rfl
@[simp] theorem settled_agenda (s : State) (t : Strand) : (s.settled t).agenda = s.agenda := rfl
@[simp] theorem settled_out (s : State) (t : Strand) : (s.settled t).out = s.out := rfl
@[simp] theorem settled_fresh (s : State) (t : Strand) : (s.settled t).fresh = s.fresh := rfl
@[simp] theorem settled_clusters (s : State) (t : Strand) : (s.settled t).clusters = s.clusters := rfl
@[simp] theorem settled_dieAtc (s : State) (t : Strand) : (s.settled t).dieAtc = s.dieAtc := rfl
@[simp] theorem settled_pages (s : State) (t : Strand) : (s.settled t).pages = s.pages := rfl
@[simp] theorem settled_invals (s : State) (t : Strand) : (s.settled t).invals = s.invals := rfl
@[simp] theorem settled_engineFails (s : State) (t : Strand) : (s.settled t).engineFails = s.engineFails := rfl
@[simp] theorem settled_mem (s : State) (t : Strand) : (s.settled t).mem = s.mem := rfl
@[simp] theorem settled_tags (s : State) (t : Strand) : (s.settled t).tags = s.tags := rfl
@[simp] theorem settled_dir (s : State) (t : Strand) : (s.settled t).dir = s.dir := rfl
@[simp] theorem settled_ridge (s : State) (t : Strand) : (s.settled t).ridge = s.ridge := rfl
@[simp] theorem settled_snoops (s : State) (t : Strand) : (s.settled t).snoops = s.snoops := rfl
@[simp] theorem settled_accesses (s : State) (t : Strand) : (s.settled t).accesses = s.accesses := rfl
@[simp] theorem settled_nextAccess (s : State) (t : Strand) : (s.settled t).nextAccess = s.nextAccess := rfl
@[simp] theorem settled_requests (s : State) (t : Strand) : (s.settled t).requests = s.requests := rfl
@[simp] theorem settled_refusals (s : State) (t : Strand) : (s.settled t).refusals = s.refusals := rfl
@[simp] theorem settled_stray (s : State) (t : Strand) : (s.settled t).stray = s.stray := rfl
@[simp] theorem settled_flights (s : State) (t : Strand) : (s.settled t).flights = s.flights := rfl
@[simp] theorem settled_groups (s : State) (t : Strand) : (s.settled t).groups = s.groups := rfl
@[simp] theorem settled_kernels (s : State) (t : Strand) : (s.settled t).kernels = s.kernels := rfl
@[simp] theorem settled_queues (s : State) (t : Strand) : (s.settled t).queues = s.queues := rfl
@[simp] theorem settled_lastSlot (s : State) (t : Strand) : (s.settled t).lastSlot = s.lastSlot := rfl
@[simp] theorem settled_links (s : State) (t : Strand) : (s.settled t).links = s.links := rfl
@[simp] theorem settled_vfs (s : State) (t : Strand) : (s.settled t).vfs = s.vfs := rfl
@[simp] theorem settled_regions (s : State) (t : Strand) : (s.settled t).regions = s.regions := rfl
@[simp] theorem settled_partitions (s : State) (t : Strand) : (s.settled t).partitions = s.partitions := rfl
@[simp] theorem settled_contexts (s : State) (t : Strand) : (s.settled t).contexts = s.contexts := rfl
@[simp] theorem settled_quanta (s : State) (t : Strand) : (s.settled t).quanta = s.quanta := rfl
@[simp] theorem settled_tenure (s : State) (t : Strand) : (s.settled t).tenure = s.tenure := rfl
@[simp] theorem settled_watchdog (s : State) (t : Strand) : (s.settled t).watchdog = s.watchdog := rfl
@[simp] theorem settled_holdLimit (s : State) (t : Strand) : (s.settled t).holdLimit = s.holdLimit := rfl
@[simp] theorem settled_fabricL (s : State) (t : Strand) : (s.settled t).fabricL = s.fabricL := rfl
@[simp] theorem settled_statusBlock (s : State) (t : Strand) : (s.settled t).statusBlock = s.statusBlock := rfl
@[simp] theorem settled_windowUnits (s : State) (t : Strand) : (s.settled t).windowUnits = s.windowUnits := rfl
@[simp] theorem settled_portWays (s : State) (t : Strand) : (s.settled t).portWays = s.portWays := rfl
@[simp] theorem settled_contextWays (s : State) (t : Strand) : (s.settled t).contextWays = s.contextWays := rfl
@[simp] theorem settled_loss (s : State) (t : Strand) : (s.settled t).loss = s.loss := rfl
@[simp] theorem settled_ridgeQ (s : State) (t : Strand) : (s.settled t).ridgeQ = s.ridgeQ := rfl
@[simp] theorem settled_ports (s : State) (t : Strand) : (s.settled t).ports = s.ports := rfl
@[simp] theorem settled_flash (s : State) (t : Strand) : (s.settled t).flash = s.flash := rfl
@[simp] theorem settled_pcieUp (s : State) (t : Strand) : (s.settled t).pcieUp = s.pcieUp := rfl
@[simp] theorem settled_mailbox (s : State) (t : Strand) : (s.settled t).mailbox = s.mailbox := rfl
@[simp] theorem settled_manageBox (s : State) (t : Strand) : (s.settled t).manageBox = s.manageBox := rfl
@[simp] theorem settled_apertures (s : State) (t : Strand) : (s.settled t).apertures = s.apertures := rfl
@[simp] theorem settled_eave (s : State) (t : Strand) : (s.settled t).eave = s.eave := rfl
@[simp] theorem settled_boot (s : State) (t : Strand) : (s.settled t).boot = s.boot := rfl
@[simp] theorem settled_slotImage (s : State) (t : Strand) : (s.settled t).slotImage = s.slotImage := rfl
@[simp] theorem settled_rollback (s : State) (t : Strand) : (s.settled t).rollback = s.rollback := rfl
@[simp] theorem settled_fwCore (s : State) (t : Strand) : (s.settled t).fwCore = s.fwCore := rfl
@[simp] theorem settled_fwSpent (s : State) (t : Strand) : (s.settled t).fwSpent = s.fwSpent := rfl
@[simp] theorem settled_fwSilent (s : State) (t : Strand) : (s.settled t).fwSilent = s.fwSilent := rfl
@[simp] theorem settled_fwMissed (s : State) (t : Strand) : (s.settled t).fwMissed = s.fwMissed := rfl
@[simp] theorem settled_fwBeatAt (s : State) (t : Strand) : (s.settled t).fwBeatAt = s.fwBeatAt := rfl
@[simp] theorem settled_bootKey (s : State) (t : Strand) : (s.settled t).bootKey = s.bootKey := rfl
@[simp] theorem settled_errorLog (s : State) (t : Strand) : (s.settled t).errorLog = s.errorLog := rfl
@[simp] theorem settled_ntr (s : State) (t : Strand) : (s.settled t).ntr = s.ntr := rfl
@[simp] theorem settled_gutterSize (s : State) (t : Strand) : (s.settled t).gutterSize = s.gutterSize := rfl
@[simp] theorem settled_pwrLim (s : State) (t : Strand) : (s.settled t).pwrLim = s.pwrLim := rfl
@[simp] theorem settled_pwr (s : State) (t : Strand) : (s.settled t).pwr = s.pwr := rfl
@[simp] theorem settled_pacing (s : State) (t : Strand) : (s.settled t).pacing = s.pacing := rfl
@[simp] theorem settled_pacingAt (s : State) (t : Strand) : (s.settled t).pacingAt = s.pacingAt := rfl
@[simp] theorem settled_dumpBuf (s : State) (t : Strand) : (s.settled t).dumpBuf = s.dumpBuf := rfl

/-! ### Updates of one cluster -/

@[simp] theorem setCluster_now (s : State) (k : Nat) (c : Cluster) : (s.setCluster k c).now = s.now := rfl
@[simp] theorem setCluster_timeAdj (s : State) (k : Nat) (c : Cluster) : (s.setCluster k c).timeAdj = s.timeAdj := rfl
@[simp] theorem setCluster_turn (s : State) (k : Nat) (c : Cluster) : (s.setCluster k c).turn = s.turn := rfl
@[simp] theorem setCluster_agenda (s : State) (k : Nat) (c : Cluster) : (s.setCluster k c).agenda = s.agenda := rfl
@[simp] theorem setCluster_out (s : State) (k : Nat) (c : Cluster) : (s.setCluster k c).out = s.out := rfl
@[simp] theorem setCluster_fresh (s : State) (k : Nat) (c : Cluster) : (s.setCluster k c).fresh = s.fresh := rfl
@[simp] theorem setCluster_dieAtc (s : State) (k : Nat) (c : Cluster) : (s.setCluster k c).dieAtc = s.dieAtc := rfl
@[simp] theorem setCluster_pages (s : State) (k : Nat) (c : Cluster) : (s.setCluster k c).pages = s.pages := rfl
@[simp] theorem setCluster_invals (s : State) (k : Nat) (c : Cluster) : (s.setCluster k c).invals = s.invals := rfl
@[simp] theorem setCluster_engineFails (s : State) (k : Nat) (c : Cluster) : (s.setCluster k c).engineFails = s.engineFails := rfl
@[simp] theorem setCluster_mem (s : State) (k : Nat) (c : Cluster) : (s.setCluster k c).mem = s.mem := rfl
@[simp] theorem setCluster_tags (s : State) (k : Nat) (c : Cluster) : (s.setCluster k c).tags = s.tags := rfl
@[simp] theorem setCluster_dir (s : State) (k : Nat) (c : Cluster) : (s.setCluster k c).dir = s.dir := rfl
@[simp] theorem setCluster_ridge (s : State) (k : Nat) (c : Cluster) : (s.setCluster k c).ridge = s.ridge := rfl
@[simp] theorem setCluster_snoops (s : State) (k : Nat) (c : Cluster) : (s.setCluster k c).snoops = s.snoops := rfl
@[simp] theorem setCluster_accesses (s : State) (k : Nat) (c : Cluster) : (s.setCluster k c).accesses = s.accesses := rfl
@[simp] theorem setCluster_nextAccess (s : State) (k : Nat) (c : Cluster) : (s.setCluster k c).nextAccess = s.nextAccess := rfl
@[simp] theorem setCluster_requests (s : State) (k : Nat) (c : Cluster) : (s.setCluster k c).requests = s.requests := rfl
@[simp] theorem setCluster_refusals (s : State) (k : Nat) (c : Cluster) : (s.setCluster k c).refusals = s.refusals := rfl
@[simp] theorem setCluster_stray (s : State) (k : Nat) (c : Cluster) : (s.setCluster k c).stray = s.stray := rfl
@[simp] theorem setCluster_flights (s : State) (k : Nat) (c : Cluster) : (s.setCluster k c).flights = s.flights := rfl
@[simp] theorem setCluster_groups (s : State) (k : Nat) (c : Cluster) : (s.setCluster k c).groups = s.groups := rfl
@[simp] theorem setCluster_kernels (s : State) (k : Nat) (c : Cluster) : (s.setCluster k c).kernels = s.kernels := rfl
@[simp] theorem setCluster_queues (s : State) (k : Nat) (c : Cluster) : (s.setCluster k c).queues = s.queues := rfl
@[simp] theorem setCluster_lastSlot (s : State) (k : Nat) (c : Cluster) : (s.setCluster k c).lastSlot = s.lastSlot := rfl
@[simp] theorem setCluster_links (s : State) (k : Nat) (c : Cluster) : (s.setCluster k c).links = s.links := rfl
@[simp] theorem setCluster_vfs (s : State) (k : Nat) (c : Cluster) : (s.setCluster k c).vfs = s.vfs := rfl
@[simp] theorem setCluster_regions (s : State) (k : Nat) (c : Cluster) : (s.setCluster k c).regions = s.regions := rfl
@[simp] theorem setCluster_partitions (s : State) (k : Nat) (c : Cluster) : (s.setCluster k c).partitions = s.partitions := rfl
@[simp] theorem setCluster_contexts (s : State) (k : Nat) (c : Cluster) : (s.setCluster k c).contexts = s.contexts := rfl
@[simp] theorem setCluster_quanta (s : State) (k : Nat) (c : Cluster) : (s.setCluster k c).quanta = s.quanta := rfl
@[simp] theorem setCluster_tenure (s : State) (k : Nat) (c : Cluster) : (s.setCluster k c).tenure = s.tenure := rfl
@[simp] theorem setCluster_watchdog (s : State) (k : Nat) (c : Cluster) : (s.setCluster k c).watchdog = s.watchdog := rfl
@[simp] theorem setCluster_holdLimit (s : State) (k : Nat) (c : Cluster) : (s.setCluster k c).holdLimit = s.holdLimit := rfl
@[simp] theorem setCluster_fabricL (s : State) (k : Nat) (c : Cluster) : (s.setCluster k c).fabricL = s.fabricL := rfl
@[simp] theorem setCluster_statusBlock (s : State) (k : Nat) (c : Cluster) : (s.setCluster k c).statusBlock = s.statusBlock := rfl
@[simp] theorem setCluster_windowUnits (s : State) (k : Nat) (c : Cluster) : (s.setCluster k c).windowUnits = s.windowUnits := rfl
@[simp] theorem setCluster_portWays (s : State) (k : Nat) (c : Cluster) : (s.setCluster k c).portWays = s.portWays := rfl
@[simp] theorem setCluster_contextWays (s : State) (k : Nat) (c : Cluster) : (s.setCluster k c).contextWays = s.contextWays := rfl
@[simp] theorem setCluster_loss (s : State) (k : Nat) (c : Cluster) : (s.setCluster k c).loss = s.loss := rfl
@[simp] theorem setCluster_ridgeQ (s : State) (k : Nat) (c : Cluster) : (s.setCluster k c).ridgeQ = s.ridgeQ := rfl
@[simp] theorem setCluster_ports (s : State) (k : Nat) (c : Cluster) : (s.setCluster k c).ports = s.ports := rfl
@[simp] theorem setCluster_flash (s : State) (k : Nat) (c : Cluster) : (s.setCluster k c).flash = s.flash := rfl
@[simp] theorem setCluster_pcieUp (s : State) (k : Nat) (c : Cluster) : (s.setCluster k c).pcieUp = s.pcieUp := rfl
@[simp] theorem setCluster_mailbox (s : State) (k : Nat) (c : Cluster) : (s.setCluster k c).mailbox = s.mailbox := rfl
@[simp] theorem setCluster_manageBox (s : State) (k : Nat) (c : Cluster) : (s.setCluster k c).manageBox = s.manageBox := rfl
@[simp] theorem setCluster_apertures (s : State) (k : Nat) (c : Cluster) : (s.setCluster k c).apertures = s.apertures := rfl
@[simp] theorem setCluster_eave (s : State) (k : Nat) (c : Cluster) : (s.setCluster k c).eave = s.eave := rfl
@[simp] theorem setCluster_boot (s : State) (k : Nat) (c : Cluster) : (s.setCluster k c).boot = s.boot := rfl
@[simp] theorem setCluster_slotImage (s : State) (k : Nat) (c : Cluster) : (s.setCluster k c).slotImage = s.slotImage := rfl
@[simp] theorem setCluster_rollback (s : State) (k : Nat) (c : Cluster) : (s.setCluster k c).rollback = s.rollback := rfl
@[simp] theorem setCluster_fwCore (s : State) (k : Nat) (c : Cluster) : (s.setCluster k c).fwCore = s.fwCore := rfl
@[simp] theorem setCluster_fwSpent (s : State) (k : Nat) (c : Cluster) : (s.setCluster k c).fwSpent = s.fwSpent := rfl
@[simp] theorem setCluster_fwSilent (s : State) (k : Nat) (c : Cluster) : (s.setCluster k c).fwSilent = s.fwSilent := rfl
@[simp] theorem setCluster_fwMissed (s : State) (k : Nat) (c : Cluster) : (s.setCluster k c).fwMissed = s.fwMissed := rfl
@[simp] theorem setCluster_fwBeatAt (s : State) (k : Nat) (c : Cluster) : (s.setCluster k c).fwBeatAt = s.fwBeatAt := rfl
@[simp] theorem setCluster_bootKey (s : State) (k : Nat) (c : Cluster) : (s.setCluster k c).bootKey = s.bootKey := rfl
@[simp] theorem setCluster_errorLog (s : State) (k : Nat) (c : Cluster) : (s.setCluster k c).errorLog = s.errorLog := rfl
@[simp] theorem setCluster_ntr (s : State) (k : Nat) (c : Cluster) : (s.setCluster k c).ntr = s.ntr := rfl
@[simp] theorem setCluster_gutterSize (s : State) (k : Nat) (c : Cluster) : (s.setCluster k c).gutterSize = s.gutterSize := rfl
@[simp] theorem setCluster_pwrLim (s : State) (k : Nat) (c : Cluster) : (s.setCluster k c).pwrLim = s.pwrLim := rfl
@[simp] theorem setCluster_pwr (s : State) (k : Nat) (c : Cluster) : (s.setCluster k c).pwr = s.pwr := rfl
@[simp] theorem setCluster_pacing (s : State) (k : Nat) (c : Cluster) : (s.setCluster k c).pacing = s.pacing := rfl
@[simp] theorem setCluster_pacingAt (s : State) (k : Nat) (c : Cluster) : (s.setCluster k c).pacingAt = s.pacingAt := rfl
@[simp] theorem setCluster_dumpBuf (s : State) (k : Nat) (c : Cluster) : (s.setCluster k c).dumpBuf = s.dumpBuf := rfl
@[simp] theorem setCluster_cores (s : State) (k : Nat) (c : Cluster) : (s.setCluster k c).cores = s.cores := rfl
@[simp] theorem updCluster_now (s : State) (k : Nat) (g : Cluster → Cluster) : (s.updCluster k g).now = s.now := rfl
@[simp] theorem updCluster_timeAdj (s : State) (k : Nat) (g : Cluster → Cluster) : (s.updCluster k g).timeAdj = s.timeAdj := rfl
@[simp] theorem updCluster_turn (s : State) (k : Nat) (g : Cluster → Cluster) : (s.updCluster k g).turn = s.turn := rfl
@[simp] theorem updCluster_agenda (s : State) (k : Nat) (g : Cluster → Cluster) : (s.updCluster k g).agenda = s.agenda := rfl
@[simp] theorem updCluster_out (s : State) (k : Nat) (g : Cluster → Cluster) : (s.updCluster k g).out = s.out := rfl
@[simp] theorem updCluster_fresh (s : State) (k : Nat) (g : Cluster → Cluster) : (s.updCluster k g).fresh = s.fresh := rfl
@[simp] theorem updCluster_dieAtc (s : State) (k : Nat) (g : Cluster → Cluster) : (s.updCluster k g).dieAtc = s.dieAtc := rfl
@[simp] theorem updCluster_pages (s : State) (k : Nat) (g : Cluster → Cluster) : (s.updCluster k g).pages = s.pages := rfl
@[simp] theorem updCluster_invals (s : State) (k : Nat) (g : Cluster → Cluster) : (s.updCluster k g).invals = s.invals := rfl
@[simp] theorem updCluster_engineFails (s : State) (k : Nat) (g : Cluster → Cluster) : (s.updCluster k g).engineFails = s.engineFails := rfl
@[simp] theorem updCluster_mem (s : State) (k : Nat) (g : Cluster → Cluster) : (s.updCluster k g).mem = s.mem := rfl
@[simp] theorem updCluster_tags (s : State) (k : Nat) (g : Cluster → Cluster) : (s.updCluster k g).tags = s.tags := rfl
@[simp] theorem updCluster_dir (s : State) (k : Nat) (g : Cluster → Cluster) : (s.updCluster k g).dir = s.dir := rfl
@[simp] theorem updCluster_ridge (s : State) (k : Nat) (g : Cluster → Cluster) : (s.updCluster k g).ridge = s.ridge := rfl
@[simp] theorem updCluster_snoops (s : State) (k : Nat) (g : Cluster → Cluster) : (s.updCluster k g).snoops = s.snoops := rfl
@[simp] theorem updCluster_accesses (s : State) (k : Nat) (g : Cluster → Cluster) : (s.updCluster k g).accesses = s.accesses := rfl
@[simp] theorem updCluster_nextAccess (s : State) (k : Nat) (g : Cluster → Cluster) : (s.updCluster k g).nextAccess = s.nextAccess := rfl
@[simp] theorem updCluster_requests (s : State) (k : Nat) (g : Cluster → Cluster) : (s.updCluster k g).requests = s.requests := rfl
@[simp] theorem updCluster_refusals (s : State) (k : Nat) (g : Cluster → Cluster) : (s.updCluster k g).refusals = s.refusals := rfl
@[simp] theorem updCluster_stray (s : State) (k : Nat) (g : Cluster → Cluster) : (s.updCluster k g).stray = s.stray := rfl
@[simp] theorem updCluster_flights (s : State) (k : Nat) (g : Cluster → Cluster) : (s.updCluster k g).flights = s.flights := rfl
@[simp] theorem updCluster_groups (s : State) (k : Nat) (g : Cluster → Cluster) : (s.updCluster k g).groups = s.groups := rfl
@[simp] theorem updCluster_kernels (s : State) (k : Nat) (g : Cluster → Cluster) : (s.updCluster k g).kernels = s.kernels := rfl
@[simp] theorem updCluster_queues (s : State) (k : Nat) (g : Cluster → Cluster) : (s.updCluster k g).queues = s.queues := rfl
@[simp] theorem updCluster_lastSlot (s : State) (k : Nat) (g : Cluster → Cluster) : (s.updCluster k g).lastSlot = s.lastSlot := rfl
@[simp] theorem updCluster_links (s : State) (k : Nat) (g : Cluster → Cluster) : (s.updCluster k g).links = s.links := rfl
@[simp] theorem updCluster_vfs (s : State) (k : Nat) (g : Cluster → Cluster) : (s.updCluster k g).vfs = s.vfs := rfl
@[simp] theorem updCluster_regions (s : State) (k : Nat) (g : Cluster → Cluster) : (s.updCluster k g).regions = s.regions := rfl
@[simp] theorem updCluster_partitions (s : State) (k : Nat) (g : Cluster → Cluster) : (s.updCluster k g).partitions = s.partitions := rfl
@[simp] theorem updCluster_contexts (s : State) (k : Nat) (g : Cluster → Cluster) : (s.updCluster k g).contexts = s.contexts := rfl
@[simp] theorem updCluster_quanta (s : State) (k : Nat) (g : Cluster → Cluster) : (s.updCluster k g).quanta = s.quanta := rfl
@[simp] theorem updCluster_tenure (s : State) (k : Nat) (g : Cluster → Cluster) : (s.updCluster k g).tenure = s.tenure := rfl
@[simp] theorem updCluster_watchdog (s : State) (k : Nat) (g : Cluster → Cluster) : (s.updCluster k g).watchdog = s.watchdog := rfl
@[simp] theorem updCluster_holdLimit (s : State) (k : Nat) (g : Cluster → Cluster) : (s.updCluster k g).holdLimit = s.holdLimit := rfl
@[simp] theorem updCluster_fabricL (s : State) (k : Nat) (g : Cluster → Cluster) : (s.updCluster k g).fabricL = s.fabricL := rfl
@[simp] theorem updCluster_statusBlock (s : State) (k : Nat) (g : Cluster → Cluster) : (s.updCluster k g).statusBlock = s.statusBlock := rfl
@[simp] theorem updCluster_windowUnits (s : State) (k : Nat) (g : Cluster → Cluster) : (s.updCluster k g).windowUnits = s.windowUnits := rfl
@[simp] theorem updCluster_portWays (s : State) (k : Nat) (g : Cluster → Cluster) : (s.updCluster k g).portWays = s.portWays := rfl
@[simp] theorem updCluster_contextWays (s : State) (k : Nat) (g : Cluster → Cluster) : (s.updCluster k g).contextWays = s.contextWays := rfl
@[simp] theorem updCluster_loss (s : State) (k : Nat) (g : Cluster → Cluster) : (s.updCluster k g).loss = s.loss := rfl
@[simp] theorem updCluster_ridgeQ (s : State) (k : Nat) (g : Cluster → Cluster) : (s.updCluster k g).ridgeQ = s.ridgeQ := rfl
@[simp] theorem updCluster_ports (s : State) (k : Nat) (g : Cluster → Cluster) : (s.updCluster k g).ports = s.ports := rfl
@[simp] theorem updCluster_flash (s : State) (k : Nat) (g : Cluster → Cluster) : (s.updCluster k g).flash = s.flash := rfl
@[simp] theorem updCluster_pcieUp (s : State) (k : Nat) (g : Cluster → Cluster) : (s.updCluster k g).pcieUp = s.pcieUp := rfl
@[simp] theorem updCluster_mailbox (s : State) (k : Nat) (g : Cluster → Cluster) : (s.updCluster k g).mailbox = s.mailbox := rfl
@[simp] theorem updCluster_manageBox (s : State) (k : Nat) (g : Cluster → Cluster) : (s.updCluster k g).manageBox = s.manageBox := rfl
@[simp] theorem updCluster_apertures (s : State) (k : Nat) (g : Cluster → Cluster) : (s.updCluster k g).apertures = s.apertures := rfl
@[simp] theorem updCluster_eave (s : State) (k : Nat) (g : Cluster → Cluster) : (s.updCluster k g).eave = s.eave := rfl
@[simp] theorem updCluster_boot (s : State) (k : Nat) (g : Cluster → Cluster) : (s.updCluster k g).boot = s.boot := rfl
@[simp] theorem updCluster_slotImage (s : State) (k : Nat) (g : Cluster → Cluster) : (s.updCluster k g).slotImage = s.slotImage := rfl
@[simp] theorem updCluster_rollback (s : State) (k : Nat) (g : Cluster → Cluster) : (s.updCluster k g).rollback = s.rollback := rfl
@[simp] theorem updCluster_fwCore (s : State) (k : Nat) (g : Cluster → Cluster) : (s.updCluster k g).fwCore = s.fwCore := rfl
@[simp] theorem updCluster_fwSpent (s : State) (k : Nat) (g : Cluster → Cluster) : (s.updCluster k g).fwSpent = s.fwSpent := rfl
@[simp] theorem updCluster_fwSilent (s : State) (k : Nat) (g : Cluster → Cluster) : (s.updCluster k g).fwSilent = s.fwSilent := rfl
@[simp] theorem updCluster_fwMissed (s : State) (k : Nat) (g : Cluster → Cluster) : (s.updCluster k g).fwMissed = s.fwMissed := rfl
@[simp] theorem updCluster_fwBeatAt (s : State) (k : Nat) (g : Cluster → Cluster) : (s.updCluster k g).fwBeatAt = s.fwBeatAt := rfl
@[simp] theorem updCluster_bootKey (s : State) (k : Nat) (g : Cluster → Cluster) : (s.updCluster k g).bootKey = s.bootKey := rfl
@[simp] theorem updCluster_errorLog (s : State) (k : Nat) (g : Cluster → Cluster) : (s.updCluster k g).errorLog = s.errorLog := rfl
@[simp] theorem updCluster_ntr (s : State) (k : Nat) (g : Cluster → Cluster) : (s.updCluster k g).ntr = s.ntr := rfl
@[simp] theorem updCluster_gutterSize (s : State) (k : Nat) (g : Cluster → Cluster) : (s.updCluster k g).gutterSize = s.gutterSize := rfl
@[simp] theorem updCluster_pwrLim (s : State) (k : Nat) (g : Cluster → Cluster) : (s.updCluster k g).pwrLim = s.pwrLim := rfl
@[simp] theorem updCluster_pwr (s : State) (k : Nat) (g : Cluster → Cluster) : (s.updCluster k g).pwr = s.pwr := rfl
@[simp] theorem updCluster_pacing (s : State) (k : Nat) (g : Cluster → Cluster) : (s.updCluster k g).pacing = s.pacing := rfl
@[simp] theorem updCluster_pacingAt (s : State) (k : Nat) (g : Cluster → Cluster) : (s.updCluster k g).pacingAt = s.pacingAt := rfl
@[simp] theorem updCluster_dumpBuf (s : State) (k : Nat) (g : Cluster → Cluster) : (s.updCluster k g).dumpBuf = s.dumpBuf := rfl
@[simp] theorem updCluster_cores (s : State) (k : Nat) (g : Cluster → Cluster) : (s.updCluster k g).cores = s.cores := rfl

/-! ### Memory -/

@[simp] theorem setByte_now (s : State) (a : Nat) (b : Byte) : (s.setByte a b).now = s.now := rfl
@[simp] theorem setByte_timeAdj (s : State) (a : Nat) (b : Byte) : (s.setByte a b).timeAdj = s.timeAdj := rfl
@[simp] theorem setByte_turn (s : State) (a : Nat) (b : Byte) : (s.setByte a b).turn = s.turn := rfl
@[simp] theorem setByte_agenda (s : State) (a : Nat) (b : Byte) : (s.setByte a b).agenda = s.agenda := rfl
@[simp] theorem setByte_out (s : State) (a : Nat) (b : Byte) : (s.setByte a b).out = s.out := rfl
@[simp] theorem setByte_fresh (s : State) (a : Nat) (b : Byte) : (s.setByte a b).fresh = s.fresh := rfl
@[simp] theorem setByte_clusters (s : State) (a : Nat) (b : Byte) : (s.setByte a b).clusters = s.clusters := rfl
@[simp] theorem setByte_dieAtc (s : State) (a : Nat) (b : Byte) : (s.setByte a b).dieAtc = s.dieAtc := rfl
@[simp] theorem setByte_pages (s : State) (a : Nat) (b : Byte) : (s.setByte a b).pages = s.pages := rfl
@[simp] theorem setByte_invals (s : State) (a : Nat) (b : Byte) : (s.setByte a b).invals = s.invals := rfl
@[simp] theorem setByte_engineFails (s : State) (a : Nat) (b : Byte) : (s.setByte a b).engineFails = s.engineFails := rfl
@[simp] theorem setByte_tags (s : State) (a : Nat) (b : Byte) : (s.setByte a b).tags = s.tags := rfl
@[simp] theorem setByte_dir (s : State) (a : Nat) (b : Byte) : (s.setByte a b).dir = s.dir := rfl
@[simp] theorem setByte_ridge (s : State) (a : Nat) (b : Byte) : (s.setByte a b).ridge = s.ridge := rfl
@[simp] theorem setByte_snoops (s : State) (a : Nat) (b : Byte) : (s.setByte a b).snoops = s.snoops := rfl
@[simp] theorem setByte_accesses (s : State) (a : Nat) (b : Byte) : (s.setByte a b).accesses = s.accesses := rfl
@[simp] theorem setByte_nextAccess (s : State) (a : Nat) (b : Byte) : (s.setByte a b).nextAccess = s.nextAccess := rfl
@[simp] theorem setByte_requests (s : State) (a : Nat) (b : Byte) : (s.setByte a b).requests = s.requests := rfl
@[simp] theorem setByte_refusals (s : State) (a : Nat) (b : Byte) : (s.setByte a b).refusals = s.refusals := rfl
@[simp] theorem setByte_stray (s : State) (a : Nat) (b : Byte) : (s.setByte a b).stray = s.stray := rfl
@[simp] theorem setByte_flights (s : State) (a : Nat) (b : Byte) : (s.setByte a b).flights = s.flights := rfl
@[simp] theorem setByte_groups (s : State) (a : Nat) (b : Byte) : (s.setByte a b).groups = s.groups := rfl
@[simp] theorem setByte_kernels (s : State) (a : Nat) (b : Byte) : (s.setByte a b).kernels = s.kernels := rfl
@[simp] theorem setByte_queues (s : State) (a : Nat) (b : Byte) : (s.setByte a b).queues = s.queues := rfl
@[simp] theorem setByte_lastSlot (s : State) (a : Nat) (b : Byte) : (s.setByte a b).lastSlot = s.lastSlot := rfl
@[simp] theorem setByte_links (s : State) (a : Nat) (b : Byte) : (s.setByte a b).links = s.links := rfl
@[simp] theorem setByte_vfs (s : State) (a : Nat) (b : Byte) : (s.setByte a b).vfs = s.vfs := rfl
@[simp] theorem setByte_regions (s : State) (a : Nat) (b : Byte) : (s.setByte a b).regions = s.regions := rfl
@[simp] theorem setByte_partitions (s : State) (a : Nat) (b : Byte) : (s.setByte a b).partitions = s.partitions := rfl
@[simp] theorem setByte_contexts (s : State) (a : Nat) (b : Byte) : (s.setByte a b).contexts = s.contexts := rfl
@[simp] theorem setByte_quanta (s : State) (a : Nat) (b : Byte) : (s.setByte a b).quanta = s.quanta := rfl
@[simp] theorem setByte_tenure (s : State) (a : Nat) (b : Byte) : (s.setByte a b).tenure = s.tenure := rfl
@[simp] theorem setByte_watchdog (s : State) (a : Nat) (b : Byte) : (s.setByte a b).watchdog = s.watchdog := rfl
@[simp] theorem setByte_holdLimit (s : State) (a : Nat) (b : Byte) : (s.setByte a b).holdLimit = s.holdLimit := rfl
@[simp] theorem setByte_fabricL (s : State) (a : Nat) (b : Byte) : (s.setByte a b).fabricL = s.fabricL := rfl
@[simp] theorem setByte_statusBlock (s : State) (a : Nat) (b : Byte) : (s.setByte a b).statusBlock = s.statusBlock := rfl
@[simp] theorem setByte_windowUnits (s : State) (a : Nat) (b : Byte) : (s.setByte a b).windowUnits = s.windowUnits := rfl
@[simp] theorem setByte_portWays (s : State) (a : Nat) (b : Byte) : (s.setByte a b).portWays = s.portWays := rfl
@[simp] theorem setByte_contextWays (s : State) (a : Nat) (b : Byte) : (s.setByte a b).contextWays = s.contextWays := rfl
@[simp] theorem setByte_loss (s : State) (a : Nat) (b : Byte) : (s.setByte a b).loss = s.loss := rfl
@[simp] theorem setByte_ridgeQ (s : State) (a : Nat) (b : Byte) : (s.setByte a b).ridgeQ = s.ridgeQ := rfl
@[simp] theorem setByte_ports (s : State) (a : Nat) (b : Byte) : (s.setByte a b).ports = s.ports := rfl
@[simp] theorem setByte_flash (s : State) (a : Nat) (b : Byte) : (s.setByte a b).flash = s.flash := rfl
@[simp] theorem setByte_pcieUp (s : State) (a : Nat) (b : Byte) : (s.setByte a b).pcieUp = s.pcieUp := rfl
@[simp] theorem setByte_mailbox (s : State) (a : Nat) (b : Byte) : (s.setByte a b).mailbox = s.mailbox := rfl
@[simp] theorem setByte_manageBox (s : State) (a : Nat) (b : Byte) : (s.setByte a b).manageBox = s.manageBox := rfl
@[simp] theorem setByte_apertures (s : State) (a : Nat) (b : Byte) : (s.setByte a b).apertures = s.apertures := rfl
@[simp] theorem setByte_eave (s : State) (a : Nat) (b : Byte) : (s.setByte a b).eave = s.eave := rfl
@[simp] theorem setByte_boot (s : State) (a : Nat) (b : Byte) : (s.setByte a b).boot = s.boot := rfl
@[simp] theorem setByte_slotImage (s : State) (a : Nat) (b : Byte) : (s.setByte a b).slotImage = s.slotImage := rfl
@[simp] theorem setByte_rollback (s : State) (a : Nat) (b : Byte) : (s.setByte a b).rollback = s.rollback := rfl
@[simp] theorem setByte_fwCore (s : State) (a : Nat) (b : Byte) : (s.setByte a b).fwCore = s.fwCore := rfl
@[simp] theorem setByte_fwSpent (s : State) (a : Nat) (b : Byte) : (s.setByte a b).fwSpent = s.fwSpent := rfl
@[simp] theorem setByte_fwSilent (s : State) (a : Nat) (b : Byte) : (s.setByte a b).fwSilent = s.fwSilent := rfl
@[simp] theorem setByte_fwMissed (s : State) (a : Nat) (b : Byte) : (s.setByte a b).fwMissed = s.fwMissed := rfl
@[simp] theorem setByte_fwBeatAt (s : State) (a : Nat) (b : Byte) : (s.setByte a b).fwBeatAt = s.fwBeatAt := rfl
@[simp] theorem setByte_bootKey (s : State) (a : Nat) (b : Byte) : (s.setByte a b).bootKey = s.bootKey := rfl
@[simp] theorem setByte_errorLog (s : State) (a : Nat) (b : Byte) : (s.setByte a b).errorLog = s.errorLog := rfl
@[simp] theorem setByte_ntr (s : State) (a : Nat) (b : Byte) : (s.setByte a b).ntr = s.ntr := rfl
@[simp] theorem setByte_gutterSize (s : State) (a : Nat) (b : Byte) : (s.setByte a b).gutterSize = s.gutterSize := rfl
@[simp] theorem setByte_pwrLim (s : State) (a : Nat) (b : Byte) : (s.setByte a b).pwrLim = s.pwrLim := rfl
@[simp] theorem setByte_pwr (s : State) (a : Nat) (b : Byte) : (s.setByte a b).pwr = s.pwr := rfl
@[simp] theorem setByte_pacing (s : State) (a : Nat) (b : Byte) : (s.setByte a b).pacing = s.pacing := rfl
@[simp] theorem setByte_pacingAt (s : State) (a : Nat) (b : Byte) : (s.setByte a b).pacingAt = s.pacingAt := rfl
@[simp] theorem setByte_dumpBuf (s : State) (a : Nat) (b : Byte) : (s.setByte a b).dumpBuf = s.dumpBuf := rfl
@[simp] theorem setByte_cores (s : State) (a : Nat) (b : Byte) : (s.setByte a b).cores = s.cores := rfl
@[simp] theorem clearTags_now (s : State) (a n : Nat) : (s.clearTags a n).now = s.now := rfl
@[simp] theorem clearTags_timeAdj (s : State) (a n : Nat) : (s.clearTags a n).timeAdj = s.timeAdj := rfl
@[simp] theorem clearTags_turn (s : State) (a n : Nat) : (s.clearTags a n).turn = s.turn := rfl
@[simp] theorem clearTags_agenda (s : State) (a n : Nat) : (s.clearTags a n).agenda = s.agenda := rfl
@[simp] theorem clearTags_out (s : State) (a n : Nat) : (s.clearTags a n).out = s.out := rfl
@[simp] theorem clearTags_fresh (s : State) (a n : Nat) : (s.clearTags a n).fresh = s.fresh := rfl
@[simp] theorem clearTags_clusters (s : State) (a n : Nat) : (s.clearTags a n).clusters = s.clusters := rfl
@[simp] theorem clearTags_dieAtc (s : State) (a n : Nat) : (s.clearTags a n).dieAtc = s.dieAtc := rfl
@[simp] theorem clearTags_pages (s : State) (a n : Nat) : (s.clearTags a n).pages = s.pages := rfl
@[simp] theorem clearTags_invals (s : State) (a n : Nat) : (s.clearTags a n).invals = s.invals := rfl
@[simp] theorem clearTags_engineFails (s : State) (a n : Nat) : (s.clearTags a n).engineFails = s.engineFails := rfl
@[simp] theorem clearTags_mem (s : State) (a n : Nat) : (s.clearTags a n).mem = s.mem := rfl
@[simp] theorem clearTags_dir (s : State) (a n : Nat) : (s.clearTags a n).dir = s.dir := rfl
@[simp] theorem clearTags_ridge (s : State) (a n : Nat) : (s.clearTags a n).ridge = s.ridge := rfl
@[simp] theorem clearTags_snoops (s : State) (a n : Nat) : (s.clearTags a n).snoops = s.snoops := rfl
@[simp] theorem clearTags_accesses (s : State) (a n : Nat) : (s.clearTags a n).accesses = s.accesses := rfl
@[simp] theorem clearTags_nextAccess (s : State) (a n : Nat) : (s.clearTags a n).nextAccess = s.nextAccess := rfl
@[simp] theorem clearTags_requests (s : State) (a n : Nat) : (s.clearTags a n).requests = s.requests := rfl
@[simp] theorem clearTags_refusals (s : State) (a n : Nat) : (s.clearTags a n).refusals = s.refusals := rfl
@[simp] theorem clearTags_stray (s : State) (a n : Nat) : (s.clearTags a n).stray = s.stray := rfl
@[simp] theorem clearTags_flights (s : State) (a n : Nat) : (s.clearTags a n).flights = s.flights := rfl
@[simp] theorem clearTags_groups (s : State) (a n : Nat) : (s.clearTags a n).groups = s.groups := rfl
@[simp] theorem clearTags_kernels (s : State) (a n : Nat) : (s.clearTags a n).kernels = s.kernels := rfl
@[simp] theorem clearTags_queues (s : State) (a n : Nat) : (s.clearTags a n).queues = s.queues := rfl
@[simp] theorem clearTags_lastSlot (s : State) (a n : Nat) : (s.clearTags a n).lastSlot = s.lastSlot := rfl
@[simp] theorem clearTags_links (s : State) (a n : Nat) : (s.clearTags a n).links = s.links := rfl
@[simp] theorem clearTags_vfs (s : State) (a n : Nat) : (s.clearTags a n).vfs = s.vfs := rfl
@[simp] theorem clearTags_regions (s : State) (a n : Nat) : (s.clearTags a n).regions = s.regions := rfl
@[simp] theorem clearTags_partitions (s : State) (a n : Nat) : (s.clearTags a n).partitions = s.partitions := rfl
@[simp] theorem clearTags_contexts (s : State) (a n : Nat) : (s.clearTags a n).contexts = s.contexts := rfl
@[simp] theorem clearTags_quanta (s : State) (a n : Nat) : (s.clearTags a n).quanta = s.quanta := rfl
@[simp] theorem clearTags_tenure (s : State) (a n : Nat) : (s.clearTags a n).tenure = s.tenure := rfl
@[simp] theorem clearTags_watchdog (s : State) (a n : Nat) : (s.clearTags a n).watchdog = s.watchdog := rfl
@[simp] theorem clearTags_holdLimit (s : State) (a n : Nat) : (s.clearTags a n).holdLimit = s.holdLimit := rfl
@[simp] theorem clearTags_fabricL (s : State) (a n : Nat) : (s.clearTags a n).fabricL = s.fabricL := rfl
@[simp] theorem clearTags_statusBlock (s : State) (a n : Nat) : (s.clearTags a n).statusBlock = s.statusBlock := rfl
@[simp] theorem clearTags_windowUnits (s : State) (a n : Nat) : (s.clearTags a n).windowUnits = s.windowUnits := rfl
@[simp] theorem clearTags_portWays (s : State) (a n : Nat) : (s.clearTags a n).portWays = s.portWays := rfl
@[simp] theorem clearTags_contextWays (s : State) (a n : Nat) : (s.clearTags a n).contextWays = s.contextWays := rfl
@[simp] theorem clearTags_loss (s : State) (a n : Nat) : (s.clearTags a n).loss = s.loss := rfl
@[simp] theorem clearTags_ridgeQ (s : State) (a n : Nat) : (s.clearTags a n).ridgeQ = s.ridgeQ := rfl
@[simp] theorem clearTags_ports (s : State) (a n : Nat) : (s.clearTags a n).ports = s.ports := rfl
@[simp] theorem clearTags_flash (s : State) (a n : Nat) : (s.clearTags a n).flash = s.flash := rfl
@[simp] theorem clearTags_pcieUp (s : State) (a n : Nat) : (s.clearTags a n).pcieUp = s.pcieUp := rfl
@[simp] theorem clearTags_mailbox (s : State) (a n : Nat) : (s.clearTags a n).mailbox = s.mailbox := rfl
@[simp] theorem clearTags_manageBox (s : State) (a n : Nat) : (s.clearTags a n).manageBox = s.manageBox := rfl
@[simp] theorem clearTags_apertures (s : State) (a n : Nat) : (s.clearTags a n).apertures = s.apertures := rfl
@[simp] theorem clearTags_eave (s : State) (a n : Nat) : (s.clearTags a n).eave = s.eave := rfl
@[simp] theorem clearTags_boot (s : State) (a n : Nat) : (s.clearTags a n).boot = s.boot := rfl
@[simp] theorem clearTags_slotImage (s : State) (a n : Nat) : (s.clearTags a n).slotImage = s.slotImage := rfl
@[simp] theorem clearTags_rollback (s : State) (a n : Nat) : (s.clearTags a n).rollback = s.rollback := rfl
@[simp] theorem clearTags_fwCore (s : State) (a n : Nat) : (s.clearTags a n).fwCore = s.fwCore := rfl
@[simp] theorem clearTags_fwSpent (s : State) (a n : Nat) : (s.clearTags a n).fwSpent = s.fwSpent := rfl
@[simp] theorem clearTags_fwSilent (s : State) (a n : Nat) : (s.clearTags a n).fwSilent = s.fwSilent := rfl
@[simp] theorem clearTags_fwMissed (s : State) (a n : Nat) : (s.clearTags a n).fwMissed = s.fwMissed := rfl
@[simp] theorem clearTags_fwBeatAt (s : State) (a n : Nat) : (s.clearTags a n).fwBeatAt = s.fwBeatAt := rfl
@[simp] theorem clearTags_bootKey (s : State) (a n : Nat) : (s.clearTags a n).bootKey = s.bootKey := rfl
@[simp] theorem clearTags_errorLog (s : State) (a n : Nat) : (s.clearTags a n).errorLog = s.errorLog := rfl
@[simp] theorem clearTags_ntr (s : State) (a n : Nat) : (s.clearTags a n).ntr = s.ntr := rfl
@[simp] theorem clearTags_gutterSize (s : State) (a n : Nat) : (s.clearTags a n).gutterSize = s.gutterSize := rfl
@[simp] theorem clearTags_pwrLim (s : State) (a n : Nat) : (s.clearTags a n).pwrLim = s.pwrLim := rfl
@[simp] theorem clearTags_pwr (s : State) (a n : Nat) : (s.clearTags a n).pwr = s.pwr := rfl
@[simp] theorem clearTags_pacing (s : State) (a n : Nat) : (s.clearTags a n).pacing = s.pacing := rfl
@[simp] theorem clearTags_pacingAt (s : State) (a n : Nat) : (s.clearTags a n).pacingAt = s.pacingAt := rfl
@[simp] theorem clearTags_dumpBuf (s : State) (a n : Nat) : (s.clearTags a n).dumpBuf = s.dumpBuf := rfl
@[simp] theorem clearTags_cores (s : State) (a n : Nat) : (s.clearTags a n).cores = s.cores := rfl

/-! ### Lookups -/

@[simp] theorem core_setCore_same (s : State) (k : Nat) (c : Core) : (s.setCore k c).core k = c := by
  simp [State.setCore, State.core]

theorem core_setCore_ne {k j : Nat} (h : j ≠ k) (s : State) (c : Core) : (s.setCore k c).core j = s.core j := by
  simp [State.setCore, State.core, kget_kset_ne h]

@[simp] theorem core_updCore_same (s : State) (k : Nat) (g : Core → Core) : (s.updCore k g).core k = g (s.core k) := by
  simp [State.updCore]

theorem core_updCore_ne {k j : Nat} (h : j ≠ k) (s : State) (g : Core → Core) : (s.updCore k g).core j = s.core j :=
  core_setCore_ne h s _

@[simp] theorem cluster_setCluster_same (s : State) (k : Nat) (c : Cluster) : (s.setCluster k c).cluster k = c := by
  simp [State.setCluster, State.cluster]

@[simp] theorem cluster_updCluster_same (s : State) (k : Nat) (g : Cluster → Cluster) :
    (s.updCluster k g).cluster k = g (s.cluster k) := by
  simp [State.updCluster]

theorem cluster_updCluster_ne {k j : Nat} (h : j ≠ k) (s : State) (g : Cluster → Cluster) :
    (s.updCluster k g).cluster j = s.cluster j := by
  simp [State.updCluster, State.setCluster, State.cluster, kget_kset_ne h]

/-- The strand just placed. -/
@[simp] theorem strand_setStrand_same (s : State) (k sl : Nat) (t : Strand) : (s.setStrand k sl t).strand k sl = some t := by
  simp [State.setStrand, State.strand]

/-- The other slots of the core. -/
theorem strand_setStrand_slot {sl r : Nat} (h : r ≠ sl) (s : State) (k : Nat) (t : Strand) :
    (s.setStrand k sl t).strand k r = s.strand k r := by
  simp [State.setStrand, State.strand, kfind_kset_ne h]

/-- The slots of the other cores. -/
theorem strand_setStrand_core {k j : Nat} (h : j ≠ k) (s : State) (sl r : Nat) (t : Strand) :
    (s.setStrand k sl t).strand j r = s.strand j r := by
  simp [State.setStrand, State.strand, core_updCore_ne h]

/-- The slot of a strand holds the strand changed. -/
theorem strand_updStrand_same {s : State} {k sl : Nat} {t : Strand} (h : s.strand k sl = some t) (g : Strand → Strand) :
    (s.updStrand k sl g).strand k sl = some (g t) := by
  simp [State.updStrand, h]

theorem updStrand_eq {s : State} {k sl : Nat} {t : Strand} (h : s.strand k sl = some t) (g : Strand → Strand) :
    s.updStrand k sl g = s.setStrand k sl (g t) := by
  simp [State.updStrand, h]

/-- A change of a strand that was just placed. -/
@[simp] theorem updStrand_setStrand (s : State) (k sl : Nat) (t : Strand) (g : Strand → Strand) :
    (s.setStrand k sl t).updStrand k sl g = (s.setStrand k sl t).setStrand k sl (g t) :=
  updStrand_eq (strand_setStrand_same s k sl t) g

/-- The strand that has the turn, once its due results are written. -/
@[simp] theorem cur_settled (s : State) (t : Strand) : (s.settled t).cur = some (t.settle s.now) := by
  simp [State.cur, State.settled]

@[simp] theorem turn_strand_settled (s : State) (t : Strand) :
    (s.settled t).strand s.turn.1 s.turn.2 = some (t.settle s.now) := by
  simp [State.settled]

end Sys2Proof.Machine
end

