-- ==== Sys2Proof/Laws/Memory.lean ====
section
/-! SUPPORT. Memory: what a write makes a reader see, the canonical form kept by every memory operation, and the
directory's operations, which leave memory alone. -/
namespace Sys2Proof.Machine

/-! ### One byte -/

@[simp] theorem byte_setByte_same (s : State) (a : Nat) (b : Byte) : (s.setByte a b).byte a = b := by
  simp [State.byte, State.setByte]

theorem byte_setByte_ne {a x : Nat} (h : x ≠ a) (s : State) (b : Byte) : (s.setByte a b).byte x = s.byte x := by
  simp [State.byte, State.setByte, kget_kput_ne h]

@[simp] theorem byte_clearTags (s : State) (a n x : Nat) : (s.clearTags a n).byte x = s.byte x := rfl

/-- A byte depends on memory alone. -/
theorem byte_of_mem {s t : State} (h : t.mem = s.mem) (x : Nat) : t.byte x = s.byte x := by
  simp [State.byte, h]

/-! ### Bytes written -/

/-- Bytes outside those put read as before. -/
theorem byte_putBytes_outside {bs : List Byte} : ∀ {s : State} {a x : Nat}, (x < a ∨ a + bs.length ≤ x) →
    (s.putBytes a bs).byte x = s.byte x := by
  induction bs with
  | nil => intros; rfl
  | cons b bs ih =>
    intro s a x h
    simp only [List.length_cons] at h
    rw [State.putBytes, ih (by omega), byte_setByte_ne (by omega)]

/-- The bytes put read back. -/
theorem byte_putBytes_at {bs : List Byte} : ∀ {s : State} {a i : Nat} (h : i < bs.length),
    (s.putBytes a bs).byte (a + i) = bs[i] := by
  induction bs with
  | nil => intro s a i h; simp at h
  | cons b bs ih =>
    intro s a i h
    cases i with
    | zero =>
      rw [State.putBytes, byte_putBytes_outside (by omega)]
      simp
    | succ i =>
      have := ih (s := s.setByte a b) (a := a + 1) (i := i) (by simpa using h)
      rw [State.putBytes, show a + (i + 1) = a + 1 + i by omega, this]
      simp

/-- A number read where its bytes were put. -/
theorem read_putBytes {bs : List Byte} : ∀ (s : State) (a : Nat), (s.putBytes a bs).read a bs.length = bytesNat bs := by
  induction bs with
  | nil => intros; rfl
  | cons b bs ih =>
    intro s a
    simp only [State.putBytes, List.length_cons, State.read, bytesNat, ih]
    rw [byte_putBytes_outside (by omega)]
    simp

@[simp] theorem length_natBytes (n v : Nat) : (natBytes n v).length = n := by
  induction n generalizing v with
  | zero => rfl
  | succ n ih => simp [natBytes, ih]

/-- The number that the bytes of a number hold. -/
@[simp] theorem bytesNat_natBytes (n v : Nat) : bytesNat (natBytes n v) = v % 256 ^ n := by
  induction n generalizing v with
  | zero => simp [natBytes, bytesNat, Nat.mod_one]
  | succ n ih =>
    simp only [natBytes, bytesNat, ih, BitVec.toNat_ofNat]
    rw [Nat.pow_succ' (m := 256), Nat.mod_mul (x := v) (a := 256)]

/-- R99: bytes outside a write read as before. -/
theorem byte_write_outside {s : State} {bs : List Byte} {a x : Nat} (h : x < a ∨ a + bs.length ≤ x) :
    (s.write a bs).byte x = s.byte x := by
  unfold State.write
  split
  · rfl
  · simpa using byte_putBytes_outside h

/-- R6: a number read where it was written. -/
theorem read_write {s : State} {a n v : Nat} : (s.write a (natBytes n v)).read a n = v % 256 ^ n := by
  cases n with
  | zero => simp [State.read, Nat.mod_one]
  | succ n =>
    have h := read_putBytes (bs := natBytes (n + 1) v) s a
    rw [length_natBytes, bytesNat_natBytes] at h
    rw [← h]
    have hb : ∀ (k b : Nat) (t : State), (t.clearTags a (natBytes (n + 1) v).length).read b k = t.read b k := by
      intro k
      induction k with
      | zero => intros; rfl
      | succ k ih => intro b t; simp only [State.read, ih, byte_clearTags]
    simp only [State.write, natBytes, List.isEmpty_cons, Bool.false_eq_true, ↓reduceIte]
    simpa [natBytes] using hb (n + 1) a _

/-- A tagged write puts the same bytes as a plain one. -/
theorem writeTagged_mem (s : State) (a : Nat) (v : TV) :
    (s.writeTagged a v).mem = (s.write a (natBytes 16 v.bits.toNat)).mem := by
  unfold State.writeTagged
  by_cases h : (v.tag && taggedLoc a) = true
  · rw [if_pos h]
  · rw [if_neg h]

theorem byte_writeTagged_outside {s : State} {v : TV} {a x : Nat} (h : x < a ∨ a + 16 ≤ x) :
    (s.writeTagged a v).byte x = s.byte x := by
  rw [byte_of_mem (writeTagged_mem s a v), byte_write_outside (by simpa using h)]

/-! ### The canonical form -/

/-- Memory lists nothing at reset. -/
theorem wf_reset : Memory.wf State.reset.mem = true := rfl

theorem wf_setByte {s : State} (h : Memory.wf s.mem = true) (a : Nat) (b : Byte) : Memory.wf (s.setByte a b).mem = true :=
  kwf_kput h a b

theorem wf_putBytes {bs : List Byte} : ∀ {s : State}, Memory.wf s.mem = true → ∀ a, Memory.wf (s.putBytes a bs).mem = true := by
  induction bs with
  | nil => intro s h a; exact h
  | cons b bs ih => intro s h a; exact ih (wf_setByte h a b) (a + 1)

theorem wf_write {s : State} (h : Memory.wf s.mem = true) (a : Nat) (bs : List Byte) :
    Memory.wf (s.write a bs).mem = true := by
  unfold State.write
  split
  · exact h
  · simpa using wf_putBytes h a

theorem wf_writeTagged {s : State} (h : Memory.wf s.mem = true) (a : Nat) (v : TV) :
    Memory.wf (s.writeTagged a v).mem = true := by
  rw [writeTagged_mem]
  exact wf_write h a _

theorem wf_writePart {s : State} (h : Memory.wf s.mem = true) (a : Nat) (v : BitVec 128) :
    Memory.wf (s.writePart a v).mem = true := wf_writeTagged h a _

/-! ### The directory -/

@[simp] theorem setSector_mem (s : State) (a b : Nat) (z : Moesi) : (s.setSector a b z).mem = s.mem := rfl
@[simp] theorem setSector_tags (s : State) (a b : Nat) (z : Moesi) : (s.setSector a b z).tags = s.tags := rfl
@[simp] theorem setSector_cores (s : State) (a b : Nat) (z : Moesi) : (s.setSector a b z).cores = s.cores := rfl
@[simp] theorem setSector_turn (s : State) (a b : Nat) (z : Moesi) : (s.setSector a b z).turn = s.turn := rfl

/-- A fold of operations keeps what each keeps. -/
theorem foldl_keeps {α β : Type} {P : State → β} {f : State → α → State} (h : ∀ s a, P (f s a) = P s) (l : List α) (s : State) :
    P (l.foldl f s) = P s := by
  induction l generalizing s with
  | nil => rfl
  | cons a l ih => rw [List.foldl_cons, ih, h]

/-- What the directory never touches. -/
structure DirKeeps (s t : State) : Prop where
  mem : t.mem = s.mem
  tags : t.tags = s.tags
  cores : t.cores = s.cores
  turn : t.turn = s.turn
  now : t.now = s.now
  accesses : t.accesses = s.accesses
  regions : t.regions = s.regions

theorem DirKeeps.rfl' (s : State) : DirKeeps s s := ⟨rfl, rfl, rfl, rfl, rfl, rfl, rfl⟩

theorem DirKeeps.trans {s t u : State} (h : DirKeeps s t) (k : DirKeeps t u) : DirKeeps s u :=
  ⟨k.mem.trans h.mem, k.tags.trans h.tags, k.cores.trans h.cores, k.turn.trans h.turn, k.now.trans h.now,
    k.accesses.trans h.accesses, k.regions.trans h.regions⟩

theorem DirKeeps.fold {α : Type} {f : State → α → State} (h : ∀ s a, DirKeeps s (f s a)) (l : List α) (s : State) :
    DirKeeps s (l.foldl f s) := by
  induction l generalizing s with
  | nil => exact .rfl' s
  | cons a l ih => exact (h s a).trans (ih _)

theorem dirKeeps_setSector (s : State) (a b : Nat) (z : Moesi) : DirKeeps s (s.setSector a b z) :=
  ⟨rfl, rfl, rfl, rfl, rfl, rfl, rfl⟩

/-- A snoop that leaves for the host writes the queue of messages alone. -/
theorem dirKeeps_snoopHost (s : State) (sec : Nat) (own : Bool) : DirKeeps s (s.snoopHost sec own) := by
  unfold State.snoopHost
  split <;> exact ⟨rfl, rfl, rfl, rfl, rfl, rfl, rfl⟩

/-- A cache's access snoops the host, whose own access does not. -/
theorem dirKeeps_snoopUnless (s : State) (sec agent : Nat) (own : Bool) :
    DirKeeps s (if agent = hostCache then s else s.snoopHost sec own) := by
  split
  · exact .rfl' s
  · exact dirKeeps_snoopHost s sec own

theorem dirKeeps_read (s : State) (sec agent : Nat) : DirKeeps s (s.dirRead sec agent) := by
  unfold State.dirRead
  split
  · exact ((dirKeeps_snoopUnless s sec agent false).trans (DirKeeps.fold (fun s h => dirKeeps_setSector s _ h _) _ _)).trans
      (dirKeeps_setSector _ _ _ _)
  · exact .rfl' s

theorem dirKeeps_ridge (s : State) (sec : Nat) : DirKeeps s (s.noteRidge sec) := by
  unfold State.noteRidge
  split
  · exact .rfl' s
  · exact ⟨rfl, rfl, rfl, rfl, rfl, rfl, rfl⟩

theorem dirKeeps_write (s : State) (sec agent : Nat) : DirKeeps s (s.dirWrite sec agent) := by
  unfold State.dirWrite
  exact (((dirKeeps_snoopUnless s sec agent true).trans (dirKeeps_ridge _ sec)).trans
    (DirKeeps.fold (fun s h => dirKeeps_setSector s _ h _) _ _)).trans (dirKeeps_setSector _ _ _ _)

theorem dirKeeps_recall (s : State) (sec : Nat) : DirKeeps s (s.dirRecall sec) :=
  (dirKeeps_snoopHost s sec true).trans ⟨rfl, rfl, rfl, rfl, rfl, rfl, rfl⟩

theorem dirKeeps_peek (s : State) (sec : Nat) : DirKeeps s (s.dirPeek sec) :=
  (dirKeeps_snoopHost s sec false).trans (DirKeeps.fold (fun s h => dirKeeps_setSector s _ h _) _ _)

/-- R289: the directory's part of an access changes no byte, tag or register. -/
theorem dirKeeps_touch (s : State) (cl a n : Nat) (write : Bool) : DirKeeps s (s.touch cl a n write) := by
  unfold State.touch
  split
  · exact .rfl' s
  · refine DirKeeps.fold (fun s sec => ?_) _ s
    split
    · split
      · exact dirKeeps_recall s sec
      · exact dirKeeps_peek s sec
    · split
      · exact dirKeeps_write s sec cl
      · exact dirKeeps_read s sec cl

theorem dirKeeps_touchAtomic (s : State) (cl a n scope : Nat) : DirKeeps s (s.touchAtomic cl a n scope) := by
  unfold State.touchAtomic
  split
  · split
    · exact DirKeeps.fold (fun s sec => dirKeeps_recall s sec) _ s
    · exact .rfl' s
  · exact dirKeeps_touch s cl a n true

end Sys2Proof.Machine
end

