-- ==== Sys2Proof/Laws/Run.lean ====
section
/-! SUPPORT. How a meaning runs: one lemma for each way it can end, the operands that an instruction reads, its result,
and the shapes of instruction that share a meaning. -/
namespace Sys2Proof.Machine

/-! ### Sequencing -/

theorem M.bind_apply {α β : Type} (x : M α) (f : α → M β) (s : State) :
    (x >>= f) s = match x s with | .ok a s' => f a s' | .error e s' => .error e s' := by
  simp only [bind, EStateM.bind]
  cases x s <;> rfl

@[simp] theorem M.pure_apply {α : Type} (a : α) (s : State) : (pure a : M α) s = .ok a s := rfl

@[simp] theorem M.get_apply (s : State) : (get : M State) s = .ok s s := rfl

@[simp] theorem M.set_apply (s s' : State) : (set s' : M PUnit) s = .ok () s' := rfl

@[simp] theorem M.trap_apply {α : Type} (c : Nat) (v : Word) (s : State) : (trap c v : M α) s = .error (.trap c v) s := rfl

@[simp] theorem M.throw_apply {α : Type} (e : Stop) (s : State) : (throw e : M α) s = .error e s := rfl

@[simp] theorem M.waitFor_apply {α : Type} (k : WaitKind) (s : State) : (waitFor k : M α) s = .error (.wait k) s := rfl

@[simp] theorem M.modStrand_apply (f : Strand → Strand) (s : State) :
    modStrand f s = .ok () (s.updStrand s.turn.1 s.turn.2 f) := rfl

@[simp] theorem M.modCore_apply (f : Core → Core) (s : State) : modCore f s = .ok () (s.updCore s.turn.1 f) := rfl

@[simp] theorem M.modState_apply (f : State → State) (s : State) : modState f s = .ok () (f s) := rfl

@[simp] theorem M.self_apply (s : State) : self s = .ok s.turn.1 s := rfl

@[simp] theorem M.getCore_apply (s : State) : getCore s = .ok (s.core s.turn.1) s := rfl

theorem M.getStrand_apply {s : State} {t : Strand} (h : s.cur = some t) : getStrand s = .ok t s := by
  simp [getStrand, h]

/-! ### Endings -/

/-- A meaning that completes. -/
theorem runInstr_ok {sc : Nat} {m : M Flow} {s s2 : State} {t : Strand} {flow : Flow} (h : Turn s t)
    (hm : m (s.settled t) = .ok flow s2) : runInstr sc m s = .next (finish flow sc s2) := by
  unfold State.settled at hm
  simp [runInstr, h.1, h.2, hm]

/-- A meaning that traps. -/
theorem runInstr_trap {sc : Nat} {m : M Flow} {s s2 : State} {t : Strand} {c : Nat} {v : Word} (h : Turn s t)
    (hm : m (s.settled t) = .error (.trap c v) s2) : runInstr sc m s = traps c v t s2 := by
  unfold State.settled at hm
  simp [runInstr, h.1, h.2, hm]

/-- A meaning that traps to return to the next instruction. -/
theorem runInstr_trapNext {sc : Nat} {m : M Flow} {s s2 : State} {t : Strand} {c : Nat} {v : Word} (h : Turn s t)
    (hm : m (s.settled t) = .error (.trapNext c v) s2) :
    runInstr sc m s = .next (takeTrap c v t.pc.toNat (t.pc.toNat + 4) s2) := by
  unfold State.settled at hm
  simp [runInstr, h.1, h.2, hm]

/-- A meaning that waits keeps what it has popped. -/
theorem runInstr_wait {sc : Nat} {m : M Flow} {s s2 : State} {t : Strand} {k : WaitKind} (h : Turn s t)
    (hm : m (s.settled t) = .error (.wait k) s2) : runInstr sc m s = waitsWith k s s2 := by
  unfold State.settled at hm
  simp [runInstr, h.1, h.2, hm]

/-- A meaning that waits and asks for something. -/
theorem runInstr_waitDo {sc : Nat} {m : M Flow} {s s2 : State} {t : Strand} {k : WaitKind} {ask : State → State} (h : Turn s t)
    (hm : m (s.settled t) = .error (.waitDo k ask) s2) : runInstr sc m s = waitsWith k s (ask s2) := by
  unfold State.settled at hm
  simp [runInstr, h.1, h.2, hm]

/-! ### Operands -/

/-- What reading the operands finds when nothing stops the instruction. -/
theorem operandsOf_ok {s n : State} {t : Strand} {fields srcs dests : List (BitVec 6)} {vals : List TV}
    (hc : s.cur = some t) (h1 : firstUnbound t fields = none) (h2 : firstWrongEnd t true (srcs.filter isQ) = none)
    (h3 : firstWrongEnd t false (dests.filter isQ) = none) (h4 : lostRead t srcs = none)
    (h5 : anyBusy t (srcs ++ dests) = false) (h6 : t.chk = true → firstEarly t s.now srcs = none)
    (h7 : (fields.any isQ && s.queueHeld s.turn.1 s.turn.2 ((fields.filter isQ).map qNum)) = false)
    (h8 : gather s.turn.1 s.turn.2 srcs t.popped t s = .inl (vals, n)) :
    operandsOf fields srcs dests s = .ok vals (n.keepPops srcs vals) := by
  have hb : boundFirst fields s = .ok () s := by simp [boundFirst, M.bind_apply, M.getStrand_apply hc, h1]
  simp only [operandsOf, M.bind_apply, hb, M.getStrand_apply hc, M.self_apply, M.get_apply, h2, h3, h4, h5, h7, h8]
  by_cases hk : t.chk = true
  · simp [hk, h6 hk, M.bind_apply]
  · simp [hk, M.bind_apply]

/-- The instruction reads its operands. -/
theorem ReadsFields.ok {s s' : State} {fields srcs dests : List (BitVec 6)} {vals : List TV}
    (h : ReadsFields s fields srcs dests vals s') :
    ∃ t, Turn s t ∧ operandsOf fields srcs dests (s.settled t) = .ok vals s' := by
  obtain ⟨t, ht, h1, h2, h3, h4, h5, h6, h7, n, h8, rfl⟩ := h
  exact ⟨t, ht, operandsOf_ok (cur_settled s t) h1 h2 h3 h4 h5 h6 h7 h8⟩

/-- A meaning that begins with its operands. -/
theorem runs_fields {s s' s2 : State} {fields srcs dests : List (BitVec 6)} {vals : List TV} {f : List TV → M Flow} {sc : Nat}
    {flow : Flow} (h : ReadsFields s fields srcs dests vals s') (hf : f vals s' = .ok flow s2) :
    runInstr sc (operandsOf fields srcs dests >>= f) s = .next (finish flow sc s2) := by
  obtain ⟨t, ht, ho⟩ := h.ok
  exact runInstr_ok ht (by rw [M.bind_apply, ho]; exact hf)

theorem runs_operands {s s' s2 : State} {srcs dests : List (BitVec 6)} {vals : List TV} {f : List TV → M Flow} {sc : Nat}
    {flow : Flow} (h : Reads s srcs dests vals s') (hf : f vals s' = .ok flow s2) :
    runInstr sc (operands srcs dests >>= f) s = .next (finish flow sc s2) := runs_fields h hf

theorem runs_operand1 {s s' s2 : State} {a : BitVec 6} {dests : List (BitVec 6)} {x : TV} {f : TV → M Flow} {sc : Nat}
    {flow : Flow} (h : Reads s [a] dests [x] s') (hf : f x s' = .ok flow s2) :
    runInstr sc (operand1 a dests >>= f) s = .next (finish flow sc s2) := by
  obtain ⟨t, ht, ho⟩ := ReadsFields.ok h
  exact runInstr_ok ht (by simp only [operand1, operands, M.bind_apply, ho, M.pure_apply]; exact hf)

theorem runs_operand2 {s s' s2 : State} {a b : BitVec 6} {dests : List (BitVec 6)} {x y : TV} {f : TV × TV → M Flow} {sc : Nat}
    {flow : Flow} (h : Reads s [a, b] dests [x, y] s') (hf : f (x, y) s' = .ok flow s2) :
    runInstr sc (operand2 a b dests >>= f) s = .next (finish flow sc s2) := by
  obtain ⟨t, ht, ho⟩ := ReadsFields.ok h
  exact runInstr_ok ht (by simp only [operand2, operands, M.bind_apply, ho, M.pure_apply]; exact hf)

theorem runs_operand3 {s s' s2 : State} {a b c : BitVec 6} {dests : List (BitVec 6)} {x y z : TV} {f : TV × TV × TV → M Flow}
    {sc : Nat} {flow : Flow} (h : Reads s [a, b, c] dests [x, y, z] s') (hf : f (x, y, z) s' = .ok flow s2) :
    runInstr sc (operand3 a b c dests >>= f) s = .next (finish flow sc s2) := by
  obtain ⟨t, ht, ho⟩ := ReadsFields.ok h
  exact runInstr_ok ht (by simp only [operand3, operands, M.bind_apply, ho, M.pure_apply]; exact hf)

/-- The same where the meaning traps after it has read its operands. -/
theorem traps_fields {s s' s2 : State} {fields srcs dests : List (BitVec 6)} {vals : List TV} {f : List TV → M Flow} {sc : Nat}
    {c : Nat} {v : Word} (h : ReadsFields s fields srcs dests vals s') (hf : f vals s' = .error (.trap c v) s2) :
    ∃ t, Turn s t ∧ runInstr sc (operandsOf fields srcs dests >>= f) s = traps c v t s2 := by
  obtain ⟨t, ht, ho⟩ := h.ok
  exact ⟨t, ht, runInstr_trap ht (by rw [M.bind_apply, ho]; exact hf)⟩

/-! ### Results -/

/-- R285: the release of the strand that has the turn. -/
theorem released_iff {s : State} : s.released s.turn.1 s.turn.2 = true ↔ Released s := by
  simp [State.released, Released, State.behindFence]

theorem releaseFirst_ok {s : State} {rel : Bool} (h : rel = true → Released s) : releaseFirst rel s = .ok () s := by
  cases rel with
  | false => rfl
  | true =>
    obtain ⟨h1, h2⟩ := h rfl
    simp [releaseFirst, M.bind_apply, released_iff.2 ⟨h1, h2⟩]

/-- R60, R63, R65, R67: a result goes where its field says. -/
theorem result_ok (s : State) (d : BitVec 6) (lat : Nat) (v : TV) : result d lat v s = .ok () (s.written d lat v) := by
  unfold result State.written
  by_cases hq : isQ d = true
  · simp only [hq, if_true, M.modState_apply]
    cases s.pushReleased s.turn.1 s.turn.2 (qNum d) s.nextAccess v <;> rfl
  · simp only [hq, Bool.false_eq_true, if_false]
    by_cases h0 : d = 0#6
    · simp [h0]
    · simp only [h0, if_false]
      by_cases hl : lat ≤ 1
      · simp [hl]
      · simp [hl, M.bind_apply]

/-! ### Shapes of instruction -/

theorem wordOp1_runs {s s' : State} {sc lat : Nat} {d a : BitVec 6} {x : TV} {f : Word → Word} (h : Reads s [a] [d] [x] s') :
    runInstr sc (wordOp1 lat d a f) s = gives sc d lat (TV.ofWord (f x.lo)) s' :=
  runs_operand1 h (by simp only [M.bind_apply, result_ok, M.pure_apply])

theorem wordOp2_runs {s s' : State} {sc lat : Nat} {d a b : BitVec 6} {x y : TV} {f : Word → Word → Word}
    (h : Reads s [a, b] [d] [x, y] s') :
    runInstr sc (wordOp2 lat d a b f) s = gives sc d lat (TV.ofWord (f x.lo y.lo)) s' :=
  runs_operand2 h (by simp only [M.bind_apply, result_ok, M.pure_apply])

theorem wordOp3_runs {s s' : State} {sc lat : Nat} {d a b c : BitVec 6} {x y z : TV} {f : Word → Word → Word → Word}
    (h : Reads s [a, b, c] [d] [x, y, z] s') :
    runInstr sc (wordOp3 lat d a b c f) s = gives sc d lat (TV.ofWord (f x.lo y.lo z.lo)) s' :=
  runs_operand3 h (by simp only [M.bind_apply, result_ok, M.pure_apply])

theorem capOp1_runs {s s' : State} {sc : Nat} {d a : BitVec 6} {x : TV} {f : TV → TV} (h : Reads s [a] [d] [x] s') :
    runInstr sc (capOp1 d a f) s = gives sc d 1 (f x) s' :=
  runs_operand1 h (by simp only [M.bind_apply, result_ok, M.pure_apply])

theorem capOp2_runs {s s' : State} {sc : Nat} {d a b : BitVec 6} {x y : TV} {f : TV → TV → TV}
    (h : Reads s [a, b] [d] [x, y] s') :
    runInstr sc (capOp2 d a b f) s = gives sc d 1 (f x y) s' :=
  runs_operand2 h (by simp only [M.bind_apply, result_ok, M.pure_apply])

/-! ### Events -/

/-- An enabled event. -/
theorem runEvent_some {s s' : State} {r : Option State} (h : r = some s') : runEvent r s = .next s' := by
  simp [runEvent, h]

/-- An event that is not enabled changes nothing. -/
theorem runEvent_none {s : State} {r : Option State} (h : r = none) : runEvent r s = .next s := by
  simp [runEvent, h]

end Sys2Proof.Machine
end

