-- ==== Sys2Proof/Tests/Slice0.lean ====
section
/-! SUPPORT. Small tests of the model: operands refused, words decoded, single steps with results worked out from the
rules, and for each statement of Certificates/Slice0/Obligations.lean states and operands that meet its hypotheses. -/
namespace Sys2Proof.Tests
-- one theorem after another: many at a time need more memory than the check grants
set_option Elab.async false
open Sys2Proof Sys2Proof.Machine

/-! ### Small states -/

/-- A strand with values in general registers. -/
def regs (g : List (Nat × TV)) : Strand := { loadedStrand with g := g }

/-- The package with region 0 running in partition 0. -/
def land : State :=
  { State.reset with
    boot := .running
    regions := [(0, { Region.init with st := .assigned, part := some 0, rail := true, clk := true, gate := true })],
    partitions := [(0, ⟨[0], 2 ^ 30, none, none, none, none, none, 0⟩)] }

/-- Core 0 with the strand in its slot 0. -/
def seat (t : Strand) : Core := { Core.init with slots := [(0, t)], xobound := 0x1000#64, fetchBound := 0x1000#64 }

/-- The strand, whose turn it is, in slot 0 of core 0. -/
def one (t : Strand) : State := { land with cores := [(0, seat t)] }

/-- Data in a register. -/
abbrev w64 (x : Nat) : TV := TV.ofNat x

/-- Two values in g1 and g2. -/
abbrev two (x y : TV) : Strand := regs [(1, x), (2, y)]

/-- A capability over the 256 bytes of core 0's scratchpad from offset 0x2000, with every permission but *local only*. -/
abbrev capS : TV := mkCap (2 ^ 63 + 0x2000) 256 0 0 0x5F

/-- The state after an outcome. -/
def nextOf (o : Host.Outcome State Fault Refusal) : State :=
  match o with
  | .next n => n
  | _ => State.reset

/-- Register `r` of the strand in slot 0 of core 0, every result due written. -/
def reg (r : Nat) (s : State) : Option TV := (s.strand 0 0).map (fun t => t.settleAll.getG r)

/-- The trap cause and value of that strand. -/
def trapOf (s : State) : Option (Nat × Word) := (s.strand 0 0).map (fun t => (t.trapCause.toNat, t.trapVal))

/-! ### Operands that the words may not hold (R62, R84, R85, R88, R135, R239, R247, R260, R319) -/

theorem test_wf_capability_register : (Instr.ld64 1#6 56#6 0#13).wf = false := rfl

theorem test_wf_bit_store_register : (Instr.stbp 60#6 1#6 2#6 0#2).wf = false := rfl

theorem test_wf_scope : (Instr.fence 5#3).wf = false := rfl

theorem test_wf_exchange_level : (Instr.xstart 3#2 0#2).wf = false := rfl

theorem test_wf_rank_level : (Instr.grank 1#6 5#3 0#2).wf = false := rfl

theorem test_wf_reduction_order : (Instr.redAdd 1#6 2#6 0#3 1#2).wf = false := rfl

theorem test_wf_repeat_stride : (Instr.rep 1#6 0#4 2#4 3#5).wf = false := rfl

theorem test_wf_pair_register : (Instr.chtry 55#6 0#3 0#2).wf = false ∧ (Instr.chtry 0#6 0#3 0#2).wf = false := ⟨rfl, rfl⟩

theorem test_wf_four_registers : (Instr.hsrchk 0#4 0#3 53#6).wf = false := rfl

theorem test_wf_bundle_mode : (Instr.hbund 0#3 1#6 2#2 0#1).wf = false := rfl

theorem test_wf_tie_source : (Instr.hthr 0#3 1#3 0#2 1#2 0#1).wf = false := rfl

/-- R88: a word with such an operand is refused, by name. -/
theorem test_refused_word : decode (encode (.ld64 1#6 56#6 0#13)) = .error .badField := rfl

/-! ### Words (R58, R81 to R84): each instruction's word with its fields at distinct values -/

theorem test_words_1 :
    decode 0x0438C281#32 = .ok (.add 5#6 6#6 7#6 2#2) ∧
    decode 0x0C38C281#32 = .ok (.sub 5#6 6#6 7#6 2#2) ∧
    decode 0x1438C281#32 = .ok (.and 5#6 6#6 7#6 2#2) ∧
    decode 0x1C38C281#32 = .ok (.or 5#6 6#6 7#6 2#2) ∧
    decode 0x2438C281#32 = .ok (.xor 5#6 6#6 7#6 2#2) ∧
    decode 0x2C38C281#32 = .ok (.andn 5#6 6#6 7#6 2#2) ∧
    decode 0x3438C281#32 = .ok (.orn 5#6 6#6 7#6 2#2) ∧
    decode 0x3C38C281#32 = .ok (.sll 5#6 6#6 7#6 2#2) ∧
    decode 0x4438C281#32 = .ok (.srl 5#6 6#6 7#6 2#2) ∧
    decode 0x4C38C281#32 = .ok (.sra 5#6 6#6 7#6 2#2) ∧
    decode 0x5438C281#32 = .ok (.rol 5#6 6#6 7#6 2#2) ∧
    decode 0x5C38C281#32 = .ok (.ror 5#6 6#6 7#6 2#2) ∧
    decode 0x6438C281#32 = .ok (.slt 5#6 6#6 7#6 2#2) ∧
    decode 0x6C38C281#32 = .ok (.sltn 5#6 6#6 7#6 2#2) ∧
    decode 0x7438C281#32 = .ok (.seq 5#6 6#6 7#6 2#2) ∧
    decode 0x7C38C281#32 = .ok (.sne 5#6 6#6 7#6 2#2) ∧
    decode 0x8438C281#32 = .ok (.min 5#6 6#6 7#6 2#2) ∧
    decode 0x8C38C281#32 = .ok (.max 5#6 6#6 7#6 2#2) ∧
    decode 0x9438C281#32 = .ok (.minn 5#6 6#6 7#6 2#2) ∧
    decode 0x9C38C281#32 = .ok (.maxn 5#6 6#6 7#6 2#2) ∧
    decode 0xA400C281#32 = .ok (.clz 5#6 6#6 2#2) ∧
    decode 0xAC00C281#32 = .ok (.ctz 5#6 6#6 2#2) ∧
    decode 0xB400C281#32 = .ok (.popc 5#6 6#6 2#2) ∧
    decode 0xBC00C281#32 = .ok (.brev 5#6 6#6 2#2) ∧
    decode 0xC400C281#32 = .ok (.bswap 5#6 6#6 2#2) ∧
    decode 0xCC38C281#32 = .ok (.sxt 5#6 6#6 7#6 2#2) := by
  refine ⟨?_, ?_, ?_, ?_, ?_, ?_, ?_, ?_, ?_, ?_, ?_, ?_, ?_, ?_, ?_, ?_, ?_, ?_, ?_, ?_, ?_, ?_, ?_, ?_, ?_, ?_⟩ <;> rfl

theorem test_words_2 :
    decode 0xD438C281#32 = .ok (.zxt 5#6 6#6 7#6 2#2) ∧
    decode 0xDC38C281#32 = .ok (.addw 5#6 6#6 7#6 2#2) ∧
    decode 0xE438C281#32 = .ok (.subw 5#6 6#6 7#6 2#2) ∧
    decode 0x0438C282#32 = .ok (.mul 5#6 6#6 7#6 2#2) ∧
    decode 0x0C38C282#32 = .ok (.mulh 5#6 6#6 7#6 2#2) ∧
    decode 0x1438C282#32 = .ok (.mulhn 5#6 6#6 7#6 2#2) ∧
    decode 0x1C38C282#32 = .ok (.mulhsn 5#6 6#6 7#6 2#2) ∧
    decode 0x2438C282#32 = .ok (.div 5#6 6#6 7#6 2#2) ∧
    decode 0x2C38C282#32 = .ok (.divn 5#6 6#6 7#6 2#2) ∧
    decode 0x3438C282#32 = .ok (.rem 5#6 6#6 7#6 2#2) ∧
    decode 0x3C38C282#32 = .ok (.remn 5#6 6#6 7#6 2#2) ∧
    decode 0x4438C282#32 = .ok (.mulw 5#6 6#6 7#6 2#2) ∧
    decode 0x4C38C282#32 = .ok (.divw 5#6 6#6 7#6 2#2) ∧
    decode 0x5438C282#32 = .ok (.divnw 5#6 6#6 7#6 2#2) ∧
    decode 0x5C38C282#32 = .ok (.remw 5#6 6#6 7#6 2#2) ∧
    decode 0x6438C282#32 = .ok (.remnw 5#6 6#6 7#6 2#2) ∧
    decode 0xD5E8C283#32 = .ok (.addi 5#6 6#6 6845#13) ∧
    decode 0xD5E8C284#32 = .ok (.andi 5#6 6#6 6845#13) ∧
    decode 0xD5E8C285#32 = .ok (.ori 5#6 6#6 6845#13) ∧
    decode 0xD5E8C286#32 = .ok (.xori 5#6 6#6 6845#13) ∧
    decode 0xD5E8C287#32 = .ok (.slti 5#6 6#6 6845#13) ∧
    decode 0xD5E8C288#32 = .ok (.sltni 5#6 6#6 6845#13) ∧
    decode 0x0168C289#32 = .ok (.slli 5#6 6#6 45#6) ∧
    decode 0x0168C28A#32 = .ok (.srli 5#6 6#6 45#6) ∧
    decode 0x0168C28B#32 = .ok (.srai 5#6 6#6 45#6) ∧
    decode 0xD5E8C28C#32 = .ok (.addwi 5#6 6#6 6845#13) := by
  refine ⟨?_, ?_, ?_, ?_, ?_, ?_, ?_, ?_, ?_, ?_, ?_, ?_, ?_, ?_, ?_, ?_, ?_, ?_, ?_, ?_, ?_, ?_, ?_, ?_, ?_, ?_⟩ <;> rfl

theorem test_words_3 :
    decode 0xB579A28D#32 = .ok (.lui 5#6 371661#19) ∧
    decode 0xB579A28E#32 = .ok (.auipc 5#6 371661#19) ∧
    decode 0x1238C28F#32 = .ok (.madd 5#6 6#6 7#6 9#6) ∧
    decode 0x9238C28F#32 = .ok (.msub 5#6 6#6 7#6 9#6) ∧
    decode 0x0438C290#32 = .ok (.cbnd 5#6 6#6 7#6 2#2) ∧
    decode 0x0C38C290#32 = .ok (.cbnde 5#6 6#6 7#6 2#2) ∧
    decode 0x1438C290#32 = .ok (.cperm 5#6 6#6 7#6 2#2) ∧
    decode 0x1C38C290#32 = .ok (.cseta 5#6 6#6 7#6 2#2) ∧
    decode 0x2438C290#32 = .ok (.cadd 5#6 6#6 7#6 2#2) ∧
    decode 0x2C00C290#32 = .ok (.cbase 5#6 6#6 2#2) ∧
    decode 0x3400C290#32 = .ok (.clen 5#6 6#6 2#2) ∧
    decode 0x3C00C290#32 = .ok (.cperms 5#6 6#6 2#2) ∧
    decode 0x4400C290#32 = .ok (.ctag 5#6 6#6 2#2) ∧
    decode 0x4C00C290#32 = .ok (.cclr 5#6 6#6 2#2) ∧
    decode 0x5400C290#32 = .ok (.cmv 5#6 6#6 2#2) ∧
    decode 0x5C38C290#32 = .ok (.csub 5#6 6#6 7#6 2#2) ∧
    decode 0x6438C290#32 = .ok (.ctest 5#6 6#6 7#6 2#2) ∧
    decode 0xD5E8C291#32 = .ok (.caddi 5#6 6#6 6845#13) ∧
    decode 0x0168C292#32 = .ok (.cbndi 5#6 6#6 45#12) ∧
    decode 0xD5E8C293#32 = .ok (.ldI8 5#6 6#6 6845#13) ∧
    decode 0xD5E8C294#32 = .ok (.ldN8 5#6 6#6 6845#13) ∧
    decode 0xD5E8C295#32 = .ok (.ldI16 5#6 6#6 6845#13) ∧
    decode 0xD5E8C296#32 = .ok (.ldN16 5#6 6#6 6845#13) ∧
    decode 0xD5E8C297#32 = .ok (.ldI32 5#6 6#6 6845#13) ∧
    decode 0xD5E8C298#32 = .ok (.ldN32 5#6 6#6 6845#13) ∧
    decode 0xD5E8C299#32 = .ok (.ld64 5#6 6#6 6845#13) := by
  refine ⟨?_, ?_, ?_, ?_, ?_, ?_, ?_, ?_, ?_, ?_, ?_, ?_, ?_, ?_, ?_, ?_, ?_, ?_, ?_, ?_, ?_, ?_, ?_, ?_, ?_, ?_⟩ <;> rfl

theorem test_words_4 :
    decode 0xD5E8C29A#32 = .ok (.ld128 5#6 6#6 6845#13) ∧
    decode 0xD438DE9B#32 = .ok (.st8 6#6 7#6 6845#13) ∧
    decode 0xD438DE9C#32 = .ok (.st16 6#6 7#6 6845#13) ∧
    decode 0xD438DE9D#32 = .ok (.st32 6#6 7#6 6845#13) ∧
    decode 0xD438DE9E#32 = .ok (.st64 6#6 7#6 6845#13) ∧
    decode 0xD438DE9F#32 = .ok (.st128 6#6 7#6 6845#13) ∧
    decode 0x0438C2A0#32 = .ok (.ldbI 5#6 6#6 7#6 2#2) ∧
    decode 0x0C38C2A0#32 = .ok (.ldbN 5#6 6#6 7#6 2#2) ∧
    decode 0x1438C2A0#32 = .ok (.ldbpI 5#6 6#6 7#6 2#2) ∧
    decode 0x1C38C2A0#32 = .ok (.ldbpN 5#6 6#6 7#6 2#2) ∧
    decode 0x2438C2A0#32 = .ok (.stb 5#6 6#6 7#6 2#2) ∧
    decode 0x2C38C2A0#32 = .ok (.stbp 5#6 6#6 7#6 2#2) ∧
    decode 0x0438C2A1#32 = .ok (.faddF32 5#6 6#6 7#6 2#2) ∧
    decode 0x0C38C2A1#32 = .ok (.fsubF32 5#6 6#6 7#6 2#2) ∧
    decode 0x1438C2A1#32 = .ok (.fmulF32 5#6 6#6 7#6 2#2) ∧
    decode 0x1C38C2A1#32 = .ok (.fdivF32 5#6 6#6 7#6 2#2) ∧
    decode 0x2400C2A1#32 = .ok (.fsqrtF32 5#6 6#6 2#2) ∧
    decode 0x2C38C2A1#32 = .ok (.fminF32 5#6 6#6 7#6 2#2) ∧
    decode 0x3438C2A1#32 = .ok (.fmaxF32 5#6 6#6 7#6 2#2) ∧
    decode 0x3C38C2A1#32 = .ok (.feqF32 5#6 6#6 7#6 2#2) ∧
    decode 0x4438C2A1#32 = .ok (.fltF32 5#6 6#6 7#6 2#2) ∧
    decode 0x4C38C2A1#32 = .ok (.fleF32 5#6 6#6 7#6 2#2) ∧
    decode 0x5400C2A1#32 = .ok (.fclassF32 5#6 6#6 2#2) ∧
    decode 0x5C38C2A1#32 = .ok (.fsgnF32 5#6 6#6 7#6 2#2) ∧
    decode 0x6400C2A1#32 = .ok (.fnegF32 5#6 6#6 2#2) ∧
    decode 0x6C00C2A1#32 = .ok (.fabsF32 5#6 6#6 2#2) := by
  refine ⟨?_, ?_, ?_, ?_, ?_, ?_, ?_, ?_, ?_, ?_, ?_, ?_, ?_, ?_, ?_, ?_, ?_, ?_, ?_, ?_, ?_, ?_, ?_, ?_, ?_, ?_⟩ <;> rfl

theorem test_words_5 :
    decode 0x0400C2A2#32 = .ok (.fcvtF32I64 5#6 6#6 2#2) ∧
    decode 0x0C00C2A2#32 = .ok (.fcvtF32N64 5#6 6#6 2#2) ∧
    decode 0x1400C2A2#32 = .ok (.fcvtI64F32 5#6 6#6 2#2) ∧
    decode 0x1C00C2A2#32 = .ok (.fcvtN64F32 5#6 6#6 2#2) ∧
    decode 0x2400C2A2#32 = .ok (.fcvtF32Bf16 5#6 6#6 2#2) ∧
    decode 0x2C00C2A2#32 = .ok (.fcvtBf16F32 5#6 6#6 2#2) ∧
    decode 0x3400C2A2#32 = .ok (.fcvtF32F16 5#6 6#6 2#2) ∧
    decode 0x3C00C2A2#32 = .ok (.fcvtF16F32 5#6 6#6 2#2) ∧
    decode 0x4400C2A2#32 = .ok (.fcvtF32E8 5#6 6#6 2#2) ∧
    decode 0x4C00C2A2#32 = .ok (.fcvtE8F32 5#6 6#6 2#2) ∧
    decode 0x1238C2A3#32 = .ok (.fmaddF32 5#6 6#6 7#6 9#6) ∧
    decode 0x9238C2A3#32 = .ok (.fmsubF32 5#6 6#6 7#6 9#6) ∧
    decode 0xD5E8E324#32 = .ok (.beq 6#6 7#6 6845#13) ∧
    decode 0xD5E8E325#32 = .ok (.bne 6#6 7#6 6845#13) ∧
    decode 0xD5E8E326#32 = .ok (.blt 6#6 7#6 6845#13) ∧
    decode 0xD5E8E327#32 = .ok (.bge 6#6 7#6 6845#13) ∧
    decode 0xD5E8E328#32 = .ok (.bltn 6#6 7#6 6845#13) ∧
    decode 0xD5E8E329#32 = .ok (.bgen 6#6 7#6 6845#13) ∧
    decode 0xB579A2AA#32 = .ok (.jal 5#6 371661#19) ∧
    decode 0xD5E8C2AB#32 = .ok (.jalr 5#6 6#6 6845#13) ∧
    decode 0x4A98C02C#32 = .ok (.rep 6#6 5#4 3#4 9#5) ∧
    decode 0x016802AD#32 = .ok (.sget 5#6 45#12) ∧
    decode 0x0168C02E#32 = .ok (.sset 6#6 45#12) ∧
    decode 0x0168C2AF#32 = .ok (.sswap 5#6 6#6 45#12) ∧
    decode 0x0400C030#32 = .ok (.trap 6#6 2#2) ∧
    decode 0x0C000030#32 = .ok (.brk 2#2) := by
  refine ⟨?_, ?_, ?_, ?_, ?_, ?_, ?_, ?_, ?_, ?_, ?_, ?_, ?_, ?_, ?_, ?_, ?_, ?_, ?_, ?_, ?_, ?_, ?_, ?_, ?_, ?_⟩ <;> rfl

theorem test_words_6 :
    decode 0x14000030#32 = .ok (.rett 2#2) ∧
    decode 0x1C000030#32 = .ok (.ifence 2#2) ∧
    decode 0x24000030#32 = .ok (.halt 2#2) ∧
    decode 0x2C0002B0#32 = .ok (.rdcyc 5#6 2#2) ∧
    decode 0x340002B0#32 = .ok (.rdtime 5#6 2#2) ∧
    decode 0x3C0002B0#32 = .ok (.rdret 5#6 2#2) ∧
    decode 0x4438C030#32 = .ok (.xlpf 6#6 7#6 2#2) ∧
    decode 0x4C00C2B0#32 = .ok (.pgprobe 5#6 6#6 2#2) ∧
    decode 0x5438C2B0#32 = .ok (.atcinv 5#6 6#6 7#6 2#2) ∧
    decode 0x0438C2B1#32 = .ok (.spawn 5#6 6#6 7#6 2#2) ∧
    decode 0x0C000031#32 = .ok (.suspend 2#2) ∧
    decode 0x14000031#32 = .ok (.yield 2#2) ∧
    decode 0x1C000031#32 = .ok (.retire 2#2) ∧
    decode 0x2400C2B1#32 = .ok (.wake 5#6 6#6 2#2) ∧
    decode 0x2C0002B1#32 = .ok (.stid 5#6 2#2) ∧
    decode 0x3400C2B1#32 = .ok (.setpri 5#6 6#6 2#2) ∧
    decode 0x041002B2#32 = .ok (.sync 5#6 2#2 2#2) ∧
    decode 0x0C100032#32 = .ok (.xstart 2#2 2#2) ∧
    decode 0x14000032#32 = .ok (.xdone 2#2) ∧
    decode 0x1C1002B2#32 = .ok (.grank 5#6 2#3 2#2) ∧
    decode 0x241002B2#32 = .ok (.gsize 5#6 2#3 2#2) ∧
    decode 0x2C10C2B2#32 = .ok (.gmember 5#6 6#6 2#2 2#2) ∧
    decode 0x1238C033#32 = .ok (.xput 6#6 7#6 9#6) ∧
    decode 0x9238C033#32 = .ok (.xget 6#6 7#6 9#6) ∧
    decode 0x0400C2B4#32 = .ok (.evwait 5#6 6#6 2#2) ∧
    decode 0x0C38C034#32 = .ok (.evsig 6#6 7#6 2#2) := by
  refine ⟨?_, ?_, ?_, ?_, ?_, ?_, ?_, ?_, ?_, ?_, ?_, ?_, ?_, ?_, ?_, ?_, ?_, ?_, ?_, ?_, ?_, ?_, ?_, ?_, ?_, ?_⟩ <;> rfl

theorem test_words_7 :
    decode 0x1438C034#32 = .ok (.evsend 6#6 7#6 2#2) ∧
    decode 0x1C38C2B4#32 = .ok (.barc 5#6 6#6 7#6 2#2) ∧
    decode 0x2400C2B4#32 = .ok (.bara 5#6 6#6 2#2) ∧
    decode 0x2C38C034#32 = .ok (.barw 6#6 7#6 2#2) ∧
    decode 0x3400C2B4#32 = .ok (.barrc 5#6 6#6 2#2) ∧
    decode 0x3C00C034#32 = .ok (.mtxlock 6#6 2#2) ∧
    decode 0x4400C2B4#32 = .ok (.mtxfree 5#6 6#6 2#2) ∧
    decode 0x7038C2B5#32 = .ok (.amoSwap 5#6 6#6 7#6 3#3 2#2) ∧
    decode 0x7238C2B5#32 = .ok (.amoAdd 5#6 6#6 7#6 3#3 2#2) ∧
    decode 0x7438C2B5#32 = .ok (.amoAnd 5#6 6#6 7#6 3#3 2#2) ∧
    decode 0x7638C2B5#32 = .ok (.amoOr 5#6 6#6 7#6 3#3 2#2) ∧
    decode 0x7038C2B6#32 = .ok (.amoXor 5#6 6#6 7#6 3#3 2#2) ∧
    decode 0x7238C2B6#32 = .ok (.amoMin 5#6 6#6 7#6 3#3 2#2) ∧
    decode 0x7438C2B6#32 = .ok (.amoMax 5#6 6#6 7#6 3#3 2#2) ∧
    decode 0x7638C2B6#32 = .ok (.amoMinn 5#6 6#6 7#6 3#3 2#2) ∧
    decode 0x7038C2B7#32 = .ok (.amoMaxn 5#6 6#6 7#6 3#3 2#2) ∧
    decode 0x7238C2B7#32 = .ok (.amoFaddF32 5#6 6#6 7#6 3#3 2#2) ∧
    decode 0x7438C2B7#32 = .ok (.amoFminF32 5#6 6#6 7#6 3#3 2#2) ∧
    decode 0x7638C2B7#32 = .ok (.amoFmaxF32 5#6 6#6 7#6 3#3 2#2) ∧
    decode 0x7038C038#32 = .ok (.redAdd 6#6 7#6 3#3 2#2) ∧
    decode 0x7238C038#32 = .ok (.redFaddF32 6#6 7#6 3#3 2#2) ∧
    decode 0x7438C038#32 = .ok (.redMin 6#6 7#6 3#3 2#2) ∧
    decode 0x7638C038#32 = .ok (.redMax 6#6 7#6 3#3 2#2) ∧
    decode 0x7038C2B9#32 = .ok (.cas64 5#6 6#6 7#6 3#3 2#2) ∧
    decode 0x7238C2B9#32 = .ok (.cas128 5#6 6#6 7#6 3#3 2#2) ∧
    decode 0x6438C2B9#32 = .ok (.waitv64 5#6 6#6 7#6 3#3 0#1) := by
  refine ⟨?_, ?_, ?_, ?_, ?_, ?_, ?_, ?_, ?_, ?_, ?_, ?_, ?_, ?_, ?_, ?_, ?_, ?_, ?_, ?_, ?_, ?_, ?_, ?_, ?_, ?_⟩ <;> rfl

theorem test_words_8 :
    decode 0x6638C2B9#32 = .ok (.waitv32 5#6 6#6 7#6 3#3 0#1) ∧
    decode 0x6000003A#32 = .ok (.fence 3#3) ∧
    decode 0x6200003A#32 = .ok (.fenceAcq 3#3) ∧
    decode 0x6400003A#32 = .ok (.fenceRel 3#3) ∧
    decode 0x8600003A#32 = .ok (.fenceWin) ∧
    decode 0x6000C2BB#32 = .ok (.lda64 5#6 6#6 3#3) ∧
    decode 0x6200C2BB#32 = .ok (.lda32 5#6 6#6 3#3) ∧
    decode 0x6438C03B#32 = .ok (.stl64 6#6 7#6 3#3) ∧
    decode 0x6638C03B#32 = .ok (.stl32 6#6 7#6 3#3) ∧
    decode 0x0438DEBC#32 = .ok (.chbind 5#3 6#6 7#6 2#2) ∧
    decode 0x0C381EBC#32 = .ok (.chfree 5#3 7#6 2#2) ∧
    decode 0x1407C2BC#32 = .ok (.chcnt 5#6 6#3 2#2) ∧
    decode 0x1C07C2BC#32 = .ok (.chspace 5#6 6#3 2#2) ∧
    decode 0x243FC2BC#32 = .ok (.chpeek 5#6 6#3 7#6 2#2) ∧
    decode 0x2C07C2BC#32 = .ok (.chtry 5#6 6#3 2#2) ∧
    decode 0x3400DEBC#32 = .ok (.chput 5#3 6#6 2#2) ∧
    decode 0x3C38C03C#32 = .ok (.msend 6#6 7#6 2#2) ∧
    decode 0x0400C2C0#32 = .ok (.shpLd 5#4 6#6 2#2) ∧
    decode 0x0C00C2C0#32 = .ok (.shpSt 5#4 6#6 2#2) ∧
    decode 0x1438C2C0#32 = .ok (.shpGet 5#6 6#4 7#6 2#2) ∧
    decode 0x1C38C2C0#32 = .ok (.shpSet 5#4 6#6 7#6 2#2) ∧
    decode 0x2438C2C0#32 = .ok (.shpAdv 5#4 6#6 7#6 2#2) ∧
    decode 0x2C00C2C0#32 = .ok (.shpMv 5#4 6#4 2#2) ∧
    decode 0x00076AC1#32 = .ok (.vadd 5#4 6#4 7#4 1#1) ∧
    decode 0x08076AC1#32 = .ok (.vsub 5#4 6#4 7#4 1#1) ∧
    decode 0x10076AC1#32 = .ok (.vmul 5#4 6#4 7#4 1#1) := by
  refine ⟨?_, ?_, ?_, ?_, ?_, ?_, ?_, ?_, ?_, ?_, ?_, ?_, ?_, ?_, ?_, ?_, ?_, ?_, ?_, ?_, ?_, ?_, ?_, ?_, ?_, ?_⟩ <;> rfl

theorem test_words_9 :
    decode 0x18076AC1#32 = .ok (.vfma 5#4 6#4 7#4 1#1) ∧
    decode 0x200762C1#32 = .ok (.vmin 5#4 6#4 7#4) ∧
    decode 0x280762C1#32 = .ok (.vmax 5#4 6#4 7#4) ∧
    decode 0x30006AC1#32 = .ok (.vabs 5#4 6#4 1#1) ∧
    decode 0x38006AC1#32 = .ok (.vneg 5#4 6#4 1#1) ∧
    decode 0x400062C1#32 = .ok (.vrcp 5#4 6#4) ∧
    decode 0x480062C1#32 = .ok (.vrsqrt 5#4 6#4) ∧
    decode 0x500062C1#32 = .ok (.vexp2 5#4 6#4) ∧
    decode 0x580062C1#32 = .ok (.vlog2 5#4 6#4) ∧
    decode 0x600062C1#32 = .ok (.vtanh 5#4 6#4) ∧
    decode 0x680062C1#32 = .ok (.vsig 5#4 6#4) ∧
    decode 0x00A06AC2#32 = .ok (.vaddi 5#4 6#4 10#6 1#1) ∧
    decode 0x08A06AC2#32 = .ok (.vsubi 5#4 6#4 10#6 1#1) ∧
    decode 0x10A06AC2#32 = .ok (.vmuli 5#4 6#4 10#6 1#1) ∧
    decode 0x180762C2#32 = .ok (.vand 5#4 6#4 7#4) ∧
    decode 0x200762C2#32 = .ok (.vor 5#4 6#4 7#4) ∧
    decode 0x280762C2#32 = .ok (.vxor 5#4 6#4 7#4) ∧
    decode 0x30A062C2#32 = .ok (.vshl 5#4 6#4 10#6) ∧
    decode 0x38A062C2#32 = .ok (.vshr 5#4 6#4 10#6) ∧
    decode 0x40A062C2#32 = .ok (.vsra 5#4 6#4 10#6) ∧
    decode 0x48A062C2#32 = .ok (.vsat 5#4 6#4 10#6) ∧
    decode 0x000762C3#32 = .ok (.vcmpEq 5#4 6#4 7#4) ∧
    decode 0x080762C3#32 = .ok (.vcmpLt 5#4 6#4 7#4) ∧
    decode 0x100762C3#32 = .ok (.vcmpLe 5#4 6#4 7#4) ∧
    decode 0x180762C3#32 = .ok (.vsel 5#4 6#4 7#4) ∧
    decode 0x20A002C3#32 = .ok (.vfill 5#4 10#6) := by
  refine ⟨?_, ?_, ?_, ?_, ?_, ?_, ?_, ?_, ?_, ?_, ?_, ?_, ?_, ?_, ?_, ?_, ?_, ?_, ?_, ?_, ?_, ?_, ?_, ?_, ?_, ?_⟩ <;> rfl

theorem test_words_10 :
    decode 0x280062C3#32 = .ok (.vcopy 5#4 6#4) ∧
    decode 0x30A002C3#32 = .ok (.viota 5#4 10#6) ∧
    decode 0x38A062C3#32 = .ok (.vclamp 5#4 6#4 10#6) ∧
    decode 0x00A062C4#32 = .ok (.vrsum 5#4 6#4 10#6) ∧
    decode 0x08A062C4#32 = .ok (.vrmax 5#4 6#4 10#6) ∧
    decode 0x10A062C4#32 = .ok (.vrmin 5#4 6#4 10#6) ∧
    decode 0x18A062C4#32 = .ok (.vrargmax 5#4 6#4 10#6) ∧
    decode 0x20A062C4#32 = .ok (.vrsumsq 5#4 6#4 10#6) ∧
    decode 0x04006AC5#32 = .ok (.vcvt 5#4 6#4 1#1 1#1) ∧
    decode 0x0C0062C5#32 = .ok (.vquant 5#4 6#4 1#1) ∧
    decode 0x100062C5#32 = .ok (.vdequant 5#4 6#4) ∧
    decode 0x000762C6#32 = .ok (.vgath 5#4 6#4 7#4) ∧
    decode 0x080762C6#32 = .ok (.vscat 5#4 6#4 7#4) ∧
    decode 0x10076AC6#32 = .ok (.vscatAdd 5#4 6#4 7#4 1#1) ∧
    decode 0x0438C047#32 = .ok (.vloop 6#6 7#6 2#2) ∧
    decode 0x0C000047#32 = .ok (.vwait 2#2) ∧
    decode 0x14000047#32 = .ok (.vfence 2#2) ∧
    decode 0x1C0002C7#32 = .ok (.vstat 5#6 2#2) ∧
    decode 0x240002C7#32 = .ok (.vcancel 5#6 2#2) ∧
    decode 0x00A762C8#32 = .ok (.vdotF4f4 5#4 6#4 7#4 10#6) ∧
    decode 0x08A762C8#32 = .ok (.vdotaF4f4 5#4 6#4 7#4 10#6) ∧
    decode 0x00A762C9#32 = .ok (.vdotF6f6 5#4 6#4 7#4 10#6) ∧
    decode 0x08A762C9#32 = .ok (.vdotaF6f6 5#4 6#4 7#4 10#6) ∧
    decode 0x00A762CA#32 = .ok (.vdotF6f4 5#4 6#4 7#4 10#6) ∧
    decode 0x08A762CA#32 = .ok (.vdotaF6f4 5#4 6#4 7#4 10#6) ∧
    decode 0x00A762CB#32 = .ok (.vdotE4e4 5#4 6#4 7#4 10#6) := by
  refine ⟨?_, ?_, ?_, ?_, ?_, ?_, ?_, ?_, ?_, ?_, ?_, ?_, ?_, ?_, ?_, ?_, ?_, ?_, ?_, ?_, ?_, ?_, ?_, ?_, ?_, ?_⟩ <;> rfl

theorem test_words_11 :
    decode 0x08A762CB#32 = .ok (.vdotaE4e4 5#4 6#4 7#4 10#6) ∧
    decode 0x00A762CC#32 = .ok (.vdotE5e5 5#4 6#4 7#4 10#6) ∧
    decode 0x08A762CC#32 = .ok (.vdotaE5e5 5#4 6#4 7#4 10#6) ∧
    decode 0x000762CD#32 = .ok (.vdotI8i8 5#4 6#4 7#4) ∧
    decode 0x080762CD#32 = .ok (.vdotaI8i8 5#4 6#4 7#4) ∧
    decode 0x000762CE#32 = .ok (.vdotI8t2 5#4 6#4 7#4) ∧
    decode 0x080762CE#32 = .ok (.vdotaI8t2 5#4 6#4 7#4) ∧
    decode 0x000762CF#32 = .ok (.vdotBfbf 5#4 6#4 7#4) ∧
    decode 0x080762CF#32 = .ok (.vdotaBfbf 5#4 6#4 7#4) ∧
    decode 0x040002D0#32 = .ok (.mlease 5#6 2#2) ∧
    decode 0x0C000050#32 = .ok (.mwait 2#2) ∧
    decode 0x14000050#32 = .ok (.mrelease 2#2) ∧
    decode 0x1C0002D0#32 = .ok (.mstat 5#6 2#2) ∧
    decode 0x2438C050#32 = .ok (.mmap 6#6 7#6 2#2) ∧
    decode 0x2C00C050#32 = .ok (.mepi 6#6 2#2) ∧
    decode 0x3400C050#32 = .ok (.mdrain 6#6 2#2) ∧
    decode 0x3C00C050#32 = .ok (.mclear 6#6 2#2) ∧
    decode 0x4400C2D0#32 = .ok (.mflags 5#6 6#6 2#2) ∧
    decode 0x00A76851#32 = .ok (.mtileF4f4 6#4 7#4 10#6 1#1) ∧
    decode 0x08A76851#32 = .ok (.mtileoF4f4 6#4 7#4 10#6 1#1) ∧
    decode 0x00A76852#32 = .ok (.mtileF6f6 6#4 7#4 10#6 1#1) ∧
    decode 0x08A76852#32 = .ok (.mtileoF6f6 6#4 7#4 10#6 1#1) ∧
    decode 0x00A76853#32 = .ok (.mtileF6f4 6#4 7#4 10#6 1#1) ∧
    decode 0x08A76853#32 = .ok (.mtileoF6f4 6#4 7#4 10#6 1#1) ∧
    decode 0x00A76854#32 = .ok (.mtileE4e4 6#4 7#4 10#6 1#1) ∧
    decode 0x08A76854#32 = .ok (.mtileoE4e4 6#4 7#4 10#6 1#1) := by
  refine ⟨?_, ?_, ?_, ?_, ?_, ?_, ?_, ?_, ?_, ?_, ?_, ?_, ?_, ?_, ?_, ?_, ?_, ?_, ?_, ?_, ?_, ?_, ?_, ?_, ?_, ?_⟩ <;> rfl

theorem test_words_12 :
    decode 0x00A76855#32 = .ok (.mtileE5e5 6#4 7#4 10#6 1#1) ∧
    decode 0x08A76855#32 = .ok (.mtileoE5e5 6#4 7#4 10#6 1#1) ∧
    decode 0x00A76856#32 = .ok (.mtileI8i8 6#4 7#4 10#6 1#1) ∧
    decode 0x08A76856#32 = .ok (.mtileoI8i8 6#4 7#4 10#6 1#1) ∧
    decode 0x00A76857#32 = .ok (.mtileI8t2 6#4 7#4 10#6 1#1) ∧
    decode 0x08A76857#32 = .ok (.mtileoI8t2 6#4 7#4 10#6 1#1) ∧
    decode 0x00A76858#32 = .ok (.mtileBfbf 6#4 7#4 10#6 1#1) ∧
    decode 0x08A76858#32 = .ok (.mtileoBfbf 6#4 7#4 10#6 1#1) ∧
    decode 0x0007D460#32 = .ok (.hbind 5#3 6#3 7#3) ∧
    decode 0x0850D460#32 = .ok (.hperm 5#3 6#3 10#6) ∧
    decode 0x1250C0E0#32 = .ok (.hbund 6#3 10#6 1#2 1#1) ∧
    decode 0x1A0016E0#32 = .ok (.hthr 5#3 0#3 1#2 2#2 1#1) ∧
    decode 0x20001460#32 = .ok (.hclrH 5#3) ∧
    decode 0x220000E0#32 = .ok (.hclrY 1#1) ∧
    decode 0x28501460#32 = .ok (.hldH 5#3 10#6) ∧
    decode 0x2A5000E0#32 = .ok (.hldY 10#6 1#1) ∧
    decode 0x3050C060#32 = .ok (.hstH 6#3 10#6) ∧
    decode 0x325000E0#32 = .ok (.hstY 10#6 1#1) ∧
    decode 0x3800D460#32 = .ok (.hmv 5#3 6#3) ∧
    decode 0x4057C060#32 = .ok (.hham 6#3 7#3 10#6) ∧
    decode 0x4850C060#32 = .ok (.hpopc 6#3 10#6) ∧
    decode 0x5000D460#32 = .ok (.hnot 5#3 6#3) ∧
    decode 0x5C55C060#32 = .ok (.hgetb 6#3 10#6 21#5) ∧
    decode 0x00A76061#32 = .ok (.hsrch 6#4 7#3 10#6) ∧
    decode 0x08A76061#32 = .ok (.hsrchk 6#4 7#3 10#6) ∧
    decode 0x10A762E1#32 = .ok (.hsrcht 5#4 6#4 7#3 10#6) := by
  refine ⟨?_, ?_, ?_, ?_, ?_, ?_, ?_, ?_, ?_, ?_, ?_, ?_, ?_, ?_, ?_, ?_, ?_, ?_, ?_, ?_, ?_, ?_, ?_, ?_, ?_, ?_⟩ <;> rfl
/-! ### Single steps -/

set_option maxRecDepth 20000 in
/-- R57, R58: the first word fetched after a launch runs: `addi g5, g0, 7`, and the program counter moves on. -/
theorem test_step_runs_word :
    reg 5 (nextOf (step (State.reset.withFetchWord 32 0x00380283))) = some (w64 7) ∧
    ((nextOf (step (State.reset.withFetchWord 32 0x00380283))).strand 0 0).map (·.pc) = some (2 ^ 63 + 4) := ⟨rfl, rfl⟩

/-- R101: sums wrap at 2^64, differences below 0. -/
theorem test_add_sub_wrap :
    reg 3 (nextOf (exec (.add 3#6 1#6 2#6 0#2) (one (two (w64 (2 ^ 64 - 1)) (w64 2))))) = some (w64 1) ∧
    reg 3 (nextOf (exec (.sub 3#6 1#6 2#6 0#2) (one (two (w64 1) (w64 2))))) = some (w64 (2 ^ 64 - 1)) := ⟨rfl, rfl⟩

/-- R101: a source that is also the destination. -/
theorem test_add_same_register :
    reg 1 (nextOf (exec (.add 1#6 1#6 1#6 0#2) (one (two (w64 21) (w64 0))))) = some (w64 42) := rfl

/-- R101: a shift count is taken modulo 64; an arithmetic shift copies the sign. -/
theorem test_shifts :
    reg 3 (nextOf (exec (.sll 3#6 1#6 2#6 0#2) (one (two (w64 1) (w64 65))))) = some (w64 2) ∧
    reg 3 (nextOf (exec (.sra 3#6 1#6 2#6 0#2) (one (two (w64 (2 ^ 63)) (w64 63))))) = some (w64 (2 ^ 64 - 1)) ∧
    reg 3 (nextOf (exec (.srl 3#6 1#6 2#6 0#2) (one (two (w64 (2 ^ 63)) (w64 63))))) = some (w64 1) := ⟨rfl, rfl, rfl⟩

/-- R101: signed and unsigned comparison of −1 with 0. -/
theorem test_compare_sign :
    reg 3 (nextOf (exec (.slt 3#6 1#6 2#6 0#2) (one (two (w64 (2 ^ 64 - 1)) (w64 0))))) = some (w64 1) ∧
    reg 3 (nextOf (exec (.sltn 3#6 1#6 2#6 0#2) (one (two (w64 (2 ^ 64 - 1)) (w64 0))))) = some (w64 0) := ⟨rfl, rfl⟩

/-- R101: the word sum is sign-extended from bit 31. -/
theorem test_addw_sign :
    reg 3 (nextOf (exec (.addw 3#6 1#6 2#6 0#2) (one (two (w64 0x7FFFFFFF) (w64 1))))) = some (w64 0xFFFFFFFF80000000) := rfl

/-- R101: leading zeros of 1 and of 0; the bytes of a word reversed. -/
theorem test_count_and_swap :
    reg 3 (nextOf (exec (.clz 3#6 1#6 0#2) (one (two (w64 1) (w64 0))))) = some (w64 63) ∧
    reg 3 (nextOf (exec (.clz 3#6 2#6 0#2) (one (two (w64 1) (w64 0))))) = some (w64 64) ∧
    reg 3 (nextOf (exec (.bswap 3#6 1#6 0#2) (one (two (w64 0x0102030405060708) (w64 0))))) =
      some (w64 0x0807060504030201) := ⟨rfl, rfl, rfl⟩

/-- R102, R103: an immediate of −1; the upper immediate stands at bit 13. -/
theorem test_immediates :
    reg 3 (nextOf (exec (.addi 3#6 1#6 0x1FFF#13) (one (two (w64 0) (w64 0))))) = some (w64 (2 ^ 64 - 1)) ∧
    reg 3 (nextOf (exec (.lui 3#6 1#19) (one (two (w64 0) (w64 0))))) = some (w64 0x2000) := ⟨rfl, rfl⟩

/-- R105: the high half of (−1) × (−1), signed and unsigned; R106: −7 divided by 2 truncates; R107: division by zero. -/
theorem test_multiply_divide :
    reg 3 (nextOf (exec (.mulh 3#6 1#6 2#6 0#2) (one (two (w64 (2 ^ 64 - 1)) (w64 (2 ^ 64 - 1)))))) = some (w64 0) ∧
    reg 3 (nextOf (exec (.mulhn 3#6 1#6 2#6 0#2) (one (two (w64 (2 ^ 64 - 1)) (w64 (2 ^ 64 - 1)))))) =
      some (w64 (2 ^ 64 - 2)) ∧
    reg 3 (nextOf (exec (.div 3#6 1#6 2#6 0#2) (one (two (w64 (2 ^ 64 - 7)) (w64 2))))) = some (w64 (2 ^ 64 - 3)) ∧
    reg 3 (nextOf (exec (.rem 3#6 1#6 2#6 0#2) (one (two (w64 (2 ^ 64 - 7)) (w64 2))))) = some (w64 (2 ^ 64 - 1)) ∧
    reg 3 (nextOf (exec (.div 3#6 1#6 2#6 0#2) (one (two (w64 5) (w64 0))))) = some (w64 (2 ^ 64 - 1)) := ⟨rfl, rfl, rfl, rfl, rfl⟩

/-- R60: a result for g0 is discarded. -/
theorem test_g0_discards : reg 0 (nextOf (exec (.add 0#6 1#6 2#6 0#2) (one (two (w64 1) (w64 2))))) = some (w64 0) := rfl

/-- R99, R152, R154: a stored byte is read back sign-extended; the store clears its granule's tag. -/
theorem test_store_load :
    (nextOf (exec (.st8 1#6 2#6 3#13) (one (two capS (w64 0x80))))).byte (2 ^ 63 + 0x2003) = 0x80#8 ∧
    reg 3 (nextOf (exec (.ldI8 3#6 1#6 3#13)
      ((one (two capS (w64 0))).write (2 ^ 63 + 0x2003) [0x80#8]))) = some (w64 0xFFFFFFFFFFFFFF80) := ⟨rfl, rfl⟩

/-- R95: an access outside the bounds traps with cause 0x04 and the address, and its strand faults without a handler. -/
theorem test_bounds_trap :
    trapOf (nextOf (exec (.ld64 3#6 1#6 0x100#13) (one (two capS (w64 0))))) = none := rfl

/-- R109: narrowing to 16 bytes keeps the address, the bounds exact. -/
theorem test_narrow :
    (reg 3 (nextOf (exec (.cbnd 3#6 1#6 2#6 0#2) (one (two capS (w64 16)))))).map (fun c => (capBase c, capTop c, capAddr c)) =
      some (2 ^ 63 + 0x2000, 2 ^ 63 + 0x2010, 2 ^ 63 + 0x2000) := rfl

/-- R112: 1.0 + 2.0 = 3.0 in FP32; R117: 1.0 / 0 is an infinity. -/
theorem test_float_sum :
    reg 3 (nextOf (exec (.faddF32 3#6 1#6 2#6 0#2) (one (two (w64 0x3F800000) (w64 0x40000000))))) = some (w64 0x40400000) ∧
    reg 3 (nextOf (exec (.fdivF32 3#6 1#6 2#6 0#2) (one (two (w64 0x3F800000) (w64 0))))) = some (w64 0x7F800000) := ⟨rfl, rfl⟩

set_option maxRecDepth 20000 in
/-- R134: a jump forward by two words, and its link. -/
theorem test_jump_links :
    ((nextOf (exec (.jal 3#6 2#19) (one (two (w64 0) (w64 0))))).strand 0 0).map (·.pc) = some (2 ^ 63 + 8) ∧
    (reg 3 (nextOf (exec (.jal 3#6 2#19) (one (two (w64 0) (w64 0)))))).map capAddr = some (2 ^ 63 + 4) := ⟨rfl, rfl⟩

set_option maxRecDepth 20000 in
/-- R421, R431: `brk` enters the handler, with the next instruction as return address. -/
theorem test_breakpoint_enters_handler :
    ((nextOf (exec (.brk 0#2) { one (two (w64 0) (w64 0)) with
      cores := [(0, { seat (two (w64 0) (w64 0)) with trapVec := 0x8000000000000100#64 })] })).strand 0 0).map
        (fun t => (t.pc, t.trapPc, t.trapCause)) = some (2 ^ 63 + 0x100, 2 ^ 63 + 4, 9#8) := rfl

/-- R425: TRAPVEC keeps its two low bits 0. -/
theorem test_trapvec_write :
    ((nextOf (exec (.sset 1#6 0x002#12) (one (two (w64 0x107) (w64 0))))).core 0).trapVec = 0x104#64 := rfl

/-- R297: an atomic sum gives the old value and wraps. -/
theorem test_atomic_sum :
    reg 3 (nextOf (exec (.amoAdd 3#6 1#6 2#6 0#3 0#2) ((one (two capS (w64 3))).write (2 ^ 63 + 0x2000) [5#8]))) = some (w64 5) ∧
    (nextOf (exec (.amoAdd 3#6 1#6 2#6 0#3 0#2) ((one (two capS (w64 3))).write (2 ^ 63 + 0x2000) [5#8]))).byte
      (2 ^ 63 + 0x2000) = 8#8 := ⟨rfl, rfl⟩

/-- R178: an element sum wraps, or saturates under `k`: 100 + 100 in i8. -/
theorem test_element_sum :
    arith .vadd (.int true 8) false .rne 0 100 100 0 = (200, 0#5) ∧
    arith .vadd (.int true 8) true .rne 0 100 100 0 = (127, flSaturation) := ⟨rfl, rfl⟩

/-- R337: the last arrival of two ends the generation. -/
theorem test_barrier_last_arrival :
    let c : Cluster := { Cluster.init with counters := [(0, ⟨2, 1, 7#16⟩)] }
    reg 3 (nextOf (exec (.bara 3#6 1#6 0#2) { one (two (w64 0) (w64 0)) with clusters := [(0, c)] })) = some (w64 7) ∧
    ((nextOf (exec (.bara 3#6 1#6 0#2) { one (two (w64 0) (w64 0)) with clusters := [(0, c)] })).cluster 0).counter 0 =
      ⟨2, 0, 8#16⟩ := ⟨rfl, rfl⟩

/-- R447: the CRC of a flit of zeros is zero, so that the flit holds. -/
theorem test_zero_flit : flitOk 0 = true := by
  have step : ∀ n, (List.replicate n (0#8 : Byte)).foldl crcByte 0#64 = 0#64 := by
    intro n
    induction n with
    | zero => rfl
    | succ n ih => rw [List.replicate_succ, List.foldl_cons, show crcByte 0#64 0#8 = 0#64 from by decide, ih]
  have bytes : ∀ n, natBytes n 0 = List.replicate n 0#8 := by
    intro n
    induction n with
    | zero => rfl
    | succ n ih => simp only [natBytes, Nat.zero_div, ih, List.replicate_succ]
  unfold flitOk
  rw [crc64, bytes, step, Nat.zero_div]
  rfl

/-! ### Hypotheses that are met: instructions

`bench` seats a strand whose g1, g2 and g4 hold `x`, `y` and `z` in slot 0 of core 0, whose turn it is. -/

/-- A strand that waits for no result. -/
abbrev stand (t : Strand) (x y z : TV) : Strand :=
  { t with g := [(1, x), (2, y), (4, z)], pend := [], pendFl := [], busy := [], chk := false, lost := [], popped := [], pendPush := none }

abbrev bench (r : State) (c : Core) (t : Strand) (x y z : TV) : State :=
  { r with cores := [(0, { c with slots := [(0, stand t x y z)] })], turn := (0, 0) }

/-- The bench after the operands are read. -/
abbrev worn (r : State) (c : Core) (t : Strand) (x y z : TV) : State := (bench r c t x y z).settled (stand t x y z)

theorem turn_bench (r : State) (c : Core) (t : Strand) (x y z : TV) : Turn (bench r c t x y z) (stand t x y z) := ⟨rfl, rfl⟩

theorem cur_worn (r : State) (c : Core) (t : Strand) (x y z : TV) : (worn r c t x y z).cur = some (stand t x y z) := rfl

/-- DecodingInvertsEncoding: forms whose fields may not hold every value. -/
theorem hyp_encoding : (Instr.ld64 1#6 55#6 0x1FFF#13).wf = true ∧ (Instr.fence 4#3).wf = true := ⟨rfl, rfl⟩

theorem reads_two (r : State) (c : Core) (t : Strand) (x y z : TV) :
    Reads (bench r c t x y z) [1#6, 2#6] [3#6] [x, y] (worn r c t x y z) :=
  ⟨_, ⟨rfl, rfl⟩, rfl, rfl, rfl, rfl, rfl, by simp [Strand.settle, Strand.joinFlags], rfl, _, rfl, rfl⟩

theorem reads_one (r : State) (c : Core) (t : Strand) (x y z : TV) :
    Reads (bench r c t x y z) [1#6] [3#6] [x] (worn r c t x y z) :=
  ⟨_, ⟨rfl, rfl⟩, rfl, rfl, rfl, rfl, rfl, by simp [Strand.settle, Strand.joinFlags], rfl, _, rfl, rfl⟩

theorem reads_none (r : State) (c : Core) (t : Strand) (x y z : TV) :
    Reads (bench r c t x y z) [] [3#6] [] (worn r c t x y z) :=
  ⟨_, ⟨rfl, rfl⟩, rfl, rfl, rfl, rfl, rfl, by simp [Strand.settle, Strand.joinFlags], rfl, _, rfl, rfl⟩

theorem reads_three (r : State) (c : Core) (t : Strand) (x y z : TV) :
    Reads (bench r c t x y z) [1#6, 2#6, 4#6] [3#6] [x, y, z] (worn r c t x y z) :=
  ⟨_, ⟨rfl, rfl⟩, rfl, rfl, rfl, rfl, rfl, by simp [Strand.settle, Strand.joinFlags], rfl, _, rfl, rfl⟩

theorem reads_two_only (r : State) (c : Core) (t : Strand) (x y z : TV) :
    Reads (bench r c t x y z) [1#6, 2#6] [] [x, y] (worn r c t x y z) :=
  ⟨_, ⟨rfl, rfl⟩, rfl, rfl, rfl, rfl, rfl, by simp [Strand.settle, Strand.joinFlags], rfl, _, rfl, rfl⟩

theorem reads_one_only (r : State) (c : Core) (t : Strand) (x y z : TV) :
    Reads (bench r c t x y z) [1#6] [] [x] (worn r c t x y z) :=
  ⟨_, ⟨rfl, rfl⟩, rfl, rfl, rfl, rfl, rfl, by simp [Strand.settle, Strand.joinFlags], rfl, _, rfl, rfl⟩

theorem reads_three_only (r : State) (c : Core) (t : Strand) (x y z : TV) :
    Reads (bench r c t x y z) [1#6, 2#6, 4#6] [] [x, y, z] (worn r c t x y z) :=
  ⟨_, ⟨rfl, rfl⟩, rfl, rfl, rfl, rfl, rfl, by simp [Strand.settle, Strand.joinFlags], rfl, _, rfl, rfl⟩


/-- Words that meet the hypotheses of the encoding clauses: of op 0x01 with the first reserved `fn`, and with the first and
the last `fn` of one source and `b` ≠ 0; shifts of the first count that is too large. -/
theorem hyp_words_refused :
    (∃ w : BitVec 32, w.extractLsb' 0 7 = 0x01#7 ∧ (w.extractLsb' 27 5).toNat = 29) ∧
    (∃ w : BitVec 32, w.extractLsb' 0 7 = 0x01#7 ∧ (w.extractLsb' 27 5).toNat = 20 ∧ w.extractLsb' 19 6 ≠ 0#6) ∧
    (∃ w : BitVec 32, w.extractLsb' 0 7 = 0x01#7 ∧ (w.extractLsb' 27 5).toNat = 24 ∧ w.extractLsb' 19 6 ≠ 0#6) ∧
    (∃ w : BitVec 32, w.extractLsb' 0 7 ∈ [0x09#7, 0x0A#7, 0x0B#7] ∧ (w.extractLsb' 19 13).toNat = 64) :=
  ⟨⟨0xE8000001#32, by decide⟩, ⟨0xA0080001#32, by decide⟩, ⟨0xC0080001#32, by decide⟩, ⟨0x02000009#32, by decide⟩⟩
abbrev core0 : Core := { Core.init with xobound := 0x1000#64, fetchBound := 0x1000#64 }

/-- The bench in `land`. -/
abbrev b2 (x y : TV) : State := bench land core0 loadedStrand x y TV.zero

abbrev w2 (x y : TV) : State := worn land core0 loadedStrand x y TV.zero

/-- MultiplyAndDivideGiveTheirResults: divisors 1 and 0, the words of which only the low half is 0, the dividend that
overflows; the hypotheses of the other statements on two, one and no operands are those of `reads_two` and its like. -/
theorem hyp_multiply_and_divide :
    (∃ s s' x y, Reads s [1#6, 2#6] [3#6] [x, y] s' ∧ y.lo ≠ 0#64 ∧ y.lo.extractLsb' 0 32 ≠ 0#32) ∧
    (∃ s s' x y, Reads s [1#6, 2#6] [3#6] [x, y] s' ∧ y.lo = 0#64) ∧
    (∃ s s' x y, Reads s [1#6, 2#6] [3#6] [x, y] s' ∧ y.lo ≠ 0#64 ∧ y.lo.extractLsb' 0 32 = 0#32) ∧
    (∃ s s' x y, Reads s [1#6, 2#6] [3#6] [x, y] s' ∧ x.lo = 0x8000000000000000#64 ∧
      y.lo = BitVec.allOnes 64) ∧
    (∃ s s' x y, Reads s [1#6, 2#6] [3#6] [x, y] s' ∧ x.lo.extractLsb' 0 32 = 0x80000000#32 ∧
      y.lo.extractLsb' 0 32 = BitVec.allOnes 32) ∧
    (∃ s s' x y z, Reads s [1#6, 2#6, 4#6] [3#6] [x, y, z] s') :=
  ⟨⟨_, _, _, _, reads_two land core0 loadedStrand (w64 7) (w64 1) TV.zero, by decide⟩,
    ⟨_, _, _, _, reads_two land core0 loadedStrand (w64 7) (w64 0) TV.zero, by decide⟩,
    ⟨_, _, _, _, reads_two land core0 loadedStrand (w64 7) (w64 (2 ^ 32)) TV.zero, by decide⟩,
    ⟨_, _, _, _, reads_two land core0 loadedStrand (w64 (2 ^ 63)) (w64 (2 ^ 64 - 1)) TV.zero, by decide⟩,
    ⟨_, _, _, _, reads_two land core0 loadedStrand (w64 (2 ^ 31)) (w64 (2 ^ 64 - 1)) TV.zero, by decide⟩,
    ⟨_, _, _, _, _, reads_three land core0 loadedStrand (w64 7) (w64 1) (w64 2)⟩⟩

/-- IntegerForms, ImmediateForms, CapabilityForms, FloatArithmetic and FloatSelections…GiveTheirResults: operands of each
number, and the strand after they are read. -/
theorem hyp_operands :
    (∃ s s' t x y, Reads s [1#6, 2#6] [3#6] [x, y] s' ∧ s'.cur = some t) ∧
    (∃ s s' t x, Reads s [1#6] [3#6] [x] s' ∧ s'.cur = some t) ∧
    (∃ s s' t, Reads s [] [3#6] [] s' ∧ s'.cur = some t) ∧
    (∃ s s' t x y z, Reads s [1#6, 2#6, 4#6] [3#6] [x, y, z] s' ∧ s'.cur = some t) :=
  ⟨⟨_, _, _, _, _, reads_two land core0 loadedStrand (w64 7) (w64 1) TV.zero, rfl⟩,
    ⟨_, _, _, _, reads_one land core0 loadedStrand (w64 7) (w64 1) TV.zero, rfl⟩,
    ⟨_, _, _, reads_none land core0 loadedStrand (w64 7) (w64 1) TV.zero, rfl⟩,
    ⟨_, _, _, _, _, _, reads_three land core0 loadedStrand (w64 7) (w64 1) (w64 2), rfl⟩⟩

/-- NarrowingFollowsItsPseudocode: no tag; a length one above the bounds; the whole of a capability; a length that needs an
exponent, exact and rounded. -/
theorem hyp_narrowing :
    (∃ s s' t x y, Turn s t ∧ Reads s [1#6, 2#6] [3#6] [x, y] s' ∧ x.tag = false) ∧
    (∃ s s' t x y, Turn s t ∧ Reads s [1#6, 2#6] [3#6] [x, y] s' ∧ x.tag = true ∧
      capTop x < ((x.lo.toNat + y.lo.toNat : Nat) : Int)) ∧
    (∃ s s' t x y, Turn s t ∧ Reads s [1#6, 2#6] [3#6] [x, y] s' ∧ x.tag = true ∧
      capBase x ≤ (x.lo.toNat : Int) ∧ ((x.lo.toNat + y.lo.toNat : Nat) : Int) ≤ capTop x ∧ capOk x = true ∧
      (narrow x x.lo.toNat (x.lo.toNat + y.lo.toNat)).2 = true) ∧
    (∃ s s' t x y, Turn s t ∧ Reads s [1#6, 2#6] [3#6] [x, y] s' ∧ x.tag = true ∧
      capBase x ≤ (x.lo.toNat : Int) ∧ ((x.lo.toNat + y.lo.toNat : Nat) : Int) ≤ capTop x ∧ capOk x = true ∧
      (narrow x x.lo.toNat (x.lo.toNat + y.lo.toNat)).2 = false) ∧
    (∃ s s' t x, Turn s t ∧ Reads s [1#6] [3#6] [x] s' ∧ x.tag = true ∧
      capBase x ≤ (x.lo.toNat : Int) ∧ ((x.lo.toNat + 256 : Nat) : Int) = capTop x) :=
  ⟨⟨_, _, _, _, _, turn_bench _ _ _ _ _ _, reads_two land core0 loadedStrand (w64 7) (w64 1) TV.zero, rfl⟩,
    ⟨_, _, _, _, _, turn_bench _ _ _ _ _ _, reads_two land core0 loadedStrand capS (w64 257) TV.zero, by decide⟩,
    ⟨_, _, _, _, _, turn_bench _ _ _ _ _ _, reads_two land core0 loadedStrand capS (w64 256) TV.zero, by decide⟩,
    ⟨_, _, _, _, _, turn_bench _ _ _ _ _ _, reads_two land core0 loadedStrand (mkCap 0 0xC00000 0 20 0x5F) (w64 0xC00001)
      TV.zero, by decide⟩,
    ⟨_, _, _, _, turn_bench _ _ _ _ _ _, reads_one land core0 loadedStrand capS TV.zero TV.zero, by decide⟩⟩

/-- DerivedCapabilitiesStayWithinTheirSource. -/
theorem hyp_capabilities :
    (capOk capS = true ∧ capS.tag = true ∧ representable capS (2 ^ 63 + 0x20FF) = true) ∧
    (capBase capS ≤ ((2 ^ 63 + 0x20FF : Nat) : Int) ∧ ((2 ^ 63 + 0x2100 : Nat) : Int) ≤ capTop capS) := by decide

/-- FloatSpecialOperandsFollowTheTable. -/
theorem hyp_special_operands : (FVal.nan false).isNaN = true ∧ (FVal.nan true).isSNaN = true := ⟨rfl, rfl⟩

/-- BranchesAreTakenUnderTheirConditions and JumpsAndRepeatsContinueAtTheirTargets: taken within the bounds of PCC up to its
last word, taken past them, not taken; a target capability of each kind; a body run no times and once. -/
theorem hyp_branches_and_jumps :
    (∃ s s' t0 t x y, Turn s t0 ∧ Reads s [1#6, 2#6] [] [x, y] s' ∧ s'.cur = some t ∧ x.lo = y.lo ∧
      InBounds t.pcc (t.pc + BitVec.ofInt 64 ((1#13).toInt * 4)).toNat ∧
      ¬ InBounds t.pcc (t.pc + BitVec.ofInt 64 ((0x1FFF#13).toInt * 4)).toNat) ∧
    (∃ s s' t0 t x y, Turn s t0 ∧ Reads s [1#6, 2#6] [] [x, y] s' ∧ s'.cur = some t ∧ x.lo ≠ y.lo) ∧
    (∃ s s' t0 t, Turn s t0 ∧ Reads s [] [3#6] [] s' ∧ s'.cur = some t ∧
      InBounds t.pcc (t.pc + BitVec.ofInt 64 ((2 ^ 17 - 1 : BitVec 19).toInt * 4)).toNat ∧
      ¬ InBounds t.pcc (t.pc + BitVec.ofInt 64 ((2 ^ 17 : BitVec 19).toInt * 4)).toNat) ∧
    (∀ c ∈ [w64 0, capS, mkCap (2 ^ 63 + 2) 256 2 0 0x7F, mkCap (2 ^ 63 + 256) 256 256 0 0x7F, mkCap (2 ^ 63 + 252) 256 252 0 0x7F],
      ∃ s s' t0 t, Turn s t0 ∧ Reads s [1#6] [3#6] [c] s' ∧ s'.cur = some t) ∧
    ((w64 0).tag = false ∧ (mkCap (2 ^ 63) 256 0 0 0x5B).tag = true ∧ capHas (mkCap (2 ^ 63) 256 0 0 0x5B) permExec = false ∧
      (mkCap (2 ^ 63 + 2) 256 2 0 0x7F).lo.toNat % 4 ≠ 0 ∧
      ¬ InBounds (mkCap (2 ^ 63 + 256) 256 256 0 0x7F) (mkCap (2 ^ 63 + 256) 256 256 0 0x7F).lo.toNat ∧
      InBounds (mkCap (2 ^ 63 + 252) 256 252 0 0x7F) (mkCap (2 ^ 63 + 252) 256 252 0 0x7F).lo.toNat) ∧
    (∃ s s' t x, Reads s [1#6] [] [x] s' ∧ s'.cur = some t ∧ x.lo.toNat % 2 ^ 16 = 0) ∧
    (∃ s s' t x, Reads s [1#6] [] [x] s' ∧ s'.cur = some t ∧ x.lo.toNat % 2 ^ 16 ≠ 0) ∧
    (∃ (t : Strand) (r : RepState), t.rep = some r ∧ r.n = 2 ∧ t.pc.toNat = r.start + 4 * 1 ∧ r.pass + 1 < r.count) :=
  ⟨⟨_, _, _, _, _, _, turn_bench _ _ _ _ _ _, reads_two_only land core0 loadedStrand (w64 7) (w64 7) TV.zero, cur_worn _ _ _ _ _ _,
      rfl, by unfold InBounds; decide, by unfold InBounds; decide⟩,
    ⟨_, _, _, _, _, _, turn_bench _ _ _ _ _ _, reads_two_only land core0 loadedStrand (w64 7) (w64 8) TV.zero,
      cur_worn _ _ _ _ _ _, by decide⟩,
    ⟨_, _, _, _, turn_bench _ _ _ _ _ _, reads_none land core0 loadedStrand TV.zero TV.zero TV.zero,
      cur_worn _ _ _ _ _ _, by unfold InBounds; decide, by unfold InBounds; decide⟩,
    fun c _ => ⟨_, _, _, _, turn_bench _ _ _ _ _ _, reads_one land core0 loadedStrand c TV.zero TV.zero,
      cur_worn _ _ _ _ _ _⟩,
    by unfold InBounds; decide,
    ⟨_, _, _, _, reads_one_only land core0 loadedStrand (w64 0) TV.zero TV.zero, cur_worn _ _ _ _ _ _, by decide⟩,
    ⟨_, _, _, _, reads_one_only land core0 loadedStrand (w64 1) TV.zero TV.zero, cur_worn _ _ _ _ _ _, by decide⟩,
    ⟨{ loadedStrand with pcc := mkCap (2 ^ 63 + 8) (2 ^ 19) 8 0 0x7F, rep := some ⟨2 ^ 63 + 4, 2, 0, 0, 2, 0⟩ }, _, rfl, rfl, by decide, by decide⟩⟩

/-- LoadsAndStoresMoveTheirBytes and StoresAndAtomicsChangeOnlyTheirBytes: accesses of each size up to the last byte of a
capability, and an atomic. -/
theorem hyp_accesses :
    Clear (w2 capS (w64 1)) ∧ Released (w2 capS (w64 1)) ∧
    (∀ p ∈ [(permLoad, false), (permStore, true)],
      (∀ n ∈ [1, 2, 4, 8, 16], (2 ^ 63 + 0x2100 - n) % n = 0 ∧
        Reaches (w2 capS (w64 1)) capS (2 ^ 63 + 0x2100 - n) n p.1 p.2 false (2 ^ 63 + 0x2100 - n))) ∧
    Reaches (w2 capS (w64 1)) capS (capAddr capS) 8 (permLoad ||| permStore ||| permAtomic) true true (2 ^ 63 + 0x2000) ∧
    Reaches (w2 capS (w64 1)) capS (capAddr capS) 4 (permLoad ||| permStore ||| permAtomic) true true (2 ^ 63 + 0x2000) ∧
    OrderOk (w2 capS (w64 1)) 3#2 3#3 ∧ capAddr capS % 16 = 0 := by
  unfold Clear Released Reaches OrderOk ReleasedAt Released FabricDone
  decide

/-- AccessChecksTrapInOrder: what each check finds. -/
theorem hyp_access_checks :
    derefFail (w64 0) 0 8 permLoad = some 0x03 ∧
    derefFail (mkCap (2 ^ 63 + 0x2000) 256 0 0 0x5E) (2 ^ 63 + 0x2000) 8 permLoad = some 0x05 ∧
    derefFail (mkCap 0x2000 256 0 0 0x7F) 0x2000 8 permLoad = some 0x05 ∧
    derefFail capS (2 ^ 63 + 0x20F9) 8 permLoad = some 0x04 ∧ derefFail capS (2 ^ 63 + 0x1FFF) 8 permLoad = some 0x04 ∧
    derefFail capS (2 ^ 63 + 0x20F8) 8 permLoad = none ∧ derefFail capS (2 ^ 63 + 0x20F7) 8 permLoad = none ∧
    derefFail capS (2 ^ 63 + 0x20F0) 16 permStore = none ∧ derefFail capS (2 ^ 63 + 0x20E8) 16 permStore = none ∧
    capHas (mkCap (2 ^ 63 + 0x2000) 256 0 0 0x4F) permStoreCap = false ∧
    derefFail (mkCap (2 ^ 63 + 0x2000) 256 0 0 0x4F) (2 ^ 63 + 0x2000) 16 permStore = none ∧ capS.tag = true := by decide

theorem reads_bits (r : State) (c : Core) (t : Strand) (x y z : TV) :
    Reads (bench r c t x y z) [1#6, 2#6] [3#6, 2#6] [x, y] (worn r c t x y z) ∧
    Reads (bench r c t x y z) [4#6, 1#6, 2#6] [] [z, x, y] (worn r c t x y z) ∧
    Reads (bench r c t x y z) [4#6, 1#6, 2#6] [2#6] [z, x, y] (worn r c t x y z) :=
  ⟨⟨_, ⟨rfl, rfl⟩, rfl, rfl, rfl, rfl, rfl, by simp [Strand.settle, Strand.joinFlags], rfl, _, rfl, rfl⟩,
    ⟨_, ⟨rfl, rfl⟩, rfl, rfl, rfl, rfl, rfl, by simp [Strand.settle, Strand.joinFlags], rfl, _, rfl, rfl⟩,
    ⟨_, ⟨rfl, rfl⟩, rfl, rfl, rfl, rfl, rfl, by simp [Strand.settle, Strand.joinFlags], rfl, _, rfl, rfl⟩⟩

/-- BitAccessesReadAndReplaceTheirField: 64 bits from the first bit, and the last bit alone. -/
theorem hyp_bit_accesses :
    ∀ e ∈ [(63 * 2 ^ 58, 2 ^ 63 + 0x2000, 8), (2047, 2 ^ 63 + 0x20FF, 1)],
      (w64 e.1).lo.toNat / 2 ^ 58 + 1 ≤ 64 ∧ (capAddr capS * 8 + (w64 e.1).lo.toNat % 2 ^ 58) / 8 = e.2.1 ∧
      ((capAddr capS * 8 + (w64 e.1).lo.toNat % 2 ^ 58) + ((w64 e.1).lo.toNat / 2 ^ 58 + 1) + 7) / 8 - e.2.1 = e.2.2 ∧
      derefFail capS e.2.1 e.2.2 permLoad = none ∧ derefFail capS e.2.1 e.2.2 permStore = none ∧ e.2.1 / 2 ^ 60 = 8 ∧
      (w2 capS (w64 e.1)).place 0 e.2.1 e.2.2 false false = .here e.2.1 ∧
      (w2 capS (w64 e.1)).place 0 e.2.1 e.2.2 true false = .here e.2.1 ∧
      (w2 capS (w64 e.1)).accessHeld 0 e.2.1 e.2.2 false = false ∧
      (w2 capS (w64 e.1)).accessHeld 0 e.2.1 e.2.2 true = false := by decide

/-- A group with its kernel in `land`. -/
abbrev crew : Group :=
  { gid := 0, part := 0, kernel := 5, stage := 0, pool := [], live := 1, limit := 2, nextId := 1, cores := [0, 1],
    code := TV.zero, ceiling := 3, doms := [], registered := [], delays := [], windows := [], poolAt := 0, pushes := 0, partId := 0#64 }

abbrev job : Kernel :=
  { st := .running, vf := 0, q := 0, pasid := 1, part := 0, desc := 0#512, descAddr := 0, stages := [⟨0#512, [0], some 0⟩],
    arg := 0#64, argLen := 0, comp := 0, stop := false, ver := 1, cause := 0, causeStage := none, value := 0#64, drained := false, written := false }

abbrev manned : State := { land with groups := [(0, crew)], kernels := [(5, job)] }

/-- TrapsEnterTheHandlerOrFaultTheStrand: a deliverable cause with a handler; a cause that no handler takes; a deliverable
one without a handler, and one while a trap is handled. -/
theorem hyp_traps :
    (∃ (s : State) (t : Strand), s.cur = some t ∧ (s.core s.turn.1).trapVec ≠ 0#64 ∧ t.trapCause = 0#8 ∧ t.ovl = true) ∧
    (∃ (s : State) (t : Strand) (g : Group) (k : Kernel), s.cur = some t ∧ (s.core s.turn.1).trapVec = 0#64 ∧
      s.groupOn s.turn.1 t.gid = some g ∧ s.kernel g.kernel = some k ∧ k.st ≠ .complete ∧ k.st ≠ .failed) ∧
    (∃ (s : State) (t : Strand) (g : Group) (k : Kernel), s.cur = some t ∧ t.trapCause ≠ 0#8 ∧
      s.groupOn s.turn.1 t.gid = some g ∧ s.kernel g.kernel = some k ∧ k.st ≠ .complete ∧ k.st ≠ .failed) :=
  ⟨⟨bench manned { core0 with trapVec := 0x8000000000000100#64 } { loadedStrand with ovl := true } TV.zero TV.zero TV.zero, _, rfl,
      by decide, rfl, rfl⟩,
    ⟨bench manned core0 loadedStrand TV.zero TV.zero TV.zero, _, _, _, rfl, rfl, rfl, rfl, by decide, by decide⟩,
    ⟨bench manned { core0 with trapVec := 0x8000000000000100#64 } { loadedStrand with trapCause := 9#8 } TV.zero TV.zero TV.zero,
      _, _, _, rfl, by decide, rfl, rfl, by decide, by decide⟩⟩

/-- TrapInstructionsEnterAndReturn: outside a handler; return addresses that are
no place for an instruction; the last word of PCC. -/
theorem hyp_returns :
    (∃ s t, Turn s t ∧ (t.settle s.now).trapCause = 0#8) ∧
    (∃ s t, Turn s t ∧ (t.settle s.now).trapCause ≠ 0#8 ∧ (t.settle s.now).trapPc.toNat % 4 ≠ 0) ∧
    (∃ s t, Turn s t ∧ (t.settle s.now).trapCause ≠ 0#8 ∧ (t.settle s.now).trapPc.toNat % 4 = 0 ∧
      ¬ InBounds (t.settle s.now).pcc (t.settle s.now).trapPc.toNat) ∧
    (∃ s t, Turn s t ∧ (t.settle s.now).trapCause ≠ 0#8 ∧ (t.settle s.now).trapPc.toNat % 4 = 0 ∧
      InBounds (t.settle s.now).pcc (t.settle s.now).trapPc.toNat) :=
  ⟨⟨_, _, turn_bench land core0 loadedStrand TV.zero TV.zero TV.zero, rfl⟩,
    ⟨_, _, turn_bench land core0 { loadedStrand with trapCause := 9#8, trapPc := 2#64 } TV.zero TV.zero TV.zero, by decide⟩,
    ⟨_, _, turn_bench land core0 { loadedStrand with trapCause := 9#8, trapPc := 0x8000000000080000#64 } TV.zero TV.zero TV.zero,
      by unfold InBounds; decide⟩,
    ⟨_, _, turn_bench land core0 { loadedStrand with trapCause := 9#8, trapPc := 0x800000000007FFFC#64 } TV.zero TV.zero TV.zero,
      by unfold InBounds; decide⟩⟩

/-- The strand on firmware core 1280. -/
abbrev firmIn (r : State) (c : Core) (t : Strand) (x y : TV) : State :=
  { r with cores := [(1280, { c with slots := [(0, stand t x y TV.zero)] })], turn := (1280, 0) }

abbrev firm (c : Core) (t : Strand) (x y : TV) : State := firmIn land c t x y

theorem reads_firm_in (r : State) (c : Core) (t : Strand) (x y : TV) :
    Reads (firmIn r c t x y) [1#6, 2#6] [3#6] [x, y] ((firmIn r c t x y).settled (stand t x y TV.zero)) :=
  ⟨_, ⟨rfl, rfl⟩, rfl, rfl, rfl, rfl, rfl, by simp [Strand.settle, Strand.joinFlags], rfl, _, rfl, rfl⟩

theorem reads_firm (c : Core) (t : Strand) (x y : TV) :
    Turn (firm c t x y) (stand t x y TV.zero) ∧
    Reads (firm c t x y) [] [3#6] [] ((firm c t x y).settled (stand t x y TV.zero)) ∧
    Reads (firm c t x y) [1#6] [] [x] ((firm c t x y).settled (stand t x y TV.zero)) ∧
    Reads (firm c t x y) [1#6] [3#6] [x] ((firm c t x y).settled (stand t x y TV.zero)) ∧
    Reads (firm c t x y) [1#6, 2#6] [3#6] [x, y] ((firm c t x y).settled (stand t x y TV.zero)) :=
  ⟨⟨rfl, rfl⟩, ⟨_, ⟨rfl, rfl⟩, rfl, rfl, rfl, rfl, rfl, by simp [Strand.settle, Strand.joinFlags], rfl, _, rfl, rfl⟩,
    ⟨_, ⟨rfl, rfl⟩, rfl, rfl, rfl, rfl, rfl, by simp [Strand.settle, Strand.joinFlags], rfl, _, rfl, rfl⟩,
    ⟨_, ⟨rfl, rfl⟩, rfl, rfl, rfl, rfl, rfl, by simp [Strand.settle, Strand.joinFlags], rfl, _, rfl, rfl⟩,
    ⟨_, ⟨rfl, rfl⟩, rfl, rfl, rfl, rfl, rfl, by simp [Strand.settle, Strand.joinFlags], rfl, _, rfl, rfl⟩⟩

/-- SystemRegisterFormsReadAndWrite, SystemRegistersStoreAndReadUnderTheirRules, PrivilegedFormsTrapForTenants and
SystemFormsCompleteWithTheirEffects: each register at tenant privilege, STATUS and TIESEED with nothing that holds them back,
the first firmware index at each privilege, an index of no register. -/
theorem hyp_system_registers :
    (∃ s s' t t', Turn s t ∧ Reads s [1#6] [3#6] [w64 3] s' ∧ s'.cur = some t' ∧
      privileged s.turn.1 = false ∧ s.strand 0 0 = some t ∧ (t.settle s.now).seqFail = none ∧
      s.hasEntries s.turn.1 s.turn.2 = false ∧ (s.core s.turn.1).tiesPending = false ∧
      (s.settled t).writesPending s.turn.1 s.turn.2 = false) ∧
    (∃ s s' t t', Turn s t ∧ Reads s [1#6] [3#6] [w64 3] s' ∧ s'.cur = some t' ∧
      privileged s.turn.1 = true) ∧
    (∀ i ∈ [0x000, 0x002, 0x003, 0x004, 0x005, 0x008, 0x00A, 0x00B, 0x00C, 0x010, 0x011], i < 0x800 ∧
      ∃ r, SysReg.ofIndex i = some r ∧ r.readOnly false = false) ∧
    (∃ r, SysReg.ofIndex 0x801 = some r ∧ r.readOnly true = false) ∧ SysReg.ofIndex 0x7FF = none :=
  ⟨⟨_, _, _, _, turn_bench land core0 loadedStrand (w64 3) TV.zero TV.zero, reads_one _ _ _ _ _ _, cur_worn _ _ _ _ _ _,
      rfl, rfl, rfl, rfl, rfl, rfl⟩,
    ⟨_, _, _, _, (reads_firm Core.init loadedStrand (w64 3) TV.zero).1, (reads_firm _ _ _ _).2.2.2.1, rfl, rfl⟩,
    fun i hi => by
      simp only [List.mem_cons, List.not_mem_nil, or_false] at hi
      rcases hi with rfl | rfl | rfl | rfl | rfl | rfl | rfl | rfl | rfl | rfl | rfl <;> exact ⟨by decide, _, rfl, rfl⟩,
    ⟨_, rfl, rfl⟩, rfl⟩

/-- A capability over a page of system memory, with every permission but *local only*. -/
abbrev capH : TV := mkCap 0x2000 256 0 0 0x5F

/-- A translation of that page in the cluster's ATC. -/
abbrev mapped : State := { land with clusters := [(0, { Cluster.init with atc := [⟨0, 0, 0, 0x2000, 0x5000, true, true, false, false⟩] })] }

/-- The number of each owner of an invalidation by the firmware strand. -/
abbrev atFirm : Option (Nat × Nat × BitVec 32) := some (1280, 0, (stand loadedStrand TV.zero TV.zero TV.zero).sid)

/-- A load that has used that translation. -/
abbrev usesPage : Access := ⟨0, 0, 0#32, 0, 0, 0, 0, 0, 0x2000, .load 8 false 3, false, 0, .ready, 0x5000, 0⟩

/-- TranslationFormsProbeAndInvalidate: a local address, a page that is missing, a page that is held; an invalidation of
what nothing has used, one of a page that an outstanding load has used, and one whose users are done. -/
theorem hyp_translation_forms :
    (∃ s s', Reads s [1#6, 2#6] [] [capS, w64 0] s' ∧ derefFail capS (capAddr capS) 1 permLoad = none ∧
      2 ^ 63 ≤ capAddr capS) ∧
    (∃ s s', Reads s [1#6, 2#6] [] [capH, w64 0] s' ∧ derefFail capH (capAddr capH) 1 permLoad = none ∧
      capAddr capH < 2 ^ 57 ∧ s'.place s'.turn.1 (capAddr capH) 1 false false = .missing) ∧
    (∃ s s', Reads s [1#6, 2#6] [] [capH, w64 0] s' ∧ derefFail capH (capAddr capH) 1 permLoad = none ∧
      capAddr capH < 2 ^ 57 ∧ s'.place s'.turn.1 (capAddr capH) 1 false false = .here 0x5000) ∧
    (∃ s s' c, Reads s [1#6] [3#6] [c] s' ∧ derefFail c (capAddr c) 1 permLoad = some 0x05 ∧
      derefFail c (capAddr c) 1 permStore = none ∧ capAddr c < 2 ^ 57) ∧
    (∃ s s', Reads s [1#6, 2#6] [3#6] [w64 0, w64 (3 * 2 ^ 26)] s' ∧ privileged s.turn.1 = true ∧
      s'.invals.find? (fun i => decide (i.owner = atFirm)) = none ∧
      s'.usersOf (s'.allAtc.filter (fun e => e.2.selected 0 (3 * 2 ^ 26))) = []) ∧
    (∃ s s', Reads s [1#6, 2#6] [3#6] [w64 0, w64 (3 * 2 ^ 26)] s' ∧ privileged s.turn.1 = true ∧
      s'.invals.find? (fun i => decide (i.owner = atFirm)) = none ∧
      s'.usersOf (s'.allAtc.filter (fun e => e.2.selected 0 (3 * 2 ^ 26))) ≠ []) ∧
    (∃ s s' i, Reads s [1#6, 2#6] [3#6] [w64 0, w64 0] s' ∧ privileged s.turn.1 = true ∧
      s'.invals.find? (fun i => decide (i.owner = atFirm)) = some i ∧ s'.invalBusy i = false) :=
  ⟨⟨_, _, reads_two_only land core0 loadedStrand _ _ TV.zero, by decide⟩,
    ⟨_, _, reads_two_only land core0 loadedStrand _ _ TV.zero, by decide⟩,
    ⟨_, _, reads_two_only mapped core0 loadedStrand _ _ TV.zero, by decide⟩,
    ⟨_, _, mkCap 0x2000 256 0 0 0x5E, reads_one land core0 loadedStrand _ TV.zero TV.zero, by decide⟩,
    ⟨_, _, reads_firm_in mapped Core.init loadedStrand _ _, rfl, rfl, rfl⟩,
    ⟨_, _, reads_firm_in { mapped with accesses := [(9, usesPage)] } Core.init loadedStrand _ _, rfl, rfl, by decide⟩,
    ⟨_, _, ⟨0, 0, 0, 0, [(0, ⟨0, 0, 0, 0x2000, 0x5000, true, true, false, false⟩)], [9], atFirm⟩,
      reads_firm_in { land with invals := [⟨0, 0, 0, 0, [(0, ⟨0, 0, 0, 0x2000, 0x5000, true, true, false, false⟩)], [9], atFirm⟩] }
        Core.init loadedStrand _ _, rfl, by decide, rfl⟩⟩

/-- A capability over one record of the window of partition 0. -/
abbrev capR : TV := mkCap 0x9000000000001000 64 0 0 0x5F

/-- `manned` with the kernel's context resident, and word 1 of that record. -/
abbrev record (w : Nat) : State :=
  ({ manned with partitions := [(0, ⟨[0], 2 ^ 30, some (0, 1), none, none, none, none, 0⟩)] } : State).write
    (0x9000000000001008) (natBytes 8 w)

/-- StrandFormsActOnRecords: a group with room and one at its limit; records *running*, *suspended* and *retired*, and one of
no group. -/
theorem hyp_records :
    (∀ l ∈ [1, 2], ∃ s s' t g, Reads s [1#6, 2#6] [3#6] [capR, w64 8] s' ∧ Clear s' ∧ Released s' ∧
      s'.cur = some t ∧ s'.partOfCore s'.turn.1 = some 0 ∧ s'.group 0 t.gid = some g ∧ g.live = l ∧ g.limit = 2 ∧
      s'.place s'.turn.1 (capAddr capR) 64 true false = .here 0x9000000000001000) ∧
    (capR.tag = true ∧ capHas capR (permLoad ||| permStore ||| permStoreCap) = true ∧ capAddr capR % 64 = 0 ∧
      capAddr capR / 2 ^ 60 = 9 ∧ capBase capR ≤ (capAddr capR : Int) ∧ (capAddr capR : Int) + 64 ≤ capTop capR) ∧
    (∀ st ∈ [2, 3, 4], ∃ s s' g, Reads s [1#6] [3#6] [capR] s' ∧ Clear s' ∧ Released s' ∧
      s'.place s'.turn.1 (capAddr capR) 64 true false = .here 0x9000000000001000 ∧
      s'.read 0x9000000000001008 8 / 2 ^ 52 % 16 = st ∧
      s'.wakeGroup s'.turn.1 (s'.read 0x9000000000001008 8 / 2 ^ 32 % 2 ^ 16) = some g) ∧
    (∃ s s', Reads s [1#6] [3#6] [capR] s' ∧
      s'.wakeGroup s'.turn.1 (s'.read 0x9000000000001008 8 / 2 ^ 32 % 2 ^ 16) = none) := by
  refine ⟨fun l hl => ?_, by decide, fun st hs => ?_, ?_⟩
  · simp only [List.mem_cons, List.not_mem_nil, or_false] at hl
    rcases hl with rfl | rfl
    · exact ⟨_, _, _, _, reads_two { record 0 with groups := [(0, { crew with live := 1 })] } core0 loadedStrand _ _ TV.zero,
        ⟨rfl, rfl⟩, ⟨rfl, rfl⟩, cur_worn _ _ _ _ _ _, rfl, rfl, rfl, rfl, rfl⟩
    · exact ⟨_, _, _, _, reads_two { record 0 with groups := [(0, { crew with live := 2 })] } core0 loadedStrand _ _ TV.zero,
        ⟨rfl, rfl⟩, ⟨rfl, rfl⟩, cur_worn _ _ _ _ _ _, rfl, rfl, rfl, rfl, rfl⟩
  · simp only [List.mem_cons, List.not_mem_nil, or_false] at hs
    rcases hs with rfl | rfl | rfl
    · exact ⟨_, _, _, reads_one (record (2 * 2 ^ 52)) core0 loadedStrand _ TV.zero TV.zero, ⟨rfl, rfl⟩, ⟨rfl, rfl⟩, rfl, rfl, rfl⟩
    · exact ⟨_, _, _, reads_one (record (3 * 2 ^ 52)) core0 loadedStrand _ TV.zero TV.zero, ⟨rfl, rfl⟩, ⟨rfl, rfl⟩, rfl, rfl, rfl⟩
    · exact ⟨_, _, _, reads_one (record (4 * 2 ^ 52)) core0 loadedStrand _ TV.zero TV.zero, ⟨rfl, rfl⟩, ⟨rfl, rfl⟩, rfl, rfl, rfl⟩
  · exact ⟨_, _, reads_one (record (9 * 2 ^ 32)) core0 loadedStrand _ TV.zero TV.zero, rfl⟩

/-- SuspensionPointsLeaveTheSlot: with and without a wake pending. -/
theorem hyp_suspension :
    ∀ b : Bool, ∃ (s r : State) (t u : Strand), Turn s t ∧ u = t.settle s.now ∧ r = s.settled t ∧ u.seqFail = none ∧
      r.hasEntries s.turn.1 s.turn.2 = false ∧ u.busy = [] ∧ (r.core s.turn.1).exchanging = false ∧ u.halfSlot = none ∧
      s.partOfCore s.turn.1 = some 0 ∧ r.wpend (r.recordLoc s.turn.1 u) = b := by
  intro b
  cases b
  · exact ⟨_, _, _, _, turn_bench manned core0 loadedStrand TV.zero TV.zero TV.zero, rfl, rfl, rfl, rfl, rfl, rfl, rfl, rfl, rfl⟩
  · exact ⟨_, _, _, _, turn_bench (manned.write 0x9000000000001000 (natBytes 8 (2 ^ 57))) core0 loadedStrand TV.zero TV.zero
      TV.zero, rfl, rfl, rfl, rfl, rfl, rfl, rfl, rfl, rfl⟩

set_option maxRecDepth 20000 in
/-- StepRunsTheDecodedInstruction: a word that encodes an instruction, one that encodes none, a fetch that fails, an event
that is due from the package and from the agenda, no slot to issue. -/
theorem hyp_steps :
    (∃ (s : State) (k sl : Nat) (t : Strand) (w : BitVec 32) (i : Instr), s.agenda = [] ∧ s.nextInternal = none ∧ s.pick = some (k, sl) ∧ s.strand k sl = some t ∧
      s.fetch k t = .word w ∧ decode w = .ok i) ∧
    (∃ (s : State) (k sl : Nat) (t : Strand) (w : BitVec 32) (e : DecodeError), s.agenda = [] ∧ s.nextInternal = none ∧ s.pick = some (k, sl) ∧ s.strand k sl = some t ∧
      s.fetch k t = .word w ∧ decode w = .error e) ∧
    (∃ (s : State) (k sl : Nat) (t : Strand) (c : Nat) (v : Word), s.agenda = [] ∧ s.nextInternal = none ∧ s.pick = some (k, sl) ∧ s.strand k sl = some t ∧
      s.fetchFail k t = some (c, v)) ∧
    (∃ s k t, State.fetchFail s k t = none ∧ t.rep = none ∧ t.loop = none) ∧
    (∃ s i, State.agenda s = [] ∧ s.nextInternal = some i) ∧
    (State.reset.agenda = [] ∧ State.reset.nextInternal = none ∧ State.reset.pick = none) ∧
    (∃ s a, State.agenda s = [.input a]) ∧
    (∃ s k sl, State.agenda s = [.pick k sl] ∧ s.slotToIssue k (s.core k) ≠ some sl) ∧
    (∃ (s n : State) (k sl : Nat) (t : Strand) (w : BitVec 32) (i : Instr), s.agenda = [.pick k sl] ∧ s.slotToIssue k (s.core k) = some sl ∧
      n = { s with agenda := [] } ∧ n.strand k sl = some t ∧ n.fetch k t = .word w ∧ decode w = .ok i) ∧
    (∃ s i, State.agenda s = [.tick] ∧ s.gateDue = none ∧ s.promised = some i) ∧
    (∃ s, State.agenda s = [.tick] ∧ s.gateDue = none ∧ s.promised = none ∧ s.pick = none) :=
  ⟨⟨State.reset.withFetchWord 32 0x00380283, 0, 0, _, _, _, rfl, rfl, rfl, rfl, rfl, rfl⟩,
    ⟨State.reset.withFetchWord 32 0, 0, 0, _, _, _, rfl, rfl, rfl, rfl, rfl, rfl⟩,
    ⟨one { loadedStrand with pcc := TV.zero }, 0, 0, _, _, _, rfl, rfl, rfl, rfl, rfl⟩,
    ⟨one loadedStrand, 0, loadedStrand, rfl, rfl, rfl⟩,
    ⟨{ land with clusters := [(0, { Cluster.init with lease := { Lease.init with st := .requested, reqs := 1#8 } })] }, _, rfl, rfl⟩,
    ⟨rfl, rfl, rfl⟩, ⟨{ State.reset with agenda := [.input (.tenure 5)] }, _, rfl⟩,
    ⟨{ State.reset with agenda := [.pick 0 0] }, 0, 0, rfl, by decide⟩,
    ⟨{ (State.reset.withFetchWord 32 0x00380283) with agenda := [.pick 0 0] }, _, 0, 0, _, _, _, rfl, rfl, rfl, rfl, rfl, rfl⟩,
    ⟨{ manned with groups := [(0, { crew with pool := [(0x9000000000001000, 0)] })], clusters := [(0, { Cluster.init with holder := some 0 })], agenda := [.tick] }, _, rfl, rfl, rfl⟩,
    ⟨{ State.reset with agenda := [.tick] }, rfl, rfl, rfl, rfl⟩⟩

/-- InstructionsKeepMemoryCanonical: a store that completes in a canonical memory; the other forms are those of
`hyp_accesses`. -/
theorem hyp_canonical : Canonical (b2 capS (w64 0x80)) ∧ ∃ n, exec (.st8 1#6 2#6 3#13) (b2 capS (w64 0x80)) = .next n :=
  ⟨rfl, _, rfl⟩

/-- RegisterFormsChangeOnlyTheirDestination. -/
theorem hyp_frame :
    ∃ s t, Turn s t ∧ Plain t s.now [1#6, 2#6] [3#6] ∧ Plain t s.now [1#6] [55#6] :=
  ⟨_, _, turn_bench land core0 loadedStrand (w64 1) (w64 2) TV.zero, by unfold Plain; decide, by unfold Plain; decide⟩

/-- A binding of q0 to entry 3 of core 0. -/
abbrev bound (pop : Bool) : QBind := ⟨.channel, 0, 3, pop, 0, 0, TV.zero, 0⟩

/-- An entry of two slots of 16 bytes at offset 0x3000 of core 0, empty or holding one value. -/
abbrev entry (filled : List Nat) : Chan := ⟨0x3000, 16, 2, 0, filled.length, 2 - filled.length, filled, [], 1⟩

/-- FetchAndOperandsStopInstructions: each thing that stops an `add`, and each check of a fetch. -/
theorem hyp_operands_stop :
    (∃ s t u, State.cur s = some t ∧ u = t.settle s.now ∧ t.pendPush = none ∧ firstUnbound u [56#6, 2#6, 3#6] = some 0) ∧
    (∃ s t u, State.cur s = some t ∧ u = t.settle s.now ∧ t.pendPush = none ∧ firstUnbound u [56#6, 2#6, 3#6] = none ∧
      firstWrongEnd u true ([56#6, 2#6].filter isQ) = some 0) ∧
    (∃ s t u, State.cur s = some t ∧ u = t.settle s.now ∧ t.pendPush = none ∧ firstUnbound u [1#6, 2#6, 56#6] = none ∧
      firstWrongEnd u true ([1#6, 2#6].filter isQ) = none ∧ firstWrongEnd u false ([56#6].filter isQ) = some 0) ∧
    (∃ s t u, State.cur s = some t ∧ u = t.settle s.now ∧ t.pendPush = none ∧ lostRead u [1#6, 2#6] = none ∧
      anyBusy u [1#6, 2#6, 3#6] = true) ∧
    (∃ s t u, State.cur s = some t ∧ u = t.settle s.now ∧ t.pendPush = none ∧ lostRead u [1#6, 2#6] = none ∧
      anyBusy u [1#6, 2#6, 3#6] = false ∧ (∃ vals n, gather s.turn.1 s.turn.2 [1#6, 2#6] u.popped u (s.settled t) = .inl (vals, n)) ∧
      u.chk = true ∧ firstEarly u s.now [1#6, 2#6] = some 2) ∧
    (∃ s t u, State.cur s = some t ∧ u = t.settle s.now ∧ t.pendPush = none ∧ firstUnbound u [56#6, 2#6, 3#6] = none ∧
      firstWrongEnd u true ([56#6, 2#6].filter isQ) = none ∧ anyBusy u [56#6, 2#6, 3#6] = false ∧
      (s.settled t).queueHeld s.turn.1 s.turn.2 (([56#6, 2#6, 3#6].filter isQ).map qNum) = true) ∧
    (∃ s t u, State.cur s = some t ∧ u = t.settle s.now ∧ t.pendPush = none ∧ firstUnbound u [56#6, 2#6, 3#6] = none ∧
      firstWrongEnd u true ([56#6, 2#6].filter isQ) = none ∧ t.popped = [] ∧
      (s.settled t).queueHeld s.turn.1 s.turn.2 (([56#6, 2#6, 3#6].filter isQ).map qNum) = false ∧
      (s.settled t).popAt s.turn.1 s.turn.2 0 = none) ∧
    (∃ s t, State.cur s = some t ∧ t.pendPush ≠ none) ∧
    (∃ s t, State.cur s = some t ∧ s.fetchFail s.turn.1 t = some (0x03, BitVec.ofNat 64 (2 ^ 63))) ∧
    (∀ p ∈ [0x7B], (mkCap (2 ^ 63) 256 0 0 p).tag = true ∧ capHas (mkCap (2 ^ 63) 256 0 0 p) permExec = false) ∧
    (∃ t : Strand, t.pcc.tag = true ∧ capHas t.pcc permExec = true ∧ ¬ InBounds t.pcc t.pc.toNat) ∧
    (∀ o ∈ [0x0FFC, 0x1000], ∃ t : Strand, t.pcc.tag = true ∧ capHas t.pcc permExec = true ∧ InBounds t.pcc t.pc.toNat ∧
      t.pc.toNat / 2 ^ 60 = 8 ∧ t.pc.toNat % 2 ^ 19 = o) :=
  ⟨⟨one (two (w64 1) (w64 2)), _, _, rfl, rfl, rfl, rfl⟩,
    ⟨one { two (w64 1) (w64 2) with q := [(0, bound false)] }, _, _, rfl, rfl, rfl, rfl, rfl⟩,
    ⟨one { two (w64 1) (w64 2) with q := [(0, bound true)] }, _, _, rfl, rfl, rfl, rfl, rfl, rfl⟩,
    ⟨one { two (w64 1) (w64 2) with busy := [1] }, _, _, rfl, rfl, rfl, rfl, rfl⟩,
    ⟨one { two (w64 1) (w64 2) with chk := true, pend := [⟨2, 3, w64 9⟩] }, _, _, rfl, rfl, rfl, rfl, rfl, ⟨_, _, rfl⟩, rfl, rfl⟩,
    ⟨{ one { two (w64 1) (w64 2) with q := [(0, bound true)], pendPush := none } with
        accesses := [(4, { usesPage with sid := 1#32, acq := true })] }, _, _, rfl, rfl, rfl, rfl, rfl, rfl, by decide⟩,
    ⟨{ land with cores := [(0, { seat { two (w64 1) (w64 2) with q := [(0, bound true)] } with chans := [(3, entry [])] })] }, _, _,
      rfl, rfl, rfl, rfl, rfl, rfl, rfl, rfl⟩,
    ⟨one { two (w64 1) (w64 2) with pendPush := some ⟨0, w64 1, [], 0, none⟩ }, _, rfl, by decide⟩,
    ⟨one { loadedStrand with pcc := ⟨BitVec.ofNat 128 (2 ^ 63), false⟩ }, _, rfl, rfl⟩,
    by decide,
    ⟨{ loadedStrand with pcc := mkCap (2 ^ 63 + 256) 256 256 0 0x7F }, by unfold InBounds; decide⟩,
    fun o ho => by
      simp only [List.mem_cons, List.not_mem_nil, or_false] at ho
      rcases ho with rfl | rfl
      · exact ⟨{ loadedStrand with pcc := mkCap (2 ^ 63 + 0x0FFC) (2 ^ 19) 0x0FFC 0 0x7F }, by unfold InBounds; decide⟩
      · exact ⟨{ loadedStrand with pcc := mkCap (2 ^ 63 + 0x1000) (2 ^ 19) 0x1000 0 0x7F }, by unfold InBounds; decide⟩⟩

/-- GroupFormsReadRanksAndSizes: a strand of a group. -/
theorem hyp_groups :
    ∃ s s' t g, Reads s [1#6] [3#6] [w64 1] s' ∧ Reads s [] [3#6] [] s' ∧ s'.cur = some t ∧
      s'.groupOn s'.turn.1 t.gid = some g :=
  ⟨_, _, _, _, reads_one manned core0 loadedStrand _ TV.zero TV.zero, reads_none _ _ _ _ _ _,
    cur_worn _ _ _ _ _ _, rfl⟩

/-- An open phase of level 2. -/
abbrev phase : Phase := ⟨2, 0, 0, 3#2⟩

/-- A group whose domain 0 of level 2 is in an exchange, with the event that its monitor has seen. -/
abbrev ringed (e : Option Word) : Group := { crew with doms := [⟨2, 0, .exchanging, 0#64, 0, 0, [], e, []⟩] }

/-- SuperstepAndExchangeFormsComplete: a superstep that has completed, one to wait for, one in an open phase; phases that
may open and that span two dies; a transfer at the first and at the last offset; phases to close with and without an event. -/
theorem hyp_supersteps :
    (∃ s s' t, Reads s [] [3#6] [] s' ∧ s'.cur = some t ∧ t.granted = some 7#64) ∧
    (∃ s s' t t0, Reads s [] [3#6] [] s' ∧ s'.cur = some t ∧ Turn s t0 ∧ t.granted = none ∧
      (s'.core s'.turn.1).exchanging = false ∧ t.seqFail = none ∧ s'.hasEntries s'.turn.1 s'.turn.2 = false ∧
      Released s' ∧ FabricDone s') ∧
    (∃ s s' t t0, Reads s [] [3#6] [] s' ∧ s'.cur = some t ∧ Turn s t0 ∧ t.granted = none ∧ t.wait = none ∧
      (s'.core s'.turn.1).exchanging = true) ∧
    (∃ s t g, Turn s t ∧ t.granted = none ∧ s.groupOn s.turn.1 t.gid = some g ∧
      (∀ j ∈ s.domainCores g 2 (s.domainOf s.turn.1 2), coreDie j = coreDie s.turn.1) ∧ (s.core s.turn.1).phase = none ∧
      ∀ e ∈ (s.core s.turn.1).slots, e.1 ≠ s.turn.2 → e.2.wait = none) ∧
    (∃ s t g, Turn s t ∧ t.granted = none ∧ s.groupOn s.turn.1 t.gid = some g ∧
      ∃ j ∈ s.domainCores g 2 (s.domainOf s.turn.1 2), coreDie j ≠ coreDie s.turn.1) ∧
    (∃ s t g, Turn s t ∧ t.granted = none ∧ s.groupOn s.turn.1 t.gid = some g ∧
      (∀ j ∈ s.domainCores g 2 (s.domainOf s.turn.1 2), coreDie j = coreDie s.turn.1) ∧ (s.core s.turn.1).phase ≠ none) ∧
    (∀ o ∈ [4, 1048575], ∃ s s' t g p, Reads s [1#6, 2#6, 4#6] [] [capS, w64 1, w64 o] s' ∧ Clear s' ∧ s'.cur = some t ∧
      s'.groupOn s'.turn.1 t.gid = some g ∧ capAddr capS / 2 ^ 60 = 8 ∧ spadCore (capAddr capS) = s'.turn.1 ∧
      capAddr capS % 32 = 0 ∧ (s'.core s'.turn.1).phase = some p ∧ o ≤ 1048575 ∧ s'.now + 4 ≤ o + p.t0 ∧
      (s'.core s'.turn.1).transfers = [] ∧ derefFail capS (capAddr capS) 32 permLoad = none ∧
      derefFail capS (capAddr capS) 32 permStore = none ∧
      s'.place s'.turn.1 (capAddr capS) 32 false false = .here (2 ^ 63 + 0x2000) ∧
      s'.place s'.turn.1 (capAddr capS) 32 true false = .here (2 ^ 63 + 0x2000) ∧
      s'.mine s'.turn.1 s'.turn.2 = [] ∧ routeCore s'.turn.1 1 ∈ s'.domainCores g p.level (s'.domainOf s'.turn.1 p.level)) ∧
    (∃ s t, Turn s t ∧ (s.core s.turn.1).phase = none) ∧
    (∃ s t p, Turn s t ∧ (s.core s.turn.1).phase = some p ∧ (s.core s.turn.1).transfers = [] ∧ s.groupOn s.turn.1 t.gid = none) ∧
    (∀ e ∈ [none, some 0#64], ∃ s t p g, Turn s t ∧ (s.core s.turn.1).phase = some p ∧ (s.core s.turn.1).transfers = [] ∧
      s.groupOn s.turn.1 t.gid = some g ∧ (g.dom p.level (s.domainOf s.turn.1 p.level)).bind (·.event) = e) ∧
    reported 3#2 (some 0#64) = some 0#64 := by
  refine ⟨⟨_, _, _, reads_none land core0 { loadedStrand with granted := some 7#64 } TV.zero TV.zero TV.zero,
      cur_worn _ _ _ _ _ _, rfl⟩,
    ⟨_, _, _, _, reads_none land core0 loadedStrand TV.zero TV.zero TV.zero, cur_worn _ _ _ _ _ _, turn_bench _ _ _ _ _ _,
      rfl, rfl, rfl, rfl, ⟨rfl, rfl⟩, rfl⟩,
    ⟨_, _, _, _, reads_none land { core0 with phase := some phase } loadedStrand TV.zero TV.zero TV.zero, cur_worn _ _ _ _ _ _,
      turn_bench _ _ _ _ _ _, rfl, rfl, rfl⟩,
    ⟨_, _, _, turn_bench manned core0 loadedStrand TV.zero TV.zero TV.zero, rfl, rfl, by decide, rfl, by decide⟩,
    ⟨_, _, _, turn_bench { manned with groups := [(0, { crew with cores := [0, 320] })] } core0 loadedStrand TV.zero TV.zero
      TV.zero, rfl, rfl, by decide⟩,
    ⟨_, _, _, turn_bench manned { core0 with phase := some phase } loadedStrand TV.zero TV.zero TV.zero, rfl, rfl, by decide, by decide⟩,
    fun o ho => ?_, ⟨_, _, turn_bench land core0 loadedStrand TV.zero TV.zero TV.zero, rfl⟩,
    ⟨_, _, _, turn_bench land { core0 with phase := some phase } loadedStrand TV.zero TV.zero TV.zero, rfl, rfl, rfl⟩,
    fun e he => ?_, rfl⟩
  · simp only [List.mem_cons, List.not_mem_nil, or_false] at ho
    rcases ho with rfl | rfl
    · exact ⟨_, _, _, _, _, reads_three_only manned { core0 with phase := some phase } loadedStrand _ _ _, ⟨rfl, rfl⟩,
        cur_worn _ _ _ _ _ _, rfl, by decide, by decide, by decide, rfl, by decide, by decide, rfl, rfl, rfl, rfl, rfl, rfl, by decide⟩
    · exact ⟨_, _, _, _, _, reads_three_only manned { core0 with phase := some phase } loadedStrand _ _ _, ⟨rfl, rfl⟩,
        cur_worn _ _ _ _ _ _, rfl, by decide, by decide, by decide, rfl, by decide, by decide, rfl, rfl, rfl, rfl, rfl, rfl, by decide⟩
  · simp only [List.mem_cons, List.not_mem_nil, or_false] at he
    rcases he with rfl | rfl
    · exact ⟨_, _, _, _, turn_bench { manned with groups := [(0, ringed none)] } { core0 with phase := some phase } loadedStrand
        TV.zero TV.zero TV.zero, rfl, rfl, rfl, rfl⟩
    · exact ⟨_, _, _, _, turn_bench { manned with groups := [(0, ringed (some 0#64))] } { core0 with phase := some phase }
        loadedStrand TV.zero TV.zero TV.zero, rfl, rfl, rfl, rfl⟩

/-- `land` with one cluster. -/
abbrev unit (c : Cluster) : State := { land with clusters := [(0, c)] }

set_option maxRecDepth 20000 in
/-- EventFormsTakeAndPlaceEvents: an event in the inbox, an empty inbox polled and waited for; events sent. -/
theorem hyp_events :
    (∃ s s' t0 e, Turn s t0 ∧ Reads s [1#6] [3#6] [w64 (2 ^ 31)] s' ∧
      (s'.inboxOf s'.turn.1).find? (fun e => (w64 (2 ^ 31)).lo.getLsbD e.line && decide (e.line < 32)) = some e) ∧
    (∀ m ∈ [2 ^ 32 + 1, 0, 1], ∃ s s' t0, Turn s t0 ∧ Reads s [1#6] [3#6] [w64 m] s' ∧ s'.inboxOf s'.turn.1 = []) ∧
    (∃ s s' t, Reads s [1#6, 2#6] [] [w64 0xFF1F, w64 5] s' ∧ Released s' ∧ s'.cur = some t ∧ t.granted = none ∧
      s'.turn.1 < 1280 ∧ ∀ i, i < 8 → (s'.inboxOf (coreOfSlot (clusterOf s'.turn.1) i)).length < 16 ∧
        s'.eventBehind s'.turn.1 (coreOfSlot (clusterOf s'.turn.1) i) 0x1F = false) ∧
    (∃ s s', Reads s [1#6, 2#6] [] [w64 1, w64 5] s' ∧ (w64 1).lo.toNat / 16 % 32 ≤ 19 ∧
      s'.maySend s'.turn.1 (coreOfId (w64 1).lo.toNat) = true ∧ Released s' ∧ (s'.core s'.turn.1).held = []) := by
  refine ⟨⟨_, _, _, _, turn_bench _ _ _ _ _ _, reads_one (unit { Cluster.init with inboxes := [(0, [⟨31, 9#64⟩])] }) core0
      loadedStrand _ TV.zero TV.zero, rfl⟩, fun m _ => ⟨_, _, _, turn_bench _ _ _ _ _ _, reads_one land core0 loadedStrand _ TV.zero TV.zero, rfl⟩,
    ⟨_, _, _, reads_two_only land core0 loadedStrand _ _ TV.zero, ⟨rfl, rfl⟩, cur_worn _ _ _ _ _ _, rfl, by decide, by decide⟩,
    ⟨_, _, reads_two_only land core0 loadedStrand _ _ TV.zero, by decide, rfl, ⟨rfl, rfl⟩, rfl⟩⟩

/-- `manned` with region 0 in the group's region mask. -/
abbrev regional : State := { manned with groups := [(0, { crew with partId := 0x100000000#64 })] }

/-- BarrierAndMutexFormsSynchronise: counters in use, idle and closed; the last arrival and an earlier one; rectangles that are not and that are
the group's, in a phase and outside; a mutex that is free, that of the strand with and without a request, and that of another strand. -/
theorem hyp_barriers :
    (∀ c ∈ [(⟨2, 1, 7#16⟩ : BarCounter), ⟨2, 0, 7#16⟩, ⟨0, 0, 7#16⟩], ∃ s s' t0,
      Turn s t0 ∧ Reads s [1#6] [3#6] [w64 0] s' ∧ Reads s [1#6, 2#6] [3#6] [w64 0, w64 7] s' ∧
      Reads s [1#6, 2#6] [] [w64 0, w64 7] s' ∧ Released s' ∧
      (s'.cluster (clusterOf s'.turn.1)).counter ((w64 0).lo.toNat % 8) = c) ∧
    (∃ s s' t0 t, Turn s t0 ∧ Reads s [1#6] [3#6] [w64 0] s' ∧ s'.cur = some t ∧ t.granted = some 3#64) ∧
    (∃ s s' t0 t, Turn s t0 ∧ Reads s [1#6] [3#6] [w64 0] s' ∧ s'.cur = some t ∧ t.granted = none ∧
      t.wait = none ∧ s'.rectOk s'.turn.1 t.gid (Rect.ofCode 0) = false) ∧
    (∀ p ∈ [none, some phase], ∃ s s' t0 t, Turn s t0 ∧ Reads s [1#6] [3#6] [w64 0] s' ∧ s'.cur = some t ∧ t.granted = none ∧
      t.wait = none ∧ s'.rectOk s'.turn.1 t.gid (Rect.ofCode 0) = true ∧ (s'.core s'.turn.1).exchanging = p.isSome ∧ Released s') ∧
    (∀ m ∈ [(⟨none, []⟩ : Mutex), ⟨some (0, 1), []⟩, ⟨some (0, 1), [(0, 0)]⟩, ⟨some (0, 2), []⟩], ∃ s s' t0 t,
      Turn s t0 ∧ Reads s [1#6] [] [w64 0] s' ∧ Reads s [1#6] [3#6] [w64 0] s' ∧ Released s' ∧ s'.cur = some t ∧
      t.granted = none ∧ (t.gid, t.sid.toNat) = (0, 1) ∧ s'.strand 0 0 = some t ∧
      (s'.cluster (clusterOf s'.turn.1)).mutex ((w64 0).lo.toNat % 16) = m) := by
  refine ⟨fun c hc => ?_, ⟨_, _, _, _, turn_bench _ _ _ _ _ _, reads_one land core0 { loadedStrand with granted := some 3#64 } _
      TV.zero TV.zero, cur_worn _ _ _ _ _ _, rfl⟩,
    ⟨_, _, _, _, turn_bench _ _ _ _ _ _, reads_one State.reset core0 loadedStrand _ TV.zero TV.zero, cur_worn _ _ _ _ _ _, rfl, rfl,
      by decide⟩, fun p hp => ?_, fun m hm => ?_⟩
  · exact ⟨_, _, _, turn_bench _ _ _ _ _ _, reads_one (unit { Cluster.init with counters := [(0, c)] }) core0 loadedStrand _
      (w64 7) TV.zero, reads_two _ _ _ _ _ _, reads_two_only _ _ _ _ _ _, ⟨rfl, rfl⟩, by
      simp only [List.mem_cons, List.not_mem_nil, or_false] at hc
      rcases hc with rfl | rfl | rfl <;> rfl⟩
  · simp only [List.mem_cons, List.not_mem_nil, or_false] at hp
    rcases hp with rfl | rfl
    · exact ⟨_, _, _, _, turn_bench _ _ _ _ _ _, reads_one regional core0 loadedStrand _ TV.zero TV.zero,
        cur_worn _ _ _ _ _ _, rfl, rfl, by decide, rfl, ⟨rfl, rfl⟩⟩
    · exact ⟨_, _, _, _, turn_bench _ _ _ _ _ _, reads_one regional { core0 with phase := some phase } loadedStrand _ TV.zero TV.zero,
        cur_worn _ _ _ _ _ _, rfl, rfl, by decide, rfl, ⟨rfl, rfl⟩⟩
  · exact ⟨_, _, _, _, turn_bench _ _ _ _ _ _, reads_one_only (unit { Cluster.init with mutexes := [(0, m)] }) core0 loadedStrand
      _ TV.zero TV.zero, reads_one _ _ _ _ _ _, ⟨rfl, rfl⟩, cur_worn _ _ _ _ _ _, rfl, rfl, rfl, by
      simp only [List.mem_cons, List.not_mem_nil, or_false] at hm
      rcases hm with rfl | rfl | rfl | rfl <;> rfl⟩

theorem reads_four (r : State) (c : Core) (t : Strand) (x y z : TV) :
    ReadsFields (bench r c t x y z) [1#6, 2#6, 4#6] [1#6, 2#6, 4#6] [4#6] [x, y, z] (worn r c t x y z) :=
  ⟨_, ⟨rfl, rfl⟩, rfl, rfl, rfl, rfl, rfl, by simp [Strand.settle, Strand.joinFlags], rfl, _, rfl, rfl⟩

/-- AtomicsReplaceTheirValueInOneStep and CompareWaitAndOrderedAccesses: a value that is the one expected and one that is not;
16 bytes with and without a capability to be stored; reductions. -/
theorem hyp_ordered :
    (∀ e ∈ [0, 1], ∃ s s', ReadsFields s [1#6, 2#6, 4#6] [1#6, 2#6, 4#6] [4#6] [capS, w64 9, w64 e] s' ∧ Clear s' ∧
      OrderOk s' 3#2 3#3 ∧ Reaches (s'.ordered 3#2 3#3) capS (capAddr capS) 8 (permLoad ||| permStore ||| permAtomic) true true
        (2 ^ 63 + 0x2000) ∧ (s'.ordered 3#2 3#3).read (2 ^ 63 + 0x2000) 8 = 0) ∧
    (∀ y ∈ [w64 9, capS], ∃ s s', ReadsFields s [1#6, 2#6, 4#6] [1#6, 2#6, 4#6] [4#6] [capS, y, w64 0] s' ∧ Clear s' ∧
      OrderOk s' 3#2 3#3 ∧ Reaches (s'.ordered 3#2 3#3) capS (capAddr capS) 16
        ((permLoad ||| permStore ||| permAtomic) ||| (if y.tag then permStoreCap else 0)) true true (2 ^ 63 + 0x2000) ∧
      taggedLoc (2 ^ 63 + 0x2000) = true) ∧
    (∀ y ∈ [0, 1], ∃ s s' t, Turn s t ∧ Reads s [1#6, 2#6] [3#6] [capS, w64 y] s' ∧ Clear s' ∧ NoFailure s' ∧
      ∀ n ∈ [4, 8], Reaches s' capS (capAddr capS) n permLoad false true (2 ^ 63 + 0x2000) ∧
        s'.read (2 ^ 63 + 0x2000) n = 0 ∧ (w64 y).bits.toNat % 2 ^ (8 * n) = y) ∧
    (∃ s s', Reads s [1#6, 2#6] [] [capS, w64 9] s' ∧ Clear s' ∧ ReleasedAt s' 4 ∧ ∀ n ∈ [4, 8],
      Reaches (s'.releasedAt 4) capS (capAddr capS) n permStore true true (2 ^ 63 + 0x2000) ∧
      Reaches (s'.releasedAt 4) capS (capAddr capS) n (permStore ||| permAtomic) true true (2 ^ 63 + 0x2000)) := by
  refine ⟨fun e he => ?_, fun y hy => ?_, fun y hy => ?_,
    ⟨_, _, reads_two_only land core0 loadedStrand _ _ TV.zero, ⟨rfl, rfl⟩, ⟨⟨rfl, rfl⟩, fun _ => rfl⟩, fun n hn => ?_⟩⟩
  · simp only [List.mem_cons, List.not_mem_nil, or_false] at he
    rcases he with rfl | rfl <;> exact ⟨_, _, reads_four land core0 loadedStrand _ _ _, ⟨rfl, rfl⟩,
      fun _ => ⟨⟨rfl, rfl⟩, fun h => absurd h (by decide)⟩, ⟨by decide, rfl, rfl, rfl⟩, rfl⟩
  · simp only [List.mem_cons, List.not_mem_nil, or_false] at hy
    rcases hy with rfl | rfl <;> exact ⟨_, _, reads_four land core0 loadedStrand _ _ _, ⟨rfl, rfl⟩,
      fun _ => ⟨⟨rfl, rfl⟩, fun h => absurd h (by decide)⟩, ⟨by decide, rfl, rfl, rfl⟩, rfl⟩
  · refine ⟨_, _, _, turn_bench _ _ _ _ _ _, reads_two land core0 loadedStrand _ _ TV.zero, ⟨rfl, rfl⟩, ⟨rfl, rfl⟩,
      fun n hn => ?_⟩
    simp only [List.mem_cons, List.not_mem_nil, or_false] at hn hy
    rcases hn with rfl | rfl <;> rcases hy with rfl | rfl <;> exact ⟨⟨by decide, rfl, rfl, rfl⟩, rfl, rfl⟩
  · simp only [List.mem_cons, List.not_mem_nil, or_false] at hn
    rcases hn with rfl | rfl <;> exact ⟨⟨by decide, rfl, rfl, rfl⟩, ⟨by decide, rfl, rfl, rfl⟩⟩

/-- An access of the strand of slot 0 that has been sent to the host. -/
abbrev outstanding (k : AccessKind) : Access :=
  { core := 0, slot := 0, sid := loadedStrand.sid, gid := loadedStrand.gid, pc := 0, record := 0, vf := 0, pasid := 0, addr := 0x2000,
    kind := k, acq := false, scope := 3, phase := .sent, phys := 0x5000, sentAt := 0 }

/-- FencesWaitForEarlierAccesses: nothing outstanding; a store outstanding; a load outstanding; a window to wait for. -/
theorem hyp_fences :
    (∃ s t, Turn s t ∧ ReleasedAt (s.settled t) 4 ∧ FabricDone (s.settled t)) ∧
    (∃ s t, Turn s t ∧ ¬ Released (s.settled t) ∧
      ∀ e ∈ (s.settled t).mine s.turn.1 s.turn.2, e.2.kind.posted = true) ∧
    (∃ s t, Turn s t ∧ ∃ e ∈ (s.settled t).mine s.turn.1 s.turn.2, e.2.kind.posted = false) ∧
    (∃ s t, Turn s t ∧ ¬ FabricDone (s.settled t)) := by
  refine ⟨⟨_, _, turn_bench land core0 loadedStrand TV.zero TV.zero TV.zero, ⟨⟨rfl, rfl⟩, fun _ => rfl⟩, rfl⟩,
    ⟨_, _, turn_bench { land with accesses := [(0, outstanding (.store 8 0#128))] } core0 loadedStrand TV.zero TV.zero TV.zero,
      ?_, ?_⟩,
    ⟨_, _, turn_bench { land with accesses := [(0, outstanding (.load 8 false 3))] } core0 loadedStrand TV.zero TV.zero TV.zero,
      _, List.mem_cons_self, rfl⟩,
    ⟨_, _, turn_bench land core0 { loadedStrand with fabWindow := some 5 } TV.zero TV.zero TV.zero, ?_⟩⟩
  · unfold Released; decide
  · decide
  · unfold FabricDone; decide

/-- A strand with q0 bound to the channel of entry 3, the entry filled as `f` says. -/
abbrev piped (pop : Bool) (f : List Nat) (x : TV) : State :=
  bench land { core0 with chans := [(3, entry f)] } { loadedStrand with q := [(0, bound pop)] } x TV.zero TV.zero

abbrev pipedW (pop : Bool) (f : List Nat) (x : TV) : State :=
  worn land { core0 with chans := [(3, entry f)] } { loadedStrand with q := [(0, bound pop)] } x TV.zero TV.zero

/-- A status port bound. -/
abbrev portQ : QBind := ⟨.status, 0, 0, true, 0, 0, TV.zero, 0⟩

set_option maxRecDepth 20000 in
/-- ChannelFormsBindAndCount: a channel to open, one to join, ports; ends released with and without close; counts. -/
theorem hyp_channel_bindings :
    (∃ s s' t d, Reads s [1#6, 2#6] [] [capS, w64 (0x10000 + 0x400 + 3)] s' ∧ s'.cur = some t ∧ kfind 0 t.q = none ∧
      descriptorOk (w64 (0x10000 + 0x400 + 3)).lo = true ∧ d = Descriptor.ofWord (w64 (0x10000 + 0x400 + 3)).lo ∧
      d.kind = 0 ∧ d.pop = false ∧ derefFail capS (capAddr capS) (d.cap * d.size) permStore = none ∧ capAddr capS % 64 = 0 ∧
      capAddr capS / 2 ^ 60 = 8 ∧ spadCore (capAddr capS) = s'.turn.1 ∧ s'.maySend s'.turn.1 s'.turn.1 = true ∧
      s'.messageRefusal s'.turn.1 s'.turn.1 = none ∧ isFinial s'.turn.1 = false ∧ (s'.core s'.turn.1).frozen = false ∧
      s'.spadPlace s'.turn.1 (capAddr capS) (d.cap * d.size) ≠ .bad 0x04 ∧
      ∃ e, bindStep d (spadOff (capAddr capS)) (boundOffset (s'.core s'.turn.1).xobound) (s'.chan s'.turn.1 d.ch) = .inl e) ∧
    (∃ s s' c t, Reads s [1#6, 2#6] [] [c, w64 0x100] s' ∧ s'.cur = some t ∧ descriptorOk (w64 0x100).lo = true ∧ c.tag = true ∧
      derefFail c (capAddr c) 16 permStore = none ∧ portNamed s'.turn.1 (capAddr c) = 1) ∧
    (∃ s s' c t, Reads s [1#6, 2#6] [] [c, w64 0x280] s' ∧ s'.cur = some t ∧ descriptorOk (w64 0x280).lo = true ∧ c.tag = true ∧
      derefFail c (capAddr c) 16 permLoad = none ∧ portNamed s'.turn.1 (capAddr c) = 2) ∧
    (∀ w ∈ [0, 1], ∃ s s' t, ReadsFields s [1#6, qField 0#3] [1#6] [] [w64 w] s' ∧ s'.cur = some t ∧
      kfind 0 t.q = some (bound true) ∧ s'.homeFrozen (bound true) = false ∧
      s'.messageRefusal s'.turn.1 (bound true).home = none ∧ s'.endInUse (bound true) = false) ∧
    (∃ s s' t, ReadsFields s [qField 0#3, 3#6] [] [3#6] [] s' ∧ s'.cur = some t ∧
      kfind 0 t.q = some (bound true) ∧ s'.messageRefusal s'.turn.1 (bound true).home = none ∧ s'.chan 0 3 = some (entry [0])) ∧
    (∃ s s' t, ReadsFields s [qField 0#3, 3#6] [] [3#6] [] s' ∧ s'.cur = some t ∧ kfind 0 t.q = some portQ ∧
      portQ.kind ≠ .channel) :=
  ⟨⟨_, _, _, _, reads_two_only land core0 loadedStrand _ _ TV.zero, cur_worn _ _ _ _ _ _, rfl, by decide, rfl, by decide, by decide,
      by decide, by decide, by decide, rfl, rfl, rfl, rfl, rfl, by decide, _, rfl⟩,
    ⟨_, _, mkCap 0xA000000000000100 16 0 0 0x5F, _, reads_two_only land core0 loadedStrand _ _ TV.zero, cur_worn _ _ _ _ _ _,
      by decide, by decide, by decide, rfl⟩,
    ⟨_, _, mkCap 0xA000000000000200 16 0 0 0x5F, _, reads_two_only land core0 loadedStrand _ _ TV.zero, cur_worn _ _ _ _ _ _,
      by decide, by decide, by decide, rfl⟩,
    fun w _ => ⟨piped true [] (w64 w), pipedW true [] (w64 w), _, ⟨_, ⟨rfl, rfl⟩, rfl, rfl, rfl, rfl, rfl, by simp [Strand.settle, Strand.joinFlags], rfl, _, rfl, rfl⟩, rfl, rfl,
      rfl, if_pos rfl, rfl⟩,
    ⟨piped true [0] TV.zero, pipedW true [0] TV.zero, _, ⟨_, ⟨rfl, rfl⟩, rfl, rfl, rfl, rfl, rfl, by simp [Strand.settle, Strand.joinFlags], rfl, _, rfl, rfl⟩,
      rfl, rfl, if_pos rfl, rfl⟩,
    ⟨bench land core0 { loadedStrand with q := [(0, portQ)] } TV.zero TV.zero TV.zero,
      worn land core0 { loadedStrand with q := [(0, portQ)] } TV.zero TV.zero TV.zero, _,
      ⟨_, ⟨rfl, rfl⟩, rfl, rfl, rfl, rfl, rfl, by simp [Strand.settle, Strand.joinFlags], rfl, _, rfl, rfl⟩, rfl, rfl, by decide⟩⟩

set_option maxRecDepth 20000 in
/-- ChannelFormsMoveSlots: a slot at the head and none; room for a slot and none; a message. -/
theorem hyp_channel_slots :
    (∃ s s' t v, ReadsFields s [qField 0#3, 1#6, 3#6] [1#6] [3#6] [w64 0] s' ∧ s'.cur = some t ∧
      kfind 0 t.q = some (bound true) ∧ 0 < s'.slotBytes (bound true) / 16 ∧ s'.peekPart (bound true) 0 = some v) ∧
    (∃ s s' t v n, ReadsFields s [qField 0#3, 3#6] [] [3#6, 3#6 + 1#6] [] s' ∧ s'.cur = some t ∧
      kfind 0 t.q = some (bound true) ∧ s'.popAt s'.turn.1 s'.turn.2 0 = some (v, n)) ∧
    (∃ s s' t, ReadsFields s [qField 0#3, 3#6] [] [3#6, 3#6 + 1#6] [] s' ∧ s'.cur = some t ∧
      kfind 0 t.q = some (bound true) ∧ s'.popAt s'.turn.1 s'.turn.2 0 = none) ∧
    (∀ f ∈ [[], [0, 1]], ∃ s s' t, ReadsFields s [1#6, qField 0#3] [1#6] [] [capS] s' ∧ s'.cur = some t ∧
      kfind 0 t.q = some (bound false) ∧ s'.slotBytes (bound false) = 16 ∧ Clear s' ∧ Released s' ∧ NoFailure s' ∧
      Reaches s' capS (capAddr capS) 16 permLoad false false (2 ^ 63 + 0x2000) ∧
      ((s'.touch (clusterOf s'.turn.1) (2 ^ 63 + 0x2000) 16 false).putSlot s'.turn.1 s'.turn.2 0 s'.nextAccess
        (s'.readBytes (2 ^ 63 + 0x2000) 16)).isSome = f.isEmpty) ∧
    (∃ s s', Reads s [1#6, 2#6] [] [w64 0x10000, w64 5] s' ∧ (w64 0x10000).lo.toNat / 16 % 32 ≤ 19 ∧
      s'.maySend s'.turn.1 (coreOfId (w64 0x10000).lo.toNat) = true ∧ Released s' ∧
      s'.messagesFor (coreOfId (w64 0x10000).lo.toNat) < 16) := by
  refine ⟨⟨piped true [0] (w64 0), pipedW true [0] (w64 0), _, _, ⟨_, ⟨rfl, rfl⟩, rfl, rfl, rfl, rfl, rfl, by simp [Strand.settle, Strand.joinFlags], rfl, _, rfl, rfl⟩,
      rfl, rfl, by decide, rfl⟩,
    ⟨piped true [0] (w64 0), pipedW true [0] (w64 0), _, _, _, ⟨_, ⟨rfl, rfl⟩, rfl, rfl, rfl, rfl, rfl, by simp [Strand.settle, Strand.joinFlags], rfl, _, rfl, rfl⟩,
      rfl, rfl, rfl⟩,
    ⟨piped true [] (w64 0), pipedW true [] (w64 0), _, ⟨_, ⟨rfl, rfl⟩, rfl, rfl, rfl, rfl, rfl, by simp [Strand.settle, Strand.joinFlags], rfl, _, rfl, rfl⟩,
      rfl, rfl, rfl⟩, fun f hf => ?_,
    ⟨_, _, reads_two_only land core0 loadedStrand _ _ TV.zero, by decide, rfl, ⟨rfl, rfl⟩, by decide⟩⟩
  simp only [List.mem_cons, List.not_mem_nil, or_false] at hf
  rcases hf with rfl | rfl
  · exact ⟨piped false [] capS, pipedW false [] capS, _, ⟨_, ⟨rfl, rfl⟩, rfl, rfl, rfl, rfl, rfl, by simp [Strand.settle, Strand.joinFlags], rfl, _, rfl, rfl⟩,
      rfl, rfl, rfl, ⟨rfl, rfl⟩, ⟨rfl, rfl⟩, ⟨rfl, rfl⟩, ⟨by decide, rfl, rfl, rfl⟩, rfl⟩
  · exact ⟨piped false [0, 1] capS, pipedW false [0, 1] capS, _, ⟨_, ⟨rfl, rfl⟩, rfl, rfl, rfl, rfl, rfl, by simp [Strand.settle, Strand.joinFlags], rfl, _, rfl, rfl⟩,
      rfl, rfl, rfl, ⟨rfl, rfl⟩, ⟨rfl, rfl⟩, ⟨rfl, rfl⟩, ⟨by decide, rfl, rfl, rfl⟩, rfl⟩

/-- ShapeFormsHandleRecords: a record loaded and stored, with and without a capability in it. -/
theorem hyp_shapes :
    (∃ s s', Reads s [1#6] [] [capS] s' ∧ Clear s' ∧ NoFailure s' ∧ capAddr capS % 64 = 0 ∧
      Reaches s' capS (capAddr capS) 64 permLoad false false (2 ^ 63 + 0x2000)) ∧
    (∀ b : Bool, ∃ s s' t, Reads s [1#6] [] [capS] s' ∧ Clear s' ∧ NoFailure s' ∧ s'.cur = some t ∧ (t.getSh 1).tag = b ∧
      Reaches s' capS (capAddr capS) 64 permStore true false (2 ^ 63 + 0x2000) ∧
      isPcie (2 ^ 63 + 0x2000) = false ∧ capHas capS permStoreCap = true) ∧
    (∀ i ∈ [0, 1, 2, 7, 8, 9], ∃ s s' t, Reads s [1#6] [3#6] [w64 i] s' ∧ s'.cur = some t) ∧
    ∀ i ∈ [0, 3, 4], ∃ s s', Reads s [1#6, 2#6] [] [w64 5, w64 i] s' := by
  refine ⟨⟨_, _, reads_one_only land core0 loadedStrand _ TV.zero TV.zero, ⟨rfl, rfl⟩, ⟨rfl, rfl⟩, by decide, ⟨by decide, rfl, rfl, rfl⟩⟩,
    fun b => ?_, fun i _ => ⟨_, _, _, reads_one land core0 loadedStrand _ TV.zero TV.zero, cur_worn _ _ _ _ _ _⟩,
    fun i _ => ⟨_, _, reads_two_only land core0 loadedStrand _ _ TV.zero⟩⟩
  cases b
  · exact ⟨_, _, _, reads_one_only land core0 loadedStrand _ TV.zero TV.zero, ⟨rfl, rfl⟩, ⟨rfl, rfl⟩, cur_worn _ _ _ _ _ _, rfl,
      ⟨by decide, rfl, rfl, rfl⟩, by decide, by decide⟩
  · exact ⟨_, _, _, reads_one_only land core0 { loadedStrand with sh := [(1, ⟨0#512, true⟩)] } _ TV.zero TV.zero, ⟨rfl, rfl⟩, ⟨rfl, rfl⟩,
      cur_worn _ _ _ _ _ _, rfl, ⟨by decide, rfl, rfl, rfl⟩, by decide, by decide⟩

/-- A shape of `n1` rows of `n0` elements of a type, every stride 0, with a capability. -/
abbrev flat (cap : TV) (code n0 n1 : Nat) (mx : Bool) : Shape :=
  ⟨BitVec.ofNat 512 (cap.bits.toNat + (code + (if mx then 256 else 0) + (n0 - 1) * 2 ^ 16 + (n1 - 1) * 2 ^ 32) * 2 ^ 128), true⟩

/-- 4 KiB of core 0's scratchpad. -/
abbrev capB : TV := mkCap (2 ^ 63 + 0x2000) 4096 0 0 0x5F

/-- A strand with shapes of every kind in s1 to s14. -/
abbrev shaped : Strand :=
  { loadedStrand with sh := [(1, flat capB 0x05 32 1 false), (2, flat capB 0x10 32 1 false), (3, flat capB 0x06 32 1 false),
      (4, flat capB 0x10 1 1 false), (5, flat capB 0x05 1 1 false), (6, flat capB 0x24 32 1 true), (7, flat capB 0x22 32 1 true),
      (8, flat capB 0x20 32 1 true), (9, flat capB 0x21 32 1 true), (10, flat capB 0x01 32 1 false),
      (11, flat capB 0x30 32 1 false), (12, flat capB 0x12 32 1 false), (13, flat capB 0x38 1 1 false),
      (14, flat (mkCap (2 ^ 63 + 0x4000) 256 0 0 0x5F) 0x06 1 1 false)] }

abbrev vec (x : TV) : State := bench land core0 shaped x TV.zero TV.zero

/-- `EntryPasses` as a test. -/
def passes (s : State) (t : Strand) (e : VEntry) : Bool :=
  (!e.op.usesA || decide (64 + e.na ∉ t.busy)) && (!e.op.usesB || decide (64 + e.nb ∉ t.busy)) &&
    (!e.op.usesD || decide (64 + e.nd ∉ t.busy)) && (s.entryFail s.turn.1 t (s.entryFrom t e)).isNone &&
    !(s.entryFrom t e).queues.any (fun q => decide (q + 56 ∈ t.busy))

theorem passes_ok {s : State} {t : Strand} {e : VEntry} (h : passes s t e = true) : EntryPasses s t e := by
  simp only [passes, Bool.and_eq_true, Bool.or_eq_true, Bool.not_eq_true', decide_eq_true_eq, Option.isNone_iff_eq_none] at h
  obtain ⟨⟨⟨⟨a, b⟩, c⟩, d⟩, f⟩ := h
  exact ⟨fun x => a.resolve_left (by simp [x]), fun x => b.resolve_left (by simp [x]), fun x => c.resolve_left (by simp [x]), d, f⟩


/-- VectorFormsTakeTheirEntries and ReductionsAndHypervectorFormsTakeTheirEntries: an entry of each operation that passes the
checks of its issue. -/
theorem hyp_entries_checked :
    (∀ e ∈ [(v3 .vadd 1#4 1#4 1#4).withK 1#1, (v3 .vadd 2#4 2#4 2#4).withK 0#1, (v3 .vsub 1#4 1#4 1#4).withK 1#1,
      (v3 .vmul 1#4 1#4 1#4).withK 1#1, (v3 .vfma 1#4 1#4 1#4).withK 1#1, v3 .vmin 1#4 1#4 1#4, v3 .vmax 1#4 1#4 1#4,
      v3 .vand 1#4 1#4 1#4, v3 .vor 1#4 1#4 1#4, v3 .vxor 1#4 1#4 1#4, v3 .vcmpEq 1#4 1#4 1#4, v3 .vcmpLt 1#4 1#4 1#4,
      v3 .vcmpLe 1#4 1#4 1#4, v3 .vsel 1#4 1#4 1#4, v3 .vgath 1#4 3#4 1#4, v3 .vscat 1#4 3#4 1#4,
      (v3 .vscatAdd 1#4 3#4 1#4).withK 1#1, (v2 .vabs 1#4 1#4).withK 1#1, (v2 .vneg 1#4 1#4).withK 1#1, v2 .vrcp 2#4 2#4,
      v2 .vrsqrt 2#4 2#4, v2 .vexp2 2#4 2#4, v2 .vlog2 2#4 2#4, v2 .vtanh 2#4 2#4, v2 .vsig 2#4 2#4, v2 .vcopy 1#4 1#4,
      ((v2 .vcvt 1#4 2#4).withK 1#1).withO 0#1], EntryPasses (vec TV.zero) (stand shaped TV.zero TV.zero TV.zero) e) ∧
    (∀ e ∈ [(v2 .vquant 8#4 2#4).withO 1#1, v2 .vdequant 2#4 8#4, (v2 .vaddi 1#4 1#4).withK 1#1, (v2 .vsubi 1#4 1#4).withK 1#1,
      (v2 .vmuli 1#4 1#4).withK 1#1, v2 .vshl 1#4 1#4, v2 .vshr 1#4 1#4, v2 .vsra 1#4 1#4, v2 .vsat 1#4 1#4, v2 .vfill 1#4 0#4,
      v2 .viota 1#4 0#4, v2 .vclamp 1#4 1#4, v2 .vrsum 4#4 2#4, v2 .vrmax 4#4 2#4, v2 .vrmin 4#4 2#4, v2 .vrargmax 14#4 2#4,
      v2 .vrsumsq 4#4 2#4], EntryPasses (vec TV.zero) (stand shaped TV.zero TV.zero TV.zero) e) ∧
    (∀ b : Bool, ∀ e ∈ [v3 (.vdot .f4f4 b) 4#4 6#4 6#4, v3 (.vdot .f6f6 b) 4#4 7#4 7#4, v3 (.vdot .f6f4 b) 4#4 6#4 7#4,
      v3 (.vdot .e4e4 b) 4#4 8#4 8#4, v3 (.vdot .e5e5 b) 4#4 9#4 9#4, v3 (.vdot .i8i8 b) 5#4 10#4 10#4,
      v3 (.vdot .i8t2 b) 5#4 10#4 11#4, v3 (.vdot .bfbf b) 4#4 12#4 12#4],
      EntryPasses (vec TV.zero) (stand shaped TV.zero TV.zero TV.zero) e) ∧
    (∀ e ∈ [hEntry .hbind 1 2 3 0 0 0, hEntry .hperm 1 2 0 0 0 0, hEntry .hbund 0 1 0 1 2 0, hEntry .hthr 1 0 2 1 3 1,
      hEntry .hclr 1 0 0 0 0 0, hEntry .hclr 0 0 0 1 1 0, hEntry .hmv 1 2 0 0 0 0, hEntry .hnot 1 2 0 0 0 0,
      hEntry .hld 1 0 0 0 0 0, hEntry .hst 0 0 0 1 1 0, hEntry .hham 0 1 2 0 0 0, hEntry .hpopc 0 1 0 0 0 0,
      hEntry .hgetb 0 1 2 0 3 0, VEntry.of .hsrch 13 0 0, VEntry.of .hsrchk 13 0 0, VEntry.of .hsrcht 13 0 14],
      EntryPasses (vec TV.zero) (stand shaped TV.zero TV.zero TV.zero) e) := by
  refine ⟨fun e he => passes_ok (List.all_eq_true.mp ?_ e he), fun e he => passes_ok (List.all_eq_true.mp ?_ e he),
    fun b e he => passes_ok (List.all_eq_true.mp ?_ e he), fun e he => passes_ok (List.all_eq_true.mp ?_ e he)⟩ <;>
    first | decide +kernel | (cases b <;> decide +kernel)

set_option maxRecDepth 20000 in
/-- The same statements: an entry is free and the operands are read; registers of a hypervector in the scratchpad. -/
theorem hyp_entries :
    (∃ s t, Turn s t ∧ EntryFree (s.settled t) (t.settle s.now)) ∧
    (∃ s s' t u, Turn s t ∧ EntryFree (s.settled t) (t.settle s.now) ∧ Reads s [1#6] [] [w64 3] s' ∧ s'.cur = some u) ∧
    (∃ s s' t u, Turn s t ∧ EntryFree (s.settled t) (t.settle s.now) ∧ Reads s [] [3#6] [] s' ∧ s'.cur = some u) ∧
    (∃ s s' t u, Turn s t ∧ EntryFree (s.settled t) (t.settle s.now) ∧
      Reads s [] [4#6, 4#6 + 1#6, 4#6 + 2#6, 4#6 + 3#6] [] s' ∧ Reads s [] [4#6, 4#6 + 1#6] [] s' ∧
      Reads s [4#6] [4#6] [w64 7] s' ∧ s'.cur = some u) ∧
    (∃ s s' t u, Turn s t ∧ EntryFree (s.settled t) (t.settle s.now) ∧ Reads s [1#6] [] [mkCap (2 ^ 63 + 0x2000) 8192 0 0 0x5F] s' ∧
      s'.cur = some u ∧ s'.belowBound (2 ^ 63 + 0x2000) = false ∧ ∀ n ∈ [1024, 8192],
      s'.spaceFail s'.turn.1 ((2 ^ 63 + 0x2000 : Nat), ((2 ^ 63 + 0x2000 + n : Nat) : Int)) = none ∧
      derefFail (mkCap (2 ^ 63 + 0x2000) 8192 0 0 0x5F) (2 ^ 63 + 0x2000) n permLoad = none ∧
      derefFail (mkCap (2 ^ 63 + 0x2000) 8192 0 0 0x5F) (2 ^ 63 + 0x2000) n permStore = none) :=
  ⟨⟨_, _, turn_bench land core0 shaped TV.zero TV.zero TV.zero, rfl, .inr (by decide)⟩,
    ⟨_, _, _, _, turn_bench _ _ _ _ _ _, ⟨rfl, .inr (by decide)⟩, reads_one_only land core0 shaped _ TV.zero TV.zero,
      cur_worn _ _ _ _ _ _⟩,
    ⟨_, _, _, _, turn_bench _ _ _ _ _ _, ⟨rfl, .inr (by decide)⟩, reads_none land core0 shaped TV.zero TV.zero TV.zero,
      cur_worn _ _ _ _ _ _⟩,
    ⟨bench land core0 shaped TV.zero TV.zero (w64 7), worn land core0 shaped TV.zero TV.zero (w64 7), _, _, turn_bench _ _ _ _ _ _,
      ⟨rfl, .inr (by decide)⟩, ⟨_, ⟨rfl, rfl⟩, rfl, rfl, rfl, rfl, rfl, by simp [Strand.settle, Strand.joinFlags], rfl, _, rfl, rfl⟩,
      ⟨_, ⟨rfl, rfl⟩, rfl, rfl, rfl, rfl, rfl, by simp [Strand.settle, Strand.joinFlags], rfl, _, rfl, rfl⟩,
      ⟨_, ⟨rfl, rfl⟩, rfl, rfl, rfl, rfl, rfl, by simp [Strand.settle, Strand.joinFlags], rfl, _, rfl, rfl⟩, cur_worn _ _ _ _ _ _⟩,
    ⟨_, _, _, _, turn_bench _ _ _ _ _ _, ⟨rfl, .inr (by decide)⟩, reads_one_only land core0 shaped _ TV.zero TV.zero,
      cur_worn _ _ _ _ _ _, rfl, by decide⟩⟩

/-- IntegerElementAndHypervectorOperationsComputeTheirResults: sums below, within and above a signed byte; a count that is a tie, and ties read. -/
theorem hyp_elements :
    (0 < 8 ∧ (-129 : Int) < intMin true 8 ∧ intMin true 8 ≤ -128 ∧ (-128 : Int) ≤ intMax true 8 ∧
      intMin true 8 ≤ (127 : Int) ∧ (127 : Int) ≤ intMax true 8 ∧ intMax true 8 < 128) ∧ (255 < 2 ^ 8) ∧
    ((0 : Int) ≠ 0 ∨ (2 : Nat) ≠ 3) ∧ ((1 : Int) ≠ 0 ∨ (3 : Nat) ≠ 3) := by decide

/-- SequencerFormsControlEntries: a loop of no passes, one that fits and one that does not; no entry, entries that have and
have not begun, a recorded failure. -/
theorem hyp_sequencer :
    (∀ k ∈ [0, 1], ∃ s s' t0 t, Turn s t0 ∧ Reads s [1#6, 2#6] [] [w64 k, w64 15] s' ∧ s'.cur = some t ∧
      (w64 k).lo.toNat % 2 ^ 32 = k ∧ (w64 15).lo.toNat % 16 + 1 ≤ (s'.core s'.turn.1).freeEntries) ∧
    (∃ s s' t0 t, Turn s t0 ∧ Reads s [1#6, 2#6] [] [w64 1, w64 15] s' ∧ s'.cur = some t ∧
      (s'.core s'.turn.1).freeEntries < (w64 15).lo.toNat % 16 + 1) ∧
    (∃ s t, Turn s t ∧ t.seqFail = none ∧ (s.settled t).hasEntries s.turn.1 s.turn.2 = false) ∧
    (∃ s t s', Turn s t ∧ t.seqFail = none ∧ (s.settled t).hasEntries s.turn.1 s.turn.2 = true ∧
      Reads s [] [3#6] [] s' ∧
      ((s'.core s'.turn.1).seq.filter (fun e => decide (e.slot = s'.turn.2) && e.unstarted)).length = 1) ∧
    (∃ s t f, Turn s t ∧ t.seqFail = some f) := by
  refine ⟨fun k hk => ?_,
    ⟨_, _, _, _, turn_bench _ _ _ _ _ _, reads_two_only land { core0 with seq := [v2 .vcopy 1#4 1#4] } shaped _ _ TV.zero,
      cur_worn _ _ _ _ _ _, by decide⟩,
    ⟨_, _, turn_bench land core0 shaped TV.zero TV.zero TV.zero, rfl, rfl⟩,
    ⟨_, _, _, turn_bench land { core0 with seq := [{ v2 .vcopy 1#4 1#4 with started := true }, v2 .vcopy 2#4 2#4] } shaped TV.zero
      TV.zero TV.zero, rfl, rfl, reads_none _ _ _ _ _ _, rfl⟩,
    ⟨_, _, _, turn_bench land core0 { shaped with seqFail := some (4, 0) } TV.zero TV.zero TV.zero, rfl⟩⟩
  simp only [List.mem_cons, List.not_mem_nil, or_false] at hk
  rcases hk with rfl | rfl <;> exact ⟨_, _, _, _, turn_bench _ _ _ _ _ _, reads_two_only land core0 shaped _ _ TV.zero,
    cur_worn _ _ _ _ _ _, by decide, by decide⟩

/-- The lease of cluster 0 in a state. -/
abbrev leased (l : Lease) (q : List TileCmd) : State := unit { Cluster.init with lease := l, cmds := q }

/-- The lease granted to slot 0, with a map and an epilogue. -/
abbrev held : Lease :=
  { Lease.init with st := .granted, holder := some 0, map := some (0#64, 0x400000#64), epi := some (BitVec.ofNat 512 0x1000) }

/-- A command as a state without a lease would accept it. -/
abbrev command : TileCmd := State.tileCmd State.reset

set_option maxRecDepth 20000 in
/-- LeaseFormsFollowTheLease: the lease granted to the core, to another, asked for, free; operands of `mmap`, `mepi`, `mdrain`
and `mclear`. -/
theorem hyp_lease :
    (∃ s s' t, Turn s t ∧ Reads s [] [3#6] [] s' ∧ (s'.cluster (clusterOf s'.turn.1)).lease = held ∧
      held.grantedTo (slotInCluster s'.turn.1) = true) ∧
    (∃ s s' t l, Turn s t ∧ Reads s [] [3#6] [] s' ∧ Reads s [1#6] [] [w64 0] s' ∧
      l = (s'.cluster (clusterOf s'.turn.1)).lease ∧ l.grantedTo (slotInCluster s'.turn.1) = false ∧
      hasAnvil s'.turn.1 = true ∧ l.awaited (slotInCluster s'.turn.1) = false ∧
      kfind s'.turn.1 (s'.cluster (clusterOf s'.turn.1)).tileFail = none) ∧
    (∃ s t l, Turn s t ∧ l = ((s.settled t).cluster (clusterOf s.turn.1)).lease ∧
      l.grantedTo (slotInCluster s.turn.1) = false ∧ l.awaited (slotInCluster s.turn.1) = true) ∧
    (∃ s s', Reads s [1#6, 2#6] [] [w64 0x8888, w64 (2 ^ 19 + 64)] s' ∧ HoldsLease s' ∧
      (∀ i, i < 16 → (w64 0x8888).lo.toNat / 2 ^ (4 * i) % 16 ≤ 8) ∧ (w64 (2 ^ 19 + 64)).lo.toNat % 2 ^ 19 % 64 = 0 ∧
      (w64 (2 ^ 19 + 64)).lo.toNat / 2 ^ 19 % 2 ^ 13 ≠ 0) ∧
    (∃ s s', Reads s [1#6] [] [capS] s' ∧ HoldsLease s' ∧ Clear s' ∧ NoFailure s' ∧ capAddr capS % 64 = 0 ∧
      Reaches s' capS (capAddr capS) 64 permLoad false false (2 ^ 63 + 0x2000) ∧
      epiOk (BitVec.ofNat 512 (s'.read (2 ^ 63 + 0x2000) 64)) capS = true) ∧
    (∃ s s' l, Reads s [] [3#6] [] s' ∧ l = (s'.cluster (clusterOf s'.turn.1)).lease ∧
      l.grantedTo (slotInCluster s'.turn.1) = false ∧ hasAnvil s'.turn.1 = false) ∧
    (∀ q ∈ [[], [command]], ∃ s s' t, Reads s [1#6] [3#6] [w64 0x77] s' ∧ s'.cur = some t ∧ t.granted = none ∧ t.wait = none ∧
      HoldsLease s' ∧ (s'.cluster (clusterOf s'.turn.1)).cmds = q) ∧
    (∃ s s' t w, Reads s [1#6] [3#6] [w64 0x77] s' ∧ s'.cur = some t ∧ t.granted = some w) ∧
    (∀ x ∈ [0, 1, 3, 4], ∃ s s' m p e, Reads s [1#6] [] [w64 x] s' ∧ Reads s [1#6] [3#6] [w64 x] s' ∧ HoldsLease s' ∧
      AnvilRoom s' ∧ (s'.cluster (clusterOf s'.turn.1)).cmds = [] ∧ held.map = some (m, p) ∧ held.epi = some e ∧
      (s'.cluster (clusterOf s'.turn.1)).lease = held ∧ drainOk m p e held.window = true) :=
  ⟨⟨_, _, _, turn_bench (leased held []) core0 loadedStrand TV.zero TV.zero TV.zero, reads_none _ _ _ _ _ _, rfl, rfl⟩,
    ⟨_, _, _, _, turn_bench land core0 loadedStrand (w64 0) TV.zero TV.zero, reads_none _ _ _ _ _ _, reads_one_only _ _ _ _ _ _,
      rfl, rfl, rfl, rfl, rfl⟩,
    ⟨_, _, _, turn_bench (leased { Lease.init with st := .requested, reqs := 1#8 } []) core0 loadedStrand TV.zero TV.zero TV.zero,
      rfl, rfl, rfl⟩,
    ⟨_, _, reads_two_only (leased held []) core0 loadedStrand _ _ TV.zero, ⟨rfl, rfl⟩, by decide⟩,
    ⟨_, _, reads_one_only ((leased held []).write (2 ^ 63 + 0x2001) [0x10#8]) core0 loadedStrand _ TV.zero TV.zero, ⟨rfl, rfl⟩,
      ⟨rfl, rfl⟩, ⟨rfl, rfl⟩, by decide, ⟨by decide, rfl, rfl, rfl⟩, by decide⟩,
    ⟨{ (bench land core0 loadedStrand TV.zero TV.zero TV.zero) with
        cores := [(1280, { core0 with slots := [(0, stand loadedStrand TV.zero TV.zero TV.zero)] })], turn := (1280, 0) },
      _, _, ⟨_, ⟨rfl, rfl⟩, rfl, rfl, rfl, rfl, rfl, by simp [Strand.settle, Strand.joinFlags], rfl, _, rfl, rfl⟩, rfl, rfl, rfl⟩,
    fun q hq => by
      simp only [List.mem_cons, List.not_mem_nil, or_false] at hq
      rcases hq with rfl | rfl
      · exact ⟨_, _, _, reads_one (leased held []) core0 loadedStrand _ TV.zero TV.zero, cur_worn _ _ _ _ _ _, rfl, rfl,
          ⟨rfl, rfl⟩, rfl⟩
      · exact ⟨_, _, _, reads_one (leased held [command]) core0 loadedStrand _ TV.zero TV.zero, cur_worn _ _ _ _ _ _, rfl, rfl,
          ⟨rfl, rfl⟩, rfl⟩,
    ⟨_, _, _, 0x33#64, reads_one (leased held []) core0 { loadedStrand with granted := some 0x33#64 } _ TV.zero TV.zero,
      cur_worn _ _ _ _ _ _, rfl⟩,
    fun x hx => by
      simp only [List.mem_cons, List.not_mem_nil, or_false] at hx
      rcases hx with rfl | rfl | rfl | rfl <;>
        exact ⟨_, _, _, _, _, reads_one_only (leased held []) core0 loadedStrand _ TV.zero TV.zero, reads_one _ _ _ _ _ _,
          ⟨rfl, rfl⟩, ⟨Nat.zero_lt_succ 7, .inl rfl⟩, rfl, rfl, rfl, rfl, by decide +kernel⟩⟩

set_option maxRecDepth 20000 in
/-- TileFormsEnterCommands: shapes of each pair with a count of 32; a queue with room and a full one. -/
theorem hyp_tiles :
    (∀ e ∈ [(Pair.f4f4, 0x24, true, 0x24, true), (Pair.f6f6, 0x22, true, 0x23, true), (Pair.f6f4, 0x24, true, 0x22, true),
      (Pair.e4e4, 0x20, true, 0x20, true), (Pair.e5e5, 0x21, true, 0x21, true), (Pair.i8i8, 0x01, false, 0x01, false),
      (Pair.i8t2, 0x01, false, 0x30, false), (Pair.bfbf, 0x12, false, 0x12, false)],
      TileFits { loadedStrand with sh := [(1, flat capH e.2.1 32 128 e.2.2.1), (2, flat capH e.2.2.2.1 32 128 e.2.2.2.2)] } e.1
        1#4 2#4 32) ∧
    (∃ s s' t, Reads s [1#6] [] [w64 32] s' ∧ s'.cur = some t ∧ HoldsLease s' ∧ AnvilRoom s') ∧
    (∃ s s' t0 t, Turn s t0 ∧ Reads s [1#6] [] [w64 32] s' ∧ s'.cur = some t ∧ HoldsLease s' ∧ ¬ AnvilRoom s' ∧
      TileFits t .bfbf 1#4 2#4 (w64 32).lo.toNat) :=
  ⟨by unfold TileFits; decide +kernel,
    ⟨_, _, _, reads_one_only (leased held []) core0 loadedStrand _ TV.zero TV.zero, cur_worn _ _ _ _ _ _, ⟨rfl, rfl⟩,
      by unfold AnvilRoom; decide⟩,
    ⟨_, _, _, _, turn_bench _ _ _ _ _ _, reads_one_only (leased held (List.replicate 8 command)) core0
      { loadedStrand with sh := [(1, flat capH 0x12 32 128 false), (2, flat capH 0x12 32 128 false)] } _ TV.zero TV.zero,
      cur_worn _ _ _ _ _ _, ⟨rfl, rfl⟩, by unfold AnvilRoom; decide, by unfold TileFits; decide +kernel⟩⟩

/-! ### Hypotheses that are met: events -/

/-- `t` in slot 0 of core 0 in `manned`. -/
abbrev sits (t : Strand) (c : Core) : State := { manned with cores := [(0, { c with slots := [(0, t)] })] }

/-- The sender of the strand of slot 0 of core 0. -/
abbrev sender0 : Sender := ⟨0, 0, loadedStrand.sid, loadedStrand.gid, 0, 0⟩

/-- A pool with one record, *ready*. -/
abbrev waiting : State :=
  ({ manned with groups := [(0, { crew with pool := [(0x9000000000001000, 1)] })],
                 clusters := [(0, { Cluster.init with holder := some 0 })] } : State).write 0x9000000000001008 (natBytes 8 (2 ^ 52))

/-- StrandAndPortEventsTakeEffect, strands: an idle slot and a record; a wait past its budget; a wait that is over; cores to
pre-empt and to resume; a firmware core that has halted. -/
theorem hyp_strand_events :
    (∃ (s : State) (g : Group) (e : Nat × Nat), s.strand 0 0 = none ∧ s.mayTake 0 = true ∧ s.groupOfCluster (clusterOf 0) = some g ∧ s.linesHeld (clusterOf 0) (privLoc g.part e.1) 64 true = false ∧
      g.parked = false ∧ 0 ∈ g.cores ∧ g.best = some e ∧ s.recordOk (privLoc g.part e.1) g.gid = true) ∧
    (∃ (s : State) (t : Strand) (w : Wait), s.strand 0 0 = some t ∧ t.wait = some w ∧ w.kind.suspends = true ∧ t.granted = none ∧
      (s.core 0).spinBudget.toNat ≠ 0 ∧ w.since + (s.core 0).spinBudget.toNat ≤ s.now ∧ (s.core 0).frozen = false ∧
      s.faulting (.strand 0 0 t.sid) = false ∧ s.waitEnds 0 w.kind = false ∧ s.recordHeld 0 t = false ∧ s.hasEntries 0 0 = false ∧ t.busy = [] ∧ t.seqFail = none ∧ t.halfSlot = none ∧ (s.core 0).exchanging = false ∧
      s.partOfCore 0 = some 0) ∧
    (∃ (s : State) (g : Group) (w : WaitKind), s.groups.find? (fun e => decide (e.2.part = 0) &&
        e.2.registered.any (fun r => decide (r.1 = 0x9000000000001000))) = some (0, g) ∧
      g.registered.find? (fun r => decide (r.1 = 0x9000000000001000)) = some (0x9000000000001000, 0, w) ∧
      (∀ d ∈ g.doms, d.st ≠ .parked) ∧ s.linesHeld (clusterOf 0) (privLoc 0 0x9000000000001000) 64 true = false ∧
      s.poolHeld 0 g.gid = false ∧ s.waitOver 0 w = true) ∧
    (∃ s : State, (s.core 0).frozen = false ∧ s.defersPreempt 0 = true ∧ (s.core 0).preempting = false) ∧
    (∃ s : State, (s.core 0).frozen = false ∧ s.defersPreempt 0 = false ∧ (s.cluster (clusterOf 0)).lease.grantedTo (slotInCluster 0) = true) ∧
    (∃ s : State, (s.core 0).frozen = true ∧ s.heldCore 0 = false) ∧
    (∃ (s : State) (t : Strand), s.strand 0 0 = some t ∧ s.firmwareRuns (coreDie 0) = true) ∧
    (∃ s : State, isFinial 1280 = true ∧ (s.core 1280).halted = true) :=
  ⟨⟨waiting, _, _, rfl, rfl, rfl, rfl, rfl, by decide, rfl, rfl⟩,
    ⟨{ sits { loadedStrand with wait := some ⟨.evwait 1 true, 0, 0, 0⟩ } { Core.init with spinBudget := 100#64 } with now := 100 }, _, _,
      rfl, rfl, rfl, rfl, by decide, by decide, rfl, rfl, rfl, by decide +kernel, rfl, rfl, rfl, rfl, rfl, rfl⟩,
    ⟨{ manned with groups := [(0, { crew with registered := [(0x9000000000001000, 0, .mtxlock 3 true)] })] }, _, _, rfl, rfl,
      by decide, rfl, rfl, rfl⟩,
    ⟨{ (leased held [command]) with cores := [(0, seat loadedStrand)] }, rfl, rfl, rfl⟩,
    ⟨{ (leased held []) with cores := [(0, seat loadedStrand)] }, rfl, by decide +kernel, rfl⟩,
    ⟨sits loadedStrand { Core.init with frozen := true }, rfl, rfl⟩, ⟨sits loadedStrand Core.init, _, rfl, rfl⟩,
    ⟨{ land with cores := [(1280, { Core.init with halted := true })] }, rfl, rfl⟩⟩

/-- `s` with an outstanding access. -/
abbrev owing (k : AccessKind) (ph : AccessPhase) (c : List (Nat × Core)) : State :=
  { manned with accesses := [(0, { outstanding k with phase := ph })], cores := c }

/-- The same, accesses: loads and stores that can be performed, with their strand in its slot and gone; refused ones; a refusal
on its way. -/
theorem hyp_access_events :
    (∃ (s : State) (a : Access), kfind 0 s.accesses = some a ∧ s.gateStops a = false ∧ s.mayPerform 0 a = true ∧
      a.kind.posted = false ∧ a.kind ≠ .prefetch ∧ ((s.performAt a).2.2.dropAccess 0).slotOf a.src = none) ∧
    (∀ k ∈ [AccessKind.load 8 false 3, .shpLoad 2], ∃ (s : State) (a : Access) (u : Strand), kfind 0 s.accesses = some a ∧
      s.gateStops a = false ∧ s.mayPerform 0 a = true ∧ a.kind.posted = false ∧ a.kind ≠ .prefetch ∧
      ((s.performAt a).2.2.dropAccess 0).slotOf a.src = some (0, 0) ∧ (a.kind = .load 8 false 3 → a.kind.dest < 56) ∧
      ((s.performAt a).2.2.dropAccess 0).strand 0 0 = some u ∧ a.kind = k) ∧
    (∃ (s : State) (a : Access), kfind 0 s.accesses = some a ∧ s.gateStops a = false ∧ s.mayPerform 0 a = true ∧
      a.kind = .store 8 7#128) ∧
    (∃ (s : State) (a : Access), kfind 0 s.accesses = some a ∧ s.gateStops a = true ∧ s.oldestOfPage 0 a = true ∧
      a.kind = .store 8 7#128) ∧
    (∀ k ∈ [AccessKind.load 8 false 3, .store 8 7#128], ∃ (s : State) (a : Access), kfind 0 s.accesses = some a ∧
      s.clusterRuns (clusterOf a.core) = true ∧ a.phase = .refused 0x10 ∧ a.kind = k ∧ a.kind ≠ .prefetch) ∧
    (∃ (s : State) (r : Refusal150), kfind 0 s.refusals = some r ∧ s.clusterRuns (clusterOf r.src.core) = true) :=
  ⟨⟨owing (.load 8 false 3) .ready [], _, rfl, rfl, rfl, rfl, by decide, rfl⟩,
    fun k hk => by
      simp only [List.mem_cons, List.not_mem_nil, or_false] at hk
      rcases hk with rfl | rfl
      · exact ⟨owing (.load 8 false 3) .ready [(0, seat loadedStrand)], _, _, rfl, rfl, rfl, rfl, by decide, rfl, by decide, rfl, rfl⟩
      · exact ⟨owing (.shpLoad 2) .ready [(0, seat loadedStrand)], _, _, rfl, rfl, rfl, rfl, by decide, rfl, nofun, rfl, rfl⟩,
    ⟨owing (.store 8 7#128) .ready [], _, rfl, rfl, rfl, rfl⟩,
    ⟨{ owing (.store 8 7#128) .ready [] with
        accesses := [(0, { outstanding (.store 8 7#128) with phys := 0x1000, phase := .ready })]
        regions := [(0, { Region.init with st := .assigned, part := some 0, rail := true, clk := true, gate := false })] },
      _, rfl, rfl, rfl, rfl⟩,
    fun k hk => by
      simp only [List.mem_cons, List.not_mem_nil, or_false] at hk
      rcases hk with rfl | rfl
      · exact ⟨owing (.load 8 false 3) (.refused 0x10) [], _, rfl, rfl, rfl, rfl, by decide⟩
      · exact ⟨owing (.store 8 7#128) (.refused 0x10) [], _, rfl, rfl, rfl, rfl, by decide⟩,
    ⟨{ land with refusals := [(0, ⟨sender0, 0x10, 0#64⟩)] }, _, rfl, rfl⟩⟩

/-- A message for entry 3 of core 1 under way, with that core as given. -/
abbrev posted (c : Core) (rg : List (Nat × Region)) (dst : Nat) : State :=
  { land with regions := rg, cores := [(dst, c)], flights := [(0, ⟨sender0, dst, .message 3 7#128, 0#64⟩)] }

/-- The same, ports: a push that was blocked, of a part and of a whole slot; a pop; a message refused, for a closed entry, placed,
kept; the oldest message of an inbox. -/
theorem hyp_port_events :
    (∀ b ∈ [[], List.replicate 16 0#8], ∃ (s n : State) (t : Strand), s.strand 0 0 = some t ∧
      t.pendPush = some ⟨0, w64 5, b, 1, none⟩ ∧ ((s.core 0).frozen = false ∨ (none : Option Nat) ≠ none) ∧ s.clusterRuns (clusterOf 0) = true ∧
      (if b.isEmpty then s.pushReleased 0 0 0 s.nextAccess (w64 5) = some n else s.putSlot 0 0 0 s.nextAccess b = some n)) ∧
    (∃ (s n : State) (t : Strand) (v : TV), s.strand 0 0 = some t ∧ t.wait = some ⟨.pop 0, 0, 0, 0⟩ ∧ (s.core 0).frozen = false ∧
      s.clusterRuns (clusterOf 0) = true ∧ s.queueHeld 0 0 [0] = false ∧ s.popAt 0 0 0 = some (v, n)) ∧
    (∃ (s : State) (f : Flight), kfind 0 s.flights = some f ∧ f.kind = .message 3 7#128 ∧ s.firstOfPair 0 f = true ∧ s.standsStill f = false ∧
      s.messageRefusal f.src.core f.dst = some 0x10) ∧
    (∃ (s : State) (f : Flight), kfind 0 s.flights = some f ∧ f.kind = .message 3 7#128 ∧ s.firstOfPair 0 f = true ∧ s.standsStill f = false ∧
      s.messageRefusal f.src.core f.dst = none ∧ (s.core f.dst).frozen = true ∧ s.gutterRoom f.dst 16 = true ∧
      s.frontOfPort f.dst s.nextAccess = true) ∧
    (∃ (s : State) (f : Flight), kfind 0 s.flights = some f ∧ f.kind = .message 3 7#128 ∧ s.firstOfPair 0 f = true ∧ s.standsStill f = false ∧
      s.messageRefusal f.src.core f.dst = none ∧ (s.core f.dst).frozen = false ∧ s.chan f.dst 3 = none) ∧
    (∃ (s : State) (f : Flight) (c : Chan), kfind 0 s.flights = some f ∧ f.kind = .message 3 7#128 ∧ s.firstOfPair 0 f = true ∧ s.standsStill f = false ∧
      s.messageRefusal f.src.core f.dst = none ∧ (s.core f.dst).frozen = false ∧ s.chan f.dst 3 = some c ∧
      s.portTurn f.dst 3 s.nextAccess = true ∧ c.free ≠ 0) ∧
    (∃ (s : State) (f : Flight) (c : Chan), kfind 0 s.flights = some f ∧ f.kind = .message 3 7#128 ∧ s.firstOfPair 0 f = true ∧ s.standsStill f = false ∧
      s.messageRefusal f.src.core f.dst = none ∧ (s.core f.dst).frozen = false ∧ s.chan f.dst 3 = some c ∧ c.free = 0 ∧
      (s.core f.dst).inbox.length < 16) ∧
    (∃ (s : State) (m : Message) (r : List Message) (c : Chan), (s.core 0).frozen = false ∧
      s.clusterRuns (clusterOf 0) = true ∧ (s.core 0).inbox = m :: r ∧ m.engine = none ∧ s.portTurn 0 m.entry m.arrival = true ∧ s.chan 0 m.entry = some c ∧ c.free ≠ 0) := by
  refine ⟨fun b hb => ?_,
    ⟨sits { loadedStrand with q := [(0, bound true)], wait := some ⟨.pop 0, 0, 0, 0⟩ } { core0 with chans := [(3, entry [0])] }, _, _, _,
      rfl, rfl, rfl, rfl, rfl, rfl⟩,
    ⟨posted Core.init [] 64, _, rfl, rfl, rfl, rfl, rfl⟩,
    ⟨posted { Core.init with frozen := true } land.regions 1, _, rfl, rfl, rfl, rfl, rfl, rfl, by decide, rfl⟩,
    ⟨posted Core.init land.regions 1, _, rfl, rfl, rfl, rfl, rfl, rfl, rfl⟩,
    ⟨posted { Core.init with chans := [(3, entry [0])] } land.regions 1, _, _, rfl, rfl, rfl, rfl, rfl, rfl, rfl, rfl, by decide⟩,
    ⟨posted { Core.init with chans := [(3, entry [0, 1])] } land.regions 1, _, _, rfl, rfl, rfl, rfl, rfl, rfl, rfl, rfl, by decide⟩,
    ⟨sits loadedStrand { core0 with chans := [(3, entry [])], inbox := [⟨3, 7#128, sender0, 0#64, none, 0⟩] }, _, _, _, rfl, rfl,
      rfl, rfl, by decide, rfl, by decide⟩⟩
  simp only [List.mem_cons, List.not_mem_nil, or_false] at hb
  rcases hb with rfl | rfl
  · exact ⟨sits { loadedStrand with q := [(0, bound false)], pendPush := some ⟨0, w64 5, [], 1, none⟩ }
      { core0 with chans := [(3, entry [])] }, _, _, rfl, rfl, .inl rfl, rfl, rfl⟩
  · exact ⟨sits { loadedStrand with q := [(0, bound false)], pendPush := some ⟨0, w64 5, List.replicate 16 0#8, 1, none⟩ }
      { core0 with chans := [(3, entry [])] }, _, _, rfl, rfl, .inl rfl, rfl, rfl⟩

/-- A sequencer entry of cluster 0's core 0. -/
abbrev entry0 : VEntry := { v2 .vcopy 1#4 1#4 with sa := flat capB 0x05 32 1 false, sd := flat capB 0x05 32 1 false, slot := 0 }

abbrev queued (e : VEntry) (f : List (Waiter × (Nat × Nat))) : State :=
  { manned with cores := [(0, { core0 with seq := [e], slots := [(0, shaped)] })], engineFails := f }

/-- DatapathEventsRunCommands, sequencer: a pass that begins, one that goes on, later passes whose checks pass and fail, an entry
that is done, a failure. -/
theorem hyp_sequencer_events :
    (∀ b : Bool, ∃ (s : State) (e : VEntry), s.clusterRuns (clusterOf 0) = true ∧ (s.core 0).frozen = false ∧
      (s.core 0).runningEntry = some e ∧ s.entryBad 0 e = none ∧ e.pass < e.passes ∧ e.pass = 0 ∧ e.started = b ∧ e.retry ≤ s.now ∧
      s.olderDone 0 e = true) ∧
    (∀ v ∈ [2, 15], ∃ (s : State) (e : VEntry) (t : Strand), s.clusterRuns (clusterOf 0) = true ∧ (s.core 0).frozen = false ∧
      (s.core 0).runningEntry = some e ∧ s.entryBad 0 e = none ∧ e.pass < e.passes ∧ e.pass ≠ 0 ∧ e.started = false ∧
      s.strand 0 e.slot = some t ∧ (s.entryFail 0 t e).isSome = decide (v = 15)) ∧
    (∃ (s : State) (e : VEntry) (r : List VEntry) (t : Strand), s.clusterRuns (clusterOf 0) = true ∧ (s.core 0).frozen = false ∧
      (s.core 0).seq = e :: r ∧ e.held = false ∧ e.passes ≤ e.pass ∧ s.entryBad 0 e = none ∧ e.gd < 56 ∧
      s.strand 0 e.slot = some t) ∧
    (∃ (s : State) (e : VEntry) (t : Strand), s.clusterRuns (clusterOf 0) = true ∧ (s.core 0).frozen = false ∧
      (s.core 0).runningEntry = some e ∧ s.entryBad 0 e = some (0x10, 7) ∧ s.headFirst 0 e = false ∧ s.strand 0 e.slot = some t) := by
  refine ⟨fun b => ?_, fun v hv => ?_,
    ⟨queued { entry0 with pass := 1, started := true } [], _, _, _, rfl, rfl, rfl, rfl, by decide, rfl, by decide, rfl⟩,
    ⟨queued entry0 [(.sequencer 0, (0x10, 7))], _, _, rfl, rfl, rfl, rfl, rfl, rfl⟩⟩
  · cases b
    · exact ⟨queued entry0 [], _, rfl, rfl, rfl, rfl, by decide, rfl, rfl, by decide, rfl⟩
    · exact ⟨queued { entry0 with started := true } [], _, rfl, rfl, rfl, rfl, by decide, rfl, rfl, by decide, rfl⟩
  · simp only [List.mem_cons, List.not_mem_nil, or_false] at hv
    rcases hv with rfl | rfl
    · exact ⟨queued { entry0 with pass := 1, passes := 2 } [], _, _, rfl, rfl, rfl, rfl, by decide, by decide, rfl, rfl,
        by decide +kernel⟩
    · exact ⟨queued { entry0 with pass := 1, passes := 2, sa := Shape.zero } [], _, _, rfl, rfl, rfl, rfl, by decide, by decide, rfl,
        rfl, by decide +kernel⟩

/-- A capability over 256 bytes of the window of a partition. -/
abbrev capW : TV := mkCap 0x9000000000002000 256 0 0 0x5F

/-- A tile command for bf16 operands, and a drain of the rows to slot 0. -/
abbrev tile1 : TileCmd :=
  { command with kind := .mtile .bfbf false, src := sender0, sa := flat capW 0x12 32 128 false, sb := flat capW 0x12 32 128 false, k := 32 }

abbrev drain1 : TileCmd := { command with kind := .drain, src := sender0, map1 := 0x400000#64, epi := BitVec.ofNat 512 0x1000 }

/-- Rows with locations were found. -/
def isAll : Located → Bool
  | .all _ => true
  | _ => false

theorem all_of_isAll {l : Located} (h : isAll l = true) : ∃ locs, l = .all locs := by
  cases l <;> first | exact ⟨_, rfl⟩ | cases h

/-- The engine of cluster 0 with commands, in a partition with a window. -/
abbrev working (q : List TileCmd) (f : List (Waiter × (Nat × Nat))) : State :=
  { leased held q with partitions := [(0, ⟨[0], 2 ^ 30, some (0, 1), none, none, none, none, 0⟩)], engineFails := f }

set_option maxRecDepth 20000 in
/-- The same, the anvil: the next holder; a budget of commands and one of cycles that have run out; a holder whose commands are
done; a block to fetch, one to accumulate, a command that is complete, a clear, a failure; a drain that starts, and its rows. -/
theorem hyp_anvil_events :
    (∃ (s : State) (n : Nat), s.clusterRuns 0 = true ∧ (s.cluster 0).lease.st = .requested ∧ (s.cluster 0).cmds = [] ∧
      (s.cluster 0).lease.nextSlot = some n) ∧
    (∀ b ∈ [(0, 5), (5, 0)], ∃ s : State, s.clusterRuns 0 = true ∧ (s.cluster 0).lease.st = .granted ∧
      (s.cluster 0).lease.ncmd = b.1 ∧ (s.cluster 0).lease.ncyc = b.2) ∧
    (∀ st ∈ [LeaseState.expiring, .draining], ∃ s : State, s.clusterRuns 0 = true ∧ (s.cluster 0).lease.st = st ∧
      (s.cluster 0).cmds = []) ∧
    (∃ s locs, State.clusterRuns s 0 = true ∧ (s.cluster 0).cmds = [tile1] ∧ s.cmdBad tile1 = none ∧
      tile1.fetched < tile1.k / 32 ∧ tile1.fetched < tile1.done + 2 ∧ tile1.retry ≤ s.now ∧
      s.strandDone tile1.src tile1.id = true ∧ s.fencedBefore tile1.src tile1.id = false ∧ s.awaits (.tile tile1.id) = false ∧
      s.engineRanges (.tile tile1.id) 0 tile1.src.core false [] (tile1.blockRanges tile1.fetched) [] = .all locs) ∧
    (∃ (s : State) (m : TileCmd) (blk : TileBlock) (r : List TileBlock), s.clusterRuns 0 = true ∧ (s.cluster 0).cmds = [m] ∧
      m.kind = .mtile .bfbf false ∧ s.cmdBad m = none ∧ m.pinned = blk :: r) ∧
    (∃ (s : State) (m : TileCmd), s.clusterRuns 0 = true ∧ (s.cluster 0).cmds = [m] ∧ m.kind = .mtile .bfbf false ∧
      s.cmdBad m = none ∧ m.done = m.k / 32) ∧
    (∃ (s : State) (m : TileCmd), s.clusterRuns 0 = true ∧ (s.cluster 0).cmds = [m] ∧ m.kind = .clear ∧ s.cmdBad m = none) ∧
    (∃ (s : State) (m : TileCmd), s.clusterRuns 0 = true ∧ (s.cluster 0).cmds = [m] ∧ s.cmdBad m = some (0x10, 7) ∧
      ∀ x ∈ (s.cluster 0).tileFail, x.2 ≠ (0x10, 7)) ∧
    (∃ (s : State) (g : Group), s.clusterRuns 0 = true ∧ (0, (0x10, 7)) ∈ (s.cluster 0).tileFail ∧
      s.groupOfCluster 0 = some g ∧ (s.kernel g.kernel).map (·.st) = some .running) ∧
    (∃ s : State, ∀ k ∈ coresOfCluster 0, ∀ e ∈ (s.core k).slots, ∀ n w, e.2.wait.map (·.kind) ≠ some (.mflags n w)) ∧
    (∃ (s : State) (m : TileCmd) (locs : List (Nat × List (Nat × Nat))), s.clusterRuns 0 = true ∧ (s.cluster 0).cmds = [m] ∧
      m.kind = .drain ∧ s.cmdBad m = none ∧ m.started = false ∧ m.retry ≤ s.now ∧ s.strandDone m.src m.id = true ∧
      s.awaits (.tile m.id) = false ∧ epiField m.epi 0 4 1 ≠ 1 ∧ s.engineRanges (.tile m.id) 0 m.src.core true [] (memRanges m) [] = .all locs) ∧
    (∀ row ∈ [0, 127], ∃ (s : State) (m : TileCmd), s.clusterRuns 0 = true ∧ (s.cluster 0).cmds = [m] ∧ m.kind = .drain ∧
      s.cmdBad m = none ∧ m.started = true ∧ m.row = row ∧ mapDst m.map0 (m.row / 8) = 0 ∧
      s.belowBound (spadBase (coreOfSlot 0 0) + mapBase m.map1 + rowsBefore m.map0 0 m.row * mapPitch m.map1) = false) := by
  refine ⟨⟨leased { Lease.init with st := .requested, reqs := 4#8 } [], _, rfl, rfl, rfl, rfl⟩,
    fun b _ => ⟨leased { held with ncmd := b.1, ncyc := b.2 } [], rfl, rfl, rfl, rfl⟩,
    fun st _ => ⟨leased { held with st := st } [], rfl, rfl, rfl⟩, ?_,
    ⟨leased held [{ tile1 with pinned := [⟨[], [], [], [], []⟩], fetched := 1 }], _, _, _, rfl, rfl, rfl, rfl, rfl⟩,
    ⟨leased held [{ tile1 with done := 1, fetched := 1 }], _, rfl, rfl, rfl, rfl, rfl⟩,
    ⟨leased held [{ command with buf := 3 }], _, rfl, rfl, rfl, rfl⟩,
    ⟨working [tile1] [(.tile 0, (0x10, 7))], _, rfl, rfl, rfl, fun _ h => by cases h⟩,
    ⟨{ manned with clusters := [(0, { Cluster.init with holder := some 0, tileFail := [(0, (0x10, 7))] })] }, _, rfl, by decide, rfl, rfl⟩,
    ⟨land, fun _ _ _ h => by cases h⟩,
    ⟨working [drain1] [], _, _, rfl, rfl, rfl, rfl, rfl, by decide, rfl, rfl, by decide, rfl⟩, fun row hr => ?_⟩
  · obtain ⟨locs, h⟩ := all_of_isAll (l := (working [tile1] []).engineRanges (.tile tile1.id) 0 tile1.src.core false [] (tile1.blockRanges tile1.fetched) [])
      (by decide +kernel)
    exact ⟨working [tile1] [], locs, rfl, rfl, rfl, by decide, by decide, by decide, rfl, rfl, rfl, h⟩
  · simp only [List.mem_cons, List.not_mem_nil, or_false] at hr
    rcases hr with rfl | rfl
    · exact ⟨working [{ drain1 with started := true, row := 0 }] [], _, rfl, rfl, rfl, rfl, rfl, rfl, rfl, by decide +kernel⟩
    · exact ⟨working [{ drain1 with started := true, row := 127 }] [], _, rfl, rfl, rfl, rfl, rfl, rfl, rfl, by decide +kernel⟩

/-- A copy command of form `cop` over 16 bytes at `capS` from offset 0x3000. -/
abbrev copy1 (cop : Nat) : CopyCmd :=
  { id := 0, src := sender0, ids := (0, 1), remote := capS, word1 := BitVec.ofNat 128 (cop + 0x3000 * 2 ^ 16 + 16 * 2 ^ 36), seq := 0,
    started := false, rowsAt := [], row := 0, sent := 0, done := 0, ff := 0#5, retry := 0, status := none, seg := false, fabric := none }

abbrev copying (c : CopyCmd) : State :=
  { manned with clusters := [(0, { Cluster.init with copies := [c] })], cores := [(0, seat loadedStrand)] }

set_option maxRecDepth 20000 in
/-- CopyAndCoherenceEventsMoveData, copies: each form with fields that are wrong, about to start, and started; a row moved; a
segment slot placed; a status dropped, and one posted. -/
theorem hyp_copy_events :
    (∀ n ∈ [0, 1, 2, 3, 4, 5, 6], (∃ (s : State) (c : CopyCmd), (s.cluster 0).copies = [c] ∧ s.clusterRuns 0 = true ∧
        c.status = none ∧ c.retry ≤ s.now ∧ s.strandDone c.src c.id = true ∧ s.awaits (.copy c.id) = false ∧ s.copyBad c = none ∧ c.cop = n ∧ c.started = false ∧
        c.checkFail = some (0x14, 0)) ∧
      ∀ b : Bool, ∃ (s : State) (c : CopyCmd), (s.cluster 0).copies = [c] ∧ s.clusterRuns 0 = true ∧ c.status = none ∧
        c.retry ≤ s.now ∧ s.strandDone c.src c.id = true ∧ s.awaits (.copy c.id) = false ∧ s.copyBad c = none ∧ c.cop = n ∧ c.started = b ∧
        c.checkFail = none ∧ capAddr c.remote / 2 ^ 60 = 8) ∧
    (∃ (s : State) (c : CopyCmd) (la : Nat) (locs : List (Nat × Nat)), (s.cluster 0).copies = [c] ∧ s.clusterRuns 0 = true ∧
      c.started = true ∧ s.belowBound la = false ∧ la = spadBase c.src.core + (c.localRow c.row % 2 ^ 19).toNat ∧
      2 ^ 63 ≤ (c.remoteRow c.row % 2 ^ 64).toNat ∧ kfind c.row c.rowsAt = none ∧
      s.copyRow 0 c [] (c.pieces c.row) [] = .all [(0, locs)] ∧ (∀ p ∈ locs, isPartner p.1 = false) ∧
      c.reduces = false) ∧
    (∃ (s n : State) (c : CopyCmd) (f : Nat × Nat), (s.cluster 0).copies = [c] ∧ s.clusterRuns 0 = true ∧ c.status = some f ∧
      c.seg = true ∧ s.placeSegment 0 c = some n) ∧
    (∀ q : Bool, ∃ (s : State) (c : CopyCmd), (s.cluster 0).copies = [c] ∧ s.clusterRuns 0 = true ∧ c.status = some (0, 0) ∧
      c.seg = false ∧ (s.core c.src.core).frozen = false ∧ (s.core c.src.core).gutter.any (·.isStatus) = false ∧ c.quiet = q ∧
      (kget [] (slotInCluster c.src.core) (s.cluster 0).status).length < 16) := by
  refine ⟨fun n hn => ?_,
    ⟨copying { copy1 0 with started := true }, _, _, _, rfl, rfl, rfl, by decide, rfl, by decide, rfl, rfl, by decide, rfl⟩,
    ⟨copying { copy1 5 with started := true, status := some (0, 0), seg := true }, _, _, _, rfl, rfl, rfl, rfl, rfl⟩, fun q => ?_⟩
  · simp only [List.mem_cons, List.not_mem_nil, or_false] at hn
    refine ⟨⟨copying { copy1 n with word1 := BitVec.ofNat 128 (n + 2 ^ 35) }, _, rfl, rfl, rfl, Nat.zero_le _, rfl, rfl, rfl, ?_, rfl, ?_⟩, fun b =>
      ⟨copying { copy1 n with started := b }, _, rfl, rfl, rfl, Nat.zero_le _, rfl, rfl, rfl, ?_, rfl, ?_,
        (by decide : capAddr capS / 2 ^ 60 = 8)⟩⟩
    · rcases hn with rfl | rfl | rfl | rfl | rfl | rfl | rfl <;> rfl
    · rcases hn with rfl | rfl | rfl | rfl | rfl | rfl | rfl <;> rfl
    · rcases hn with rfl | rfl | rfl | rfl | rfl | rfl | rfl <;> cases b <;> rfl
    · rcases hn with rfl | rfl | rfl | rfl | rfl | rfl | rfl <;> cases b <;> decide +kernel
  · cases q
    · exact ⟨copying { copy1 0 with started := true, status := some (0, 0) }, _, rfl, rfl, rfl, rfl, rfl, rfl, rfl, by decide⟩
    · exact ⟨copying { copy1 0x80 with started := true, status := some (0, 0) }, _, rfl, rfl, rfl, rfl, rfl, rfl, rfl, by decide⟩

/-- The same, coherence: a sector in a cluster's cache and in the host's, an answer awaited, an engine's sector, a strand that
waits on a location, and one on a window. -/
theorem hyp_coherence_events :
    (∀ a ∈ [3, hostCache], ∃ s : State, s.sectorIn 5 a ≠ .i ∧ s.snoopHeld a 5 = false ∧ s.flash.hfen = false) ∧
    (∃ (s : State) (own : Bool), kfind 5 s.snoops = some own) ∧
    (∃ s : State, 5 ∈ (s.cluster 0).owned ∧ 5 ∉ rowSectors (s.cluster 0).rowsLeft) ∧
    (∃ (s : State) (t : Strand) (w : Wait), s.strand 0 0 = some t ∧ t.wait = some w ∧ w.kind = .waitv 0x2000 8 0 true) ∧
    (∃ (s : State) (t : Strand) (w : Wait), s.strand 0 0 = some t ∧ t.wait = some w ∧ w.kind = .fenceWin ∧
      s.fabricPending 0 0 = false) := by
  refine ⟨fun a ha => ?_, ⟨{ land with snoops := [(5, true)] }, _, rfl⟩, ⟨unit { Cluster.init with owned := [5] }, by decide, by decide⟩,
    ⟨sits { loadedStrand with wait := some ⟨.waitv 0x2000 8 0 true, 0, 0, 0⟩ } Core.init, _, _, rfl, rfl, rfl⟩,
    ⟨sits { loadedStrand with wait := some ⟨.fenceWin, 0, 0, 0⟩, fabWindow := none } Core.init, _, _, rfl, rfl, rfl, rfl⟩⟩
  simp only [List.mem_cons, List.not_mem_nil, or_false] at ha
  rcases ha with rfl | rfl
  · exact ⟨{ land with dir := [(dirKey 5 3, .m)] }, by decide, rfl, rfl⟩
  · exact ⟨{ land with dir := [(dirKey 5 hostCache, .m)] }, by decide, rfl, rfl⟩

/-- Partition 0 with region 0. -/
abbrev ward (pend : Option PendingAction) (held : Option Nat) : Partition := ⟨[0], 2 ^ 30, some (0, 1), none, pend, held, none, 0⟩

/-- A group of core 0 alone in partition 0, in one domain, with the core as given. -/
abbrev gang (d : Domain) (c : Core) (pend : Option PendingAction) : State :=
  { manned with groups := [(0, { crew with cores := [0], doms := [d] })], cores := [(0, c)], partitions := [(0, ward pend none)] }

/-- Core 0 with a strand that waits. -/
abbrev waits0 (w : WaitKind) : Core := { Core.init with slots := [(0, { loadedStrand with wait := some ⟨w, 0, 0, 0⟩ })], xmon := 3#64 }

/-- A phase of cores 0 and 1 at offset 1: core 1 sends two beats, core 0 takes one; beats in flight as given. -/
abbrev swaps (beats : List Beat) : State :=
  { manned with groups := [(0, { crew with cores := [0, 1], doms := [⟨2, 0, .exchanging, 0#64, 0, 1, beats, none, []⟩] })],
                cores := [(0, { Core.init with phase := some phase, transfers := [⟨false, 0x2000, 1, 1, 1, 0⟩] }),
                          (1, { Core.init with phase := some phase, transfers := [⟨true, 0x2000, 2, 0, 0, 0⟩] })] }

set_option maxRecDepth 20000 in
/-- GroupEventsAdvanceDomains, domains: a superstep at level 1 and 2, and with an action pending; a phase to close, to open, to
move; a beat that arrives alone, two that arrive together, and one sent. -/
theorem hyp_domain_events :
    (∀ lv ∈ [1, 2], ∃ (s : State) (g : Group), s.groupToSync 0 lv 0 = some g ∧ s.actionPending 0 = false) ∧
    (∃ (s : State) (g h : Group), s.groupToSync 0 2 0 = some g ∧ s.actionPending 0 = true ∧ s.group 0 g.gid = some h) ∧
    (∃ (s : State) (key : Nat) (g : Group) (d : Domain), (key, g) ∈ s.groups ∧ g.part = 0 ∧ g.parked = false ∧
      g.dom 2 0 = some d ∧ s.syncReady g d = true ∧ s.domWaits g 2 0 = true) ∧
    (∃ (s : State) (g : Group) (d : Domain), s.groupOfDom 0 2 0 = some (g, d) ∧ d.st = .exchanging ∧
      (∀ k ∈ s.domainCores g 2 0, k ∈ d.done) ∧ s.group 0 g.gid = some g) ∧
    (∃ (s : State) (g : Group) (d : Domain), s.groupOfDom 0 2 0 = some (g, d) ∧ d.st = .computing ∧ s.domainCores g 2 0 ≠ [] ∧
      ∀ k ∈ s.domainCores g 2 0, ∃ e ∈ (s.core k).slots, e.2.waitsFor (.xstart 2) = true) ∧
    (∃ (s : State) (g : Group) (d : Domain), s.groupOfDom 0 2 0 = some (g, d) ∧ d.st = .exchanging ∧ d.t0 + d.offset ≤ s.now ∧
      s.group 0 g.gid = some g) ∧
    (∀ n ∈ [1, 2], ∃ (s : State) (g : Group) (d : Domain) (cores : List Nat) (t u : Transfer),
      s.groupOfDom 0 2 0 = some (g, d) ∧ d.st = .exchanging ∧ d.t0 + d.offset ≤ s.now ∧ cores = s.domainCores g 2 0 ∧
      cores.Nodup ∧ (∀ j ∈ cores, j < 1280) ∧ (∀ j ∈ cores, ∀ x ∈ (s.core j).transfers, x.off + 32 * x.n ≤ 2 ^ 19) ∧
      1 ∈ cores ∧ (s.core 1).beatAt 2 true d.offset = some u ∧
      (∀ b ∈ d.beats ++ s.sends 2 cores d.offset, b.bad = false ∧ s.beatPasses b (hops b.src b.dst) = true) ∧
      (s.linksUsed (d.t0 + d.offset)).Nodup ∧ s.stray = [] ∧ 0 ∈ cores ∧ (s.core 0).beatAt 2 false d.offset = some t ∧
      (arrivalsAt (d.beats ++ s.sends 2 cores d.offset) d.offset 0).length = n) := by
  refine ⟨fun lv hl => ?_,
    ⟨gang ⟨2, 0, .computing, 0#64, 0, 0, [], none, []⟩ (waits0 (.sync 2)) (some (.switch 0 2)), _, _, rfl, rfl, rfl⟩,
    ⟨gang ⟨2, 0, .computing, 0#64, 0, 0, [], none, []⟩ (waits0 (.sync 2)) none, 0, _, _, List.mem_cons_self, rfl, rfl, rfl, rfl, rfl⟩,
    ⟨gang ⟨2, 0, .exchanging, 0#64, 0, 0, [], none, [0]⟩ Core.init none, _, _, rfl, rfl, by decide, rfl⟩,
    ⟨gang ⟨2, 0, .computing, 0#64, 0, 0, [], none, []⟩ (waits0 (.xstart 2)) none, _, _, rfl, rfl, by decide, ?_⟩,
    ⟨gang ⟨2, 0, .exchanging, 0#64, 0, 0, [], none, []⟩ { Core.init with phase := some phase } none, _, _, rfl, rfl, by decide, rfl⟩,
    fun n hn => ?_⟩
  · simp only [List.mem_cons, List.not_mem_nil, or_false] at hl
    rcases hl with rfl | rfl
    · exact ⟨gang ⟨1, 0, .computing, 0#64, 0, 0, [], none, []⟩ (waits0 (.sync 1)) none, _, rfl, rfl⟩
    · exact ⟨gang ⟨2, 0, .computing, 0#64, 0, 0, [], none, []⟩ (waits0 (.sync 2)) none, _, rfl, rfl⟩
  · intro k hk
    have h0 : k = 0 := List.mem_singleton.mp hk
    subst h0
    exact ⟨_, List.mem_cons_self, rfl⟩
  · simp only [List.mem_cons, List.not_mem_nil, or_false] at hn
    rcases hn with rfl | rfl
    · exact ⟨{ swaps [⟨1, 0, 0, 7#256, false⟩] with now := 1 }, _, _, [0, 1], _, _, rfl, rfl, by decide, by decide +kernel, by decide, by decide,
        by decide +kernel, by decide, rfl, by decide +kernel, by decide +kernel, rfl, by decide, rfl, by decide +kernel⟩
    · exact ⟨{ swaps [⟨1, 0, 0, 7#256, false⟩, ⟨16, 0, 0, 9#256, false⟩] with now := 1 }, _, _, [0, 1], _, _, rfl, rfl, by decide, by decide +kernel,
        by decide, by decide, by decide +kernel, by decide, rfl, by decide +kernel, by decide +kernel, rfl, by decide, rfl, by decide +kernel⟩

/-- A stage of cluster `cl` with 64 bytes of image in the window. -/
abbrev stage0 (cl : List Nat) (g : Nat) : Stage :=
  ⟨BitVec.ofNat 512 (0x9000000000003000 + 64 * 2 ^ 64 + 2 * 2 ^ 112), cl, some g⟩

/-- Cluster 0 about to receive the image of its stage. -/
abbrev arriving (r : Option (Nat × Nat × Nat)) : State :=
  { manned with clusters := [(0, { Cluster.init with loading := true, holder := some 0, resident := r })],
                kernels := [(5, { job with stages := [stage0 [0] 0] })], partitions := [(0, ward none none)],
                contexts := [(ctxKey 0 1, ⟨0, 1, 0, .resident, TV.zero, none, [], 0, 4096, (0, 0)⟩)] }

/-- A kernel of two stages that may be rebalanced, the input of the second full. -/
abbrev shifting : State :=
  { manned with kernels := [(5, { job with desc := 8#512, stages := [stage0 [0, 1] 0, stage0 [2] 0] })],
                partitions := [(0, ward none (some 0))], groups := [(0, { crew with doms := [⟨2, 0, .boundary, 0#64, 0, 0, [], none, []⟩] })],
                cores := [(coreOfSlot 2 0, { Core.init with chans := [(0, entry [0, 1])] })] }

set_option maxRecDepth 20000 in
/-- The same, images and boundaries: an image resident and not; a pending switch, a held partition with a move and without, one
held too long. -/
theorem hyp_boundary_events :
    (∃ (s : State) (g : Group) (k : Kernel) (st : Stage), (s.cluster 0).loading = true ∧ s.groupOfCluster 0 = some g ∧
      s.kernel g.kernel = some k ∧ k.stages[g.stage]? = some st ∧ g.held = false ∧ k.st = .running ∧
      (s.cluster 0).resident = some (k.image g.stage)) ∧
    (∃ (s : State) (g : Group) (k : Kernel) (st : Stage) (l : List (Nat × Nat)), (s.cluster 0).loading = true ∧
      s.groupOfCluster 0 = some g ∧ s.kernel g.kernel = some k ∧ k.stages[g.stage]? = some st ∧ g.held = false ∧
      k.st = .running ∧ (s.cluster 0).resident ≠ some (k.image g.stage) ∧
      s.reach k.vf k.pasid k.part false (.kernel g.kernel) (sImg st.desc) (sIsz st.desc) = .locs l) ∧
    (∃ (s : State) (x : Partition), s.partition 0 = some x ∧ (∀ g ∈ s.liveGroups 0, g.atBoundary = true) ∧
      x.pending = some (.switch 0 2) ∧ s.switchable 0 0 2 = true ∧ s.quiet 0 = true) ∧
    (∃ (s : State) (x : Partition), s.partition 0 = some x ∧ x.pending = some (.switch 0 2) ∧ s.switchable 0 0 2 = false) ∧
    (∃ (s : State) (x : Partition), s.partition 0 = some x ∧ x.pending = none ∧ x.heldSince = some 0 ∧ s.moveIn 0 = none) ∧
    (∃ (s : State) (x : Partition) (m : Nat × Nat × Nat × Nat), s.partition 0 = some x ∧
      (∀ g ∈ s.liveGroups 0, g.atBoundary = true) ∧ x.pending = none ∧ x.heldSince = some 0 ∧ s.moveIn 0 = some m) ∧
    (∃ (s : State) (x : Partition), s.partition 0 = some x ∧ x.heldSince = some 0 ∧ 0 + s.holdLimit ≤ s.now) :=
  ⟨⟨arriving (some (0, 0, ctxKey 0 1)), _, _, _, rfl, rfl, rfl, rfl, rfl, rfl, rfl⟩,
    ⟨arriving none, _, _, _, [(0x9000000000003000, 64)], rfl, rfl, rfl, rfl, rfl, rfl, by decide, rfl⟩,
    ⟨{ land with partitions := [(0, ward (some (.switch 0 2)) none)],
                 contexts := [(ctxKey 0 2, ⟨0, 2, 0, .bound, TV.zero, none, [], 0, 4096, (0, 0)⟩)] }, _, rfl, by decide, rfl, rfl, by decide +kernel⟩,
    ⟨{ land with partitions := [(0, ward (some (.switch 0 2)) none)] }, _, rfl, rfl, rfl⟩,
    ⟨{ land with partitions := [(0, ward none (some 0))] }, _, rfl, rfl, rfl, rfl⟩,
    ⟨shifting, _, (5, 0, 1, 1), rfl, by decide +kernel, rfl, rfl, by decide +kernel⟩,
    ⟨{ land with partitions := [(0, ward none (some 0))], now := State.reset.holdLimit }, _, rfl, rfl, by decide⟩⟩

set_option maxRecDepth 20000 in
/-- The same, waits and events: a wait past its limit, an episode of the wires, an event refused, placed, held, and a held one
refused and placed; an arrival. -/
theorem hyp_event_events :
    (∃ (s : State) (t : Strand) (w : Wait), s.strand 0 0 = some t ∧ t.wait = some w ∧ w.kind.timed = some 2 ∧ t.granted = none ∧
      (s.core 0).frozen = false ∧ s.inBoundary 0 = false ∧ s.waitMet 0 w.kind = false ∧ (s.core 0).barTimeout.toNat % 2 ^ 32 ≠ 0 ∧
      w.since + w.idle + (s.core 0).barTimeout.toNat % 2 ^ 32 * 1024 ≤ s.now) ∧
    (∃ s : State, s.wiresJoin 0 (Rect.ofCode 0) = true ∧ (∃ k ∈ (Rect.ofCode 0).cores 0, (s.core k).slots ≠ []) ∧
      (∀ k ∈ (Rect.ofCode 0).cores 0, s.raises k 0 = true) ∧ ((Rect.ofCode 0).cores 0).Nodup) ∧
    (∃ (s : State) (f : Flight), kfind 0 s.flights = some f ∧ s.standsStill f = false ∧ f.kind = .event 3 7#64 ∧
      s.firstOfPair 0 f = true ∧ s.messageRefusal f.src.core f.dst = some 0x10) ∧
    (∀ p ∈ [(0, []), (16, []), (0, [1])], ∃ (s : State) (f : Flight), kfind 0 s.flights = some f ∧ s.standsStill f = false ∧
      f.kind = .event 3 7#64 ∧ s.firstOfPair 0 f = true ∧ (s.core f.src.core).held.map (·.dst) = p.2 ∧ f.dst = 1 ∧
      s.messageRefusal f.src.core f.dst = none ∧ (s.inboxOf f.dst).length = p.1) ∧
    (∃ (s : State) (f : Flight), kfind 0 s.flights = some f ∧ s.standsStill f = false ∧ f.kind = .arrival 3 7#64 ∧
      s.firstArrival 0 f = true ∧ (s.inboxOf f.dst).length < 16) ∧
    (∃ (s : State) (f : Flight) (r : List Flight), s.clusterRuns (clusterOf 0) = true ∧ (s.core 0).held = f :: r ∧
      f.kind = .event 3 7#64 ∧ s.messageRefusal 0 f.dst = some 0x10) ∧
    (∃ (s : State) (f : Flight) (r : List Flight), s.clusterRuns (clusterOf 0) = true ∧ (s.core 0).held = f :: r ∧
      f.kind = .event 3 7#64 ∧ s.messageRefusal 0 f.dst = none ∧ (s.inboxOf f.dst).length < 16) ∧
    (∃ (s : State) (a f : Flight) (r : List Flight), s.clusterRuns (clusterOf 0) = true ∧ (s.core 0).held = a :: f :: r ∧
      a.kind = .event 3 7#64 ∧ f.kind = .event 3 7#64 ∧ s.messageRefusal 0 a.dst = none ∧ 16 ≤ (s.inboxOf a.dst).length ∧
      a.dst ≠ f.dst ∧ s.messageRefusal 0 f.dst = none ∧ (s.inboxOf f.dst).length < 16) := by
  refine ⟨⟨{ sits { loadedStrand with wait := some ⟨.sync 2, 0, 0, 0⟩ } Core.init with now := 2048 * 1024 }, _, _, rfl, rfl, rfl, rfl,
      rfl, rfl, by decide +kernel, by decide, by decide⟩,
    ⟨{ land with cores := [(0, waits0 (.barrc 0))] }, by decide, by decide, by decide, by decide⟩,
    ⟨{ State.reset with flights := [(0, ⟨sender0, 64, .event 3 7#64, 0#64⟩)] }, _, rfl, rfl, rfl, rfl, rfl⟩, fun p hp => ?_,
    ⟨{ land with flights := [(0, ⟨sender0, 1, .arrival 3 7#64, 0#64⟩)] }, _, rfl, rfl, rfl, rfl, by decide⟩,
    ⟨{ land with cores := [(0, { Core.init with held := [⟨sender0, 64, .event 3 7#64, 0#64⟩] })] }, _, _, rfl, rfl, rfl, rfl⟩,
    ⟨{ land with cores := [(0, { Core.init with held := [⟨sender0, 1, .event 3 7#64, 0#64⟩] })] }, _, _, rfl, rfl, rfl, rfl, by decide⟩,
    ⟨{ unit { Cluster.init with inboxes := [(slotInCluster 1, List.replicate 16 ⟨3, 7#64⟩)] } with
      cores := [(0, { Core.init with held := [⟨sender0, 1, .event 3 7#64, 0#64⟩, ⟨sender0, 2, .event 3 7#64, 0#64⟩] })] },
      _, _, _, rfl, rfl, rfl, rfl, rfl, by decide, by decide, rfl, by decide⟩⟩
  simp only [List.mem_cons, List.not_mem_nil, or_false] at hp
  rcases hp with rfl | rfl | rfl
  · exact ⟨{ land with flights := [(0, ⟨sender0, 1, .event 3 7#64, 0#64⟩)] }, _, rfl, rfl, rfl, rfl, rfl, rfl, rfl, rfl⟩
  · exact ⟨{ unit { Cluster.init with inboxes := [(slotInCluster 1, List.replicate 16 ⟨3, 7#64⟩)] } with
      flights := [(0, ⟨sender0, 1, .event 3 7#64, 0#64⟩)] }, _, rfl, rfl, rfl, rfl, rfl, rfl, rfl, rfl⟩
  · exact ⟨{ land with cores := [(0, { Core.init with held := [⟨sender0, 1, .event 3 5#64, 0#64⟩] })],
                       flights := [(0, ⟨sender0, 1, .event 3 7#64, 0#64⟩)] }, _, rfl, rfl, rfl, rfl, rfl, rfl, rfl, rfl⟩
/-- Access 0 of cluster 0 waits on a load at address 0x2000. -/
abbrev wait0 : PageWait := ⟨.access 0, 0x2000, false, 0⟩

/-- An access of cluster 0 that waits on the translation of page 2 of function 0's context 1. -/
abbrev missing (st : PageState) (w : List PageWait) : State :=
  { land with pages := [⟨0, 0, 1, 2, st, w⟩], accesses := [(0, { outstanding (.load 8 false 3) with phase := .translating })] }

/-- A fault of that page. -/
abbrev fault0 (queued : Bool) : FaultEntry := ⟨⟨0, 1, 2, false⟩, [wait0], queued⟩

/-- TranslationEventsMoveAccesses: a completion that grants, one that denies; a fault to queue; a queued request with and without
other waiters; an invalidation that nothing uses. -/
theorem hyp_translation_events :
    (∃ (s : State) (r : PageRec) (a : Access) (e : AtcEntry), sizeOk 4096 = true ∧ s.pageRec 0 0 1 (0x2000 / 4096) = some r ∧
      r.st = .translating ∧ e = s.atcEntry 0 1 0x2000 0x5000 4096 true true ∧ r.waiters = [wait0] ∧
      (s.accesses.map (·.1)).Pairwise (· < ·) ∧ kfind 0 s.accesses = some a ∧ e.grants false = true ∧ e.fabric = false ∧ e.noncoh = false) ∧
    (∃ (s : State) (r : PageRec) (a : Access) (e : AtcEntry), s.pageRec 0 0 1 (0x2000 / 4096) = some r ∧ r.st = .translating ∧
      e = s.atcEntry 0 1 0x2000 0x5000 4096 false false ∧ r.waiters = [wait0] ∧ kfind 0 s.accesses = some a ∧
      e.grants false = false ∧ clusterDie 0 = 0 ∧ (s.vf 0).stop = false ∧ (s.cluster 0).faults.length < 8 ∧
      ∀ f ∈ (s.cluster 0).faults, f.key ≠ ⟨0, 1, r.page, false⟩) ∧
    (∃ (s : State) (f : FaultEntry), (s.cluster 0).faults[0]? = some f ∧ f.queued = false ∧ (s.vf f.key.vf).asked f.key = false ∧
      (s.vf f.key.vf).requests.length < min (s.vf f.key.vf).alloc 64 ∧ freeIndex (s.vf f.key.vf).requests < 64) ∧
    (∃ (s : State) (k : FaultKey), kfind 0 (s.vf 0).requests = some k ∧ s.requestWaiters k = [wait0] ∧ wait0.addr / 4096 = k.page ∧
      (s.clearRequest 0 0 k).pageRec (clusterDie 0) k.vf k.pasid k.page = none) ∧
    (∃ (s : State) (k : FaultKey) (x : PageWait), kfind 0 (s.vf 0).requests = some k ∧ x ∈ s.requestWaiters k ∧
      (∀ m, x.who ≠ .access m) ∧ ∀ b, x.who ≠ .prefetch b) ∧
    (∃ s : State, s.boot = .running ∧ ∀ c ∈ s.clusters, ∀ x ∈ c.2.parked, x.1.vf ≠ 0) ∧
    (∃ (s : State) (i : Inval), s.invals.find? (fun i => decide (i.vf = 0) && decide (i.pasid = 1) &&
        decide (i.va = 0x2000) && i.owner.isNone) = some i ∧ ∀ n ∈ s.usersOf i.gone, n ∉ i.uses) :=
  ⟨⟨missing .translating [wait0], _, _, _, by decide, rfl, rfl, rfl, rfl, by decide, rfl, rfl, rfl, rfl⟩,
    ⟨missing .translating [wait0], _, _, _, rfl, rfl, rfl, rfl, rfl, rfl, rfl, rfl, by decide, by decide⟩,
    ⟨unit { Cluster.init with faults := [fault0 false] }, _, rfl, rfl, rfl, by decide, by decide⟩,
    ⟨{ unit { Cluster.init with faults := [fault0 true] } with vfs := [(0, { State.reset.vf 0 with requests := [(0, ⟨0, 1, 2, false⟩)] })] },
      _, rfl, rfl, rfl, rfl⟩,
    ⟨{ unit { Cluster.init with faults := [⟨⟨0, 1, 2, true⟩, [⟨.tile 0, 0x2040, true, 0⟩], true⟩] } with
        vfs := [(0, { State.reset.vf 0 with requests := [(0, ⟨0, 1, 2, true⟩)] })] }, _, ⟨.tile 0, 0x2040, true, 0⟩, rfl, by decide +kernel,
      (fun _ h => by cases h), fun _ h => by cases h⟩,
    ⟨land, rfl, by decide⟩,
    ⟨{ land with invals := [⟨0, 1, 0x2000, 4096, [], [], none⟩] }, _, rfl, by decide⟩⟩

/-- `job` in a state, its context resident. -/
abbrev hosting (k : Kernel) : State :=
  { land with kernels := [(5, k)], partitions := [(0, ward none none)],
              contexts := [(ctxKey 0 1, ⟨0, 1, 0, .resident, TV.zero, none, [], 0, 4096, (0, 0)⟩)] }

/-- A stage that asks for one cluster. -/
abbrev stage1 : BitVec 512 := BitVec.ofNat 512 (0x9000000000003000 + (64 + 2 ^ 40 + 2 ^ 48) * 2 ^ 64 + (1 + 2 ^ 32) * 2 ^ 128 + 0x20000 * 2 ^ 192)

set_option maxRecDepth 20000 in
/-- KernelEventsRunItsLife: a kernel to place, one whose image is read, one whose image cannot be read, one that has drained with
and without input left, ended ones without a record, with a record, with one that cannot be written. -/
theorem hyp_kernel_events :
    (∃ (s : State) (k : Kernel) (cls : List (List Nat)) (gids : List Nat), s.kernel 5 = some k ∧ k.st = .declared ∧
      (s.partition k.part).bind (·.resident) = some (k.vf, k.pasid) ∧ s.placement k.part (k.stages.map (·.desc)) = some cls ∧
      gids = s.freeGids k.part cls.length ∧ gids.length = cls.length ∧ cls.length = k.stages.length) ∧
    (∃ (s : State) (k : Kernel) (ls : List (List (Nat × Nat))), s.kernel 5 = some k ∧ k.st = .loading ∧
      (s.partition k.part).bind (·.resident) = some (k.vf, k.pasid) ∧ s.areasHeld k = false ∧ s.readImages 5 k 0 k.stages = .inl ls) ∧
    (∃ (s : State) (k : Kernel) (j c a : Nat), s.kernel 5 = some k ∧ k.st = .loading ∧
      (s.partition k.part).bind (·.resident) = some (k.vf, k.pasid) ∧ s.areasHeld k = false ∧ s.readImages 5 k 0 k.stages = .inr (j, .fail c a)) ∧
    (∃ (s : State) (k : Kernel), s.kernel 5 = some k ∧ k.st = .draining ∧ k.drained = false ∧ s.kernelResident k = true ∧
      (∀ g ∈ k.stages, s.groupBusy k.part (g.group.getD 0) = false) ∧ ∀ g ∈ k.stages, s.inputHeld g = false) ∧
    (∃ (s : State) (k : Kernel) (g : Stage), s.kernel 5 = some k ∧ k.st = .draining ∧ k.drained = false ∧ s.kernelResident k = true ∧
      (∀ g ∈ k.stages, s.groupBusy k.part (g.group.getD 0) = false) ∧ k.stages[0]? = some g ∧ s.inputHeld g = true ∧
      ∀ j' g', j' < 0 → k.stages[j']? = some g' → s.inputHeld g' = false) ∧
    (∃ (s : State) (k : Kernel), s.kernel 5 = some k ∧ k.st.ended = true ∧ s.orphansLeft k.part = false ∧ k.comp = 0) ∧
    (∃ (s : State) (k : Kernel), s.kernel 5 = some k ∧ k.st = .draining ∧ k.drained = true ∧ k.written = true) ∧
    (∃ (s : State) (k : Kernel) (l : List (Nat × Nat)), s.kernel 5 = some k ∧ k.st = .failed ∧ s.orphansLeft k.part = false ∧
      k.comp ≠ 0 ∧ k.written = false ∧ s.reach k.vf k.pasid k.part true (.kernel 5) k.comp 16 = .locs l) ∧
    (∃ (s : State) (k : Kernel) (c a : Nat), s.kernel 5 = some k ∧ k.st = .complete ∧ s.orphansLeft k.part = false ∧ k.comp ≠ 0 ∧ k.written = false ∧
      s.reach k.vf k.pasid k.part true (.kernel 5) k.comp 16 = .fail c a) ∧
    (∃ (s : State) (k : Kernel) (l : List (Nat × Nat)), s.kernel 5 = some k ∧ k.st = .draining ∧ k.drained = true ∧ k.comp ≠ 0 ∧ k.written = false ∧
      s.reach k.vf k.pasid k.part true (.kernel 5) k.comp 16 = .locs l) ∧
    (∃ (u n : State) (k : Kernel) (g : Stage) (grp : Group), g.group = some 0 ∧ n = u.loadStage 5 k 0 g [1#8] ∧ k.part < 2 ^ 10 ∧
      sArea g.desc % 64 = 0 ∧ sArea g.desc + 72 * sNinit g.desc ≤ 2 ^ 47 ∧ sNinit g.desc = 1 ∧ (∀ cl ∈ g.clusters, cl < 160) ∧
      g.clusters.Nodup ∧ 0 ∈ g.clusters ∧ (u.cluster 0).resident ≠ some (k.image 0) ∧ n.group k.part 0 = some grp) :=
  ⟨⟨hosting { job with st := .declared, stages := [⟨stage1, [], none⟩] }, _, [[0]], _, rfl, rfl, rfl, by decide +kernel, rfl,
      by decide +kernel, rfl⟩,
    ⟨hosting { job with st := .loading, stages := [⟨stage1, [0], some 0⟩] }, _, _, rfl, rfl, rfl, rfl, rfl⟩,
    ⟨{ hosting { job with st := .loading, stages := [⟨stage1, [0], some 0⟩] } with
        engineFails := [(.kernel 5, (0x12, 0x9000000000003000))] }, _, _, _, _, rfl, rfl, rfl, rfl, rfl⟩,
    ⟨hosting { job with st := .draining }, _, rfl, rfl, rfl, rfl, by decide +kernel, by decide +kernel⟩,
    ⟨{ hosting { job with st := .draining, stages := [⟨BitVec.ofNat 512 (128 * 2 ^ 256), [0], some 0⟩] } with
        cores := [(0, { Core.init with chans := [(0, entry [0])] })] }, _, _, rfl, rfl, rfl, rfl, by decide +kernel, rfl, by decide +kernel, fun j' _ h _ => by omega⟩,
    ⟨hosting { job with st := .complete }, _, rfl, rfl, rfl, rfl⟩,
    ⟨hosting { job with st := .draining, drained := true, written := true }, _, rfl, rfl, rfl, rfl⟩,
    ⟨hosting { job with st := .failed, comp := 0x9000000000000100 }, _, _, rfl, rfl, rfl, by decide, rfl, rfl⟩,
    ⟨{ hosting { job with st := .complete, comp := 0x9000000000000100 } with
        engineFails := [(.kernel 5, (0x12, 0x9000000000000100))] }, _, _, _, rfl, rfl, rfl, by decide, rfl, rfl⟩,
    ⟨hosting { job with st := .draining, drained := true, comp := 0x9000000000000100 }, _, _, rfl, rfl, rfl, by decide, rfl, rfl⟩,
    ⟨land, _, job, ⟨stage1, [0], some 0⟩, _, rfl, rfl, by decide, by decide, by decide +kernel, by decide +kernel, by decide, by decide, by decide,
      by decide, rfl⟩⟩
/-- A queue of partition 0's context with one packet at its head. -/
abbrev queue0 (st : QueueState) : Queue :=
  { word0 := 0x9000000000004000#64, lsz := 4, pri := 1, pre := false, pasid := 1, st := st, err := 0, ridx := 0, widx := 1, rfence := 0,
    links := [], nrpl := 0, levels := [], slot := some 3, since := 0, quantumOut := false, pendn := false, fenceAt := 0, turn := 0,
    copied := 0, word := 0#512, rest := [] }

/-- The function's queue 0 in partition 0, with link 7 as given. -/
abbrev desk (x : Queue) (l : List (Nat × TokenLink)) : State :=
  { land with queues := [(0, x)], links := l, partitions := [(0, ward none none)],
              contexts := [(ctxKey 0 1, ⟨0, 1, 0, .resident, TV.zero, none, [], 0, 4096, (0, 0)⟩)] }

/-- A packet at its head, and bytes that it names at offset 0x5000 of the window. -/
abbrev served (w d : Nat) (x : Queue) (l : List (Nat × TokenLink)) : State :=
  ((desk x l).write 0x9000000000005000 (natBytes 128 d)).write 0x9000000000004000 (natBytes 64 w)

abbrev begun (w d : Nat) (x : Queue) (l : List (Nat × TokenLink)) : State := (served w d x l).beginService 0 0 x

/-- A link from one queue of the function to another. -/
abbrev link0 (p c : Nat) (n : Int) : TokenLink := ⟨(0, p), (0, c), n, 0, 0, 0, 0⟩

/-- The packets of `hyp_packets`: nop; launch; copies of 16 and of 8192 bytes; fence-waits; a fence-signal; a put, a take; an
indirect packet; a barrier. -/
abbrev pNop : Nat := 1
abbrev pLaunch : Nat := 2 + 0x9000000000005000 * 2 ^ 64
abbrev pCopy (n : Nat) : Nat := 3 + 0x9000000000005000 * 2 ^ 64 + 0x9000000000007000 * 2 ^ 128 + n * 2 ^ 192
abbrev pWait (v op : Nat) : Nat := 4 + 0x9000000000005000 * 2 ^ 64 + v * 2 ^ 128 + op * 2 ^ 192
abbrev pSignal : Nat := 5 + 0x9000000000005000 * 2 ^ 64 + 5 * 2 ^ 128 + 0x8003 * 2 ^ 192
abbrev pPut : Nat := 6 + 7 * 2 ^ 64 + 2 * 2 ^ 128
abbrev pTake : Nat := 7 + 7 * 2 ^ 64 + 2 * 2 ^ 128
abbrev pIndirect : Nat := 8 + 0x9000000000005000 * 2 ^ 64 + 2 * 2 ^ 128
abbrev pBarrier : Nat := 9 + 0x9000000000005000 * 2 ^ 64 + 3 * 2 ^ 128

/-- Its levels full. -/
abbrev deepQueue : Queue :=
  { queue0 .active with levels := [(0x9000000000004100, 1), (0x9000000000004100, 1), (0x9000000000004100, 1), (0x9000000000004000, 1)] }

/-- A kernel descriptor with one stage. -/
abbrev kernel0 : Nat := 0x10000 * 2 ^ 64 + (0x9000000000006000 + (64 + 2 ^ 40 + 2 ^ 48) * 2 ^ 64 + (1 + 2 ^ 32) * 2 ^ 128 + 0x20000 * 2 ^ 192) * 2 ^ 512

/-! The head packet of `served` is ready. -/

set_option maxRecDepth 100000 in
theorem ready_nop : HeadReady (served pNop 0 (queue0 .active) []) 0 0 (begun pNop 0 (queue0 .active) []) (queue0 .active) 0 1 (BitVec.ofNat 512 pNop) :=
  ⟨_, rfl, rfl, rfl, rfl, rfl, rfl, rfl, rfl, rfl, by decide +kernel, by decide +kernel, fun _ => ⟨rfl, rfl⟩, fun _ => rfl⟩

set_option maxRecDepth 100000 in
theorem ready_launch : HeadReady (served pLaunch kernel0 (queue0 .active) []) 0 0 (begun pLaunch kernel0 (queue0 .active) []) (queue0 .active) 0 2 (BitVec.ofNat 512 pLaunch) :=
  ⟨_, rfl, rfl, rfl, rfl, rfl, rfl, rfl, rfl, rfl, by decide +kernel, by decide +kernel, fun _ => ⟨rfl, rfl⟩, fun _ => rfl⟩

set_option maxRecDepth 100000 in
theorem ready_launch_bad : HeadReady (served pLaunch 0 (queue0 .active) []) 0 0 (begun pLaunch 0 (queue0 .active) []) (queue0 .active) 0 2 (BitVec.ofNat 512 pLaunch) :=
  ⟨_, rfl, rfl, rfl, rfl, rfl, rfl, rfl, rfl, rfl, by decide +kernel, by decide +kernel, fun _ => ⟨rfl, rfl⟩, fun _ => rfl⟩

set_option maxRecDepth 100000 in
theorem ready_copy : HeadReady (served (pCopy 16) 0 (queue0 .active) []) 0 0 (begun (pCopy 16) 0 (queue0 .active) []) (queue0 .active) 0 3 (BitVec.ofNat 512 (pCopy 16)) :=
  ⟨_, rfl, rfl, rfl, rfl, rfl, rfl, rfl, rfl, rfl, by decide +kernel, by decide +kernel, fun _ => ⟨rfl, rfl⟩, fun _ => rfl⟩

set_option maxRecDepth 100000 in
theorem ready_copy_long : HeadReady (served (pCopy 8192) 0 (queue0 .active) []) 0 0 (begun (pCopy 8192) 0 (queue0 .active) []) (queue0 .active) 0 3 (BitVec.ofNat 512 (pCopy 8192)) :=
  ⟨_, rfl, rfl, rfl, rfl, rfl, rfl, rfl, rfl, rfl, by decide +kernel, by decide +kernel, fun _ => ⟨rfl, rfl⟩, fun _ => rfl⟩

set_option maxRecDepth 100000 in
theorem ready_wait_5_0 : HeadReady (served (pWait 5 0) 5 (queue0 .active) []) 0 0 (begun (pWait 5 0) 5 (queue0 .active) []) (queue0 .active) 0 4 (BitVec.ofNat 512 (pWait 5 0)) :=
  ⟨_, rfl, rfl, rfl, rfl, rfl, rfl, rfl, rfl, rfl, by decide +kernel, by decide +kernel, fun _ => ⟨rfl, rfl⟩, fun _ => rfl⟩

set_option maxRecDepth 100000 in
theorem ready_wait_6_0 : HeadReady (served (pWait 6 0) 5 (queue0 .active) []) 0 0 (begun (pWait 6 0) 5 (queue0 .active) []) (queue0 .active) 0 4 (BitVec.ofNat 512 (pWait 6 0)) :=
  ⟨_, rfl, rfl, rfl, rfl, rfl, rfl, rfl, rfl, rfl, by decide +kernel, by decide +kernel, fun _ => ⟨rfl, rfl⟩, fun _ => rfl⟩

set_option maxRecDepth 100000 in
theorem ready_wait_5_1 : HeadReady (served (pWait 5 1) 5 (queue0 .active) []) 0 0 (begun (pWait 5 1) 5 (queue0 .active) []) (queue0 .active) 0 4 (BitVec.ofNat 512 (pWait 5 1)) :=
  ⟨_, rfl, rfl, rfl, rfl, rfl, rfl, rfl, rfl, rfl, by decide +kernel, by decide +kernel, fun _ => ⟨rfl, rfl⟩, fun _ => rfl⟩

set_option maxRecDepth 100000 in
theorem ready_wait_6_1 : HeadReady (served (pWait 6 1) 5 (queue0 .active) []) 0 0 (begun (pWait 6 1) 5 (queue0 .active) []) (queue0 .active) 0 4 (BitVec.ofNat 512 (pWait 6 1)) :=
  ⟨_, rfl, rfl, rfl, rfl, rfl, rfl, rfl, rfl, rfl, by decide +kernel, by decide +kernel, fun _ => ⟨rfl, rfl⟩, fun _ => rfl⟩

set_option maxRecDepth 100000 in
theorem ready_wait_6_2 : HeadReady (served (pWait 6 2) 5 (queue0 .active) []) 0 0 (begun (pWait 6 2) 5 (queue0 .active) []) (queue0 .active) 0 4 (BitVec.ofNat 512 (pWait 6 2)) :=
  ⟨_, rfl, rfl, rfl, rfl, rfl, rfl, rfl, rfl, rfl, by decide +kernel, by decide +kernel, fun _ => ⟨rfl, rfl⟩, fun _ => rfl⟩

set_option maxRecDepth 100000 in
theorem ready_wait_5_2 : HeadReady (served (pWait 5 2) 5 (queue0 .active) []) 0 0 (begun (pWait 5 2) 5 (queue0 .active) []) (queue0 .active) 0 4 (BitVec.ofNat 512 (pWait 5 2)) :=
  ⟨_, rfl, rfl, rfl, rfl, rfl, rfl, rfl, rfl, rfl, by decide +kernel, by decide +kernel, fun _ => ⟨rfl, rfl⟩, fun _ => rfl⟩

set_option maxRecDepth 100000 in
theorem ready_signal : HeadReady (served pSignal 0 (queue0 .active) []) 0 0 (begun pSignal 0 (queue0 .active) []) (queue0 .active) 0 5 (BitVec.ofNat 512 pSignal) :=
  ⟨_, rfl, rfl, rfl, rfl, rfl, rfl, rfl, rfl, rfl, by decide +kernel, by decide +kernel, fun _ => ⟨rfl, rfl⟩, fun _ => rfl⟩

set_option maxRecDepth 100000 in
theorem ready_put : HeadReady (served pPut 0 (queue0 .active) [(7, link0 0 1 0)]) 0 0 (begun pPut 0 (queue0 .active) [(7, link0 0 1 0)]) (queue0 .active) 0 6 (BitVec.ofNat 512 pPut) :=
  ⟨_, rfl, rfl, rfl, rfl, rfl, rfl, rfl, rfl, rfl, by decide +kernel, by decide +kernel, fun _ => ⟨rfl, rfl⟩, fun _ => rfl⟩

set_option maxRecDepth 100000 in
theorem ready_take : HeadReady (served pTake 0 (queue0 .active) [(7, link0 1 0 2)]) 0 0 (begun pTake 0 (queue0 .active) [(7, link0 1 0 2)]) (queue0 .active) 0 7 (BitVec.ofNat 512 pTake) :=
  ⟨_, rfl, rfl, rfl, rfl, rfl, rfl, rfl, rfl, rfl, by decide +kernel, by decide +kernel, fun _ => ⟨rfl, rfl⟩, fun _ => rfl⟩

set_option maxRecDepth 100000 in
theorem ready_take_short : HeadReady (served pTake 0 (queue0 .active) [(7, link0 1 0 1)]) 0 0 (begun pTake 0 (queue0 .active) [(7, link0 1 0 1)]) (queue0 .active) 0 7 (BitVec.ofNat 512 pTake) :=
  ⟨_, rfl, rfl, rfl, rfl, rfl, rfl, rfl, rfl, rfl, by decide +kernel, by decide +kernel, fun _ => ⟨rfl, rfl⟩, fun _ => rfl⟩

set_option maxRecDepth 100000 in
theorem ready_indirect : HeadReady (served pIndirect 0 (queue0 .active) []) 0 0 (begun pIndirect 0 (queue0 .active) []) (queue0 .active) 0 8 (BitVec.ofNat 512 pIndirect) :=
  ⟨_, rfl, rfl, rfl, rfl, rfl, rfl, rfl, rfl, rfl, by decide +kernel, by decide +kernel, fun _ => ⟨rfl, rfl⟩, fun _ => rfl⟩

set_option maxRecDepth 100000 in
theorem ready_indirect_deep : HeadReady (served pIndirect 0 deepQueue []) 0 0 (begun pIndirect 0 deepQueue []) deepQueue 0 8 (BitVec.ofNat 512 pIndirect) :=
  ⟨_, rfl, rfl, rfl, rfl, rfl, rfl, rfl, rfl, rfl, by decide +kernel, by decide +kernel, fun _ => ⟨rfl, rfl⟩, fun _ => rfl⟩

set_option maxRecDepth 100000 in
theorem ready_barrier : HeadReady (served pBarrier 5 (queue0 .active) []) 0 0 (begun pBarrier 5 (queue0 .active) []) (queue0 .active) 0 9 (BitVec.ofNat 512 pBarrier) :=
  ⟨_, rfl, rfl, rfl, rfl, rfl, rfl, rfl, rfl, rfl, by decide +kernel, by decide +kernel, fun _ => ⟨rfl, rfl⟩, fun _ => rfl⟩
set_option maxRecDepth 100000 in
/-- QueueEventsServePackets, packets (with `ready_nop` and `ready_indirect`…): a launch whose descriptors pass and one whose do
not; copies of one piece and of more; each condition of a fence-wait met and not met; the fence-signal; tokens put, taken, short;
the words of a barrier. -/
theorem hyp_packets :
    (∀ d ∈ [kernel0, 0], ∃ (s1 : State) (k : BitVec 512) (ds : List (BitVec 512)),
      HeadReady (served pLaunch d (queue0 .active) []) 0 0 (begun pLaunch d (queue0 .active) []) (queue0 .active) 0 2 (BitVec.ofNat 512 pLaunch) ∧
      (begun pLaunch d (queue0 .active) []).addrOk 0 (descWord (BitVec.ofNat 512 pLaunch) 1) 1 = true ∧
      descWord (BitVec.ofNat 512 pLaunch) 3 = 0 ∧ descWord (BitVec.ofNat 512 pLaunch) 4 = 0 ∧
      (argCap (descWord (BitVec.ofNat 512 pLaunch) 2) (descWord (BitVec.ofNat 512 pLaunch) 3)).isSome = true ∧
      (begun pLaunch d (queue0 .active) []).residentFor 0 0 1 = (s1, true) ∧
      s1.readDesc 0 0 1 0 (descWord (BitVec.ofNat 512 pLaunch) 1) = .inl k ∧
      s1.readStages 0 0 1 0 (descWord (BitVec.ofNat 512 pLaunch) 1) (kStages k) 0 = .inl ds ∧
      s1.firstBad 0 k ds = if d = 0 then some 1 else none) ∧
    (∀ n ∈ [16, 8192], ∃ (a b len : Nat) (l m : List (Nat × Nat)),
      HeadReady (served (pCopy n) 0 (queue0 .active) []) 0 0 (begun (pCopy n) 0 (queue0 .active) []) (queue0 .active) 0 3
        (BitVec.ofNat 512 (pCopy n)) ∧ len = min n 4096 ∧
      (begun (pCopy n) 0 (queue0 .active) []).addrOk 0 0x9000000000005000 len = true ∧
      (begun (pCopy n) 0 (queue0 .active) []).addrOk 0 0x9000000000007000 len = true ∧
      (begun (pCopy n) 0 (queue0 .active) []).reach 0 1 0 false (.queue 0 0) 0x9000000000005000 len = .locs ((a, len) :: l) ∧
      (begun (pCopy n) 0 (queue0 .active) []).reach 0 1 0 true (.queue 0 0) 0x9000000000007000 len = .locs ((b, len) :: m)) ∧
    (∀ e ∈ [(5, 0), (6, 0), (5, 1), (6, 1), (6, 2), (5, 2)],
      HeadReady (served (pWait e.1 e.2) 5 (queue0 .active) []) 0 0 (begun (pWait e.1 e.2) 5 (queue0 .active) []) (queue0 .active) 0 4
        (BitVec.ofNat 512 (pWait e.1 e.2)) ∧
      (begun (pWait e.1 e.2) 5 (queue0 .active) []).readWord 0 0 (queue0 .active) 0
        (descWord (BitVec.ofNat 512 (pWait e.1 e.2)) 1) = .inl 5 ∧
      descWord (BitVec.ofNat 512 (pWait e.1 e.2)) 2 = e.1 ∧ descWord (BitVec.ofNat 512 (pWait e.1 e.2)) 3 = e.2) ∧
    (∃ l, (begun pSignal 0 (queue0 .active) []).addrOk 0 (descWord (BitVec.ofNat 512 pSignal) 1) 8 = true ∧
      (begun pSignal 0 (queue0 .active) []).reach 0 1 0 true (.queue 0 0) (descWord (BitVec.ofNat 512 pSignal) 1) 8 = .locs l) ∧
    (∃ z, (begun pPut 0 (queue0 .active) [(7, link0 0 1 0)]).link (descWord (BitVec.ofNat 512 pPut) 1) = some z ∧
      z.producer = (0, 0) ∧ z.c + (descWord (BitVec.ofNat 512 pPut) 2 : Int) ≤ 2 ^ 31 - 1) ∧
    (∀ c ∈ [(2 : Int), 1], ∃ z, (begun pTake 0 (queue0 .active) [(7, link0 1 0 c)]).link (descWord (BitVec.ofNat 512 pTake) 1) =
      some z ∧ z.consumer = (0, 0) ∧ z.c = c ∧ descWord (BitVec.ofNat 512 pTake) 2 = 2) ∧
    ((begun pIndirect 0 (queue0 .active) []).addrOk 0 (descWord (BitVec.ofNat 512 pIndirect) 1) 1 = true ∧
      (queue0 .active).levels.length < 4 ∧ 4 ≤ deepQueue.levels.length) ∧
    (∀ j ∈ [1, 3, 5], descWord (BitVec.ofNat 512 pBarrier) j ≠ 0 → ∃ v,
      (begun pBarrier 5 (queue0 .active) []).readWord 0 0 (queue0 .active) 0 (descWord (BitVec.ofNat 512 pBarrier) j) = .inl v ∧
      descWord (BitVec.ofNat 512 pBarrier) (j + 1) ≤ v) := by
  refine ⟨fun d hd => ?_, fun n hn => ?_, fun e he => ?_, ⟨_, by decide +kernel, rfl⟩, ⟨_, rfl, rfl, by decide +kernel⟩, fun c hc => ?_,
    ⟨by decide +kernel, by decide, by decide⟩, fun j hj hw => ?_⟩
  · simp only [List.mem_cons, List.not_mem_nil, or_false] at hd
    rcases hd with rfl | rfl
    · exact ⟨_, _, _, ready_launch, by decide +kernel, by decide +kernel, by decide +kernel, by decide +kernel, rfl, rfl, rfl,
        by decide +kernel⟩
    · exact ⟨_, _, _, ready_launch_bad, by decide +kernel, by decide +kernel, by decide +kernel, by decide +kernel, rfl, rfl, rfl,
        by decide +kernel⟩
  · simp only [List.mem_cons, List.not_mem_nil, or_false] at hn
    rcases hn with rfl | rfl
    · exact ⟨_, _, _, _, _, ready_copy, rfl, by decide +kernel, by decide +kernel, rfl, rfl⟩
    · exact ⟨_, _, _, _, _, ready_copy_long, rfl, by decide +kernel, by decide +kernel, rfl, rfl⟩
  · simp only [List.mem_cons, List.not_mem_nil, or_false] at he
    rcases he with rfl | rfl | rfl | rfl | rfl | rfl
    · exact ⟨ready_wait_5_0, rfl, by decide +kernel, by decide +kernel⟩
    · exact ⟨ready_wait_6_0, rfl, by decide +kernel, by decide +kernel⟩
    · exact ⟨ready_wait_5_1, rfl, by decide +kernel, by decide +kernel⟩
    · exact ⟨ready_wait_6_1, rfl, by decide +kernel, by decide +kernel⟩
    · exact ⟨ready_wait_6_2, rfl, by decide +kernel, by decide +kernel⟩
    · exact ⟨ready_wait_5_2, rfl, by decide +kernel, by decide +kernel⟩
  · simp only [List.mem_cons, List.not_mem_nil, or_false] at hc
    rcases hc with rfl | rfl <;> exact ⟨_, rfl, rfl, rfl, by decide +kernel⟩
  · simp only [List.mem_cons, List.not_mem_nil, or_false] at hj
    rcases hj with rfl | rfl | rfl
    · exact ⟨5, rfl, by decide +kernel⟩
    · exact absurd (by decide +kernel : descWord (BitVec.ofNat 512 pBarrier) 3 = 0) hw
    · exact absurd (by decide +kernel : descWord (BitVec.ofNat 512 pBarrier) 5 = 0) hw

set_option maxRecDepth 100000 in
/-- The same statement: a put and a take on a link that is not bound, and a barrier whose word is below what it waits for. -/
theorem hyp_packets_stop :
    (HeadReady (served pPut 0 (queue0 .active) []) 0 0 (begun pPut 0 (queue0 .active) []) (queue0 .active) 0 6 (BitVec.ofNat 512 pPut) ∧
      (begun pPut 0 (queue0 .active) []).link (descWord (BitVec.ofNat 512 pPut) 1) = none) ∧
    (HeadReady (served pTake 0 (queue0 .active) []) 0 0 (begun pTake 0 (queue0 .active) []) (queue0 .active) 0 7 (BitVec.ofNat 512 pTake) ∧
      (begun pTake 0 (queue0 .active) []).link (descWord (BitVec.ofNat 512 pTake) 1) = none) ∧
    (HeadReady (served pBarrier 2 (queue0 .active) []) 0 0 (begun pBarrier 2 (queue0 .active) []) (queue0 .active) 0 9
        (BitVec.ofNat 512 pBarrier) ∧
      descWord (BitVec.ofNat 512 pBarrier) 1 ≠ 0 ∧
      ∃ v, (begun pBarrier 2 (queue0 .active) []).readWord 0 0 (queue0 .active) 0 (descWord (BitVec.ofNat 512 pBarrier) 1) = .inl v ∧
        v < descWord (BitVec.ofNat 512 pBarrier) 2) :=
  ⟨⟨⟨_, rfl, rfl, rfl, rfl, rfl, rfl, rfl, rfl, rfl, by decide +kernel, by decide +kernel, fun _ => ⟨rfl, rfl⟩, fun _ => rfl⟩, rfl⟩,
    ⟨⟨_, rfl, rfl, rfl, rfl, rfl, rfl, rfl, rfl, rfl, by decide +kernel, by decide +kernel, fun _ => ⟨rfl, rfl⟩, fun _ => rfl⟩, rfl⟩,
    ⟨_, rfl, rfl, rfl, rfl, rfl, rfl, rfl, rfl, rfl, by decide +kernel, by decide +kernel, fun _ => ⟨rfl, rfl⟩, fun _ => rfl⟩,
    by decide +kernel, 2, rfl, by decide +kernel⟩

/-- Every slot held, by queues of function 1. -/
abbrev crowd : List (Nat × Queue) := (List.range 128).map (fun i => (256 + i, { queue0 .mapped with slot := some i, pasid := 2 }))

/-- `desk` beside them, its queue in slot 3 in place of theirs. -/
abbrev busy (x : Queue) (q : List (Nat × Queue)) : State :=
  { desk x [] with queues := [(0, x)] ++ q ++ (crowd.drop 4) ++ crowd.take 3 }

/-- A queue that waits for a slot. -/
abbrev asking : Queue := { queue0 .preempted with slot := none, pendn := true, pri := 2 }

/-- Two queues of two contexts of the partition. -/
abbrev rival : State :=
  { desk (queue0 .active) [] with
    now := 17000
    queues := [(0, queue0 .active), (1, { queue0 .active with pasid := 2, slot := some 4 })]
    contexts := [(ctxKey 0 1, ⟨0, 1, 0, .resident, TV.zero, none, [], 0, 4096, (0, 0)⟩), (ctxKey 0 2, ⟨0, 2, 0, .bound, TV.zero, none, [], 0, 4096, (0, 0)⟩)] }

/-- A queue that has faulted with a copy begun. -/
abbrev trailing (len : Nat) : Queue := { queue0 .faulted with rest := [(0, BitVec.ofNat 512 (pCopy len))] }

/-- The next piece of a copy has been moved. -/
def isMoved : PacketPiece → Bool
  | .moved _ _ => true
  | _ => false

theorem moved_of_isMoved {p : PacketPiece} (h : isMoved p = true) : ∃ s n, p = .moved s n := by
  cases p <;> first | exact ⟨_, _, rfl⟩ | cases h

set_option maxRecDepth 100000 in
/-- The same statement, a begun copy of a queue that has faulted: one whose last piece is left, and one with more. -/
theorem hyp_rest_copies (len : Nat) (h : len = 16 ∨ len = 8192) : ∃ (s s1 : State) (n : Nat) (x : Queue),
    s.queue 0 0 = some x ∧ s.partOfQueue 0 x = some 0 ∧ x.rest = [(0, BitVec.ofNat 512 (pCopy len))] ∧
    s.packetPiece 0 0 x 0 (BitVec.ofNat 512 (pCopy len)) 0 = .moved s1 n := by
  obtain ⟨s1, n, hm⟩ := moved_of_isMoved
    (p := (desk (trailing len) []).packetPiece 0 0 (trailing len) 0 (BitVec.ofNat 512 (pCopy len)) 0)
    (by rcases h with rfl | rfl <;> decide +kernel)
  exact ⟨desk (trailing len) [], s1, n, trailing len, rfl, rfl, rfl, hm⟩

set_option maxRecDepth 100000 in
/-- The same statement, queues: notifies that are past the record, that move a queue in each state, and that wait for a slot; a
condition that holds; a quantum, a switch, a withdrawal, a tenure; a slot to map to, a queue to unmap and one to reset; a table
registered, a link bound. -/
theorem hyp_queues :
    (∀ m ∈ [17, 2], ∃ x, (desk (queue0 .active) []).queue 0 0 = some x ∧ x.st ≠ .faulted ∧ x.st ≠ .unmapped ∧ (desk (queue0 .active) []).boot = .running ∧
      (decide (2 ^ x.lsz < (m + 2 ^ 48 - x.rfence) % 2 ^ 48)) = decide (m = 17)) ∧
    (∀ st ∈ [QueueState.mapped, .active, .waiting], ∃ x, (desk (queue0 st) []).queue 0 0 = some x ∧ x.st = st ∧
      (2 + 2 ^ 48 - x.rfence) % 2 ^ 48 ≤ 2 ^ x.lsz ∧ (x.widx + 2 ^ 48 - x.rfence) % 2 ^ 48 ≤ (2 + 2 ^ 48 - x.rfence) % 2 ^ 48 ∧ 2 ≠ x.widx) ∧
    (∃ x, (busy asking [(1, queue0 .active)]).queue 0 0 = some x ∧ x.st = .preempted ∧
      (busy asking [(1, queue0 .active)]).freeSlot = none) ∧
    (∃ (s s1 : State) (x : Queue), s.queue 0 0 = some x ∧ s.partOfQueue 0 x = some 0 ∧ x.st = .waiting ∧ s.partServed 0 = true ∧
      s.attempt 0 0 x 0 = .goes s1) ∧
    (∃ (s : State) (x : Queue), s.queue 0 0 = some x ∧ x.slot.isSome = true ∧ max x.since x.turn + s.quantum x.pri ≤ s.now ∧
      x.st = .active ∧ x.pre = false ∧ s.switchDue 0 x = none) ∧
    (∃ (s : State) (x : Queue) (e : Nat × Nat × Nat), s.queue 0 0 = some x ∧ x.slot.isSome = true ∧
      max x.since x.turn + s.quantum x.pri ≤ s.now ∧ x.pre = false ∧ s.switchDue 0 x = some e) ∧
    (∃ (s : State) (x : Queue) (e : Nat × Queue), s.queue 0 0 = some x ∧ x.slot.isSome = true ∧
      max x.since x.turn + s.quantum x.pri ≤ s.now ∧ x.pre = true ∧ x.between = true ∧ s.freeSlot = none ∧
      s.bestPending = some e ∧ x.pri ≤ e.2.pri ∧ s.switchDue 0 x = none) ∧
    (∃ (s : State) (x : Queue), s.queue 0 0 = some x ∧ x.slot.isSome = true ∧ x.pre = false ∧ x.between = true ∧
      x.since + s.tenure ≤ s.now ∧ (∃ e ∈ s.queues, e.2.pendn = true) ∧ s.freeSlot = none) ∧
    (∃ (s : State) (x : Queue) (sl : Nat), s.queue 0 0 = some x ∧ x.st = .preempted ∧ s.freeSlot = some sl ∧ s.mayMap 0 x = true ∧
      s.bestPending = none) ∧
    (∀ st ∈ [QueueState.mapped, .faulted], ∃ x, (desk (queue0 st) []).queue 0 0 = some x ∧ x.st = st ∧
      (desk (queue0 st) []).vfLocked 0 = false ∧ (desk (queue0 st) []).firmwareRuns 0 = true) ∧
    (land.vfLocked 0 = false ∧ 0x8000 % 128 = 0 ∧ 0x8000 < 2 ^ 57) ∧
    (∃ (s : State) (x y : Queue), s.queue 0 0 = some x ∧ s.queue 0 1 = some y ∧ s.partOfQueue 0 x = some 0 ∧
      s.partOfQueue 0 y = some 0 ∧ s.vfLocked 0 = false ∧ x.links = [] ∧ y.links = [] ∧
      ∀ e ∈ s.queues, ∀ b ∈ e.2.links, b.2.1 ≠ 7) := by
  refine ⟨fun m hm => ⟨_, rfl, by decide, by decide, rfl, ?_⟩, fun st hs => ?_,
    ⟨_, rfl, rfl, by decide +kernel⟩, ⟨served pNop 0 (queue0 .waiting) [], _, _, rfl, rfl, rfl, rfl, rfl⟩,
    ⟨{ desk (queue0 .active) [] with now := 17000 }, _, rfl, rfl, by decide, rfl, rfl, rfl⟩,
    ⟨rival, _, _, rfl, rfl, by decide, rfl, rfl⟩,
    ⟨{ busy { queue0 .active with pre := true } [(1, asking)] with now := 17000 }, _, _, rfl, rfl, by decide, rfl, rfl,
      by decide +kernel, rfl, by decide, rfl⟩,
    ⟨{ busy (queue0 .active) [(1, asking)] with now := State.reset.tenure }, _, rfl, rfl, rfl, rfl, by decide,
      ⟨_, List.mem_cons_of_mem _ List.mem_cons_self, rfl⟩, by decide +kernel⟩,
    ⟨desk { queue0 .preempted with slot := none } [], _, _, rfl, rfl, rfl, rfl, rfl⟩,
    fun st _ => ⟨_, rfl, rfl, rfl, rfl⟩, ⟨rfl, by decide, by decide⟩,
    ⟨{ desk (queue0 .active) [] with queues := [(0, queue0 .active), (1, { queue0 .active with slot := some 4 })] }, _, _, rfl, rfl, rfl, rfl,
      rfl, rfl, rfl, by decide⟩⟩
  · simp only [List.mem_cons, List.not_mem_nil, or_false] at hm
    rcases hm with rfl | rfl <;> decide
  · simp only [List.mem_cons, List.not_mem_nil, or_false] at hs
    rcases hs with rfl | rfl | rfl <;> exact ⟨_, rfl, rfl, by decide, by decide, by decide⟩

/-- Region 0 in a state. -/
abbrev zone (st : RegionState) (lasting : Bool) : State :=
  { land with regions := [(0, { Region.init with st := st, part := some 0, closing := true, lasting := lasting, rail := true, clk := true })] }

/-- Two partitions of one region each. -/
abbrev twoWards : State :=
  { land with
    regions := [(0, { Region.init with st := .assigned, part := some 0, rail := true, clk := true }),
      (1, { Region.init with st := .assigned, part := some 1, rail := true, clk := true })]
    partitions := [(0, ward none none), (1, ⟨[1], 2 ^ 30, none, none, none, none, none, 0⟩)] }

/-- RegionAndContextEventsFollowTheirStates, regions: each state that an event takes a region from; a region to assign and one to
release; clusters of two partitions; a partition to reset, and one whose queue hangs. -/
theorem hyp_region_events :
    (∀ st ∈ [RegionState.off, .gated, .assigned, .ready, .quarantined], ∃ s : State, (s.region 0).st = st ∧ (s.region 0).rail = true ∧ s.firmwareRuns 0 = true) ∧
    (∃ s : State, (s.region 0).rail = false ∧ s.firmwareRuns 0 = true) ∧
    (∃ s : State, (s.region 0).st = .resetting ∧ (s.region 0).closing = true ∧ (s.region 0).powered = true) ∧
    (∀ b : Bool, ∃ s : State, (s.region 0).st = .scrubbing ∧ (s.region 0).lasting = b ∧ (s.region 0).powered = true ∧ s.losesAny 0 [] = false ∧
      s.statusBlock = none) ∧
    (∃ s : State, (s.region 0).st = .ready ∧ (∀ e ∈ s.partitions, 0 ∉ e.2.regions) ∧ s.partLocked 0 = false) ∧
    (∃ s : State, (s.region 0).part = some 0 ∧ (s.region 0).st = .assigned ∧ s.partLocked 0 = false) ∧
    (∃ s : State, s.partOfCluster 0 = some 0 ∧ s.partOfCluster 8 = some 1 ∧ s.partLocked 0 = false ∧ s.partLocked 1 = false ∧
      s.clusterRuns 0 = true ∧ s.clusterRuns 8 = true ∧ s.firmwareRuns 0 = true) ∧
    (∃ (s : State) (x : Partition), s.partition 0 = some x ∧
      ∃ e ∈ s.queues, s.partOfQueue (e.1 / 256) e.2 = some 0 ∧ e.2.st.busy = true ∧ e.2.fenceAt + s.watchdog ≤ s.now) :=
  ⟨fun st _ => ⟨zone st false, rfl, rfl, rfl⟩, ⟨{ land with regions := [] }, rfl, by decide⟩, ⟨zone .resetting false, rfl, rfl, rfl⟩,
    fun b => ⟨zone .scrubbing b, rfl, rfl, rfl, rfl, rfl⟩,
    ⟨{ zone .ready false with partitions := [] }, rfl, by decide, rfl⟩, ⟨zone .assigned false, rfl, rfl, rfl⟩,
    ⟨twoWards, rfl, rfl, rfl, rfl, rfl, rfl, by decide⟩,
    ⟨{ desk (queue0 .active) [] with now := State.reset.watchdog }, _, rfl, _, List.mem_cons_self, rfl, rfl, by decide⟩⟩

/-- A context of function 0. -/
abbrev context0 (st : CtxState) : State :=
  { land with partitions := [(0, ward none none)],
              contexts := [(ctxKey 0 1, ⟨0, 1, 0, st, mkCap 0x9000000000000000 4096 0 0 0x7B, none, [], 0, 4096, (0, 0)⟩)] }

/-- The same statement, contexts: one to create; each state; a grant; a function in each state of its interface. -/
theorem hyp_context_events :
    (∃ (s : State) (cap : TV), s.vfLocked 0 = false ∧ s.context 0 1 = none ∧ (s.vf 0).part = none ∧
      (s.contexts.filter (fun e => decide (e.2.vf = 0) && decide (e.2.st ≠ .destroyed))).length < 256 ∧
      0 + 4096 ≤ s.windowOf (some 0) ∧ 0 < 4096 ∧ s.apart 0 0 1 (0x9000000000000000 + 0) 4096 = true ∧
      narrow (mkCap 0 0 0 0 0x7B) (0x9000000000000000 + 0) (0x9000000000000000 + 0 + 4096) = (cap, true)) ∧
    (∀ st ∈ [CtxState.created, .fenced, .bound, .switchedOut], ∃ (s : State) (c : Context), s.context 0 1 = some c ∧ c.st = st ∧
      s.flash.dfen = false ∧ s.contextQueued 0 1 = false ∧ s.vfLocked 0 = false) ∧
    (∃ (s : State) (c : Context) (cap : TV), s.context 0 1 = some c ∧ c.st ≠ .destroyed ∧ s.vfLocked 0 = false ∧
      (0x43 : Nat) &&& 0x43 = 0x43 ∧ narrow (mkCap 0 0 0 0 (0x43 % 2 ^ 8)) 0x2000 (0x2000 + 4096) = (cap, true) ∧
      4080 % 16 = 0 ∧ capBase c.global ≤ ((0x9000000000000000 + 4080 : Nat) : Int) ∧
      ((0x9000000000000000 + 4080 : Nat) : Int) + 16 ≤ capTop c.global ∧
      s.linesHeld ridgeCluster (privBase c.part + 4080) 16 true = false ∧ s.firmwareRuns 0 = true) ∧
    (∀ t ∈ [TdispState.unlocked, .locked, .run, .error], ∃ s : State, (s.vf 0).tdisp = t) := by
  refine ⟨⟨{ land with partitions := [(0, ward none none)] }, _, rfl, rfl, rfl, by decide, by decide, by decide, rfl, rfl⟩,
    fun st hs => ⟨context0 st, _, rfl, rfl, rfl, ?_, rfl⟩,
    ⟨context0 .bound, _, _, rfl, by decide, rfl, by decide, rfl, rfl, by decide +kernel, by decide +kernel, rfl, by decide⟩,
    fun t _ => ⟨{ land with vfs := [(0, { State.reset.vf 0 with tdisp := t })] }, rfl⟩⟩
  simp only [List.mem_cons, List.not_mem_nil, or_false] at hs
  rcases hs with rfl | rfl | rfl | rfl <;> rfl

/-- HostEventsTakeEffect: a port that is up and one that is down; a sector free for the host, one dirty in its caches; a value that
a compare finds and not; before the package runs; register pages; beats; a fence to end; a period over. -/
theorem hyp_host_events :
    (∃ s : State, s.portUp 0 = true ∧ s.boot = .running ∧ s.flash.hfen = false ∧ 0x2038 % 64 + 8 ≤ 64 ∧ 0x2038 + 8 ≤ 2 ^ 57 ∧ s.portOf 0x2038 = 0 ∧
      s.linesHeld hostCache 0x2038 8 false = false ∧ s.linesHeld hostCache 0x2038 8 true = false ∧
      s.sectorIn (0x2038 / 64) hostCache = .m ∧ s.read 0x2038 8 = 0 % 2 ^ (8 * 8) ∧ s.read 0x2038 8 ≠ 1 % 2 ^ (8 * 8)) ∧
    (∀ n ∈ [16, 17, 18, 19, 20, 21, 22, 23, 24, 25, 26, 27], (hostOp n).isSome = true) ∧
    (∃ s : State, s.portUp 0 = true ∧ s.boot ≠ .running) ∧
    (∀ a ∈ [0, 8, managePage, managePage + 0x7F8], a < managePage + 4096 ∧ a % 8 = 0 ∧ inManageBox a 8 = false) ∧
    inManageBox (managePage + 0xF00) 8 = true ∧ (∃ s : State, s.portUp 0 = true ∧ s.portUp 1 = true) ∧
    (∃ s : State, s.portUp 0 = false) ∧
    (∃ s : State, BitVec.ofNat 64 5 ≠ s.flash.hostBeat ∧ s.flash.en = false) ∧
    (∃ (s : State) (t : Nat), s.flash.hfen = true ∧ s.flash.hostAt = some t ∧ s.now ≤ t + s.flash.per * 1700 ∧
      s.boot = .running ∧ ∃ e ∈ s.contexts, e.2.st = .fenced) ∧
    (∃ s : State, s.flash.en = true ∧ s.flash.dfen = false ∧ s.flash.next ≤ s.now ∧ s.flash.beaten = false ∧
      s.firmwareRuns 0 = true ∧ s.linesHeld ridgeCluster s.flash.addr 8 true = false ∧ s.ridgeQ = []) ∧
    (16 ≤ 16 ∧ 65536 ≤ 65536 ∧ 0x2000 + 64 + 16 * 65536 ≤ 2 ^ 57) := by
  refine ⟨⟨{ land with dir := [(dirKey (0x2038 / 64) hostCache, .m)] }, rfl, rfl, rfl, by decide, by decide, by decide, rfl, rfl,
      rfl, rfl, by decide⟩,
    by decide, ⟨State.reset, rfl, by decide⟩, by decide, by decide, ⟨land, rfl, rfl⟩, ⟨{ land with ports := [(0, false)] }, rfl⟩, ⟨land, by decide, rfl⟩,
    ⟨{ context0 .fenced with flash := { State.reset.flash with hfen := true, hostAt := some 0 } }, _, rfl, rfl, by decide, rfl, _,
      List.mem_cons_self, rfl⟩,
    ⟨{ land with flash := { State.reset.flash with en := true } }, rfl, rfl, by decide, rfl, by decide, rfl, rfl⟩, by decide⟩

/-- The link in a state, its ports' lanes and its flits not yet acknowledged. -/
abbrev linked (st : LinkState) (ports : Nat × Nat) (rp : List HeldFlit) : State :=
  { land with eave := { State.reset.eave with st := st, ports := ports, replay := rp }, partitions := [(0, ward none none)],
              pcieUp := true, accesses := [(0, { outstanding (.load 8 false 3) with phase := .sent })], now := 85000000 }

set_option maxRecDepth 20000 in
/-- LinkEventsMoveStates: the endpoint up and down; an access and a request sent; apertures set and removed; the link in each
state; a flit that was not acknowledged in time; flits whose check holds, of each class, and one whose check fails; a beat and a
sync that are due; strands that wait for the link. -/
theorem hyp_link_events :
    (∃ s : State, s.pcieUp = true ∧ 4088 + 8 ≤ 4096 ∧ 4095 + 1 ≤ 4096 ∧ 5 % 2 = 1 ∧ 2 % 2 = 0) ∧ (∃ s : State, s.pcieUp = false) ∧
    (∃ (s : State) (a : Access), kfind 0 s.accesses = some a ∧ a.phase = .sent ∧ a.kind.posted = false ∧ a.kind ≠ .prefetch ∧
      s.clusterRuns (clusterOf a.core) = true ∧ a.sentAt + 85000000 ≤ s.now) ∧
    (∃ (s : State) (a : Access), kfind 0 s.accesses = some a ∧ a.phase = .sent ∧ a.kind = .red .add 8 7#64) ∧
    (∃ (s : State) (r : PcieReq), kfind 1 s.accesses = none ∧ kfind 1 s.requests = some r ∧ r.answer = none ∧
      r.sentAt + 85000000 ≤ s.now) ∧
    (∀ n ∈ [0, 0x1000], 0x1000 % 4096 = 0 ∧ n % 4096 = 0 ∧ 0x1000 + n ≤ 2 ^ 57 ∧ 2 ^ 63 + n ≤ 2 ^ 64) ∧
    (∀ st ∈ [LinkState.down, .training, .degraded, .fenced], ∃ s : State, s.eave.st = st ∧ s.firmwareRuns 0 = true) ∧
    (∀ e ∈ [(16, 16), (8, 0), (4, 4)], e.1 ∈ [0, 4, 8, 16] ∧ e.2 ∈ [0, 4, 8, 16] ∧ 8 ≤ e.1 + e.2) ∧
    (∃ s : State, s.linkUp = true ∧ 4 ≤ s.eave.ports.1 ∧ 8 ≤ s.eave.ports.2 ∧ 4 + 0 < 8 ∧ 4 + 8 < s.eave.lanes ∧
      3 ≤ s.eave.missed ∧ (∃ e ∈ s.eave.replay, flitField e.flit 25 2 = 0 ∧ e.window + 2 ≤ s.windowNow)) ∧
    (∃ (s : State) (x : Partition), s.linkUp = true ∧ s.partition 0 = some x ∧ s.firmwareRuns 0 = true ∧
      (∀ e ∈ s.partitions, e.1 = 0 ∨ e.2.join = none) ∧ 2 ^ 44 % 2 ^ 44 = 0 ∧ 2 ^ 44 < 2 ^ 57 ∧ 65535 < 2 ^ 16) ∧
    (∀ c < 4, ∃ s : State, s.linkUp = true ∧ flitOk (mkFlit 0 0 0 c [1#64]) = true ∧ flitField (mkFlit 0 0 0 c [1#64]) 0 12 = s.eave.recvSeq ∧
      flitField (mkFlit 0 0 0 c [1#64]) 24 1 = 0 ∧ flitField (mkFlit 0 0 0 c [1#64]) 25 2 = c ∧ s.flitRoom = true) ∧
    flitOk 1 = false ∧
    (∃ s : State, s.linkUp = true ∧ s.eave.beatAt ≤ s.now ∧ s.flitRoom = true ∧ s.firmwareRuns 0 = true ∧ s.firstBox = true ∧
      s.eave.syncAt ≤ s.now) ∧
    (∃ s : State, s.linkUp = true ∧ s.firstBox = false ∧ 0 ≤ ((s.now * 10 / 17 : Nat) : Int) + s.timeAdj) ∧
    (∃ (s : State) (t : Strand), s.strand 0 0 = some t ∧ s.linkWaits 0 t = true) := by
  refine ⟨⟨linked .up (16, 16) [], rfl, by decide, by decide, rfl, rfl⟩, ⟨land, rfl⟩,
    ⟨linked .up (16, 16) [], _, rfl, rfl, rfl, by decide, rfl, by decide⟩,
    ⟨{ (linked .up (16, 16) []) with accesses := [(0, { outstanding (.red .add 8 7#64) with phase := .sent })] }, _, rfl, rfl, rfl⟩,
    ⟨{ (linked .up (16, 16) []) with requests := [(1, ⟨.copy 0, 0x2000, 8, 0, none⟩)] }, _, rfl, rfl, rfl, by decide +kernel⟩, by decide,
    fun st _ => ⟨linked st (0, 0) [], rfl, rfl⟩, by decide,
    ⟨{ linked .up (16, 16) [⟨0, 0, 0, 0⟩] with eave := { State.reset.eave with st := .up, ports := (16, 16), replay := [⟨0, 0, 0, 0⟩], missed := 3 } },
      rfl, by decide, by decide, by decide, by decide, by decide, ⟨_, List.mem_cons_self, by decide +kernel, by decide +kernel⟩⟩,
    ⟨linked .up (16, 16) [], _, rfl, rfl, by decide, by decide, by decide, by decide, by decide⟩,
    fun c hc => ⟨linked .up (16, 16) [], rfl, ?_, ?_, ?_, ?_, rfl⟩, by decide +kernel,
    ⟨linked .up (16, 16) [], rfl, by decide, rfl, by decide, rfl, by decide⟩,
    ⟨{ linked .up (16, 16) [] with eave := { State.reset.eave with st := .up, ports := (16, 16), partner := some 0 } }, rfl,
      by simp [State.firstBox], by decide⟩,
    ⟨sits { loadedStrand with wait := some ⟨.fenceWin, 0, 0, 0⟩ } Core.init, _, rfl, rfl⟩⟩
  all_goals (have h : c = 0 ∨ c = 1 ∨ c = 2 ∨ c = 3 := by omega); rcases h with rfl | rfl | rfl | rfl <;> decide +kernel

/-- FirmwareEventsTakeEffect: cores that pass their test; an image, in recovery and not; an image that allows a higher fuse;
beats due and missed; a spare core and none; regions that are on, and places outside the regions; registers. -/
theorem hyp_firmware_events :
    (∀ die ∈ [0, 1, 2, 3], ∃ k, firstPassing 0x80808080 die [] = some k) ∧
    (∃ s : State, s.boot = .recovery) ∧
    (∃ s : State, s.firmwareRuns 0 = true ∧ s.rollback < 1 ∧ 1 ≤ imageSvn s.slotImage ∧ 1 ≤ 64) ∧
    (∃ s : State, s.boot = .running ∧ s.fwBeatAt ≤ s.now) ∧
    (∃ (s : State) (k : Nat), s.boot = .running ∧ 3 ≤ kget 0 1 s.fwMissed ∧
      firstPassing (0x82 * 2 ^ (8 * 1)) 1 s.fwSpent = some k ∧ kfind 1 s.fwCore = some 1288 ∧ 1288 ≠ k) ∧
    (∃ s : State, s.boot = .running ∧ 3 ≤ kget 0 1 s.fwMissed ∧ firstPassing (0 * 2 ^ (8 * 1)) 1 s.fwSpent = none) ∧
    (∃ (s : State) (x : Partition), (s.region 0).st ≠ .off ∧ (s.region 0).st = .assigned ∧ (s.region 0).part = some 0 ∧
      s.partition 0 = some x ∧ 0 ∈ x.regions) ∧
    (∃ (s : State) (j : Nat), j ∈ coresOfCluster (160 + 1) ∧ kfind 1 s.fwCore = some (coreOfSlot (160 + 1) 0) ∧
      j ≠ coreOfSlot (160 + 1) 0 ∧ j ∉ s.fwSpent ∧ kfind 2 s.fwCore ≠ some (coreOfSlot (160 + 2) 7)) ∧
    (∃ s : State, s.pacingAt ≤ s.now) ∧
    (∀ i ∈ [0x002, 0x00A, 0x00B, 0x00C, 0x003, 0x004, 0x005], (SysReg.ofIndex i).isSome = true) ∧
    (∃ s : State, (s.strand 0 0).isSome = true) :=
  ⟨fun die hd => by
      simp only [List.mem_cons, List.not_mem_nil, or_false] at hd
      rcases hd with rfl | rfl | rfl | rfl <;> exact ⟨_, rfl⟩,
    ⟨{ land with boot := .recovery }, rfl⟩,
    ⟨{ land with slotImage := List.replicate 8 0#8 ++ [1#8, 0#8, 0#8, 0#8] }, by decide, by decide, by decide, by decide⟩,
    ⟨{ land with now := State.reset.fwBeatAt }, rfl, Nat.le_refl _⟩,
    ⟨{ land with fwCore := [(1, 1288)], fwSpent := [1288], fwMissed := [(1, 3)] }, _, rfl, by decide, rfl, rfl, by decide⟩,
    ⟨{ land with fwMissed := [(1, 3)] }, rfl, by decide, rfl⟩,
    ⟨{ land with partitions := [(0, ward none none)] }, _, by decide, rfl, rfl, rfl, by decide⟩,
    ⟨{ land with fwCore := [(1, coreOfSlot 161 0)] }, coreOfSlot 161 1, by decide, rfl, by decide, by decide, by decide⟩,
    ⟨{ land with now := State.reset.pacingAt }, Nat.le_refl _⟩, by decide,
    ⟨one loadedStrand, rfl⟩⟩
/-- AccessChecksTrapInOrder, the space: an address below XOBOUND for a load and for a store. -/
theorem hyp_access_space :
    (∃ f, (w2 capS (w64 1)).place 0 (2 ^ 63 + 0x800) 8 false false = .bad f ∧
      (w2 capS (w64 1)).place 0 (2 ^ 63 + 0x800) 8 true false = .bad f) ∧ (2 ^ 63 + 0x2001) % 8 ≠ 0 := ⟨⟨5, by decide +kernel⟩, by decide⟩

/-- StoresAndAtomicsChangeOnlyTheirBytes: 64 bytes of a record, a tagged operand of `cas.128`, a reduction, a releasing store. -/
theorem hyp_store_frames :
    (capAddr capS % 64 = 0 ∧ Reaches (w2 capS (w64 1)) capS (capAddr capS) 64 permStore true false (2 ^ 63 + 0x2000) ∧
      capHas capS permStoreCap = true) ∧
    (capS.tag = true ∧ Reaches (w2 capS capS) capS (capAddr capS) 16 ((permLoad ||| permStore ||| permAtomic) ||| permStoreCap) true true
      (2 ^ 63 + 0x2000)) ∧
    (∀ k ∈ [4, 8], Reaches (w2 capS (w64 1)) capS (capAddr capS) k (permStore ||| permAtomic) true true (2 ^ 63 + 0x2000) ∧
      Reaches (w2 capS (w64 1)) capS (capAddr capS) k permStore true true (2 ^ 63 + 0x2000)) ∧
    ReleasedAt (w2 capS (w64 1)) 3 ∧ RidgeOk (w2 capS (w64 1)) 3#3 (2 ^ 63 + 0x2000) := by
  unfold Reaches ReleasedAt Released FabricDone RidgeOk
  decide

/-- SystemRegistersStoreAndReadUnderTheirRules: a strand of a group; the power limit at reset. -/
theorem hyp_register_reads : (∃ (s : State) (t : Strand) (g : Group), s.strand 0 0 = some t ∧ s.groupOn 0 t.gid = some g ∧ s.pwrLim < 2 ^ 16) :=
  ⟨sits loadedStrand Core.init, _, _, rfl, rfl, by decide⟩

/-- TranslationFormsProbeAndInvalidate: a page in the cluster's ATC, one in the die's, one in each state, one unknown. -/
theorem hyp_probes :
    (∃ (s : State) (e : AtcEntry), e.size ≤ 5 ∧ (s.cluster 0).atc.find? (·.holds (s.ctxIds 0).1 (s.ctxIds 0).2 0x2000) = some e) ∧
    (∃ (s : State) (e : AtcEntry), e.size ≤ 5 ∧ (s.cluster 0).atc.find? (·.holds (s.ctxIds 0).1 (s.ctxIds 0).2 0x2000) = none ∧
      (s.dieAtcOf 0).find? (·.holds (s.ctxIds 0).1 (s.ctxIds 0).2 0x2000) = some e) ∧
    (∀ st ∈ [PageState.translating, .notPresent, .requested, .failed], ∃ (s : State) (r : PageRec), r.st = st ∧
      (s.cluster 0).atc = [] ∧ s.dieAtcOf 0 = [] ∧ s.pageRec 0 (s.ctxIds 0).1 (s.ctxIds 0).2 (0x2000 / 4096) = some r) ∧
    (∃ s : State, (s.cluster 0).atc = [] ∧ s.dieAtcOf 0 = [] ∧ s.pageRec 0 (s.ctxIds 0).1 (s.ctxIds 0).2 (0x2000 / 4096) = none) :=
  ⟨⟨mapped, _, by decide, rfl⟩,
    ⟨{ land with dieAtc := [(0, [⟨0, 0, 0, 0x2000, 0x5000, true, true, false, false⟩])] }, _, by decide, rfl, rfl⟩,
    fun st _ => ⟨{ land with pages := [⟨0, 0, 0, 2, st, [⟨.tile 0, 0x2040, true, 0⟩]⟩], engineFails := [(.tile 0, (0x12, 0x2040))] },
      ⟨0, 0, 0, 2, st, [⟨.tile 0, 0x2040, true, 0⟩]⟩, rfl, rfl, rfl, by cases st <;> decide +kernel⟩, ⟨land, rfl, rfl, rfl⟩⟩

/-- RegisterFormsChangeOnlyTheirDestination: three sources, and none. -/
theorem hyp_frame_forms :
    ∃ s t, Turn s t ∧ Plain t s.now [1#6, 2#6, 4#6] [3#6] ∧ Plain t s.now [] [3#6] ∧ Plain t s.now [1#6] [0#6] :=
  ⟨_, _, turn_bench land core0 loadedStrand (w64 1) (w64 2) TV.zero, by unfold Plain; decide, by unfold Plain; decide,
    by unfold Plain; decide⟩

theorem ty_flat : (flat capB 0x05 32 1 false).ty = .int true 32 := by decide +kernel

/-- IntegerElementAndHypervectorOperationsComputeTheirResults: an entry with a signed destination of each operation, and one of
each operation of the hypervector registers. -/
theorem hyp_entry_forms :
    (∀ op ∈ [VOp.vcmpEq, .vcmpLt, .vcmpLe, .vsel, .vcopy, .vfill, .viota], ∃ (e : VEntry) (sg : Bool) (w : Nat), e.op = op ∧
      e.sd.ty = .int sg w) ∧
    (∀ op ∈ [VOp.hbind, .hnot, .hmv, .hperm, .hclr, .hham, .hpopc, .hgetb, .hbund, .hthr], ∃ (s : State) (e : VEntry) (t : Strand),
      e.op = op ∧ s.strand 0 e.slot = some t ∧ e.tie ≠ 3) :=
  ⟨fun op _ => ⟨{ v2 op 1#4 1#4 with sd := flat capB 0x05 32 1 false }, true, 32, rfl, ty_flat⟩,
    fun op _ => ⟨sits loadedStrand Core.init, { v2 op 1#4 1#4 with tie := 0 }, loadedStrand, rfl, rfl, Nat.zero_ne_add_one 2⟩⟩

/-- RoundingsFollowTheirModes: a code of a format; a sum that is not zero and one that is; a root; integers below, within and above
a range; E8M0 exponents below, within and above its range; NaN operands, one and two. -/
theorem hyp_roundings :
    (0x7E ≤ Fmt.e4m3.maxCode) ∧ (finValue false 3 0 + finValue true 1 0 ≠ 0 ∧ finValue false 3 0 + finValue true 3 0 = 0) ∧
    ((4 : Nat) ≠ 0 ∧ (0 : ℝ) < 2 ∧ (2 : ℝ) * 2 = ((4 : Nat) : ℝ) * 2 ^ (0 : Int)) ∧
    (∀ v ∈ [(-129 : Int), -128, 127, 128], v < -128 ∨ -128 ≤ v ∧ v ≤ 127 ∨ 127 < v) ∧
    (∀ r ∈ [(-128 : Int), -127, 127, 128], r < -127 ∨ -127 ≤ r ∧ r ≤ 127 ∨ 127 < r) ∧
    (∀ p ∈ [(0x7FC00000, true), (0x7F800000, false)], p.1 < 2 ^ Fmt.width .f32 ∧ (Fmt.decode .f32 p.1).isNaN = p.2) := by
  refine ⟨by decide, ⟨by norm_num [finValue], by norm_num [finValue]⟩, by norm_num, by decide, by decide, by decide⟩

/-- BlocksRowsFunctionsAndSearchesGiveTheirValues, values: pairs that hold a NaN, an infinity and only numbers; 32 pairs; rows of
lengths about a chunk; numbers split; a bare entry to gather and one to search with. -/
theorem hyp_values :
    ((∃ p ∈ [((FVal.nan false), (FVal.fin false 1 0))], p.1.isNaN = true ∨ p.2.isNaN = true) ∧
      mulExact (.inf false) (.fin false 0 0) = none ∧ mulExact (.inf false) (.fin true 1 0) = some (.inf true) ∧
      mulExact (.inf true) (.fin true 1 0) = some (.inf false)) ∧
    ((List.replicate 32 (0, 0)).length = 32) ∧ (0 < 5 ∧ 2 ^ 4 < 17 ∧ 32 ≤ 2 ^ (4 + 1) ∧ 64 % 32 = 0) ∧
    ((1 : Nat) ≠ 0 ∧ 2 ^ 24 - 1 < 2 ^ 24) ∧
    (∃ n m e, fv 0x3FC00000 = .fin n m e ∧ m ≠ 0 ∧ n = false) ∧ (∃ n m e, fv 0xBFC00000 = .fin n m e ∧ m ≠ 0 ∧ n = true) ∧
    (∃ n e, fv 0x80000000 = .fin n 0 e) ∧ fv 0xFF800000 = .inf true ∧ (fv 0x7FC00000).isNaN = true ∧
    (flat capB 0x05 32 1 false).ty = .int true 32 := by
  refine ⟨⟨⟨_, List.mem_singleton.mpr rfl, Or.inl rfl⟩, rfl, rfl, rfl⟩, rfl, by decide, by decide, ⟨_, _, _, rfl, by decide, rfl⟩,
    ⟨_, _, _, rfl, by decide, rfl⟩, ⟨_, _, rfl⟩, rfl, rfl, ty_flat⟩

/-- An entry of 32 index elements of 32 bits over a table of `n` elements. -/
abbrev indexed (op : VOp) (n : Nat) : VEntry :=
  { v2 op 1#4 1#4 with sa := flat capB 0x05 32 1 false, sb := flat capB 0x05 n 1 false, sd := flat capB 0x05 n 1 false, slot := 0 }

/-- An element was read. -/
def isOk {α β γ : Type} : EStateM.Result α β γ → Bool
  | .ok _ _ => true
  | _ => false

theorem ok_of_isOk {α β γ : Type} {r : EStateM.Result α β γ} (h : isOk r = true) : ∃ v s, r = .ok v s := by
  cases r <;> first | exact ⟨_, _, rfl⟩ | cases h

/-- The same statement, elements: an index within the table and one outside, read from memory, with the destination's
location; a distance found, and the conditions of a search. -/
theorem hyp_elements_read :
    (∃ (s s1 s2 : State) (e : VEntry) (c : Nat) (w : Dest), readElem 0 e.shA e.popA 0 s = .ok c s1 ∧ destOf 0 e.shD 0 s1 = .ok w s2) ∧
    (tableIndex (indexed .vgath 1).sa (indexed .vgath 1).sb 0 = some 0 ∧
      tableIndex (indexed .vgath 1).sa (indexed .vgath 1).sb 1 = none) ∧
    (∀ op ∈ [VOp.hsrch, .hsrchk, .hsrcht], ∃ (s s1 : State) (e : VEntry) (t : Strand) (v : Nat), e.op = op ∧
      s.strand 0 e.slot = some t ∧ readElem 0 e.shA [] 0 s = .ok v s1) := by
  obtain ⟨c, s1, h1⟩ := ok_of_isOk (r := readElem 0 (indexed .vgath 32).shA (indexed .vgath 32).popA 0 (queued entry0 [])) (by decide +kernel)
  obtain ⟨v, s3, h3⟩ := ok_of_isOk (r := readElem 0 (indexed .hsrch 32).shA [] 0 (queued entry0 [])) (by decide +kernel)
  have h2 : ∃ w s2, destOf 0 (indexed .vgath 32).shD 0 s1 = .ok w s2 := by
    have e := congrArg (fun r => match r with | .ok _ u => isOk (destOf 0 (indexed .vgath 32).shD 0 u) | _ => false) h1
    exact ok_of_isOk (e.symm.trans (by decide +kernel))
  obtain ⟨w, s2, h2⟩ := h2
  exact ⟨⟨_, s1, s2, indexed .vgath 32, c, w, h1, h2⟩, by decide +kernel,
    fun op _ => ⟨_, s3, { indexed .hsrch 32 with op := op }, _, v, rfl, rfl, h3⟩⟩
end Sys2Proof.Tests
end

section
/-! PROOF. The system registers: what names one, what a write stores and what a read gives (R23 to R28, R424 to R429,
R453). -/
namespace Sys2Proof.Machine

/-! ### Forms that trap before they read an operand (R86, R425, R434) -/

/-- A meaning whose first part traps. -/
theorem traps_first {α : Type} {sc : Nat} {m : M α} {f : α → M Flow} {s s2 : State} {t : Strand} {c : Nat} {v : Word}
    (ht : Turn s t) (hm : m (s.settled t) = .error (.trap c v) s2) : runInstr sc (m >>= f) s = traps c v t s2 :=
  runInstr_trap ht (by rw [M.bind_apply, hm])

/-- R425, R453: a tenant names a firmware register. -/
theorem sysNamed_firmware_index {s : State} {t : Strand} {word : BitVec 32} {idx : BitVec 12} {write : Bool}
    {fields : List (BitVec 6)} (hc : s.cur = some t) (hi : 0x800 ≤ idx.toNat) (hp : privileged s.turn.1 = false) :
    sysNamed word idx write fields s = .error (.trap 0x02 (word.setWidth 64)) s := by
  simp [sysNamed, M.bind_apply, M.getStrand_apply hc, hi, hp]

/-- R28, R425: a write names a register that is read-only at the strand's privilege. -/
theorem sysNamed_readOnly {s : State} {t : Strand} {word : BitVec 32} {idx : BitVec 12} {fields : List (BitVec 6)}
    {r : SysReg} (hc : s.cur = some t) (hr : SysReg.ofIndex idx.toNat = some r)
    (hro : r.readOnly (privileged s.turn.1) = true) :
    sysNamed word idx true fields s = .error (.trap 0x02 (word.setWidth 64)) s := by
  by_cases hf : 0x800 ≤ idx.toNat ∧ privileged s.turn.1 = false
  · exact sysNamed_firmware_index hc hf.1 hf.2
  · simp [sysNamed, M.bind_apply, M.getStrand_apply hc, hf, hr, hro, -bind_pure_comp]

section
variable {s : State} {t : Strand} {word : BitVec 32} {idx : BitVec 12} {write : Bool} {fields : List (BitVec 6)}
  (hc : s.cur = some t) (hi : idx.toNat < 0x800 ∨ privileged s.turn.1 = true) (hr : SysReg.ofIndex idx.toNat = none)
include hc hi hr

/-- R86, R425: an index that names no register, with every q register of the word bound. -/
theorem sysNamed_unnamed (hb : firstUnbound t fields = none) :
    sysNamed word idx write fields s = .error (.trap 0x01 (word.setWidth 64)) s := by
  have hf : ¬ (0x800 ≤ idx.toNat ∧ privileged s.turn.1 = false) := by rcases hi with h | h <;> simp [h]
  simp [sysNamed, M.bind_apply, M.getStrand_apply hc, hf, hr, hb]

/-- R64, R425: an unbound q register comes before an index that names no register. -/
theorem sysNamed_unnamed_unbound {q : Nat} (hb : firstUnbound t fields = some q) :
    sysNamed word idx write fields s = .error (.trap 0x0C (BitVec.ofNat 64 q)) s := by
  have hf : ¬ (0x800 ≤ idx.toNat ∧ privileged s.turn.1 = false) := by rcases hi with h | h <;> simp [h]
  simp [sysNamed, M.bind_apply, M.getStrand_apply hc, hf, hr, hb]

end

section
variable {s : State} {t : Strand} {d a : BitVec 6} {idx : BitVec 12} {c : Nat} {v : Word} (ht : Turn s t)
include ht

/-- R429: `sget` traps as the naming of its register does. -/
theorem sget_traps (h : sysNamed (encode (.sget d idx)) idx false [d] (s.settled t) = .error (.trap c v) (s.settled t)) :
    exec (.sget d idx) s = traps c v t (s.settled t) := traps_first ht h

/-- R429: `sset` traps as the naming of its register does. -/
theorem sset_traps (h : sysNamed (encode (.sset a idx)) idx true [a] (s.settled t) = .error (.trap c v) (s.settled t)) :
    exec (.sset a idx) s = traps c v t (s.settled t) := traps_first ht h

/-- R429: `sswap` traps as the naming of its register does. -/
theorem sswap_traps
    (h : sysNamed (encode (.sswap d a idx)) idx true [a, d] (s.settled t) = .error (.trap c v) (s.settled t)) :
    exec (.sswap d a idx) s = traps c v t (s.settled t) := traps_first ht h

/-- R434: a tenant's `halt`. -/
theorem halt_traps_tenant {sc : BitVec 2} (hp : privileged s.turn.1 = false) :
    exec (.halt sc) s = traps 0x02 ((encode (.halt sc)).setWidth 64) t (s.settled t) :=
  runInstr_trap ht (by simp [M.bind_apply, hp])

/-- R358: a tenant's `atcinv`. -/
theorem atcinv_traps_tenant {b : BitVec 6} {sc : BitVec 2} (hp : privileged s.turn.1 = false) :
    exec (.atcinv d a b sc) s = traps 0x02 ((encode (.atcinv d a b sc)).setWidth 64) t (s.settled t) :=
  runInstr_trap ht (by simp [M.bind_apply, hp])

end

/-- R28, R424, R425: the indexes of the registers that are read-only at a privilege. -/
theorem readOnly_of_index {idx : BitVec 12} {firmware : Bool}
    (h : idx = 0x001#12 ∨ idx = 0x020#12 ∨ idx = 0x021#12 ∨ idx = 0x022#12 ∨ idx = 0x030#12 ∨ idx = 0x031#12 ∨
      idx = 0x032#12 ∨ idx = 0x033#12 ∨ idx = 0x034#12 ∨ idx = 0x800#12 ∨ (idx = 0x009#12 ∧ firmware = false)) :
    ∃ r, SysReg.ofIndex idx.toNat = some r ∧ r.readOnly firmware = true := by
  rcases h with rfl | rfl | rfl | rfl | rfl | rfl | rfl | rfl | rfl | rfl | ⟨rfl, rfl⟩ <;> exact ⟨_, rfl, rfl⟩

/-- Settles O22: every one of these traps is met before an operand is read, `halt` and `atcinv` at their privilege and the
three register forms where they name their register. -/
theorem privilegedFormsTrapForTenants : Obligations.PrivilegedFormsTrapForTenants := by
  unfold Obligations.PrivilegedFormsTrapForTenants
  intro s t d a b sc idx ht
  have hc : (s.settled t).cur = some (t.settle s.now) := cur_settled s t
  refine ⟨fun hp => ⟨halt_traps_tenant ht hp, atcinv_traps_tenant ht hp, fun hi => ?_⟩, fun hidx => ?_,
    fun hi hr i fields hm => ?_⟩
  · exact ⟨sget_traps ht (sysNamed_firmware_index hc hi hp), sset_traps ht (sysNamed_firmware_index hc hi hp),
      sswap_traps ht (sysNamed_firmware_index hc hi hp)⟩
  · obtain ⟨r, hr, hro⟩ := readOnly_of_index hidx
    exact ⟨sset_traps ht (sysNamed_readOnly hc hr hro), sswap_traps ht (sysNamed_readOnly hc hr hro)⟩
  · simp only [List.mem_cons, Prod.mk.injEq, List.not_mem_nil, or_false] at hm
    obtain ⟨rfl, rfl⟩ | ⟨rfl, rfl⟩ | ⟨rfl, rfl⟩ := hm
    · exact ⟨fun hb => sget_traps ht (sysNamed_unnamed hc hi hr hb),
        fun q hb => sget_traps ht (sysNamed_unnamed_unbound hc hi hr hb)⟩
    · exact ⟨fun hb => sset_traps ht (sysNamed_unnamed hc hi hr hb),
        fun q hb => sset_traps ht (sysNamed_unnamed_unbound hc hi hr hb)⟩
    · exact ⟨fun hb => sswap_traps ht (sysNamed_unnamed hc hi hr hb),
        fun q hb => sswap_traps ht (sysNamed_unnamed_unbound hc hi hr hb)⟩

end Sys2Proof.Machine
end

section
/-! PROOF. What each system register stores and what a read of each gives (R23 to R27, R46, R147, R243, R317, R327, R424
to R428, R453). -/
namespace Sys2Proof.Machine

/-! ### Values of numbers -/

theorem TV.ofWord_bits_toNat (w : Word) : (TV.ofWord w).bits.toNat = w.toNat :=
  BitVec.toNat_setWidth_of_le (by decide)

theorem TV.ofNat_bits_toNat {n : Nat} (h : n < 2 ^ 128) : (TV.ofNat n).bits.toNat = n := by
  rw [TV.ofNat, BitVec.toNat_ofNat, Nat.mod_eq_of_lt h]

theorem TV.ofNat_bits_toNat_of_eq {n m : Nat} (h : n = m) (hm : m < 2 ^ 128) : (TV.ofNat n).bits.toNat = m :=
  h ▸ TV.ofNat_bits_toNat (h ▸ hm)

theorem TV.ofNat_lo_toNat {n : Nat} (h : n < 2 ^ 64) : (TV.ofNat n).lo.toNat = n := by
  rw [TV.lo, BitVec.extractLsb'_toNat, TV.ofNat_bits_toNat (Nat.lt_trans h (by decide)), Nat.shiftRight_zero,
    Nat.mod_eq_of_lt h]

/-- A narrower value widened to a word is its number. -/
theorem TV.ofWord_setWidth {n : Nat} (hn : n ≤ 64) (x : BitVec n) : TV.ofWord (x.setWidth 64) = TV.ofNat x.toNat := by
  have h : x.toNat < 2 ^ 128 := Nat.lt_of_lt_of_le x.isLt (Nat.pow_le_pow_right (by decide) (by omega))
  have hb : (TV.ofWord (x.setWidth 64)).bits = (TV.ofNat x.toNat).bits := by
    apply BitVec.eq_of_toNat_eq
    rw [TV.ofWord_bits_toNat, TV.ofNat_bits_toNat h, BitVec.toNat_setWidth_of_le hn]
  exact congrArg (TV.mk · false) hb

/-! ### STATUS (R38, R426) -/

theorem Strand.status_toNat (t : Strand) : t.status.toNat =
    (if t.chk then 1 else 0) + t.rm.toNat * 2 + t.sr.toNat * 16 + (if t.ovl then 512 else 0) := by
  have hrm := t.rm.isLt
  have hsr := t.sr.isLt
  unfold Strand.status
  rw [BitVec.toNat_ofNat, Nat.mod_eq_of_lt (by split <;> split <;> omega)]

theorem Strand.status_lt (t : Strand) : t.status.toNat < 2 ^ 10 := by
  have hrm := t.rm.isLt
  have hsr := t.sr.isLt
  rw [t.status_toNat]
  split <;> split <;> omega

/-- R38: the rounding mode that a word of STATUS stores. -/
theorem rmStore_field (w : Word) :
    rmStore (w.toNat / 2 % 8) = if (w.extractLsb' 1 3).toNat ≤ 4 then w.extractLsb' 1 3 else 0#3 := by
  have h : (w.extractLsb' 1 3).toNat = w.toNat / 2 % 8 := by simp [Nat.shiftRight_eq_div_pow]
  rw [h, rmStore, ← h, BitVec.ofNat_toNat, BitVec.setWidth_eq]

/-! ### RGCTL (R453) -/

theorem Region.control_lt (x : Region) : x.control < 16 := by
  unfold Region.control
  cases x.rail <;> cases x.clk <;> cases x.rst <;> cases x.gate <;> decide

/-- The controls of the five regions of a die. -/
theorem State.controls_lt (s : State) (die : Nat) :
    (s.region (die * 5)).control < 16 ∧ (s.region (die * 5 + 1)).control < 16 ∧ (s.region (die * 5 + 2)).control < 16 ∧
      (s.region (die * 5 + 3)).control < 16 ∧ (s.region (die * 5 + 4)).control < 16 :=
  ⟨Region.control_lt _, Region.control_lt _, Region.control_lt _, Region.control_lt _, Region.control_lt _⟩

theorem State.rgctl_eq (s : State) (die : Nat) : s.rgctl die =
    (s.region (die * 5)).control + (s.region (die * 5 + 1)).control * 2 ^ 4 + (s.region (die * 5 + 2)).control * 2 ^ 8 +
      (s.region (die * 5 + 3)).control * 2 ^ 12 + (s.region (die * 5 + 4)).control * 2 ^ 16 := by
  simp [State.rgctl, List.range_succ, Nat.add_assoc]

theorem State.rgctl_lt (s : State) (die : Nat) : s.rgctl die < 2 ^ 20 := by
  have h := s.controls_lt die
  rw [s.rgctl_eq]
  omega

/-- R453: four bits of RGCTL for each region of the die. -/
theorem State.rgctl_region (s : State) (die : Nat) {i : Nat} (hi : i < 5) :
    s.rgctl die / 2 ^ (4 * i) % 16 = (s.region (die * 5 + i)).control := by
  have h := s.controls_lt die
  rw [s.rgctl_eq]
  interval_cases i <;> norm_num <;> omega

/-- A bit of one region's four. -/
theorem State.rgctl_bit (s : State) (die : Nat) {i n : Nat} (hi : i < 5) (hn : n < 4) :
    s.rgctl die / 2 ^ (4 * i + n) % 2 = (s.region (die * 5 + i)).control / 2 ^ n % 2 := by
  rw [← s.rgctl_region die hi, Nat.pow_add, ← Nat.div_div_eq_div_mul]
  generalize s.rgctl die / 2 ^ (4 * i) = m
  interval_cases n <;> norm_num <;> omega

theorem Region.control_bits (x : Region) :
    decide (x.control / 2 ^ 0 % 2 = 1) = x.rail ∧ decide (x.control / 2 ^ 1 % 2 = 1) = x.clk ∧
      decide (x.control / 2 ^ 2 % 2 = 1) = x.rst ∧ decide (x.control / 2 ^ 3 % 2 = 1) = x.gate := by
  unfold Region.control
  cases x.rail <;> cases x.clk <;> cases x.rst <;> cases x.gate <;> decide

/-- R453: the word read from RGCTL changes no control when it is written back. -/
theorem State.writeRgctl_rgctl (s : State) (die : Nat) : s.writeRgctl die (s.rgctl die) = s := by
  unfold State.writeRgctl
  refine List.foldlRecOn (motive := (· = s)) _ _ rfl ?_
  rintro st rfl i hi
  have hi5 := List.mem_range.1 hi
  have hbit := fun n (hn : n < 4) => st.rgctl_bit die hi5 hn
  simp only [hbit 0 (by decide), hbit 1 (by decide), hbit 2 (by decide), hbit 3 (by decide), Region.control_bits, ne_eq,
    not_true_eq_false, if_false]

/-! ### Identity (R23 to R27) -/

/-- R11, R14: where a tenant core stands. -/
theorem coordinates_tenant {k : Nat} (h : k < 1280) :
    isFinial k = false ∧ coreDie k = k / 320 ∧ coreRow k = k % 320 / 16 ∧ coreCol k = k % 16 := by
  simp [isFinial, coreDie, coreRow, coreCol, h]

/-- R14: where a finial core stands. -/
theorem coordinates_finial (die : Nat) {i k : Nat} (hi : i < 8) (hk : k = 1280 + die * 8 + i) :
    isFinial k = true ∧ coreDie k = die ∧ coreRow k = 20 + i / 4 ∧ coreCol k = 6 + i % 4 := by
  have h : ¬ k < 1280 := by omega
  simp only [isFinial, coreDie, coreRow, coreCol, h, if_false, decide_eq_true_eq]
  omega

theorem clusterOf_tenant {k : Nat} (h : k < 1280) :
    clusterOf k = k / 320 * 40 + (k % 320 / 16 / 2 * 4 + k % 16 / 4) := by
  obtain ⟨-, hd, hr, hc⟩ := coordinates_tenant h
  simp [clusterOf, h, hd, hr, hc, Nat.add_assoc]

/-- R26: the fields of DIEID that are not fused. -/
theorem dieIdWord_mod (k : Nat) (h : coreDie k < 4) :
    dieIdWord k % 2 ^ 24 = coreDie k + 4 * 2 ^ 2 + 20 * 2 ^ 5 + 16 * 2 ^ 10 + 5 * 2 ^ 15 + 40 * 2 ^ 18 := by
  unfold dieIdWord
  omega

/-- R26: DIEID has 48 bits. -/
theorem dieIdWord_lt (k : Nat) (h : coreDie k < 4) : dieIdWord k < 2 ^ 48 := by
  have hs := (Config.dieStep (coreDie k)).isLt
  have hp := Config.diePart.isLt
  unfold dieIdWord
  generalize (Config.dieStep (coreDie k)).toNat = step at *
  generalize Config.diePart.toNat = part at *
  omega

/-- R14: a finial core belongs to no partition. -/
theorem partOfCore_finial (s : State) {k : Nat} (h : 1280 ≤ k) : s.partOfCore k = none := by
  simp [State.partOfCore, regionOf, Nat.not_lt.2 h]

/-- R24: the slot of a finial core in its cluster. -/
theorem slotInCluster_finial (die : Nat) {i k : Nat} (hi : i < 8) (hk : k = 1280 + die * 8 + i) :
    slotInCluster k = i / 4 * 4 + (6 + i % 4) % 4 := by
  obtain ⟨-, -, hr, hc⟩ := coordinates_finial die hi hk
  rw [slotInCluster, hr, hc]
  omega

theorem coreIdWord_tenant {k : Nat} (h : k < 1280) :
    coreIdWord k = k % 16 + k % 320 / 16 * 16 + k / 320 * 512 + k * 2 ^ 11 := by
  obtain ⟨hf, hd, hr, hc⟩ := coordinates_tenant h
  simp [coreIdWord, coreIdLow, hf, hd, hr, hc]

theorem clusterIdWord_tenant {k : Nat} (h : k < 1280) :
    clusterIdWord k = (k % 320 / 16 / 2 * 4 + k % 16 / 4) + k / 320 * 2 ^ 6 +
      (k / 320 * 40 + k % 320 / 16 / 2 * 4 + k % 16 / 4) * 2 ^ 8 + (k % 320 / 16 % 2 * 4 + k % 16 % 4) * 2 ^ 16 := by
  obtain ⟨hf, hd, hr, hc⟩ := coordinates_tenant h
  simp only [clusterIdWord, slotInCluster, clusterOf_tenant h, hf, hd, hr, hc, Bool.false_eq_true, if_false]
  omega

theorem regionIdWord_tenant {k : Nat} (h : k < 1280) :
    regionIdWord k = k % 320 / 16 / 4 + k / 320 * 8 + (k / 320 * 5 + k % 320 / 16 / 4) * 32 := by
  obtain ⟨-, hd, hr, -⟩ := coordinates_tenant h
  simp only [regionIdWord, regionOf, h, hd, hr, if_true]
  omega

theorem coreIdWord_finial (die : Nat) {i k : Nat} (hi : i < 8) (hk : k = 1280 + die * 8 + i) :
    coreIdWord k = (6 + i % 4) + (20 + i / 4) * 16 + die * 512 + 0x7FF * 2 ^ 11 + 2 ^ 22 := by
  obtain ⟨hf, hd, hr, hc⟩ := coordinates_finial die hi hk
  simp [coreIdWord, coreIdLow, hf, hd, hr, hc]

theorem clusterIdWord_finial (die : Nat) {i k : Nat} (hi : i < 8) (hk : k = 1280 + die * 8 + i) :
    clusterIdWord k = 40 + die * 2 ^ 6 + 0xFF * 2 ^ 8 + (i / 4 * 4 + (6 + i % 4) % 4) * 2 ^ 16 := by
  obtain ⟨hf, hd, -, -⟩ := coordinates_finial die hi hk
  simp [clusterIdWord, hf, hd, slotInCluster_finial die hi hk]

theorem regionIdWord_finial (die : Nat) {i k : Nat} (hi : i < 8) (hk : k = 1280 + die * 8 + i) :
    regionIdWord k = 7 + die * 8 + 31 * 32 := by
  obtain ⟨-, hd, -, -⟩ := coordinates_finial die hi hk
  have h : ¬ k < 1280 := by omega
  simp [regionIdWord, regionOf, h, hd]

/-! ### Writes (R46, R147, R243, R317, R327, R425 to R428, R453) -/

/-- The cores of a cluster keep their registers while the cluster changes. -/
theorem core_updCluster (s : State) (cl k : Nat) (f : Cluster → Cluster) : (s.updCluster cl f).core k = s.core k := rfl

section
variable (s : State) (k sl : Nat) (w : Word)

/-- R427: bits 1 and 0 of TRAPVEC store 0. -/
theorem core_sysWrite_trapVec : (s.sysWrite k sl .trapVec w).core k = { s.core k with trapVec := w &&& ~~~3#64 } :=
  core_updCore_same s k _

/-- R147, R149: a write of XOBOUND changes the boundary of the core, and not the one that its fetches keep. -/
theorem core_sysWrite_xobound : (s.sysWrite k sl .xobound w).core k = { s.core k with xobound := boundStore w } :=
  (core_updCluster _ _ k _).trans (core_updCore_same s k _)

/-- R305: MEMBER holds the whole word. -/
theorem core_sysWrite_member : (s.sysWrite k sl .member w).core k = { s.core k with memberReg := w } :=
  core_updCore_same s k _

/-- R428: SPINBUDGET has 32 bits. -/
theorem core_sysWrite_spinBudget :
    (s.sysWrite k sl .spinBudget w).core k = { s.core k with spinBudget := (w.setWidth 32).setWidth 64 } :=
  core_updCore_same s k _

/-- R327: BARTIMEOUT has 32 bits. -/
theorem core_sysWrite_barTimeout :
    (s.sysWrite k sl .barTimeout w).core k = { s.core k with barTimeout := (w.setWidth 32).setWidth 64 } :=
  core_updCore_same s k _

/-- R317: XMON has two bits. -/
theorem core_sysWrite_xmon : (s.sysWrite k sl .xmon w).core k = { s.core k with xmon := w &&& 3#64 } :=
  core_updCore_same s k _

/-- R46: SRSEED holds no zero. -/
theorem core_sysWrite_srSeed : (s.sysWrite k sl .srSeed w).core k = { s.core k with srSeed := seedStore w } :=
  core_updCore_same s k _

/-- R243: TIESEED holds no zero. -/
theorem core_sysWrite_tieSeed : (s.sysWrite k sl .tieSeed w).core k = { s.core k with tieSeed := tieStore w } :=
  core_updCore_same s k _

end

/-- R147: the boundary stored is a multiple of 256 up to the end of the scratchpad. -/
theorem boundStore_toNat (w : Word) : (boundStore w).toNat = min w.toNat 0x80000 / 256 * 256 := by
  rw [boundStore, BitVec.toNat_ofNat, Nat.mod_eq_of_lt (by omega)]

/-- R46: the seed stored is the low half of the word, 1 where that is zero. -/
theorem seedStore_low (w : Word) :
    seedStore w = if w.extractLsb' 0 32 = 0#32 then 1#32 else w.extractLsb' 0 32 := by
  rw [seedStore, BitVec.setWidth_eq_extractLsb' (by decide)]

/-- R327, R428: the low 32 bits of a word, widened again. -/
theorem low32_toNat (w : Word) : ((w.setWidth 32).setWidth 64).toNat = w.toNat % 2 ^ 32 := by
  rw [BitVec.toNat_setWidth_of_le (by decide), BitVec.toNat_setWidth]

/-- R317: the low two bits of a word. -/
theorem low2_toNat (w : Word) : (w &&& 3#64).toNat = w.toNat % 4 := by
  rw [BitVec.toNat_and]
  exact Nat.and_two_pow_sub_one_eq_mod w.toNat 2

/-- R426: what a write of STATUS stores, and what it leaves. -/
theorem setStatus_fields (t : Strand) (w : Word) :
    (t.setStatus w).chk = w.getLsbD 0 ∧
      (t.setStatus w).rm = (if (w.extractLsb' 1 3).toNat ≤ 4 then w.extractLsb' 1 3 else 0#3) ∧
      (t.setStatus w).sr = w.extractLsb' 4 5 ∧ (t.setStatus w).ovl = w.getLsbD 9 ∧
      (t.setStatus w).status.toNat < 2 ^ 10 ∧ (t.setStatus w).g = t.g ∧ (t.setStatus w).pcc = t.pcc :=
  ⟨rfl, rmStore_field w, rfl, rfl, Strand.status_lt _, rfl, rfl⟩

/-! ### Reads (R27, R424, R428, R453) -/

/-- R425, R429: only PCC is read with a tag. -/
theorem sysRead_tag {s : State} {k : Nat} {t : Strand} {r : SysReg} (h : (s.sysRead k t r).tag = true) : r = .pcc := by
  cases r with
  | pcc => rfl
  | _ => exact absurd h Bool.false_ne_true

/-- R27: PARTID of a strand of a loaded group. -/
theorem partIdWord_of_group {s : State} {k gid : Nat} {g : Group} (h : s.groupOn k gid = some g) :
    s.partIdWord k gid = g.partId := by
  simp [State.partIdWord, h]

/-- R14, R27: PARTID of a finial core, which has no partition to describe. -/
theorem partIdWord_finial (s : State) {k : Nat} (h : 1280 ≤ k) (gid : Nat) : s.partIdWord k gid = 0#64 := by
  simp [State.partIdWord, State.groupOn, partOfCore_finial s h]

/-- R453: a limit within its field leaves the fields of PWRLIM apart. -/
theorem pwrLimWord_lt {s : State} (h : s.pwrLim < 2 ^ 16) : s.pwrLimWord < 2 ^ 128 := by
  unfold State.pwrLimWord
  split <;> omega

/-- Settles O21: register by register, a write by its stored form and a read by its layout; RGCTL written back by the four
bits that it shows of each region, and the identity registers by the coordinates of the core. -/
theorem systemRegistersStoreAndReadUnderTheirRules : Obligations.SystemRegistersStoreAndReadUnderTheirRules := by
  unfold Obligations.SystemRegistersStoreAndReadUnderTheirRules
  refine ⟨fun s t k sl w ht => ?_, fun s t k => ?_, ?_, ?_⟩
  · refine ⟨⟨_, strand_updStrand_same ht _, setStatus_fields t w⟩, ?trapVec, ⟨_, strand_updStrand_same ht _, rfl⟩,
      ⟨_, strand_updStrand_same ht _, rfl⟩, ⟨_, strand_updStrand_same ht _, rfl⟩, ?xobound, ?fetchBound, ?member, ?spinBudget,
      ?barTimeout, ?xmon, ?srSeed, ?tieSeed, rfl, ?rgCtl⟩
    case trapVec => rw [core_sysWrite_trapVec]
    case xobound => rw [core_sysWrite_xobound, boundStore_toNat]
    case fetchBound => rw [core_sysWrite_xobound]
    case member => rw [core_sysWrite_member]
    case spinBudget => rw [core_sysWrite_spinBudget, low32_toNat]
    case barTimeout => rw [core_sysWrite_barTimeout, low32_toNat]
    case xmon => rw [core_sysWrite_xmon, low2_toNat]
    case srSeed => rw [core_sysWrite_srSeed, seedStore_low]
    case tieSeed => rw [core_sysWrite_tieSeed, tieStore]
    case rgCtl =>
      have hw : (s.sysRead k t .rgCtl).lo.toNat = s.rgctl (coreDie k) :=
        TV.ofNat_lo_toNat (Nat.lt_trans (s.rgctl_lt _) (by decide))
      exact (congrArg (s.writeRgctl (coreDie k)) hw).trans (s.writeRgctl_rgctl _)
  · have hrg : (s.sysRead k t .rgCtl).bits.toNat = s.rgctl (coreDie k) :=
      TV.ofNat_bits_toNat (Nat.lt_trans (s.rgctl_lt _) (by decide))
    exact ⟨(TV.ofWord_bits_toNat _).trans t.status_toNat, rfl, rfl, rfl, TV.ofWord_setWidth (by decide) _, rfl, rfl, rfl, rfl,
      rfl, rfl, TV.ofWord_setWidth (by decide) _, rfl, rfl, rfl, rfl, fun g hg => congrArg TV.ofWord (partIdWord_of_group hg),
      fun hp => (TV.ofNat_bits_toNat (pwrLimWord_lt hp)).trans (by simp [State.pwrLimWord]),
      fun i hi x hx => by rw [hrg, s.rgctl_region _ hi, hx]; rfl, fun r => sysRead_tag⟩
  · rintro s t k die row col hk rfl rfl rfl
    have hd : coreDie k = k / 320 := (coordinates_tenant hk).2.1
    have h4 : coreDie k < 4 := by omega
    have hdie : (s.sysRead k t .dieId).bits.toNat = dieIdWord k :=
      TV.ofNat_bits_toNat (Nat.lt_trans (dieIdWord_lt k h4) (by decide))
    refine ⟨?_, ?_, ?_, ?_, hdie ▸ dieIdWord_lt k h4⟩
    · exact TV.ofNat_bits_toNat_of_eq (coreIdWord_tenant hk) (by omega)
    · exact TV.ofNat_bits_toNat_of_eq (clusterIdWord_tenant hk) (by omega)
    · exact TV.ofNat_bits_toNat_of_eq (regionIdWord_tenant hk) (by omega)
    · rw [hdie, dieIdWord_mod k h4, hd]
  · intro s t die i h4 hi k hk
    have hd : coreDie k = die := (coordinates_finial die hi hk).2.1
    have hdie : (s.sysRead k t .dieId).bits.toNat = dieIdWord k :=
      TV.ofNat_bits_toNat (Nat.lt_trans (dieIdWord_lt k (hd ▸ h4)) (by decide))
    refine ⟨?_, ?_, ?_, ?_, congrArg TV.ofWord (partIdWord_finial s (by omega) t.gid), ?_⟩
    · exact TV.ofNat_bits_toNat_of_eq (coreIdWord_finial die hi hk) (by omega)
    · exact TV.ofNat_bits_toNat_of_eq (clusterIdWord_finial die hi hk) (by omega)
    · exact TV.ofNat_bits_toNat_of_eq (regionIdWord_finial die hi hk) (by omega)
    · rw [hdie, dieIdWord_mod k (hd ▸ h4), hd]
    · exact TV.ofNat_bits_toNat_of_eq (by rw [slotInCluster_finial die hi hk, hd]; rfl) (by split <;> omega)

end Sys2Proof.Machine
end

section
/-! PROOF. Floating-point instructions as they run (R45, R46, R55, R112 to R119): the draw and the flags of a result, the
shapes of meaning that the scalar forms share, and the slots that stay seated while an instruction pops its sources. -/
namespace Sys2Proof.Machine

/-! ### Pops leave every strand in its slot (R63, R253, R277) -/

/-- The turn stays, and every slot that holds a strand holds one still. -/
structure KeepsSeats (s n : State) : Prop where
  turn : n.turn = s.turn
  seat : ∀ k sl, (s.strand k sl).isSome = true → (n.strand k sl).isSome = true

theorem KeepsSeats.refl (s : State) : KeepsSeats s s := ⟨rfl, fun _ _ h => h⟩

theorem KeepsSeats.trans {s m n : State} (h : KeepsSeats s m) (h' : KeepsSeats m n) : KeepsSeats s n :=
  ⟨h'.turn.trans h.turn, fun k sl hs => h'.seat k sl (h.seat k sl hs)⟩

theorem keepsSeats_of_cores {s n : State} (ht : n.turn = s.turn) (hc : n.cores = s.cores) : KeepsSeats s n :=
  ⟨ht, fun k sl h => by simpa only [State.strand, State.core, hc] using h⟩

theorem keepsSeats_updCluster (s : State) (cl : Nat) (f : Cluster → Cluster) : KeepsSeats s (s.updCluster cl f) :=
  keepsSeats_of_cores rfl rfl

theorem keepsSeats_refuse (s : State) (src : Sender) (cause : Nat) (v : Word) : KeepsSeats s (s.refuse src cause v) :=
  keepsSeats_of_cores rfl rfl

theorem keepsSeats_updCore (s : State) (k : Nat) {f : Core → Core} (hf : ∀ c, (f c).slots = c.slots) :
    KeepsSeats s (s.updCore k f) := by
  refine ⟨rfl, fun j sl h => ?_⟩
  by_cases hj : j = k
  · subst hj
    simpa only [State.strand, core_updCore_same, hf] using h
  · simpa only [State.strand, core_updCore_ne hj] using h

theorem keepsSeats_setChan (s : State) (h e : Nat) (c : Chan) : KeepsSeats s (s.setChan h e c) :=
  keepsSeats_updCore s h fun _ => rfl

theorem keepsSeats_setStrand (s : State) (k sl : Nat) (t : Strand) : KeepsSeats s (s.setStrand k sl t) := by
  refine ⟨rfl, fun j r h => ?_⟩
  by_cases hj : j = k
  · subst hj
    by_cases hr : r = sl
    · subst hr
      rw [strand_setStrand_same, Option.isSome_some]
    · rwa [strand_setStrand_slot hr]
  · rwa [strand_setStrand_core hj]

theorem keepsSeats_updStrand (s : State) (k sl : Nat) (f : Strand → Strand) : KeepsSeats s (s.updStrand k sl f) := by
  unfold State.updStrand
  split
  · exact keepsSeats_setStrand s k sl _
  · exact .refl s

theorem keepsSeats_putBytes (bs : List Byte) : ∀ (s : State) (a : Nat), KeepsSeats s (s.putBytes a bs) := by
  induction bs with
  | nil => exact fun s _ => .refl s
  | cons b bs ih => exact fun s a => (keepsSeats_of_cores rfl rfl : KeepsSeats s (s.setByte a b)).trans (ih _ _)

theorem keepsSeats_write (s : State) (a : Nat) (bs : List Byte) : KeepsSeats s (s.write a bs) := by
  unfold State.write
  split
  · exact .refl s
  · exact (keepsSeats_putBytes bs s a).trans (keepsSeats_of_cores rfl rfl)

theorem keepsSeats_writePart (s : State) (a : Nat) (v : BitVec 128) : KeepsSeats s (s.writePart a v) := by
  have h : s.writePart a v = s.write a (natBytes 16 v.toNat) := by
    simp only [State.writePart, State.writeTagged, Bool.false_and, Bool.false_eq_true, if_false]
  rw [h]
  exact keepsSeats_write s a _

theorem keepsSeats_placeSlot {s n : State} {h e : Nat} {bytes : List Byte} (hp : s.placeSlot h e bytes = some n) :
    KeepsSeats s n := by
  unfold State.placeSlot at hp
  split at hp
  · cases hp
  next c _ =>
    split at hp
    · cases hp
    · cases hp
      exact (keepsSeats_setChan s h e _).trans (keepsSeats_write _ _ _)

/-- An item of the gutter that is replayed changes channels, memory, a binding or the status port. -/
theorem keepsSeats_replayItem {s n : State} {h : Nat} {x : GutterItem} {slot : Option Nat}
    (hr : s.replayItem h x = .done n slot) : KeepsSeats s n := by
  cases x with
  | part e c0 q p tgt v =>
    unfold State.replayItem at hr
    dsimp only at hr
    split at hr
    · cases hr
    next c _ =>
      split at hr
      · split at hr
        · cases hr
        · cases hr
          exact ((keepsSeats_setChan s h e _).trans (keepsSeats_writePart _ _ _)).trans (keepsSeats_updStrand _ _ _ _)
      · cases hr
        exact (keepsSeats_setChan s h e _).trans (keepsSeats_writePart _ _ _)
  | whole e d q bytes =>
    unfold State.replayItem at hr
    dsimp only at hr
    split at hr
    · cases hr
    · split at hr
      next hp => cases hr; exact keepsSeats_placeSlot hp
      · cases hr
  | message m =>
    unfold State.replayItem at hr
    dsimp only at hr
    split at hr
    · cases hr
    · split at hr
      next hp => cases hr; exact keepsSeats_placeSlot hp
      · cases hr
  | status v =>
    unfold State.replayItem at hr
    dsimp only at hr
    split at hr
    · cases hr
    · cases hr
      exact keepsSeats_updCluster s _ _

theorem keepsSeats_reportDropped (s : State) (m : Message) : KeepsSeats s (s.reportDropped m) := by
  unfold State.reportDropped
  split
  · exact keepsSeats_refuse s _ _ _
  · exact keepsSeats_updCluster s _ _

theorem keepsSeats_replayGutter (h : Nat) : ∀ (n : Nat) (items kept : List GutterItem) (s : State),
    KeepsSeats s (State.replayGutter h n items kept s) := by
  intro n
  induction n with
  | zero => exact fun items kept s => keepsSeats_updCore s h fun _ => rfl
  | succ n ih =>
    intro items kept s
    cases items with
    | nil => exact keepsSeats_updCore s h fun _ => rfl
    | cons x r =>
      unfold State.replayGutter
      split
      · exact ih _ _ _
      · split
        · exact ih _ _ _
        · refine KeepsSeats.trans ?_ (ih _ _ _)
          split
          · exact keepsSeats_reportDropped s _
          · exact keepsSeats_refuse s _ _ _
          · exact keepsSeats_refuse s _ _ _
          · exact .refl s
        next hd => exact (keepsSeats_replayItem hd).trans (ih _ _ _)

theorem keepsSeats_drainGutter (s : State) (h : Nat) : KeepsSeats s (s.drainGutter h) := by
  unfold State.drainGutter
  dsimp only
  split
  · exact .refl s
  · exact keepsSeats_replayGutter h _ _ _ s

theorem keepsSeats_popPart {s n : State} {k sl q : Nat} {v : TV} (hp : s.popPart k sl q = some (v, n)) : KeepsSeats s n := by
  unfold State.popPart at hp
  dsimp only at hp
  repeat' split at hp
  all_goals simp only [reduceCtorEq, Option.some.injEq, Prod.mk.injEq] at hp
  case h_2 => obtain ⟨-, rfl⟩ := hp; exact keepsSeats_updCluster s _ _
  all_goals
    obtain ⟨-, rfl⟩ := hp
    exact (keepsSeats_setChan s _ _ _).trans (keepsSeats_setStrand _ _ _ _)

theorem keepsSeats_popAt {s n : State} {k sl q : Nat} {v : TV} (hp : s.popAt k sl q = some (v, n)) : KeepsSeats s n := by
  unfold State.popAt at hp
  split at hp
  next h1 => cases hp; exact (keepsSeats_popPart h1).trans (keepsSeats_drainGutter _ k)
  · cases hp

theorem keepsSeats_gather {k sl : Nat} {t : Strand} (rs : List (BitVec 6)) : ∀ {popped vals : List TV} {s n : State},
    gather k sl rs popped t s = .inl (vals, n) → KeepsSeats s n := by
  induction rs with
  | nil => intro _ _ s _ h; cases h; exact .refl s
  | cons r rs ih =>
    intro popped vals s n h
    unfold gather at h
    split at h
    · split at h
      · split at h <;> cases h
        exact ih ‹_›
      · split at h
        · cases h
        next hp => split at h <;> cases h; exact (keepsSeats_popAt hp).trans (ih ‹_›)
    · split at h <;> cases h
      exact ih ‹_›

theorem keepsSeats_keepPops (s : State) (srcs : List (BitVec 6)) (l : List TV) : KeepsSeats s (s.keepPops srcs l) := by
  unfold State.keepPops
  split
  · exact keepsSeats_updStrand s _ _ _
  · exact .refl s

/-- R63: the strand that read its operands still has the turn. -/
theorem ReadsFields.cur {s s' : State} {fields srcs dests : List (BitVec 6)} {vals : List TV}
    (h : ReadsFields s fields srcs dests vals s') : ∃ t, s'.cur = some t := by
  obtain ⟨t, -, -, -, -, -, -, -, -, n, hg, rfl⟩ := h
  have hk := (keepsSeats_gather srcs hg).trans (keepsSeats_keepPops n srcs vals)
  have hc : ((s.settled t).strand s.turn.1 s.turn.2).isSome = true := by
    rw [turn_strand_settled, Option.isSome_some]
  have hs := hk.seat _ _ hc
  refine Option.isSome_iff_exists.1 ?_
  unfold State.cur
  rw [hk.turn]
  exact hs

/-! ### Draws and flags (R45, R46, R55) -/

theorem takeDraw_ok (rm : RMode) (s : State) : takeDraw rm s = .ok (s.drawOf rm) (s.drawn rm) := by
  by_cases h : rm = .sr
  · simp only [takeDraw, State.drawOf, State.drawn, h, if_true, M.bind_apply, M.getCore_apply, M.modCore_apply,
      M.pure_apply]
  · simp only [takeDraw, State.drawOf, State.drawn, h, if_false, M.pure_apply]

theorem resultFlags_ok (s : State) (d : BitVec 6) (lat : Nat) (f : FlagSet) :
    resultFlags d lat f s = .ok () (s.flaggedWith d lat f) := by
  by_cases h : isQ d = true ∨ lat ≤ 1
  · have hb : (isQ d || decide (lat ≤ 1)) = true := by simpa using h
    simp only [resultFlags, State.flaggedWith, State.flagged, setFlags, h, hb, if_true, M.bind_apply, M.get_apply,
      M.modStrand_apply]
  · have hb : (isQ d || decide (lat ≤ 1)) = false := by simpa using h
    simp only [resultFlags, State.flaggedWith, h, hb, Bool.false_eq_true, if_false, M.bind_apply, M.get_apply,
      M.modStrand_apply]

theorem sr_putG (u : Strand) (r : Nat) (v : TV) : (u.putG r v).sr = u.sr := by
  unfold Strand.putG
  split <;> rfl

/-- Writing results leaves the sticky flags. -/
theorem sr_putResults (l : List Pending) (u : Strand) : (l.foldl (fun (u : Strand) p => u.putG p.reg p.val) u).sr = u.sr := by
  induction l generalizing u with
  | nil => rfl
  | cons p l ih => exact (ih _).trans (sr_putG u p.reg p.val)

theorem settle_sr (t : Strand) (now : Nat) : (t.settle now).sr =
    (t.pendFl.filter (fun e => decide (e.1 ≤ now))).foldl (fun (f : BitVec 5) e => f ||| e.2) t.sr := by
  simp only [Strand.settle, Strand.joinFlags, sr_putResults]

/-- R55: flags that wait join the sticky flags once they are due. -/
theorem settle_pendFlags (t : Strand) (f : FlagSet) (avail now : Nat) :
    ((t.pendFlags avail f).settle now).sr = (t.settle now).sr ||| (if avail ≤ now then f else 0#5) := by
  unfold Strand.pendFlags
  by_cases hf : f = 0#5
  · simp [hf]
  · by_cases h : avail ≤ now <;> simp [hf, h, settle_sr, List.filter_append]

/-! ### Shapes of meaning (R112, R118) -/

section
variable {s s' : State} {t : Strand} {sc lat bits : Nat} {d a b c : BitVec 6} {x y z : TV}

theorem fpOp1_rounds {f : RMode → Nat → Nat → Nat × FlagSet} (h : Reads s [a] [d] [x] s') (hc : s'.cur = some t) :
    runInstr sc (fpOp1 true lat d a f) s =
      givesFp sc d lat (f t.mode (s'.drawOf t.mode) x.f32) (s'.drawn t.mode) :=
  runs_operand1 h (by
    simp only [M.bind_apply, M.getStrand_apply hc, if_true, takeDraw_ok, resultFlags_ok, result_ok, M.pure_apply])

theorem fpOp1_exact {f : Nat → Nat × FlagSet} (h : Reads s [a] [d] [x] s') :
    runInstr sc (fpOp1 false lat d a (fun _ _ => f)) s = givesFp sc d lat (f x.f32) s' := by
  obtain ⟨t, hc⟩ := ReadsFields.cur h
  exact runs_operand1 h (by
    simp only [M.bind_apply, M.getStrand_apply hc, Bool.false_eq_true, if_false, M.pure_apply, resultFlags_ok,
      result_ok])

theorem fpOp2_rounds {f : RMode → Nat → Nat → Nat → Nat × FlagSet} (h : Reads s [a, b] [d] [x, y] s')
    (hc : s'.cur = some t) : runInstr sc (fpOp2 true lat d a b f) s =
      givesFp sc d lat (f t.mode (s'.drawOf t.mode) x.f32 y.f32) (s'.drawn t.mode) :=
  runs_operand2 h (by
    simp only [M.bind_apply, M.getStrand_apply hc, if_true, takeDraw_ok, resultFlags_ok, result_ok, M.pure_apply])

theorem fpOp2_exact {f : Nat → Nat → Nat × FlagSet} (h : Reads s [a, b] [d] [x, y] s') :
    runInstr sc (fpOp2 false lat d a b (fun _ _ => f)) s = givesFp sc d lat (f x.f32 y.f32) s' := by
  obtain ⟨t, hc⟩ := ReadsFields.cur h
  exact runs_operand2 h (by
    simp only [M.bind_apply, M.getStrand_apply hc, Bool.false_eq_true, if_false, M.pure_apply, resultFlags_ok,
      result_ok])

theorem fpOp3_rounds {f : RMode → Nat → Nat → Nat → Nat → Nat × FlagSet} (h : Reads s [a, b, c] [d] [x, y, z] s')
    (hc : s'.cur = some t) : runInstr sc (fpOp3 d a b c f) s =
      givesFp sc d 4 (f t.mode (s'.drawOf t.mode) x.f32 y.f32 z.f32) (s'.drawn t.mode) :=
  runs_operand3 h (by
    simp only [M.bind_apply, M.getStrand_apply hc, takeDraw_ok, resultFlags_ok, result_ok, M.pure_apply])

theorem cvtOp_rounds {f : RMode → Nat → Nat → Nat × FlagSet} (h : Reads s [a] [d] [x] s') (hc : s'.cur = some t) :
    runInstr sc (cvtOp true bits d a f) s =
      givesFp sc d 2 (f t.mode (s'.drawOf t.mode) (x.bits.toNat % 2 ^ bits)) (s'.drawn t.mode) :=
  runs_operand1 h (by
    simp only [M.bind_apply, M.getStrand_apply hc, if_true, takeDraw_ok, resultFlags_ok, result_ok, M.pure_apply])

theorem cvtOp_exact {f : Nat → Nat × FlagSet} (h : Reads s [a] [d] [x] s') :
    runInstr sc (cvtOp false bits d a (fun _ _ => f)) s = givesFp sc d 2 (f (x.bits.toNat % 2 ^ bits)) s' := by
  obtain ⟨t, hc⟩ := ReadsFields.cur h
  exact runs_operand1 h (by
    simp only [M.bind_apply, M.getStrand_apply hc, Bool.false_eq_true, if_false, M.pure_apply, resultFlags_ok,
      result_ok])

end

/-- Settles O9: each form reads its sources, takes the draw of its mode and delivers one rounding; flags that wait join the
sticky ones when they are due. -/
theorem floatArithmeticGivesItsRoundings : Obligations.FloatArithmeticGivesItsRoundings := by
  unfold Obligations.FloatArithmeticGivesItsRoundings
  refine ⟨fun s s' t d a b sc x y h hc => ?_, fun s s' t d a sc x h hc => fpOp1_rounds h hc,
    fun s s' t d a b c x y z h hc => ⟨fpOp3_rounds h hc, fpOp3_rounds h hc⟩, fun t f avail now => ⟨fun hn => ?_, fun hn => ?_⟩⟩
  · exact ⟨fpOp2_rounds h hc, fpOp2_rounds h hc, fpOp2_rounds h hc, fpOp2_rounds h hc⟩
  · rw [settle_pendFlags, if_neg (Nat.not_le.2 hn), BitVec.or_zero]
  · rw [settle_pendFlags, if_pos hn]

/-! ### Special operands (R33) -/

theorem FVal.isNaN_iff {x : FVal} : x.isNaN = true ↔ ∃ s, x = .nan s := by
  cases x <;> simp [FVal.isNaN]

/-- R33, R113, R117: an operand that is a NaN gives the canonical one. -/
theorem addVal_nan {f : Fmt} {rm : RMode} {o : Bool} {dr : Nat} {x y : FVal} (h : x.isNaN = true ∨ y.isNaN = true) :
    addVal f rm o dr x y = nanOf f (x.isSNaN || y.isSNaN) := by
  rcases h with h | h
  · obtain ⟨s, rfl⟩ := FVal.isNaN_iff.1 h
    cases y <;> rfl
  · obtain ⟨s, rfl⟩ := FVal.isNaN_iff.1 h
    cases x <;> rfl

theorem divVal_nan {f : Fmt} {rm : RMode} {dr : Nat} {x y : FVal} (h : x.isNaN = true ∨ y.isNaN = true) :
    divVal f rm dr x y = nanOf f (x.isSNaN || y.isSNaN) := by
  rcases h with h | h
  · obtain ⟨s, rfl⟩ := FVal.isNaN_iff.1 h
    cases y <;> rfl
  · obtain ⟨s, rfl⟩ := FVal.isNaN_iff.1 h
    cases x <;> rfl

theorem mulVal_nan {f : Fmt} {rm : RMode} {dr : Nat} {x y : FVal} (h : x.isNaN = true ∨ y.isNaN = true) :
    mulVal f rm dr x y = nanOf f (x.isSNaN || y.isSNaN) := by
  have hb : (x.isNaN || y.isNaN) = true := by simpa using h
  rw [mulVal, if_pos hb]

theorem nanOf_f32 (x y : FVal) : nanOf .f32 (x.isSNaN || y.isSNaN) =
    (0x7FC00000, if x.isSNaN = true ∨ y.isSNaN = true then flInvalid else 0#5) := by
  simp only [nanOf, flIf, Bool.or_eq_true]
  rfl

/-- Settles O11: the table's rows one by one; a NaN operand by the lemma of its operation. -/
theorem floatSpecialOperandsFollowTheTable : Obligations.FloatSpecialOperandsFollowTheTable := by
  unfold Obligations.FloatSpecialOperandsFollowTheTable
  intro rm dr n m q man e e' x y
  refine ⟨?_, ?_, rfl, rfl, rfl, rfl, fun h => ?_, fun h => ?_, rfl, rfl, rfl, rfl, fun h => ⟨?_, ?_, ?_⟩, rfl⟩
  · cases n <;> rfl
  · cases n <;> rfl
  · simp only [divVal, if_true, h, if_false]
    cases n <;> cases m <;> rfl
  · simp only [sqrtVal, h, if_false, if_true]
    rfl
  · rw [addVal_nan h, nanOf_f32]
  · rw [mulVal_nan h, nanOf_f32]
  · rw [divVal_nan h, nanOf_f32]

end Sys2Proof.Machine
end

section
/-! PROOF. Selections, comparisons, sign forms and conversions (R114 to R119), and the element operations that are these of
the scalars (R178 to R180, R183 to R185). -/
namespace Sys2Proof.Machine

/-! ### Comparisons (R115) -/

theorem FVal.isNaN_of_isSNaN {x : FVal} (h : x.isSNaN = true) : x.isNaN = true := by
  cases x with
  | nan s => rfl
  | inf n => cases h
  | fin n m e => cases h

theorem isSNaN_false_of_numbers {x y : FVal} (hx : x.isNaN = false) (hy : y.isNaN = false) :
    (x.isSNaN || y.isSNaN) = false := by
  have hx' : x.isSNaN = false := Bool.eq_false_iff.2 fun h => by simp [FVal.isNaN_of_isSNaN h] at hx
  have hy' : y.isSNaN = false := Bool.eq_false_iff.2 fun h => by simp [FVal.isNaN_of_isSNaN h] at hy
  rw [hx', hy', Bool.or_false]

theorem flIf_or {p q : Bool} {f : FlagSet} : flIf (p || q) f = if p = true ∨ q = true then f else 0#5 := by
  simp [flIf]

/-- Either an operand is a NaN or both are numbers. -/
theorem nan_or_numbers (x y : FVal) : (x.isNaN || y.isNaN) = true ∨ (x.isNaN = false ∧ y.isNaN = false) := by
  cases x.isNaN <;> cases y.isNaN <;> decide

theorem eqVal_fst (x y : FVal) : (eqVal x y).1 = true ↔ x.isNaN = false ∧ y.isNaN = false ∧ cmpVal x y = 0 := by
  rcases nan_or_numbers x y with h | ⟨hx, hy⟩
  · have hn : ¬ (x.isNaN = false ∧ y.isNaN = false) := by simpa [← Bool.or_eq_false_iff] using h
    simp only [eqVal, h, if_true, Bool.false_eq_true, false_iff]
    exact fun hc => hn ⟨hc.1, hc.2.1⟩
  · simp [eqVal, hx, hy]

theorem eqVal_snd (x y : FVal) :
    (eqVal x y).2 = if x.isSNaN = true ∨ y.isSNaN = true then flInvalid else 0#5 := by
  rcases nan_or_numbers x y with h | ⟨hx, hy⟩
  · simp only [eqVal, h, if_true, flIf_or]
  · rw [← flIf_or, isSNaN_false_of_numbers hx hy]
    simp [eqVal, hx, hy, flIf]

theorem ltVal_fst (orEq : Bool) (x y : FVal) : (ltVal orEq x y).1 = true ↔
    x.isNaN = false ∧ y.isNaN = false ∧ (if orEq then cmpVal x y ≤ 0 else cmpVal x y < 0) := by
  rcases nan_or_numbers x y with h | ⟨hx, hy⟩
  · have hn : ¬ (x.isNaN = false ∧ y.isNaN = false) := by simpa [← Bool.or_eq_false_iff] using h
    simp only [ltVal, h, if_true, Bool.false_eq_true, false_iff]
    exact fun hc => hn ⟨hc.1, hc.2.1⟩
  · cases orEq <;> simp [ltVal, hx, hy]

theorem ltVal_snd (orEq : Bool) (x y : FVal) :
    (ltVal orEq x y).2 = if x.isNaN = true ∨ y.isNaN = true then flInvalid else 0#5 := by
  rcases nan_or_numbers x y with h | ⟨hx, hy⟩
  · have h' : x.isNaN = true ∨ y.isNaN = true := by simpa using h
    simp only [ltVal, h, h', if_true]
  · simp [ltVal, hx, hy]

theorem bit01_fst (r : Bool × FlagSet) : ((bit01 r).1 = 0 ∨ (bit01 r).1 = 1) ∧ ((bit01 r).1 = 1 ↔ r.1 = true) := by
  obtain ⟨b, fl⟩ := r
  cases b <;> simp [bit01]

/-- R115: a comparison of two sources. -/
theorem fpCompare_runs {s s' : State} {sc : Nat} {d a b : BitVec 6} {x y : TV} (h : Reads s [a, b] [d] [x, y] s')
    {f : Nat → Nat → Bool × FlagSet} {P : Prop} (hP : (f x.f32 y.f32).1 = true ↔ P) :
    ∃ r fl, runInstr sc (fpOp2 false 4 d a b (fun _ _ x y => bit01 (f x y))) s = givesFp sc d 4 (r, fl) s' ∧
      (r = 0 ∨ r = 1) ∧ (r = 1 ↔ P) ∧ fl = (f x.f32 y.f32).2 :=
  ⟨_, _, fpOp2_exact h, (bit01_fst _).1, (bit01_fst _).2.trans hP, rfl⟩

/-! ### Sign forms (R116) -/

theorem TV.f32_low (x : TV) : x.f32 % 2 ^ 31 = (x.bits.extractLsb' 0 31).toNat := by
  simp only [TV.f32, BitVec.extractLsb'_toNat, Nat.shiftRight_zero]
  omega

theorem TV.f32_sign (x : TV) : x.f32 / 2 ^ 31 % 2 = (x.bits.extractLsb' 31 1).toNat := by
  simp only [TV.f32, BitVec.extractLsb'_toNat, Nat.shiftRight_eq_div_pow]
  omega

theorem toNat_append_eq {m n : Nat} (a : BitVec m) (b : BitVec n) : (a ++ b).toNat = a.toNat * 2 ^ n + b.toNat := by
  rw [BitVec.toNat_append, ← Nat.shiftLeft_add_eq_or_of_lt b.isLt, Nat.shiftLeft_eq]

theorem sgn_toNat (x y : TV) :
    x.f32 % 2 ^ 31 + signBit y.f32 = (y.bits.extractLsb' 31 1 ++ x.bits.extractLsb' 0 31).toNat := by
  rw [toNat_append_eq, signBit, TV.f32_low, TV.f32_sign, Nat.add_comm]

theorem neg_toNat (x : TV) :
    x.f32 % 2 ^ 31 + (2 ^ 31 - signBit x.f32) = (~~~(x.bits.extractLsb' 31 1) ++ x.bits.extractLsb' 0 31).toNat := by
  have h := (x.bits.extractLsb' 31 1).isLt
  rw [toNat_append_eq, signBit, TV.f32_low, TV.f32_sign, BitVec.toNat_not]
  omega

/-! ### Conversions (R118, R119, R40) -/

theorem asSigned_low (x : TV) : asSigned (x.bits.toNat % 2 ^ 64) = x.lo.toInt := by
  rw [asSigned, TV.lo]
  congr 1
  apply BitVec.eq_of_toNat_eq
  simp [BitVec.extractLsb'_toNat]

theorem low_toNat (x : TV) (w : Nat) : x.bits.toNat % 2 ^ w = (x.bits.extractLsb' 0 w).toNat := by
  rw [BitVec.extractLsb'_toNat, Nat.shiftRight_zero]

/-- R40: an integer conversion stays in its range. -/
theorem toIntVal_range {lo hi : Int} (hlo : lo ≤ 0) (hhi : 0 ≤ hi) (cf nf : FlagSet) (rm : RMode) (dr : Nat) (x : FVal) :
    lo ≤ (toIntVal lo hi cf nf rm dr x).1 ∧ (toIntVal lo hi cf nf rm dr x).1 ≤ hi := by
  cases x with
  | nan s => exact ⟨hlo, hhi⟩
  | inf n => cases n <;> exact ⟨by simp only [toIntVal]; omega, by simp only [toIntVal]; omega⟩
  | fin n m e => simp only [toIntVal]; split_ifs <;> constructor <;> omega

theorem cvtInt_range {lo hi : Int} (hlo : lo ≤ 0) (hhi : 0 ≤ hi) (rm : RMode) (dr : Nat) (x : FVal) :
    lo ≤ (cvtInt lo hi rm dr x).1 ∧ (cvtInt lo hi rm dr x).1 ≤ hi := toIntVal_range hlo hhi _ _ rm dr x

theorem asBits_unsigned {r : Int × FlagSet} (h0 : 0 ≤ r.1) (h1 : r.1 ≤ 2 ^ 64 - 1) : asBits r = (r.1.toNat, r.2) := by
  rw [asBits, BitVec.toNat_ofInt, Int.emod_eq_of_lt h0 (by omega)]

/-- R30: the clamp, as a maximum of a minimum. -/
theorem clampInt_eq {lo hi : Int} (h : lo ≤ hi) (v : Int) :
    clampInt lo hi v = (max lo (min hi v), decide (v < lo ∨ hi < v)) := by
  unfold clampInt
  split_ifs with h1 h2
  · rw [max_eq_left (by omega), decide_eq_true (Or.inl h1)]
  · rw [min_eq_left (by omega), max_eq_right h, decide_eq_true (Or.inr h2)]
  · rw [min_eq_right (by omega), max_eq_right (by omega), decide_eq_false (by omega)]

/-! ### Element operations (R178 to R180) -/

theorem Fmt.signBit_pos (f : Fmt) : 2 ^ f.width = 2 ^ (f.width - 1) + 2 ^ (f.width - 1) := by
  cases f <;> rfl

/-- R178: |a| and −a of a code, by its sign bit. -/
theorem signOp_flt {f : Fmt} {k : Bool} {a : Nat} (ha : a < 2 ^ f.width) :
    signOp false (.flt f) k a = (if 2 ^ (f.width - 1) ≤ a then a - 2 ^ (f.width - 1) else a, 0#5) ∧
      signOp true (.flt f) k a = (if 2 ^ (f.width - 1) ≤ a then a - 2 ^ (f.width - 1) else a + 2 ^ (f.width - 1), 0#5) := by
  rw [f.signBit_pos] at ha
  simp only [signOp, Bool.false_eq_true, if_false, if_true]
  generalize 2 ^ (f.width - 1) = h at *
  by_cases hs : h ≤ a
  · rw [if_pos hs, if_pos hs, Nat.mod_eq_sub_mod hs, Nat.mod_eq_of_lt (by omega : a - h < h),
      Nat.mod_eq_sub_mod (by omega : 2 * h ≤ a + h), Nat.mod_eq_of_lt (by omega : a + h - 2 * h < 2 * h)]
    exact ⟨rfl, by congr 1; omega⟩
  · rw [if_neg hs, if_neg hs, Nat.mod_eq_of_lt (by omega : a < h), Nat.mod_eq_of_lt (by omega : a + h < 2 * h)]
    exact ⟨rfl, rfl⟩

/-! ### Conversions of elements (R183 to R185) -/

theorem convert_of_int {ta : ETy} {c : Nat} {v : Int} (h : elemInt ta c = some v) (sg : Bool) (w : Nat) (k o : Bool)
    (rm : RMode) (dr : Nat) :
    convert ta (.int sg w) k o rm dr c = ((narrowInt sg w k v).1, (narrowInt sg w k v).2 ||| (elemVal ta c).2) ∧
      convert ta .t2 k o rm dr c = (t2Code (max (-1) (min 1 v)),
        (if v < -1 ∨ 1 < v then flSaturation ||| flInexact else 0#5) ||| (elemVal ta c).2) := by
  refine ⟨by simp only [convert, h], ?_⟩
  simp only [convert, h, clampInt_eq (by decide : (-1 : Int) ≤ 1), flIf, decide_eq_true_eq]

/-- The flags joined along a list, bit by bit. -/
theorem foldl_or_getLsbD {α : Type} {w : Nat} (g : α → BitVec w) (b : Nat) (l : List α) (a : BitVec w) :
    (l.foldl (fun x r => x ||| g r) a).getLsbD b = true ↔ a.getLsbD b = true ∨ ∃ r ∈ l, (g r).getLsbD b = true := by
  induction l generalizing a with
  | nil => simp
  | cons r l ih => simp only [List.foldl_cons, ih, BitVec.getLsbD_or, Bool.or_eq_true, List.mem_cons, exists_eq_or_imp, or_assoc]

/-- R184: an element that is no number makes the whole block NaN. -/
theorem quantise_special {f : Fmt} {rm : RMode} {o : Bool} {draw : Nat → Nat} {xs : List FVal}
    (h : ∃ x ∈ xs, ∀ n m e, x ≠ .fin n m e) : quantise f rm o draw xs = (0xFF, xs.map (fun _ => 0), flInvalid) := by
  obtain ⟨x, hx, hn⟩ := h
  refine if_pos (List.any_eq_true.2 ⟨x, hx, ?_⟩)
  cases x with
  | nan s => rfl
  | inf n => rfl
  | fin n m e => exact absurd rfl (hn n m e)

/-- The elements of a block are finite. -/
theorem any_special_false {xs : List FVal} (h : ∀ x ∈ xs, ∃ n m e, x = .fin n m e) :
    xs.any (fun x => match x with | .fin _ _ _ => false | _ => true) = false := by
  refine List.any_eq_false.2 fun x hx => ?_
  obtain ⟨n, m, e, rfl⟩ := h x hx
  exact Bool.false_ne_true

/-- R184: a block of finite elements, of which none or some are not zero. -/
theorem quantise_finite {f : Fmt} {rm : RMode} {o : Bool} {draw : Nat → Nat} {xs : List FVal}
    (h : ∀ x ∈ xs, ∃ n m e, x = .fin n m e) :
    (xs.filterMap FVal.top = [] → quantise f rm o draw xs = (0, xs.map (fun x => f.signed x.isNeg 0), 0#5)) ∧
      (∀ t ts q rs, xs.filterMap FVal.top = t :: ts →
        q = max (-127) (min 127 (ts.foldl (fun (m : Int) y => max m y) t - mxEmax f)) →
        rs = xs.mapIdx (fun i x => match x with
          | .fin n m e => f.round rm o (draw i) n m (e - q)
          | _ => (0, 0#5)) →
        quantise f rm o draw xs =
          ((q + 127).toNat, rs.map (·.1), rs.foldl (fun (a : FlagSet) r => a ||| r.2) 0#5)) := by
  have hn : ¬ xs.any (fun x => match x with | .fin _ _ _ => false | _ => true) = true :=
    Bool.eq_false_iff.1 (any_special_false h)
  refine ⟨fun hf => ?_, ?_⟩
  · unfold quantise
    exact (if_neg hn).trans (by rw [hf])
  · rintro t ts q rs hf rfl rfl
    unfold quantise
    exact (if_neg hn).trans (by rw [hf] <;> rfl)

/-- A bound that is a member is the maximum. -/
theorem foldl_max_eq {t p : Int} {ts : List Int} (hp : p ∈ t :: ts) (hm : ∀ y ∈ t :: ts, y ≤ p) :
    ts.foldl (fun (m : Int) y => max m y) t = p := by
  have h := List.max?_eq_some_iff.2 ⟨hp, hm⟩
  rwa [List.max?_cons', Option.some.injEq] at h

theorem FVal.mem_top {xs : List FVal} {t : Int} :
    t ∈ xs.filterMap FVal.top ↔ ∃ n m e, .fin n m e ∈ xs ∧ m ≠ 0 ∧ e + Nat.log2 m = t := by
  rw [List.mem_filterMap]
  constructor
  · rintro ⟨x, hx, ht⟩
    cases x with
    | nan s => cases ht
    | inf n => cases ht
    | fin n m e =>
      by_cases hm : m = 0
      · simp [FVal.top, hm] at ht
      · exact ⟨n, m, e, hx, hm, by simpa [FVal.top, hm] using ht⟩
  · rintro ⟨n, m, e, hx, hm, rfl⟩
    exact ⟨_, hx, by simp [FVal.top, hm]⟩

/-- R184: the elements of a block, each rounded once under the block's scale. -/
theorem quantise_scaled {f : Fmt} {rm : RMode} {o : Bool} {draw : Nat → Nat} {xs : List FVal} {p q : Int}
    {r : Nat → Nat × FlagSet} (hle : ∀ x ∈ xs, ∃ n m e, x = .fin n m e ∧ (m ≠ 0 → e + Nat.log2 m ≤ p))
    (hp : ∃ n m e, .fin n m e ∈ xs ∧ m ≠ 0 ∧ e + Nat.log2 m = p) (hq : q = max (-127) (min 127 (p - mxEmax f)))
    (hr : ∀ i n m e, xs[i]? = some (.fin n m e) → r i = f.round rm o (draw i) n m (e - q)) :
    ∃ es fl, quantise f rm o draw xs = ((q + 127).toNat, es, fl) ∧ es.length = xs.length ∧
      (∀ i, i < xs.length → es[i]? = some (r i).1) ∧
      ∀ b, b < 5 → (fl.getLsbD b = true ↔ ∃ i, i < xs.length ∧ (r i).2.getLsbD b = true) := by
  have hmem : p ∈ xs.filterMap FVal.top := FVal.mem_top.2 hp
  have hbound : ∀ y ∈ xs.filterMap FVal.top, y ≤ p := by
    intro y hy
    obtain ⟨n, m, e, hx, hm, rfl⟩ := FVal.mem_top.1 hy
    obtain ⟨n', m', e', heq, hle'⟩ := hle _ hx
    cases heq
    exact hle' hm
  obtain ⟨t, ts, htop⟩ := List.exists_cons_of_ne_nil (List.ne_nil_of_mem hmem)
  rw [htop] at hmem hbound
  have hquant := (quantise_finite (f := f) (rm := rm) (o := o) (draw := draw) fun x hx =>
    let ⟨n, m, e, h, _⟩ := hle x hx; ⟨n, m, e, h⟩).2 t ts q _ htop (by rw [foldl_max_eq hmem hbound, hq]) rfl
  set rs := xs.mapIdx (fun i x => match x with
    | .fin n m e => f.round rm o (draw i) n m (e - q)
    | _ => (0, 0#5)) with hrs
  have hlen : rs.length = xs.length := List.length_mapIdx
  have hget : ∀ i, i < xs.length → rs[i]? = some (r i) := by
    intro i hi
    obtain ⟨n, m, e, hx, -⟩ := hle _ (List.getElem_mem hi)
    have hx' : xs[i]? = some (.fin n m e) := by rw [List.getElem?_eq_getElem hi, hx]
    rw [hrs, List.getElem?_mapIdx, hx', hr i n m e hx', Option.map_some]
  refine ⟨_, _, hquant, by rw [List.length_map, hlen], fun i hi => by rw [List.getElem?_map, hget i hi, Option.map_some],
    fun b _ => ?_⟩
  rw [foldl_or_getLsbD (fun r : Nat × FlagSet => r.2)]
  simp only [BitVec.getLsbD_zero, Bool.false_eq_true, false_or]
  constructor
  · rintro ⟨x, hx, hb⟩
    obtain ⟨i, hi⟩ := List.mem_iff_getElem?.1 hx
    have hi' : i < xs.length := hlen ▸ (List.getElem?_eq_some_iff.1 hi).1
    rw [hget i hi', Option.some.injEq] at hi
    exact ⟨i, hi', hi ▸ hb⟩
  · rintro ⟨i, hi, hb⟩
    exact ⟨r i, List.mem_of_getElem? (hget i hi), hb⟩

/-- Settles O10: the scalar forms by the shape of their meaning, the element operations by the scalar ones they name, a block
by its largest element. -/
theorem floatSelectionsAndConversionsGiveTheirResults : Obligations.FloatSelectionsAndConversionsGiveTheirResults := by
  unfold Obligations.FloatSelectionsAndConversionsGiveTheirResults
  refine ⟨⟨fun s s' d a b sc x y h => ⟨fpOp2_exact h, fpOp2_exact h, ?feq, ?flt, ?fle, ?fsgn⟩,
      fun s s' d a sc x h => ⟨fpOp1_exact h, ?fneg, ?fabs⟩⟩,
    fun s s' t d a sc x h hc => ⟨?i64, ?n64, ?toI64, ?toN64, ?bf16, ?toBf16, ?f16, ?toF16, ?e8, ?toE8⟩, ?elements, ?convert,
    ?dequantise, ?quantise⟩
  case feq =>
    obtain ⟨r, fl, he, h01, h1, hfl⟩ := fpCompare_runs (f := fun x y => eqVal (fv x) (fv y)) h (eqVal_fst _ _)
    exact ⟨r, fl, he, h01, h1, hfl.trans (eqVal_snd _ _)⟩
  case flt =>
    obtain ⟨r, fl, he, h01, h1, hfl⟩ := fpCompare_runs (f := fun x y => ltVal false (fv x) (fv y)) h (ltVal_fst _ _ _)
    exact ⟨r, fl, he, h01, h1, hfl.trans (ltVal_snd _ _ _)⟩
  case fle =>
    obtain ⟨r, fl, he, h01, h1, hfl⟩ := fpCompare_runs (f := fun x y => ltVal true (fv x) (fv y)) h (ltVal_fst _ _ _)
    exact ⟨r, fl, he, h01, h1, hfl.trans (ltVal_snd _ _ _)⟩
  case fsgn => exact sgn_toNat x y ▸ fpOp2_exact h
  case fneg => exact neg_toNat x ▸ fpOp1_exact h
  case fabs => exact TV.f32_low x ▸ fpOp1_exact h
  case i64 => exact asSigned_low x ▸ cvtOp_rounds h hc
  case n64 => exact (low_toNat x 64 ▸ cvtOp_rounds h hc :)
  case toI64 =>
    obtain ⟨h0, h1⟩ := cvtInt_range (by decide : -(2 ^ 63 : Int) ≤ 0) (by decide : (0 : Int) ≤ 2 ^ 63 - 1) t.mode
      (s'.drawOf t.mode) (fv x.f32)
    exact ⟨_, _, rfl, h0, h1, cvtOp_rounds h hc⟩
  case toN64 =>
    obtain ⟨h0, h1⟩ := cvtInt_range (by decide : (0 : Int) ≤ 0) (by decide : (0 : Int) ≤ 2 ^ 64 - 1) t.mode
      (s'.drawOf t.mode) (fv x.f32)
    exact ⟨_, _, rfl, h0, h1, asBits_unsigned h0 h1 ▸ cvtOp_rounds h hc⟩
  case bf16 => exact low_toNat x 16 ▸ cvtOp_exact h
  case toBf16 => exact cvtOp_rounds h hc
  case f16 => exact low_toNat x 16 ▸ cvtOp_exact h
  case toF16 => exact cvtOp_rounds h hc
  case e8 => exact low_toNat x 8 ▸ cvtOp_exact h
  case toE8 => exact cvtOp_rounds h hc
  case elements =>
    rintro f k rm dr a b d w h x y rfl rfl rfl rfl
    exact ⟨rfl, rfl, rfl, rfl, fun ha => signOp_flt ha, fun m => rfl, fun g lo hi r hlo hhi hr => by subst hlo hhi hr; rfl,
      eqVal_fst _ _, ltVal_fst _ _ _, ltVal_fst _ _ _, eqVal_snd _ _, ltVal_snd _ _ _, ltVal_snd _ _ _⟩
  case convert =>
    rintro ta f k o sg w rm dr c x rfl
    refine ⟨fun h => by simp only [convert, h, if_true], fun h => by simp only [convert, h, Bool.false_eq_true, if_false],
      fun v hv => convert_of_int hv sg w k o rm dr, fun hn => ⟨by simp only [convert, hn], by simp only [convert, hn]⟩,
      fun h => by simp only [convert, h, if_false]⟩
  case dequantise =>
    intro fa fd rm dr c scale
    refine ⟨fun h => ?_, fun n hc hs => by simp only [dequantise, hc, hs, if_false],
      fun n m e hc hs => by simp only [dequantise, hc, hs, if_false]⟩
    rcases hc : fa.decode c with s | n | ⟨n, m, e⟩
    · simp only [dequantise, hc]
    · have hs : scale = 255 := by simpa [hc, FVal.isNaN] using h
      simp only [dequantise, hc, hs, if_true]
    · have hs : scale = 255 := by simpa [hc, FVal.isNaN] using h
      simp only [dequantise, hc, hs, if_true]
  case quantise =>
    intro f rm o draw xs
    refine ⟨quantise_special, fun h => ?_, fun p q r hle hp hq hr => quantise_scaled hle hp ?_ hr⟩
    · have hf : xs.filterMap FVal.top = [] := by
        refine List.filterMap_eq_nil_iff.2 fun x hx => ?_
        obtain ⟨n, e, rfl⟩ := h x hx
        rfl
      exact (quantise_finite fun x hx => let ⟨n, e, hx⟩ := h x hx; ⟨n, 0, e, hx⟩).1 hf
    · rw [hq]
      cases f <;> rfl

end Sys2Proof.Machine
end

section
/-! PROOF. Element operations on integers (R30, R177 to R180). -/
namespace Sys2Proof.Machine

/-! ### Integers of a width (R30) -/

theorem two_pow_pred {w : Nat} (hw : 0 < w) : (2 : Int) ^ w = 2 * 2 ^ (w - 1) := by
  obtain ⟨n, rfl⟩ := Nat.exists_eq_add_of_lt hw
  simp [pow_succ, mul_comm]

theorem intMin_le_zero (sg : Bool) (w : Nat) : intMin sg w ≤ 0 := by
  have h : (0 : Int) < 2 ^ (w - 1) := by positivity
  cases sg <;> simp only [intMin, Bool.false_eq_true, if_false, if_true] <;> omega

theorem intMax_nonneg (sg : Bool) (w : Nat) : 0 ≤ intMax sg w := by
  have h : (0 : Int) < 2 ^ (w - 1) := by positivity
  have h' : (0 : Int) < 2 ^ w := by positivity
  cases sg <;> simp only [intMax, Bool.false_eq_true, if_false, if_true] <;> omega

theorem intMin_le_intMax (sg : Bool) (w : Nat) : intMin sg w ≤ intMax sg w :=
  (intMin_le_zero sg w).trans (intMax_nonneg sg w)

/-- R30: a narrower type lies within a wider one. -/
theorem int_range_mono (sg : Bool) {p w : Nat} (h : p ≤ w) : intMin sg w ≤ intMin sg p ∧ intMax sg p ≤ intMax sg w := by
  have h1 : (2 : Int) ^ (p - 1) ≤ 2 ^ (w - 1) := pow_le_pow_right₀ (by decide) (by omega)
  have h2 : (2 : Int) ^ p ≤ 2 ^ w := pow_le_pow_right₀ (by decide) h
  cases sg <;> simp only [intMin, intMax, Bool.false_eq_true, if_false, if_true] <;> omega

/-- R30: a value of its type's range survives the code. -/
theorem intOf_intCode {sg : Bool} {w : Nat} (hw : 0 < w) {v : Int} (hlo : intMin sg w ≤ v) (hhi : v ≤ intMax sg w) :
    intOf sg w (intCode w v) = v := by
  have h2 := two_pow_pred hw
  have hp : (0 : Int) < 2 ^ (w - 1) := by positivity
  have hm0 := Int.emod_nonneg v (by positivity : (2 : Int) ^ w ≠ 0)
  have hm1 := Int.emod_lt_of_pos v (by positivity : (0 : Int) < 2 ^ w)
  have hn : ((intCode w v % 2 ^ w : Nat) : Int) = v % 2 ^ w := by
    rw [Int.natCast_mod, intCode, Int.toNat_of_nonneg hm0]
    push_cast
    exact Int.emod_emod_of_dvd _ dvd_rfl
  cases sg with
  | false =>
    simp only [intMin, intMax, Bool.false_eq_true, if_false] at hlo hhi
    simp only [intOf, Bool.false_eq_true, if_false, hn]
    exact Int.emod_eq_of_lt hlo (by omega)
  | true =>
    simp only [intMin, intMax, if_true] at hlo hhi
    have hc : 2 ^ (w - 1) ≤ intCode w v % 2 ^ w ↔ (2 : Int) ^ (w - 1) ≤ v % 2 ^ w := by
      rw [← hn]
      exact_mod_cast Iff.rfl
    simp only [intOf, signedOf, if_true, hc, hn]
    by_cases hv : 0 ≤ v
    · rw [Int.emod_eq_of_lt hv (by omega), if_neg (by omega)]
    · have hs : v % 2 ^ w = v + 2 ^ w := by
        rw [← Int.add_emod_right, Int.emod_eq_of_lt (by omega) (by omega)]
      rw [hs, if_pos (by omega)]
      omega

theorem flIf_eq_iff {c : Bool} {f : FlagSet} (hf : f ≠ 0#5) : flIf c f = f ↔ c = true := by
  cases c
  · simp [flIf, Ne.symm hf]
  · simp [flIf]

/-! ### Results (R177 to R180) -/

/-- R30, R177: under `k` the clamp, else the wrap. -/
theorem narrowInt_clamped (sg : Bool) (w : Nat) (v : Int) : narrowInt sg w true v =
    (intCode w (max (intMin sg w) (min (intMax sg w) v)), flIf (decide (v < intMin sg w ∨ intMax sg w < v)) flSaturation) := by
  simp only [narrowInt, if_true, clampInt_eq (intMin_le_intMax sg w)]

theorem narrowInt_rules (sg : Bool) (w : Nat) (v : Int) : narrowInt sg w false v = ((v % 2 ^ w).toNat, 0#5) ∧
    (intMin sg w ≤ v → v ≤ intMax sg w → narrowInt sg w true v = ((v % 2 ^ w).toNat, 0#5)) ∧
    (v < intMin sg w → narrowInt sg w true v = ((intMin sg w % 2 ^ w).toNat, flSaturation)) ∧
    (intMax sg w < v → narrowInt sg w true v = ((intMax sg w % 2 ^ w).toNat, flSaturation)) := by
  have hr := intMin_le_intMax sg w
  refine ⟨rfl, fun h0 h1 => ?_, fun h => ?_, fun h => ?_⟩ <;> rw [narrowInt_clamped]
  · rw [min_eq_right h1, max_eq_right h0, decide_eq_false (by omega)]
    rfl
  · rw [min_eq_right (by omega), max_eq_left (by omega), decide_eq_true (Or.inl h)]
    rfl
  · rw [min_eq_left (by omega), max_eq_right hr, decide_eq_true (Or.inr h)]
    rfl

theorem minMax_int (sg : Bool) (w a b : Nat) :
    intOf sg w (minMax false (.int sg w) a b).1 = min (intOf sg w a) (intOf sg w b) ∧
      intOf sg w (minMax true (.int sg w) a b).1 = max (intOf sg w a) (intOf sg w b) := by
  constructor
  · by_cases h : intOf sg w b < intOf sg w a
    · simp [minMax, h, min_eq_right h.le]
    · simp [minMax, h, min_eq_left (not_lt.1 h)]
  · by_cases h : intOf sg w a < intOf sg w b
    · simp [minMax, h, max_eq_right h.le]
    · simp [minMax, h, max_eq_left (not_lt.1 h)]

/-- R179: `vsat` clamps to the range of a narrower width. -/
theorem satOp_narrower {sg : Bool} {w a g p : Nat} (hp : p = g % 64) (h0 : p ≠ 0) (hw : p < w) :
    intOf sg w (satOp sg w a g).1 = max (intMin sg p) (min (intMax sg p) (intOf sg w a)) ∧
      ((satOp sg w a g).2 = flSaturation ↔ intOf sg w a < intMin sg p ∨ intMax sg p < intOf sg w a) := by
  have hs : satOp sg w a g = (intCode w (max (intMin sg p) (min (intMax sg p) (intOf sg w a))),
      flIf (decide (intOf sg w a < intMin sg p ∨ intMax sg p < intOf sg w a)) flSaturation) := by
    subst hp
    rw [satOp, if_neg (by omega), clampInt_eq (intMin_le_intMax sg _)]
  obtain ⟨hlo, hhi⟩ := int_range_mono sg hw.le
  have hr := intMin_le_intMax sg p
  refine ⟨?_, ?_⟩
  · rw [hs, intOf_intCode (by omega) (hlo.trans (le_max_left _ _)) (max_le (hr.trans hhi) ((min_le_left _ _).trans hhi))]
  · rw [hs, flIf_eq_iff (by decide), decide_eq_true_eq]

theorem signedOf_toNat {w : Nat} (hw : 0 < w) (a : BitVec w) : signedOf w a.toNat = a.toInt := by
  have h2 : 2 ^ w = 2 * 2 ^ (w - 1) := by exact_mod_cast two_pow_pred hw
  rw [signedOf, BitVec.toInt_eq_toNat_cond]
  push_cast
  split_ifs <;> omega

theorem intCode_eq (w : Nat) (v : Int) : intCode w v = (BitVec.ofInt w v).toNat := by
  rw [BitVec.toNat_ofInt, intCode]
  push_cast
  rfl

/-- R179: the bitwise forms and the shifts, of a width's words. -/
theorem bitOp_words {w : Nat} (a b : BitVec w) (hw : 0 < w) :
    bitOp .vand w a.toNat b.toNat = (a &&& b).toNat ∧ bitOp .vor w a.toNat b.toNat = (a ||| b).toNat ∧
      bitOp .vxor w a.toNat b.toNat = (a ^^^ b).toNat ∧ bitOp .vshl w a.toNat b.toNat = (a <<< (b.toNat % w)).toNat ∧
      bitOp .vshr w a.toNat b.toNat = (a >>> (b.toNat % w)).toNat ∧
      bitOp .vsra w a.toNat b.toNat = (a.sshiftRight (b.toNat % w)).toNat := by
  refine ⟨(BitVec.toNat_and ..).symm, (BitVec.toNat_or ..).symm, (BitVec.toNat_xor ..).symm, ?_, ?_, ?_⟩
  · rw [BitVec.toNat_shiftLeft, Nat.shiftLeft_eq]
    rfl
  · rw [BitVec.toNat_ushiftRight, Nat.shiftRight_eq_div_pow]
    rfl
  · rw [BitVec.sshiftRight_eq, Int.shiftRight_eq_div_pow, ← intCode_eq, ← signedOf_toNat hw]
    rfl

/-- R180: the comparisons and copies of integer elements. -/
theorem elemResult_int {e : VEntry} {sg : Bool} {w : Nat} (ht : e.sd.ty = .int sg w) (j : Nat) {a : Nat} (b d : Nat)
    (ha : a < 2 ^ w) :
    (e.op = .vcmpEq → e.elemResult j a b d = ((if intOf sg w a = intOf sg w b then 2 ^ w - 1 else 0), 0#5)) ∧
      (e.op = .vcmpLt → e.elemResult j a b d = ((if intOf sg w a < intOf sg w b then 2 ^ w - 1 else 0), 0#5)) ∧
      (e.op = .vcmpLe → e.elemResult j a b d = ((if intOf sg w a ≤ intOf sg w b then 2 ^ w - 1 else 0), 0#5)) ∧
      (e.op = .vsel → e.elemResult j a b d = ((if d = 0 then b else a), 0#5)) ∧
      (e.op = .vcopy → e.elemResult j a b d = (a, 0#5)) ∧
      (e.op = .vfill → e.elemResult j a b d = (e.g.bits.toNat % 2 ^ w, 0#5)) ∧
      (e.op = .viota → e.elemResult j a b d = ((e.g.lo.toNat + j) % 2 ^ w, 0#5)) := by
  refine ⟨fun h => ?_, fun h => ?_, fun h => ?_, fun h => ?_, fun h => ?_, fun h => ?_, fun h => ?_⟩
  · simp [VEntry.elemResult, h, ht, relation, ETy.bits]
  · simp [VEntry.elemResult, h, ht, relation, ETy.bits]
  · simp [VEntry.elemResult, h, ht, relation, ETy.bits]
  · simp [VEntry.elemResult, h]
  · simp [VEntry.elemResult, h, ht, copyBits, ETy.bits, Nat.mod_eq_of_lt ha]
  · simp [VEntry.elemResult, h, ht, copyBits, ETy.bits]
  · simp [VEntry.elemResult, h, ht, ETy.bits, TV.lo, BitVec.extractLsb'_toNat]

end Sys2Proof.Machine
end

section
/-! PROOF. Register operations of the hypervector unit (R235, R240 to R245). -/
namespace Sys2Proof.Machine

/-! ### Work of the sequencer, run -/

theorem U.bind_apply {α β : Type} (x : U α) (f : α → U β) (s : State) :
    (x >>= f) s = match x s with | .ok a s' => f a s' | .error e s' => .error e s' := by
  simp only [bind, EStateM.bind]
  cases x s <;> rfl

@[simp] theorem U.pure_apply {α : Type} (a : α) (s : State) : (pure a : U α) s = .ok a s := rfl

@[simp] theorem U.get_apply (s : State) : (get : U State) s = .ok s s := rfl

@[simp] theorem U.modify_apply (f : State → State) (s : State) : (modify f : U PUnit) s = .ok () (f s) := rfl

@[simp] theorem putReg_apply (k : Nat) (e : VEntry) (f : Strand → Strand) (s : State) :
    putReg k e f s = .ok () (s.updStrand k e.slot f) := rfl

theorem entryStrand_apply {k : Nat} {e : VEntry} {s : State} {t : Strand} (h : s.strand k e.slot = some t) :
    entryStrand k e s = .ok t s := by
  simp only [entryStrand, h]

/-! ### Bytes and bits of registers (R235) -/

theorem getElem?_natBytes (n : Nat) : ∀ (v : Nat) {i : Nat}, i < n → (natBytes n v)[i]? = some (BitVec.ofNat 8 (v / 256 ^ i)) := by
  induction n with
  | zero => exact fun v i hi => absurd hi (Nat.not_lt_zero i)
  | succ n ih =>
    intro v i hi
    cases i with
    | zero => simp [natBytes]
    | succ i =>
      have h : (natBytes n (v / 256))[i]? = some (BitVec.ofNat 8 (v / 256 / 256 ^ i)) := ih _ (by omega)
      rw [Nat.div_div_eq_div_mul, ← pow_succ'] at h
      simpa [natBytes] using h

theorem bytesNat_div (bs : List Byte) : ∀ {i : Nat} {b : Byte}, bs[i]? = some b → bytesNat bs / 256 ^ i % 256 = b.toNat := by
  induction bs with
  | nil => intro i b h; simp at h
  | cons c bs ih =>
    intro i b h
    have hc := c.isLt
    cases i with
    | zero =>
      cases h
      simp only [bytesNat, pow_zero, Nat.div_one]
      omega
    | succ i =>
      have h' : bytesNat (c :: bs) / 256 ^ (i + 1) = bytesNat bs / 256 ^ i := by
        rw [pow_succ', ← Nat.div_div_eq_div_mul, bytesNat]
        congr 1
        omega
      rw [h']
      exact ih h

theorem pow_256 (i : Nat) : (256 : Nat) ^ i = 2 ^ (8 * i) := by
  rw [pow_mul]
  norm_num

theorem ofNat_byte_eq_extract (y : BitVec 65536) (i : Nat) :
    BitVec.ofNat 8 (y.toNat / 256 ^ i) = y.extractLsb' (8 * i) 8 := by
  apply BitVec.eq_of_toNat_eq
  rw [BitVec.toNat_ofNat, BitVec.extractLsb'_toNat, Nat.shiftRight_eq_div_pow, pow_256]

/-- R235: counter `i` of a yealm register. -/
theorem getElem?_counters (y : BitVec 65536) {i : Nat} (hi : i < 8192) :
    (counters y)[i]? = some (y.extractLsb' (8 * i) 8).toInt := by
  rw [counters, List.getElem?_map, getElem?_natBytes 8192 _ hi, Option.map_some, ofNat_byte_eq_extract]

theorem getElem?_hBits (h : BitVec 8192) {i : Nat} (hi : i < 8192) : (hBits h)[i]? = some (h.getLsbD i) := by
  rw [hBits, List.getElem?_map, List.getElem?_range hi, Option.map_some]

/-- R235: a counter put back. -/
theorem ofCounters_extract {l : List Int} {i : Nat} (hi : i < 8192) {v : Int} (h : l[i]? = some v) (hlo : -128 ≤ v)
    (hhi : v ≤ 127) : ((ofCounters l).extractLsb' (8 * i) 8).toInt = v := by
  have hb : (l.map (BitVec.ofInt 8))[i]? = some (BitVec.ofInt 8 v) := by rw [List.getElem?_map, h, Option.map_some]
  have hx : (ofCounters l).extractLsb' (8 * i) 8 = BitVec.ofInt 8 v := by
    apply BitVec.eq_of_getLsbD_eq
    intro j hj
    rw [BitVec.getLsbD_extractLsb', ofCounters, BitVec.getLsbD_ofNat, ← BitVec.testBit_toNat, ← bytesNat_div _ hb,
      Nat.testBit_mod_two_pow (j := 8), pow_256, Nat.testBit_div_two_pow, Nat.add_comm j,
      decide_eq_true (by omega : 8 * i + j < 65536), decide_eq_true hj, Bool.true_and]
  rw [hx, BitVec.toInt_ofInt]
  exact Int.bmod_eq_of_le (by omega) (by omega)

theorem testBit_bitsNat (l : List Bool) : ∀ (i : Nat),
    (l.foldr (fun b (n : Nat) => (if b then 1 else 0) + 2 * n) 0).testBit i = l[i]?.getD false := by
  induction l with
  | nil => intro i; simp
  | cons b l ih =>
    intro i
    have hb : (if b = true then 1 else 0) + 2 * l.foldr (fun b (n : Nat) => (if b then 1 else 0) + 2 * n) 0 =
        Nat.bit b (l.foldr (fun b (n : Nat) => (if b then 1 else 0) + 2 * n) 0) := by
      rw [Nat.bit_val, Nat.add_comm]
      cases b <;> rfl
    rw [List.foldr_cons, hb]
    cases i with
    | zero => simp
    | succ i => rw [Nat.testBit_bit_succ, ih, List.getElem?_cons_succ]

/-- R235: a bit put back. -/
theorem ofHBits_getLsbD {l : List Bool} {i : Nat} (hi : i < 8192) {b : Bool} (h : l[i]? = some b) :
    (ofHBits l).getLsbD i = b := by
  rw [ofHBits, BitVec.getLsbD_ofNat, testBit_bitsNat, h]
  simp [hi]

/-! ### Rotation, bundling and thresholds (R240 to R243) -/

theorem hRotate_getLsbD (a : BitVec 8192) (r : Nat) {i : Nat} (hi : i < 8192) :
    (hRotate a r).getLsbD ((i + r) % 8192) = a.getLsbD i := by
  rw [hRotate, BitVec.getLsbD_rotateLeft]
  by_cases h : (i + r) % 8192 < r % 8192 % 8192
  · rw [decide_eq_true h, cond_true]
    congr 1
    omega
  · rw [decide_eq_false h, cond_false, decide_eq_true (Nat.mod_lt _ (by decide)), Bool.true_and]
    congr 1
    omega

theorem bundleStep_eq (mode : Nat) (w y : Int) (bit : Bool) : bundleStep mode w y bit =
    (max (-128) (min 127 (y + (if bit then w else if mode = 0 then -w else 0))),
      decide ((y + (if bit then w else if mode = 0 then -w else 0)) < -128 ∨
        127 < (y + (if bit then w else if mode = 0 then -w else 0)))) := clampInt_eq (by decide) _

/-- R242, R243: the bit of one counter where no tie is drawn. -/
def tieBit (tie : Nat) (y : Int) (h : Bool) : Bool :=
  if 0 < y then true else if y < 0 then false else if tie = 0 then h else decide (tie = 2)

theorem threshold_cons (tie : Nat) (y : Int) (ys : List Int) (hb : List Bool) (s : BitVec 64) (h : y ≠ 0 ∨ tie ≠ 3) :
    threshold tie (y :: ys) hb s =
      (tieBit tie y (hb.headD false) :: (threshold tie ys hb.tail s).1, (threshold tie ys hb.tail s).2) := by
  rw [threshold, if_neg (by tauto)]
  rfl

theorem threshold_tie (ys : List Int) (hb : List Bool) (s : BitVec 64) : threshold 3 (0 :: ys) hb s =
    ((tieStep s).1 :: (threshold 3 ys hb.tail (tieStep s).2).1, (threshold 3 ys hb.tail (tieStep s).2).2) := by
  rw [threshold, if_pos ⟨rfl, rfl⟩]

/-- R242: without drawn ties the generator stands still, and each bit depends on its counter alone. -/
theorem threshold_undrawn {tie : Nat} (ht : tie ≠ 3) (ys : List Int) : ∀ (hb : List Bool) (s : BitVec 64),
    (threshold tie ys hb s).2 = s ∧ ∀ (i : Nat) (y : Int), ys[i]? = some y →
      (threshold tie ys hb s).1[i]? = some (tieBit tie y (hb[i]?.getD false)) := by
  induction ys with
  | nil => exact fun hb s => ⟨rfl, fun i y h => by simp at h⟩
  | cons z ys ih =>
    intro hb s
    obtain ⟨ih2, ih1⟩ := ih hb.tail s
    rw [threshold_cons tie z ys hb s (Or.inr ht)]
    refine ⟨ih2, fun i y h => ?_⟩
    cases i with
    | zero => cases h; cases hb <;> rfl
    | succ i =>
      have h1 := ih1 i y h
      rw [List.getElem?_tail] at h1
      exact h1

theorem tieStep_bits (s : BitVec 64) :
    (tieStep s).1 = (s.getLsbD 63 ^^ s.getLsbD 62 ^^ s.getLsbD 60 ^^ s.getLsbD 59) ∧
      (tieStep s).2.getLsbD 0 = (tieStep s).1 ∧ ∀ i, i < 63 → (tieStep s).2.getLsbD (i + 1) = s.getLsbD i := by
  have hbit : ∀ (b : Bool) (i : Nat), (if b = true then 1#64 else 0#64).getLsbD i = (b && decide (i = 0)) := by
    intro b i
    cases b <;> simp
  refine ⟨rfl, ?_, fun i hi => ?_⟩
  · simp only [tieStep, BitVec.getLsbD_or, hbit, BitVec.getLsbD_shiftLeft]
    simp
  · have h1 : i + 1 < 64 := by omega
    simp only [tieStep, BitVec.getLsbD_or, hbit, BitVec.getLsbD_shiftLeft]
    simp [h1]

/-! ### Counts (R244) -/

theorem popCount_eq (n : Nat) : ∀ v : Nat, popCount n v = ((List.range n).filter (fun i => v.testBit i)).length := by
  induction n with
  | zero => exact fun v => rfl
  | succ n ih =>
    intro v
    have hs : (fun i => v.testBit i) ∘ Nat.succ = fun i => (v / 2).testBit i := by
      funext i
      simp [Nat.testBit_succ]
    rw [popCount, ih, List.range_succ_eq_map, List.filter_cons, List.filter_map, hs]
    by_cases h : v % 2 = 1
    · simp [h, Nat.testBit_zero, Nat.add_comm]
    · simp [Nat.testBit_zero, (by omega : v % 2 = 0)]

theorem popCount_word (a : BitVec 8192) : popCount 8192 a.toNat = ((List.range 8192).filter (fun i => a.getLsbD i)).length :=
  popCount_eq 8192 a.toNat

theorem hamming_eq (a b : BitVec 8192) :
    hamming a b = ((List.range 8192).filter (fun i => a.getLsbD i != b.getLsbD i)).length := by
  rw [hamming, popCount_word]
  congr 2
  funext i
  exact BitVec.getLsbD_xor

/-! ### The operations, run (R240 to R245) -/

/-- R241: the counters of a bundle after their step, each with its clamp. -/
def bundled (e : VEntry) (t : Strand) : List (Int × Bool) :=
  ((counters (t.getY e.y)).zip (hBits (t.getH e.ha))).map (fun p =>
    bundleStep e.mode (signedOf 8 (e.g.lo.toNat % 256)) p.1 p.2)

theorem getElem?_bundled (e : VEntry) (t : Strand) {i : Nat} (hi : i < 8192) : (bundled e t)[i]? =
    some (bundleStep e.mode (signedOf 8 (e.g.lo.toNat % 256)) ((t.getY e.y).extractLsb' (8 * i) 8).toInt
      ((t.getH e.ha).getLsbD i)) := by
  have hz : ((counters (t.getY e.y)).zip (hBits (t.getH e.ha)))[i]? =
      some (((t.getY e.y).extractLsb' (8 * i) 8).toInt, (t.getH e.ha).getLsbD i) :=
    List.getElem?_zip_eq_some.2 ⟨getElem?_counters _ hi, getElem?_hBits _ hi⟩
  rw [bundled, List.getElem?_map, hz, Option.map_some]

section
variable {s : State} {k : Nat} {e : VEntry} {t : Strand} (ht : s.strand k e.slot = some t)
include ht

/-- R240, R244, R245: the operations that no counter takes part in. -/
theorem unitRegs_plain :
    (e.op = .hbind → unitRegs k e s = .ok e (s.updStrand k e.slot (·.putH e.hd (t.getH e.ha ^^^ t.getH e.hb)))) ∧
      (e.op = .hnot → unitRegs k e s = .ok e (s.updStrand k e.slot (·.putH e.hd (~~~t.getH e.ha)))) ∧
      (e.op = .hmv → unitRegs k e s = .ok e (s.updStrand k e.slot (·.putH e.hd (t.getH e.ha)))) ∧
      (e.op = .hperm →
        unitRegs k e s = .ok e (s.updStrand k e.slot (·.putH e.hd (hRotate (t.getH e.ha) e.g.lo.toNat)))) ∧
      (e.op = .hclr → unitRegs k e s = .ok e (s.updStrand k e.slot (fun u =>
        if e.mode = 0 then u.putH e.hd 0#8192 else u.putY e.y 0#65536))) ∧
      (e.op = .hham → unitRegs k e s = .ok { e with res := [(hamming (t.getH e.ha) (t.getH e.hb), 0)] } s) ∧
      (e.op = .hpopc → unitRegs k e s = .ok { e with res := [(popCount 8192 (t.getH e.ha).toNat, 0)] } s) ∧
      (e.op = .hgetb → unitRegs k e s =
        .ok { e with res := [((t.getH e.ha).toNat / 2 ^ (64 * (e.mode * 8 + e.hb)) % 2 ^ 64, 0)] } s) := by
  refine ⟨?_, ?_, ?_, ?_, ?_, ?_, ?_, ?_⟩ <;> intro h <;>
    simp only [unitRegs, U.bind_apply, entryStrand_apply ht, h, putReg_apply, U.pure_apply]

/-- R241: every counter takes its step, the flag joins where one is clamped. -/
theorem unitRegs_bundle (h : e.op = .hbund) : ∃ e' y, unitRegs k e s = .ok e' (s.updStrand k e.slot (·.putY e.y y)) ∧
    (∀ i, i < 8192 → (y.extractLsb' (8 * i) 8).toInt = (bundleStep e.mode (signedOf 8 (e.g.lo.toNat % 256))
      ((t.getY e.y).extractLsb' (8 * i) 8).toInt ((t.getH e.ha).getLsbD i)).1) ∧
    (e'.fl = e.fl ∨ e'.fl = e.fl ||| flSaturation) ∧
    ((∃ i, i < 8192 ∧ (bundleStep e.mode (signedOf 8 (e.g.lo.toNat % 256))
      ((t.getY e.y).extractLsb' (8 * i) 8).toInt ((t.getH e.ha).getLsbD i)).2 = true) → e'.fl = e.fl ||| flSaturation) := by
  have hrun : unitRegs k e s = .ok (e.orFl (flIf ((bundled e t).any (·.2)) flSaturation))
      (s.updStrand k e.slot (·.putY e.y (ofCounters ((bundled e t).map (·.1))))) := by
    simp only [unitRegs, U.bind_apply, entryStrand_apply ht, h, putReg_apply, U.pure_apply, bundled]
  refine ⟨_, _, hrun, fun i hi => ?_, ?_, ?_⟩
  · have hb := bundleStep_eq e.mode (signedOf 8 (e.g.lo.toNat % 256)) ((t.getY e.y).extractLsb' (8 * i) 8).toInt
      ((t.getH e.ha).getLsbD i)
    refine ofCounters_extract hi (by rw [List.getElem?_map, getElem?_bundled e t hi, Option.map_some]) ?_ ?_ <;> rw [hb]
    · exact le_max_left _ _
    · exact max_le (by decide) (min_le_left _ _)
  · cases (bundled e t).any (·.2)
    · exact Or.inl (by simp [VEntry.orFl, flIf])
    · exact Or.inr rfl
  · rintro ⟨i, hi, hc⟩
    rw [VEntry.orFl, List.any_eq_true.2 ⟨_, List.mem_of_getElem? (getElem?_bundled e t hi), hc⟩]
    rfl

/-- R242: each bit of a threshold by the sign of its counter. -/
theorem unitRegs_threshold (h : e.op = .hthr) (htie : e.tie ≠ 3) : ∃ w n, unitRegs k e s = .ok e n ∧
    n.strand k e.slot = some ((if e.mode = 1 then t.putY e.y 0#65536 else t).putH e.hd w) ∧
    (n.core k).tieSeed = (s.core k).tieSeed ∧ ∀ i, i < 8192 → w.getLsbD i =
      tieBit e.tie ((t.getY e.y).extractLsb' (8 * i) 8).toInt ((t.getH e.hb).getLsbD i) := by
  obtain ⟨hseed, hbits⟩ := threshold_undrawn htie (counters (t.getY e.y)) (hBits (t.getH e.hb)) (s.core k).tieSeed
  set r := threshold e.tie (counters (t.getY e.y)) (hBits (t.getH e.hb)) (s.core k).tieSeed with hr
  have hs : (s.updCore k (fun c => { c with tieSeed := r.2 })).strand k e.slot = some t := by
    simpa only [State.strand, core_updCore_same] using ht
  have hrun : unitRegs k e s = .ok e ((s.updCore k (fun c => { c with tieSeed := r.2 })).updStrand k e.slot
      (fun u => (if e.mode = 1 then u.putY e.y 0#65536 else u).putH e.hd (ofHBits r.1))) := by
    simp only [unitRegs, U.bind_apply, entryStrand_apply ht, h, putReg_apply, U.pure_apply, U.get_apply, U.modify_apply, hr]
  refine ⟨_, _, hrun, strand_updStrand_same hs _, ?_, fun i hi => ?_⟩
  · rw [updStrand_eq hs, State.setStrand, core_updCore_same, core_updCore_same]
    exact hseed
  · have hb := hbits i _ (getElem?_counters _ hi)
    rw [getElem?_hBits _ hi] at hb
    exact ofHBits_getLsbD hi hb

end

/-- Settles O44: the integer forms by their clamp and their wrap, the register operations run one by one. -/
theorem integerElementAndHypervectorOperationsComputeTheirResults :
    Obligations.IntegerElementAndHypervectorOperationsComputeTheirResults := by
  unfold Obligations.IntegerElementAndHypervectorOperationsComputeTheirResults
  refine ⟨⟨fun w sg k rm a b d _ => ⟨narrowInt_rules sg w, rfl, rfl, rfl, rfl, rfl, rfl⟩,
      fun sg w a b hw _ _ => ⟨(minMax_int sg w a b).1, (minMax_int sg w a b).2, rfl, rfl, rfl, ?sat⟩,
      fun w a b hw => bitOp_words a b hw, fun e sg w j a b d ht ha => elemResult_int ht j b d ha⟩,
    fun a r i hi => hRotate_getLsbD a r hi, ?regs, bundleStep_eq, ?ties⟩
  case sat =>
    rintro g p hp
    refine ⟨fun h => ?_, satOp_narrower hp⟩
    rw [satOp, if_pos (hp ▸ h)]
  case regs =>
    rintro s k e t a b ht rfl rfl
    obtain ⟨hbind, hnot, hmv, hperm, hclr, hham, hpopc, hgetb⟩ := unitRegs_plain ht
    refine ⟨hbind, hnot, hmv, hperm, hclr, fun h => ?_, fun h => ?_, fun h => ?_, unitRegs_bundle ht,
      unitRegs_threshold ht⟩
    · rw [hham h, hamming_eq]
    · rw [hpopc h, popCount_word]
    · rw [hgetb h, BitVec.extractLsb'_toNat, Nat.shiftRight_eq_div_pow, Nat.mul_comm e.mode]
  case ties =>
    refine fun tie y ys h hs s => ⟨threshold_cons tie y ys (h :: hs) s, ?_, tieStep_bits s⟩
    rintro rfl rfl
    exact threshold_tie ys (h :: hs) s

end Sys2Proof.Machine
end

section
/-! PROOF. One rounding (R38, R39, R44, R45): the grid of a format, the nearest members of a rising grid, and the rounding of
any number that lies where the exact value of a mantissa and an exponent lies. -/
namespace Sys2Proof.Machine

/-! ### The grid of a format (R31) -/

/-- The exponent of the least member of a format's grid. -/
def Fmt.qmin (f : Fmt) : Int := 1 - (f.bias : Int) - f.mbits

theorem Fmt.mbits_pos (f : Fmt) : 0 < f.mbits := by cases f <;> decide

theorem Fmt.two_dvd_pow_mbits (f : Fmt) : 2 ∣ 2 ^ f.mbits := dvd_pow_self 2 f.mbits_pos.ne'

/-- A code as exponent and mantissa running on: mantissa `k` with its leading one, at exponent step `j`. -/
theorem gridValue_run (f : Fmt) {k j : Nat} (hk : k ≤ 2 * 2 ^ f.mbits) (hj : 2 ^ f.mbits ≤ k ∨ j = 0) :
    gridValue f (k + j * 2 ^ f.mbits) = k * 2 ^ (f.qmin + j) := by
  have hM : 0 < 2 ^ f.mbits := Nat.two_pow_pos _
  by_cases hlow : k + j * 2 ^ f.mbits < 2 ^ f.mbits
  · have hj0 : j = 0 := hj.resolve_left (by have := Nat.zero_le (j * 2 ^ f.mbits); omega)
    subst hj0
    simp only [Nat.zero_mul, Nat.add_zero] at hlow
    rw [gridValue, if_pos (by simpa using hlow)]
    simp [Fmt.qmin]
  · rw [gridValue, if_neg hlow]
    have hMk : 2 ^ f.mbits ≤ k := by
      rcases hj with h | rfl
      · exact h
      · simpa using hlow
    obtain ⟨r, rfl⟩ := Nat.exists_eq_add_of_le hMk
    have hsum : 2 ^ f.mbits + r + j * 2 ^ f.mbits = r + (j + 1) * 2 ^ f.mbits := by ring
    rw [hsum, Nat.add_mul_mod_self_right, Nat.add_mul_div_right _ _ hM]
    rcases Nat.lt_or_eq_of_le (by omega : r ≤ 2 ^ f.mbits) with hr | rfl
    · rw [Nat.mod_eq_of_lt hr, Nat.div_eq_of_lt hr, Fmt.qmin]
      push_cast
      rw [show (0 + ((j : Int) + 1)) - f.bias - f.mbits = 1 - f.bias - f.mbits + j by ring, add_comm (r : ℚ)]
    · rw [Nat.mod_self, Nat.div_self hM, Fmt.qmin]
      push_cast
      rw [show (1 + ((j : Int) + 1)) - f.bias - f.mbits = (1 - f.bias - f.mbits + j) + 1 by ring,
        zpow_add_one₀ two_ne_zero]
      ring

/-- Every code runs so. -/
theorem exists_run (f : Fmt) (c : Nat) :
    ∃ k j, c = k + j * 2 ^ f.mbits ∧ k < 2 * 2 ^ f.mbits ∧ (2 ^ f.mbits ≤ k ∨ j = 0) := by
  have hM : 0 < 2 ^ f.mbits := Nat.two_pow_pos _
  by_cases h : c < 2 ^ f.mbits
  · exact ⟨c, 0, by simp, by omega, Or.inr rfl⟩
  · have hmod := Nat.mod_lt c hM
    have hdiv : 1 ≤ c / 2 ^ f.mbits := (Nat.one_le_div_iff hM).2 (by omega)
    refine ⟨2 ^ f.mbits + c % 2 ^ f.mbits, c / 2 ^ f.mbits - 1, ?_, by omega, Or.inl (by omega)⟩
    have hd := Nat.mod_add_div' c (2 ^ f.mbits)
    rw [Nat.sub_mul, Nat.one_mul]
    have hle : 2 ^ f.mbits ≤ c / 2 ^ f.mbits * 2 ^ f.mbits := Nat.le_mul_of_pos_left _ hdiv
    omega

theorem gridValue_zero (f : Fmt) : gridValue f 0 = 0 := by
  simpa using gridValue_run f (k := 0) (j := 0) (Nat.zero_le _) (Or.inr rfl)

/-- R31: codes run upwards with their values. -/
theorem gridValue_strictMono (f : Fmt) : StrictMono (gridValue f) := by
  refine strictMono_nat_of_lt_succ fun c => ?_
  obtain ⟨k, j, rfl, hk, hj⟩ := exists_run f c
  have h1 := gridValue_run f (k := k + 1) (j := j) (by omega) (hj.imp_left fun h => by omega)
  rw [gridValue_run f hk.le hj, Nat.add_right_comm, h1]
  push_cast
  have h2 : (0 : ℚ) < 2 ^ (f.qmin + j) := by positivity
  linarith

theorem gridReal_strictMono (f : Fmt) : StrictMono fun i => (gridValue f i : ℝ) := fun _ _ h =>
  Rat.cast_lt.2 (gridValue_strictMono f h)

/-! ### Rounding between two members (R38, R45) -/

/-- R38, R45: whether a number steps up to the next unit, from the part `p` of one unit below which it keeps `t`. -/
def StepsUp (rm : RMode) (draw : Nat) (neg : Bool) (t : Nat) (p : ℝ) : Prop :=
  match rm with
  | .rne => 1 / 2 < p ∨ (p = 1 / 2 ∧ t % 2 = 1)
  | .rtz => False
  | .rdn => neg = true ∧ p ≠ 0
  | .rup => neg = false ∧ p ≠ 0
  | .sr => (draw : ℝ) + 1 ≤ p * 2 ^ 16

/-- The number `w` of units rounded to the whole number `k` of units. -/
def RoundedUnits (rm : RMode) (draw : Nat) (neg : Bool) (w : ℝ) (k : Nat) : Prop :=
  ∃ t : Nat, (t : ℝ) ≤ w ∧ w < t + 1 ∧ (StepsUp rm draw neg t (w - t) → k = t + 1) ∧
    (¬ StepsUp rm draw neg t (w - t) → k = t)

theorem not_stepsUp_zero (rm : RMode) (draw : Nat) (neg : Bool) (t : Nat) : ¬ StepsUp rm draw neg t 0 := by
  cases rm <;> simp only [StepsUp, not_false_eq_true, not_or, not_and, ne_eq, not_true, implies_true]
  case rne => norm_num
  case sr => have : (0 : ℝ) ≤ draw := Nat.cast_nonneg draw; norm_num; linarith

section
variable {rm : RMode} {draw : Nat} {neg : Bool} {w : ℝ} {k : Nat}

/-- A whole number of units stays. -/
theorem RoundedUnits.eq_of_whole (h : RoundedUnits rm draw neg w k) {n : Nat} (hw : w = n) : k = n := by
  obtain ⟨t, h0, h1, -, hdown⟩ := h
  rw [hw] at h0 h1
  have ht : t = n := le_antisymm (by exact_mod_cast h0) (Nat.lt_succ_iff.1 (by exact_mod_cast h1))
  rw [hw, ht, sub_self] at hdown
  exact hdown (not_stepsUp_zero rm draw neg n)

end

section
variable {grid : Nat → ℝ} (hg : StrictMono grid) {v : ℝ} {t c : Nat} (h0 : grid t ≤ v) (h1 : v < grid (t + 1))
include hg h0 h1

/-- R38: the least member at or above a number. -/
theorem roundedUp_of_bracket (hup : v ≠ grid t → c = t + 1) (hdown : v = grid t → c = t) :
    v ≤ grid c ∧ ∀ i, i < c → grid i < v := by
  by_cases h : v = grid t
  · rw [hdown h, h]
    exact ⟨le_rfl, fun i hi => hg hi⟩
  · rw [hup h]
    exact ⟨h1.le, fun i hi => (hg.monotone (Nat.lt_succ_iff.1 hi)).trans_lt (lt_of_le_of_ne h0 (Ne.symm h))⟩

/-- R38: the nearest member, the even one of two. -/
theorem nearest_of_bracket (hup : grid (t + 1) - v < v - grid t ∨ (grid (t + 1) - v = v - grid t ∧ t % 2 = 1) → c = t + 1)
    (hdown : v - grid t < grid (t + 1) - v ∨ (grid (t + 1) - v = v - grid t ∧ t % 2 = 0) → c = t) (i : Nat) :
    |v - grid c| < |v - grid i| ∨ i = c ∨ (|v - grid c| = |v - grid i| ∧ c % 2 = 0) := by
  have hbelow : i ≤ t → |v - grid i| = v - grid i ∧ grid i ≤ grid t ∧ (i < t → grid i < grid t) := fun hi =>
    ⟨abs_of_nonneg (sub_nonneg.2 ((hg.monotone hi).trans h0)), hg.monotone hi, fun h => hg h⟩
  have habove : t + 1 ≤ i → |v - grid i| = grid i - v ∧ grid (t + 1) ≤ grid i ∧ (t + 1 < i → grid (t + 1) < grid i) := fun hi =>
    ⟨abs_sub_comm v _ ▸ abs_of_nonneg (sub_nonneg.2 (h1.le.trans (hg.monotone hi))), hg.monotone hi, fun h => hg h⟩
  have hside : (i < t ∨ i = t) ∨ (i = t + 1 ∨ t + 1 < i) := by omega
  rcases lt_trichotomy (grid (t + 1) - v) (v - grid t) with h | h | h
  · -- the upper member is nearer
    rw [hup (Or.inl h), abs_sub_comm v (grid (t + 1)), abs_of_pos (sub_pos.2 h1)]
    rcases hside with hi | rfl | hi
    · obtain ⟨ha, hm, -⟩ := hbelow (by omega)
      exact Or.inl (by rw [ha]; linarith)
    · exact Or.inr (Or.inl rfl)
    · obtain ⟨ha, -, hm⟩ := habove (by omega)
      exact Or.inl (by rw [ha]; linarith [hm hi])
  · -- a tie
    rcases Nat.mod_two_eq_zero_or_one t with hp | hp
    · rw [hdown (Or.inr ⟨h, hp⟩), abs_of_nonneg (sub_nonneg.2 h0)]
      rcases hside with (hi | rfl) | rfl | hi
      · obtain ⟨ha, -, hm⟩ := hbelow hi.le
        exact Or.inl (by rw [ha]; linarith [hm hi])
      · exact Or.inr (Or.inl rfl)
      · exact Or.inr (Or.inr ⟨by rw [(habove le_rfl).1, h], hp⟩)
      · obtain ⟨ha, -, hm⟩ := habove hi.le
        exact Or.inl (by rw [ha]; linarith [hm hi])
    · rw [hup (Or.inr ⟨h, hp⟩), abs_sub_comm v (grid (t + 1)), abs_of_pos (sub_pos.2 h1)]
      rcases hside with (hi | rfl) | rfl | hi
      · obtain ⟨ha, -, hm⟩ := hbelow hi.le
        exact Or.inl (by rw [ha]; linarith [hm hi])
      · exact Or.inr (Or.inr ⟨by rw [(hbelow le_rfl).1, h], by omega⟩)
      · exact Or.inr (Or.inl rfl)
      · obtain ⟨ha, -, hm⟩ := habove hi.le
        exact Or.inl (by rw [ha]; linarith [hm hi])
  · -- the lower member is nearer
    rw [hdown (Or.inl h), abs_of_nonneg (sub_nonneg.2 h0)]
    rcases hside with (hi | rfl) | hi
    · obtain ⟨ha, -, hm⟩ := hbelow hi.le
      exact Or.inl (by rw [ha]; linarith [hm hi])
    · exact Or.inr (Or.inl rfl)
    · obtain ⟨ha, hm, -⟩ := habove (by omega)
      exact Or.inl (by rw [ha]; linarith)

end

/-- The bracket of a number in a rising grid gives the member to which it is rounded. -/
theorem roundsTo_of_bracket {grid : Nat → ℝ} (hg : StrictMono grid) {rm : RMode} {draw : Nat} {neg : Bool} {v u : ℝ} {t c : Nat}
    (h0 : grid t ≤ v) (h1 : v < grid (t + 1)) (hu : grid (t + 1) - grid t = u)
    (hup : StepsUp rm draw neg t ((v - grid t) / u) → c = t + 1) (hdown : ¬ StepsUp rm draw neg t ((v - grid t) / u) → c = t) :
    RoundsTo grid rm draw neg v c := by
  have hpos : 0 < u := by rw [← hu]; exact sub_pos.2 (hg (Nat.lt_succ_self t))
  have hzero : (v - grid t) / u = 0 ↔ v = grid t := by
    rw [div_eq_zero_iff, sub_eq_zero, or_iff_left hpos.ne']
  cases rm with
  | rne =>
    have hlt : 1 / 2 < (v - grid t) / u ↔ grid (t + 1) - v < v - grid t := by
      rw [div_lt_div_iff₀ two_pos hpos]
      constructor <;> intro h <;> linarith
    have heq : (v - grid t) / u = 1 / 2 ↔ grid (t + 1) - v = v - grid t := by
      rw [div_eq_div_iff hpos.ne' two_ne_zero]
      constructor <;> intro h <;> linarith
    simp only [StepsUp, hlt, heq] at hup hdown
    refine nearest_of_bracket hg h0 h1 hup fun h => hdown ?_
    rintro (h' | ⟨h', hp⟩)
    · rcases h with h | h <;> linarith
    · rcases h with h | h
      · linarith
      · omega
  | rtz =>
    rw [hdown not_false]
    exact ⟨h0, h1⟩
  | rdn =>
    cases neg with
    | false => rw [hdown (by simp [StepsUp])]; exact ⟨h0, h1⟩
    | true =>
      refine roundedUp_of_bracket hg h0 h1 (fun h => hup ⟨rfl, fun hz => h (hzero.1 hz)⟩) fun h => hdown ?_
      exact fun hs => hs.2 (hzero.2 h)
  | rup =>
    cases neg with
    | true => rw [hdown (by simp [StepsUp])]; exact ⟨h0, h1⟩
    | false =>
      refine roundedUp_of_bracket hg h0 h1 (fun h => hup ⟨rfl, fun hz => h (hzero.1 hz)⟩) fun h => hdown ?_
      exact fun hs => hs.2 (hzero.2 h)
  | sr =>
    have hc : ∀ x : ℝ, x ≤ (v - grid t) / u * 2 ^ 16 ↔ x * (grid (t + 1) - grid t) ≤ (v - grid t) * 2 ^ 16 := by
      intro x
      rw [hu, div_mul_eq_mul_div, le_div_iff₀ hpos]
    refine ⟨t, h0, h1, fun h => hup ((hc _).2 h), fun h => hdown fun h' => ?_⟩
    exact absurd ((hc _).1 h') (not_le.2 h)

/-- Whole numbers as a grid. -/
theorem roundsTo_of_units {rm : RMode} {draw : Nat} {neg : Bool} {w : ℝ} {k : Nat} (h : RoundedUnits rm draw neg w k) :
    RoundsTo (fun i => (i : ℝ)) rm draw neg w k := by
  obtain ⟨t, h0, h1, hup, hdown⟩ := h
  refine roundsTo_of_bracket (u := 1) (t := t) Nat.strictMono_cast h0 (by exact_mod_cast h1) (by push_cast; ring) ?_ ?_
  · simpa only [div_one] using hup
  · simpa only [div_one] using hdown

end Sys2Proof.Machine
end

section
/-! PROOF. The model's rounding (R38, R39, R44, R45): `roundAt` in units, and `Fmt.round` of any number that lies in the same
cell as the mantissa and exponent that it is given. -/
namespace Sys2Proof.Machine

theorem zpow_toNat_two {K : Type} [DivisionRing K] {n : Int} (h : 0 ≤ n) : (2 : K) ^ n.toNat = (2 : K) ^ n := by
  rw [← zpow_natCast, Int.toNat_of_nonneg h]

/-! ### One unit (R38, R45) -/

/-- The step of the model is the step of the fraction `rem / 2^sh`. -/
theorem stepsUp_iff {rm : RMode} {draw : Nat} {neg : Bool} {kept rem sh : Nat} :
    stepsUp rm draw neg kept rem sh = true ↔ StepsUp rm draw neg kept ((rem : ℝ) / 2 ^ sh) := by
  have hp : (0 : ℝ) < 2 ^ sh := by positivity
  have hz : (rem : ℝ) / 2 ^ sh = 0 ↔ rem = 0 := by
    rw [div_eq_zero_iff, or_iff_left hp.ne', Nat.cast_eq_zero]
  cases rm with
  | rne =>
    have hlt : (1 : ℝ) / 2 < (rem : ℝ) / 2 ^ sh ↔ 2 ^ sh < 2 * rem := by
      rw [div_lt_div_iff₀ two_pos hp, one_mul, mul_comm]
      exact_mod_cast Iff.rfl
    have heq : (rem : ℝ) / 2 ^ sh = 1 / 2 ↔ 2 * rem = 2 ^ sh := by
      rw [div_eq_div_iff hp.ne' two_ne_zero, one_mul, mul_comm]
      exact_mod_cast Iff.rfl
    simp only [stepsUp, StepsUp, hlt, heq, Bool.or_eq_true, Bool.and_eq_true, decide_eq_true_eq, gt_iff_lt]
  | rtz => simp [stepsUp, StepsUp]
  | rdn => simp [stepsUp, StepsUp, hz]
  | rup => simp [stepsUp, StepsUp, hz]
  | sr =>
    have hd : (draw : ℝ) + 1 ≤ (rem : ℝ) / 2 ^ sh * 2 ^ 16 ↔ (draw + 1) * 2 ^ sh ≤ rem * 2 ^ 16 := by
      rw [div_mul_eq_mul_div, le_div_iff₀ hp]
      exact_mod_cast Iff.rfl
    simp only [stepsUp, StepsUp, hd, decide_eq_true_eq, gt_iff_lt]
    rw [← Nat.le_div_iff_mul_le (Nat.two_pow_pos sh)]
    exact Nat.lt_iff_add_one_le

/-- The multiple of 2^q that the model gives for `man × 2^exp`, and whether it differs. -/
theorem roundAt_exact (rm : RMode) (draw : Nat) (neg : Bool) (man : Nat) (exp q : Int) :
    RoundedUnits rm draw neg (man * 2 ^ (exp - q)) (roundAt rm draw neg man exp q).1 ∧
      ((roundAt rm draw neg man exp q).2 = true ↔ (man : ℝ) * 2 ^ (exp - q) ≠ (roundAt rm draw neg man exp q).1) := by
  by_cases h : q ≤ exp
  · have hw : (man : ℝ) * 2 ^ (exp - q) = ((man * 2 ^ (exp - q).toNat : Nat) : ℝ) := by
      push_cast
      rw [zpow_toNat_two (by omega)]
    simp only [roundAt, if_pos h, hw, Bool.false_eq_true, ne_eq, not_true, and_true]
    exact ⟨_, le_rfl, by linarith, fun hs => absurd hs (by rw [sub_self]; exact not_stepsUp_zero _ _ _ _), fun _ => rfl⟩
  · set sh := (q - exp).toNat with hsh
    have hp : (0 : ℝ) < 2 ^ sh := by positivity
    have he : (2 : ℝ) ^ (exp - q) = (2 ^ sh)⁻¹ := by
      rw [hsh, zpow_toNat_two (by omega), ← zpow_neg, neg_sub]
    have hw : (man : ℝ) * 2 ^ (exp - q) = (man / 2 ^ sh : Nat) + ((man % 2 ^ sh : Nat) : ℝ) / 2 ^ sh := by
      have hd : (man : ℝ) = (man / 2 ^ sh : Nat) * 2 ^ sh + (man % 2 ^ sh : Nat) := by
        exact_mod_cast (Nat.div_add_mod' man (2 ^ sh)).symm
      rw [he, ← div_eq_mul_inv]
      nth_rewrite 1 [hd]
      rw [add_div, mul_div_assoc, div_self hp.ne', mul_one]
    have hr : ((man % 2 ^ sh : Nat) : ℝ) / 2 ^ sh < 1 := by
      rw [div_lt_one hp]
      exact_mod_cast Nat.mod_lt man (Nat.two_pow_pos sh)
    have hr0 : 0 ≤ ((man % 2 ^ sh : Nat) : ℝ) / 2 ^ sh := by positivity
    have hunits : RoundedUnits rm draw neg (man * 2 ^ (exp - q)) (roundAt rm draw neg man exp q).1 := by
      simp only [roundAt, if_neg h, ← hsh]
      refine ⟨man / 2 ^ sh, by rw [hw]; linarith, by rw [hw]; linarith, ?_, ?_⟩ <;>
        rw [hw, add_sub_cancel_left, ← stepsUp_iff] <;> intro hs
      · rw [if_pos hs]
      · rw [if_neg hs]
    refine ⟨hunits, ?_⟩
    have hz : (roundAt rm draw neg man exp q).2 = true ↔ man % 2 ^ sh ≠ 0 := by
      simp only [roundAt, if_neg h, ← hsh, decide_eq_true_eq]
    rw [hz, not_iff_not]
    constructor
    · intro h0
      rw [h0, Nat.cast_zero, zero_div, add_zero] at hw
      rw [hunits.eq_of_whole hw, hw]
    · intro hk
      rw [he, ← div_eq_mul_inv, div_eq_iff hp.ne'] at hk
      have hm : man = (roundAt rm draw neg man exp q).1 * 2 ^ sh := by exact_mod_cast hk
      rw [hm, Nat.mul_mod_left]

/-! ### Cells: numbers that no multiple of a unit parts -/

/-- Every multiple of `u` lies on the same side of `v` and of `w`. -/
def SameCell (u v w : ℝ) : Prop := ∀ j : Nat, (j * u ≤ v ↔ j * u ≤ w) ∧ (v ≤ j * u ↔ w ≤ j * u)

theorem SameCell.refl (u v : ℝ) : SameCell u v v := fun _ => ⟨Iff.rfl, Iff.rfl⟩

/-- Multiples of a multiple. -/
theorem SameCell.coarser {u v w : ℝ} (h : SameCell u v w) (n : Nat) : SameCell (n * u) v w := fun j => by
  have hj := h (j * n)
  rwa [Nat.cast_mul, mul_assoc] at hj

theorem SameCell.coarser_zpow {v w : ℝ} {a b : Int} (h : SameCell (2 ^ a) v w) (hab : a ≤ b) : SameCell (2 ^ b) v w := by
  have h2 := h.coarser (2 ^ (b - a).toNat)
  rwa [Nat.cast_pow, Nat.cast_ofNat, zpow_toNat_two (by omega), ← zpow_add₀ two_ne_zero, sub_add_cancel] at h2

theorem SameCell.scale {u v w : ℝ} (h : SameCell u v w) {c : ℝ} (hc : 0 < c) : SameCell (u * c) (v * c) (w * c) := fun j => by
  rw [← mul_assoc, mul_le_mul_iff_left₀ hc, mul_le_mul_iff_left₀ hc, mul_le_mul_iff_left₀ hc, mul_le_mul_iff_left₀ hc]
  exact h j

/-- R38, R45: a mode asks only where 2^−16ths of a unit lie. -/
theorem RoundedUnits.of_sameCell {rm : RMode} {draw : Nat} {neg : Bool} {v w : ℝ} {k : Nat} (h : RoundedUnits rm draw neg w k)
    (hc : SameCell (2 ^ (-16 : Int)) v w) : RoundedUnits rm draw neg v k ∧ (v = k ↔ w = k) := by
  have hle : ∀ (x : ℝ) (j : Nat), x = j * 2 ^ (-16 : Int) → ((x ≤ v ↔ x ≤ w) ∧ (v ≤ x ↔ w ≤ x)) := by
    rintro x j rfl
    exact hc j
  have hunit : ∀ n : Nat, (n : ℝ) = (n * 2 ^ 16 : Nat) * 2 ^ (-16 : Int) := by
    intro n
    push_cast
    rw [mul_assoc]
    norm_num
  have hwhole : ∀ n : Nat, v = n ↔ w = n := by
    intro n
    obtain ⟨h1, h2⟩ := hle n _ (hunit n)
    rw [le_antisymm_iff, h1, h2, ← le_antisymm_iff]
  refine ⟨?_, hwhole k⟩
  obtain ⟨t, h0, h1, hup, hdown⟩ := h
  have hsteps : StepsUp rm draw neg t (v - t) ↔ StepsUp rm draw neg t (w - t) := by
    have hne : v - t = 0 ↔ w - t = 0 := by
      rw [sub_eq_zero, sub_eq_zero]
      exact hwhole t
    cases rm with
    | rne =>
      obtain ⟨h1, h2⟩ := hle ((t : ℝ) + 1 / 2) (t * 2 ^ 16 + 2 ^ 15) (by push_cast; rw [add_mul, mul_assoc]; norm_num)
      have hlt : 1 / 2 < v - t ↔ 1 / 2 < w - t := by
        rw [lt_sub_iff_add_lt', lt_sub_iff_add_lt', ← not_le, ← not_le, h2]
      have heq : v - t = 1 / 2 ↔ w - t = 1 / 2 := by
        rw [sub_eq_iff_eq_add', sub_eq_iff_eq_add', le_antisymm_iff, h1, h2, ← le_antisymm_iff]
      simp only [StepsUp, hlt, heq]
    | rtz => exact Iff.rfl
    | rdn => simp only [StepsUp, ne_eq, hne]
    | rup => simp only [StepsUp, ne_eq, hne]
    | sr =>
      obtain ⟨h1, -⟩ := hle ((t : ℝ) + (draw + 1) * 2 ^ (-16 : Int)) (t * 2 ^ 16 + draw + 1) (by
        push_cast
        norm_num
        ring)
      have hs : ∀ x : ℝ, (draw : ℝ) + 1 ≤ (x - t) * 2 ^ 16 ↔ (t : ℝ) + (draw + 1) * 2 ^ (-16 : Int) ≤ x := by
        intro x
        norm_num
        constructor <;> intro h <;> linarith
      simp only [StepsUp, hs, h1]
  refine ⟨t, (hle t _ (hunit t)).1.2 h0, ?_, fun hs => hup (hsteps.1 hs), fun hs => hdown fun hw => hs (hsteps.2 hw)⟩
  have hlt := (hle ((t : ℝ) + 1) ((t + 1) * 2 ^ 16) (by rw [← hunit]; push_cast; ring)).1
  rw [← not_le, hlt, not_le]
  exact h1

end Sys2Proof.Machine
end

section
/-! PROOF. `Fmt.round` rounds once (R38, R39, R44, R45). -/
namespace Sys2Proof.Machine

section
variable {f : Fmt} {rm : RMode} {draw : Nat} {neg : Bool} {v : ℝ}

/-- A number between two powers of two, rounded at the unit of its binade or of the least one, by its code. -/
theorem code_of_units {l q : Int} {k : Nat} (hlo : 2 ^ l ≤ v) (hhi : v < 2 ^ (l + 1)) (hq : q = max (l - f.mbits) f.qmin)
    (hk : RoundedUnits rm draw neg (v * 2 ^ (-q)) k) :
    RoundsTo (fun i => (gridValue f i : ℝ)) rm draw neg v (k + (q - f.qmin).toNat * 2 ^ f.mbits) ∧
      (gridValue f (k + (q - f.qmin).toNat * 2 ^ f.mbits) : ℝ) = k * 2 ^ q := by
  obtain ⟨t, h0, h1, hup, hdown⟩ := hk
  set j := (q - f.qmin).toNat with hj
  have hjq : f.qmin + j = q := by omega
  have hqpos : (0 : ℝ) < 2 ^ q := by positivity
  have hv : v = v * 2 ^ (-q) * 2 ^ q := by rw [mul_assoc, ← zpow_add₀ two_ne_zero, neg_add_cancel, zpow_zero, mul_one]
  have hM : (2 : ℝ) ^ f.mbits * 2 ^ q = 2 ^ (f.mbits + q) := by rw [← zpow_natCast, ← zpow_add₀ two_ne_zero]
  have htop : t < 2 * 2 ^ f.mbits := by
    have h2 : (t : ℝ) * 2 ^ q < 2 * 2 ^ f.mbits * 2 ^ q := by
      calc (t : ℝ) * 2 ^ q ≤ v := by rw [hv]; exact mul_le_mul_of_nonneg_right h0 hqpos.le
        _ < 2 ^ (l + 1) := hhi
        _ ≤ 2 ^ (1 + (f.mbits + q)) := zpow_le_zpow_right₀ one_le_two (by omega)
        _ = 2 * 2 ^ f.mbits * 2 ^ q := by rw [mul_assoc, hM, zpow_one_add₀ two_ne_zero]
    exact_mod_cast lt_of_mul_lt_mul_right h2 hqpos.le
  have hbot : 2 ^ f.mbits ≤ t ∨ j = 0 := by
    refine or_iff_not_imp_right.2 fun hj0 => ?_
    have hql : q = l - f.mbits := by omega
    have h2 : (2 : ℝ) ^ f.mbits * 2 ^ q < (t + 1) * 2 ^ q := by
      calc (2 : ℝ) ^ f.mbits * 2 ^ q = 2 ^ l := by rw [hM, hql]; congr 1; ring
        _ ≤ v := hlo
        _ < (t + 1) * 2 ^ q := by rw [hv]; exact mul_lt_mul_of_pos_right h1 hqpos
    have h3 : (2 : ℝ) ^ f.mbits < t + 1 := lt_of_mul_lt_mul_right h2 hqpos.le
    exact Nat.lt_succ_iff.1 (by exact_mod_cast h3)
  have hgrid : ∀ i, i = t ∨ i = t + 1 → (gridValue f (i + j * 2 ^ f.mbits) : ℝ) = i * 2 ^ q := by
    intro i hi
    rw [gridValue_run f (by omega) (hbot.imp_left fun h => by omega), hjq]
    push_cast
    rfl
  have hk : k = t ∨ k = t + 1 := (em _).elim (fun h => Or.inr (hup h)) (fun h => Or.inl (hdown h))
  have hnext : (gridValue f (t + j * 2 ^ f.mbits + 1) : ℝ) = ((t + 1 : Nat) : ℝ) * 2 ^ q := by
    rw [Nat.add_right_comm]
    exact hgrid _ (Or.inr rfl)
  have hfrac : (v - gridValue f (t + j * 2 ^ f.mbits)) / 2 ^ q = v * 2 ^ (-q) - t := by
    rw [hgrid t (Or.inl rfl), div_eq_iff hqpos.ne', sub_mul, ← hv]
  have hparity : (t + j * 2 ^ f.mbits) % 2 = t % 2 := by
    obtain ⟨c, hc⟩ := f.two_dvd_pow_mbits
    rw [hc, Nat.mul_left_comm, Nat.add_mul_mod_self_left]
  have hsteps : StepsUp rm draw neg (t + j * 2 ^ f.mbits) (v * 2 ^ (-q) - t) ↔ StepsUp rm draw neg t (v * 2 ^ (-q) - t) := by
    cases rm <;> simp only [StepsUp, hparity]
  refine ⟨roundsTo_of_bracket (u := 2 ^ q) (t := t + j * 2 ^ f.mbits) (gridReal_strictMono f) ?_ ?_ ?_ ?_ ?_, hgrid k hk⟩
  · rw [hgrid t (Or.inl rfl), hv]
    exact mul_le_mul_of_nonneg_right h0 hqpos.le
  · rw [hnext, hv]
    push_cast
    exact mul_lt_mul_of_pos_right h1 hqpos
  · rw [hnext, hgrid t (Or.inl rfl)]
    push_cast
    ring
  · rw [hfrac, hsteps]
    intro h
    rw [hup h]
    ring
  · rw [hfrac, hsteps]
    intro h
    rw [hdown h]

/-- R44: a number that no mode takes to the smallest normal one. -/
theorem roundsTiny_of_le {a u : ℝ} (ha : a = 2 ^ (1 - (f.bias : Int))) (hu : u = a / 2 ^ (f.mbits + 1)) (h : v ≤ a - u) :
    RoundsTiny f rm draw neg v := by
  subst ha hu
  have hu : (0 : ℝ) < 2 ^ (1 - (f.bias : Int)) / 2 ^ (f.mbits + 1) := by positivity
  refine ⟨by linarith, ?_⟩
  cases rm with
  | rne => show v < _; linarith
  | rtz => trivial
  | rdn => exact fun _ => h
  | rup => exact fun _ => h
  | sr =>
    have hd : (0 : ℝ) < (draw + 1) * (2 ^ (1 - (f.bias : Int)) / 2 ^ (f.mbits + 1)) := by positivity
    show (v - _) * 2 ^ 16 < _
    linarith

/-- R44: in the last unit below the smallest normal number, the modes that do not step up. -/
theorem roundsTiny_last {a u w : ℝ} {t : Nat} (ha : a = 2 ^ (1 - (f.bias : Int))) (hu : u = a / 2 ^ (f.mbits + 1))
    (hv : v = w * u) (hau : a - u = t * u) (ht : t % 2 = 1) (h1 : w < t + 1) (h0 : t ≤ w) :
    RoundsTiny f rm draw neg v ↔ ¬ StepsUp rm draw neg t (w - t) := by
  have hupos : 0 < u := by rw [hu, ha]; positivity
  have hva : v < a := by
    rw [hv, show a = (t + 1) * u by linarith]
    exact mul_lt_mul_of_pos_right h1 hupos
  have hva' := hva
  unfold RoundsTiny
  simp only [← ha, ← hu, hva, true_and]
  have hle : v ≤ a - u ↔ w - t = 0 := by
    rw [hv, hau, mul_le_mul_iff_left₀ hupos, sub_eq_zero]
    exact ⟨fun h => le_antisymm h h0, fun h => h.le⟩
  cases rm with
  | rne =>
    have hlt : v < a - u / 2 ↔ w - t < 1 / 2 := by
      rw [hv, show a - u / 2 = (t + 1 / 2) * u by linarith, mul_lt_mul_iff_left₀ hupos]
      constructor <;> intro h <;> linarith
    simp only [StepsUp, hlt, ht, and_true, not_or, not_lt]
    exact ⟨fun h => ⟨h.le, h.ne⟩, fun h => lt_of_le_of_ne h.1 h.2⟩
  | rtz => simp [StepsUp]
  | rdn => simp [StepsUp, hle]
  | rup => simp [StepsUp, hle]
  | sr =>
    have hlt : (v - (a - u)) * 2 ^ 16 < (draw + 1) * u ↔ (w - t) * 2 ^ 16 < draw + 1 := by
      rw [hv, hau, show (w * u - t * u) * 2 ^ 16 = (w - t) * 2 ^ 16 * u by ring, mul_lt_mul_iff_left₀ hupos]
    simp only [StepsUp, hlt, not_le]

/-- R44: the model's test of tininess, on the units of the number's own binade. -/
theorem tiny_iff {l : Int} {k : Nat} (hlo : 2 ^ l ≤ v) (hhi : v < 2 ^ (l + 1))
    (hk : RoundedUnits rm draw neg (v * 2 ^ (-(l - f.mbits))) k) :
    (l - f.mbits < 1 - (f.bias : Int) ∧ k < 2 ^ (1 - (f.bias : Int) - (l - f.mbits)).toNat) ↔ RoundsTiny f rm draw neg v := by
  obtain ⟨t, h0, h1, hup, hdown⟩ := hk
  have hkt : k = t ∨ k = t + 1 := (em _).elim (fun h => Or.inr (hup h)) (fun h => Or.inl (hdown h))
  set w := v * 2 ^ (-(l - f.mbits)) with hw
  set E : Int := 1 - (f.bias : Int) with hE
  have hX : (0 : ℝ) < 2 ^ (-(l - f.mbits)) := by positivity
  have hwlo : ((2 ^ f.mbits : Nat) : ℝ) ≤ w := by
    calc ((2 ^ f.mbits : Nat) : ℝ) = 2 ^ l * 2 ^ (-(l - f.mbits)) := by
          rw [← zpow_add₀ two_ne_zero, show l + -(l - f.mbits) = (f.mbits : Int) by ring, zpow_natCast]
          push_cast
          rfl
      _ ≤ w := mul_le_mul_of_nonneg_right hlo hX.le
  have hwhi : w < ((2 * 2 ^ f.mbits : Nat) : ℝ) := by
    calc w < 2 ^ (l + 1) * 2 ^ (-(l - f.mbits)) := mul_lt_mul_of_pos_right hhi hX
      _ = ((2 * 2 ^ f.mbits : Nat) : ℝ) := by
          rw [← zpow_add₀ two_ne_zero, show l + 1 + -(l - f.mbits) = 1 + (f.mbits : Int) by ring, zpow_one_add₀ two_ne_zero,
            zpow_natCast]
          push_cast
          rfl
  have htlo : 2 ^ f.mbits ≤ t := Nat.lt_succ_iff.1 (by exact_mod_cast hwlo.trans_lt h1)
  have hthi : t < 2 * 2 ^ f.mbits := by exact_mod_cast h0.trans_lt hwhi
  have hmul : 2 * 2 ^ f.mbits = 2 ^ (f.mbits + 1) := by rw [pow_succ']
  rcases lt_trichotomy (l + 1) E with hl | hl | hl
  · -- at least a binade below
    have hpow : 2 ^ (f.mbits + 2) ≤ 2 ^ (E - (l - f.mbits)).toNat := Nat.pow_le_pow_right two_pos (by omega)
    have hv : v ≤ (2 : ℝ) ^ E - 2 ^ E / 2 ^ (f.mbits + 1) := by
      have h2 : (2 : ℝ) ^ (l + 1) ≤ 2 ^ (E - 1) := zpow_le_zpow_right₀ one_le_two (by omega)
      have h3 : (2 : ℝ) ^ E / 2 ^ (f.mbits + 1) ≤ 2 ^ E / 2 ^ 1 :=
        div_le_div_of_nonneg_left (by positivity) (by positivity) (pow_le_pow_right₀ one_le_two (by omega))
      rw [zpow_sub_one₀ two_ne_zero] at h2
      linarith
    exact iff_of_true ⟨by omega, by rw [pow_succ', ← hmul] at hpow; omega⟩ (roundsTiny_of_le rfl rfl hv)
  · -- the binade just below
    have hpow : 2 ^ (E - (l - f.mbits)).toNat = 2 * 2 ^ f.mbits := by
      rw [hmul]
      congr 1
      omega
    rw [hpow, and_iff_right (by omega)]
    have hu : (2 : ℝ) ^ (l - f.mbits) = 2 ^ E / 2 ^ (f.mbits + 1) := by
      rw [← zpow_natCast, ← zpow_sub₀ two_ne_zero]
      congr 1
      push_cast
      omega
    have hv : v = w * (2 ^ E / 2 ^ (f.mbits + 1)) := by
      rw [← hu, hw, mul_assoc, ← zpow_add₀ two_ne_zero, neg_add_cancel, zpow_zero, mul_one]
    have hsub : (2 : ℝ) ^ E - 2 ^ E / 2 ^ (f.mbits + 1) = ((2 * 2 ^ f.mbits - 1 : Nat) : ℝ) * (2 ^ E / 2 ^ (f.mbits + 1)) := by
      rw [Nat.cast_sub (by omega), hmul]
      push_cast
      field_simp
    rcases Nat.lt_or_eq_of_le (by omega : t ≤ 2 * 2 ^ f.mbits - 1) with ht | ht
    · refine iff_of_true (by omega) (roundsTiny_of_le rfl rfl ?_)
      have htr : (t : ℝ) + 1 ≤ (2 * 2 ^ f.mbits - 1 : Nat) := by exact_mod_cast ht
      rw [hsub, hv]
      exact mul_le_mul_of_nonneg_right (by linarith) (by positivity)
    · rw [roundsTiny_last (w := w) (t := t) rfl rfl hv (by rw [hsub, ht]) (by omega) h1 h0]
      constructor
      · intro hlt hs
        have := hup hs
        omega
      · intro hs
        have := hdown hs
        omega
  · -- the smallest normal number or above
    have hna : ¬ RoundsTiny f rm draw neg v := fun h => by
      have h2 : (2 : ℝ) ^ E ≤ 2 ^ l := zpow_le_zpow_right₀ one_le_two (by omega)
      exact absurd h.1 (not_lt.2 (h2.trans hlo))
    refine iff_of_false (fun h => ?_) hna
    have hpow : 2 ^ (E - (l - f.mbits)).toNat ≤ 2 ^ f.mbits := Nat.pow_le_pow_right two_pos (by omega)
    omega

/-- The units of a mantissa and an exponent are the units of every number in the same cell. -/
theorem units_of_sameCell {m : Nat} {e q : Int} (hc : SameCell (2 ^ (e + Nat.log2 m - f.mbits - 16)) v (m * 2 ^ e))
    (hq : e + Nat.log2 m - f.mbits ≤ q) : RoundedUnits rm draw neg (v * 2 ^ (-q)) (roundAt rm draw neg m e q).1 ∧
      ((roundAt rm draw neg m e q).2 = true ↔ ((roundAt rm draw neg m e q).1 : ℝ) * 2 ^ q ≠ v) := by
  have hX : (0 : ℝ) < 2 ^ (-q) := by positivity
  have hcq := (hc.coarser_zpow (show _ ≤ q - 16 by omega)).scale hX
  rw [mul_assoc, ← zpow_add₀ two_ne_zero, ← zpow_add₀ two_ne_zero, show q - 16 + -q = -16 by ring, ← sub_eq_add_neg] at hcq
  obtain ⟨hu, hx⟩ := roundAt_exact rm draw neg m e q
  obtain ⟨hr, hw⟩ := hu.of_sameCell hcq
  refine ⟨hr, hx.trans ?_⟩
  rw [ne_eq, ne_eq, ← hw, not_iff_not, zpow_neg, ← div_eq_mul_inv, div_eq_iff (by positivity)]
  exact eq_comm

/-- The powers of two about a mantissa hold for every number in the same cell. -/
theorem bounds_of_sameCell {m : Nat} {e a : Int} (hm : m ≠ 0) (ha : a ≤ e + Nat.log2 m) (hc : SameCell (2 ^ a) v (m * 2 ^ e)) :
    2 ^ (e + Nat.log2 m) ≤ v ∧ v < 2 ^ (e + Nat.log2 m + 1) := by
  have hX : (0 : ℝ) < 2 ^ e := by positivity
  have hlo : (2 : ℝ) ^ (e + Nat.log2 m) ≤ m * 2 ^ e := by
    rw [zpow_add₀ two_ne_zero, mul_comm, zpow_natCast]
    exact mul_le_mul_of_nonneg_right (by exact_mod_cast Nat.log2_self_le hm) hX.le
  have hhi : (m : ℝ) * 2 ^ e < 2 ^ (e + Nat.log2 m + 1) := by
    rw [add_assoc, zpow_add₀ two_ne_zero, mul_comm, ← Nat.cast_add_one, zpow_natCast]
    exact mul_lt_mul_of_pos_left (by exact_mod_cast Nat.lt_log2_self) hX
  have h1 := (hc.coarser_zpow ha 1).1
  have h2 := (hc.coarser_zpow (show a ≤ e + Nat.log2 m + 1 by omega) 1).1
  rw [Nat.cast_one, one_mul] at h1 h2
  exact ⟨h1.2 hlo, not_le.1 fun h => absurd (h2.1 h) (not_le.2 hhi)⟩

/-- R38, R39, R44, R45: `Fmt.round` rounds every number that lies in the cell of its mantissa and exponent. -/
theorem round_of_sameCell {o : Bool} {m : Nat} {e : Int} (hm : m ≠ 0)
    (hc : SameCell (2 ^ (e + Nat.log2 m - f.mbits - 16)) v (m * 2 ^ e)) :
    Rounds f rm o draw neg v (f.round rm o draw neg m e) := by
  obtain ⟨hlo, hhi⟩ := bounds_of_sameCell hm (by omega) hc
  have hv : 0 < v := lt_of_lt_of_le (by positivity) hlo
  set q := max (e + Nat.log2 m - f.mbits) f.qmin with hq
  obtain ⟨hk, hx⟩ := units_of_sameCell (rm := rm) (draw := draw) (neg := neg) hc (le_max_left _ _ : _ ≤ q)
  obtain ⟨hkn, -⟩ := units_of_sameCell (rm := rm) (draw := draw) (neg := neg) hc le_rfl
  obtain ⟨hto, hgrid⟩ := code_of_units hlo hhi hq hk
  have htiny := tiny_iff (neg := neg) hlo hhi hkn
  set code := (roundAt rm draw neg m e q).1 + (q - f.qmin).toNat * 2 ^ f.mbits with hcode
  set tiny := decide (e + Nat.log2 m - f.mbits < 1 - (f.bias : Int)) &&
    decide ((roundAt rm draw neg m e (e + Nat.log2 m - f.mbits)).1 <
      2 ^ (1 - (f.bias : Int) - (e + Nat.log2 m - f.mbits)).toNat) with ht
  have hround : f.round rm o draw neg m e =
      if code > f.maxCode then (f.overflowCode rm o neg, flOverflow ||| flInexact)
      else (f.signed neg code, flIf (tiny && (roundAt rm draw neg m e q).2) flUnderflow |||
        flIf (roundAt rm draw neg m e q).2 flInexact) := by
    rw [Fmt.round, if_neg hm]
    rfl
  refine ⟨fun h0 => absurd h0 hv.ne', fun _ => ⟨code, hto, fun hov => ?_, fun hle => ?_⟩⟩
  · rw [hround, if_pos hov]
  · refine ⟨_, _, by rw [hround, if_neg (not_lt.2 hle)], by rw [hx, hgrid], ?_⟩
    rw [Bool.and_eq_true, hx, hgrid, and_comm, ht, Bool.and_eq_true, decide_eq_true_eq, decide_eq_true_eq, htiny]

end

/-- R38, R39: one rounding of the exact value of a mantissa and an exponent. -/
theorem round_exact (f : Fmt) (rm : RMode) (o : Bool) (draw : Nat) (neg : Bool) (m : Nat) (e : Int) :
    Rounds f rm o draw neg ((m : ℝ) * 2 ^ e) (f.round rm o draw neg m e) := by
  by_cases hm : m = 0
  · subst hm
    rw [Nat.cast_zero, zero_mul]
    exact ⟨fun _ => by rw [Fmt.round, if_pos rfl], fun h => absurd h (lt_irrefl 0)⟩
  · exact round_of_sameCell hm (SameCell.refl _ _)

/-- R112, R113: a mantissa with a sticky bit below it stands for every number between it and the next one. -/
theorem round_sticky {f : Fmt} {rm : RMode} {o : Bool} {draw : Nat} {neg : Bool} {v : ℝ} {n s : Nat} {e : Int} (hn : 2 ^ 39 ≤ n)
    (h0 : n * 2 ^ e ≤ v) (h1 : v < (n + 1) * 2 ^ e) (hs : (s = 0 ∧ v = n * 2 ^ e) ∨ (s = 1 ∧ v ≠ n * 2 ^ e)) :
    Rounds f rm o draw neg v (f.round rm o draw neg (2 * n + s) (e - 1)) := by
  have hX : (0 : ℝ) < 2 ^ e := by positivity
  have hm : ((2 * n + s : Nat) : ℝ) * 2 ^ (e - 1) = (n + s / 2) * 2 ^ e := by
    rw [zpow_sub_one₀ two_ne_zero]
    push_cast
    ring
  have hcell : SameCell (2 ^ e) v ((2 * n + s : Nat) * 2 ^ (e - 1)) := by
    intro j
    rw [hm, mul_le_mul_iff_left₀ hX, mul_le_mul_iff_left₀ hX]
    rcases hs with ⟨rfl, rfl⟩ | ⟨rfl, hne⟩
    · rw [mul_le_mul_iff_left₀ hX, mul_le_mul_iff_left₀ hX]
      norm_num
    · have hlt : (n : ℝ) * 2 ^ e < v := lt_of_le_of_ne h0 (Ne.symm hne)
      rcases Nat.lt_or_ge n j with hj | hj
      · have hj' : (n : ℝ) + 1 ≤ j := by exact_mod_cast hj
        have hvj : v < j * 2 ^ e := h1.trans_le (mul_le_mul_of_nonneg_right hj' hX.le)
        refine ⟨iff_of_false (not_le.2 hvj) ?_, iff_of_true hvj.le ?_⟩ <;> push_cast <;> linarith
      · have hj' : (j : ℝ) ≤ n := by exact_mod_cast hj
        have hvj : j * 2 ^ e < v := (mul_le_mul_of_nonneg_right hj' hX.le).trans_lt hlt
        refine ⟨iff_of_true hvj.le ?_, iff_of_false (not_le.2 hvj) ?_⟩ <;> push_cast <;> linarith
  have hlog : 40 ≤ Nat.log2 (2 * n + s) := (Nat.le_log2 (by omega)).2 (by omega)
  have hb : f.mbits ≤ 23 := by cases f <;> decide
  exact round_of_sameCell (by omega) (hcell.coarser_zpow (by omega))

end Sys2Proof.Machine
end

section
/-! PROOF. Sums, products, quotients and roots are rounded once from their exact values (R43, R112, R113, R117). -/
namespace Sys2Proof.Machine

/-! ### Exact values -/

theorem abs_finValue (n : Bool) (m : Nat) (e : Int) : |finValue n m e| = (m : ℚ) * 2 ^ e := by
  have hm : (0 : ℚ) ≤ m * 2 ^ e := by positivity
  cases n
  · simp [finValue, abs_of_nonneg hm]
  · simp [finValue, abs_of_nonneg hm]

theorem finValue_mul (n1 n2 : Bool) (m1 m2 : Nat) (e1 e2 : Int) :
    finValue (n1 != n2) (m1 * m2) (e1 + e2) = finValue n1 m1 e1 * finValue n2 m2 e2 := by
  have hs : ((if (n1 != n2) = true then -1 else 1 : ℚ)) = (if n1 = true then -1 else 1) * (if n2 = true then -1 else 1) := by
    cases n1 <;> cases n2 <;> norm_num
  rw [finValue, finValue, finValue, hs, zpow_add₀ two_ne_zero]
  push_cast
  ring

/-- The common exponent of a sum. -/
theorem aligned {m : Nat} {e d : Int} (h : d ≤ e) (n : Bool) :
    ((if n = true then -((m : Int) * 2 ^ (e - d).toNat) else (m : Int) * 2 ^ (e - d).toNat : Int) : ℚ) * 2 ^ d = finValue n m e := by
  have he : (2 : ℚ) ^ (e - d).toNat * 2 ^ d = 2 ^ e := by
    rw [zpow_toNat_two (by omega), ← zpow_add₀ two_ne_zero, sub_add_cancel]
  cases n
  · simp only [Bool.false_eq_true, if_false, finValue]
    push_cast
    rw [mul_assoc, he, one_mul]
  · simp only [if_true, finValue]
    push_cast
    rw [neg_mul, mul_assoc, he]
    ring

/-- R43: the model's sum is the exact sum, an exact zero with the sign of the rule. -/
theorem finAdd_exact (rm : RMode) (n1 : Bool) (m1 : Nat) (e1 : Int) (n2 : Bool) (m2 : Nat) (e2 : Int) {v : ℚ}
    (hv : v = finValue n1 m1 e1 + finValue n2 m2 e2) :
    (v ≠ 0 → (finAdd rm n1 m1 e1 n2 m2 e2).1 = decide (v < 0) ∧
      |v| = ((finAdd rm n1 m1 e1 n2 m2 e2).2.1 : ℚ) * 2 ^ (finAdd rm n1 m1 e1 n2 m2 e2).2.2) ∧
    (v = 0 → finAdd rm n1 m1 e1 n2 m2 e2 = (if n1 = n2 then n1 else decide (rm = .rdn), 0, min e1 e2)) := by
  set t : Int := (if n1 = true then -((m1 : Int) * 2 ^ (e1 - min e1 e2).toNat) else (m1 : Int) * 2 ^ (e1 - min e1 e2).toNat) +
    (if n2 = true then -((m2 : Int) * 2 ^ (e2 - min e1 e2).toNat) else (m2 : Int) * 2 ^ (e2 - min e1 e2).toNat) with ht
  have hX : (0 : ℚ) < 2 ^ min e1 e2 := by positivity
  have htv : (t : ℚ) * 2 ^ min e1 e2 = v := by
    rw [ht, Int.cast_add, add_mul, aligned (min_le_left _ _), aligned (min_le_right _ _), hv]
  have hfin : finAdd rm n1 m1 e1 n2 m2 e2 = if t = 0 then (if n1 = n2 then n1 else decide (rm = .rdn), 0, min e1 e2)
      else (decide (t < 0), t.natAbs, min e1 e2) := rfl
  have h0 : t = 0 ↔ v = 0 := by
    rw [← htv, mul_eq_zero, or_iff_left hX.ne', Int.cast_eq_zero]
  have hlt : t < 0 ↔ v < 0 := by
    rw [← htv, mul_neg_iff, or_iff_right fun h => absurd h.2 (not_lt.2 hX.le), and_iff_left hX, Int.cast_lt_zero]
  refine ⟨fun hne => ?_, fun h => by rw [hfin, if_pos (h0.2 h)]⟩
  rw [hfin, if_neg fun h => hne (h0.1 h)]
  refine ⟨by simp only [hlt], ?_⟩
  rw [← htv, abs_mul, abs_of_pos hX, Nat.cast_natAbs, Int.cast_abs]

theorem cast_scaled {x : ℚ} {m : Nat} {e : Int} (h : x = (m : ℚ) * 2 ^ e) : (x : ℝ) = (m : ℝ) * 2 ^ e := by
  rw [h]
  push_cast
  rfl

/-- R112, R113: a sum of numbers, rounded once. -/
theorem addVal_rounds (f : Fmt) (rm : RMode) (o : Bool) (dr : Nat) (n1 n2 : Bool) (m1 m2 : Nat) (e1 e2 : Int) {v : ℚ}
    (hv : v = finValue n1 m1 e1 + finValue n2 m2 e2) :
    (v ≠ 0 → Rounds f rm o dr (decide (v < 0)) (|v| : ℚ) (addVal f rm o dr (.fin n1 m1 e1) (.fin n2 m2 e2))) ∧
      (v = 0 → addVal f rm o dr (.fin n1 m1 e1) (.fin n2 m2 e2) =
        (f.signed (if n1 = n2 then n1 else decide (rm = .rdn)) 0, 0#5)) := by
  obtain ⟨hne, hz⟩ := finAdd_exact rm n1 m1 e1 n2 m2 e2 hv
  refine ⟨fun h => ?_, fun h => ?_⟩
  · obtain ⟨hs, ha⟩ := hne h
    rw [cast_scaled ha, ← hs]
    exact round_exact f rm o dr _ _ _
  · simp only [addVal, hz h, Fmt.round, if_true]

theorem mulVal_rounds (f : Fmt) (rm : RMode) (dr : Nat) (n1 n2 : Bool) (m1 m2 : Nat) (e1 e2 : Int) :
    Rounds f rm false dr (n1 != n2) (|finValue n1 m1 e1 * finValue n2 m2 e2| : ℚ)
      (mulVal f rm dr (.fin n1 m1 e1) (.fin n2 m2 e2)) := by
  rw [← finValue_mul, cast_scaled (abs_finValue _ _ _)]
  exact round_exact f rm false dr _ _ _

theorem fmaVal_rounds (f : Fmt) (rm : RMode) (dr : Nat) (n1 n2 n3 : Bool) (m1 m2 m3 : Nat) (e1 e2 e3 : Int) {v : ℚ}
    (hv : v = finValue n1 m1 e1 * finValue n2 m2 e2 + finValue n3 m3 e3) :
    (v ≠ 0 → Rounds f rm false dr (decide (v < 0)) (|v| : ℚ) (fmaVal f rm dr (.fin n1 m1 e1) (.fin n2 m2 e2) (.fin n3 m3 e3))) ∧
      (v = 0 → fmaVal f rm dr (.fin n1 m1 e1) (.fin n2 m2 e2) (.fin n3 m3 e3) =
        (f.signed (if (n1 != n2) = n3 then n3 else decide (rm = .rdn)) 0, 0#5)) := by
  rw [← finValue_mul] at hv
  obtain ⟨hne, hz⟩ := addVal_rounds f rm false dr (n1 != n2) n3 (m1 * m2) m3 (e1 + e2) e3 hv
  have hsign : (if (n1 != n2) = n3 then n1 != n2 else decide (rm = .rdn)) =
      (if (n1 != n2) = n3 then n3 else decide (rm = .rdn)) := by
    split_ifs with h
    · exact h
    · rfl
  exact ⟨hne, fun h => (hz h).trans (by rw [hsign])⟩

/-! ### Quotients -/

/-- R112, R113: the quotient is carried to 70 bits and one sticky bit. -/
theorem divVal_rounds (f : Fmt) (rm : RMode) (dr : Nat) (n1 n2 : Bool) (m1 m2 : Nat) (e1 e2 : Int) (h2 : m2 ≠ 0) :
    Rounds f rm false dr (n1 != n2) (|finValue n1 m1 e1 / finValue n2 m2 e2| : ℚ)
      (divVal f rm dr (.fin n1 m1 e1) (.fin n2 m2 e2)) := by
  set k := 70 + Nat.log2 m2 with hk
  have hdiv : divVal f rm dr (.fin n1 m1 e1) (.fin n2 m2 e2) = f.round rm false dr (n1 != n2)
      (2 * (m1 * 2 ^ k / m2) + (if m1 * 2 ^ k % m2 = 0 then 0 else 1)) (e1 - e2 - k - 1) := by
    simp only [divVal, if_neg h2, ← hk]
  have hm2 : (0 : ℝ) < m2 := by exact_mod_cast Nat.pos_of_ne_zero h2
  have hX : (0 : ℝ) < 2 ^ (e1 - e2 - k) := by positivity
  have hv : ((|finValue n1 m1 e1 / finValue n2 m2 e2| : ℚ) : ℝ) = ((m1 * 2 ^ k : Nat) : ℝ) / m2 * 2 ^ (e1 - e2 - k) := by
    rw [abs_div, abs_finValue, abs_finValue, sub_sub, zpow_sub₀ two_ne_zero, zpow_add₀ two_ne_zero, zpow_natCast]
    push_cast
    field_simp
  rw [hdiv, hv]
  have hd : ((m1 * 2 ^ k : Nat) : ℝ) = (m1 * 2 ^ k / m2 : Nat) * m2 + (m1 * 2 ^ k % m2 : Nat) := by
    exact_mod_cast (Nat.div_add_mod' (m1 * 2 ^ k) m2).symm
  have hr0 : (0 : ℝ) ≤ (m1 * 2 ^ k % m2 : Nat) := Nat.cast_nonneg _
  have hr1 : ((m1 * 2 ^ k % m2 : Nat) : ℝ) < m2 := by exact_mod_cast Nat.mod_lt _ (Nat.pos_of_ne_zero h2)
  by_cases h1 : m1 = 0
  · subst h1
    simp only [Nat.zero_div, Nat.zero_mod, Nat.mul_zero, if_true, Nat.add_zero, Nat.cast_zero, zero_div, zero_mul]
    have hz := round_exact f rm false dr (n1 != n2) 0 (e1 - e2 - k - 1)
    rwa [Nat.cast_zero, zero_mul] at hz
  · have hbig : 2 ^ 39 ≤ m1 * 2 ^ k / m2 := by
      rw [Nat.le_div_iff_mul_le (Nat.pos_of_ne_zero h2)]
      have hlt : m2 < 2 ^ (Nat.log2 m2 + 1) := Nat.lt_log2_self
      calc 2 ^ 39 * m2 ≤ 2 ^ 39 * 2 ^ (Nat.log2 m2 + 1) := Nat.mul_le_mul_left _ hlt.le
        _ = 2 ^ (40 + Nat.log2 m2) := by rw [← pow_add]; congr 1; omega
        _ ≤ 2 ^ k := Nat.pow_le_pow_right two_pos (by omega)
        _ ≤ m1 * 2 ^ k := Nat.le_mul_of_pos_left _ (Nat.pos_of_ne_zero h1)
    have hq : ((m1 * 2 ^ k : Nat) : ℝ) / m2 = (m1 * 2 ^ k / m2 : Nat) ↔ m1 * 2 ^ k % m2 = 0 := by
      rw [div_eq_iff hm2.ne', hd, add_eq_left, Nat.cast_eq_zero]
    refine round_sticky hbig (mul_le_mul_of_nonneg_right ?_ hX.le) (mul_lt_mul_of_pos_right ?_ hX) ?_
    · rw [le_div_iff₀ hm2]; linarith
    · rw [div_lt_iff₀ hm2]; linarith
    · rw [ne_eq, mul_left_inj' hX.ne', hq]
      split_ifs with h
      · exact Or.inl ⟨rfl, h⟩
      · exact Or.inr ⟨rfl, h⟩

/-! ### Roots -/

/-- The bits of a root below those found. -/
theorem isqrtAux_root (fuel : Nat) : ∀ {n acc : Nat}, acc * acc ≤ n → n < (acc + 2 ^ fuel) * (acc + 2 ^ fuel) →
    isqrtAux fuel n acc * isqrtAux fuel n acc ≤ n ∧ n < (isqrtAux fuel n acc + 1) * (isqrtAux fuel n acc + 1) := by
  induction fuel with
  | zero => exact fun h0 h1 => ⟨h0, h1⟩
  | succ fuel ih =>
    intro n acc h0 h1
    rw [isqrtAux]
    by_cases h : (acc + 2 ^ fuel) * (acc + 2 ^ fuel) ≤ n
    · refine ih (by rwa [if_pos h]) ?_
      rwa [if_pos h, add_assoc, ← two_mul, ← pow_succ']
    · refine ih (by rwa [if_neg h]) ?_
      rw [if_neg h]
      exact not_le.1 h

theorem isqrt_root (n : Nat) : isqrt n * isqrt n ≤ n ∧ n < (isqrt n + 1) * (isqrt n + 1) := by
  refine isqrtAux_root _ (Nat.zero_le _) ?_
  rw [zero_add, ← pow_add]
  exact Nat.lt_log2_self.trans_le (Nat.pow_le_pow_right two_pos (by omega))

/-- R112, R113: the root is carried to at least 60 bits and one sticky bit. -/
theorem sqrtVal_rounds (f : Fmt) (rm : RMode) (dr m : Nat) (e : Int) {v : ℝ} (hm : m ≠ 0) (hv : 0 < v)
    (hvv : v * v = (m : ℝ) * 2 ^ e) : Rounds f rm false dr false v (sqrtVal f rm dr (.fin false m e)) := by
  set m' := m * 2 ^ (120 + (e % 2).toNat) with hm'
  set d := (e - (120 + e % 2)) / 2 with hd
  have hsqrt : sqrtVal f rm dr (.fin false m e) = f.round rm false dr false
      (2 * isqrt m' + (if isqrt m' * isqrt m' = m' then 0 else 1)) (d - 1) := by
    rw [sqrtVal, if_neg hm]
    rfl
  obtain ⟨h0, h1⟩ := isqrt_root m'
  have hX : (0 : ℝ) < 2 ^ d := by positivity
  -- the root in units of 2^d
  obtain ⟨x, rfl⟩ : ∃ x, v = x * 2 ^ d := ⟨v / 2 ^ d, (div_mul_cancel₀ v hX.ne').symm⟩
  have hx : 0 < x := pos_of_mul_pos_left hv hX.le
  have hxx : x * x = m' := by
    have hp : (2 : ℝ) ^ e = 2 ^ (120 + (e % 2).toNat) * (2 ^ d * 2 ^ d) := by
      rw [← zpow_natCast, ← zpow_add₀ two_ne_zero, ← zpow_add₀ two_ne_zero]
      congr 1
      push_cast
      omega
    have h2 : x * x * (2 ^ d * 2 ^ d) = m' * (2 ^ d * 2 ^ d) := by
      rw [hm']
      push_cast
      rw [mul_assoc (m : ℝ), ← hp, ← hvv]
      ring
    exact mul_right_cancel₀ (by positivity) h2
  have hle : (isqrt m' : ℝ) ≤ x := by
    refine le_of_not_gt fun h => ?_
    have : x * x < (isqrt m' * isqrt m' : Nat) := by
      push_cast
      exact mul_self_lt_mul_self hx.le h
    rw [hxx] at this
    exact absurd (Nat.cast_lt.1 this) (not_lt.2 h0)
  have hlt : x < isqrt m' + 1 := by
    refine lt_of_not_ge fun h => ?_
    have : (((isqrt m' + 1) * (isqrt m' + 1) : Nat) : ℝ) ≤ x * x := by
      push_cast
      exact mul_self_le_mul_self (by positivity) h
    rw [hxx] at this
    exact absurd (Nat.cast_le.1 this) (not_le.2 h1)
  have hbig : 2 ^ 39 ≤ isqrt m' := by
    have h2 : 2 ^ 120 ≤ m' :=
      (Nat.pow_le_pow_right two_pos (by omega)).trans (Nat.le_mul_of_pos_left _ (Nat.pos_of_ne_zero hm))
    by_contra hc
    have h3 : (isqrt m' + 1) * (isqrt m' + 1) ≤ 2 ^ 39 * 2 ^ 39 := Nat.mul_le_mul (by omega) (by omega)
    exact absurd (h2.trans_lt (h1.trans_le h3)) (by norm_num)
  have heq : x = isqrt m' ↔ isqrt m' * isqrt m' = m' := by
    rw [← mul_self_inj hx.le (Nat.cast_nonneg _), hxx, eq_comm]
    exact_mod_cast Iff.rfl
  rw [hsqrt]
  refine round_sticky hbig (mul_le_mul_of_nonneg_right hle hX.le) (mul_lt_mul_of_pos_right hlt hX) ?_
  rw [ne_eq, mul_left_inj' hX.ne', heq]
  split_ifs with h
  · exact Or.inl ⟨rfl, h⟩
  · exact Or.inr ⟨rfl, h⟩

end Sys2Proof.Machine
end

section
/-! PROOF. Conversions of numbers to integers (R40) and to E8M0 (R42). -/
namespace Sys2Proof.Machine

/-! ### Conversions to integers (R40) -/

/-- R40: a number to an integer of a range: rounded once, clamped where it lies outside. -/
theorem toIntVal_fin (lo hi : Int) (cf nf : FlagSet) (rm : RMode) (dr : Nat) (n : Bool) (m : Nat) (e : Int) :
    ∃ (k : Nat) (z : Int) (inx : Bool), RoundsTo (fun i => (i : ℝ)) rm dr n ((m : ℝ) * 2 ^ e) k ∧
      z = (if n then -(k : Int) else (k : Int)) ∧ (inx = true ↔ (m : ℝ) * 2 ^ e ≠ k) ∧
      (z < lo → toIntVal lo hi cf nf rm dr (.fin n m e) = (lo, cf)) ∧
      (lo ≤ z → hi < z → toIntVal lo hi cf nf rm dr (.fin n m e) = (hi, cf)) ∧
      (lo ≤ z → z ≤ hi → toIntVal lo hi cf nf rm dr (.fin n m e) = (z, flIf inx flInexact)) := by
  obtain ⟨hk, hx⟩ := roundAt_exact rm dr n m e 0
  rw [sub_zero] at hk hx
  obtain ⟨z, hz⟩ : ∃ z : Int, z = if n then -((roundAt rm dr n m e 0).1 : Int) else ((roundAt rm dr n m e 0).1 : Int) := ⟨_, rfl⟩
  have hmodel : toIntVal lo hi cf nf rm dr (.fin n m e) =
      if z < lo then (lo, cf) else if z > hi then (hi, cf) else (z, flIf (roundAt rm dr n m e 0).2 flInexact) := by
    rw [hz]
    rfl
  refine ⟨_, z, _, roundsTo_of_units hk, hz, hx, fun h => ?_, fun h h' => ?_, fun h h' => ?_⟩
  · rw [hmodel, if_pos h]
  · rw [hmodel, if_neg (not_lt.2 h), if_pos h']
  · rw [hmodel, if_neg (not_lt.2 h), if_neg (not_lt.2 h')]

theorem cvtInt_fin (lo hi : Int) (rm : RMode) (dr : Nat) (n : Bool) (m : Nat) (e : Int) :
    ∃ (k : Nat) (z : Int), RoundsTo (fun i => (i : ℝ)) rm dr n ((m : ℝ) * 2 ^ e) k ∧ z = (if n then -(k : Int) else (k : Int)) ∧
      (z < lo → cvtInt lo hi rm dr (.fin n m e) = (lo, flInvalid ||| flInexact)) ∧
      (lo ≤ z → hi < z → cvtInt lo hi rm dr (.fin n m e) = (hi, flInvalid ||| flInexact)) ∧
      (lo ≤ z → z ≤ hi → ((m : ℝ) * 2 ^ e = k → cvtInt lo hi rm dr (.fin n m e) = (z, 0#5)) ∧
        ((m : ℝ) * 2 ^ e ≠ k → cvtInt lo hi rm dr (.fin n m e) = (z, flInexact))) := by
  obtain ⟨k, z, inx, hk, hz, hx, hlo, hhi, hin⟩ := toIntVal_fin lo hi (flInvalid ||| flInexact) flInvalid rm dr n m e
  refine ⟨k, z, hk, hz, hlo, hhi, fun h h' => ⟨fun he => ?_, fun he => ?_⟩⟩
  · have hf : inx = false := Bool.eq_false_iff.2 fun ht => hx.1 ht he
    exact (hin h h').trans (by rw [hf]; rfl)
  · exact (hin h h').trans (by rw [hx.2 he]; rfl)

theorem cvtT2_fin (rm : RMode) (dr : Nat) (n : Bool) (m : Nat) (e : Int) :
    ∃ (k : Nat) (z : Int), RoundsTo (fun i => (i : ℝ)) rm dr n ((m : ℝ) * 2 ^ e) k ∧ z = (if n then -(k : Int) else (k : Int)) ∧
      (z < -1 → cvtT2 rm dr (.fin n m e) = (-1, flSaturation ||| flInexact)) ∧
      (1 < z → cvtT2 rm dr (.fin n m e) = (1, flSaturation ||| flInexact)) ∧
      (-1 ≤ z → z ≤ 1 → cvtT2 rm dr (.fin n m e) = (z, if (m : ℚ) * 2 ^ e = k then 0#5 else flInexact)) := by
  obtain ⟨k, z, inx, hk, hz, hx, hlo, hhi, hin⟩ := toIntVal_fin (-1) 1 (flSaturation ||| flInexact) flInvalid rm dr n m e
  have hq : (m : ℚ) * 2 ^ e = k ↔ (m : ℝ) * 2 ^ e = k := by
    rw [← Rat.cast_inj (α := ℝ)]
    push_cast
    rfl
  refine ⟨k, z, hk, hz, hlo, fun h => hhi (by omega) h, fun h h' => (hin h h').trans ?_⟩
  split_ifs with he
  · have hf : inx = false := Bool.eq_false_iff.2 fun ht => hx.1 ht (hq.1 he)
    rw [hf]
    rfl
  · rw [hx.2 fun h => he (hq.2 h)]
    rfl

/-! ### E8M0 (R42) -/

/-- R42: whether a magnitude goes to the power of two above. -/
def e8Up (rm : RMode) (dr m : Nat) : Bool :=
  match rm with
  | .rne => decide (2 * (m - 2 ^ Nat.log2 m) ≥ 2 ^ Nat.log2 m)
  | .rtz => false
  | .rdn => false
  | .rup => decide (m - 2 ^ Nat.log2 m ≠ 0)
  | .sr => decide ((m - 2 ^ Nat.log2 m) * 2 ^ 16 / 2 ^ Nat.log2 m > dr)

theorem e8Up_iff (rm : RMode) (dr : Nat) {m : Nat} (hm : m ≠ 0) (e p : Int) (hp : p = e + Nat.log2 m) : e8Up rm dr m = true ↔
    (rm = .rne ∧ 3 * (2 : ℚ) ^ p ≤ 2 * ((m : ℚ) * 2 ^ e)) ∨ (rm = .rup ∧ (m : ℚ) * 2 ^ e ≠ 2 ^ p) ∨
      (rm = .sr ∧ ((dr : ℚ) + 1) * 2 ^ p ≤ ((m : ℚ) * 2 ^ e - 2 ^ p) * 2 ^ 16) := by
  have hX : (0 : ℚ) < 2 ^ e := by positivity
  have hle := Nat.log2_self_le hm
  have hpow : (2 : ℚ) ^ p = ((2 ^ Nat.log2 m : Nat) : ℚ) * 2 ^ e := by
    rw [hp, zpow_add₀ two_ne_zero, zpow_natCast, mul_comm]
    push_cast
    rfl
  rw [hpow]
  generalize hL : 2 ^ Nat.log2 m = L at *
  have hLpos : 0 < L := hL ▸ Nat.two_pow_pos _
  obtain ⟨r, rfl⟩ := Nat.exists_eq_add_of_le hle
  cases rm with
  | rne =>
    have h : 3 * ((L : ℚ) * 2 ^ e) ≤ 2 * (((L + r : Nat) : ℚ) * 2 ^ e) ↔ L ≤ 2 * r := by
      rw [← mul_assoc, ← mul_assoc, mul_le_mul_iff_left₀ hX]
      norm_cast
      omega
    simp only [e8Up, hL, Nat.add_sub_cancel_left, h, decide_eq_true_eq, ge_iff_le, reduceCtorEq, false_and, true_and, or_false]
  | rtz => simp [e8Up]
  | rdn => simp [e8Up]
  | rup =>
    have h : ((L + r : Nat) : ℚ) * 2 ^ e = (L : ℚ) * 2 ^ e ↔ r = 0 := by
      rw [mul_left_inj' hX.ne']
      norm_cast
      omega
    simp only [e8Up, hL, Nat.add_sub_cancel_left, ne_eq, h, decide_eq_true_eq, reduceCtorEq, false_and, true_and, or_false,
      false_or]
  | sr =>
    have h : ((dr : ℚ) + 1) * ((L : ℚ) * 2 ^ e) ≤ (((L + r : Nat) : ℚ) * 2 ^ e - (L : ℚ) * 2 ^ e) * 2 ^ 16 ↔
        (dr + 1) * L ≤ r * 2 ^ 16 := by
      rw [show (((L + r : Nat) : ℚ) * 2 ^ e - (L : ℚ) * 2 ^ e) * 2 ^ 16 = ((r : ℚ) * 2 ^ 16) * 2 ^ e by push_cast; ring,
        ← mul_assoc, mul_le_mul_iff_left₀ hX]
      exact_mod_cast Iff.rfl
    simp only [e8Up, hL, Nat.add_sub_cancel_left, h, decide_eq_true_eq, reduceCtorEq, false_and, true_and, false_or, gt_iff_lt]
    rw [← Nat.le_div_iff_mul_le hLpos, Nat.lt_iff_add_one_le]

/-- R42: the nearest power of two by the mode, within the codes. -/
theorem toE8_fin (rm : RMode) (dr : Nat) (n : Bool) {m : Nat} (hm : m ≠ 0) (e : Int) :
    ∃ p r : Int, (2 : ℚ) ^ p ≤ (m : ℚ) * 2 ^ e ∧ (m : ℚ) * 2 ^ e < 2 ^ (p + 1) ∧
      r = (if (rm = .rne ∧ 3 * (2 : ℚ) ^ p ≤ 2 * ((m : ℚ) * 2 ^ e)) ∨ (rm = .rup ∧ (m : ℚ) * 2 ^ e ≠ 2 ^ p) ∨
        (rm = .sr ∧ ((dr : ℚ) + 1) * 2 ^ p ≤ ((m : ℚ) * 2 ^ e - 2 ^ p) * 2 ^ 16) then p + 1 else p) ∧
      (r < -127 → toE8 rm dr (.fin n m e) = (0x00, flUnderflow ||| flInexact)) ∧
      (127 < r → toE8 rm dr (.fin n m e) = (0xFE, flOverflow ||| flInexact)) ∧
      (-127 ≤ r → r ≤ 127 → toE8 rm dr (.fin n m e) =
        ((r + 127).toNat, if (m : ℚ) * 2 ^ e = 2 ^ r then 0#5 else flInexact)) := by
  have hX : (0 : ℚ) < 2 ^ e := by positivity
  set p : Int := e + Nat.log2 m with hp
  have hpow : (2 : ℚ) ^ p = ((2 ^ Nat.log2 m : Nat) : ℚ) * 2 ^ e := by
    rw [hp, zpow_add₀ two_ne_zero, zpow_natCast, mul_comm]
    push_cast
    rfl
  have hlo : (2 : ℚ) ^ p ≤ m * 2 ^ e := by
    rw [hpow]
    exact mul_le_mul_of_nonneg_right (by exact_mod_cast Nat.log2_self_le hm) hX.le
  have hhi : (m : ℚ) * 2 ^ e < 2 ^ (p + 1) := by
    rw [zpow_add_one₀ two_ne_zero, hpow, mul_right_comm]
    refine mul_lt_mul_of_pos_right ?_ hX
    have : m < 2 ^ Nat.log2 m * 2 := by rw [← pow_succ]; exact Nat.lt_log2_self
    exact_mod_cast this
  have hmodel : ∀ r : Int, r = (if e8Up rm dr m = true then p + 1 else p) → toE8 rm dr (.fin n m e) =
      if r < -127 then (0x00, flUnderflow ||| flInexact) else if r > 127 then (0xFE, flOverflow ||| flInexact)
      else ((r + 127).toNat, flIf (decide (m - 2 ^ Nat.log2 m ≠ 0)) flInexact) := by
    rintro r rfl
    exact (if_neg hm).trans (by cases rm <;> rfl)
  have hup := e8Up_iff rm dr hm e p hp
  set r : Int := if e8Up rm dr m = true then p + 1 else p with hr
  refine ⟨p, r, hlo, hhi, by simp only [hr, hup], fun h => ?_, fun h => ?_, fun h h' => ?_⟩
  · rw [hmodel r hr, if_pos h]
  · rw [hmodel r hr, if_neg (by omega), if_pos h]
  · rw [hmodel r hr, if_neg (by omega), if_neg (by omega)]
    have hwhole : (m : ℚ) * 2 ^ e = 2 ^ p ↔ m - 2 ^ Nat.log2 m = 0 := by
      rw [hpow, mul_left_inj' hX.ne', Nat.cast_inj]
      have := Nat.log2_self_le hm
      omega
    have hexact : (m : ℚ) * 2 ^ e = 2 ^ r ↔ m - 2 ^ Nat.log2 m = 0 := by
      rw [hr]
      split_ifs with hu
      · refine iff_of_false hhi.ne fun h0 => ?_
        have hLpos : 0 < 2 ^ Nat.log2 m := Nat.two_pow_pos _
        revert hu
        cases rm <;> simp [e8Up, h0]
      · exact hwhole
    by_cases h0 : m - 2 ^ Nat.log2 m = 0
    · rw [if_pos (hexact.2 h0), h0]
      rfl
    · rw [if_neg fun h => h0 (hexact.1 h), decide_eq_true h0]
      rfl

end Sys2Proof.Machine
end

section
/-! PROOF. Codes and what they stand for (R31, R33), the order of codes (R114), classes (R115), and the generator of the draws
(R46). -/
namespace Sys2Proof.Machine

/-! ### Fields of a code (R31) -/

/-- The sign of a code. -/
def Fmt.negOf (f : Fmt) (c : Nat) : Bool := decide (c / 2 ^ (f.width - 1) % 2 = 1)

/-- A code without its sign. -/
def Fmt.magOf (f : Fmt) (c : Nat) : Nat := c % 2 ^ (f.width - 1)

theorem Fmt.pow_width (f : Fmt) : 2 ^ (f.width - 1) = 2 ^ f.mbits * 2 ^ f.ebits := by
  cases f <;> rfl

theorem Fmt.magOf_lt (f : Fmt) (c : Nat) : f.magOf c < 2 ^ f.mbits * 2 ^ f.ebits := by
  rw [← f.pow_width]
  exact Nat.mod_lt _ (Nat.two_pow_pos _)

theorem Fmt.exponent_eq (f : Fmt) (c : Nat) : c / 2 ^ f.mbits % 2 ^ f.ebits = f.magOf c / 2 ^ f.mbits := by
  rw [Fmt.magOf, f.pow_width, Nat.mod_mul_right_div_self]

theorem Fmt.mantissa_eq (f : Fmt) (c : Nat) : c % 2 ^ f.mbits = f.magOf c % 2 ^ f.mbits := by
  rw [Fmt.magOf, f.pow_width, Nat.mod_mul_right_mod]

theorem Fmt.infCode_pos (f : Fmt) : 0 < f.infCode := by cases f <;> decide

theorem Fmt.maxCode_lt (f : Fmt) : f.maxCode < 2 ^ (f.width - 1) := by cases f <;> decide

theorem Fmt.magOf_signed (f : Fmt) (n : Bool) {c : Nat} (hc : c < 2 ^ (f.width - 1)) : f.magOf (f.signed n c) = c := by
  cases n
  · exact Nat.mod_eq_of_lt hc
  · exact (Nat.add_mod_right _ _).trans (Nat.mod_eq_of_lt hc)

theorem Fmt.negOf_signed (f : Fmt) (n : Bool) {c : Nat} (hc : c < 2 ^ (f.width - 1)) : f.negOf (f.signed n c) = n := by
  have hW : 0 < 2 ^ (f.width - 1) := Nat.two_pow_pos _
  cases n
  · simp [Fmt.negOf, Fmt.signed, Nat.div_eq_of_lt hc]
  · simp [Fmt.negOf, Fmt.signed, Nat.add_div_right _ hW, Nat.div_eq_of_lt hc]

/-- R31, R33: a code by its fields. -/
theorem decode_fields (f : Fmt) (c : Nat) : f.decode c =
    if f.hasInf && decide (f.magOf c / 2 ^ f.mbits = 2 ^ f.ebits - 1) && decide (f.magOf c % 2 ^ f.mbits = 0) then .inf (f.negOf c)
    else if f.hasInf && decide (f.magOf c / 2 ^ f.mbits = 2 ^ f.ebits - 1) then
      .nan (decide (f ≠ .e5m2) && decide (f.magOf c % 2 ^ f.mbits / 2 ^ (f.mbits - 1) = 0))
    else if decide (f = .e4m3) && decide (f.magOf c / 2 ^ f.mbits = 2 ^ f.ebits - 1) && decide (f.magOf c % 2 ^ f.mbits = 7) then
      .nan false
    else if f.magOf c / 2 ^ f.mbits = 0 then .fin (f.negOf c) (f.magOf c % 2 ^ f.mbits) (1 - (f.bias : Int) - f.mbits)
    else .fin (f.negOf c) (f.magOf c % 2 ^ f.mbits + 2 ^ f.mbits) (((f.magOf c / 2 ^ f.mbits : Nat) : Int) - f.bias - f.mbits) := by
  rw [← f.exponent_eq, ← f.mantissa_eq]
  rfl

/-- R31: a code up to the largest is a finite number of the grid. -/
theorem decode_finite {f : Fmt} {c : Nat} (hc : f.magOf c ≤ f.maxCode) :
    ∃ m e, f.decode c = .fin (f.negOf c) m e ∧ (m : ℚ) * 2 ^ e = gridValue f (f.magOf c) := by
  have hinf : ¬ (f.hasInf = true ∧ f.magOf c / 2 ^ f.mbits = 2 ^ f.ebits - 1) := by
    rintro ⟨hi, hs⟩
    have hlt : f.magOf c / 2 ^ f.mbits < 2 ^ f.ebits - 1 := by
      rw [Nat.div_lt_iff_lt_mul (Nat.two_pow_pos _)]
      rw [Fmt.maxCode, if_pos hi] at hc
      have := f.infCode_pos
      rw [Fmt.infCode] at *
      omega
    omega
  have hnan : ¬ (f = .e4m3 ∧ f.magOf c / 2 ^ f.mbits = 2 ^ f.ebits - 1 ∧ f.magOf c % 2 ^ f.mbits = 7) := by
    rintro ⟨rfl, hs, hm⟩
    have h1 : Fmt.magOf .e4m3 c ≤ 126 := hc
    have h2 : Fmt.magOf .e4m3 c / 8 = 15 := hs
    have h3 : Fmt.magOf .e4m3 c % 8 = 7 := hm
    omega
  have hdec : f.decode c = if f.magOf c / 2 ^ f.mbits = 0 then .fin (f.negOf c) (f.magOf c % 2 ^ f.mbits) (1 - (f.bias : Int) - f.mbits)
      else .fin (f.negOf c) (f.magOf c % 2 ^ f.mbits + 2 ^ f.mbits) (((f.magOf c / 2 ^ f.mbits : Nat) : Int) - f.bias - f.mbits) := by
    rw [decode_fields, if_neg (by simpa using fun h h' _ => hinf ⟨h, h'⟩), if_neg (by simpa using fun h h' => hinf ⟨h, h'⟩),
      if_neg (by simpa using fun h h' h'' => hnan ⟨h, h', h''⟩)]
  by_cases h : f.magOf c < 2 ^ f.mbits
  · refine ⟨_, _, by rw [hdec, if_pos (Nat.div_eq_of_lt h)], ?_⟩
    rw [gridValue, if_pos h, Nat.mod_eq_of_lt h]
  · refine ⟨_, _, by rw [hdec, if_neg (Nat.div_pos (not_lt.1 h) (Nat.two_pow_pos _)).ne'], ?_⟩
    rw [gridValue, if_neg h]

/-- R31: a code above the largest finite one is the infinity next to it or a NaN. -/
theorem decode_special {f : Fmt} {c : Nat} (hc : f.maxCode < f.magOf c) :
    (f.decode c).isNaN = true ∨ (f.decode c = .inf (f.negOf c) ∧ f.magOf c = f.maxCode + 1) := by
  have hlt := f.magOf_lt c
  by_cases hi : f.hasInf = true
  · have hpos := f.infCode_pos
    have hmax : f.maxCode + 1 = f.infCode := by
      rw [Fmt.maxCode, if_pos hi]
      omega
    have hge : f.infCode ≤ f.magOf c := by omega
    have hexp : f.magOf c / 2 ^ f.mbits = 2 ^ f.ebits - 1 := by
      have h1 : 2 ^ f.ebits - 1 ≤ f.magOf c / 2 ^ f.mbits := (Nat.le_div_iff_mul_le (Nat.two_pow_pos _)).2 hge
      have h2 : f.magOf c / 2 ^ f.mbits < 2 ^ f.ebits := (Nat.div_lt_iff_lt_mul (Nat.two_pow_pos _)).2 (by rwa [Nat.mul_comm])
      omega
    have hd := Nat.div_add_mod' (f.magOf c) (2 ^ f.mbits)
    rw [hexp, ← Fmt.infCode] at hd
    by_cases hm : f.magOf c % 2 ^ f.mbits = 0
    · refine Or.inr ⟨?_, by omega⟩
      rw [decode_fields, if_pos (by simp [hi, hexp, hm])]
    · refine Or.inl ?_
      rw [decode_fields, if_neg (by simp [hm]), if_pos (by simp [hi, hexp])]
      rfl
  · refine Or.inl ?_
    by_cases hf : f = .e4m3
    · subst hf
      have h1 : 126 < Fmt.magOf .e4m3 c := hc
      have h2 : Fmt.magOf .e4m3 c < 128 := hlt
      have h3 : Fmt.magOf .e4m3 c = 127 := by omega
      rw [decode_fields, h3]
      rfl
    · have hfull : f.maxCode + 1 = 2 ^ f.mbits * 2 ^ f.ebits := by
        cases f with
        | f32 => exact absurd rfl hi
        | f16 => exact absurd rfl hi
        | bf16 => exact absurd rfl hi
        | e5m2 => exact absurd rfl hi
        | e4m3 => exact absurd rfl hf
        | e3m2 => rfl
        | e2m3 => rfl
        | e2m1 => rfl
      omega

/-- R31: the value of a finite code with its sign. -/
theorem decode_signed (f : Fmt) (n : Bool) {c : Nat} (hc : c ≤ f.maxCode) :
    ∃ m e, f.decode (f.signed n c) = .fin n m e ∧ (m : ℚ) * 2 ^ e = gridValue f c := by
  have hlt := lt_of_le_of_lt hc f.maxCode_lt
  have h := decode_finite (f := f) (c := f.signed n c) (by rwa [f.magOf_signed n hlt])
  rwa [f.magOf_signed n hlt, f.negOf_signed n hlt] at h

/-! ### The order of codes (R114) -/

/-- R31: the number of a code, with the infinity one step above the largest number. -/
def Fmt.gridOf (f : Fmt) (c : Nat) : ℚ := if f.negOf c then -gridValue f (f.magOf c) else gridValue f (f.magOf c)

/-- A code that is no NaN. -/
theorem number_cases {f : Fmt} {c : Nat} (h : (f.decode c).isNaN = false) :
    (f.magOf c ≤ f.maxCode ∧ ∃ m e, f.decode c = .fin (f.negOf c) m e ∧ finValue (f.negOf c) m e = f.gridOf c) ∨
      (f.decode c = .inf (f.negOf c) ∧ f.magOf c = f.maxCode + 1) := by
  rcases Nat.lt_or_ge f.maxCode (f.magOf c) with hc | hc
  · exact Or.inr ((decode_special hc).resolve_left (by simp [h]))
  · obtain ⟨m, e, hd, hv⟩ := decode_finite hc
    refine Or.inl ⟨hc, m, e, hd, ?_⟩
    rw [finValue, Fmt.gridOf, mul_assoc, hv]
    split_ifs <;> ring

/-- R115: the comparison of finite numbers. -/
theorem cmpVal_fin (n1 n2 : Bool) (m1 m2 : Nat) (e1 e2 : Int) :
    (cmpVal (.fin n1 m1 e1) (.fin n2 m2 e2) < 0 ↔ finValue n1 m1 e1 < finValue n2 m2 e2) ∧
      (cmpVal (.fin n1 m1 e1) (.fin n2 m2 e2) = 0 ↔ finValue n1 m1 e1 = finValue n2 m2 e2) := by
  have hX : (0 : ℚ) < 2 ^ min e1 e2 := by positivity
  set t : Int := (if n1 = true then -((m1 : Int) * 2 ^ (e1 - min e1 e2).toNat) else (m1 : Int) * 2 ^ (e1 - min e1 e2).toNat) -
    (if n2 = true then -((m2 : Int) * 2 ^ (e2 - min e1 e2).toNat) else (m2 : Int) * 2 ^ (e2 - min e1 e2).toNat) with ht
  have htv : (t : ℚ) * 2 ^ min e1 e2 = finValue n1 m1 e1 - finValue n2 m2 e2 := by
    rw [ht, Int.cast_sub, sub_mul, aligned (min_le_left _ _), aligned (min_le_right _ _)]
  have hcmp : cmpVal (.fin n1 m1 e1) (.fin n2 m2 e2) = if t < 0 then -1 else if t = 0 then 0 else 1 := rfl
  have hneg : t < 0 ↔ finValue n1 m1 e1 < finValue n2 m2 e2 := by
    rw [← sub_neg (a := finValue n1 m1 e1), ← htv, mul_neg_iff, or_iff_right fun h => absurd h.2 (not_lt.2 hX.le), and_iff_left hX, Int.cast_lt_zero]
  have hzero : t = 0 ↔ finValue n1 m1 e1 = finValue n2 m2 e2 := by
    rw [← sub_eq_zero (a := finValue n1 m1 e1), ← htv, mul_eq_zero, or_iff_left hX.ne', Int.cast_eq_zero]
  rw [hcmp, ← hneg, ← hzero]
  rcases lt_trichotomy t 0 with h | h | h
  · simp [h, h.ne]
  · simp [h]
  · simp [h.not_gt, h.ne']

theorem cmpVal_fin_inf (n : Bool) (m : Nat) (e : Int) (s : Bool) : cmpVal (.fin n m e) (.inf s) = if s then 1 else -1 := rfl

theorem cmpVal_inf_fin (n : Bool) (m : Nat) (e : Int) (s : Bool) : cmpVal (.inf s) (.fin n m e) = if s then -1 else 1 := rfl

theorem cmpVal_inf_inf (s r : Bool) : cmpVal (.inf s) (.inf r) = if s = r then 0 else if s then -1 else 1 := rfl

/-- R31: the number of an infinity. -/
theorem gridOf_inf {f : Fmt} {c : Nat} (h : f.magOf c = f.maxCode + 1) :
    f.gridOf c = if f.negOf c then -gridValue f (f.maxCode + 1) else gridValue f (f.maxCode + 1) := by
  rw [Fmt.gridOf, h]

theorem gridOf_abs_lt {f : Fmt} {c : Nat} (h : f.magOf c ≤ f.maxCode) : -gridValue f (f.maxCode + 1) < f.gridOf c ∧
    f.gridOf c < gridValue f (f.maxCode + 1) := by
  have h1 : gridValue f (f.magOf c) < gridValue f (f.maxCode + 1) := gridValue_strictMono f (by omega)
  have h0 : 0 ≤ gridValue f (f.magOf c) := gridValue_zero f ▸ (gridValue_strictMono f).monotone (Nat.zero_le _)
  unfold Fmt.gridOf
  split_ifs <;> constructor <;> linarith

/-- R114, R115: two codes compare as their numbers. -/
theorem cmpVal_codes {f : Fmt} {a b : Nat} (ha : (f.decode a).isNaN = false) (hb : (f.decode b).isNaN = false) :
    (cmpVal (f.decode a) (f.decode b) < 0 ↔ f.gridOf a < f.gridOf b) ∧
      (cmpVal (f.decode a) (f.decode b) = 0 ↔ f.gridOf a = f.gridOf b) := by
  have hG : 0 < gridValue f (f.maxCode + 1) := gridValue_zero f ▸ gridValue_strictMono f (Nat.succ_pos _)
  rcases number_cases ha with ⟨hma, m1, e1, hda, hva⟩ | ⟨hda, hma⟩ <;>
    rcases number_cases hb with ⟨hmb, m2, e2, hdb, hvb⟩ | ⟨hdb, hmb⟩ <;> rw [hda, hdb]
  · rw [← hva, ← hvb]
    exact cmpVal_fin _ _ _ _ _ _
  · obtain ⟨h1, h2⟩ := gridOf_abs_lt hma
    rw [gridOf_inf hmb, cmpVal_fin_inf]
    cases f.negOf b
    · exact ⟨iff_of_true (by decide) h2, iff_of_false (by decide) h2.ne⟩
    · exact ⟨iff_of_false (by decide) (not_lt.2 h1.le), iff_of_false (by decide) h1.ne'⟩
  · obtain ⟨h1, h2⟩ := gridOf_abs_lt hmb
    rw [gridOf_inf hma, cmpVal_inf_fin]
    cases f.negOf a
    · exact ⟨iff_of_false (by decide) (not_lt.2 h2.le), iff_of_false (by decide) h2.ne'⟩
    · exact ⟨iff_of_true (by decide) h1, iff_of_false (by decide) h1.ne⟩
  · have hlt : -gridValue f (f.maxCode + 1) < gridValue f (f.maxCode + 1) := by linarith
    rw [gridOf_inf hma, gridOf_inf hmb, cmpVal_inf_inf]
    cases f.negOf a <;> cases f.negOf b
    · exact ⟨iff_of_false (by decide) (lt_irrefl _), iff_of_true (by decide) rfl⟩
    · exact ⟨iff_of_false (by decide) (not_lt.2 hlt.le), iff_of_false (by decide) hlt.ne'⟩
    · exact ⟨iff_of_true (by decide) hlt, iff_of_false (by decide) hlt.ne⟩
    · exact ⟨iff_of_false (by decide) (lt_irrefl _), iff_of_true (by decide) rfl⟩

theorem isNeg_number {f : Fmt} {c : Nat} (h : (f.decode c).isNaN = false) : (f.decode c).isNeg = f.negOf c := by
  rcases number_cases h with ⟨-, m, e, hd, -⟩ | ⟨hd, -⟩ <;> rw [hd] <;> rfl

/-- R114: the place of a code in the total order. -/
theorem ltTotal_iff_key {f : Fmt} {a b : Nat} {key : Nat → Int} (ha : a < 2 ^ f.width) (hb : b < 2 ^ f.width)
    (hkey : ∀ c, key c = if c < 2 ^ (f.width - 1) then (c : Int) else -((c - 2 ^ (f.width - 1) : Nat) : Int) - 1)
    (hna : (f.decode a).isNaN = false) (hnb : (f.decode b).isNaN = false) :
    ltTotal (f.decode a) (f.decode b) = true ↔ key a < key b := by
  have hfields : ∀ c, c < 2 ^ f.width → (f.negOf c = false ∧ key c = f.magOf c) ∨ (f.negOf c = true ∧ key c = -(f.magOf c : Int) - 1) := by
    intro c hc
    rw [f.signBit_pos] at hc
    have hW : 0 < 2 ^ (f.width - 1) := Nat.two_pow_pos _
    rw [hkey, Fmt.negOf, Fmt.magOf]
    by_cases h : c < 2 ^ (f.width - 1)
    · rw [if_pos h, Nat.div_eq_of_lt h, Nat.mod_eq_of_lt h]
      exact Or.inl ⟨rfl, rfl⟩
    · have hd : c / 2 ^ (f.width - 1) = 1 := Nat.div_eq_of_lt_le (by omega) (by omega)
      have hm : c % 2 ^ (f.width - 1) = c - 2 ^ (f.width - 1) := by
        rw [Nat.mod_eq_sub_mod (by omega), Nat.mod_eq_of_lt (by omega)]
      rw [if_neg h, hd, hm]
      exact Or.inr ⟨rfl, rfl⟩
  obtain ⟨hlt, heq⟩ := cmpVal_codes hna hnb
  have hmono : ∀ x y, gridValue f x < gridValue f y ↔ x < y := fun x y => (gridValue_strictMono f).lt_iff_lt
  have hnonneg : ∀ x, 0 ≤ gridValue f x := fun x => gridValue_zero f ▸ (gridValue_strictMono f).monotone (Nat.zero_le x)
  rw [ltTotal, Bool.or_eq_true, Bool.and_eq_true, Bool.and_eq_true, decide_eq_true_eq, decide_eq_true_eq, hlt, heq, isNeg_number hna,
    isNeg_number hnb, Fmt.gridOf, Fmt.gridOf]
  have hxa := hnonneg (f.magOf a)
  have hxb := hnonneg (f.magOf b)
  rcases hfields a ha with ⟨hsa, hka⟩ | ⟨hsa, hka⟩ <;> rcases hfields b hb with ⟨hsb, hkb⟩ | ⟨hsb, hkb⟩ <;> rw [hka, hkb, hsa, hsb]
  · simp [hmono]
  · simp only [Bool.false_eq_true, if_false, if_true, and_false, false_and, or_false]
    exact iff_of_false (by linarith) (by omega)
  · simp only [Bool.false_eq_true, if_false, if_true, and_true, Bool.not_false]
    refine iff_of_true ?_ (by omega)
    rw [← le_iff_lt_or_eq]
    linarith
  · simp only [if_true, neg_lt_neg_iff, hmono, Bool.not_true, Bool.false_eq_true, and_false, or_false]
    omega

/-- R114: minimum and maximum of two numbers are codes of them. -/
theorem minMaxVal_numbers {f : Fmt} {a b : Nat} {key : Nat → Int} (ha : a < 2 ^ f.width) (hb : b < 2 ^ f.width)
    (hkey : ∀ c, key c = if c < 2 ^ (f.width - 1) then (c : Int) else -((c - 2 ^ (f.width - 1) : Nat) : Int) - 1)
    (hna : (f.decode a).isNaN = false) (hnb : (f.decode b).isNaN = false) :
    ∃ r R, minMaxVal f false a b = (r, 0#5) ∧ minMaxVal f true a b = (R, 0#5) ∧ (r = a ∨ r = b) ∧ (R = a ∨ R = b) ∧
      key r = min (key a) (key b) ∧ key R = max (key a) (key b) := by
  have hab := ltTotal_iff_key ha hb hkey hna hnb
  have hba := ltTotal_iff_key hb ha hkey hnb hna
  have hfl : flIf ((f.decode a).isSNaN || (f.decode b).isSNaN) flInvalid = 0#5 := by
    rw [isSNaN_false_of_numbers hna hnb]
    rfl
  refine ⟨if ltTotal (f.decode b) (f.decode a) then b else a, if ltTotal (f.decode a) (f.decode b) then b else a, ?_, ?_,
    (ite_eq_or_eq _ _ _).symm, (ite_eq_or_eq _ _ _).symm, ?_, ?_⟩
  · simp [minMaxVal, hna, hnb, hfl]
  · simp [minMaxVal, hna, hnb, hfl]
  · by_cases h : key b < key a
    · rw [if_pos (hba.2 h), min_eq_right h.le]
    · rw [if_neg fun h' => h (hba.1 h'), min_eq_left (not_lt.1 h)]
  · by_cases h : key a < key b
    · rw [if_pos (hab.2 h), max_eq_right h.le]
    · rw [if_neg fun h' => h (hab.1 h'), max_eq_left (not_lt.1 h)]

/-- R33, R114: a NaN operand gives the other one. -/
theorem minMaxVal_nan {f : Fmt} {a b : Nat} (w : Bool) {fl : FlagSet}
    (hfl : fl = (if (f.decode a).isSNaN = true ∨ (f.decode b).isSNaN = true then flInvalid else 0#5)) :
    ((f.decode a).isNaN = true → (f.decode b).isNaN = false → minMaxVal f w a b = (b, fl)) ∧
      ((f.decode a).isNaN = false → (f.decode b).isNaN = true → minMaxVal f w a b = (a, fl)) ∧
      ((f.decode a).isNaN = true → (f.decode b).isNaN = true → minMaxVal f w a b = (f.nan, fl)) := by
  rw [← flIf_or] at hfl
  refine ⟨fun ha hb => ?_, fun ha hb => ?_, fun ha hb => ?_⟩ <;> simp [minMaxVal, ha, hb, hfl]

/-! ### Classes (R115) -/

/-- R31, R33: an FP32 code by its fields. -/
theorem decode_f32 (c : Nat) : Fmt.decode .f32 c =
    if c / 2 ^ 23 % 256 = 255 then
      (if c % 2 ^ 23 = 0 then .inf (decide (c / 2 ^ 31 % 2 = 1)) else .nan (decide (c % 2 ^ 23 / 2 ^ 22 = 0)))
    else if c / 2 ^ 23 % 256 = 0 then .fin (decide (c / 2 ^ 31 % 2 = 1)) (c % 2 ^ 23) (-149)
    else .fin (decide (c / 2 ^ 31 % 2 = 1)) (c % 2 ^ 23 + 2 ^ 23) (((c / 2 ^ 23 % 256 : Nat) : Int) - 127 - 23) := by
  have h : Fmt.decode .f32 c =
      if decide (c / 2 ^ 23 % 256 = 255) && decide (c % 2 ^ 23 = 0) then .inf (decide (c / 2 ^ 31 % 2 = 1))
      else if decide (c / 2 ^ 23 % 256 = 255) then .nan (decide (c % 2 ^ 23 / 2 ^ 22 = 0))
      else if c / 2 ^ 23 % 256 = 0 then .fin (decide (c / 2 ^ 31 % 2 = 1)) (c % 2 ^ 23) (-149)
      else .fin (decide (c / 2 ^ 31 % 2 = 1)) (c % 2 ^ 23 + 2 ^ 23) (((c / 2 ^ 23 % 256 : Nat) : Int) - 127 - 23) := rfl
  rw [h]
  generalize c / 2 ^ 23 % 256 = e
  generalize c % 2 ^ 23 = m
  by_cases he : e = 255
  · by_cases hm : m = 0 <;> simp [he, hm]
  · simp [he]

theorem classMask_f32 (c : Nat) : classMask .f32 c =
    (if c / 2 ^ 23 % 256 = 255 then
      (if c % 2 ^ 23 = 0 then (if c / 2 ^ 31 % 2 = 1 then 2 ^ 0 else 2 ^ 7) else if c % 2 ^ 23 < 2 ^ 22 then 2 ^ 8 else 2 ^ 9)
     else if c / 2 ^ 23 % 256 = 0 then
      (if c % 2 ^ 23 = 0 then (if c / 2 ^ 31 % 2 = 1 then 2 ^ 3 else 2 ^ 4) else (if c / 2 ^ 31 % 2 = 1 then 2 ^ 2 else 2 ^ 5))
     else (if c / 2 ^ 31 % 2 = 1 then 2 ^ 1 else 2 ^ 6)) := by
  have hlt : c % 2 ^ 23 < 2 ^ 23 := Nat.mod_lt _ (by decide)
  have hexp : (1 - (Fmt.bias .f32 : Int) - Fmt.mbits .f32) = -149 := rfl
  rw [classMask, decode_f32]
  by_cases he : c / 2 ^ 23 % 256 = 255
  · rw [if_pos he, if_pos he]
    by_cases hm : c % 2 ^ 23 = 0
    · simp only [hm, if_true, decide_eq_true_eq]
      rfl
    · rw [if_neg hm, if_neg hm]
      have hq : c % 2 ^ 23 / 2 ^ 22 = 0 ↔ c % 2 ^ 23 < 2 ^ 22 := Nat.div_eq_zero_iff_lt (by decide)
      simp only [hq, decide_eq_true_eq]
      rfl
  · rw [if_neg he, if_neg he]
    by_cases h0 : c / 2 ^ 23 % 256 = 0
    · rw [if_pos h0, if_pos h0]
      by_cases hm : c % 2 ^ 23 = 0
      · simp only [hm, if_true, decide_eq_true_eq]
        rfl
      · have hs : c % 2 ^ 23 < 2 ^ Fmt.mbits .f32 ∧ (-149 : Int) = 1 - (Fmt.bias .f32 : Int) - Fmt.mbits .f32 := ⟨hlt, hexp.symm⟩
        simp only [hm, if_false, if_pos hs, decide_eq_true_eq]
        rfl
    · rw [if_neg h0, if_neg h0]
      have hs : ¬ (c % 2 ^ 23 + 2 ^ 23 < 2 ^ Fmt.mbits .f32 ∧
          ((c / 2 ^ 23 % 256 : Nat) : Int) - 127 - 23 = 1 - (Fmt.bias .f32 : Int) - Fmt.mbits .f32) :=
        fun h => absurd h.1 (not_lt.2 (Nat.le_add_left _ _))
      have hm : c % 2 ^ 23 + 2 ^ 23 ≠ 0 := by omega
      simp only [hm, if_false, if_neg hs, decide_eq_true_eq]
      rfl

/-! ### Draws (R46) -/

theorem lfsrStep_bits (s : BitVec 32) :
    (lfsrStep s).getLsbD 0 = (s.getLsbD 31 ^^ s.getLsbD 21 ^^ s.getLsbD 1 ^^ s.getLsbD 0) ∧
      ∀ i, i < 31 → (lfsrStep s).getLsbD (i + 1) = s.getLsbD i := by
  have hbit : ∀ (b : Bool) (i : Nat), (if b = true then 1#32 else 0#32).getLsbD i = (b && decide (i = 0)) := by
    intro b i
    cases b <;> simp
  refine ⟨?_, fun i hi => ?_⟩
  · simp only [lfsrStep, BitVec.getLsbD_or, hbit, BitVec.getLsbD_shiftLeft]
    simp
  · have h1 : i + 1 < 32 := by omega
    simp only [lfsrStep, BitVec.getLsbD_or, hbit, BitVec.getLsbD_shiftLeft]
    simp [h1]

theorem iterate_eq_foldl {α : Type} (f : α → α) (n : Nat) : ∀ x : α, iterate f n x = (List.range n).foldl (fun y _ => f y) x := by
  induction n with
  | zero => exact fun x => rfl
  | succ n ih =>
    intro x
    rw [iterate, ih, List.range_succ_eq_map, List.foldl_cons, List.foldl_map]

/-! ### Special values between formats (R39, R41) -/

theorem cvtVal_inf (f : Fmt) (rm : RMode) (o : Bool) (dr : Nat) (n : Bool) : cvtVal f rm o dr (.inf n) =
    (if f = .f32 ∨ f = .f16 ∨ f = .bf16 ∨ (f = .e5m2 ∧ o = true) then (f.signed n f.infCode, 0#5)
     else if f = .e4m3 ∧ o = true then (0x7F, 0#5) else (f.signed n f.maxCode, flOverflow ||| flInexact)) := by
  cases f <;> cases o <;> rfl

theorem cvtVal_nan (f : Fmt) (rm : RMode) (o : Bool) (dr : Nat) (q : Bool) : cvtVal f rm o dr (.nan q) =
    (if f = .e3m2 ∨ f = .e2m3 ∨ f = .e2m1 then (0, flInvalid) else (f.nan, if q then flInvalid else 0#5)) := by
  cases f <;> rfl

/-- R39 step 2: the overflow of a format with infinities, by mode and sign. -/
theorem overflowCode_inf {f : Fmt} {o : Bool} (hf : f = .f32 ∨ f = .f16 ∨ f = .bf16 ∨ (f = .e5m2 ∧ o = true)) (rm : RMode) (n : Bool) :
    f.overflowCode rm o n = (if rm = .rtz ∨ (rm = .rdn ∧ n = false) ∨ (rm = .rup ∧ n = true) then f.maxCode else f.infCode) +
      (if n then 2 ^ (f.width - 1) else 0) := by
  rcases hf with rfl | rfl | rfl | ⟨rfl, rfl⟩ <;> cases rm <;> cases n <;> rfl

/-- Settles O59: one theorem for the rounding of every number in a cell, and the operations, conversions and selections by the
number that each of them rounds or keeps. -/
theorem roundingsFollowTheirModes : Obligations.RoundingsFollowTheirModes := by
  unfold Obligations.RoundingsFollowTheirModes
  refine ⟨⟨fun f rm o dr n m e => round_exact f rm o dr n m e, fun f n c hc => decode_signed f n hc, ?overflow⟩,
    ⟨fun f rm o dr n1 n2 n3 m1 m2 m3 e1 e2 e3 => ⟨fun v hv => addVal_rounds f rm o dr n1 n2 m1 m2 e1 e2 hv,
        mulVal_rounds f rm dr n1 n2 m1 m2 e1 e2, divVal_rounds f rm dr n1 n2 m1 m2 e1 e2,
        fun v hv => fmaVal_rounds f rm dr n1 n2 n3 m1 m2 m3 e1 e2 e3 hv⟩,
      fun f rm dr m e v hm hv hvv => sqrtVal_rounds f rm dr m e hm hv hvv⟩,
    ⟨fun lo hi rm dr n m e => ⟨cvtInt_fin lo hi rm dr n m e, cvtT2_fin rm dr n m e, fun q => ⟨rfl, rfl⟩, rfl, rfl⟩,
      fun f rm o dr n q m e => ⟨rfl, cvtVal_inf f rm o dr n, cvtVal_nan f rm o dr q⟩,
      fun rm dr n q m e => ⟨rfl, rfl, rfl, fun hm => toE8_fin rm dr n hm e⟩⟩,
    fun f a b key ha hb hkey => ⟨minMaxVal_numbers ha hb hkey, fun w fl hfl => minMaxVal_nan w hfl⟩, ?classes,
    fun s => ⟨(lfsrStep_bits s).1, (lfsrStep_bits s).2, rfl, fun n => rfl, iterate_eq_foldl lfsrStep 16 s, rfl⟩⟩
  case overflow =>
    intro rm o n
    refine ⟨overflowCode_inf (by simp) rm n, overflowCode_inf (by simp) rm n, overflowCode_inf (by simp) rm n,
      overflowCode_inf (by simp) rm n, ?_, ?_, ?_, ?_, ?_, ?_⟩ <;> cases n <;> rfl
  case classes =>
    rintro c s e m hc rfl rfl rfl
    have hs : c / 2 ^ 31 % 2 = c / 2 ^ 31 := Nat.mod_eq_of_lt (by omega)
    rw [classMask_f32, hs]

end Sys2Proof.Machine
end

section
/-! PROOF. Blocks of products and rows of them (R49 to R51), and the words of a tile's buffer (R216). -/
namespace Sys2Proof.Machine

/-! ### One block (R49) -/

/-- R49: what one product adds to the running state; a product with a NaN operand is a NaN. -/
theorem addProduct_eq (s : BlockSum) (a b : FVal) : s.addProduct a b =
    { nan := s.nan || (a.isNaN || b.isNaN), posInf := s.posInf || decide (mulExact a b = some (.inf false)),
      negInf := s.negInf || decide (mulExact a b = some (.inf true)), bad := s.bad || decide (mulExact a b = none),
      sum := (s.addProduct a b).sum, exp := (s.addProduct a b).exp } := by
  cases a with
  | nan q => simp [BlockSum.addProduct, FVal.isNaN, mulExact]
  | inf n =>
    cases b with
    | nan q => simp [BlockSum.addProduct, FVal.isNaN, mulExact]
    | inf n' => cases n <;> cases n' <;> simp [BlockSum.addProduct, FVal.isNaN, mulExact]
    | fin n' m e =>
      by_cases hm : m = 0
      · simp [BlockSum.addProduct, FVal.isNaN, mulExact, hm]
      · cases n <;> cases n' <;> simp [BlockSum.addProduct, FVal.isNaN, mulExact, hm]
  | fin n m e =>
    cases b with
    | nan q => simp [BlockSum.addProduct, FVal.isNaN, mulExact]
    | inf n' =>
      by_cases hm : m = 0
      · simp [BlockSum.addProduct, FVal.isNaN, mulExact, hm]
      · cases n <;> cases n' <;> simp [BlockSum.addProduct, FVal.isNaN, mulExact, hm]
    | fin n' m' e' => simp [BlockSum.addProduct, FVal.isNaN, mulExact]

/-- The exact sum so far. -/
def BlockSum.value (s : BlockSum) : ℚ := (s.sum : ℚ) * 2 ^ s.exp

theorem addProduct_value (s : BlockSum) (n1 n2 : Bool) (m1 m2 : Nat) (e1 e2 : Int) :
    (s.addProduct (.fin n1 m1 e1) (.fin n2 m2 e2)).value = s.value + finValue n1 m1 e1 * finValue n2 m2 e2 := by
  have hs : (2 : ℚ) ^ (s.exp - min (e1 + e2) s.exp).toNat * 2 ^ min (e1 + e2) s.exp = 2 ^ s.exp := by
    rw [zpow_toNat_two (by omega), ← zpow_add₀ two_ne_zero, sub_add_cancel]
  have hp := aligned (m := m1 * m2) (min_le_left (e1 + e2) s.exp) (n1 != n2)
  rw [finValue_mul] at hp
  rw [← hp]
  simp only [BlockSum.addProduct, FVal.isNaN, mulExact, Bool.or_self, Bool.false_eq_true, if_false, BlockSum.value]
  rw [← hs, Int.cast_add, add_mul, Int.cast_mul, mul_assoc, Int.cast_pow, Int.cast_ofNat]

/-- R49: the running state of a block after its products. -/
def blockSum (ps : List (FVal × FVal)) (s : BlockSum) : BlockSum := ps.foldl (fun (s : BlockSum) p => s.addProduct p.1 p.2) s

def emptyBlock : BlockSum := ⟨false, false, false, false, 0, 0⟩

theorem blockSum_marks (ps : List (FVal × FVal)) : ∀ s : BlockSum,
    ((blockSum ps s).nan = true ↔ s.nan = true ∨ ∃ p ∈ ps, p.1.isNaN = true ∨ p.2.isNaN = true) ∧
      ((blockSum ps s).posInf = true ↔ s.posInf = true ∨ ∃ p ∈ ps, mulExact p.1 p.2 = some (.inf false)) ∧
      ((blockSum ps s).negInf = true ↔ s.negInf = true ∨ ∃ p ∈ ps, mulExact p.1 p.2 = some (.inf true)) ∧
      ((blockSum ps s).bad = true ↔ s.bad = true ∨ ∃ p ∈ ps, mulExact p.1 p.2 = none) := by
  induction ps with
  | nil => simp [blockSum]
  | cons p ps ih =>
    intro s
    obtain ⟨h1, h2, h3, h4⟩ := ih (s.addProduct p.1 p.2)
    rw [addProduct_eq] at h1 h2 h3 h4
    have hstep : blockSum (p :: ps) s = blockSum ps (s.addProduct p.1 p.2) := rfl
    rw [hstep, addProduct_eq, h1, h2, h3, h4]
    simp [or_assoc]

theorem blockSum_value {num : FVal → ℚ} (hnum : ∀ n m e, num (.fin n m e) = finValue n m e) (ps : List (FVal × FVal)) :
    ∀ s : BlockSum, (∀ p ∈ ps, (∃ n m e, p.1 = .fin n m e) ∧ ∃ n m e, p.2 = .fin n m e) →
      (blockSum ps s).value = s.value + (ps.map (fun p => num p.1 * num p.2)).sum := by
  induction ps with
  | nil => intro s _; simp [blockSum]
  | cons p ps ih =>
    intro s hp
    obtain ⟨⟨n1, m1, e1, h1⟩, n2, m2, e2, h2⟩ := hp p (List.mem_cons_self ..)
    have hstep : blockSum (p :: ps) s = blockSum ps (s.addProduct p.1 p.2) := rfl
    rw [hstep, ih _ fun q hq => hp q (List.mem_cons_of_mem _ hq), List.map_cons, List.sum_cons, h1, h2, addProduct_value, hnum, hnum,
      add_assoc]

/-- The product of two numbers that is defined and finite is one of two finite numbers. -/
theorem finite_of_mulExact {a b : FVal} (ha : a.isNaN = false) (hb : b.isNaN = false) (hn : mulExact a b ≠ none)
    (hi : ∀ n, mulExact a b ≠ some (.inf n)) : (∃ n m e, a = .fin n m e) ∧ ∃ n m e, b = .fin n m e := by
  cases a with
  | nan q => cases ha
  | inf n =>
    cases b with
    | nan q => cases hb
    | inf n' => exact absurd rfl (hi (n != n'))
    | fin n' m e =>
      by_cases hm : m = 0
      · exact absurd (if_pos hm) hn
      · exact absurd (if_neg hm) (hi (n != n'))
  | fin n m e =>
    cases b with
    | nan q => cases hb
    | inf n' =>
      by_cases hm : m = 0
      · exact absurd (if_pos hm) hn
      · exact absurd (if_neg hm) (hi (n != n'))
    | fin n' m' e' => exact ⟨⟨n, m, e, rfl⟩, n', m', e', rfl⟩

section
variable (ps : List (FVal × FVal)) (sa sb : Nat)

/-- R49: the block value from the running state. -/
theorem blockValue_eq : blockValue ps sa sb =
    let s := blockSum ps emptyBlock
    if s.nan || decide (sa = 255) || decide (sb = 255) then (0x7FC00000, flInvalid)
    else if s.bad || (s.posInf && s.negInf) then (0x7FC00000, flInvalid)
    else if s.posInf then (0x7F800000, 0#5) else if s.negInf then (0xFF800000, 0#5)
    else if s.sum = 0 then (0, 0#5)
    else Fmt.f32.round .rne false 0 (decide (s.sum < 0)) s.sum.natAbs (s.exp + sa + sb - 254) := rfl

theorem emptyBlock_marks :
    ((blockSum ps emptyBlock).nan = true ↔ ∃ p ∈ ps, p.1.isNaN = true ∨ p.2.isNaN = true) ∧
      ((blockSum ps emptyBlock).posInf = true ↔ ∃ p ∈ ps, mulExact p.1 p.2 = some (.inf false)) ∧
      ((blockSum ps emptyBlock).negInf = true ↔ ∃ p ∈ ps, mulExact p.1 p.2 = some (.inf true)) ∧
      ((blockSum ps emptyBlock).bad = true ↔ ∃ p ∈ ps, mulExact p.1 p.2 = none) := by
  have h := blockSum_marks ps emptyBlock
  simpa only [emptyBlock, Bool.false_eq_true, false_or] using h

/-- R49: the blocks that have no value. -/
theorem blockValue_invalid (h : (∃ p ∈ ps, p.1.isNaN = true ∨ p.2.isNaN = true) ∨ sa = 255 ∨ sb = 255 ∨
    (∃ p ∈ ps, mulExact p.1 p.2 = none) ∨
      ((∃ p ∈ ps, mulExact p.1 p.2 = some (.inf true)) ∧ (∃ p ∈ ps, mulExact p.1 p.2 = some (.inf false)))) :
    blockValue ps sa sb = (0x7FC00000, flInvalid) := by
  obtain ⟨hnan, hpos, hneg, hbad⟩ := emptyBlock_marks ps
  rw [← hnan, ← hpos, ← hneg, ← hbad] at h
  rw [blockValue_eq]
  generalize blockSum ps emptyBlock = s at h
  rcases h with h | h | h | h | ⟨h, h'⟩
  · simp [h]
  · simp [h]
  · simp [h]
  · simp [h]
  · simp [h, h']

variable {ps sa sb} (hn : ∀ p ∈ ps, p.1.isNaN = false ∧ p.2.isNaN = false ∧ mulExact p.1 p.2 ≠ none)
include hn

theorem emptyBlock_clear : (blockSum ps emptyBlock).nan = false ∧ (blockSum ps emptyBlock).bad = false := by
  obtain ⟨hnan, -, -, hbad⟩ := emptyBlock_marks ps
  refine ⟨Bool.eq_false_iff.2 fun h => ?_, Bool.eq_false_iff.2 fun h => ?_⟩
  · obtain ⟨p, hp, hx⟩ := hnan.1 h
    obtain ⟨h1, h2, -⟩ := hn p hp
    simp [h1, h2] at hx
  · obtain ⟨p, hp, hx⟩ := hbad.1 h
    exact (hn p hp).2.2 hx

variable (ha : sa ≠ 255) (hb : sb ≠ 255)
include ha hb

/-- R49: a block of one infinity. -/
theorem blockValue_inf {n : Bool} (hi : ∃ p ∈ ps, mulExact p.1 p.2 = some (.inf n))
    (ho : ∀ p ∈ ps, mulExact p.1 p.2 ≠ some (.inf (!n))) :
    blockValue ps sa sb = (if n then 0xFF800000 else 0x7F800000, 0#5) := by
  obtain ⟨-, hpos, hneg, -⟩ := emptyBlock_marks ps
  obtain ⟨hnan, hbad⟩ := emptyBlock_clear hn
  have ho' : ¬ ∃ p ∈ ps, mulExact p.1 p.2 = some (.inf (!n)) := fun ⟨p, hp, h⟩ => ho p hp h
  rw [blockValue_eq]
  cases n
  · simp [hnan, hbad, ha, hb, hpos.2 hi, Bool.eq_false_iff.2 fun h => ho' (hneg.1 h)]
  · simp [hnan, hbad, ha, hb, hneg.2 hi, Bool.eq_false_iff.2 fun h => ho' (hpos.1 h)]

/-- R49: the exact sum of the products, scaled and rounded once. -/
theorem blockValue_finite {num : FVal → ℚ} (hnum : ∀ n m e, num (.fin n m e) = finValue n m e)
    (hi : ∀ p ∈ ps, ∀ n, mulExact p.1 p.2 ≠ some (.inf n)) {v : ℚ} (hv : v = (ps.map (fun p => num p.1 * num p.2)).sum) :
    (v = 0 → blockValue ps sa sb = (0, 0#5)) ∧
      (v ≠ 0 → Rounds .f32 .rne false 0 (decide (v < 0)) (|v| * 2 ^ ((sa : Int) + sb - 254) : ℚ) (blockValue ps sa sb)) := by
  obtain ⟨-, hpos, hneg, -⟩ := emptyBlock_marks ps
  obtain ⟨hnan, hbad⟩ := emptyBlock_clear hn
  have hp : (blockSum ps emptyBlock).posInf = false := Bool.eq_false_iff.2 fun h =>
    let ⟨p, hp, hx⟩ := hpos.1 h; hi p hp _ hx
  have hq : (blockSum ps emptyBlock).negInf = false := Bool.eq_false_iff.2 fun h =>
    let ⟨p, hp, hx⟩ := hneg.1 h; hi p hp _ hx
  have hsum := blockSum_value hnum ps emptyBlock fun p hp =>
    finite_of_mulExact (hn p hp).1 (hn p hp).2.1 (hn p hp).2.2 (hi p hp)
  have hround : blockValue ps sa sb = if (blockSum ps emptyBlock).sum = 0 then (0, 0#5) else
      Fmt.f32.round .rne false 0 (decide ((blockSum ps emptyBlock).sum < 0)) (blockSum ps emptyBlock).sum.natAbs
        ((blockSum ps emptyBlock).exp + sa + sb - 254) := by
    rw [blockValue_eq]
    simp [hnan, hbad, hp, hq, ha, hb]
  rw [hround]
  generalize blockSum ps emptyBlock = s at hsum
  have hX : (0 : ℚ) < 2 ^ s.exp := by positivity
  have hsv : (s.sum : ℚ) * 2 ^ s.exp = v := by
    rw [hv]
    simpa [BlockSum.value, emptyBlock] using hsum
  have hzero : s.sum = 0 ↔ v = 0 := by
    rw [← hsv, mul_eq_zero, or_iff_left hX.ne', Int.cast_eq_zero]
  have hsign : s.sum < 0 ↔ v < 0 := by
    rw [← hsv, mul_neg_iff, or_iff_right fun h => absurd h.2 (not_lt.2 hX.le), and_iff_left hX, Int.cast_lt_zero]
  refine ⟨fun h => if_pos (hzero.2 h), fun h => ?_⟩
  rw [if_neg fun h' => h (hzero.1 h')]
  have hval : |v| * 2 ^ ((sa : Int) + sb - 254) = (s.sum.natAbs : ℚ) * 2 ^ (s.exp + sa + sb - 254) := by
    rw [← hsv, abs_mul, abs_of_pos hX, Nat.cast_natAbs, Int.cast_abs, mul_assoc, ← zpow_add₀ two_ne_zero]
    congr 2
    ring
  rw [cast_scaled hval]
  simp only [← hsign]
  exact round_exact _ _ _ _ _ _ _

end

/-! ### Rows of blocks and of integers (R49, R51) -/

/-- The flags of a row's blocks join those that it starts with. -/
theorem foldl_dotBlock_flags (ta tb : ETy) (l : List (List (Nat × Nat) × Nat × Nat)) : ∀ (acc : Nat) (f : FlagSet),
    l.foldl (dotBlock ta tb) (acc, f) =
      ((l.foldl (dotBlock ta tb) (acc, 0#5)).1, f ||| (l.foldl (dotBlock ta tb) (acc, 0#5)).2) := by
  induction l with
  | nil => intro acc f; simp
  | cons b l ih =>
    intro acc f
    have hstep : ∀ g : FlagSet, dotBlock ta tb (acc, g) b = ((dotBlock ta tb (acc, 0#5) b).1, g ||| (dotBlock ta tb (acc, 0#5) b).2) := by
      intro g
      simp [dotBlock, BitVec.or_assoc]
    rw [List.foldl_cons, List.foldl_cons, hstep f, ih _ (f ||| _), ih (dotBlock ta tb (acc, 0#5) b).1 (dotBlock ta tb (acc, 0#5) b).2]
    simp [BitVec.or_assoc]

/-- R49, R187: a row is its first block and the rest. -/
theorem dotRow_cons (ta tb : ETy) (acc sa sb : Nat) {p : List (Nat × Nat)} (ps sc : List (Nat × Nat)) (hp : p.length = 32) :
    ∃ b r z, b = blockValue (p.map (fun x => ((elemVal ta x.1).1, (elemVal tb x.2).1))) sa sb ∧
      r = addVal .f32 .rne false 0 (fv acc) (fv b.1) ∧ z = dotRow ta tb r.1 ps sc ∧
      dotRow ta tb acc (p ++ ps) ((sa, sb) :: sc) = (z.1, b.2 ||| r.2 ||| z.2) := by
  refine ⟨_, _, _, rfl, rfl, rfl, ?_⟩
  have hcut : dotBlocks (p ++ ps) ((sa, sb) :: sc) = (p, sa, sb) :: dotBlocks ps sc := by
    rw [dotBlocks, ← hp, List.take_left, List.drop_left]
  rw [dotRow, hcut, List.foldl_cons, dotRow]
  have hone : dotBlock ta tb (acc, 0#5) (p, sa, sb) =
      ((addVal .f32 .rne false 0 (fv acc) (fv (blockValue (p.map (fun x => ((elemVal ta x.1).1, (elemVal tb x.2).1))) sa sb).1)).1,
        (blockValue (p.map (fun x => ((elemVal ta x.1).1, (elemVal tb x.2).1))) sa sb).2 |||
        (addVal .f32 .rne false 0 (fv acc) (fv (blockValue (p.map (fun x => ((elemVal ta x.1).1, (elemVal tb x.2).1))) sa sb).1)).2) := by
    simp only [dotBlock, BitVec.zero_or]
    rfl
  rw [hone, foldl_dotBlock_flags]

theorem foldl_add_eq_sum {α : Type} (g : α → Int) (l : List α) : ∀ a : Int, l.foldl (fun a p => a + g p) a = a + (l.map g).sum := by
  induction l with
  | nil => intro a; simp
  | cons x l ih => intro a; rw [List.foldl_cons, ih, List.map_cons, List.sum_cons, add_assoc]

/-- R51: the exact sum of an integer row, saturated once. -/
theorem dotRowInt_eq {tb : ETy} {acc : Nat} {ps : List (Nat × Nat)} {v : Int}
    (hv : v = intOf true 32 acc + (ps.map (fun p => intOf true 8 p.1 * (elemInt tb p.2).getD 0)).sum) :
    ∃ sat bad : Bool, dotRowInt tb acc ps = (((max (-(2 ^ 31)) (min (2 ^ 31 - 1) v)) % 2 ^ 32).toNat,
        flIf sat flSaturation ||| flIf bad flInvalid) ∧
      (sat = true ↔ v < -(2 ^ 31) ∨ 2 ^ 31 - 1 < v) ∧ (bad = true ↔ tb = .t2 ∧ ∃ p ∈ ps, p.2 % 4 = 2) := by
  refine ⟨decide (v < intMin true 32 ∨ intMax true 32 < v), ps.any (fun p => decide (tb = .t2) && decide (p.2 % 4 = 2)), ?_, ?_, ?_⟩
  · have hc := clampInt_eq (intMin_le_intMax true 32) v
    rw [dotRowInt, foldl_add_eq_sum, ← hv, hc]
    rfl
  · rw [decide_eq_true_iff]
    rfl
  · simp only [List.any_eq_true, Bool.and_eq_true, decide_eq_true_eq]
    exact ⟨fun ⟨p, hp, h1, h2⟩ => ⟨h1, p, hp, h2⟩, fun ⟨h1, p, hp, h2⟩ => ⟨p, hp, h1, h2⟩⟩

/-! ### The words of a tile's buffer (R216) -/

theorem mem_of_kfind {α : Type} {k : Nat} {v : α} {l : List (Nat × α)} (h : kfind k l = some v) : (k, v) ∈ l := by
  induction l with
  | nil => cases h
  | cons p l ih =>
    rw [kfind] at h
    split_ifs at h with hp
    · cases h
      exact hp ▸ List.mem_cons_self ..
    · exact List.mem_cons_of_mem _ (ih h)

theorem kfind_ne_none {α : Type} {k : Nat} {v : α} {l : List (Nat × α)} (h : (k, v) ∈ l) : kfind k l ≠ none := by
  induction l with
  | nil => cases h
  | cons p l ih =>
    rw [kfind]
    split_ifs with hp
    · simp
    · rcases List.mem_cons.1 h with rfl | h
      · exact absurd rfl hp
      · exact ih h

/-- R216: the words of a buffer of 128 by 128, each with its place. -/
def bufferWords {α : Type} (word : Nat → Nat → α) : List (Nat × α) :=
  (List.range 128).flatMap (fun i => (List.range 128).map (fun j => (128 * i + j, word i j)))

theorem mem_bufferWords {α : Type} {word : Nat → Nat → α} {p : Nat × α} :
    p ∈ bufferWords word ↔ ∃ i j, i < 128 ∧ j < 128 ∧ p = (128 * i + j, word i j) := by
  simp only [bufferWords, List.mem_flatMap, List.mem_map, List.mem_range]
  constructor
  · rintro ⟨i, hi, j, hj, rfl⟩
    exact ⟨i, j, hi, hj, rfl⟩
  · rintro ⟨i, j, hi, hj, rfl⟩
    exact ⟨i, hi, j, hj, rfl⟩

/-- A buffer lists the words that differ from zero. -/
theorem kget_bufferWords {α : Type} (word : Nat → Nat → BitVec 32 × α) {i j : Nat} (hi : i < 128) (hj : j < 128) :
    kget 0#32 (128 * i + j) (((bufferWords word).filter (fun r => decide (r.2.1 ≠ 0#32))).map (fun r => (r.1, r.2.1))) =
      (word i j).1 := by
  set l := ((bufferWords word).filter (fun r => decide (r.2.1 ≠ 0#32))).map (fun r => (r.1, r.2.1)) with hl
  have hmem : ∀ v, (128 * i + j, v) ∈ l ↔ v = (word i j).1 ∧ v ≠ 0#32 := by
    intro v
    simp only [hl, List.mem_map, List.mem_filter, mem_bufferWords, decide_eq_true_eq, Prod.mk.injEq]
    constructor
    · rintro ⟨_, ⟨⟨i', j', hi', hj', rfl⟩, hne⟩, hk, rfl⟩
      obtain rfl : i' = i := by simp only at hk; omega
      obtain rfl : j' = j := by simp only at hk; omega
      exact ⟨rfl, hne⟩
    · rintro ⟨rfl, hne⟩
      exact ⟨_, ⟨⟨i, j, hi, hj, rfl⟩, hne⟩, rfl, rfl⟩
  rw [kget]
  cases h : kfind (128 * i + j) l with
  | some v => exact ((hmem v).1 (mem_of_kfind h)).1
  | none =>
    by_contra hne
    exact kfind_ne_none ((hmem _).2 ⟨rfl, Ne.symm hne⟩) h

/-- R216: every word and every flag of a buffer after a block. -/
theorem tileBlock_words (p : Pair) (ta tb : ETy) (fresh : Bool) (blk : TileBlock) (acc : List (Nat × BitVec 32))
    {word : Nat → Nat → BitVec 32 × BitVec 3}
    (hw : ∀ i j, word i j = tileElem p ta tb (if fresh then 0#32 else kget 0#32 (128 * i + j) acc) ((blk.a.drop (32 * i)).take 32)
      ((blk.b.drop (32 * j)).take 32) (blk.sa.getD i 127) (blk.sb.getD j 127)) :
    (∀ i j, i < 128 → j < 128 → kget 0#32 (128 * i + j) (tileBlock p ta tb fresh blk acc).1 = (word i j).1) ∧
      (∀ n, n < 3 → ((tileBlock p ta tb fresh blk acc).2.getLsbD n = true ↔
        ∃ i j, i < 128 ∧ j < 128 ∧ (word i j).2.getLsbD n = true)) := by
  have hwords : bufferWords word = (List.range 128).flatMap (fun i => (List.range 128).map (fun j =>
      (128 * i + j, tileElem p ta tb (if fresh then 0#32 else kget 0#32 (128 * i + j) acc) (blockRow blk.a i) (blockRow blk.b j)
        (blk.sa.getD i 127) (blk.sb.getD j 127)))) := by
    simp only [bufferWords, hw, blockRow]
  have hrun : tileBlock p ta tb fresh blk acc =
      (((bufferWords word).filter (fun r => decide (r.2.1 ≠ 0#32))).map (fun r => (r.1, r.2.1)),
        (bufferWords word).foldl (fun (f : BitVec 3) r => f ||| r.2.2) 0#3) := by
    rw [hwords]
    rfl
  rw [hrun]
  refine ⟨fun i j hi hj => kget_bufferWords word hi hj, fun n _ => ?_⟩
  rw [foldl_or_getLsbD (fun r : Nat × BitVec 32 × BitVec 3 => r.2.2), or_iff_right (by simp)]
  constructor
  · rintro ⟨r, hr, h⟩
    obtain ⟨i, j, hi, hj, rfl⟩ := mem_bufferWords.1 hr
    exact ⟨i, j, hi, hj, h⟩
  · rintro ⟨i, j, hi, hj, h⟩
    exact ⟨_, mem_bufferWords.2 ⟨i, j, hi, hj, rfl⟩, h⟩

/-- R49: the flags that a buffer keeps. -/
theorem tileFlags_bits (f : FlagSet) : (tileFlags f).getLsbD 0 = f.getLsbD 0 ∧ (tileFlags f).getLsbD 1 = f.getLsbD 1 ∧
    (tileFlags f).getLsbD 2 = f.getLsbD 4 := by
  rw [tileFlags]
  cases f.getLsbD 0 <;> cases f.getLsbD 1 <;> cases f.getLsbD 4 <;> decide

theorem tileElem_eq (p : Pair) (ta tb : ETy) (acc : BitVec 32) (a b : List Nat) (sa sb : Nat) {r : Nat × FlagSet}
    (hr : r = (if p = .i8i8 ∨ p = .i8t2 then dotRowInt tb acc.toNat (a.zip b)
      else dotBlock ta tb (acc.toNat, 0#5) (a.zip b, sa, sb))) :
    tileElem p ta tb acc a b sa sb = (BitVec.ofNat 32 r.1, tileFlags r.2) := by
  have hp : p.isInt = true ↔ p = .i8i8 ∨ p = .i8t2 := by cases p <;> decide
  rw [hr, tileElem]
  simp only [hp]
  split_ifs <;> rfl

end Sys2Proof.Machine
end

section
/-! PROOF. Row reductions: the tree within chunks of 32 and the order across them (R52), sums, maxima and minima (R181, R182). -/
namespace Sys2Proof.Machine

/-! ### The tree (R52) -/

section
variable {α : Type} (f : α → α → α)

theorem length_treeLevel : ∀ xs : List α, (treeLevel f xs).length = (xs.length + 1) / 2
  | [] => by simp [treeLevel]
  | [x] => by simp [treeLevel]
  | x :: y :: rest => by
    simp only [treeLevel, List.length_cons, length_treeLevel rest]
    omega

theorem treeLevel_append : ∀ xs ys : List α, xs.length % 2 = 0 → treeLevel f (xs ++ ys) = treeLevel f xs ++ treeLevel f ys
  | [], ys, _ => by simp [treeLevel]
  | [x], ys, h => absurd h (by simp)
  | x :: y :: rest, ys, h => by
    simp only [List.cons_append, treeLevel, treeLevel_append rest ys (by simp only [List.length_cons] at h; omega)]

/-- Levels of the tree pass over a run of whole subtrees. -/
theorem levels_append (k : Nat) : ∀ xs ys : List α, 2 ^ k ∣ xs.length →
    (treeLevel f)^[k] (xs ++ ys) = (treeLevel f)^[k] xs ++ (treeLevel f)^[k] ys := by
  induction k with
  | zero => exact fun _ _ _ => rfl
  | succ k ih =>
    intro xs ys h
    obtain ⟨c, hc⟩ := h
    have hpow : xs.length = 2 * (2 ^ k * c) := by rw [hc, pow_succ']; ring
    rw [Function.iterate_succ_apply, Function.iterate_succ_apply, Function.iterate_succ_apply, treeLevel_append f xs ys (by omega),
      ih _ _ ⟨c, by rw [length_treeLevel]; omega⟩]

/-- Levels enough leave one value. -/
theorem levels_single (k : Nat) : ∀ xs : List α, xs ≠ [] → xs.length ≤ 2 ^ k → ∃ x, (treeLevel f)^[k] xs = [x] := by
  induction k with
  | zero =>
    intro xs hne hlen
    exact List.length_eq_one_iff.1 (le_antisymm hlen (List.length_pos_of_ne_nil hne))
  | succ k ih =>
    intro xs hne hlen
    have hpos := List.length_pos_of_ne_nil hne
    rw [Function.iterate_succ_apply]
    refine ih _ (List.ne_nil_of_length_pos ?_) ?_ <;> rw [length_treeLevel]
    · omega
    · rw [pow_succ] at hlen
      omega

theorem levels_of_single (k : Nat) (x : α) : (treeLevel f)^[k] [x] = [x] := Function.iterate_fixed rfl k

theorem chunkTree_eq {k : Nat} (hk : k ≤ 5) {xs : List α} {x : α} (h : (treeLevel f)^[k] xs = [x]) : chunkTree f xs = some x := by
  have hc : chunkTree f xs = ((treeLevel f)^[5] xs).head? := rfl
  rw [hc, ← Nat.sub_add_cancel hk, Function.iterate_add_apply, h, levels_of_single, List.head?_cons]

theorem chunkTree_single (x : α) : chunkTree f [x] = some x := rfl

/-- R52: a chunk past a power of two is the tree over that many elements, joined to the tree over the rest. -/
theorem chunkTree_split {xs : List α} {k : Nat} (hk : k < 5) (h0 : 2 ^ k < xs.length) (h1 : xs.length ≤ 2 ^ (k + 1)) :
    ∃ l r, chunkTree f (xs.take (2 ^ k)) = some l ∧ chunkTree f (xs.drop (2 ^ k)) = some r ∧ chunkTree f xs = some (f l r) := by
  have hpos : 0 < 2 ^ k := Nat.two_pow_pos k
  have htake : (xs.take (2 ^ k)).length = 2 ^ k := by rw [List.length_take]; omega
  have hdrop : (xs.drop (2 ^ k)).length = xs.length - 2 ^ k := List.length_drop
  rw [pow_succ] at h1
  obtain ⟨l, hl⟩ := levels_single f k (xs.take (2 ^ k)) (List.ne_nil_of_length_pos (by omega)) (by omega)
  obtain ⟨r, hr⟩ := levels_single f k (xs.drop (2 ^ k)) (List.ne_nil_of_length_pos (by omega)) (by omega)
  refine ⟨l, r, chunkTree_eq f (by omega) hl, chunkTree_eq f (by omega) hr, chunkTree_eq f (k := k + 1) (by omega) ?_⟩
  conv_lhs => rw [← List.take_append_drop (2 ^ k) xs]
  rw [Function.iterate_succ_apply', levels_append f k _ _ (by rw [htake]), hl, hr]
  rfl

/-! ### Chunks in order (R52) -/

theorem chunks32_succ (n : Nat) {xs : List α} (h : xs ≠ []) : chunks32 (n + 1) xs = xs.take 32 :: chunks32 n (xs.drop 32) := by
  cases xs with
  | nil => exact absurd rfl h
  | cons x xs => rfl

theorem chunks32_single {ys : List α} (h0 : 0 < ys.length) (h1 : ys.length ≤ 32) {n : Nat} (hn : 0 < n) : chunks32 n ys = [ys] := by
  obtain ⟨n, rfl⟩ := Nat.exists_eq_succ_of_ne_zero hn.ne'
  rw [chunks32_succ n (List.ne_nil_of_length_pos h0), List.take_of_length_le h1, List.drop_of_length_le h1]
  cases n <;> rfl

theorem chunks32_append {ys : List α} (h0 : 0 < ys.length) (h1 : ys.length ≤ 32) (k : Nat) : ∀ {xs : List α}, xs.length = 32 * k →
    ∀ {m n : Nat}, k ≤ m → k < n → chunks32 n (xs ++ ys) = chunks32 m xs ++ [ys] := by
  induction k with
  | zero =>
    intro xs hx m n _ hn
    obtain rfl := List.length_eq_zero_iff.1 hx
    rw [List.nil_append, chunks32_single h0 h1 hn]
    cases m <;> rfl
  | succ k ih =>
    intro xs hx m n hm hn
    obtain ⟨m, rfl⟩ := Nat.exists_eq_succ_of_ne_zero (by omega : m ≠ 0)
    obtain ⟨n, rfl⟩ := Nat.exists_eq_succ_of_ne_zero (by omega : n ≠ 0)
    have hxs : xs ≠ [] := List.ne_nil_of_length_pos (by omega)
    rw [chunks32_succ n (by simp [hxs]), chunks32_succ m hxs, List.take_append_of_le_length (by omega),
      List.drop_append_of_le_length (by omega), ih (m := m) (n := n) (by rw [List.length_drop]; omega) (by omega) (by omega),
      List.cons_append]

/-- R52: the values of the chunks of a list. -/
def chunkValues (xs : List α) : List α := (chunks32 xs.length xs).filterMap (chunkTree f)

theorem reduceTree_of_values {xs : List α} {c : α} {cs : List α} (h : chunkValues f xs = c :: cs) :
    reduceTree f xs = some (cs.foldl f c) := by
  rw [chunkValues] at h
  rw [reduceTree, h]

theorem chunkTree_some {ys : List α} (h0 : 0 < ys.length) (h1 : ys.length ≤ 32) : ∃ r, chunkTree f ys = some r := by
  obtain ⟨r, hr⟩ := levels_single f 5 ys (List.ne_nil_of_length_pos h0) h1
  exact ⟨r, chunkTree_eq f le_rfl hr⟩

theorem reduceTree_chunk {ys : List α} (h0 : 0 < ys.length) (h1 : ys.length ≤ 32) : reduceTree f ys = chunkTree f ys := by
  obtain ⟨r, hr⟩ := chunkTree_some f h0 h1
  rw [hr]
  have hv : chunkValues f ys = [r] := by
    rw [chunkValues, chunks32_single h0 h1 h0]
    simp [hr]
  exact reduceTree_of_values f hv

/-- R52: a list of whole chunks, joined by one further chunk. -/
theorem reduceTree_append {xs ys : List α} (hx : xs ≠ []) (hm : xs.length % 32 = 0) (h0 : 0 < ys.length) (h1 : ys.length ≤ 32) :
    ∃ l r, reduceTree f xs = some l ∧ chunkTree f ys = some r ∧ reduceTree f (xs ++ ys) = some (f l r) := by
  have hpos := List.length_pos_of_ne_nil hx
  obtain ⟨r, hr⟩ := chunkTree_some f h0 h1
  have hlen : (xs.take 32).length = 32 := by rw [List.length_take]; omega
  obtain ⟨c, hc⟩ := chunkTree_some f (ys := xs.take 32) (by omega) (by omega)
  have hfirst : chunkValues f xs = c :: (chunks32 (xs.length - 1) (xs.drop 32)).filterMap (chunkTree f) := by
    rw [chunkValues]
    conv_lhs => rw [show xs.length = (xs.length - 1) + 1 by omega, chunks32_succ _ hx]
    rw [List.filterMap_cons, hc]
  have hall : chunkValues f (xs ++ ys) = chunkValues f xs ++ [r] := by
    rw [chunkValues, chunks32_append h0 h1 (xs.length / 32) (by omega) (m := xs.length) (by omega)
      (by rw [List.length_append]; omega), List.filterMap_append, chunkValues]
    simp [hr]
  refine ⟨_, r, reduceTree_of_values f hfirst, hr, ?_⟩
  rw [hfirst, List.cons_append] at hall
  rw [reduceTree_of_values f hall, List.foldl_append, List.foldl_cons, List.foldl_nil]

/-- What holds of single elements and passes to joined runs holds of a chunk's value. -/
theorem chunkTree_induct {P : List α → α → Prop} (h1 : ∀ x, P [x] x)
    (h2 : ∀ xs ys a b, P xs a → P ys b → P (xs ++ ys) (f a b)) (n : Nat) : ∀ {xs : List α}, xs.length = n → xs ≠ [] → xs.length ≤ 32 → ∀ {r : α}, chunkTree f xs = some r → P xs r := by
  induction n using Nat.strong_induction_on with
  | _ n ih =>
    intro xs hn hne hlen r hr
    have hpos := List.length_pos_of_ne_nil hne
    by_cases hone : xs.length = 1
    · obtain ⟨x, rfl⟩ := List.length_eq_one_iff.1 hone
      exact Option.some.inj hr ▸ h1 x
    · set k := Nat.log2 (xs.length - 1) with hk
      have hlo : 2 ^ k ≤ xs.length - 1 := Nat.log2_self_le (by omega)
      have hhi : xs.length - 1 < 2 ^ (k + 1) := Nat.lt_log2_self
      have hk5 : k < 5 := by
        by_contra h
        have : 2 ^ 5 ≤ 2 ^ k := Nat.pow_le_pow_right two_pos (by omega)
        omega
      have h0 := Nat.two_pow_pos k
      obtain ⟨a, b, ha, hb, hab⟩ := chunkTree_split f hk5 (xs := xs) (by omega) (by omega)
      obtain rfl : f a b = r := Option.some.inj (hab.symm.trans hr)
      have htake : (xs.take (2 ^ k)).length = 2 ^ k := by rw [List.length_take]; omega
      have hdrop : (xs.drop (2 ^ k)).length = xs.length - 2 ^ k := List.length_drop
      conv => arg 1; rw [← List.take_append_drop (2 ^ k) xs]
      exact h2 _ _ _ _ (ih _ (by omega) htake (List.ne_nil_of_length_pos (by omega)) (by omega) ha)
        (ih _ (by omega) hdrop (List.ne_nil_of_length_pos (by omega)) (by omega) hb)

/-- What holds of single elements and passes to joined runs holds of a reduction. -/
theorem reduceTree_induct {P : List α → α → Prop} (h1 : ∀ x, P [x] x)
    (h2 : ∀ xs ys a b, P xs a → P ys b → P (xs ++ ys) (f a b)) (n : Nat) : ∀ {xs : List α}, xs.length = n → xs ≠ [] → ∃ r, reduceTree f xs = some r ∧ P xs r := by
  induction n using Nat.strong_induction_on with
  | _ n ih =>
    intro xs hn hne
    have hpos := List.length_pos_of_ne_nil hne
    by_cases hlen : xs.length ≤ 32
    · obtain ⟨r, hr⟩ := chunkTree_some f hpos hlen
      exact ⟨r, by rw [reduceTree_chunk f hpos hlen, hr], chunkTree_induct f h1 h2 _ rfl hne hlen hr⟩
    · set q := 32 * ((xs.length - 1) / 32) with hq
      have htake : (xs.take q).length = q := by rw [List.length_take]; omega
      have hdrop : (xs.drop q).length = xs.length - q := List.length_drop
      have htne : xs.take q ≠ [] := List.ne_nil_of_length_pos (by omega)
      obtain ⟨a, b, ha, hb, hab⟩ := reduceTree_append f (ys := xs.drop q) htne (by omega) (by omega) (by omega)
      obtain ⟨a', ha', hPa⟩ := ih _ (by omega) htake htne
      obtain rfl : a' = a := Option.some.inj (ha'.symm.trans ha)
      have hPb := chunkTree_induct f h1 h2 _ rfl (List.ne_nil_of_length_pos (by omega)) (by omega) hb
      rw [List.take_append_drop] at hab
      refine ⟨_, hab, ?_⟩
      conv => arg 1; rw [← List.take_append_drop q xs]
      exact h2 _ _ _ _ hPa hPb

end

/-! ### Members joined (R182) -/

section
variable {t : ETy} {x y : RowVal} (w : Bool)

theorem rowExtremes_nanLeft (hx : elemNaN t x.code = true) :
    rowMinMax w t x y = { x with fl := x.fl ||| y.fl } ∧ rowArgMax t x y = { x with fl := x.fl ||| y.fl } := by
  simp [rowMinMax, rowArgMax, hx]

theorem rowExtremes_nanRight (hx : elemNaN t x.code = false) (hy : elemNaN t y.code = true) :
    rowMinMax w t x y = { y with fl := x.fl ||| y.fl } ∧ rowArgMax t x y = { y with fl := x.fl ||| y.fl } := by
  simp [rowMinMax, rowArgMax, hx, hy]

theorem rowExtremes_numbers (hx : elemNaN t x.code = false) (hy : elemNaN t y.code = false) :
    rowMinMax true t x y = { (if elemLt t x.code y.code then y else x) with fl := x.fl ||| y.fl } ∧
      rowMinMax false t x y = { (if elemLt t y.code x.code then y else x) with fl := x.fl ||| y.fl } ∧
      rowArgMax t x y = { (if elemLt t x.code y.code then y else x) with fl := x.fl ||| y.fl } := by
  simp only [rowMinMax, rowArgMax, hx, hy, Bool.false_eq_true, if_false, if_true]
  refine ⟨?_, ?_, ?_⟩ <;> split_ifs <;> rfl

end

/-! ### Integer rows (R182) -/

/-- The first of the greatest members of a row. -/
def FirstGreatest (key : RowVal → Int) (xs : List RowVal) (r : RowVal) : Prop :=
  ∃ l l', xs = l ++ r :: l' ∧ (∀ x ∈ l, key x < key r) ∧ ∀ x ∈ l', key x ≤ key r

theorem FirstGreatest.le {key : RowVal → Int} {xs : List RowVal} {r x : RowVal} (h : FirstGreatest key xs r) (hx : x ∈ xs) :
    key x ≤ key r := by
  obtain ⟨l, l', rfl, hl, hl'⟩ := h
  rcases List.mem_append.1 hx with hx | hx
  · exact (hl x hx).le
  · rcases List.mem_cons.1 hx with rfl | hx
    · exact le_rfl
    · exact hl' x hx

theorem FirstGreatest.append {key : RowVal → Int} {xs ys : List RowVal} {a b : RowVal} (ha : FirstGreatest key xs a)
    (hb : FirstGreatest key ys b) : FirstGreatest key (xs ++ ys) (if key a < key b then b else a) := by
  split_ifs with h
  · obtain ⟨l, l', rfl, hl, hl'⟩ := hb
    refine ⟨xs ++ l, l', by simp, fun x hx => ?_, hl'⟩
    rcases List.mem_append.1 hx with hx | hx
    · exact (ha.le hx).trans_lt h
    · exact hl x hx
  · have hy := fun x (hx : x ∈ ys) => (hb.le hx).trans (not_lt.1 h)
    obtain ⟨l, l', rfl, hl, hl'⟩ := ha
    refine ⟨l, l' ++ ys, by simp, hl, fun x hx => ?_⟩
    rcases List.mem_append.1 hx with hx | hx
    · exact hl' x hx
    · exact hy x hx

/-- R182: a reduction that keeps the right member only where it is greater finds the first of the greatest. -/
theorem reduceTree_firstGreatest {f : RowVal → RowVal → RowVal} {key : RowVal → Int}
    (hf : ∀ x y, x.fl = 0#5 → y.fl = 0#5 → f x y = if key x < key y then y else x) {xs : List RowVal} (hne : xs ≠ [])
    (hfl : ∀ x ∈ xs, x.fl = 0#5) : ∃ r, reduceTree f xs = some r ∧ FirstGreatest key xs r := by
  obtain ⟨r, hr, hP⟩ := reduceTree_induct f (P := fun xs r => (∀ x ∈ xs, x.fl = 0#5) → r ∈ xs ∧ FirstGreatest key xs r)
    (fun x _ => ⟨List.mem_singleton_self x, [], [], rfl, by simp, by simp⟩)
    (fun xs ys a b ha hb h => by
      obtain ⟨hma, ha⟩ := ha fun x hx => h x (List.mem_append_left _ hx)
      obtain ⟨hmb, hb⟩ := hb fun x hx => h x (List.mem_append_right _ hx)
      rw [hf a b (h a (List.mem_append_left _ hma)) (h b (List.mem_append_right _ hmb))]
      refine ⟨?_, ha.append hb⟩
      split_ifs
      · exact List.mem_append_right _ hmb
      · exact List.mem_append_left _ hma) _ rfl hne
  exact ⟨r, hr, (hP hfl).2⟩

/-- R182: the greatest element of an integer row, and the lowest index that holds it. -/
theorem reduceRow_int_greatest (sg : Bool) (w : Nat) {row : List Nat} (hne : row ≠ []) :
    ∃ i c, reduceRow .vrargmax (.int sg w) row = (i, 0#5) ∧ reduceRow .vrmax (.int sg w) row = (c, 0#5) ∧ row[i]? = some c ∧
      (∀ d ∈ row, intOf sg w d ≤ intOf sg w c) ∧ ∀ j d, row[j]? = some d → j < i → intOf sg w d < intOf sg w c := by
  set key : RowVal → Int := fun r => intOf sg w r.code with hkey
  set xs := row.mapIdx (rowStart (.int sg w)) with hxs
  have hget : ∀ (j : Nat) (x : RowVal), xs[j]? = some x ↔ ∃ c, row[j]? = some c ∧ x = ⟨c, j, 0#5⟩ := by
    intro j x
    rw [hxs, List.getElem?_mapIdx, Option.map_eq_some_iff]
    exact ⟨fun ⟨c, hc, h⟩ => ⟨c, hc, h.symm⟩, fun ⟨c, hc, h⟩ => ⟨c, hc, h.symm⟩⟩
  have hfl : ∀ x ∈ xs, x.fl = 0#5 := by
    intro x hx
    obtain ⟨j, hj⟩ := List.mem_iff_getElem?.1 hx
    obtain ⟨c, -, rfl⟩ := (hget j x).1 hj
    rfl
  have hxne : xs ≠ [] := by simpa [hxs] using hne
  have hjoin : ∀ x y : RowVal, x.fl = 0#5 → y.fl = 0#5 →
      ({ (if elemLt (.int sg w) x.code y.code then y else x) with fl := x.fl ||| y.fl } : RowVal) = if key x < key y then y else x := by
    rintro ⟨cx, ix, fx⟩ ⟨cy, iy, fy⟩ rfl rfl
    simp only [elemLt, hkey, decide_eq_true_eq]
    split_ifs <;> rfl
  obtain ⟨r, hr, hg⟩ := reduceTree_firstGreatest (f := rowArgMax (.int sg w)) (key := key)
    (fun x y hx hy => ((rowExtremes_numbers rfl rfl).2.2).trans (hjoin x y hx hy)) hxne hfl
  have hsame : rowMinMax true (.int sg w) = rowArgMax (.int sg w) := by
    funext x y
    exact ((rowExtremes_numbers rfl rfl).1).trans (rowExtremes_numbers rfl rfl).2.2.symm
  obtain ⟨l, l', hsplit, hlt, hle⟩ := hg
  have hat : ∀ x ∈ xs, key x ≤ key r := fun x => FirstGreatest.le ⟨l, l', hsplit, hlt, hle⟩
  obtain ⟨c, hc, rfl⟩ := (hget l.length r).1 (by rw [hsplit]; simp)
  refine ⟨l.length, c, ?_, ?_, hc, fun d hd => ?_, fun j d hj hlt' => ?_⟩
  · simp only [reduceRow, ← hxs, hr]
  · simp only [reduceRow, ← hxs, decide_true, hsame, hr]
  · obtain ⟨j, hj⟩ := List.mem_iff_getElem?.1 hd
    exact hat ⟨d, j, 0#5⟩ (List.mem_of_getElem? ((hget j _).2 ⟨d, hj, rfl⟩))
  · have hx := (hget j _).2 ⟨d, hj, rfl⟩
    rw [hsplit, List.getElem?_append_left hlt'] at hx
    exact hlt _ (List.mem_of_getElem? hx)

/-- R181: the sum of an integer row, saturated once. -/
theorem reduceRow_int_sum (sg : Bool) (w : Nat) (row : List Nat) {v : Int} (hv : v = (row.map (intOf sg w)).sum) :
    reduceRow .vrsum (.int sg w) row =
      (((max (-(2 ^ 31)) (min (2 ^ 31 - 1) v)) % 2 ^ 32).toNat, if v < -(2 ^ 31) ∨ 2 ^ 31 - 1 < v then flSaturation else 0#5) := by
  have hc := clampInt_eq (intMin_le_intMax true 32) v
  simp only [reduceRow, ← hv, hc, flIf, decide_eq_true_eq]
  rfl

/-- R181: a row's result is the value of its tree, zero for a row of no element. -/
theorem rowResult_eq (o : Option RowVal) (g : RowVal → Nat × FlagSet) :
    (match o with | some r => g r | none => (0, 0#5)) = (o.map g).getD (0, 0#5) := by
  cases o <;> rfl

end Sys2Proof.Machine
end


section
/-! PROOF. Gathers and scatters (R186), and the searches of the hypervector unit (R249). -/
namespace Sys2Proof.Machine

/-! ### Gathers and scatters (R186) -/

theorem tableIndex_eq_some {x table : Shape} {sg : Bool} (hx : x.ty = .int sg 32) (c t : Nat) :
    tableIndex x table c = some t ↔ intOf sg 32 c = (t : Int) ∧ t < table.count := by
  simp only [tableIndex, hx]
  split_ifs with h
  · rw [Option.some.injEq]
    omega
  · simp only [false_iff]
    omega

theorem deliver_apply (k : Nat) (x : Shape) (j v : Nat) (e : VEntry) (s : State) (locs : List (Nat × Nat)) :
    deliver k x j v (.mem locs) e s = .ok e (s.writeElem k x j locs v) ∧
      deliver k x j v .chan e s = .ok { e with pushD := packBits e.pushD (j * x.ty.bits) x.ty.bits v } s := ⟨rfl, rfl⟩

section
variable {k j c : Nat} {e : VEntry} {s s1 : State} (hc : readElem k e.shA e.popA j s = .ok c s1)
include hc

theorem unitGather_outside (h : tableIndex e.shA e.shB c = none) {w : Dest} {s2 : State} (hw : destOf k e.shD j s1 = .ok w s2) :
    unitGather k e j s = deliver k e.shD j 0 w { e with fl := e.fl ||| flInvalid } s2 := by
  simp only [unitGather, U.bind_apply, hc, h, hw, VEntry.orFl]

theorem unitGather_inside {t v : Nat} {w : Dest} {s2 s3 : State} (h : tableIndex e.shA e.shB c = some t)
    (hv : readElem k e.shB e.popB t s1 = .ok v s2) (hw : destOf k e.shD j s2 = .ok w s3) :
    unitGather k e j s = deliver k e.shD j (copyBits e.sd.ty v).1 w { e with fl := e.fl ||| (copyBits e.sd.ty v).2 } s3 := by
  simp only [unitGather, U.bind_apply, hc, h, hv, hw, VEntry.orFl]

theorem unitScatter_outside (h : tableIndex e.shA e.shD c = none) :
    unitScatter k e j s = .ok { e with fl := e.fl ||| flInvalid } s1 := by
  simp only [unitScatter, U.bind_apply, hc, h, VEntry.orFl, U.pure_apply]

theorem unitScatter_inside {t v : Nat} {w : Dest} {s2 s3 : State} (h : tableIndex e.shA e.shD c = some t)
    (hv : readElem k e.shB e.popB j s1 = .ok v s2) (hop : e.op ≠ .vscatAdd) (hw : destOf k e.shD t s2 = .ok w s3) :
    unitScatter k e j s = deliver k e.shD t (copyBits e.sd.ty v).1 w { e with fl := e.fl ||| (copyBits e.sd.ty v).2 } s3 := by
  simp only [unitScatter, U.bind_apply, hc, h, hv, if_neg hop, hw, VEntry.orFl]

theorem unitScatter_adds {t v old : Nat} {w : Dest} {s2 s3 s4 : State} {r : Nat × FlagSet} (h : tableIndex e.shA e.shD c = some t)
    (hv : readElem k e.shB e.popB j s1 = .ok v s2) (hop : e.op = .vscatAdd) (ho : readElem k e.shD [] t s2 = .ok old s3)
    (hw : destOf k e.shD t s3 = .ok w s4) (hr : r = arith .vadd e.sd.ty e.k e.mode' (e.draw j) old v 0) :
    unitScatter k e j s = deliver k e.shD t r.1 w { e with fl := e.fl ||| r.2 } s4 := by
  simp only [unitScatter, U.bind_apply, hc, h, hv, if_pos hop, ho, hw, VEntry.orFl, hr]

end

/-! ### The nearest vectors (R249) -/

/-- R249: the order of found vectors: by distance, the lower index first among equals. -/
def Nearer (p q : Nat × Nat) : Prop := p.2 < q.2 ∨ (p.2 = q.2 ∧ p.1 < q.1)

theorem Nearer.trans {p q r : Nat × Nat} (h : Nearer p q) (h' : Nearer q r) : Nearer p r := by
  unfold Nearer at *
  omega

theorem insertNearest_perm (j d : Nat) (l : List (Nat × Nat)) : (insertNearest j d l).Perm ((j, d) :: l) := by
  induction l with
  | nil => exact List.Perm.refl _
  | cons p r ih =>
    rw [insertNearest]
    split_ifs
    · exact List.Perm.refl _
    · exact (ih.cons p).trans (List.Perm.swap _ _ _)

theorem insertNearest_sorted {j d : Nat} {l : List (Nat × Nat)} (hj : ∀ p ∈ l, p.1 < j) (hl : l.Pairwise Nearer) :
    (insertNearest j d l).Pairwise Nearer := by
  induction l with
  | nil => exact List.pairwise_singleton _ _
  | cons p r ih =>
    obtain ⟨hp, hr⟩ := List.pairwise_cons.1 hl
    rw [insertNearest]
    split_ifs with h
    · have hjp : Nearer (j, d) p := Or.inl h
      refine List.pairwise_cons.2 ⟨fun q hq => ?_, hl⟩
      rcases List.mem_cons.1 hq with rfl | hq
      · exact hjp
      · exact hjp.trans (hp q hq)
    · refine List.pairwise_cons.2 ⟨fun q hq => ?_, ih (fun q hq => hj q (List.mem_cons_of_mem _ hq)) hr⟩
      rcases List.mem_cons.1 ((insertNearest_perm j d r).mem_iff.1 hq) with rfl | hq
      · exact (Nat.lt_or_eq_of_le (not_lt.1 h)).imp id fun he => ⟨he, hj p (List.mem_cons_self ..)⟩
      · exact hp q hq

/-- R249: the `m` nearest of the vectors 0 to `n − 1` at distances `d`, nearest first. -/
structure NearestOf (d : Nat → Nat) (n m : Nat) (r : List (Nat × Nat)) : Prop where
  length : r.length = min n m
  member : ∀ p ∈ r, p.1 < n ∧ p.2 = d p.1
  sorted : r.Pairwise Nearer
  left : ∀ i, i < n → (i, d i) ∉ r → r.length = m ∧ ∀ p ∈ r, Nearer p (i, d i)

theorem NearestOf.nil (d : Nat → Nat) (m : Nat) : NearestOf d 0 m [] :=
  ⟨(Nat.zero_min m).symm, by simp, List.Pairwise.nil, fun i hi => absurd hi (Nat.not_lt_zero i)⟩

/-- One more vector. -/
theorem NearestOf.insert {d : Nat → Nat} {n m : Nat} {r : List (Nat × Nat)} (h : NearestOf d n m r) :
    NearestOf d (n + 1) m ((insertNearest n (d n) r).take m) := by
  set l := insertNearest n (d n) r with hl
  have hperm : l.Perm ((n, d n) :: r) := insertNearest_perm n (d n) r
  have hlen : l.length = r.length + 1 := hperm.length_eq
  have hsorted : l.Pairwise Nearer := insertNearest_sorted (fun p hp => (h.member p hp).1) h.sorted
  have hcut : ∀ p ∈ l.take m, ∀ q ∈ l.drop m, Nearer p q :=
    (List.pairwise_append.1 ((List.take_append_drop m l).symm ▸ hsorted)).2.2
  have hmem : ∀ q, q ∈ l → q ∈ l.take m ∨ q ∈ l.drop m := fun q hq =>
    List.mem_append.1 ((List.take_append_drop m l).symm ▸ hq)
  refine ⟨?_, fun p hp => ?_, hsorted.sublist (List.take_sublist m l), fun i hi hnot => ?_⟩
  · rw [List.length_take, hlen, h.length]
    omega
  · rcases List.mem_cons.1 (hperm.mem_iff.1 (List.mem_of_mem_take hp)) with rfl | hp
    · exact ⟨Nat.lt_succ_self n, rfl⟩
    · exact ⟨Nat.lt_succ_of_lt (h.member p hp).1, (h.member p hp).2⟩
  · by_cases hin : (i, d i) ∈ l
    · have hd := (hmem _ hin).resolve_left hnot
      have hpos := List.length_pos_of_mem hd
      rw [List.length_drop] at hpos
      exact ⟨by rw [List.length_take]; omega, fun p hp => hcut p hp _ hd⟩
    · have hnr : (i, d i) ∉ r := fun hr => hin (hperm.mem_iff.2 (List.mem_cons_of_mem _ hr))
      have hne : i ≠ n := by
        rintro rfl
        exact hin (hperm.mem_iff.2 (List.mem_cons_self ..))
      obtain ⟨hm, hleft⟩ := h.left i (by omega) hnr
      obtain ⟨q, hq⟩ := List.exists_mem_of_length_pos (l := l.drop m) (by rw [List.length_drop]; omega)
      refine ⟨by rw [List.length_take]; omega, fun p hp => ?_⟩
      have hql := hperm.mem_iff.1 (List.mem_of_mem_drop hq)
      have hpl := hperm.mem_iff.1 (List.mem_of_mem_take hp)
      rcases List.mem_cons.1 hpl with rfl | hpr
      · rcases List.mem_cons.1 hql with rfl | hqr
        · exact absurd (hcut _ hp _ hq) (by simp [Nearer])
        · exact (hcut _ hp _ hq).trans (hleft q hqr)
      · exact hleft p hpr

theorem nearestOf_foldl (d : Nat → Nat) (m n : Nat) :
    NearestOf d n m ((List.range n).foldl (fun acc j => (insertNearest j (d j) acc).take m) []) := by
  induction n with
  | zero => exact NearestOf.nil d m
  | succ n ih =>
    rw [List.range_succ, List.foldl_append]
    exact ih.insert

/-! ### Searches, run (R249) -/

section
variable {k j v dist : Nat} {e : VEntry} {s s1 : State} {t : Strand} (ht : s.strand k e.slot = some t)
  (hv : readElem k e.shA [] j s = .ok v s1)
  (hd : dist = ((List.range 8192).filter (fun i => (BitVec.ofNat 8192 v).getLsbD i != (t.getH e.hb).getLsbD i)).length)
include ht hv hd

theorem unitSearch_nearest : (e.op = .hsrch → unitSearch k e j s = .ok { e with res := (insertNearest j dist e.res).take 1 } s1) ∧
    (e.op = .hsrchk → unitSearch k e j s = .ok { e with res := (insertNearest j dist e.res).take 4 } s1) := by
  rw [← hamming_eq] at hd
  constructor <;> intro hop <;> simp only [unitSearch, U.bind_apply, entryStrand_apply ht, hv, hop, U.pure_apply, hd]

/-- R249: the vectors within the threshold are numbered in their order, and stored while the destination has room. -/
theorem unitSearch_threshold (hop : e.op = .hsrcht) : (e.g.lo.toNat < dist → unitSearch k e j s = .ok e s1) ∧
    (dist ≤ e.g.lo.toNat → ∀ n, n = (e.res.headD (0, 0)).1 →
      (e.sd.count ≤ n → unitSearch k e j s = .ok { e with res := [(n + 1, 0)] } s1) ∧
      (∀ w s2 e3 s3, n < e.sd.count → destOf k e.shD n s1 = .ok w s2 → deliver k e.shD n j w e s2 = .ok e3 s3 →
        unitSearch k e j s = .ok { e with res := [(n + 1, 0)] } s3)) := by
  rw [← hamming_eq] at hd
  refine ⟨fun h => ?_, fun h n hn => ⟨fun hc => ?_, fun w s2 e3 s3 hc hw he => ?_⟩⟩
  · simp only [unitSearch, U.bind_apply, entryStrand_apply ht, hv, hop, ← hd, if_pos h, U.pure_apply]
  · simp only [unitSearch, U.bind_apply, entryStrand_apply ht, hv, hop, ← hd, if_neg (not_lt.2 h), ← hn, if_neg (not_lt.2 hc),
      U.pure_apply]
  · simp only [unitSearch, U.bind_apply, entryStrand_apply ht, hv, hop, ← hd, if_neg (not_lt.2 h), ← hn, if_pos hc, hw, he,
      U.pure_apply]

end

/-- R249: the registers that a search delivers. -/
theorem results_eq (e : VEntry) : e.results = match e.op with
    | .hsrch => [(e.gd, (e.res.headD (0, 0)).1), (e.gd + 1, (e.res.headD (0, 0)).2)]
    | .hsrchk => (List.range 4).map (fun i => (e.gd + i, searchWord e.res i))
    | _ => if 1 ≤ e.gd ∧ e.gd ≤ 55 then [(e.gd, (e.res.headD (0, 0)).1)] else [] := by
  have hone : (if 1 ≤ e.gd ∧ e.gd ≤ 55 then [e.gd] else []).map (fun r => (r, (e.res.headD (0, 0)).1)) =
      if 1 ≤ e.gd ∧ e.gd ≤ 55 then [(e.gd, (e.res.headD (0, 0)).1)] else [] := by
    split_ifs <;> rfl
  unfold VEntry.results VEntry.dests
  generalize e.op = op
  cases op with
  | hsrch => rfl
  | hsrchk => rfl
  | _ => exact hone

theorem searchWord_absent {res : List (Nat × Nat)} {i : Nat} (h : res.length ≤ i) : searchWord res i = 2 ^ 64 - 1 := by
  rw [searchWord, List.getElem?_eq_none h]

theorem searchWord_found {res : List (Nat × Nat)} {i : Nat} {p : Nat × Nat} (h : res[i]? = some p) (hp : p.1 < 2 ^ 32) :
    searchWord res i = p.1 + p.2 * 2 ^ 32 := by
  rw [searchWord, h]
  simp only
  rw [Nat.mod_eq_of_lt hp]

end Sys2Proof.Machine
end

section
/-! PROOF. Helpers of the special functions (R190): numbers that a format holds, Split and Scale. -/
namespace Sys2Proof.Machine

/-! ### Roundings to nearest that need no comparison (R38, R39) -/

section
variable {grid : Nat → ℝ} (hg : StrictMono grid) {draw : Nat} {neg : Bool} {v : ℝ} {c i : Nat}
  (h : RoundsTo grid .rne draw neg v c)
include hg h

/-- A member stays. -/
theorem roundsTo_member (hv : v = grid i) : c = i := by
  have hc : |v - grid c| ≤ |v - grid i| := by
    rcases h i with h | h | ⟨h, -⟩
    · exact h.le
    · rw [h]
    · exact h.le
  rw [hv, sub_self, abs_zero, abs_nonpos_iff, sub_eq_zero] at hc
  exact (hg.injective hc).symm

/-- A number at or above a member does not round below it. -/
theorem le_of_roundsTo (hv : grid i ≤ v) : i ≤ c := by
  by_contra hlt
  have hci : grid c < grid i := hg (not_le.1 hlt)
  have hlt' : |v - grid i| < |v - grid c| := by
    rw [abs_of_nonneg (by linarith), abs_of_nonneg (by linarith)]
    linarith
  rcases h i with h | h | ⟨h, -⟩
  · exact absurd h (not_lt.2 hlt'.le)
  · exact hlt h.le
  · exact absurd h hlt'.ne'

/-- A number below half of the second member rounds to the first one, where that is zero. -/
theorem eq_zero_of_roundsTo (h0 : grid 0 = 0) (hv0 : 0 < v) (hv : v < grid 1 / 2) : c = 0 := by
  by_contra hne
  have hc : grid 1 ≤ grid c := hg.monotone (Nat.one_le_iff_ne_zero.2 hne)
  have hlt : |v - grid 0| < |v - grid c| := by
    rw [h0, sub_zero, abs_of_pos hv0, abs_of_neg (by linarith)]
    linarith
  rcases h 0 with h | h | ⟨h, -⟩
  · exact absurd h (not_lt.2 hlt.le)
  · exact hne h.symm
  · exact absurd h hlt.ne'

end

section
variable {f : Fmt} {o : Bool} {draw : Nat} {neg : Bool} {m : Nat} {e : Int}

/-- A number that the format holds is given exactly. -/
theorem round_of_gridValue {c : Nat} (hc : c ≤ f.maxCode) (h : (m : ℚ) * 2 ^ e = gridValue f c) :
    f.round .rne o draw neg m e = (f.signed neg c, 0#5) := by
  have hv : (m : ℝ) * 2 ^ e = gridValue f c := (cast_scaled h.symm).symm
  obtain ⟨hzero, hpos⟩ := round_exact f .rne o draw neg m e
  rcases Nat.eq_zero_or_pos c with rfl | hc0
  · exact hzero (by rw [hv, gridValue_zero, Rat.cast_zero])
  · have h0 : (0 : ℝ) < gridValue f c := by
      rw [Rat.cast_pos, ← gridValue_zero f]
      exact gridValue_strictMono f hc0
    obtain ⟨c', hto, -, hin⟩ := hpos (hv ▸ h0)
    obtain rfl : c' = c := roundsTo_member (gridReal_strictMono f) hto hv
    obtain ⟨under, inx, hr, hx, hu⟩ := hin hc
    rw [hr, Bool.eq_false_iff.2 fun h => hx.1 h hv.symm, Bool.eq_false_iff.2 fun h => (hu.1 h).1 hv.symm]
    rfl

/-- A number past the largest one overflows. -/
theorem round_of_large (h : gridValue f (f.maxCode + 1) ≤ (m : ℚ) * 2 ^ e) :
    f.round .rne o draw neg m e = (f.overflowCode .rne o neg, flOverflow ||| flInexact) := by
  have hv : ((gridValue f (f.maxCode + 1) : ℚ) : ℝ) ≤ m * 2 ^ e := by
    rw [← cast_scaled rfl]
    exact_mod_cast h
  have h0 : (0 : ℝ) < gridValue f (f.maxCode + 1) := by
    rw [Rat.cast_pos, ← gridValue_zero f]
    exact gridValue_strictMono f (Nat.succ_pos _)
  obtain ⟨c, hto, hov, -⟩ := (round_exact f .rne o draw neg m e).2 (h0.trans_le hv)
  exact hov (le_of_roundsTo (gridReal_strictMono f) hto hv)

/-- A number below half of the least one becomes zero. -/
theorem round_of_tiny (hm : m ≠ 0) (h : (m : ℚ) * 2 ^ e < gridValue f 1 / 2) :
    f.round .rne o draw neg m e = (f.signed neg 0, flUnderflow ||| flInexact) := by
  have hv : (m : ℝ) * 2 ^ e < ((gridValue f 1 : ℚ) : ℝ) / 2 := by
    rw [← cast_scaled rfl]
    exact_mod_cast h
  have h0 : (0 : ℝ) < m * 2 ^ e := mul_pos (by exact_mod_cast Nat.pos_of_ne_zero hm) (by positivity)
  obtain ⟨c, hto, -, hin⟩ := (round_exact f .rne o draw neg m e).2 h0
  have hz : ((gridValue f 0 : ℚ) : ℝ) = 0 := by rw [gridValue_zero, Rat.cast_zero]
  obtain rfl := eq_zero_of_roundsTo (gridReal_strictMono f) hto hz h0 hv
  obtain ⟨under, inx, hr, hx, hu⟩ := hin (Nat.zero_le _)
  have hne : ((gridValue f 0 : ℚ) : ℝ) ≠ m * 2 ^ e := by rw [hz]; exact h0.ne
  have htiny : RoundsTiny f .rne draw neg (m * 2 ^ e) := by
    refine roundsTiny_of_le rfl rfl ?_
    have hone : ((gridValue f 1 : ℚ) : ℝ) = 2 ^ (1 - (f.bias : Int)) / 2 ^ f.mbits := by
      have h1 := gridValue_run f (k := 1) (j := 0) (Nat.one_le_two_pow.trans (Nat.le_mul_of_pos_left _ two_pos)) (Or.inr rfl)
      simp only [Nat.zero_mul, Nat.cast_zero, add_zero, Nat.cast_one, one_mul] at h1
      rw [h1, Fmt.qmin, zpow_sub₀ two_ne_zero, zpow_natCast]
      push_cast
      rfl
    have ha : (0 : ℝ) < 2 ^ (1 - (f.bias : Int)) := by positivity
    have hp : (2 : ℝ) ≤ 2 ^ f.mbits := by
      calc (2 : ℝ) = 2 ^ 1 := (pow_one _).symm
        _ ≤ 2 ^ f.mbits := pow_le_pow_right₀ one_le_two f.mbits_pos
    have hu : (2 : ℝ) ^ (1 - (f.bias : Int)) / 2 ^ (f.mbits + 1) = ((gridValue f 1 : ℚ) : ℝ) / 2 := by
      rw [hone, pow_succ, div_div]
    have hle : ((gridValue f 1 : ℚ) : ℝ) ≤ 2 ^ (1 - (f.bias : Int)) := by
      rw [hone]
      exact div_le_self ha.le (by linarith)
    rw [hu]
    linarith
  rw [hr, hx.2 hne, hu.2 ⟨hne, htiny⟩]
  rfl

end

/-- A number of few enough bits at an exponent in range is a member of the grid. -/
theorem exists_gridValue (f : Fmt) {N : Nat} {e : Int} (hN : N < 2 * 2 ^ f.mbits) (he : f.qmin ≤ e) :
    ∃ c, gridValue f c = (N : ℚ) * 2 ^ e := by
  by_cases h0 : N = 0
  · exact ⟨0, by rw [gridValue_zero, h0, Nat.cast_zero, zero_mul]⟩
  · have hlog : Nat.log2 N < f.mbits + 1 := (Nat.log2_lt h0).2 (by rw [pow_succ']; exact hN)
    set s := min (f.mbits - Nat.log2 N) (e - f.qmin).toNat with hs
    have hlo : 2 ^ Nat.log2 N ≤ N := Nat.log2_self_le h0
    have hhi : N < 2 ^ (Nat.log2 N + 1) := Nat.lt_log2_self
    refine ⟨N * 2 ^ s + (e - f.qmin - s).toNat * 2 ^ f.mbits, ?_⟩
    rw [gridValue_run]
    · rw [show f.qmin + ((e - f.qmin - s).toNat : Int) = e - s by omega, zpow_sub₀ two_ne_zero, zpow_natCast]
      push_cast
      field_simp
    · calc N * 2 ^ s ≤ 2 ^ (Nat.log2 N + 1) * 2 ^ s := Nat.mul_le_mul_right _ hhi.le
        _ = 2 ^ (Nat.log2 N + 1 + s) := (pow_add _ _ _).symm
        _ ≤ 2 ^ (f.mbits + 1) := Nat.pow_le_pow_right two_pos (by omega)
        _ = 2 * 2 ^ f.mbits := pow_succ' _ _
    · by_cases hse : (e - f.qmin - s).toNat = 0
      · exact Or.inr hse
      · refine Or.inl ?_
        calc 2 ^ f.mbits = 2 ^ (Nat.log2 N + s) := by congr 1; omega
          _ = 2 ^ Nat.log2 N * 2 ^ s := pow_add _ _ _
          _ ≤ N * 2 ^ s := Nat.mul_le_mul_right _ hlo

/-! ### The grid of FP32 (R31) -/

theorem f32_maxCode : Fmt.maxCode .f32 = 0x7F7FFFFF := by decide

theorem gridValue_f32_run {k j : Nat} (hk : k ≤ 2 ^ 24) (hj : 2 ^ 23 ≤ k ∨ j = 0) :
    gridValue .f32 (k + j * 2 ^ 23) = (k : ℚ) * 2 ^ ((j : Int) - 149) := by
  have hb : Fmt.mbits .f32 = 23 := rfl
  have hq : Fmt.qmin .f32 = -149 := rfl
  have h := gridValue_run .f32 (k := k) (j := j) (by rw [hb]; omega) (by rwa [hb])
  rwa [hb, hq, neg_add_eq_sub] at h

/-! ### Split (R190) -/

/-- R190: the mantissa in [1, 2) as a code, the exponent, and the six bits below the leading one. -/
theorem split_eq {m : Nat} (e : Int) (h0 : m ≠ 0) (hm : m < 2 ^ 24) :
    ∃ x k, split m e = (x, k) ∧ gridValue .f32 x * 2 ^ k = (m : ℚ) * 2 ^ e ∧ 0x3F800000 ≤ x ∧ x < 0x40000000 ∧
      (topSix x : ℚ) ≤ (gridValue .f32 x - 1) * 64 ∧ (gridValue .f32 x - 1) * 64 < topSix x + 1 := by
  set l := Nat.log2 m with hl
  have hl24 : l < 24 := (Nat.log2_lt h0).2 hm
  have hlo : 2 ^ l ≤ m := Nat.log2_self_le h0
  have hhi : m < 2 ^ (l + 1) := Nat.lt_log2_self
  obtain ⟨M, hM⟩ : ∃ M, M = m * 2 ^ (23 - l) := ⟨_, rfl⟩
  have hMlo : 2 ^ 23 ≤ M := by
    calc 2 ^ 23 = 2 ^ l * 2 ^ (23 - l) := by rw [← pow_add]; congr 1; omega
      _ ≤ M := hM ▸ Nat.mul_le_mul_right _ hlo
  have hMhi : M < 2 ^ 24 := by
    calc M < 2 ^ (l + 1) * 2 ^ (23 - l) := hM ▸ Nat.mul_lt_mul_of_pos_right hhi (Nat.two_pow_pos _)
      _ = 2 ^ 24 := by rw [← pow_add]; congr 1; omega
  obtain ⟨x, hx⟩ : ∃ x, x = M + 126 * 2 ^ 23 := ⟨_, rfl⟩
  have hgrid : gridValue .f32 x = (M : ℚ) * 2 ^ (-23 : Int) := by
    rw [hx, gridValue_f32_run hMhi.le (Or.inl hMlo)]
    norm_num
  have hvalue : (m : ℚ) * 2 ^ (-(l : Int)) = gridValue .f32 x := by
    rw [hgrid, hM, Nat.cast_mul, Nat.cast_pow, Nat.cast_ofNat, mul_assoc, ← zpow_natCast, ← zpow_add₀ two_ne_zero]
    congr 2
    omega
  have hround := round_of_gridValue (o := false) (draw := 0) (neg := false) (by rw [f32_maxCode]; omega : x ≤ Fmt.maxCode .f32) hvalue
  refine ⟨x, e + l, ?_, ?_, by omega, by omega, ?_⟩
  · rw [split, ← hl, hround, Fmt.signed, if_neg Bool.false_ne_true]
  · rw [← hvalue, mul_assoc, ← zpow_add₀ two_ne_zero]
    congr 2
    ring
  · have htop : topSix x = (M - 2 ^ 23) / 2 ^ 17 := by
      rw [topSix]
      omega
    obtain ⟨r, rfl⟩ := Nat.exists_eq_add_of_le hMlo
    have hfrac : (gridValue .f32 x - 1) * 64 = (r : ℚ) / 2 ^ 17 := by
      rw [hgrid]
      push_cast
      norm_num
      ring
    have hd := Nat.div_add_mod r (2 ^ 17)
    have hmod := Nat.mod_lt r (show 0 < 2 ^ 17 by norm_num)
    rw [htop, hfrac, Nat.add_sub_cancel_left, le_div_iff₀ (by positivity), div_lt_iff₀ (by positivity)]
    exact ⟨by exact_mod_cast (by omega : r / 2 ^ 17 * 2 ^ 17 ≤ r), by exact_mod_cast (by omega : r < (r / 2 ^ 17 + 1) * 2 ^ 17)⟩

/-! ### Scale (R190) -/

/-- R190: beyond 2^±400 the exponent makes no difference. -/
theorem round_clamped (neg : Bool) {m v : Nat} {e : Int} (hv : v ≤ Fmt.maxCode .f32) (h : (m : ℚ) * 2 ^ e = gridValue .f32 v)
    (n : Int) : Fmt.f32.round .rne false 0 neg m (e + max (-400) (min 400 n)) = Fmt.f32.round .rne false 0 neg m (e + n) := by
  by_cases hm : m = 0
  · rw [Fmt.round, if_pos hm, Fmt.round, if_pos hm]
  · have hsplit : ∀ k : Int, (m : ℚ) * 2 ^ (e + k) = gridValue .f32 v * 2 ^ k := by
      intro k
      rw [zpow_add₀ two_ne_zero, ← mul_assoc, h]
    have hv0 : 0 < v := by
      rcases Nat.eq_zero_or_pos v with rfl | h0
      · rw [gridValue_zero, mul_eq_zero, or_iff_left (by positivity)] at h
        exact absurd (by exact_mod_cast h) hm
      · exact h0
    have hone : gridValue .f32 1 = (2 : ℚ) ^ (-149 : Int) := by
      simpa using gridValue_f32_run (k := 1) (j := 0) (by norm_num) (Or.inr rfl)
    have htop : gridValue .f32 (Fmt.maxCode .f32 + 1) = (2 : ℚ) ^ (128 : Int) := by
      rw [show Fmt.maxCode .f32 + 1 = 2 ^ 23 + 254 * 2 ^ 23 by rw [f32_maxCode]; norm_num,
        gridValue_f32_run (by norm_num) (Or.inl le_rfl)]
      norm_num
    have hlo : (2 : ℚ) ^ (-149 : Int) ≤ gridValue .f32 v := hone ▸ (gridValue_strictMono .f32).monotone hv0
    have hhi : gridValue .f32 v < (2 : ℚ) ^ (128 : Int) := htop ▸ gridValue_strictMono .f32 (Nat.lt_succ_of_le hv)
    have hlarge : ∀ k : Int, 400 ≤ k → Fmt.f32.round .rne false 0 neg m (e + k) =
        (Fmt.f32.overflowCode .rne false neg, flOverflow ||| flInexact) := by
      intro k hk
      refine round_of_large ?_
      rw [htop, hsplit]
      calc (2 : ℚ) ^ (128 : Int) ≤ 2 ^ (-149 : Int) * 2 ^ k := by
            rw [← zpow_add₀ two_ne_zero]
            exact zpow_le_zpow_right₀ one_le_two (by omega)
        _ ≤ gridValue .f32 v * 2 ^ k := mul_le_mul_of_nonneg_right hlo (by positivity)
    have hsmall : ∀ k : Int, k ≤ -400 → Fmt.f32.round .rne false 0 neg m (e + k) =
        (Fmt.f32.signed neg 0, flUnderflow ||| flInexact) := by
      intro k hk
      refine round_of_tiny hm ?_
      rw [hone, hsplit]
      calc gridValue .f32 v * 2 ^ k < (2 : ℚ) ^ (128 : Int) * 2 ^ k := mul_lt_mul_of_pos_right hhi (by positivity)
        _ ≤ 2 ^ (-150 : Int) := by
            rw [← zpow_add₀ two_ne_zero]
            exact zpow_le_zpow_right₀ one_le_two (by omega)
        _ = 2 ^ (-149 : Int) / 2 := by norm_num
    rcases lt_or_ge 400 n with hn | hn
    · rw [hlarge n hn.le, hlarge _ (by omega)]
    · rcases lt_or_ge n (-400) with hn' | hn'
      · rw [hsmall n hn'.le, hsmall _ (by omega)]
      · rw [show max (-400) (min 400 n) = n by omega]

/-- R190: Scale rounds the number times a power of two. -/
theorem scaleF32_rounds (neg s : Bool) {v : Nat} (n : Int) (hv : v ≤ Fmt.maxCode .f32) :
    Rounds .f32 .rne false 0 (s != neg) (gridValue .f32 v * 2 ^ n : ℚ) (scaleF32 neg (Fmt.f32.signed s v) n) := by
  obtain ⟨m, e, hd, hval⟩ := decode_signed .f32 s hv
  have hs : scaleF32 neg (Fmt.f32.signed s v) n = Fmt.f32.round .rne false 0 (s != neg) m (e + max (-400) (min 400 n)) := by
    rw [scaleF32, hd]
  have hscaled : gridValue .f32 v * 2 ^ n = (m : ℚ) * 2 ^ (e + n) := by
    rw [← hval, zpow_add₀ two_ne_zero, mul_assoc]
  rw [hs, round_clamped _ hv hval, cast_scaled hscaled]
  exact round_exact _ _ _ _ _ _ _

end Sys2Proof.Machine
end

section
/-! PROOF. The special functions step by step (R192), their flags (R193) and special operands (R33). -/
namespace Sys2Proof.Machine

/-! ### Steps (R193)

The runs below are closed by `(rfl)`, so that `simp` rewrites with them: taken as definitional, they would have the kernel evaluate
the arithmetic. -/

/-- R193: the flag of an intermediate step. -/
def stepFl (r : Nat × FlagSet) : FlagSet := r.2 &&& flInexact

/-- R193: the flag of a table entry. -/
def tabFl (j : Nat) : FlagSet := if j = 0 then 0#5 else flInexact

theorem tabAt_run (t : List Nat) (j : Nat) (f : FlagSet) : (tabAt t j).run f = (t.getD j 0, f ||| tabFl j) := by
  have h : flIf (decide (j ≠ 0)) flInexact = tabFl j := by
    rw [tabFl]
    by_cases hj : j = 0 <;> simp [hj, flIf]
  rw [← h]
  rfl

theorem mid_run (r : Nat × FlagSet) (f : FlagSet) : (mid r).run f = (r.1, f ||| stepFl r) := (rfl)

theorem last_run (r : Nat × FlagSet) (f : FlagSet) : (last r).run f = (r.1, f ||| r.2) := (rfl)

theorem bind_run {α β σ : Type} (x : StateM σ α) (g : α → StateM σ β) (f : σ) :
    (x >>= g).run f = (g (x.run f).1).run (x.run f).2 := (rfl)

/-- R192: the algorithms, run on an operand that is no NaN. -/
theorem specialF32_number {c : Nat} (h : (fv c).isNaN = false) :
    specialF32 .rcp c = (vrcpF32 (fv c)).run 0#5 ∧ specialF32 .rsqrt c = (vrsqrtF32 (fv c)).run 0#5 ∧
      specialF32 .exp2 c = (vexp2F32 (fv c)).run 0#5 ∧ specialF32 .log2 c = (vlog2F32 (fv c)).run 0#5 ∧
      specialF32 .tanh c = (vtanhF32 c (fv c), 0#5) ∧ specialF32 .sig c = (vsigF32 (fv c), 0#5) := by
  have h' : (Fmt.f32.decode c).isNaN = false := h
  refine ⟨?_, ?_, ?_, ?_, ?_, ?_⟩ <;> simp only [specialF32, h', Bool.false_eq_true, if_false, fv]

section
variable {c : Nat} {n : Bool} {m : Nat} {e : Int} {x : Nat} {k : Int} (hc : fv c = .fin n m e) (hm : m ≠ 0) (hs : split m e = (x, k))
include hc hm hs

/-- R192: the reciprocal. -/
theorem rcp_steps {j : Nat} {v w q r : Nat × FlagSet} (hj : j = topSix x) (hv : v = f32Fma x (tabRC.getD j 0) 0xBF800000)
    (hw : w = f32Add v.1 0xBF800000) (hq : q = f32Fma v.1 w.1 0x3F800000) (hr : r = f32Mul (tabRC.getD j 0) q.1) :
    specialF32 .rcp c = ((scaleF32 n r.1 (-k)).1,
      tabFl j ||| stepFl v ||| stepFl w ||| stepFl q ||| stepFl r ||| (scaleF32 n r.1 (-k)).2) := by
  rw [(specialF32_number (hc ▸ rfl)).1, hc]
  simp only [vrcpF32, if_neg hm, rcpFin, hs, bind_run, tabAt_run, mid_run, last_run, BitVec.zero_or, hr, hq, hw, hv, hj, c1,
    cNeg1]

/-- R192: the reciprocal root. -/
theorem rsqrt_steps (hn : n = false) {y : Nat} {h : Int} {j : Nat} {a v w q r : Nat × FlagSet}
    (hy : y = (if k % 2 = 0 then x else x + 2 ^ 23)) (hh : h = (if k % 2 = 0 then k else k - 1))
    (hj : j = (if k % 2 = 0 then 0 else 32) + x / 2 ^ 18 % 32) (ha : a = f32Mul y (tabQS.getD j 0))
    (hv : v = f32Fma a.1 (tabQS.getD j 0) 0xBF800000) (hw : w = f32Fma v.1 0x3EC00000 0xBF000000)
    (hq : q = f32Fma v.1 w.1 0x3F800000) (hr : r = f32Mul (tabQS.getD j 0) q.1) :
    specialF32 .rsqrt c = ((scaleF32 false r.1 (-(h / 2))).1,
      tabFl j ||| stepFl a ||| stepFl v ||| stepFl w ||| stepFl q ||| stepFl r ||| (scaleF32 false r.1 (-(h / 2))).2) := by
  rw [(specialF32_number (hc ▸ rfl)).2.1, hc]
  have hodd : ∀ {α : Type} (s t : α), (if decide (k % 2 ≠ 0) = true then s else t) = if k % 2 = 0 then t else s := by
    intro α s t
    by_cases h0 : k % 2 = 0 <;> simp [h0]
  simp only [vrsqrtF32, if_neg hm, hn, Bool.false_eq_true, if_false, hs, hodd, bind_run, tabAt_run, mid_run, last_run,
    BitVec.zero_or, hr, hq, hw, hv, ha, hj, hy, hh, c1, cNeg1, c0375, cNegHalf]

/-- R192: the logarithm; both of its table entries stand at one index. -/
theorem log2_steps (hn : n = false) {j : Nat} {v w1 w s : Nat × FlagSet} (hj : j = topSix x)
    (hv : v = f32Fma x (tabRC.getD j 0) 0xBF800000) (hw1 : w1 = f32Fma v.1 0xBF38AA3B 0x3FB8AA3B) (hw : w = f32Mul v.1 w1.1)
    (hsum : s = f32Add (tabLG.getD j 0) w.1) :
    specialF32 .log2 c = ((addVal .f32 .rne false 0 (intVal k) (fv s.1)).1,
      tabFl j ||| stepFl v ||| stepFl w1 ||| stepFl w ||| stepFl s ||| (addVal .f32 .rne false 0 (intVal k) (fv s.1)).2) := by
  have hrun : specialF32 .log2 c = ((addVal .f32 .rne false 0 (intVal k) (fv s.1)).1,
      tabFl j ||| stepFl v ||| stepFl w1 ||| stepFl w ||| tabFl j ||| stepFl s |||
        (addVal .f32 .rne false 0 (intVal k) (fv s.1)).2) := by
    rw [(specialF32_number (hc ▸ rfl)).2.2.2.1, hc]
    simp only [vlog2F32, if_neg hm, hn, Bool.false_eq_true, if_false, hs, bind_run, tabAt_run, mid_run, last_run,
      BitVec.zero_or, hsum, hw, hw1, hv, hj, cNeg1, cD1, cD2, fv]
  have htwice : tabFl j ||| stepFl v ||| stepFl w1 ||| stepFl w ||| tabFl j = tabFl j ||| stepFl v ||| stepFl w1 ||| stepFl w := by
    rw [BitVec.or_comm, ← BitVec.or_assoc, ← BitVec.or_assoc, ← BitVec.or_assoc, BitVec.or_self]
  rw [hrun, htwice]

end

/-! ### Powers of two (R192) -/

/-- R31: mantissa and exponent of a finite FP32 code. -/
theorem f32_fin_bounds {c : Nat} {n : Bool} {m : Nat} {e : Int} (hc : fv c = .fin n m e) :
    m < 2 ^ 24 ∧ -149 ≤ e ∧ ∃ g, g ≤ Fmt.maxCode .f32 ∧ gridValue .f32 g = (m : ℚ) * 2 ^ e := by
  have hf := decode_f32 c
  have hc' : Fmt.f32.decode c = .fin n m e := hc
  rw [hc'] at hf
  have hmant := Nat.mod_lt c (show 0 < 2 ^ 23 by norm_num)
  refine ⟨?_, ?_, ?_⟩
  · split_ifs at hf <;> cases hf <;> omega
  · split_ifs at hf <;> cases hf <;> omega
  · rcases Nat.lt_or_ge (Fmt.maxCode .f32) (Fmt.magOf .f32 c) with hlt | hle
    · rcases decode_special hlt with h | ⟨h, -⟩
      · rw [hc'] at h
        cases h
      · rw [hc'] at h
        cases h
    · obtain ⟨m', e', hd, hv⟩ := decode_finite hle
      rw [hc'] at hd
      cases hd
      exact ⟨_, hle, hv.symm⟩

theorem two_zpow_add_six (e : Int) : (2 : ℚ) ^ (e + 6) = 2 ^ e * 64 := by
  rw [zpow_add₀ two_ne_zero]
  norm_num

section
variable {c : Nat} {n : Bool} {m : Nat} {e : Int} {t : Nat} {z : Int}

/-- R192: the nearest 64th is no farther than zero. -/
theorem exp2_near (ht : RoundedUnits .rne 0 n ((m : ℝ) * 2 ^ (e + 6)) t) :
    |(m : ℚ) * 2 ^ (e + 6) - t| ≤ (m : ℚ) * 2 ^ (e + 6) := by
  have hr : |(m : ℝ) * 2 ^ (e + 6) - t| ≤ |(m : ℝ) * 2 ^ (e + 6) - (0 : Nat)| := by
    rcases roundsTo_of_units ht 0 with h | h | ⟨h, -⟩
    · exact h.le
    · subst h
      exact le_rfl
    · exact h.le
  rw [Nat.cast_zero, sub_zero, abs_of_nonneg (a := (m : ℝ) * 2 ^ (e + 6)) (by positivity)] at hr
  rw [← Rat.cast_le (K := ℝ)]
  push_cast
  exact hr

/-- R192: the distance to a 64th, in 64ths. -/
theorem exp2_distance (hz : z = if n then -(t : Int) else (t : Int)) :
    |finValue n m e - z / 64| = |(m : ℚ) * 2 ^ (e + 6) - t| / 64 := by
  have h64 : |(m : ℚ) * 2 ^ (e + 6) - t| / 64 = |(m : ℚ) * 2 ^ e - t / 64| := by
    rw [two_zpow_add_six, ← abs_of_pos (show (0 : ℚ) < 64 by norm_num), ← abs_div, abs_of_pos (show (0 : ℚ) < 64 by norm_num)]
    congr 1
    ring
  rw [h64, hz]
  cases n
  · simp [finValue]
  · simp only [finValue, if_true, Int.cast_neg, Int.cast_natCast]
    rw [← abs_neg]
    congr 1
    ring

variable (ht : RoundedUnits .rne 0 n ((m : ℝ) * 2 ^ (e + 6)) t) (hz : z = if n then -(t : Int) else (t : Int))
  (hc : fv c = .fin n m e)
include ht hz hc

/-- R192: what is left of the argument is a number that FP32 holds. -/
theorem exp2_rest {d : ℚ} (hd : d = finValue n m e - z / 64) : ∃ g, g ≤ Fmt.maxCode .f32 ∧ gridValue .f32 g = |d| := by
  obtain ⟨hm24, he, g0, hg0, hv0⟩ := f32_fin_bounds hc
  have habs : |d| = |(m : ℚ) * 2 ^ (e + 6) - t| / 64 := by rw [hd, exp2_distance hz]
  have hle : |d| ≤ gridValue .f32 g0 := by
    rw [habs, hv0, div_le_iff₀ (by norm_num), mul_assoc, ← two_zpow_add_six]
    exact exp2_near ht
  rcases le_or_gt (-6) e with h6 | h6
  · refine ⟨0, Nat.zero_le _, ?_⟩
    have hwhole : (m : ℝ) * 2 ^ (e + 6) = ((m * 2 ^ (e + 6).toNat : Nat) : ℝ) := by
      push_cast
      rw [zpow_toNat_two (by omega)]
    have htq : (t : ℚ) = m * 2 ^ (e + 6) := by
      rw [ht.eq_of_whole hwhole]
      push_cast
      rw [zpow_toNat_two (by omega)]
    rw [gridValue_zero, habs, htq, sub_self, abs_zero, zero_div]
  · obtain ⟨s, hs⟩ : ∃ s : Nat, e = -6 - s := ⟨(-6 - e).toNat, by omega⟩
    have hd' : |d| = (((m : Int) - t * 2 ^ s).natAbs : ℚ) * 2 ^ e := by
      have h1 : (m : ℚ) * 2 ^ (e + 6) - t = ((m : Int) - t * 2 ^ s : Int) * (2 ^ e * 64) := by
        rw [two_zpow_add_six]
        push_cast
        rw [sub_mul, hs, zpow_sub₀ two_ne_zero, zpow_natCast]
        norm_num
        field_simp
      rw [habs, h1, abs_mul, abs_of_pos (show (0 : ℚ) < 2 ^ e * 64 by positivity), Nat.cast_natAbs, Int.cast_abs]
      ring
    have hN : ((m : Int) - t * 2 ^ s).natAbs ≤ m := by
      rw [hd', hv0] at hle
      exact_mod_cast le_of_mul_le_mul_right hle (by positivity)
    obtain ⟨g, hg⟩ := exists_gridValue .f32 (N := ((m : Int) - t * 2 ^ s).natAbs) (e := e)
      (lt_of_le_of_lt hN (hm24.trans_eq (by norm_num [Fmt.mbits]))) (show -149 ≤ e from he)
    refine ⟨g, ?_, hg.trans hd'.symm⟩
    rw [hd', ← hg] at hle
    exact ((gridValue_strictMono .f32).le_iff_le.1 hle).trans hg0

/-- R192: the rest, rounded, is exact. -/
theorem exp2_rest_code {d : ℚ} (hd : d = finValue n m e - z / 64) : ∃ (b : Bool) (g : Nat),
    (Fmt.f32.round .rne false 0 (finAdd .rne n m e (decide (0 < z)) z.natAbs (-6)).1
      (finAdd .rne n m e (decide (0 < z)) z.natAbs (-6)).2.1 (finAdd .rne n m e (decide (0 < z)) z.natAbs (-6)).2.2).1 =
        Fmt.f32.signed b g ∧ g ≤ Fmt.maxCode .f32 ∧ (if b then -gridValue .f32 g else gridValue .f32 g) = d := by
  obtain ⟨g, hg, hgd⟩ := exp2_rest ht hz hc hd
  have hsum : d = finValue n m e + finValue (decide (0 < z)) z.natAbs (-6) := by
    have h64 : finValue (decide (0 < z)) z.natAbs (-6) = -(z / 64 : ℚ) := by
      rw [finValue]
      rcases lt_or_ge 0 z with h | h
      · have habs : ((z.natAbs : Nat) : ℚ) = z := by rw [Nat.cast_natAbs, abs_of_pos h]
        rw [habs, decide_eq_true h, if_pos rfl]
        norm_num
        ring
      · have habs : ((z.natAbs : Nat) : ℚ) = -z := by rw [Nat.cast_natAbs, abs_of_nonpos h, Int.cast_neg]
        rw [habs, decide_eq_false (not_lt.2 h), if_neg Bool.false_ne_true]
        norm_num
        ring
    rw [hd, h64, sub_eq_add_neg]
  obtain ⟨hne, heq⟩ := finAdd_exact .rne n m e (decide (0 < z)) z.natAbs (-6) hsum
  by_cases h0 : d = 0
  · rw [heq h0]
    have hr := round_of_gridValue (f := .f32) (o := false) (draw := 0)
      (neg := if n = decide (0 < z) then n else decide (RMode.rne = .rdn)) (m := 0) (e := min e (-6)) (Nat.zero_le (Fmt.maxCode .f32))
      (by rw [gridValue_zero, Nat.cast_zero, zero_mul])
    refine ⟨_, 0, by rw [hr], Nat.zero_le _, ?_⟩
    rw [gridValue_zero, h0]
    split_ifs <;> simp
  · obtain ⟨hsign, hmag⟩ := hne h0
    refine ⟨decide (d < 0), g, ?_, hg, ?_⟩
    · rw [round_of_gridValue hg (hmag.symm.trans hgd.symm), hsign]
    · rw [hgd]
      by_cases hneg : d < 0
      · simp [hneg, abs_of_neg hneg]
      · simp [hneg, abs_of_nonneg (not_lt.1 hneg)]

end

/-- R192: powers of two. -/
theorem exp2_steps {c : Nat} {n : Bool} {m : Nat} {e : Int} (hc : fv c = .fin n m e) :
    ∃ (z k : Int) (t : Nat) (f w q r : Nat × FlagSet), RoundsTo (fun i => (i : ℝ)) .rne 0 n ((m : ℝ) * 2 ^ (e + 6)) t ∧
      z = (if n then -(t : Int) else (t : Int)) ∧ k = z / 64 ∧
      (∃ d : ℚ, d = finValue n m e - z / 64 ∧ ∃ (b : Bool) (g : Nat), f.1 = Fmt.f32.signed b g ∧ g ≤ Fmt.maxCode .f32 ∧
        (if b then -gridValue .f32 g else gridValue .f32 g) = d) ∧
      w = f32Fma f.1 0x3E75FDF0 0x3F317218 ∧ q = f32Fma f.1 w.1 0x3F800000 ∧ r = f32Mul (tabEX.getD (z % 64).toNat 0) q.1 ∧
      specialF32 .exp2 c = ((scaleF32 false r.1 k).1, (w.2 &&& flInexact) ||| (q.2 &&& flInexact) |||
        (if z % 64 = 0 then 0#5 else flInexact) ||| (r.2 &&& flInexact) ||| (scaleF32 false r.1 k).2) := by
  have ht := (roundAt_exact .rne 0 n m (e + 6) 0).1
  rw [sub_zero] at ht
  obtain ⟨t, htt⟩ : ∃ t, t = (roundAt .rne 0 n m (e + 6) 0).1 := ⟨_, rfl⟩
  obtain ⟨z, hz⟩ : ∃ z : Int, z = if n then -(t : Int) else (t : Int) := ⟨_, rfl⟩
  rw [← htt] at ht
  have hround : (roundInt .rne 0 n m (e + 6)).1 = z := by
    rw [hz, htt]
    rfl
  have htab : tabFl (z % 64).toNat = if z % 64 = 0 then 0#5 else flInexact := by
    rw [tabFl]
    congr 1
    simp only [eq_iff_iff]
    omega
  refine ⟨z, z / 64, t, _, _, _, _, roundsTo_of_units ht, hz, rfl, ⟨_, rfl, exp2_rest_code ht hz hc rfl⟩, rfl, rfl, rfl, ?_⟩
  rw [(specialF32_number (hc ▸ rfl)).2.2.1, hc, ← htab]
  simp only [vexp2F32, hround, bind_run, tabAt_run, mid_run, last_run, BitVec.zero_or, c1, cK1, cK2, stepFl]

end Sys2Proof.Machine
end

section
/-! PROOF. Hyperbolic tangent and logistic function (R192), special operands of the special functions (R33, R192), narrow
formats (R190), and the tables (R191). -/
namespace Sys2Proof.Machine

/-! ### Tangent and logistic function (R192) -/

theorem quiet_nan (x : FVal) (h : x.isNaN = true) : quiet (vexp2F32 x) = Fmt.f32.nan ∧ quiet (vrcpF32 x) = Fmt.f32.nan := by
  obtain ⟨s, rfl⟩ := FVal.isNaN_iff.1 h
  exact ⟨rfl, rfl⟩

/-- The result of a function within another one is its result without flags, NaN operands included. -/
theorem specialF32_quiet (u : Nat) :
    (specialF32 .exp2 u).1 = quiet (vexp2F32 (fv u)) ∧ (specialF32 .rcp u).1 = quiet (vrcpF32 (fv u)) := by
  by_cases h : (fv u).isNaN = true
  · obtain ⟨h1, h2⟩ := quiet_nan _ h
    have h' : (Fmt.f32.decode u).isNaN = true := h
    rw [h1, h2]
    constructor <;> simp only [specialF32, h', if_true, nanOf]
  · obtain ⟨hrcp, -, hexp, -⟩ := specialF32_number (Bool.eq_false_iff.2 h)
    exact ⟨by rw [hexp]; rfl, by rw [hrcp]; rfl⟩

/-- R192: the tangent: itself near zero, one far from it, and a quotient of powers between. -/
theorem tanh_cases {c z : Nat} {x : FVal} (hx : x = fv c) (hn : x.isNaN = false)
    (hz : z = (specialF32 .exp2 (mulVal .f32 .rne 0 x.abs (fv 0xC038AA3B)).1).1) :
    (cmpVal x.abs (.fin false 1 (-12)) < 0 → specialF32 .tanh c = (c, 0#5)) ∧
      (0 ≤ cmpVal x.abs (.fin false 9 0) → specialF32 .tanh c = (if x.isNeg then 0xBF800000 else 0x3F800000, 0#5)) ∧
      (0 ≤ cmpVal x.abs (.fin false 1 (-12)) → cmpVal x.abs (.fin false 9 0) < 0 → specialF32 .tanh c =
        ((mulVal .f32 .rne 0 (if x.isNeg then (fv (f32Sub 0x3F800000 z).1).neg else fv (f32Sub 0x3F800000 z).1)
          (fv (specialF32 .rcp (f32Add 0x3F800000 z).1).1)).1, 0#5)) := by
  have hrun : specialF32 .tanh c = (vtanhF32 c x, 0#5) := by
    rw [hx] at hn ⊢
    exact (specialF32_number hn).2.2.2.2.1
  have hfar : 0 ≤ cmpVal x.abs (.fin false 9 0) → ¬ cmpVal x.abs (.fin false 1 (-12)) < 0 := by
    cases x with
    | nan q => cases hn
    | inf n => exact fun _ => by simp [FVal.abs, cmpVal_inf_fin]
    | fin n m e =>
      rw [FVal.abs, (cmpVal_fin false false m 1 e (-12)).1, ← not_lt, (cmpVal_fin false false m 9 e 0).1]
      intro h h'
      exact h (h'.trans (by norm_num [finValue]))
  rw [hrun]
  refine ⟨fun h => ?_, fun h => ?_, fun h h' => ?_⟩
  · rw [vtanhF32, if_pos h]
  · rw [vtanhF32, if_neg (hfar h), if_pos h]
    cases x.isNeg <;> rfl
  · rw [vtanhF32, if_neg (not_lt.2 h), if_neg (not_le.2 h'), hz, (specialF32_quiet _).1, (specialF32_quiet _).2]
    simp only [fv, c1, cNeg2D1]

theorem sig_eq {c z : Nat} {x : FVal} (hx : x = fv c) (hn : x.isNaN = false)
    (hz : z = (specialF32 .exp2 (mulVal .f32 .rne 0 x.neg (fv 0x3FB8AA3B)).1).1) :
    specialF32 .sig c = ((specialF32 .rcp (f32Add 0x3F800000 z).1).1, 0#5) := by
  have hrun : specialF32 .sig c = (vsigF32 x, 0#5) := by
    rw [hx] at hn ⊢
    exact (specialF32_number hn).2.2.2.2.2
  rw [hrun, vsigF32, hz, (specialF32_quiet _).1, (specialF32_quiet _).2]
  simp only [fv, c1, cD1]

/-! ### Special operands (R33, R192) -/

theorem specialF32_nan (fn : SpecialFn) {c : Nat} (h : (fv c).isNaN = true) :
    specialF32 fn c = (0x7FC00000, if (fv c).isSNaN = true then flInvalid else 0#5) := by
  have h' : (Fmt.f32.decode c).isNaN = true := h
  simp only [specialF32, h', if_true]
  rfl

theorem specialF32_inf {c : Nat} {n : Bool} (h : fv c = .inf n) :
    specialF32 .rcp c = (if n then 0x80000000 else 0, 0#5) ∧
      specialF32 .rsqrt c = (if n then (0x7FC00000, flInvalid) else (0, 0#5)) ∧
      specialF32 .exp2 c = (if n then 0 else 0x7F800000, 0#5) ∧
      specialF32 .log2 c = (if n then (0x7FC00000, flInvalid) else (0x7F800000, 0#5)) := by
  obtain ⟨hrcp, hrsqrt, hexp2, hlog2, -⟩ := specialF32_number (c := c) (h ▸ rfl)
  rw [hrcp, hrsqrt, hexp2, hlog2, h]
  cases n <;> exact ⟨rfl, rfl, rfl, rfl⟩

theorem specialF32_zero {c : Nat} {n : Bool} {e : Int} (h : fv c = .fin n 0 e) :
    specialF32 .rcp c = (if n then 0xFF800000 else 0x7F800000, 0#5) ∧
      specialF32 .rsqrt c = (if n then 0xFF800000 else 0x7F800000, 0#5) ∧ specialF32 .log2 c = (0xFF800000, 0#5) := by
  obtain ⟨hrcp, hrsqrt, -, hlog2, -⟩ := specialF32_number (c := c) (h ▸ rfl)
  rw [hrcp, hrsqrt, hlog2, h]
  cases n <;> exact ⟨rfl, rfl, rfl⟩

theorem special_negative {c : Nat} {m : Nat} {e : Int} (h : fv c = .fin true m e) (hm : m ≠ 0) :
    specialF32 .rsqrt c = (0x7FC00000, flInvalid) ∧ specialF32 .log2 c = (0x7FC00000, flInvalid) := by
  obtain ⟨-, hrsqrt, -, hlog2, -⟩ := specialF32_number (c := c) (h ▸ rfl)
  rw [hrsqrt, hlog2, h, vrsqrtF32, vlog2F32, if_neg hm, if_neg hm]
  exact ⟨rfl, rfl⟩

/-- R190: a narrow element is widened exactly and rounded once more. -/
theorem specialVal_eq (fn : SpecialFn) (f : Fmt) (c : Nat) (hf : f ≠ .f32) : ∃ w r d, w = cvtVal .f32 .rne true 0 (f.decode c) ∧
    r = specialF32 fn w.1 ∧ d = cvtVal f .rne true 0 (fv r.1) ∧ specialVal fn f c = (d.1, w.2 ||| r.2 ||| d.2) := by
  refine ⟨_, _, _, rfl, rfl, rfl, ?_⟩
  rw [specialVal, if_neg hf]
  simp only [fv]

theorem specialVal_f32 (fn : SpecialFn) (c : Nat) : specialVal fn .f32 c = specialF32 fn c := if_pos rfl

/-! ### Tables (R191) -/

/-- An FP32 code in units of 2^−29. -/
def units29 (c : Nat) : Nat := if c = 0 then 0 else (c % 2 ^ 23 + 2 ^ 23) * 2 ^ (c / 2 ^ 23 - 121)

theorem gridValue_units29 {c : Nat} (h : c = 0 ∨ 121 * 2 ^ 23 ≤ c) : gridValue .f32 c = (units29 c : ℚ) / 2 ^ 29 := by
  rcases h with rfl | h
  · rw [gridValue_zero]
    norm_num [units29]
  · have hdiv : 121 ≤ c / 2 ^ 23 := (Nat.le_div_iff_mul_le (by norm_num)).2 h
    have hmod := Nat.mod_lt c (show 0 < 2 ^ 23 by norm_num)
    obtain ⟨j, hj⟩ : ∃ j, c / 2 ^ 23 = 121 + j := Nat.exists_eq_add_of_le hdiv
    have hc : c = (c % 2 ^ 23 + 2 ^ 23) + (120 + j) * 2 ^ 23 := by
      have := Nat.div_add_mod c (2 ^ 23)
      rw [hj] at this
      omega
    conv_lhs => rw [hc]
    rw [gridValue_f32_run (by omega) (Or.inl (Nat.le_add_left _ _)), units29, if_neg (by omega), hj, Nat.add_sub_cancel_left]
    push_cast
    rw [show (120 + (j : Int)) - 149 = j - 29 by ring, zpow_sub₀ two_ne_zero, zpow_natCast]
    norm_num
    ring

/-- R191: the four entries at one index in units of 2^−29: three to within half a unit in the last place, LG to within 1/256. -/
def tableEntry (j : Nat) : Bool :=
  let rc := units29 (tabRC.getD j 0)
  let lg := units29 (tabLG.getD j 0)
  let ex := units29 (tabEX.getD j 0)
  let qs := units29 (tabQS.getD j 0)
  let u := if j < 32 then 32 + j else 2 * j
  decide ((rc * (64 + j) < 2 ^ 35 + 16 * (64 + j) ∧ 2 ^ 35 < (rc + 16) * (64 + j)) ∧
    (32 ≤ ex ∧ (ex - 32) ^ 64 < 2 ^ (j + 29 * 64) ∧ 2 ^ (j + 29 * 64) < (ex + 32) ^ 64) ∧
    (16 ≤ qs ∧ (qs - 16) ^ 2 * u < 2 ^ 63 ∧ 2 ^ 63 < (qs + 16) ^ 2 * u) ∧
    2 ^ (lg / 2 ^ 21) * rc ^ 256 ≤ 2 ^ (29 * 256) ∧ 2 ^ (29 * 256) < 2 ^ (lg / 2 ^ 21 + 1) * rc ^ 256)

theorem tableEntry_all : ∀ j, j < 64 → tableEntry j = true := by decide +kernel

/-- R191: every entry is zero or at least 2^−6. -/
theorem tableEntry_range : ∀ j, j < 64 → ∀ t ∈ [tabRC, tabLG, tabEX, tabQS], t.getD j 0 = 0 ∨ 121 * 2 ^ 23 ≤ t.getD j 0 := by
  decide +kernel

section
variable {x : ℚ} {n j : Nat} (hx : x = (n : ℚ) / 2 ^ 29)
include hx

theorem rc_bounds (h1 : n * (64 + j) < 2 ^ 35 + 16 * (64 + j)) (h2 : 2 ^ 35 < (n + 16) * (64 + j)) :
    (x - 1 / 2 ^ 25) * (1 + (j : ℚ) / 64) < 1 ∧ 1 < (x + 1 / 2 ^ 25) * (1 + (j : ℚ) / 64) := by
  have h1' : (n : ℚ) * (64 + j) < 2 ^ 35 + 16 * (64 + j) := by exact_mod_cast h1
  have h2' : (2 : ℚ) ^ 35 < (n + 16) * (64 + j) := by exact_mod_cast h2
  rw [show (x - 1 / 2 ^ 25) * (1 + (j : ℚ) / 64) = (n * (64 + j) - 16 * (64 + j)) / 2 ^ 35 by rw [hx]; ring,
    show (x + 1 / 2 ^ 25) * (1 + (j : ℚ) / 64) = (n + 16) * (64 + j) / 2 ^ 35 by rw [hx]; ring,
    div_lt_one (by positivity), one_lt_div (by positivity)]
  exact ⟨by linarith, h2'⟩

theorem ex_bounds (h0 : 32 ≤ n) (h1 : (n - 32) ^ 64 < 2 ^ (j + 29 * 64)) (h2 : 2 ^ (j + 29 * 64) < (n + 32) ^ 64) :
    (x - 1 / 2 ^ 24) ^ 64 < 2 ^ j ∧ (2 : ℚ) ^ j < (x + 1 / 2 ^ 24) ^ 64 := by
  have h1' : ((n - 32 : Nat) : ℚ) ^ 64 < 2 ^ (j + 29 * 64) := by exact_mod_cast h1
  have h2' : (2 : ℚ) ^ (j + 29 * 64) < ((n + 32 : Nat) : ℚ) ^ 64 := by exact_mod_cast h2
  rw [show x - 1 / 2 ^ 24 = ((n - 32 : Nat) : ℚ) / 2 ^ 29 by rw [hx, Nat.cast_sub h0]; push_cast; ring,
    show x + 1 / 2 ^ 24 = ((n + 32 : Nat) : ℚ) / 2 ^ 29 by rw [hx]; push_cast; ring, div_pow, div_pow, ← pow_mul,
    div_lt_iff₀ (by positivity), lt_div_iff₀ (by positivity), ← pow_add]
  exact ⟨h1', h2'⟩

theorem qs_bounds {u : Nat} {w : ℚ} (hw : w = (u : ℚ) / 32) (h0 : 16 ≤ n) (h1 : (n - 16) ^ 2 * u < 2 ^ 63)
    (h2 : 2 ^ 63 < (n + 16) ^ 2 * u) : (x - 1 / 2 ^ 25) ^ 2 * w < 1 ∧ 1 < (x + 1 / 2 ^ 25) ^ 2 * w := by
  have h1' : ((n - 16 : Nat) : ℚ) ^ 2 * u < 2 ^ 63 := by exact_mod_cast h1
  have h2' : (2 : ℚ) ^ 63 < ((n + 16 : Nat) : ℚ) ^ 2 * u := by exact_mod_cast h2
  rw [show (x - 1 / 2 ^ 25) ^ 2 * w = ((n - 16 : Nat) : ℚ) ^ 2 * u / 2 ^ 63 by rw [hx, hw, Nat.cast_sub h0]; push_cast; ring,
    show (x + 1 / 2 ^ 25) ^ 2 * w = ((n + 16 : Nat) : ℚ) ^ 2 * u / 2 ^ 63 by rw [hx, hw]; push_cast; ring,
    div_lt_one (by positivity), one_lt_div (by positivity)]
  exact ⟨h1', h2'⟩

theorem lg_bounds {y : ℚ} {l : Nat} (hy : y = (l : ℚ) / 2 ^ 29) (h1 : 2 ^ (l / 2 ^ 21) * n ^ 256 ≤ 2 ^ (29 * 256))
    (h2 : 2 ^ (29 * 256) < 2 ^ (l / 2 ^ 21 + 1) * n ^ 256) :
    (2 : ℚ) ^ (⌊256 * y⌋) * x ^ 256 ≤ 1 ∧ 1 < (2 : ℚ) ^ (⌊256 * y⌋ + 1) * x ^ 256 := by
  have hfloor : ⌊256 * y⌋ = ((l / 2 ^ 21 : Nat) : Int) := by
    have hdiv := Nat.div_add_mod l (2 ^ 21)
    have hmod := Nat.mod_lt l (show 0 < 2 ^ 21 by norm_num)
    rw [Int.floor_eq_iff, show 256 * y = (l : ℚ) / 2 ^ 21 by rw [hy]; ring, le_div_iff₀ (by positivity),
      div_lt_iff₀ (by positivity)]
    exact ⟨by exact_mod_cast (by omega : l / 2 ^ 21 * 2 ^ 21 ≤ l), by exact_mod_cast (by omega : l < (l / 2 ^ 21 + 1) * 2 ^ 21)⟩
  have h1' : (2 : ℚ) ^ (l / 2 ^ 21) * (n : ℚ) ^ 256 ≤ 2 ^ (29 * 256) := by exact_mod_cast h1
  have h2' : (2 : ℚ) ^ (29 * 256) < 2 ^ (l / 2 ^ 21 + 1) * (n : ℚ) ^ 256 := by exact_mod_cast h2
  rw [hfloor, hx, div_pow, ← pow_mul, ← Nat.cast_succ, zpow_natCast, zpow_natCast, ← mul_div_assoc, ← mul_div_assoc,
    div_le_one (by positivity), one_lt_div (by positivity)]
  exact ⟨h1', h2'⟩

end

/-- R191: every entry is its function to the precision of the tables. -/
theorem tables_accurate {j : Nat} (hj : j < 64) {rc lg ex qs u : ℚ} (hrc : rc = gridValue .f32 (tabRC.getD j 0))
    (hlg : lg = gridValue .f32 (tabLG.getD j 0)) (hex : ex = gridValue .f32 (tabEX.getD j 0))
    (hqs : qs = gridValue .f32 (tabQS.getD j 0)) (hu : u = (if j < 32 then 1 + (j : ℚ) / 32 else 2 + ((j : ℚ) - 32) / 16)) :
    (rc - 1 / 2 ^ 25) * (1 + (j : ℚ) / 64) < 1 ∧ 1 < (rc + 1 / 2 ^ 25) * (1 + (j : ℚ) / 64) ∧
      (ex - 1 / 2 ^ 24) ^ 64 < 2 ^ j ∧ (2 : ℚ) ^ j < (ex + 1 / 2 ^ 24) ^ 64 ∧
      (qs - 1 / 2 ^ 25) ^ 2 * u < 1 ∧ 1 < (qs + 1 / 2 ^ 25) ^ 2 * u ∧
      (2 : ℚ) ^ (⌊256 * lg⌋) * rc ^ 256 ≤ 1 ∧ 1 < (2 : ℚ) ^ (⌊256 * lg⌋ + 1) * rc ^ 256 := by
  have hrange := tableEntry_range j hj
  rw [gridValue_units29 (hrange tabRC (by simp))] at hrc
  rw [gridValue_units29 (hrange tabLG (by simp))] at hlg
  rw [gridValue_units29 (hrange tabEX (by simp))] at hex
  rw [gridValue_units29 (hrange tabQS (by simp))] at hqs
  have huv : u = ((if j < 32 then 32 + j else 2 * j : Nat) : ℚ) / 32 := by
    rw [hu]
    split_ifs <;> push_cast <;> ring
  obtain ⟨⟨r1, r2⟩, ⟨e0, e1, e2⟩, ⟨q0, q1, q2⟩, l1, l2⟩ := of_decide_eq_true (tableEntry_all j hj)
  obtain ⟨hr1, hr2⟩ := rc_bounds hrc r1 r2
  obtain ⟨he1, he2⟩ := ex_bounds hex e0 e1 e2
  obtain ⟨hq1, hq2⟩ := qs_bounds hqs huv q0 q1 q2
  obtain ⟨hl1, hl2⟩ := lg_bounds hrc hlg l1 l2
  exact ⟨hr1, hr2, he1, he2, hq1, hq2, hl1, hl2⟩

end Sys2Proof.Machine
end

section
/-! PROOF. The values of blocks, rows, special functions, gathers and searches, together. -/
namespace Sys2Proof.Machine

/-- Settles O60: blocks and buffers by the running state of a block, reductions by the shape of the tree, special functions by their
steps, searches by what the list of the nearest keeps. -/
theorem blocksRowsFunctionsAndSearchesGiveTheirValues : Obligations.BlocksRowsFunctionsAndSearchesGiveTheirValues := by
  unfold Obligations.BlocksRowsFunctionsAndSearchesGiveTheirValues
  refine ⟨⟨?block, fun ta tb acc sa sb p ps sc hp => ⟨rfl, dotRow_cons ta tb acc sa sb ps sc hp⟩,
      fun tb acc ps v _ hv => dotRowInt_eq hv, fun p ta tb fresh blk acc word hw => tileBlock_words p ta tb fresh blk acc hw, ?elem⟩,
    ⟨?tree, fun t x y w => ⟨rfl, rowExtremes_nanLeft w, rowExtremes_nanRight w, rowExtremes_numbers⟩, ?row⟩,
    ⟨fun m e h0 hm => split_eq e h0 hm, fun neg s v n hv => scaleF32_rounds neg s n hv, ?steps, fun c n m e hc _ => exp2_steps hc,
      fun c x z hx hn => ⟨fun hz _ => tanh_cases hx hn hz, fun hz => sig_eq hx hn hz⟩, ?special,
      fun j hj rc lg ex qs u hrc hlg hex hqs hu => tables_accurate hj hrc hlg hex hqs hu⟩,
    ⟨fun x table sg c t hx => tableIndex_eq_some hx c t, ?gather, ?nearest,
      fun k e j v dist s s1 t ht hv hd => ⟨(unitSearch_nearest ht hv hd).1, (unitSearch_nearest ht hv hd).2,
        unitSearch_threshold ht hv hd⟩,
      fun e i => ⟨results_eq e, searchWord_absent, fun p => searchWord_found⟩, deliver_apply⟩⟩
  case block =>
    intro ps sa sb num v hnum hv
    exact ⟨blockValue_invalid ps sa sb, fun hn ha hb => ⟨fun n => blockValue_inf hn ha hb,
      fun hi => blockValue_finite hn ha hb hnum hi hv⟩⟩
  case elem =>
    intro p ta tb acc a b sa sb r hr
    rw [tileElem_eq p ta tb acc a b sa sb hr]
    exact ⟨rfl, tileFlags_bits r.2⟩
  case tree =>
    intro f x xs ys k
    exact ⟨rfl, chunkTree_single f x, chunkTree_split f, reduceTree_chunk f, reduceTree_append f⟩
  case row =>
    intro f sg w row t wide hwide
    obtain rfl : wide = fun c => ⟨(cvtVal .f32 .rne true 0 (f.decode c)).1, 0, (cvtVal .f32 .rne true 0 (f.decode c)).2⟩ :=
      funext hwide
    exact ⟨rowResult_eq _ _, rowResult_eq _ _, rowResult_eq _ _, rowResult_eq _ _, rowResult_eq _ _,
      fun v hv => reduceRow_int_sum sg w row hv, reduceRow_int_greatest sg w⟩
  case steps =>
    intro c n m e x k ix tab hc hm hs hix htab
    obtain rfl : ix = stepFl := funext hix
    obtain rfl : tab = tabFl := funext htab
    refine ⟨fun j v w q r => rcp_steps hc hm hs, fun hn y h j a v w q r => rsqrt_steps hc hm hs hn,
      fun hn j v w1 w s => log2_steps hc hm hs hn, fun hn => ?_⟩
    subst hn
    exact special_negative hc hm
  case special =>
    intro fn c
    refine ⟨specialF32_nan fn, specialF32_inf, specialF32_inf, fun n e => specialF32_zero, fun f hf => specialVal_eq fn f c hf,
      specialVal_f32 fn c⟩
  case gather =>
    intro k e j c s s1 hc
    refine ⟨fun h w s2 hw => unitGather_outside hc h hw, ?_, unitScatter_outside hc, ?_, ?_⟩
    · rintro t v w r s2 s3 h hv hw rfl
      exact unitGather_inside hc h hv hw
    · rintro t v w r s2 s3 h hv hop hw rfl
      exact unitScatter_inside hc h hv hop hw
    · exact fun t v w r old s2 s3 s4 h hv hop ho hw hr => unitScatter_adds hc h hv hop ho hw hr
  case nearest =>
    rintro d n m r - rfl
    obtain ⟨hlen, hmem, hsorted, hleft⟩ := nearestOf_foldl d m n
    exact ⟨hlen, hmem, hsorted, fun i hi hnot => (hleft i hi hnot).2⟩

end Sys2Proof.Machine
end


section
/-! PROOF. Decoding the word of an instruction gives the instruction back (R58 to R60, R81 to R85). -/
namespace Sys2Proof

open BitVec

/-! ### Fields narrower than the part of the word they stand in -/

/-- The low bits of the `d` field of format A: the number of a queue register or of a shape register. -/
theorem encA_d_low {n : Nat} (hn : n ≤ 6) (fn : BitVec 5) (sc : BitVec 2) (b a d : BitVec 6) (op : BitVec 7) :
    (encA fn sc b a d op).extractLsb' 7 n = d.extractLsb' 0 n := by
  rw [field_part _ 7 6 7 n le_rfl (by omega), encA_d]

/-- The low bits of the `a` field of format A. -/
theorem encA_a_low {n : Nat} (hn : n ≤ 6) (fn : BitVec 5) (sc : BitVec 2) (b a d : BitVec 6) (op : BitVec 7) :
    (encA fn sc b a d op).extractLsb' 13 n = a.extractLsb' 0 n := by
  rw [field_part _ 13 6 13 n le_rfl (by omega), encA_a]

/-- The low bits of the `b` field of format A: a level. -/
theorem encA_b_low {n : Nat} (hn : n ≤ 6) (fn : BitVec 5) (sc : BitVec 2) (b a d : BitVec 6) (op : BitVec 7) :
    (encA fn sc b a d op).extractLsb' 19 n = b.extractLsb' 0 n := by
  rw [field_part _ 19 6 19 n le_rfl (by omega), encA_b]

/-- A part of the immediate of format I: a shift count, an index, the operands of `rep`. -/
theorem encI_imm_part {st n : Nat} (hn : st + n ≤ 13) (imm : BitVec 13) (a d : BitVec 6) (op : BitVec 7) :
    (encI imm a d op).extractLsb' (19 + st) n = imm.extractLsb' st n := by
  rw [field_part _ 19 13 (19 + st) n (by omega) (by omega), encI_imm, Nat.add_sub_cancel_left]

/-- The order bit of `waitv`. -/
theorem encM_ord_low (scope : BitVec 3) (ord fn2 : BitVec 2) (b a d : BitVec 6) (op : BitVec 7) :
    (encM scope ord fn2 b a d op).extractLsb' 27 1 = ord.extractLsb' 0 1 := by
  rw [field_part _ 27 2 27 1 le_rfl (by decide), encM_ord]

/-- The hypervector register that a search names in the `sb` field of format V. -/
theorem encV_sb_low (fn : BitVec 5) (o : BitVec 1) (g : BitVec 6) (sb sa : BitVec 4) (k : BitVec 1) (sd : BitVec 4)
    (op : BitVec 7) : (encV fn o g sb sa k sd op).extractLsb' 16 3 = sb.extractLsb' 0 3 := by
  rw [field_part _ 16 4 16 3 le_rfl (by decide), encV_sb]

/-- R135: the mask of `rep` in its immediate. -/
theorem rep_mask (stride : BitVec 5) (mask n : BitVec 4) : (stride ++ mask ++ n).extractLsb' 4 4 = mask := by
  rw [extractLsb'_append_eq_of_le (by decide), extractLsb'_append_eq_right]

/-- R135: the stride of `rep` in its immediate. -/
theorem rep_stride (stride : BitVec 5) (mask n : BitVec 4) : (stride ++ mask ++ n).extractLsb' 8 5 = stride := by
  rw [extractLsb'_append_eq_of_le (by decide)]
  exact extractLsb'_append_eq_left

/-! ### The row of a word -/

-- One set of rules serves all rows of a format, and no row needs all of them.
set_option linter.unusedSimpArgs false in
/-- R58, R81 to R84: the opcode of an instruction's word selects its row, the minor field its form, and the fields of the
format give its operands back. -/
theorem decodeRaw_encode {i : Instr} (hw : i.isWord = true) : decodeRaw (encode i) = .ok i := by
  cases i with
  | add | sub | and | or | xor | andn | orn | sll | srl | sra | rol | ror | slt | sltn | seq | sne | min | max | minn
      | maxn | sxt | zxt | addw | subw | mul | mulh | mulhn | mulhsn | div | divn | rem | remn | mulw | divw | divnw
      | remw | remnw | cbnd | cbnde | cperm | cseta | cadd | csub | ctest | ldbI | ldbN | ldbpI | ldbpN | stb | stbp
      | faddF32 | fsubF32 | fmulF32 | fdivF32 | fminF32 | fmaxF32 | feqF32 | fltF32 | fleF32 | fsgnF32 | atcinv
      | spawn | barc | clz | ctz | popc | brev | bswap | cbase | clen | cperms | ctag | cclr | cmv | fsqrtF32
      | fclassF32 | fnegF32 | fabsF32 | fcvtF32I64 | fcvtF32N64 | fcvtI64F32 | fcvtN64F32 | fcvtF32Bf16 | fcvtBf16F32
      | fcvtF32F16 | fcvtF16F32 | fcvtF32E8 | fcvtE8F32 | pgprobe | wake | setpri | evwait | bara | barrc | mtxfree
      | mflags | trap | mtxlock | mepi | mdrain | mclear | brk | rett | ifence | halt | suspend | yield | retire
      | xdone | vwait | vfence | mwait | mrelease | rdcyc | rdtime | rdret | stid | vstat | vcancel | mlease | mstat
      | xlpf | evsig | evsend | barw | msend | vloop | mmap | sync | xstart | grank | gsize | gmember | chbind
      | chfree | chcnt | chspace | chtry | chpeek | chput | shpLd | shpSt | shpGet | shpSet | shpAdv | shpMv =>
    change decodeRaw (encA _ _ _ _ _ _) = _
    rw [decodeRaw, encA_op]
    conv_lhs => whnf
    simp only [decodeOp01, decodeOp02, decodeOp10, decodeOp20, decodeOp21, decodeOp22, decodeOp30, decodeOp31,
      decodeOp32, decodeOp34, decodeOp3C, decodeOp40, decodeOp47, decodeOp50, BitVec.reduceToNat, encA_fn, encA_d,
      encA_a, encA_b, encA_sc, encA_b_low (n := 2) (by decide), encA_b_low (n := 3) (by decide),
      encA_d_low (n := 3) (by decide), encA_a_low (n := 3) (by decide), encA_d_low (n := 4) (by decide),
      encA_a_low (n := 4) (by decide), extractLsb'_append_eq_right]
  | addi | andi | ori | xori | slti | sltni | addwi | caddi | ldI8 | ldN8 | ldI16 | ldN16 | ldI32 | ldN32 | ld64
      | ld128 | jalr | slli | srli | srai | cbndi | sswap | rep | sget | sset =>
    change decodeRaw (encI _ _ _ _) = _
    rw [decodeRaw, encI_op]
    conv_lhs => whnf
    simp only [encI_d, encI_a, encI_imm, encI_imm_part (st := 0) (n := 6) (by decide),
      encI_imm_part (st := 0) (n := 12) (by decide), encI_imm_part (st := 0) (n := 4) (by decide),
      encI_imm_part (st := 4) (n := 4) (by decide), encI_imm_part (st := 8) (n := 5) (by decide), rep_mask, rep_stride,
      extractLsb'_append_eq_right]
  | lui | auipc | jal =>
    change decodeRaw (encU _ _ _) = _
    rw [decodeRaw, encU_op]
    conv_lhs => whnf
    simp only [encU_d, encU_imm]
  | madd | msub | fmaddF32 | fmsubF32 | xput | xget =>
    change decodeRaw (encQ _ _ _ _ _ _) = _
    rw [decodeRaw, encQ_op]
    conv_lhs => whnf
    simp only [decodeOp0F, decodeOp23, decodeOp33, BitVec.reduceToNat, encQ_f, encQ_d, encQ_a, encQ_b, encQ_c]
  | st8 | st16 | st32 | st64 | st128 =>
    change decodeRaw (encS _ _ _ _ _) = _
    rw [decodeRaw, encS_op]
    conv_lhs => whnf
    simp only [encS_lo, encS_a, encS_b, encS_hi, extractLsb'_append_extractLsb' (w := 7) (len := 6)]
  | beq | bne | blt | bge | bltn | bgen =>
    change decodeRaw (encB _ _ _ _) = _
    rw [decodeRaw, encB_op]
    conv_lhs => whnf
    simp only [encB_a, encB_b, encB_imm]
  | amoSwap | amoXor | amoMaxn | cas64 | amoAdd | amoMin | amoFaddF32 | cas128 | amoAnd | amoMax | amoFminF32 | amoOr
      | amoMinn | amoFmaxF32 | redAdd | redFaddF32 | redMin | redMax | waitv64 | waitv32 | fence | fenceAcq | fenceRel
      | lda64 | lda32 | stl64 | stl32 =>
    change decodeRaw (encM _ _ _ _ _ _ _) = _
    rw [decodeRaw, encM_op]
    conv_lhs => whnf
    simp only [decodeOp35, decodeOp36, decodeOp37, decodeOp38, decodeOp39, decodeOp3A, decodeOp3B, BitVec.reduceToNat,
      encM_fn2, encM_d, encM_a, encM_b, encM_ord, encM_scope, encM_ord_low, extractLsb'_append_eq_right]
  | vadd | vsub | vmul | vfma | vscatAdd | vmin | vmax | vand | vor | vxor | vcmpEq | vcmpLt | vcmpLe | vsel | vgath
      | vscat | vdotI8i8 | vdotaI8i8 | vdotI8t2 | vdotaI8t2 | vdotBfbf | vdotaBfbf | vabs | vneg | vrcp | vrsqrt
      | vexp2 | vlog2 | vtanh | vsig | vcopy | vdequant | vaddi | vsubi | vmuli | vshl | vshr | vsra | vsat | vclamp
      | vrsum | vrmax | vrmin | vrargmax | vrsumsq | vfill | viota | vcvt | vquant | vdotF4f4 | vdotaF4f4 | vdotF6f6
      | vdotaF6f6 | vdotF6f4 | vdotaF6f4 | vdotE4e4 | vdotaE4e4 | vdotE5e5 | vdotaE5e5 | mtileF4f4 | mtileoF4f4
      | mtileF6f6 | mtileoF6f6 | mtileF6f4 | mtileoF6f4 | mtileE4e4 | mtileoE4e4 | mtileE5e5 | mtileoE5e5 | mtileI8i8
      | mtileoI8i8 | mtileI8t2 | mtileoI8t2 | mtileBfbf | mtileoBfbf | hsrch | hsrchk | hsrcht =>
    change decodeRaw (encV _ _ _ _ _ _ _ _) = _
    rw [decodeRaw, encV_op]
    conv_lhs => whnf
    simp only [decodeOp41, decodeOp42, decodeOp43, decodeOp44, decodeOp45, decodeOp46, decodeOp48, decodeOp49,
      decodeOp4A, decodeOp4B, decodeOp4C, decodeOp4D, decodeOp4E, decodeOp4F, decodeOp51, decodeOp52, decodeOp53,
      decodeOp54, decodeOp55, decodeOp56, decodeOp57, decodeOp58, decodeOp61, BitVec.reduceToNat, encV_fn, encV_sd,
      encV_k, encV_sa, encV_sb, encV_g, encV_o, encV_sb_low, extractLsb'_append_eq_right]
  | hbind | hperm | hbund | hthr | hclrH | hclrY | hldH | hldY | hstY | hstH | hpopc | hmv | hnot | hham | hgetb =>
    change decodeRaw (encH _ _ _ _ _ _ _ _ _) = _
    rw [decodeRaw, encH_op]
    conv_lhs => whnf
    simp only [decodeOp60, BitVec.reduceToNat, encH_fn, encH_y, encH_tie, encH_hd, encH_ha, encH_hb, encH_g, encH_mode,
      extractLsb'_append_extractLsb' (w := 2) (len := 3), BitVec.reduceEq, reduceIte]
  | fenceWin => rfl
  | _ => exact absurd hw Bool.false_ne_true

/-- A well-formed instruction comes back from its own word. -/
theorem decode_encode {i : Instr} (hw : i.isWord = true) (hwf : i.wf = true) : decode (encode i) = .ok i := by
  simp only [decode, decodeRaw_encode hw, hwf, decide_true, Bool.and_self, if_true]

/-! ### Words that name no instruction -/

/-- R88: a word whose row answers with an error is refused with it. -/
theorem decode_of_raw_error {w : BitVec 32} {e : DecodeError} (h : decodeRaw w = .error e) : decode w = .error e := by
  simp only [decode, h]

/-- R81: an opcode that stands in no row. -/
theorem decodeRaw_reserved {w : BitVec 32} (h : (w.extractLsb' 0 7).toNat = 0x00 ∨ (w.extractLsb' 0 7).toNat = 0x3D ∨
    (w.extractLsb' 0 7).toNat = 0x3E ∨ (w.extractLsb' 0 7).toNat = 0x3F ∨
    (0x59 ≤ (w.extractLsb' 0 7).toNat ∧ (w.extractLsb' 0 7).toNat ≤ 0x5F) ∨ 0x62 ≤ (w.extractLsb' 0 7).toNat) :
    decodeRaw w = .error .reservedOpcode := by
  unfold decodeRaw
  split
  case h_88 => rfl
  all_goals omega

/-- Settles O2: the row of the word is the instruction's own, its operands are accepted, and its word is the word decoded. -/
theorem decodingInvertsEncoding : Obligations.DecodingInvertsEncoding := by
  unfold Obligations.DecodingInvertsEncoding
  intro i hw hwf
  exact decode_encode hw hwf

/-- Settles O1: the words of instructions are their encodings, the others are refused by their opcode, their minor value or
their operands; a reserved opcode stands in no row. -/
theorem writtenOutWordsDecode : Obligations.WrittenOutWordsDecode := by
  unfold Obligations.WrittenOutWordsDecode
  refine ⟨⟨decode_encode (i := .add 5#6 6#6 7#6 0#2) rfl rfl, decode_encode (i := .slli 5#6 6#6 3#6) rfl rfl,
    decode_encode (i := .lui 7#6 0x12345#19) rfl rfl, decode_encode (i := .cbnd 20#6 1#6 6#6 0#2) rfl rfl,
    decode_encode (i := .faddF32 5#6 6#6 7#6 3#2) rfl rfl, rfl, rfl, rfl⟩, fun w h => decode_of_raw_error (decodeRaw_reserved h)⟩

end Sys2Proof
end

section
/-! PROOF. The step: what is due comes first, then the instruction of the slot whose turn it is, then a cycle passes (R57,
R58, R88, R125). -/
namespace Sys2Proof.Machine

/-! ### What a slot does in its turn -/

/-- R57, R58: a word that encodes an instruction. -/
theorem nextInstr_of_word {s : State} {k : Nat} {t : Strand} {w : BitVec 32} {i : Instr} (hf : s.fetch k t = .word w)
    (hd : decode w = .ok i) : s.nextInstr k t = i := by
  simp only [State.nextInstr, hf, hd]

/-- R88: a word that encodes none. -/
theorem nextInstr_of_illegal_word {s : State} {k : Nat} {t : Strand} {w : BitVec 32} {e : DecodeError}
    (hf : s.fetch k t = .word w) (hd : decode w = .error e) : s.nextInstr k t = .illegalEncoding w := by
  simp only [State.nextInstr, hf, hd]

/-- R64: a fetch that fails. -/
theorem nextInstr_of_fetchFail {s : State} {k : Nat} {t : Strand} {c : Nat} {v : Word}
    (h : s.fetchFail k t = some (c, v)) : s.nextInstr k t = .fetchCheckFailure c v.toNat := by
  simp only [State.nextInstr, State.fetch, h]

/-- R57: the word fetched outside the bodies of `rep` and `vloop`. -/
theorem fetch_of_noBody {s : State} {k : Nat} {t : Strand} (hf : s.fetchFail k t = none) (hr : t.rep = none)
    (hl : t.loop = none) :
    s.fetch k t = .word (BitVec.ofNat 32 (s.read (spadBase k + t.pc.toNat % 2 ^ 19) 4)) := by
  simp only [State.fetch, hf, hr, hl, Option.isSome_none, Bool.false_and, Bool.false_eq_true, if_false]
  rfl

/-- A slot that holds a strand issues what its fetch gives. -/
theorem issueAt_strand {s : State} {k sl : Nat} {t : Strand} (h : s.strand k sl = some t) :
    issueAt k sl s = afterIssue k sl (exec (s.nextInstr k t) { s with turn := (k, sl) }) := by
  simp only [issueAt, h]

/-- R57, R58: a slot whose word encodes an instruction runs it. -/
theorem issueAt_word {s : State} {k sl : Nat} {t : Strand} {w : BitVec 32} {i : Instr} (h : s.strand k sl = some t)
    (hf : s.fetch k t = .word w) (hd : decode w = .ok i) :
    issueAt k sl s = afterIssue k sl (exec i { s with turn := (k, sl) }) := by
  rw [issueAt_strand h, nextInstr_of_word hf hd]

/-- R64, R148: a slot whose fetch fails traps with the check that failed. -/
theorem issueAt_fetchFail {s : State} {k sl : Nat} {t : Strand} {c : Nat} {v : Word} (h : s.strand k sl = some t)
    (hf : s.fetchFail k t = some (c, v)) :
    issueAt k sl s = .next ((takeTrap c v t.pc.toNat t.pc.toNat { s with turn := (k, sl) }).markIssued k sl) := by
  have hcur : State.cur { s with turn := (k, sl) } = some t := h
  have hfail : State.fetchFail { s with turn := (k, sl) } k t = some (c, BitVec.ofNat 64 v.toNat) := by
    rw [BitVec.ofNat_toNat, BitVec.setWidth_eq]; exact hf
  have hexec : exec (.fetchCheckFailure c v.toNat) { s with turn := (k, sl) } =
      .next (takeTrap c v t.pc.toNat t.pc.toNat { s with turn := (k, sl) }) := by
    show execFetchCheckFailure c v.toNat _ = _
    simp only [execFetchCheckFailure, hcur, hfail, if_true, BitVec.ofNat_toNat, BitVec.setWidth_eq]
  rw [issueAt_strand h, nextInstr_of_fetchFail hf, hexec]
  rfl

/-! ### The order of moves (log 4) -/

/-- A step with an empty agenda. -/
theorem step_own {s : State} (h : s.agenda = []) : step s = ownStep s := by
  simp only [step, h]

/-- What is due from the package comes before any instruction. -/
theorem ownStep_due {s : State} {i : Instr} (h : s.nextInternal = some i) : ownStep s = exec i s := by
  simp only [ownStep, h]

/-- The slot whose turn it is issues where nothing is due. -/
theorem ownStep_issue {s : State} {k sl : Nat} (h : s.nextInternal = none) (hp : s.pick = some (k, sl)) :
    ownStep s = issueAt k sl s := by
  simp only [ownStep, h, hp]

/-- A cycle passes where nothing is due and no slot issues. -/
theorem ownStep_tick {s : State} (h : s.nextInternal = none) (hp : s.pick = none) : ownStep s = .next s.tick := by
  simp only [ownStep, h, hp]

/-- An event of the agenda; a slot does not issue by one. -/
theorem step_event {s : State} {i : Instr} {r : List Move} (h : s.agenda = .ev i :: r) :
    step s = if instrInTurn i then .next { s with agenda := r } else exec i { s with agenda := r } := by
  simp only [step, h]

/-- R125: a slot that the agenda names issues in its turn alone. -/
theorem step_pick {s : State} {k sl : Nat} {r : List Move} (h : s.agenda = .pick k sl :: r) :
    step s = if s.slotToIssue k (s.core k) = some sl then issueAt k sl { s with agenda := r }
      else .next { s with agenda := r } := by
  simp only [step, h]

/-- What falls due in the cycle that the agenda lets pass. -/
theorem passCycle_due {s : State} {r : List Move} {i : Instr} (hg : s.gateDue = none)
    (hi : (s.timed <|> s.promised) = some i) : passCycle s r = exec i s := by
  simp only [passCycle, hg, hi]

/-- A slot that can issue does so before the cycle has passed. -/
theorem passCycle_issue {s : State} {r : List Move} {k sl : Nat} (hg : s.gateDue = none) (ht : s.timed = none)
    (hp : s.promised = none) (hk : s.pick = some (k, sl)) : passCycle s r = issueAt k sl s := by
  simp only [passCycle, hg, ht, hp, hk, Option.orElse_eq_orElse, Option.orElse_none]

/-- The cycle passes once nothing is left to do in it. -/
theorem passCycle_tick {s : State} {r : List Move} (hg : s.gateDue = none) (ht : s.timed = none)
    (hp : s.promised = none) (hk : s.pick = none) : passCycle s r = .next { s with agenda := r }.tick := by
  simp only [passCycle, hg, ht, hp, hk, Option.orElse_eq_orElse, Option.orElse_none]

/-- A cycle on the agenda. -/
theorem step_tick {s : State} {r : List Move} (h : s.agenda = .tick :: r) : step s = passCycle s r := by
  simp only [step, h]

/-- Settles O27: the agenda first, then what is due, then the slot whose turn it is, by the order of each kind of move. -/
theorem stepRunsTheDecodedInstruction : Obligations.StepRunsTheDecodedInstruction := by
  unfold Obligations.StepRunsTheDecodedInstruction
  refine ⟨fun s k sl t w ha hn hp hs hf => ?issue, fun s k t => fetch_of_noBody, fun s k sl t c v ha hn hp hs hf => ?fail,
    fun s i ha hn => by rw [step_own ha, ownStep_due hn], fun s ha hn hp => by rw [step_own ha, ownStep_tick hn hp],
    fun s i r ha => ?event, fun s a r ha => by simp only [step, ha], fun s k sl r ha hne => by rw [step_pick ha, if_neg hne],
    fun s n k sl t w i r ha hsl hn hs hf hd => ?pick, fun s r ha => ?cycle⟩
  case issue =>
    rw [step_own ha, ownStep_issue hn hp]
    exact ⟨fun i hd => issueAt_word hs hf hd, fun e hd => by rw [issueAt_strand hs, nextInstr_of_illegal_word hf hd]⟩
  case fail => rw [step_own ha, ownStep_issue hn hp, issueAt_fetchFail hs hf]
  case event =>
    rw [step_event ha]
    exact ⟨fun h => by simp only [h, Bool.false_eq_true, if_false], fun h => by simp only [h, if_true]⟩
  case pick =>
    subst hn
    rw [step_pick ha, if_pos hsl, issueAt_word hs hf hd]
  case cycle =>
    rw [step_tick ha]
    refine ⟨fun g hg => by simp only [passCycle, hg], fun hg => ⟨fun i hi => passCycle_due hg (by rw [hi]; rfl),
      fun i ht hi => passCycle_due hg (by rw [ht, hi]; rfl), fun ht hp => ⟨fun k sl t w i hk hs hf hd => ?_, ?_⟩⟩⟩
    · rw [passCycle_issue hg ht hp hk, issueAt_word hs hf hd]
    · exact passCycle_tick hg ht hp

end Sys2Proof.Machine
end

section
/-! The frame of the register forms (R60, R63 to R65): what an instruction that reads and writes general registers leaves. -/
namespace Sys2Proof.Machine

/-! ### Changes of one slot and of the count of instructions -/

/-- Nothing but the slot that has the turn and its core's count of instructions changes. -/
structure SlotFrame (s n : State) : Prop where
  butCores : SameButCores s n
  cores : SameCores s n

theorem SameButCores.turn_eq {s n : State} (h : SameButCores s n) : n.turn = s.turn := (congrArg State.turn h :)

theorem SameButCores.now_eq {s n : State} (h : SameButCores s n) : n.now = s.now := (congrArg State.now h :)

theorem SameButCores.trans {s m n : State} (h : SameButCores s m) (h' : SameButCores m n) : SameButCores s n :=
  calc ({ n with cores := s.cores } : State) = { ({ n with cores := m.cores } : State) with cores := s.cores } := rfl
    _ = { m with cores := s.cores } := congrArg (fun x : State => { x with cores := s.cores }) h'
    _ = s := h

/-- The cores hold no memory. -/
theorem SameButCores.sameMemory {s n : State} (h : SameButCores s n) : SameMemory s n :=
  ⟨fun a => (congrArg (State.byte · a) h :), (congrArg State.tags h :)⟩

theorem SlotFrame.trans {s m n : State} (h : SlotFrame s m) (h' : SlotFrame m n) : SlotFrame s n := by
  obtain ⟨ho, hc, hs⟩ := h.cores
  obtain ⟨ho', hc', hs'⟩ := h'.cores
  rw [h.butCores.turn_eq] at ho' hc' hs'
  refine ⟨h.butCores.trans h'.butCores, fun k hk => (ho' k hk).trans (ho k hk), ?_, fun sl hl => (hs' sl hl).trans (hs sl hl)⟩
  calc ({ n.core s.turn.1 with slots := (s.core s.turn.1).slots, retired := (s.core s.turn.1).retired } : Core)
      = { ({ n.core s.turn.1 with slots := (m.core s.turn.1).slots, retired := (m.core s.turn.1).retired } : Core) with
          slots := (s.core s.turn.1).slots, retired := (s.core s.turn.1).retired } := rfl
    _ = { m.core s.turn.1 with slots := (s.core s.turn.1).slots, retired := (s.core s.turn.1).retired } := by rw [hc']
    _ = s.core s.turn.1 := hc

theorem slotFrame_setStrand (s : State) (t : Strand) : SlotFrame s (s.setStrand s.turn.1 s.turn.2 t) :=
  ⟨rfl, fun _ hk => core_updCore_ne hk s _, by simp [State.setStrand], fun _ hl => strand_setStrand_slot hl s _ t⟩

theorem slotFrame_retire (s : State) : SlotFrame s (s.updCore s.turn.1 (fun c => { c with retired := c.retired + 1 })) :=
  ⟨rfl, fun _ hk => core_updCore_ne hk s _, by simp, fun _ _ => by simp [State.strand]⟩

/-- The strand whose turn it is, after its instruction has completed. -/
theorem finish_frame {s : State} {t : Strand} (hc : s.cur = some t) (sc : Nat) :
    SlotFrame s (finish .next sc s) ∧
      (finish .next sc s).strand s.turn.1 s.turn.2 = some (t.advance.issued s.now sc) := by
  have h1 : (s.updCore s.turn.1 (fun c => { c with retired := c.retired + 1 })).strand s.turn.1 s.turn.2 = some t := by
    simpa [State.strand, State.cur] using hc
  have hf := slotFrame_retire s
  unfold finish
  dsimp only
  rw [updStrand_eq h1]
  exact ⟨hf.trans (slotFrame_setStrand _ _), strand_setStrand_same _ _ _ _⟩

/-! ### Changes of one general register -/

/-- The strand `u` is `t` but for general register `d` and a result due in it. -/
structure PutsOnly (t u : Strand) (d : Nat) : Prop where
  getG : ∀ r, r ≠ d → u.getG r = t.getG r
  pend : ∀ p, p.reg ≠ d → (p ∈ u.pend ↔ p ∈ t.pend)
  lost : ∀ r, r ≠ d → (r ∈ u.lost ↔ r ∈ t.lost)
  rest : { u with g := t.g, pend := t.pend, lost := t.lost } = t

theorem PutsOnly.refl (t : Strand) (d : Nat) : PutsOnly t t d := ⟨fun _ _ => rfl, fun _ _ => .rfl, fun _ _ => .rfl, rfl⟩

theorem putsOnly_putG (t : Strand) (d : Nat) (v : TV) : PutsOnly t (t.putG d v) d := by
  unfold Strand.putG
  split
  · exact .refl t d
  · refine ⟨fun r hr => ?_, fun p hp => ?_, fun r hr => ?_, rfl⟩
    · simp [Strand.getG, kget_kput_ne hr]
    · simp [hp]
    · simp [sdel, hr]

/-- A result of longer latency is due in the register. -/
theorem putsOnly_pend (t : Strand) (d avail : Nat) (v : TV) :
    PutsOnly t { t with pend := t.pend.filter (fun p => decide (p.reg ≠ d)) ++ [⟨d, avail, v⟩] } d := by
  refine ⟨fun _ _ => rfl, fun p hp => ?_, fun _ _ => .rfl, rfl⟩
  have hn : p ≠ ⟨d, avail, v⟩ := fun h => hp (congrArg Pending.reg h)
  simp [hp, hn]

/-- The place where a strand goes on follows from its program counter and its `rep` alone. -/
theorem advance_eq {t u : Strand} (hp : u.pcc = t.pcc) (hr : u.rep = t.rep) :
    u.advance = { u with pcc := t.advance.pcc, rep := t.advance.rep } := by
  have hpc : u.pc = t.pc := by rw [Strand.pc, hp, Strand.pc]
  simp only [Strand.advance, hpc, hr]
  cases t.rep with
  | none => simp only [Strand.setPc, hp, hr]
  | some r =>
    dsimp only
    split
    · simp only [Strand.setPc, hp, hr]
    · split <;> simp only [Strand.setPc, hp]

/-- A strand that had one register written, and whose instruction has issued. -/
theorem PutsOnly.sameStrand {t u : Strand} {d : Nat} (h : PutsOnly t u d) (hp : t.pendPush = none) (now sc : Nat) :
    SameStrand t (u.advance.issued now sc) d := by
  have hpcc : u.pcc = t.pcc := (congrArg Strand.pcc h.rest :)
  have hrep : u.rep = t.rep := (congrArg Strand.rep h.rest :)
  have hpush : u.pendPush = none := (congrArg Strand.pendPush h.rest :).trans hp
  have hi : u.advance.issued now sc =
      { u with pcc := t.advance.pcc, rep := t.advance.rep, nextIssue := now + 1 + sc, wait := none, granted := none,
               popped := [] } := by
    rw [advance_eq hpcc hrep, Strand.issued]
    simp [hpush]
  rw [hi]
  refine ⟨h.getG, h.pend, h.lost, rfl, rfl, rfl, rfl, rfl, ?_⟩
  exact (congrArg (fun x : Strand => { x with
    pcc := t.pcc, rep := t.rep, wait := t.wait, granted := t.granted, popped := t.popped, nextIssue := t.nextIssue }) h.rest)

/-- R60, R65, R67: a result in a general register changes nothing but that register. -/
theorem written_general {s : State} {t : Strand} {d : BitVec 6} (hc : s.cur = some t) (hq : isQ d = false) (lat : Nat)
    (v : TV) : SlotFrame s (s.written d lat v) ∧ ∃ u, (s.written d lat v).cur = some u ∧ PutsOnly t u d.toNat := by
  have hset : ∀ u, SlotFrame s (s.setStrand s.turn.1 s.turn.2 u) ∧
      (s.setStrand s.turn.1 s.turn.2 u).cur = some u := fun u =>
    ⟨slotFrame_setStrand s u, strand_setStrand_same s _ _ u⟩
  simp only [State.written, hq, Bool.false_eq_true, if_false]
  split
  · exact ⟨⟨rfl, fun _ _ => rfl, rfl, fun _ _ => rfl⟩, t, hc, .refl t _⟩
  · split
    · rw [updStrand_eq hc]
      exact ⟨(hset _).1, _, (hset _).2, putsOnly_putG t _ v⟩
    · rw [updStrand_eq hc]
      exact ⟨(hset _).1, _, (hset _).2, putsOnly_pend t _ _ v⟩

theorem pendPush_putResults (l : List Pending) (u : Strand) :
    (l.foldl (fun (u : Strand) p => u.putG p.reg p.val) u).pendPush = u.pendPush := by
  induction l generalizing u with
  | nil => rfl
  | cons p l ih => exact (ih _).trans (congrArg Strand.pendPush (putsOnly_putG u p.reg p.val).rest :)

theorem settle_pendPush (t : Strand) (now : Nat) : (t.settle now).pendPush = t.pendPush := by
  simp only [Strand.settle, Strand.joinFlags, pendPush_putResults]

/-- A register form that has read its sources writes nothing but its destination. -/
theorem gives_writesOnly {s : State} {t : Strand} {d : BitVec 6} (ht : Turn s t) (hq : isQ d = false) (sc lat : Nat) (v : TV) :
    ∃ n, gives sc d lat v (s.settled t) = .next n ∧ WritesOnly s n t d.toNat := by
  obtain ⟨hw, u, hu, hp⟩ := written_general (cur_settled s t) hq lat v
  obtain ⟨hf, hs⟩ := finish_frame hu sc
  have hall := ((slotFrame_setStrand s (t.settle s.now)).trans hw).trans hf
  refine ⟨_, rfl, hall.butCores, hall.butCores.sameMemory, hall.cores, _, ?_,
    hp.sameStrand ((settle_pendPush t s.now).trans ht.2) ((s.settled t).written d lat v).now sc⟩
  rw [hw.butCores.turn_eq] at hs
  exact hs

/-! ### Reading general registers -/

/-- General registers are read as they stand. -/
theorem gather_general (k sl : Nat) (u : Strand) (n : State) (have_ : List TV) : ∀ {rs : List (BitVec 6)},
    (∀ r ∈ rs, isQ r = false) → gather k sl rs have_ u n = .inl (rs.map (fun r => u.getG r.toNat), n)
  | [], _ => rfl
  | r :: rs, h => by
    have hr : isQ r = false := h r List.mem_cons_self
    simp only [gather, hr, Bool.false_eq_true, if_false, gather_general k sl u n have_ (fun x hx => h x (List.mem_cons_of_mem _ hx)),
      List.map_cons]

theorem filter_isQ_general {rs : List (BitVec 6)} (h : ∀ r ∈ rs, isQ r = false) : rs.filter isQ = [] :=
  List.filter_eq_nil_iff.2 fun r hr => by simp [h r hr]

theorem any_isQ_general {rs : List (BitVec 6)} (h : ∀ r ∈ rs, isQ r = false) : rs.any isQ = false :=
  List.any_eq_false.2 fun r hr => by simp [h r hr]

theorem firstUnbound_general (u : Strand) : ∀ {rs : List (BitVec 6)}, (∀ r ∈ rs, isQ r = false) → firstUnbound u rs = none
  | [], _ => rfl
  | r :: rs, h => by
    have hr : isQ r = false := h r List.mem_cons_self
    simp [firstUnbound, hr, firstUnbound_general u (fun x hx => h x (List.mem_cons_of_mem _ hx))]

/-- Nothing stops an instruction whose fields are general registers that hold their values. -/
theorem Plain.reads {s : State} {t : Strand} {srcs dests : List (BitVec 6)} (ht : Turn s t) (h : Plain t s.now srcs dests) :
    Reads s srcs dests (srcs.map (fun r => (t.settle s.now).getG r.toNat)) (s.settled t) := by
  obtain ⟨hq, hl, hb, he⟩ := h
  have hsrc : ∀ r ∈ srcs, isQ r = false := fun r hr => hq r (List.mem_append_left _ hr)
  have hdst : ∀ r ∈ dests, isQ r = false := fun r hr => hq r (List.mem_append_right _ hr)
  refine ⟨t, ht, firstUnbound_general _ hq, ?_, ?_, hl, hb, he, ?_, s.settled t, gather_general _ _ _ _ _ hsrc, ?_⟩
  · rw [filter_isQ_general hsrc]; rfl
  · rw [filter_isQ_general hdst]; rfl
  · rw [any_isQ_general hq]; rfl
  · simp only [State.keepPops, any_isQ_general hsrc, Bool.false_eq_true, if_false]

/-- The destination of a plain instruction is a general register. -/
theorem Plain.dest {t : Strand} {now : Nat} {srcs : List (BitVec 6)} {d : BitVec 6} (h : Plain t now srcs [d]) :
    isQ d = false := h.1 d (List.mem_append_right _ List.mem_cons_self)

/-! ### The shapes of register form -/

section
variable {s : State} {t : Strand} {d a b c : BitVec 6} (ht : Turn s t)
include ht

theorem wordOp1_writesOnly (h : Plain t s.now [a] [d]) (sc lat : Nat) (f : Word → Word) :
    ∃ n, runInstr sc (wordOp1 lat d a f) s = .next n ∧ WritesOnly s n t d.toNat := by
  rw [wordOp1_runs (h.reads ht)]
  exact gives_writesOnly ht h.dest _ _ _

theorem wordOp2_writesOnly (h : Plain t s.now [a, b] [d]) (sc lat : Nat) (f : Word → Word → Word) :
    ∃ n, runInstr sc (wordOp2 lat d a b f) s = .next n ∧ WritesOnly s n t d.toNat := by
  rw [wordOp2_runs (h.reads ht)]
  exact gives_writesOnly ht h.dest _ _ _

theorem wordOp3_writesOnly (h : Plain t s.now [a, b, c] [d]) (sc lat : Nat) (f : Word → Word → Word → Word) :
    ∃ n, runInstr sc (wordOp3 lat d a b c f) s = .next n ∧ WritesOnly s n t d.toNat := by
  rw [wordOp3_runs (h.reads ht)]
  exact gives_writesOnly ht h.dest _ _ _

theorem capOp1_writesOnly (h : Plain t s.now [a] [d]) (sc : Nat) (f : TV → TV) :
    ∃ n, runInstr sc (capOp1 d a f) s = .next n ∧ WritesOnly s n t d.toNat := by
  rw [capOp1_runs (h.reads ht)]
  exact gives_writesOnly ht h.dest _ _ _

theorem capOp2_writesOnly (h : Plain t s.now [a, b] [d]) (sc : Nat) (f : TV → TV → TV) :
    ∃ n, runInstr sc (capOp2 d a b f) s = .next n ∧ WritesOnly s n t d.toNat := by
  rw [capOp2_runs (h.reads ht)]
  exact gives_writesOnly ht h.dest _ _ _

/-- R103: `lui` has no source. -/
theorem lui_writesOnly (h : Plain t s.now [] [d]) (imm : BitVec 19) :
    ∃ n, exec (.lui d imm) s = .next n ∧ WritesOnly s n t d.toNat := by
  have he : exec (.lui d imm) s = gives 0 d 1 (TV.ofWord (immU imm)) (s.settled t) :=
    runs_operands (h.reads ht) (by simp only [M.bind_apply, result_ok, M.pure_apply])
  rw [he]
  exact gives_writesOnly ht h.dest _ _ _

/-- R104: `auipc` reads PCC. -/
theorem auipc_writesOnly (h : Plain t s.now [] [d]) (imm : BitVec 19) :
    ∃ n, exec (.auipc d imm) s = .next n ∧ WritesOnly s n t d.toNat := by
  have he : exec (.auipc d imm) s = gives 0 d 1
      (setAddr (t.settle s.now).pcc ((t.settle s.now).pc + immU imm).toNat) (s.settled t) :=
    runs_operands (h.reads ht) (by
      simp only [M.bind_apply, M.getStrand_apply (cur_settled s t), result_ok, M.pure_apply])
  rw [he]
  exact gives_writesOnly ht h.dest _ _ _

end

/-- Settles O30: each form is one of five shapes over its value function, or `lui` or `auipc`; a shape that reads general
registers leaves the settled state, and its result changes one register. -/
theorem registerFormsChangeOnlyTheirDestination : Obligations.RegisterFormsChangeOnlyTheirDestination := by
  unfold Obligations.RegisterFormsChangeOnlyTheirDestination
  refine ⟨fun s t d a b sc ht hp => ?_, fun s t d a b c ht hp => ?_, fun s t d imm ht hp => ?_,
    fun s t d a imm sh sc ht hp => ?_⟩ <;>
    simp only [List.forall_mem_cons, List.not_mem_nil, false_imp_iff, implies_true, and_true]
  · iterate 37 refine ⟨wordOp2_writesOnly ht hp _ _ _, ?_⟩
    iterate 4 refine ⟨capOp2_writesOnly ht hp _ _, ?_⟩
    exact capOp2_writesOnly ht hp _ _
  · exact ⟨wordOp3_writesOnly ht hp _ _ _, wordOp3_writesOnly ht hp _ _ _⟩
  · exact ⟨lui_writesOnly ht hp imm, auipc_writesOnly ht hp imm⟩
  · iterate 10 refine ⟨wordOp1_writesOnly ht hp _ _ _, ?_⟩
    refine ⟨capOp1_writesOnly ht hp _ _, ?_⟩
    iterate 5 refine ⟨wordOp1_writesOnly ht hp _ _ _, ?_⟩
    iterate 5 refine ⟨capOp1_writesOnly ht hp _ _, ?_⟩
    exact capOp1_writesOnly ht hp _ _

end Sys2Proof.Machine
end

section
/-! What stops an instruction at fetch and at its register fields (R63 to R67, R88, R148, R254). -/
namespace Sys2Proof.Machine

/-! ### Pops do not read `chk`

R65 takes a trap only of an instruction that would issue, which the model finds by running its meaning with `chk` off.
Reading operands there succeeds as it does with `chk` on: both states look the same once every `chk` is off. -/

def Strand.unchecked (t : Strand) : Strand := { t with chk := false }

def Core.unchecked (c : Core) : Core := { c with slots := c.slots.map (fun e => (e.1, e.2.unchecked)) }

/-- The state with `chk` off in every strand. -/
def State.unchecked (s : State) : State := { s with cores := s.cores.map (fun e => (e.1, e.2.unchecked)) }

theorem kfind_mapValues {α : Type} (f : α → α) (k : Nat) : ∀ m : List (Nat × α),
    kfind k (m.map (fun e => (e.1, f e.2))) = (kfind k m).map f
  | [] => rfl
  | (j, v) :: m => by
    simp only [List.map_cons, kfind, kfind_mapValues f k m]
    split <;> rfl

theorem kset_mapValues {α : Type} (f : α → α) (k : Nat) (v : α) : ∀ m : List (Nat × α),
    kset k (f v) (m.map (fun e => (e.1, f e.2))) = (kset k v m).map (fun e => (e.1, f e.2))
  | [] => rfl
  | (j, w) :: m => by
    simp only [List.map_cons, kset, kset_mapValues f k v m]
    split
    · rfl
    · split <;> rfl

/-- The later of two values set is kept. -/
theorem kset_kset {α : Type} (k : Nat) (v w : α) : ∀ m : List (Nat × α), kset k v (kset k w m) = kset k v m
  | [] => by simp [kset]
  | (j, x) :: m => by
    by_cases h1 : k < j
    · simp [kset, h1]
    · by_cases h2 : j = k
      · simp [kset, h2]
      · simp [kset, h1, h2, kset_kset k v w m]

theorem core_unchecked (s : State) (k : Nat) : s.unchecked.core k = (s.core k).unchecked := by
  simp only [State.core, kget, State.unchecked, kfind_mapValues]
  cases kfind k s.cores <;> rfl

theorem strand_unchecked (s : State) (k sl : Nat) : s.unchecked.strand k sl = (s.strand k sl).map Strand.unchecked := by
  rw [State.strand, core_unchecked, Core.unchecked, kfind_mapValues, State.strand]

theorem setCore_unchecked (s : State) (k : Nat) (c : Core) :
    s.unchecked.setCore k c.unchecked = (s.setCore k c).unchecked := by
  simp only [State.setCore, State.unchecked, kset_mapValues]

theorem updCore_unchecked {g : Core → Core} (hg : ∀ c, g c.unchecked = (g c).unchecked) (s : State) (k : Nat) :
    s.unchecked.updCore k g = (s.updCore k g).unchecked := by
  rw [State.updCore, core_unchecked, hg, setCore_unchecked, State.updCore]

theorem setStrand_setStrand (s : State) (k sl : Nat) (t u : Strand) :
    (s.setStrand k sl t).setStrand k sl u = s.setStrand k sl u := by
  simp only [State.setStrand, State.updCore, core_setCore_same, kset_kset]
  simp only [State.setCore, kset_kset]

theorem setStrand_unchecked (s : State) (k sl : Nat) (t : Strand) :
    s.unchecked.setStrand k sl t.unchecked = (s.setStrand k sl t).unchecked := by
  have hc : ({ (s.core k).unchecked with slots := kset sl t.unchecked (s.core k).unchecked.slots } : Core) =
      ({ s.core k with slots := kset sl t (s.core k).slots } : Core).unchecked := by
    simp only [Core.unchecked, kset_mapValues]
  rw [State.setStrand, State.updCore, core_unchecked, hc, setCore_unchecked, State.setStrand, State.updCore]

theorem updStrand_unchecked {g : Strand → Strand} (hg : ∀ t, g t.unchecked = (g t).unchecked) (s : State) (k sl : Nat) :
    s.unchecked.updStrand k sl g = (s.updStrand k sl g).unchecked := by
  simp only [State.updStrand, strand_unchecked]
  cases s.strand k sl with
  | none => rfl
  | some t => simp only [Option.map_some, hg, setStrand_unchecked]

theorem chan_unchecked (s : State) (h e : Nat) : s.unchecked.chan h e = s.chan h e := by
  rw [State.chan, core_unchecked]
  rfl

theorem setChan_unchecked (s : State) (h e : Nat) (c : Chan) :
    s.unchecked.setChan h e c = (s.setChan h e c).unchecked :=
  updCore_unchecked (g := fun k => { k with chans := kset e c k.chans }) (fun _ => rfl) s h

theorem putBytes_unchecked (bs : List Byte) : ∀ (s : State) (a : Nat),
    s.unchecked.putBytes a bs = (s.putBytes a bs).unchecked := by
  induction bs with
  | nil => exact fun _ _ => rfl
  | cons b bs ih => exact fun s a => ih (s.setByte a b) (a + 1)

theorem write_unchecked (s : State) (a : Nat) (bs : List Byte) : s.unchecked.write a bs = (s.write a bs).unchecked := by
  unfold State.write
  split
  · rfl
  · rw [putBytes_unchecked]
    rfl

theorem writePart_unchecked (s : State) (a : Nat) (v : BitVec 128) :
    s.unchecked.writePart a v = (s.writePart a v).unchecked := by
  simp only [State.writePart, State.writeTagged, Bool.false_and, Bool.false_eq_true, if_false, write_unchecked]

theorem placeSlot_unchecked (s : State) (h e : Nat) (bytes : List Byte) :
    s.unchecked.placeSlot h e bytes = (s.placeSlot h e bytes).map State.unchecked := by
  simp only [State.placeSlot, chan_unchecked]
  cases s.chan h e with
  | none => rfl
  | some c =>
    dsimp only
    split
    · rfl
    · simp only [setChan_unchecked, write_unchecked, Option.map_some]

theorem bindSlot_unchecked (s : State) (k sl q h e i : Nat) :
    s.unchecked.bindSlot k sl q h e i = (s.bindSlot k sl q h e i).unchecked :=
  updStrand_unchecked (fun t => by
    simp only [Strand.unchecked]
    cases kfind q t.q with
    | none => rfl
    | some b =>
      dsimp only
      split <;> rfl) s k sl

def Replayed.unchecked : Replayed → Replayed
  | .done s i => .done s.unchecked i
  | .waits => .waits
  | .dropped => .dropped

theorem replayItem_unchecked (s : State) (h : Nat) (x : GutterItem) :
    s.unchecked.replayItem h x = (s.replayItem h x).unchecked := by
  cases x with
  | part e c0 q p tgt v =>
    simp only [State.replayItem, chan_unchecked]
    cases s.chan h e with
    | none => rfl
    | some c =>
      dsimp only
      split
      · split
        · rfl
        · simp only [setChan_unchecked, writePart_unchecked, bindSlot_unchecked, Replayed.unchecked]
      · simp only [setChan_unchecked, writePart_unchecked, Replayed.unchecked]
  | whole e d q bytes =>
    simp only [State.replayItem, chan_unchecked, placeSlot_unchecked]
    split
    · rfl
    · cases s.placeSlot h e bytes <;> rfl
  | message m =>
    simp only [State.replayItem, chan_unchecked, placeSlot_unchecked]
    split
    · rfl
    · cases s.placeSlot h m.entry (natBytes 16 m.val.toNat) <;> rfl
  | status v =>
    have hcl : s.unchecked.cluster (clusterOf h) = s.cluster (clusterOf h) := rfl
    simp only [State.replayItem, hcl]
    split <;> rfl

theorem reportDropped_unchecked (s : State) (m : Message) :
    s.unchecked.reportDropped m = (s.reportDropped m).unchecked := by
  unfold State.reportDropped
  split <;> rfl

theorem replayGutter_unchecked (h : Nat) : ∀ (n : Nat) (items kept : List GutterItem) (s : State),
    State.replayGutter h n items kept s.unchecked = (State.replayGutter h n items kept s).unchecked := by
  intro n
  induction n with
  | zero => exact fun items kept s =>
      updCore_unchecked (g := fun c => { c with gutter := kept.reverse ++ items }) (fun _ => rfl) s h
  | succ n ih =>
    intro items kept s
    cases items with
    | nil => exact updCore_unchecked (g := fun c => { c with gutter := kept.reverse }) (fun _ => rfl) s h
    | cons x r =>
      unfold State.replayGutter
      rw [replayItem_unchecked]
      split
      · exact ih _ _ _
      · cases s.replayItem h x with
        | waits => exact ih _ _ _
        | done s1 slot => exact ih _ _ _
        | dropped =>
          dsimp only [Replayed.unchecked]
          cases x with
          | message m =>
            dsimp only
            rw [reportDropped_unchecked]
            exact ih _ _ _
          | part => exact ih _ _ (s.refuse _ _ _)
          | whole => exact ih _ _ (s.refuse _ _ _)
          | status => exact ih _ _ _

theorem drainGutter_unchecked (s : State) (h : Nat) : s.unchecked.drainGutter h = (s.drainGutter h).unchecked := by
  simp only [State.drainGutter, core_unchecked, Core.unchecked]
  split
  · rfl
  · exact replayGutter_unchecked h _ _ _ s

theorem popPart_unchecked (s : State) (k sl q : Nat) :
    s.unchecked.popPart k sl q = (s.popPart k sl q).map (fun r => (r.1, r.2.unchecked)) := by
  simp only [State.popPart, strand_unchecked]
  cases s.strand k sl with
  | none => rfl
  | some t =>
    have hq : t.unchecked.q = t.q := rfl
    dsimp only [Option.map_some]
    rw [hq]
    cases kfind q t.q with
    | none => rfl
    | some b =>
      have hb : ∀ x : QBind, t.unchecked.setBind q x = (t.setBind q x).unchecked := fun _ => rfl
      have hr : ∀ a, s.unchecked.readTagged a = s.readTagged a := fun _ => rfl
      have hcl : ∀ cl, s.unchecked.cluster cl = s.cluster cl := fun _ => rfl
      dsimp only
      cases b.kind with
      | command => rfl
      | status =>
        dsimp only
        rw [hcl]
        split <;> rfl
      | channel =>
        dsimp only
        rw [chan_unchecked]
        cases s.chan b.home b.entry with
        | none => rfl
        | some c =>
          simp only [setChan_unchecked, hb, hr, setStrand_unchecked]
          repeat' split
          all_goals rfl

theorem popAt_unchecked (s : State) (k sl q : Nat) :
    s.unchecked.popAt k sl q = (s.popAt k sl q).map (fun r => (r.1, r.2.unchecked)) := by
  simp only [State.popAt, popPart_unchecked]
  cases s.popPart k sl q with
  | none => rfl
  | some r => simp only [Option.map_some, drainGutter_unchecked]

theorem gather_unchecked (k sl : Nat) (u : Strand) (rs : List (BitVec 6)) : ∀ (popped : List TV) (s : State),
    gather k sl rs popped u.unchecked s.unchecked =
      (gather k sl rs popped u s).map (fun r => (r.1, r.2.unchecked)) id := by
  induction rs with
  | nil => exact fun _ _ => rfl
  | cons r rs ih =>
    intro popped s
    have hg : u.unchecked.getG r.toNat = u.getG r.toNat := rfl
    unfold gather
    rw [hg]
    split
    · cases popped with
      | cons v vs =>
        dsimp only
        rw [ih]
        cases gather k sl rs vs u s <;> rfl
      | nil =>
        dsimp only
        rw [popAt_unchecked]
        cases s.popAt k sl (qNum r) with
        | none => rfl
        | some p =>
          dsimp only [Option.map_some]
          rw [ih]
          cases gather k sl rs [] u p.2 <;> rfl
    · rw [ih]
      cases gather k sl rs popped u s <;> rfl

theorem queueHeld_unchecked (s : State) (k sl : Nat) (qs : List Nat) :
    s.unchecked.queueHeld k sl qs = s.queueHeld k sl qs := by
  have hm : s.unchecked.mine k sl = s.mine k sl := by
    simp only [State.mine, strand_unchecked]
    cases s.strand k sl <;> rfl
  have hs : (s.unchecked.core k).seq = (s.core k).seq := by rw [core_unchecked]; rfl
  simp only [State.queueHeld, State.acquiring, State.fencedIn, hm, hs]

theorem firstUnbound_unchecked (t : Strand) (rs : List (BitVec 6)) :
    firstUnbound t.unchecked rs = firstUnbound t rs := by
  induction rs with
  | nil => rfl
  | cons r rs ih => simp only [firstUnbound, ih]; rfl

theorem firstWrongEnd_unchecked (t : Strand) (pop : Bool) (rs : List (BitVec 6)) :
    firstWrongEnd t.unchecked pop rs = firstWrongEnd t pop rs := by
  induction rs with
  | nil => rfl
  | cons r rs ih =>
    have hq : t.unchecked.q = t.q := rfl
    simp only [firstWrongEnd, ih, hq]

/-! ### The ways in which reading operands ends -/

section
variable {s : State} {t : Strand} {fields srcs dests : List (BitVec 6)} (hc : s.cur = some t)
include hc

theorem operandsOf_unbound {q : Nat} (h : firstUnbound t fields = some q) :
    operandsOf fields srcs dests s = .error (.trap 0x0C (BitVec.ofNat 64 q)) s := by
  simp [operandsOf, boundFirst, M.bind_apply, M.getStrand_apply hc, h]

theorem boundFirst_ok (h : firstUnbound t fields = none) : boundFirst fields s = .ok () s := by
  simp [boundFirst, M.bind_apply, M.getStrand_apply hc, h]

variable (h1 : firstUnbound t fields = none)
include h1

theorem operandsOf_wrongSource {q : Nat} (h : firstWrongEnd t true (srcs.filter isQ) = some q) :
    operandsOf fields srcs dests s = .error (.trap 0x14 (BitVec.ofNat 64 q)) s := by
  simp [operandsOf, M.bind_apply, boundFirst_ok hc h1, M.getStrand_apply hc, h]

variable (h2 : firstWrongEnd t true (srcs.filter isQ) = none)
include h2

theorem operandsOf_wrongDest {q : Nat} (h : firstWrongEnd t false (dests.filter isQ) = some q) :
    operandsOf fields srcs dests s = .error (.trap 0x14 (BitVec.ofNat 64 q)) s := by
  simp [operandsOf, M.bind_apply, boundFirst_ok hc h1, M.getStrand_apply hc, h2, h]

variable (h3 : firstWrongEnd t false (dests.filter isQ) = none) (h4 : lostRead t srcs = none)
include h3 h4

theorem operandsOf_busy (h : anyBusy t (srcs ++ dests) = true) :
    operandsOf fields srcs dests s = .error (.wait .inSlot) s := by
  simp [operandsOf, M.bind_apply, boundFirst_ok hc h1, M.getStrand_apply hc, h2, h3, h4, h]

variable (h5 : anyBusy t (srcs ++ dests) = false)
include h5

theorem operandsOf_held
    (h : (fields.any isQ && s.queueHeld s.turn.1 s.turn.2 ((fields.filter isQ).map qNum)) = true) :
    operandsOf fields srcs dests s = .error (.wait .inSlot) s := by
  simp only [operandsOf, M.bind_apply, boundFirst_ok hc h1, M.getStrand_apply hc, h2, h3, h4, h5, h, M.self_apply, M.get_apply]
  rfl

variable (h6 : (fields.any isQ && s.queueHeld s.turn.1 s.turn.2 ((fields.filter isQ).map qNum)) = false)
include h6

theorem operandsOf_empty {q : Nat} (h : gather s.turn.1 s.turn.2 srcs t.popped t s = .inr q) :
    operandsOf fields srcs dests s = .error (.wait (.pop (nextPop srcs t.popped.length))) s := by
  simp only [operandsOf, M.bind_apply, boundFirst_ok hc h1, M.getStrand_apply hc, h2, h3, h4, h5, h6, h, M.self_apply, M.get_apply]
  rfl

theorem operandsOf_early {r : Nat} {vals : List TV} {n : State}
    (h : gather s.turn.1 s.turn.2 srcs t.popped t s = .inl (vals, n)) (hk : t.chk = true)
    (hr : firstEarly t s.now srcs = some r) :
    operandsOf fields srcs dests s = .error (.undersized r) (n.keepPops srcs vals) := by
  simp only [operandsOf, M.bind_apply, boundFirst_ok hc h1, M.getStrand_apply hc, h2, h3, h4, h5, h6, h, M.self_apply,
    M.get_apply, hk, hr]
  rfl

end

/-- With `chk` off the same operands are read. -/
theorem operandsOf_unchecked {s n : State} {t : Strand} {fields srcs dests : List (BitVec 6)} {vals : List TV}
    (h1 : firstUnbound (t.settle s.now) fields = none)
    (h2 : firstWrongEnd (t.settle s.now) true (srcs.filter isQ) = none)
    (h3 : firstWrongEnd (t.settle s.now) false (dests.filter isQ) = none) (h4 : lostRead (t.settle s.now) srcs = none)
    (h5 : anyBusy (t.settle s.now) (srcs ++ dests) = false)
    (h6 : (fields.any isQ && (s.settled t).queueHeld s.turn.1 s.turn.2 ((fields.filter isQ).map qNum)) = false)
    (h : gather s.turn.1 s.turn.2 srcs (t.settle s.now).popped (t.settle s.now) (s.settled t) = .inl (vals, n)) :
    ∃ l s2, operandsOf fields srcs dests
      ((s.settled t).updStrand s.turn.1 s.turn.2 (fun t => { t with chk := false })) = .ok l s2 := by
  have he : (s.settled t).updStrand s.turn.1 s.turn.2 (fun t => { t with chk := false }) =
      s.setStrand s.turn.1 s.turn.2 (t.settle s.now).unchecked :=
    (updStrand_eq (turn_strand_settled s t) _).trans (setStrand_setStrand _ _ _ _ _)
  have hu : (s.setStrand s.turn.1 s.turn.2 (t.settle s.now).unchecked).unchecked = (s.settled t).unchecked := by
    rw [State.settled, ← setStrand_unchecked, ← setStrand_unchecked]
    rfl
  rw [he]
  generalize hm : s.setStrand s.turn.1 s.turn.2 (t.settle s.now).unchecked = m at hu
  have hc : m.cur = some (t.settle s.now).unchecked := hm ▸ strand_setStrand_same s _ _ _
  have ht : m.turn = s.turn := hm ▸ rfl
  have hq : m.queueHeld s.turn.1 s.turn.2 = (s.settled t).queueHeld s.turn.1 s.turn.2 :=
    funext fun qs => by rw [← queueHeld_unchecked, hu, queueHeld_unchecked]
  have hg := gather_unchecked s.turn.1 s.turn.2 (t.settle s.now).unchecked srcs (t.settle s.now).popped m
  rw [hu, show (t.settle s.now).unchecked.unchecked = (t.settle s.now).unchecked from rfl, gather_unchecked, h] at hg
  cases hg' : gather s.turn.1 s.turn.2 srcs (t.settle s.now).popped (t.settle s.now).unchecked m with
  | inr q => rw [hg'] at hg; cases hg
  | inl p =>
    exact ⟨_, _, operandsOf_ok hc ((firstUnbound_unchecked _ _).trans h1) ((firstWrongEnd_unchecked _ _ _).trans h2)
      ((firstWrongEnd_unchecked _ _ _).trans h3) h4 h5 (fun hk => by cases hk) (by rw [ht, hq]; exact h6)
      (by rw [ht]; exact hg')⟩

/-! ### What stops an instruction of two sources -/

/-- A meaning of two sources whose operands stop it. -/
theorem wordOp2_stops {s s2 : State} {e : Stop} {lat : Nat} {d a b : BitVec 6} {f : Word → Word → Word}
    (h : operandsOf [a, b, d] [a, b] [d] s = .error e s2) : wordOp2 lat d a b f s = .error e s2 := by
  have ho : operands [a, b] [d] s = .error e s2 := h
  simp only [wordOp2, operand2, M.bind_apply, ho]

/-- A meaning of two sources completes once it has its operands. -/
theorem wordOp2_completes {s s2 : State} {l : List TV} {lat : Nat} {d a b : BitVec 6} {f : Word → Word → Word}
    (h : operandsOf [a, b, d] [a, b] [d] s = .ok l s2) : ∃ s3, wordOp2 lat d a b f s = .ok .next s3 := by
  have ho : operands [a, b] [d] s = .ok l s2 := h
  exact ⟨s2.written d lat (TV.ofWord (f (l.getD 0 TV.zero).lo (l.getD 1 TV.zero).lo)), by
    simp only [wordOp2, operand2, M.bind_apply, ho, M.pure_apply, result_ok]⟩

/-- R65: an instruction that would issue, and reads a register too early, traps. -/
theorem runInstr_undersized {sc r : Nat} {m : M Flow} {s s2 s3 : State} {t : Strand} {flow : Flow} (h : Turn s t)
    (hm : m (s.settled t) = .error (.undersized r) s2)
    (hi : m ((s.settled t).updStrand s.turn.1 s.turn.2 (fun t => { t with chk := false })) = .ok flow s3) :
    runInstr sc m s = traps 0x07 (BitVec.ofNat 64 r) t s2 := by
  have hi' : m ((s.settled t).updStrand (s.settled t).turn.1 (s.settled t).turn.2 (fun t => { t with chk := false })) =
    .ok flow s3 := hi
  unfold State.settled at hm hi'
  simp only [runInstr, h.1, h.2, hm, Option.isSome_none, Bool.false_eq_true, if_false, undersizedStop, hi']

/-- R63: a push that still blocks holds the strand back. -/
theorem runInstr_pushBlocked {sc : Nat} {m : M Flow} {s : State} {t : Strand} (hc : s.cur = some t)
    (hp : t.pendPush ≠ none) : runInstr sc m s = waits .inSlot t s := by
  simp only [runInstr, hc, Option.isSome_iff_ne_none.2 hp, if_true]
  rfl

theorem popped_putG (u : Strand) (r : Nat) (v : TV) : (u.putG r v).popped = u.popped := by
  unfold Strand.putG
  split <;> rfl

theorem popped_putResults (l : List Pending) (u : Strand) :
    (l.foldl (fun (u : Strand) p => u.putG p.reg p.val) u).popped = u.popped := by
  induction l generalizing u with
  | nil => rfl
  | cons p l ih => exact (ih _).trans (popped_putG u p.reg p.val)

theorem settle_popped (t : Strand) (now : Nat) : (t.settle now).popped = t.popped := by
  simp only [Strand.settle, Strand.joinFlags, popped_putResults]

/-- A first source whose channel holds no value. -/
theorem gather_empty {k sl : Nat} {a : BitVec 6} {rs : List (BitVec 6)} {u : Strand} {s : State} (hq : isQ a = true)
    (h : s.popAt k sl (qNum a) = none) : gather k sl (a :: rs) [] u s = .inr (qNum a) := by
  simp only [gather, hq, if_true, h]

/-! ### The checks of a fetch (R132, R148) -/

theorem fetchFail_cases (s : State) (k : Nat) (t : Strand) :
    (t.pcc.tag = false → s.fetchFail k t = some (0x03, t.pc)) ∧
    (t.pcc.tag = true → capHas t.pcc permExec = false → s.fetchFail k t = some (0x05, t.pc)) ∧
    (t.pcc.tag = true → capHas t.pcc permExec = true → ¬ InBounds t.pcc t.pc.toNat → s.fetchFail k t = some (0x04, t.pc)) ∧
    (t.pcc.tag = true → capHas t.pcc permExec = true → InBounds t.pcc t.pc.toNat → t.pc.toNat / 2 ^ 60 = 8 →
      (boundOffset (s.core k).fetchBound ≤ t.pc.toNat % 2 ^ 19 → s.fetchFail k t = some (0x08, t.pc)) ∧
      (t.pc.toNat % 2 ^ 19 < boundOffset (s.core k).fetchBound → s.fetchFail k t = none)) := by
  refine ⟨fun h => ?_, fun h hx => ?_, fun h hx hb => ?_, fun h hx hb h8 => ⟨fun ho => ?_, fun ho => ?_⟩⟩ <;>
    simp only [State.fetchFail, h, Bool.not_false, Bool.not_true, if_true, Bool.false_eq_true, if_false]
  · rw [hx]
    rfl
  · have hout : (decide ((t.pc.toNat : Int) < capBase t.pcc) || decide (capTop t.pcc < (t.pc.toNat : Int) + 4)) = true := by
      simp only [InBounds] at hb
      simp only [Bool.or_eq_true, decide_eq_true_eq]
      omega
    simp only [hx, Bool.not_true, Bool.false_eq_true, if_false, hout, if_true]
  all_goals
    obtain ⟨h1, h2⟩ := hb
    have hin : (decide ((t.pc.toNat : Int) < capBase t.pcc) || decide (capTop t.pcc < (t.pc.toNat : Int) + 4)) = false := by
      simp only [Bool.or_eq_false_iff, decide_eq_false_iff_not]
      omega
    simp only [hx, Bool.not_true, Bool.false_eq_true, if_false, hin, h8, ne_eq, not_true_eq_false]
  · rw [if_pos ho]
  · rw [if_neg (Nat.not_le.2 ho)]

/-- Settles O31: the ways in which reading operands ends are taken in the order of R63, and `add` ends as they do; the trap
of R65 stands because its meaning reads the same operands with `chk` off. -/
theorem fetchAndOperandsStopInstructions : Obligations.FetchAndOperandsStopInstructions := by
  unfold Obligations.FetchAndOperandsStopInstructions
  refine ⟨fun s t u d a b sc hcur hu => ⟨fun hp => ?_, fun hp => runInstr_pushBlocked hcur hp⟩,
    fun s t w ht => runInstr_trap (sc := 0) (m := trap 0x01 (w.setWidth 64)) ht rfl, fun s t c v hcur hf => ?_, fetchFail_cases⟩
  · subst hu
    have ht : Turn s t := ⟨hcur, hp⟩
    have hc := cur_settled s t
    refine ⟨fun q h => runInstr_trap ht (wordOp2_stops (operandsOf_unbound hc h)), fun h1 =>
      ⟨fun q h => runInstr_trap ht (wordOp2_stops (operandsOf_wrongSource hc h1 h)),
        fun q h2 h => runInstr_trap ht (wordOp2_stops (operandsOf_wrongDest hc h1 h2 h)), fun h2 h3 h4 =>
        ⟨fun h => runInstr_wait ht (wordOp2_stops (operandsOf_busy hc h1 h2 h3 h4 h)), fun h5 =>
          ⟨fun hany h => ?_, fun h6 => ⟨fun r vals n hg hk hr => ?_, fun q hpop hq hqn h => ?_⟩⟩⟩⟩⟩
    · exact runInstr_wait ht (wordOp2_stops (operandsOf_held hc h1 h2 h3 h4 h5 (by rw [hany, Bool.true_and]; exact h)))
    · obtain ⟨l, s2, hok⟩ := operandsOf_unchecked h1 h2 h3 h4 h5 h6 hg
      obtain ⟨s3, hdone⟩ := wordOp2_completes (lat := 1) (f := fun x y => x + y) hok
      exact runInstr_undersized ht (wordOp2_stops (operandsOf_early hc h1 h2 h3 h4 h5 h6 hg hk hr)) hdone
    · have hpop' : (t.settle s.now).popped = [] := (settle_popped t s.now).trans hpop
      have hg : gather s.turn.1 s.turn.2 [a, b] (t.settle s.now).popped (t.settle s.now) (s.settled t) = .inr (qNum a) := by
        rw [hpop']
        exact gather_empty hq (hqn ▸ h)
      have hn : nextPop [a, b] (t.settle s.now).popped.length = q := by
        simp [hpop', nextPop, List.filter_cons, hq, hqn]
      rw [← hn]
      exact runInstr_wait ht (wordOp2_stops (operandsOf_empty hc h1 h2 h3 h4 h5 h6 hg))
  · show execFetchCheckFailure c v s = _
    simp only [execFetchCheckFailure, hcur, hf, if_true]

end Sys2Proof.Machine
end

section
/-! The entries of the hypervector instructions (R169, R189, R237): where the claim about them fails. -/
namespace Sys2Proof.Machine

/-! ### A slot table out of order

The claim asks for a free entry before the g operand is popped, and the model looks for one after the pop. A pop replays the
gutter of its core, and a replayed part writes the binding of its sender's strand back (R277). In a slot table that is not in
the order of its keys that write gives the sender a second row, so that the entries granted to its loop (R188) count twice
and no entry is left. -/

namespace UnsortedSlots

/-- The strand that pops its status port through q0. -/
def popper : Strand := { bootStrand (2 ^ 63) with q := [(0, ⟨.status, 0, 0, true, 0, 0, TV.zero, 0⟩)] }

/-- A strand inside the body of a loop of eight entries. -/
def looper : Strand := { bootStrand (2 ^ 63) with loop := some ⟨8, 1, 0, 0, 0⟩ }

/-- A part that the looper pushed to channel entry 0 of core 0, waiting in the gutter. -/
def waitingPart : GutterItem := .part 0 ⟨0, 2, 0#32, 0, 0, 0⟩ 0 0 none 0#128

/-- Core 0: the popper in slot 0, the looper in slot 2, out of order behind a strand in slot 3. -/
def core0 : Core := { Core.init with
  slots := [(0, popper), (3, bootStrand (2 ^ 63)), (2, looper)], chans := [(0, ⟨0, 16, 1, 0, 0, 1, [], [], 0⟩)],
  gutter := [waitingPart] }

/-- The popper has the turn, and its status port holds a word. -/
def start : State := { State.reset with
  turn := (0, 0), cores := [(0, core0)], clusters := [(0, { Cluster.init with status := [(0, [0#128])] })] }

/-- The state after the pop. -/
def popped : State :=
  (((start.settled popper).updCluster 0 (fun c => { c with status := kput [] 0 [] c.status })).drainGutter 0).keepPops
    [56#6] [TV.zero]

/-- The entry of `hperm` with the popped value. -/
def entry : VEntry := { hEntry .hperm 0 0 0 0 0 0 with g := TV.zero }

theorem turn_popper : Turn start popper := ⟨rfl, rfl⟩

theorem entryFree_start : EntryFree (start.settled popper) (popper.settle start.now) := ⟨rfl, .inr (by decide)⟩

theorem reads_popped : Reads start [56#6] [] [TV.zero] popped :=
  ⟨popper, turn_popper, by decide, by decide, by decide, by decide, by decide, by decide, by decide, _, rfl, rfl⟩

theorem cur_popped : popped.cur = some { popper with popped := [TV.zero] } := rfl

theorem entryPasses_popped : EntryPasses popped { popper with popped := [TV.zero] } entry :=
  ⟨by decide, by decide, by decide, by decide, by decide⟩

/-- After the pop no entry is left. -/
theorem freeEntries_popped : (popped.core 0).freeEntries = 0 := by decide

/-- Instructions that core 0 has completed. -/
def retiredOf : Host.Outcome State Fault Refusal → Word
  | .next n => (n.core 0).retired
  | _ => 0#64

/-- The instruction waits. -/
theorem retired_hperm : retiredOf (exec (.hperm 0#3 0#3 56#6) start) = 0#64 := by decide

/-- It would have completed with its entry. -/
theorem retired_taken : retiredOf (goesOn 0 (popped.taken { popper with popped := [TV.zero] } entry)) = 1#64 := by decide

end UnsortedSlots

/-- Refutes O43: `hperm` of the state `start`, whose slot table is out of order, finds an entry free before its pop and
none after it, and waits where the claim has it take its entry. -/
theorem not_reductionsAndHypervectorFormsTakeTheirEntries :
    ¬ Obligations.ReductionsAndHypervectorFormsTakeTheirEntries := by
  unfold Obligations.ReductionsAndHypervectorFormsTakeTheirEntries
  rintro ⟨⟨hforms, -⟩, -⟩
  obtain ⟨-, hperm, -⟩ := hforms 0#3 0#3 0#3 0#2 0#2 0#1
  have htakes := hperm UnsortedSlots.start UnsortedSlots.popped UnsortedSlots.popper _ 56#6 TV.zero UnsortedSlots.turn_popper
    UnsortedSlots.entryFree_start UnsortedSlots.reads_popped UnsortedSlots.cur_popped UnsortedSlots.entryPasses_popped
  have hretired := (UnsortedSlots.retired_hperm.symm.trans (congrArg UnsortedSlots.retiredOf htakes)).trans
    UnsortedSlots.retired_taken
  exact absurd hretired (by decide)

end Sys2Proof.Machine
end

section
/-! The shape instructions (R166 to R168). -/
namespace Sys2Proof.Machine

/-! ### Bits of a record -/

/-- A number below a power of two, from its parts above and below a bit. -/
theorem two_pow_mul_add_lt {a b i n : Nat} (h : i ≤ n) (ha : a < 2 ^ (n - i)) (hb : b < 2 ^ i) : 2 ^ i * a + b < 2 ^ n :=
  calc 2 ^ i * a + b < 2 ^ i * a + 2 ^ i := Nat.add_lt_add_left hb _
    _ = 2 ^ i * (a + 1) := by ring
    _ ≤ 2 ^ i * 2 ^ (n - i) := Nat.mul_le_mul_left _ ha
    _ = 2 ^ n := by rw [← pow_add, Nat.add_sub_cancel' h]

theorem setBits_toNat (x : Shape) {lo w : Nat} (h : lo + w ≤ 512) (v : Nat) :
    (x.setBits lo w v).bits.toNat =
      2 ^ lo * (2 ^ w * (x.bits.toNat / 2 ^ lo / 2 ^ w) + v % 2 ^ w) + x.bits.toNat % 2 ^ lo := by
  have hx := x.bits.isLt
  simp only [Shape.setBits, BitVec.toNat_ofNat]
  generalize x.bits.toNat = X at hx ⊢
  have hlow : X % 2 ^ lo < 2 ^ lo := Nat.mod_lt _ (Nat.two_pow_pos _)
  have hv : v % 2 ^ w < 2 ^ w := Nat.mod_lt _ (Nat.two_pow_pos _)
  have hhigh : X / 2 ^ lo / 2 ^ w < 2 ^ (512 - lo - w) := by
    rw [Nat.div_div_eq_div_mul, ← pow_add, Nat.div_lt_iff_lt_mul (Nat.two_pow_pos _), ← pow_add]
    exact hx.trans_le (Nat.pow_le_pow_right (by decide) (by omega))
  have hsum : X - X / 2 ^ lo % 2 ^ w * 2 ^ lo + v % 2 ^ w * 2 ^ lo =
      2 ^ lo * (2 ^ w * (X / 2 ^ lo / 2 ^ w) + v % 2 ^ w) + X % 2 ^ lo := by
    have h1 := Nat.div_add_mod X (2 ^ lo)
    have h2 := Nat.div_add_mod (X / 2 ^ lo) (2 ^ w)
    generalize X % 2 ^ lo = L at h1 ⊢
    generalize X / 2 ^ lo / 2 ^ w = H at h2 ⊢
    generalize X / 2 ^ lo % 2 ^ w = O at h2 ⊢
    rw [← h1, ← h2]
    have : 2 ^ lo * (2 ^ w * H + O) + L = O * 2 ^ lo + (2 ^ lo * (2 ^ w * H) + L) := by ring
    rw [this, Nat.add_sub_cancel_left]
    ring
  rw [hsum]
  exact Nat.mod_eq_of_lt (two_pow_mul_add_lt (by omega) (two_pow_mul_add_lt (by omega) hhigh hv) hlow)

/-- R168: the field reads as written, the other bits as before. -/
theorem setBits_getLsbD (x : Shape) {lo w : Nat} (h : lo + w ≤ 512) (v i : Nat) :
    (x.setBits lo w v).bits.getLsbD i =
      if lo ≤ i ∧ i < lo + w then v.testBit (i - lo) else x.bits.getLsbD i := by
  simp only [← BitVec.testBit_toNat, setBits_toNat x h]
  rw [Nat.testBit_two_pow_mul_add _ (Nat.mod_lt _ (Nat.two_pow_pos _)),
    Nat.testBit_two_pow_mul_add _ (Nat.mod_lt _ (Nat.two_pow_pos _))]
  by_cases h1 : i < lo
  · rw [if_pos h1, if_neg (by omega), Nat.testBit_mod_two_pow, decide_eq_true h1, Bool.true_and]
  · rw [if_neg h1]
    by_cases h2 : i - lo < w
    · rw [if_pos h2, if_pos (by omega), Nat.testBit_mod_two_pow, decide_eq_true h2, Bool.true_and]
    · rw [if_neg h2, if_neg (by omega), Nat.testBit_div_two_pow, Nat.testBit_div_two_pow]
      congr 1
      omega

/-- R168: the bits of a record after a write of a selected part. -/
theorem set_getLsbD (x : Shape) (sel : Nat) (w : TV) (i : Nat) : (x.set sel w).bits.getLsbD i =
    (if sel = 0 ∧ i < 128 then w.bits.getLsbD i
     else if 2 ≤ sel ∧ sel ≤ 7 ∧ 64 * sel ≤ i ∧ i < 64 * sel + 64 then w.lo.getLsbD (i - 64 * sel)
     else x.bits.getLsbD i) := by
  unfold Shape.set
  by_cases h0 : sel = 0
  · subst h0
    simp [setBits_getLsbD x (show 0 + 128 ≤ 512 by decide), BitVec.testBit_toNat]
  · by_cases h2 : 2 ≤ sel ∧ sel ≤ 7
    · have hsel : 64 * sel + 64 ≤ 512 := by omega
      simp only [h0, if_false, false_and, h2, true_and, and_self, if_true, setBits_getLsbD x hsel, BitVec.testBit_toNat]
    · have hn : ¬ (2 ≤ sel ∧ sel ≤ 7 ∧ 64 * sel ≤ i ∧ i < 64 * sel + 64) := fun h => h2 ⟨h.1, h.2.1⟩
      simp only [h0, if_false, false_and, h2, hn]

theorem set_tag (x : Shape) (sel : Nat) (w : TV) : (x.set sel w).tag = if sel = 0 then w.tag else x.tag := by
  unfold Shape.set
  by_cases h0 : sel = 0
  · simp only [h0, if_true]
  · by_cases h2 : 2 ≤ sel ∧ sel ≤ 7
    · simp only [h0, if_false, h2, and_self, if_true, Shape.setBits]
    · simp only [h0, if_false, h2]

theorem rawCursor_eq (x : Shape) {d : Nat} (hd : d < 4) :
    x.rawCursor d = x.bits.toNat / 2 ^ (448 + 16 * d) % 2 ^ 16 := by
  simp only [Shape.rawCursor, Shape.field, Shape.word, BitVec.extractLsb'_toNat, Nat.shiftRight_eq_div_pow]
  refine Nat.eq_of_testBit_eq fun i => ?_
  simp only [Nat.testBit_mod_two_pow, Nat.testBit_div_two_pow]
  by_cases hi : i < 16
  · have hb : i + 16 * d < 64 := by omega
    simp only [hi, hb, decide_true, Bool.true_and]
    congr 1
    omega
  · simp only [hi, decide_false, Bool.false_and]

/-- R168: a cursor moves modulo 2^16. -/
theorem advance_rawCursor (x : Shape) {d : Nat} (hd : d < 4) (v : Nat) :
    (x.advance d v).rawCursor d = (x.rawCursor d + v) % 2 ^ 16 := by
  rw [rawCursor_eq _ hd, Shape.advance, setBits_toNat x (by omega),
    Nat.mul_add_div (Nat.two_pow_pos _), Nat.div_eq_of_lt (Nat.mod_lt _ (Nat.two_pow_pos _)), Nat.add_zero, Nat.mul_add_mod,
    Nat.mod_mod]

theorem advance_tag (x : Shape) (d v : Nat) : (x.advance d v).tag = x.tag := rfl

theorem get_eq (x : Shape) (sel : Nat) : x.get sel = if sel = 0 then ⟨x.bits.extractLsb' 0 128, x.tag⟩
    else if 2 ≤ sel ∧ sel ≤ 7 then TV.ofWord (x.bits.extractLsb' (64 * sel) 64)
    else if sel = 8 then TV.ofNat (if x.valid then 1 else 0) else TV.zero := by
  have hw : ∀ n, TV.ofNat (x.word n) = TV.ofWord (x.bits.extractLsb' (64 * n) 64) := fun n => by
    rw [TV.ofNat, Shape.word, BitVec.ofNat_toNat, TV.ofWord]
  simp only [Shape.get, Shape.cap, hw]

/-! ### Reaching a location -/

theorem gated_here {p : Place} {s : State} {cl n loc : Nat} {w : Bool} (h : p.gated s cl n w = .here loc) :
    (s.gateShut cl && s.leavesCluster cl loc n w) = false := by
  cases p with
  | here a =>
    simp only [Place.gated] at h
    split at h
    · cases h
    next hg => cases h; exact Bool.eq_false_iff.2 hg
  | bad => cases h
  | refused => cases h
  | event => cases h
  | pcie => cases h
  | window => cases h
  | fabric => cases h
  | missing => cases h

/-- R14, R142: a scratchpad address is its own location. -/
theorem spadPlace_here {s : State} {k x n loc : Nat} (h : s.spadPlace k x n = .here loc) : loc = x := by
  unfold State.spadPlace at h
  dsimp only at h
  repeat' split at h
  all_goals cases h
  all_goals rfl

/-- R13, R396: the packet of an access that has a place in cached memory meets no closed gate. -/
theorem place_here_gate {s : State} {k x n loc : Nat} {w fm : Bool} (hx : x < 2 ^ 64)
    (h : s.place k x n w fm = .here loc) :
    (s.gateShut (clusterOf k) && cachedLoc loc && s.leavesCluster (clusterOf k) loc n w) = false := by
  have hcached : (s.gateShut (clusterOf k) && s.leavesCluster (clusterOf k) loc n w) = false →
      (s.gateShut (clusterOf k) && cachedLoc loc && s.leavesCluster (clusterOf k) loc n w) = false := by
    cases s.gateShut (clusterOf k) <;> cases cachedLoc loc <;> simp
  unfold State.place State.placeAs at h
  split at h
  · split at h
    · cases h
    · exact hcached (gated_here h)
  next hlow =>
    split at h
    next h0 =>
      have hl := spadPlace_here h
      have hc : cachedLoc loc = false := by
        simp only [cachedLoc, Bool.or_eq_false_iff, decide_eq_false_iff_not]
        omega
      rw [hc, Bool.and_false, Bool.false_and]
    · split at h
      · cases h
      · split at h
        · cases h
        · exact hcached (gated_here h)
    · cases h
    · dsimp only at h
      split_ifs at h
    · split at h <;> cases h
    · cases h

/-- A register's address has 64 bits. -/
theorem capAddr_lt (c : TV) : capAddr c < 2 ^ 64 := Nat.mod_lt _ (by decide)

/-- R95, R278: an access that reaches its location is performed there. -/
theorem access_reaches {s : State} {c : TV} {kind : AccessKind} {fm acq : Bool} {scope p loc : Nat} {d : BitVec 6}
    {act : Nat → M Unit} (h : Reaches s c (capAddr c) kind.bytes p kind.writes fm loc)
    (hr : kind.atRidge scope = false) : access (capAddr c) kind fm acq scope d act s = act loc s := by
  obtain ⟨-, hp, hh, hb⟩ := h
  have hg : s.gateBlocks (clusterOf s.turn.1) loc kind scope = false := by
    rw [State.gateBlocks, hr, Bool.false_or]
    exact place_here_gate (capAddr_lt c) hp
  simp only [access, M.bind_apply, M.get_apply, hp, hg, hh, hb, Bool.false_eq_true, if_false]

theorem derefCheck_ok {s : State} {c : TV} {x n p : Nat} (h : derefFail c x n p = none) :
    derefCheck c x n p s = .ok () s := by
  simp only [derefCheck, h, M.pure_apply]

theorem spaceCheck_here {s : State} {x n loc : Nat} {w fm : Bool} (h : s.place s.turn.1 x n w fm = .here loc) :
    spaceCheck x n w fm s = .ok () s := by
  simp only [spaceCheck, M.bind_apply, M.get_apply, h, M.pure_apply]

theorem afterAcquire_clear {s : State} (h : Clear s) : afterAcquire s = .ok () s := by
  obtain ⟨ha, hf⟩ := h
  simp only [afterAcquire, M.bind_apply, M.get_apply, ha, hf, Bool.or_self, Bool.false_eq_true, if_false, M.pure_apply]

theorem shapesFree_ok {s : State} {t : Strand} {rs : List Nat} (hc : s.cur = some t) (h : ∀ r ∈ rs, 64 + r ∉ t.busy) :
    shapesFree rs s = .ok () s := by
  have hany : rs.any (fun r => decide (64 + r ∈ t.busy)) = false := List.any_eq_false.2 fun r hr => by simpa using h r hr
  simp only [shapesFree, M.bind_apply, M.getStrand_apply hc, hany, Bool.false_eq_true, if_false, M.pure_apply]

/-! ### What settling leaves (R65) -/

theorem putResults_rest (l : List Pending) (u : Strand) :
    { l.foldl (fun (u : Strand) p => u.putG p.reg p.val) u with g := u.g, pend := u.pend, lost := u.lost } = u := by
  induction l generalizing u with
  | nil => rfl
  | cons p l ih =>
    have h := congrArg (fun x : Strand => ({ x with g := u.g, pend := u.pend, lost := u.lost } : Strand)) (ih (u.putG p.reg p.val))
    exact h.trans (putsOnly_putG u p.reg p.val).rest

theorem settle_sh (t : Strand) (now : Nat) : (t.settle now).sh = t.sh :=
  (congrArg Strand.sh (putResults_rest (t.pend.filter (fun p => decide (p.avail ≤ now))) t) :)

theorem settle_busy (t : Strand) (now : Nat) : (t.settle now).busy = t.busy :=
  (congrArg Strand.busy (putResults_rest (t.pend.filter (fun p => decide (p.avail ≤ now))) t) :)

/-! ### The six forms -/

section
variable {s s' : State} {t : Strand} {d : BitVec 4} {a : BitVec 6} {sc : BitVec 2} {c : TV} {loc : Nat}
  (hread : Reads s [a] [] [c] s') (hclear : Clear s') (hcur : s'.cur = some t) (hbusy : 64 + d.toNat ∉ t.busy)
  (halign : capAddr c % 64 = 0)
include hread hclear hcur hbusy halign

/-- R167: a record is loaded. -/
theorem shpLd_runs (h : Reaches s' c (capAddr c) 64 permLoad false false loc) : exec (.shpLd d a sc) s = goesOn sc.toNat
    ((s'.touch (clusterOf s'.turn.1) loc 64 false).updStrand s'.turn.1 s'.turn.2 (·.putSh d.toNat (s'.shapeAt c loc))) := by
  have hfree := shapesFree_ok hcur (rs := [d.toNat]) (by simpa using hbusy)
  have hreach : Reaches s' c (capAddr c) (AccessKind.shpLoad d.toNat).bytes permLoad (AccessKind.shpLoad d.toNat).writes
    false loc := h
  refine runs_operand1 (flow := .next) hread ?_
  simp only [M.bind_apply, hfree, afterAcquire_clear hclear, derefCheck_ok h.1, halign, ne_eq, not_true_eq_false, if_false,
    M.pure_apply, access_reaches hreach rfl, M.get_apply, touchFor, M.modState_apply, modShape, M.modStrand_apply,
    (dirKeeps_touch s' (clusterOf s'.turn.1) loc 64 false).turn]

/-- R167: a record is stored. -/
theorem shpSt_runs (h : Reaches s' c (capAddr c) 64 permStore true false loc)
    (hcap : (t.getSh d.toNat).tag = true → capHas c permStoreCap = true) :
    exec (.shpSt d a sc) s = goesOn sc.toNat (((s'.touch (clusterOf s'.turn.1) loc 64 true).write loc
      (natBytes 64 (t.getSh d.toNat).bits.toNat)).writeTagged loc (t.getSh d.toNat).cap) := by
  have hfree := shapesFree_ok hcur (rs := [d.toNat]) (by simpa using hbusy)
  have hreach : Reaches s' c (capAddr c) (AccessKind.shpStore (t.getSh d.toNat).bits).bytes permStore
    (AccessKind.shpStore (t.getSh d.toNat).bits).writes false loc := h
  have hok : ((t.getSh d.toNat).tag && !capHas c permStoreCap) = false := by
    cases htag : (t.getSh d.toNat).tag with
    | false => rfl
    | true => rw [hcap htag]; rfl
  refine runs_operand1 (flow := .next) hread ?_
  simp only [M.bind_apply, hfree, afterAcquire_clear hclear, derefCheck_ok h.1, halign, ne_eq, not_true_eq_false, if_false,
    M.pure_apply, spaceCheck_here h.2.1, M.getStrand_apply hcur, hok, Bool.false_eq_true, access_reaches hreach rfl,
    touchFor, M.modState_apply]

/-- R167: a tagged record needs the permission to store capabilities. -/
theorem shpSt_traps (h : Reaches s' c (capAddr c) 64 permStore true false loc) (htag : (t.getSh d.toNat).tag = true)
    (hcap : capHas c permStoreCap = false) {t0 : Strand} (ht : Turn s t0) :
    exec (.shpSt d a sc) s = traps 0x05 (BitVec.ofNat 64 (capAddr c)) t0 s' := by
  have hfree := shapesFree_ok hcur (rs := [d.toNat]) (by simpa using hbusy)
  obtain ⟨t1, ht1, ho⟩ := ReadsFields.ok hread
  have hop : operand1 a [] (s.settled t1) = .ok c s' := by
    simp only [operand1, operands, M.bind_apply, ho, M.pure_apply, List.getD_cons_zero]
  obtain rfl : t1 = t0 := Option.some.inj (ht1.1.symm.trans ht.1)
  refine runInstr_trap ht1 ?_
  simp only [M.bind_apply, hop, hfree, afterAcquire_clear hclear, derefCheck_ok h.1, halign, ne_eq, not_true_eq_false,
    if_false, spaceCheck_here h.2.1, M.getStrand_apply hcur, htag, hcap, Bool.not_false, Bool.and_self, if_true,
    M.trap_apply]

end

/-- Settles O41: each form finds its shape registers free and runs to its end; the record's bits by the lemmas on
`Shape.setBits`. -/
theorem shapeFormsHandleRecords : Obligations.ShapeFormsHandleRecords := by
  unfold Obligations.ShapeFormsHandleRecords
  refine ⟨fun s s' t d a sc c loc hr hcl hc hb ha => ⟨fun h => shpLd_runs hr hcl hc hb ha h,
    fun h hcap => shpSt_runs hr hcl hc hb ha h hcap, fun h htag hcap t0 ht => shpSt_traps hr hcl hc hb ha h htag hcap ht⟩,
    fun s s' t d a b sc sel x hr hc hb hx => ?_, fun s s' t d a b sc v sel hr hc hb => ?_,
    fun s t d a sc ht hbd hba => ?_, fun x sel d v w => ⟨fun i _ => set_getLsbD x sel w i, set_tag x sel w,
      fun hd => ⟨advance_rawCursor x hd v, advance_tag x d v⟩⟩⟩
  · subst hx
    rw [← get_eq]
    refine runs_operand1 (flow := .next) hr ?_
    simp only [M.bind_apply, shapesFree_ok hc (rs := [a.toNat]) (by simpa using hb), M.getStrand_apply hc, result_ok,
      M.pure_apply]
  · have hfree := shapesFree_ok hc (rs := [d.toNat]) (by simpa using hb)
    exact ⟨runs_operand2 (flow := .next) hr (by
        simp only [M.bind_apply, hfree, modShape, M.modStrand_apply, M.pure_apply]),
      runs_operand2 (flow := .next) hr (by
        simp only [M.bind_apply, hfree, modShape, M.modStrand_apply, M.pure_apply])⟩
  · have hplain : Plain t s.now [] [] := ⟨by simp, rfl, rfl, fun _ => rfl⟩
    have hfree : shapesFree [d.toNat, a.toNat] (s.settled t) = .ok () (s.settled t) :=
      shapesFree_ok (cur_settled s t) (by rw [settle_busy]; simp [hbd, hba])
    have hsh : (t.settle s.now).getSh a.toNat = t.getSh a.toNat := by simp only [Strand.getSh, settle_sh]
    refine runs_operands (flow := .next) (hplain.reads ht) ?_
    simp only [M.bind_apply, hfree, M.getStrand_apply (cur_settled s t), modShape, M.modStrand_apply, M.pure_apply, hsh]
    rfl

end Sys2Proof.Machine
end

section
/-! Strands between their instructions: records taken and left, waits, pre-emption (R120 to R130). -/
namespace Sys2Proof.Machine

/-! ### Reading what was written -/

/-- Bytes that stand read the same. -/
theorem read_congr {s n : State} : ∀ {len a : Nat}, (∀ x, a ≤ x → x < a + len → n.byte x = s.byte x) →
    n.read a len = s.read a len
  | 0, _, _ => rfl
  | len + 1, a, h => by
    rw [State.read, State.read, h a (Nat.le_refl a) (by omega), read_congr fun x h1 h2 => h x (by omega) (by omega)]

theorem read_of_mem {s n : State} (h : n.mem = s.mem) (a len : Nat) : n.read a len = s.read a len :=
  read_congr fun x _ _ => byte_of_mem h x

/-- Bytes below a write read as before. -/
theorem read_writeTagged_below {s : State} {a b len : Nat} {v : TV} (h : a + len ≤ b) :
    (s.writeTagged b v).read a len = s.read a len :=
  read_congr fun x _ hx => byte_writeTagged_outside (.inl (by omega))

theorem putBytes_append (bs cs : List Byte) : ∀ (s : State) (a : Nat),
    s.putBytes a (bs ++ cs) = (s.putBytes a bs).putBytes (a + bs.length) cs := by
  induction bs with
  | nil => exact fun _ _ => rfl
  | cons b bs ih =>
    intro s a
    have hlen : a + (b :: bs).length = a + 1 + bs.length := by rw [List.length_cons]; omega
    rw [List.cons_append, State.putBytes, ih, hlen, State.putBytes]

theorem read_clearTags (s : State) (a n x len : Nat) : (s.clearTags a n).read x len = s.read x len :=
  read_congr fun y _ _ => byte_clearTags s a n y

/-- Two words written next to each other. -/
theorem read_write_words (s : State) (a v w : Nat) :
    (s.write a (natBytes 8 v ++ natBytes 8 w)).read a 8 = v % 256 ^ 8 ∧
      (s.write a (natBytes 8 v ++ natBytes 8 w)).read (a + 8) 8 = w % 256 ^ 8 := by
  have hne : (natBytes 8 v ++ natBytes 8 w).isEmpty = false := rfl
  simp only [State.write, hne, Bool.false_eq_true, if_false, read_clearTags, putBytes_append, length_natBytes]
  constructor
  · rw [read_congr (s := s.putBytes a (natBytes 8 v)) fun x _ hx => byte_putBytes_outside (.inl (by omega))]
    simpa only [length_natBytes, bytesNat_natBytes] using read_putBytes (bs := natBytes 8 v) s a
  · simpa only [length_natBytes, bytesNat_natBytes] using
      read_putBytes (bs := natBytes 8 w) (s.putBytes a (natBytes 8 v)) (a + 8)

/-- R120, R124: words 0 and 1 of a saved record. -/
theorem read_saveRecord (s : State) (loc : Nat) (t : Strand) (pc state : Nat) (w : Bool) :
    (s.saveRecord loc t pc state w).read loc 8 = recordWord0 pc w t.chk t.ovl % 256 ^ 8 ∧
      (s.saveRecord loc t pc state w).read (loc + 8) 8 =
        recordWord1 t.sid.toNat t.gid t.pri state t.rm.toNat t.sr.toNat % 256 ^ 8 := by
  unfold State.saveRecord
  constructor
  · rw [read_writeTagged_below (by omega), read_writeTagged_below (by omega), read_writeTagged_below (by omega)]
    exact (read_write_words s loc _ _).1
  · rw [read_writeTagged_below (by omega), read_writeTagged_below (by omega), read_writeTagged_below (by omega)]
    exact (read_write_words s loc _ _).2

theorem recordWord0_pc (pc : Nat) (w c o : Bool) : recordWord0 pc w c o % 256 ^ 8 % 2 ^ 57 = pc % 2 ^ 57 := by
  cases w <;> cases c <;> cases o <;> simp only [recordWord0, if_true, Bool.false_eq_true, if_false] <;> omega

theorem recordWord1_state (sid gid pri state rm sr : Nat) :
    recordWord1 sid gid pri state rm sr % 256 ^ 8 / 2 ^ 52 % 16 = state % 16 := by
  simp only [recordWord1]
  omega

/-! ### What writes of memory leave -/

/-- Only memory and its tags differ. -/
def MemOnly (s n : State) : Prop := { n with mem := s.mem, tags := s.tags } = s

theorem MemOnly.trans {s m n : State} (h : MemOnly s m) (h' : MemOnly m n) : MemOnly s n :=
  calc ({ n with mem := s.mem, tags := s.tags } : State)
      = { ({ n with mem := m.mem, tags := m.tags } : State) with mem := s.mem, tags := s.tags } := rfl
    _ = { m with mem := s.mem, tags := s.tags } := congrArg (fun x : State => { x with mem := s.mem, tags := s.tags }) h'
    _ = s := h

/-- Tags set after a change of memory. -/
theorem MemOnly.setTags {s n : State} (h : MemOnly s n) (tags : List Nat) : MemOnly s { n with tags := tags } := h

theorem memOnly_putBytes (bs : List Byte) : ∀ (s : State) (a : Nat), MemOnly s (s.putBytes a bs) := by
  induction bs with
  | nil => exact fun _ _ => rfl
  | cons b bs ih => exact fun s a => (show MemOnly s (s.setByte a b) from rfl).trans (ih (s.setByte a b) (a + 1))

theorem memOnly_write (s : State) (a : Nat) (bs : List Byte) : MemOnly s (s.write a bs) := by
  unfold State.write
  split
  · rfl
  · exact (memOnly_putBytes bs s a).setTags _

theorem memOnly_writeTagged (s : State) (a : Nat) (v : TV) : MemOnly s (s.writeTagged a v) := by
  unfold State.writeTagged
  dsimp only
  split
  · exact (memOnly_write s a _).setTags _
  · exact memOnly_write s a _

theorem memOnly_saveRecord (s : State) (loc : Nat) (t : Strand) (pc state : Nat) (w : Bool) :
    MemOnly s (s.saveRecord loc t pc state w) :=
  (((memOnly_write s loc _).trans (memOnly_writeTagged _ _ _)).trans (memOnly_writeTagged _ _ _)).trans
    (memOnly_writeTagged _ _ _)

/-! ### Taking a record (R121, R122, R124, R126) -/

/-- R93: an address set stands in the low word. -/
theorem setAddr_lo (c : TV) (y : Nat) : (setAddr c y).bits.extractLsb' 0 64 = BitVec.ofNat 64 y := by
  have hw : ∀ v : TV, (withAddr v y).bits.extractLsb' 0 64 = BitVec.ofNat 64 y := fun v => by
    refine BitVec.eq_of_getLsbD_eq fun i hi => ?_
    have happ := BitVec.getLsbD_append (x := v.bits.extractLsb' 64 64) (y := BitVec.ofNat 64 y) (i := i)
    rw [if_pos hi] at happ
    rw [BitVec.getLsbD_extractLsb', decide_eq_true hi, Bool.true_and, Nat.zero_add]
    exact happ
  unfold setAddr
  split
  · split
    · exact hw _
    · exact hw _
  · exact hw c

/-- A table that leaves out the values that an absent key has. -/
theorem kget_filter_cons {α : Type} [DecidableEq α] (d : α) (k j : Nat) (v : α) (m : List (Nat × α)) :
    kget d k (((j, v) :: m).filter (fun e => decide (e.2 ≠ d))) =
      if j = k ∧ v ≠ d then v else kget d k (m.filter (fun e => decide (e.2 ≠ d))) := by
  by_cases hv : v = d
  · simp [hv]
  · by_cases hj : j = k
    · simp [hv, hj, kget, kfind]
    · simp [hv, hj, kget, kfind]

/-- The registers g1 to g3 of a save, where zero is left out. -/
theorem kget_saved (x y z : TV) (r : Nat) :
    kget TV.zero r ([(1, x), (2, y), (3, z)].filter (fun e => decide (e.2 ≠ TV.zero))) =
      if r = 1 then x else if r = 2 then y else if r = 3 then z else TV.zero := by
  have hnil : kget TV.zero r (([] : List (Nat × TV)).filter (fun e => decide (e.2 ≠ TV.zero))) = TV.zero := rfl
  simp only [kget_filter_cons, hnil]
  by_cases h1 : r = 1
  · subst h1
    by_cases hx : x = TV.zero <;> simp [hx]
  · by_cases h2 : r = 2
    · subst h2
      by_cases hy : y = TV.zero <;> simp [hy]
    · by_cases h3 : r = 3
      · subst h3
        by_cases hz : z = TV.zero <;> simp [hz]
      · simp [h1, h2, h3, Ne.symm h1, Ne.symm h2, Ne.symm h3]

/-- R124: a register of a record just taken. -/
theorem getG_fromRecord (s : State) (loc addr : Nat) (g : Group) {r : Nat} (hr : r ≠ 0) :
    (s.fromRecord loc addr g).getG r =
      if r = 1 then installed (s.readTagged (loc + 16)) else if r = 2 then installed (s.readTagged (loc + 32))
      else if r = 3 then installed (s.readTagged (loc + 48)) else TV.zero := by
  rw [Strand.getG, if_neg hr]
  simp only [State.fromRecord]
  rw [kget_saved]

theorem fromRecord_pc (s : State) (loc addr : Nat) (g : Group) :
    (s.fromRecord loc addr g).pc.toNat % 2 ^ 57 = s.read loc 8 % 2 ^ 57 := by
  have hpc : (s.fromRecord loc addr g).pc = BitVec.ofNat 64 (capAddr g.code / 2 ^ 57 * 2 ^ 57 + s.read loc 8 % 2 ^ 57) :=
    setAddr_lo _ _
  rw [hpc, BitVec.toNat_ofNat]
  omega

theorem fromRecord_sid (s : State) (loc addr : Nat) (g : Group) :
    (s.fromRecord loc addr g).sid.toNat = s.read (loc + 8) 8 % 2 ^ 32 := by
  simp only [State.fromRecord, BitVec.toNat_ofNat]

/-- A change of a group leaves the cores. -/
theorem cores_updGroup (s : State) (p gid : Nat) (f : Group → Group) : (s.updGroup p gid f).cores = s.cores := by
  unfold State.updGroup
  split <;> rfl

theorem mem_updGroup (s : State) (p gid : Nat) (f : Group → Group) : (s.updGroup p gid f).mem = s.mem := by
  unfold State.updGroup
  split <;> rfl

theorem tags_updGroup (s : State) (p gid : Nat) (f : Group → Group) : (s.updGroup p gid f).tags = s.tags := by
  unfold State.updGroup
  split <;> rfl

/-- Records are read from memory alone. -/
theorem readTagged_of_mem {s n : State} (hm : n.mem = s.mem) (ht : n.tags = s.tags) (a : Nat) :
    n.readTagged a = s.readTagged a := by
  simp only [State.readTagged, read_of_mem hm, State.tagAt, ht]

theorem recordOk_of_mem {s n : State} (hm : n.mem = s.mem) (loc gid : Nat) : n.recordOk loc gid = s.recordOk loc gid := by
  simp only [State.recordOk, read_of_mem hm]

/-- R122, R126: an idle slot takes the record of the best pointer: its strand, and the record's state. -/
theorem slotTakesRecord_runs {s : State} {k sl loc : Nat} {g : Group} {e : Nat × Nat} (hsl : sl < 4) (hidle : s.strand k sl = none)
    (hmay : s.mayTake k = true) (hg : s.groupOfCluster (clusterOf k) = some g) (hp : g.parked = false) (hk : k ∈ g.cores)
    (hbest : g.best = some e) (hloc : loc = privLoc g.part e.1) (hfree : s.linesHeld (clusterOf k) loc 64 true = false)
    (hok : s.recordOk loc g.gid = true) :
    ∃ n t, exec (.slotTakesRecord k sl) s = .next n ∧ n.strand k sl = some t ∧
      t.pc.toNat % 2 ^ 57 = s.read loc 8 % 2 ^ 57 ∧ t.sid.toNat = s.read (loc + 8) 8 % 2 ^ 32 ∧ t.gid = g.gid ∧
      t.getG 1 = installed (s.readTagged (loc + 16)) ∧ t.getG 2 = installed (s.readTagged (loc + 32)) ∧
      t.getG 3 = installed (s.readTagged (loc + 48)) ∧ (∀ r, 4 ≤ r → t.getG r = TV.zero) ∧ t.q = [] ∧ t.sh = [] ∧
      t.h = [] ∧ t.y = [] ∧ n.read (loc + 8) 8 / 2 ^ 52 % 16 = 2 := by
  subst hloc
  set loc := privLoc g.part e.1 with hloc
  set s1 := s.updGroup g.part g.gid (fun g =>
    { g with pool := dropFirst e g.pool, delays := kdel e.1 g.delays, windows := kdel e.1 g.windows }) with hs1
  have hmem : s1.mem = s.mem := mem_updGroup s _ _ _
  have htags : s1.tags = s.tags := tags_updGroup s _ _ _
  have hok1 : s1.recordOk loc g.gid = true := (recordOk_of_mem hmem _ _).trans hok
  have hrun : slotTakes k sl s = some ((s1.setStrand k sl (s1.fromRecord loc e.1 g)).write (loc + 8)
      (natBytes 8 ((s1.setStrand k sl (s1.fromRecord loc e.1 g)).read (loc + 8) 8 + 2 ^ 52))) := by
    simp only [slotTakes, hsl, hidle, hmay, hg, hp, hk, hbest, ← hloc, hfree, ← hs1, hok1, Option.isNone_none, and_self,
      not_true_eq_false, or_self, Bool.false_eq_true, if_true, if_false]
  have hst : (s.read (loc + 8) 8) / 2 ^ 52 % 16 = 1 := by
    simp only [State.recordOk, Bool.and_eq_true, decide_eq_true_eq] at hok
    exact hok.1.2
  refine ⟨_, s1.fromRecord loc e.1 g, runEvent_some hrun, ?_, ?_, ?_, rfl, ?_, ?_, ?_, fun r hr => ?_, rfl, rfl, rfl, rfl, ?_⟩
  · have hcores : ∀ (m : State) (a : Nat) (bs : List Byte), (m.write a bs).strand k sl = m.strand k sl := fun m a bs =>
      (congrArg (State.strand · k sl) (memOnly_write m a bs) :)
    rw [hcores, strand_setStrand_same]
  · rw [fromRecord_pc, read_of_mem hmem]
  · rw [fromRecord_sid, read_of_mem hmem]
  · rw [getG_fromRecord _ _ _ _ (by decide), if_pos rfl, readTagged_of_mem hmem htags]
  · rw [getG_fromRecord _ _ _ _ (by decide), if_neg (by decide), if_pos rfl, readTagged_of_mem hmem htags]
  · rw [getG_fromRecord _ _ _ _ (by decide), if_neg (by decide), if_neg (by decide), if_pos rfl,
      readTagged_of_mem hmem htags]
  · rw [getG_fromRecord _ _ _ _ (by omega), if_neg (by omega), if_neg (by omega), if_neg (by omega)]
  · have hw : (s1.setStrand k sl (s1.fromRecord loc e.1 g)).read (loc + 8) 8 = s.read (loc + 8) 8 := by
      rw [read_of_mem (setStrand_mem _ _ _ _), read_of_mem hmem]
    rw [read_write, hw]
    omega

/-! ### Leaving a slot (R122, R124, R127) -/

theorem group_updGroup_same {s : State} {p gid : Nat} {g : Group} (h : s.group p gid = some g) (f : Group → Group) :
    (s.updGroup p gid f).group p gid = some (f g) := by
  simp only [State.updGroup, h]
  exact kfind_kset_same _ _ _

theorem updGroupOn_part {s : State} {k p : Nat} (h : s.partOfCore k = some p) (gid : Nat) (f : Group → Group) :
    s.updGroupOn k gid f = s.updGroup p gid f := by
  simp only [State.updGroupOn, h]

theorem partOfCore_updGroup (s : State) (p gid k : Nat) (f : Group → Group) :
    (s.updGroup p gid f).partOfCore k = s.partOfCore k := by
  unfold State.updGroup
  split <;> rfl

theorem sameButCores_releaseEnd (s : State) (b : QBind) : SameButCores s (s.releaseEnd b false) := by
  unfold State.releaseEnd
  split
  · rw [if_neg Bool.false_ne_true]
    split <;> rfl
  · rfl

/-- R254: released bindings change nothing but the cores' channels. -/
theorem sameButCores_unbindAll (s : State) (k sl : Nat) : SameButCores s (s.unbindAll k sl) := by
  have hfold : ∀ (l : List (Nat × QBind)) (m : State),
      SameButCores m (l.foldl (fun (st : State) e => st.releaseEnd e.2 false) m) := by
    intro l
    induction l with
    | nil => exact fun _ => rfl
    | cons e l ih => exact fun m => (sameButCores_releaseEnd m e.2).trans (ih _)
  unfold State.unbindAll
  split
  · exact hfold _ s
  · rfl

/-- R294: a suspension point releases the bindings of its strand and keeps the window of its fabric writes with its record. -/
def State.leaving (s : State) (k sl : Nat) (t : Strand) : State :=
  match t.fabWindow with
  | some n => (s.unbindAll k sl).updGroupOn k t.gid (fun g => { g with windows := kset t.record n g.windows })
  | none => s.unbindAll k sl

theorem leaveSlot_suspended {s : State} {k sl p : Nat} {t : Strand} (hs : s.strand k sl = some t)
    (hp : s.partOfCore k = some p) (pc : Nat) :
    s.leaveSlot k sl pc 3 = ((s.leaving k sl t).saveRecord (s.recordLoc k t) t.settleAll pc 3
      (s.wpend (s.recordLoc k t))).clearSlot k sl := by
  have hstate : ¬ (3 = 4) := by decide
  cases hf : t.fabWindow <;>
    simp only [State.leaveSlot, hs, hp, hf, hstate, Option.isNone_some, Bool.false_eq_true, if_false, State.leaving]

theorem leaving_keeps {s : State} {k sl p : Nat} {t : Strand} (hp : s.partOfCore k = some p) :
    (s.leaving k sl t).partOfCore k = some p ∧ ∀ g, s.group p t.gid = some g →
      ∃ g', (s.leaving k sl t).group p t.gid = some g' ∧ g'.registered = g.registered := by
  have hu := sameButCores_unbindAll s k sl
  have hpart : (s.unbindAll k sl).partOfCore k = some p := (congrArg (State.partOfCore · k) hu :).trans hp
  have hgroup : (s.unbindAll k sl).group p t.gid = s.group p t.gid := (congrArg (State.group · p t.gid) hu :)
  unfold State.leaving
  split
  · rw [updGroupOn_part hpart]
    exact ⟨(partOfCore_updGroup _ _ _ _ _).trans hpart, fun g hg => ⟨_, group_updGroup_same (hgroup.trans hg) _, rfl⟩⟩
  · exact ⟨hpart, fun g hg => ⟨g, hgroup.trans hg, rfl⟩⟩

/-- R122, R124: the record is saved with its program counter and state, the slot is idle, and what its group registers stays. -/
theorem leaveSlot_saves {s : State} {k sl p : Nat} {t : Strand} (hs : s.strand k sl = some t) (hp : s.partOfCore k = some p)
    (pc : Nat) :
    (s.leaveSlot k sl pc 3).strand k sl = none ∧
      (s.leaveSlot k sl pc 3).read (s.recordLoc k t) 8 % 2 ^ 57 = pc % 2 ^ 57 ∧
      (s.leaveSlot k sl pc 3).read (s.recordLoc k t + 8) 8 / 2 ^ 52 % 16 = 3 ∧
      (s.leaveSlot k sl pc 3).partOfCore k = some p ∧ ∀ g, s.group p t.gid = some g →
        ∃ g', (s.leaveSlot k sl pc 3).group p t.gid = some g' ∧ g'.registered = g.registered := by
  rw [leaveSlot_suspended hs hp]
  obtain ⟨hpart, hgroup⟩ := leaving_keeps (sl := sl) (t := t) hp
  generalize s.leaving k sl t = m at hpart hgroup
  generalize s.recordLoc k t = loc
  generalize s.wpend loc = w
  have hm := memOnly_saveRecord m loc t.settleAll pc 3 w
  obtain ⟨h0, h1⟩ := read_saveRecord m loc t.settleAll pc 3 w
  have hread : ∀ a, ((m.saveRecord loc t.settleAll pc 3 w).clearSlot k sl).read a 8 =
      (m.saveRecord loc t.settleAll pc 3 w).read a 8 := fun a => read_of_mem (updCore_mem _ _ _) a 8
  refine ⟨?_, ?_, ?_, (congrArg (State.partOfCore · k) hm :).trans hpart, fun g hg => ?_⟩
  · simp only [State.strand, State.clearSlot, core_updCore_same, kfind_kdel_same]
  · rw [hread, h0, recordWord0_pc]
  · rw [hread, h1, recordWord1_state]
  · obtain ⟨g', hg', hr⟩ := hgroup g hg
    exact ⟨g', (congrArg (State.group · p t.gid) hm :).trans hg', hr⟩

/-- R325: the withdrawn request of a `mtxlock`, where the wait is one. -/
def State.withdrawn (s : State) (k sl : Nat) (w : WaitKind) : State :=
  match w with
  | .mtxlock m _ => s.updCluster (clusterOf k) (·.withdrawMutex m k sl)
  | _ => s

/-- Only clusters differ. -/
theorem withdrawn_clusters (s : State) (k sl : Nat) (w : WaitKind) :
    { s.withdrawn k sl w with clusters := s.clusters } = s := by
  unfold State.withdrawn
  split <;> rfl

/-- R122, R127: a wait past its spin budget suspends its strand. -/
theorem spinBudgetExpiry_runs {s : State} {k sl p : Nat} {t : Strand} {w : Wait} (hs : s.strand k sl = some t)
    (hw : t.wait = some w) (hsus : w.kind.suspends = true) (hgr : t.granted = none)
    (hb : (s.core k).spinBudget.toNat ≠ 0) (hnow : w.since + (s.core k).spinBudget.toNat ≤ s.now)
    (hfz : (s.core k).frozen = false) (hfault : s.faulting (.strand k sl t.sid) = false)
    (hends : s.waitEnds k w.kind = false) (hheld : s.recordHeld k t = false) (hent : s.hasEntries k sl = false)
    (hbusy : t.busy = []) (hfail : t.seqFail = none) (hhalf : t.halfSlot = none) (hx : (s.core k).exchanging = false)
    (hp : s.partOfCore k = some p) :
    ∃ n, exec (.spinBudgetExpiry k sl) s = .next n ∧ n.strand k sl = none ∧
      n.read (s.recordLoc k t) 8 % 2 ^ 57 = t.pc.toNat % 2 ^ 57 ∧ n.read (s.recordLoc k t + 8) 8 / 2 ^ 52 % 16 = 3 ∧
      ∀ g, s.group p t.gid = some g → ∃ g', n.group p t.gid = some g' ∧
        g'.registered = g.registered ++ [(t.record, k, w.kind)] := by
  have hrun : spinExpiry k sl s = some ((((s.withdrawn k sl w.kind).leaveSlot k sl t.pc.toNat 3).updGroupOn k t.gid (fun g =>
      { g with registered := g.registered ++ [(t.record, k, w.kind)] })).dropEnded s) := by
    have hlate : decide (s.now < w.since + (s.core k).spinBudget.toNat) = false := by
      simp only [decide_eq_false_iff_not]
      omega
    simp only [spinExpiry, hs, hw, hsus, hgr, hfault, hb, hlate, hfz, hends, hent, hbusy, hheld, hfail, hhalf, hx,
      Bool.not_true, Option.isSome_none, decide_false, Bool.or_self, Bool.false_eq_true, if_false, List.isEmpty_nil,
      State.withdrawn] <;> rfl
  have hwd := withdrawn_clusters s k sl w.kind
  generalize hm : s.withdrawn k sl w.kind = m at hrun hwd
  have hms : m.strand k sl = some t := (congrArg (State.strand · k sl) hwd :).trans hs
  have hmp : m.partOfCore k = some p := (congrArg (State.partOfCore · k) hwd :).trans hp
  have hmloc : m.recordLoc k t = s.recordLoc k t := (congrArg (State.recordLoc · k t) hwd :)
  obtain ⟨h1, h2, h3, h4, h5⟩ := leaveSlot_saves hms hmp t.pc.toNat
  rw [updGroupOn_part h4] at hrun
  rw [hmloc] at h2 h3
  generalize m.leaveSlot k sl t.pc.toNat 3 = l at hrun h1 h2 h3 h5
  have hread : ∀ f a, ((l.updGroup p t.gid f).dropEnded s).read a 8 = l.read a 8 := fun f a =>
    read_of_mem (n := (l.updGroup p t.gid f).dropEnded s) (mem_updGroup l p t.gid f) a 8
  refine ⟨_, runEvent_some hrun, ?_, ?_, ?_, fun g hg => ?_⟩
  · rw [← h1]
    exact congrArg (fun c => kfind sl (kget Core.init k c).slots) (cores_updGroup l p t.gid _)
  · rw [hread, h2]
  · rw [hread, h3]
  · obtain ⟨g', hg', hr⟩ := h5 g ((congrArg (State.group · p t.gid) hwd :).trans hg)
    exact ⟨_, group_updGroup_same hg' _, by rw [hr]⟩

end Sys2Proof.Machine
end

section
/-! What the package does to waits, cores, accesses and ports (R66, R122, R129, R150, R253, R267, R268, R277, R303). -/
namespace Sys2Proof.Machine

/-! ### Pre-emption of one core (R129, R199, R277) -/

/-- A segment's message changes copy commands alone. -/
theorem segmentPlaced_keeps (s : State) (m : Message) :
    { s.segmentPlaced m with clusters := s.clusters } = s ∧
      ∀ cl, ((s.segmentPlaced m).cluster cl).lease = (s.cluster cl).lease := by
  unfold State.segmentPlaced
  split
  · exact ⟨rfl, fun _ => rfl⟩
  next c _ =>
    refine ⟨rfl, fun cl => ?_⟩
    by_cases h : cl = clusterOf c.src.core
    · subst h
      rw [cluster_updCluster_same]
    · rw [cluster_updCluster_ne h]

theorem segmentsPlaced_keeps (l : List Message) : ∀ s : State,
    { l.foldl (fun (st : State) m => st.segmentPlaced m) s with clusters := s.clusters } = s ∧
      ∀ cl, ((l.foldl (fun (st : State) m => st.segmentPlaced m) s).cluster cl).lease = (s.cluster cl).lease := by
  induction l with
  | nil => exact fun _ => ⟨rfl, fun _ => rfl⟩
  | cons m l ih =>
    intro s
    obtain ⟨h1, h2⟩ := segmentPlaced_keeps s m
    obtain ⟨h3, h4⟩ := ih (s.segmentPlaced m)
    refine ⟨?_, fun cl => (h4 cl).trans (h2 cl)⟩
    exact (congrArg (fun x : State => ({ x with clusters := s.clusters } : State)) h3).trans h1

/-- A message comes before every blocked push, or after one of them. -/
theorem not_all_arrivals (l : List Nat) (n : Nat) :
    (!l.all (fun a => decide (n ≤ a))) = l.any (fun a => decide (a < n)) := by
  simp only [List.not_all_eq_any_not, ← decide_not, Nat.not_le]

theorem holdsLease_of_granted {s : State} {k : Nat}
    (h : (s.cluster (clusterOf k)).lease.grantedTo (slotInCluster k) = true) :
    s.holdsLease k = true ∧ (s.cluster (clusterOf k)).lease.st = .granted := by
  simp only [Lease.grantedTo, Bool.and_eq_true, decide_eq_true_eq] at h
  obtain ⟨hst, hh⟩ := h
  exact ⟨by simp [State.holdsLease, hst, hh], hst⟩

/-- R129, R199, R277: what a frozen core holds. -/
theorem freeze_effects (s : State) (k : Nat) :
    ((s.freeze k).core k).frozen = true ∧
      ((s.freeze k).core k).inbox = (s.core k).inbox.filter (fun m => (s.pushesAt k).any (fun a => decide (a < m.arrival))) ∧
      ((s.freeze k).core k).gutter = (s.core k).gutter ++ ((s.core k).inbox.filter (fun m =>
        (s.pushesAt k).all (fun a => decide (m.arrival ≤ a)))).map GutterItem.message ∧
      (∀ j, j ≠ k → (s.freeze k).core j = s.core j) ∧
      ((s.cluster (clusterOf k)).lease.grantedTo (slotInCluster k) = true →
        ((s.freeze k).cluster (clusterOf k)).lease =
          { (s.cluster (clusterOf k)).lease with left := .granted, st := .revoked }) := by
  simp only [State.freeze, not_all_arrivals]
  obtain ⟨h1, h2⟩ := segmentsPlaced_keeps ((s.core k).inbox.filter (fun m =>
    (s.pushesAt k).all (fun a => decide (m.arrival ≤ a)))) s
  generalize ((s.core k).inbox.filter (fun m => (s.pushesAt k).all (fun a => decide (m.arrival ≤ a)))).foldl
    (fun (st : State) m => st.segmentPlaced m) s = s0 at h1 h2
  have hcore : ∀ j, s0.core j = s.core j := fun j => (congrArg (State.core · j) h1 :)
  have hlift : ∀ (m : State) (f : Cluster → Cluster) (j : Nat), (m.updCluster (clusterOf k) f).core j = m.core j :=
    fun _ _ _ => rfl
  by_cases hl : s.holdsLease k = true
  · simp only [hl, if_true, hlift, core_updCore_same, hcore, true_and]
    refine ⟨fun j hj => (core_updCore_ne hj _ _).trans (hcore j), fun hg => ?_⟩
    have hcl : ∀ f : Core → Core, ((s0.updCore k f).cluster (clusterOf k)).lease = (s.cluster (clusterOf k)).lease :=
      fun _ => h2 _
    rw [cluster_updCluster_same]
    simp only [hcl, (holdsLease_of_granted hg).2]
  · simp only [hl, Bool.false_eq_true, if_false, core_updCore_same, hcore, true_and]
    exact ⟨fun j hj => (core_updCore_ne hj _ _).trans (hcore j), fun hg => absurd (holdsLease_of_granted hg).1 hl⟩

/-- R129: a core that need not wait is pre-empted. -/
theorem preempt_now {s : State} {k : Nat} (hk : k < 1280) (hf : (s.core k).frozen = false) (hd : s.defersPreempt k = false) :
    exec (.singleCorePreemption k) s = .next (s.freeze k) :=
  runEvent_some (by simp [preempt, Nat.not_le.2 hk, hf, hd])

theorem preempt_deferred {s : State} {k : Nat} (hk : k < 1280) (hf : (s.core k).frozen = false)
    (hd : s.defersPreempt k = true) (hp : (s.core k).preempting = false) :
    exec (.singleCorePreemption k) s = .next (s.updCore k (fun c => { c with preempting := true })) :=
  runEvent_some (by simp [preempt, Nat.not_le.2 hk, hf, hd, hp])

/-- R129: a pre-empted core resumes. -/
theorem coreResume_runs {s : State} {k : Nat} (hf : (s.core k).frozen = true) (hh : s.heldCore k = false) :
    exec (.coreResume k) s = .next (((s.updCore k (fun c => { c with frozen := false })).updCluster (clusterOf k) (fun cl =>
      if cl.lease.holder = some (slotInCluster k) ∧ cl.lease.st = .revoked then
        { cl with lease := { cl.lease with st := cl.lease.left } } else cl)).drainGutter k) :=
  runEvent_some (by simp only [resume, hf, hh, Bool.not_false, and_self, if_true])

/-! ### Waits that are over, retained registers, halted firmware cores (R122, R130, R434) -/

theorem waitReleasePush_runs {s : State} {part addr key k : Nat} {g : Group} {w : WaitKind}
    (hg : s.groups.find? (fun e => decide (e.2.part = part) && e.2.registered.any (fun r => decide (r.1 = addr))) = some (key, g))
    (hr : g.registered.find? (fun r => decide (r.1 = addr)) = some (addr, k, w)) (hp : ∀ d ∈ g.doms, d.st ≠ .parked)
    (hl : s.linesHeld (clusterOf k) (privLoc part addr) 64 true = false) (hpool : s.poolHeld part g.gid = false)
    (ho : s.waitOver k w = true) : exec (.waitReleasePush part addr) s = .next (s.readyRecord part addr) := by
  have hpark : g.parked = false := List.any_eq_false.2 fun d hd => by simpa using hp d hd
  exact runEvent_some (by
    simp only [waitRelease, hg, hr, hpark, ho, hl, hpool, Bool.not_true, Bool.or_self, Bool.false_eq_true, if_false])

theorem retainedRegisterRead_runs {s : State} {k sl r : Nat} {t : Strand} (hs : s.strand k sl = some t)
    (hf : s.firmwareRuns (coreDie k) = true) : exec (.retainedRegisterRead k sl r) s =
      .next { s with out := s.out ++ [.retained k sl r ((t.settle s.now).retained r) (s.now + 40)] } :=
  runEvent_some (by simp only [State.byFirmware, hf, if_true, retainedRead, hs, Option.map_some, State.send])

theorem meshInterruptMessage_runs {s : State} {k : Nat} (hk : isFinial k = true) (hh : (s.core k).halted = true) :
    exec (.meshInterruptMessage k) s = .next (s.updCore k (fun c => { c with halted := false })) :=
  runEvent_some (by simp only [hk, hh, Bool.and_self, if_true])

/-! ### Outstanding accesses (R66, R150, R303, R347) -/

theorem phase_of_mayPerform {s : State} {n : Nat} {a : Access} (h : s.mayPerform n a = true) :
    a.phase = .ready ∨ a.phase = .sent := by
  simp only [State.mayPerform, Bool.and_eq_true, Bool.or_eq_true, decide_eq_true_eq] at h
  exact h.1.1.1.1

/-- An access that was refused meets no gate. -/
theorem atGate_refused {s : State} {n : Nat} {a : Access} {c : Nat} (h : a.phase = .refused c) : s.atGate n a = a := by
  have hg : s.gateStops a = false := by simp [State.gateStops, h]
  simp only [State.atGate, hg, Bool.false_and, Bool.false_eq_true, if_false]

section
variable {s : State} {n : Nat} {a : Access} (ha : kfind n s.accesses = some a)
include ha

/-- An access that can be performed returns its value to the strand that made it. -/
theorem dataReturn_performed (hgate : s.gateStops a = false) (hmay : s.mayPerform n a = true) (hpost : a.kind.posted = false)
    (hpre : a.kind ≠ .prefetch) : dataReturn n s =
      match ((s.performAt a).2.2.dropAccess n).slotOf a.src with
      | none => some ((s.performAt a).2.2.dropAccess n)
      | some (k, sl) =>
        if 56 ≤ a.kind.dest ∧ a.kind.dest < 64 ∧ ((s.performAt a).2.2.dropAccess n).olderThan k sl n then none
        else ((s.performAt a).2.2.dropAccess n).deliver k sl a.kind.dest (s.performAt a).1 (s.performAt a).2.1
          ⟨BitVec.ofNat 512 (s.read a.phys 64), false⟩ := by
  have hphase := phase_of_mayPerform hmay
  have hat : s.atGate n a = a := by simp only [State.atGate, hgate, Bool.false_and, Bool.false_eq_true, if_false]
  simp only [dataReturn, ha, hpost, hpre, hat, hmay, Bool.false_eq_true, or_self, if_false, if_true]
  rcases hphase with h | h <;> rw [h] <;> rfl

theorem loadDataReturn_gone (hgate : s.gateStops a = false) (hmay : s.mayPerform n a = true) (hpost : a.kind.posted = false)
    (hpre : a.kind ≠ .prefetch) (hslot : ((s.performAt a).2.2.dropAccess n).slotOf a.src = none) :
    exec (.loadDataReturn n) s = .next ((s.performAt a).2.2.dropAccess n) :=
  runEvent_some (by rw [dataReturn_performed ha hgate hmay hpost hpre, hslot])

/-- A value for a general register. -/
theorem loadDataReturn_general {k sl : Nat} {u : Strand} (hgate : s.gateStops a = false) (hmay : s.mayPerform n a = true)
    (hpost : a.kind.posted = false) (hpre : a.kind ≠ .prefetch)
    (hslot : ((s.performAt a).2.2.dropAccess n).slotOf a.src = some (k, sl)) (hd : a.kind.dest < 56)
    (hu : ((s.performAt a).2.2.dropAccess n).strand k sl = some u) :
    exec (.loadDataReturn n) s = .next ((((s.performAt a).2.2.dropAccess n).setStrand k sl
      { (u.orFlags (s.performAt a).2.1) with busy := u.busy.erase a.kind.dest }).updStrand k sl
        (·.putG a.kind.dest (s.performAt a).1)) :=
  runEvent_some (by
    rw [dataReturn_performed ha hgate hmay hpost hpre, hslot]
    simp only [Nat.not_le.2 hd, false_and, if_false, State.deliver, hd, if_true, updStrand_eq hu])

/-- A value for a shape register. -/
theorem loadDataReturn_shape {k sl d : Nat} {u : Strand} (hgate : s.gateStops a = false) (hmay : s.mayPerform n a = true)
    (hkind : a.kind = .shpLoad d) (hslot : ((s.performAt a).2.2.dropAccess n).slotOf a.src = some (k, sl))
    (hu : ((s.performAt a).2.2.dropAccess n).strand k sl = some u) :
    exec (.loadDataReturn n) s = .next ((((s.performAt a).2.2.dropAccess n).setStrand k sl
      { (u.orFlags (s.performAt a).2.1) with busy := u.busy.erase (64 + d) }).updStrand k sl
        (·.putSh d ⟨BitVec.ofNat 512 (s.read a.phys 64), false⟩)) :=
  runEvent_some (by
    have hd : a.kind.dest = 64 + d := by rw [hkind]; rfl
    have h1 : ¬ (56 ≤ 64 + d ∧ 64 + d < 64 ∧ ((s.performAt a).2.2.dropAccess n).olderThan k sl n = true) := fun h => by omega
    have h2 : ¬ (64 + d < 56) := by omega
    have h3 : 64 + d - 64 = d := by omega
    rw [dataReturn_performed ha hgate hmay (by rw [hkind]; rfl) (by rw [hkind]; exact nofun), hslot]
    simp only [hd, h1, if_false, State.deliver, h2, Nat.le_add_right, if_true, updStrand_eq hu, h3])

theorem postedStorePerformed_runs {size : Nat} {v : BitVec 128} (hgate : s.gateStops a = false)
    (hmay : s.mayPerform n a = true) (hkind : a.kind = .store size v) : exec (.postedStorePerformed n) s = .next
      (((s.touch (clusterOf a.core) a.phys size true).write a.phys (natBytes size v.toNat)).dropAccess n) :=
  runEvent_some (by
    have hphase := phase_of_mayPerform hmay
    have hat : s.atGate n a = a := by simp only [State.atGate, hgate, Bool.false_and, Bool.false_eq_true, if_false]
    have hpost : a.kind.posted = true := by rw [hkind]; rfl
    have hperf : (s.performAt a).2.2 = (s.touch (clusterOf a.core) a.phys size true).write a.phys (natBytes size v.toNat) := by
      simp only [State.performAt, hkind]
    simp only [postedPerformed, ha, hpost, hat, hmay, Bool.true_or, if_true, hperf]
    rcases hphase with h | h <;> rw [h])

theorem loadDataReturn_refused {c : Nat} (h : a.phase = .refused c) (hpost : a.kind.posted = false)
    (hpre : a.kind ≠ .prefetch) (hr : s.clusterRuns (clusterOf a.core) = true) :
    exec (.loadDataReturn n) s = .next ((s.dropAccess n).senderFaults a.src c (BitVec.ofNat 64 a.addr)) :=
  runEvent_some (by
    simp only [dataReturn, ha, hpost, hpre, atGate_refused h, h, Bool.false_eq_true, or_self, if_false, State.whileRuns, hr,
      if_true])

theorem postedStorePerformed_refused {c : Nat} (h : (s.atGate n a).phase = .refused c) (hpost : a.kind.posted = true) :
    exec (.postedStorePerformed n) s = .next ((s.dropAccess n).refuse a.src c (BitVec.ofNat 64 a.addr)) :=
  runEvent_some (by simp only [postedPerformed, ha, hpost, Bool.true_or, if_true, h])

end

theorem atGate_stopped {s : State} {n : Nat} {a : Access} (hg : s.gateStops a = true) (ho : s.oldestOfPage n a = true) :
    (s.atGate n a).phase = .refused 0x10 := by
  simp only [State.atGate, hg, ho, Bool.and_self, if_true]

theorem refusalReturn_runs {s : State} {n : Nat} {r : Refusal150} (h : kfind n s.refusals = some r)
    (hr : s.clusterRuns (clusterOf r.src.core) = true) : exec (.refusalReturn n) s =
      .next ({ s with refusals := kdel n s.refusals }.senderFaults r.src r.cause r.val) :=
  runEvent_some (by simp only [refusalReturn, h, Option.bind_some, State.whileRuns, hr, if_true])

/-! ### Ports (R253, R267, R268, R277) -/

/-- R253, R277: a blocked push that can be performed. -/
theorem channelPushAtPort_runs {s n : State} {k sl : Nat} {t : Strand} {p : PendPush} (hs : s.strand k sl = some t)
    (hp : t.pendPush = some p) (hf : (s.core k).frozen = false ∨ p.arrival ≠ none) (hr : s.clusterRuns (clusterOf k) = true)
    (h : (if p.slot.isEmpty then s.pushReleased k sl p.q (p.arrival.getD s.nextAccess) p.val
      else s.putSlot k sl p.q (p.arrival.getD s.nextAccess) p.slot) = some n) :
    exec (.channelPushAtPort k sl) s = .next (n.updStrand k sl (fun u =>
      { u with pendPush := none, nextIssue := max u.nextIssue (s.now + 1 + p.sc) })) := by
  have hgo : ((s.core k).frozen && p.arrival.isNone || !s.clusterRuns (clusterOf k)) = false := by
    rcases hf with h | h
    · rw [h, hr]; rfl
    · rw [Option.isNone_eq_false_iff.2 (Option.isSome_iff_ne_none.2 h), hr, Bool.and_false]; rfl
  exact runEvent_some (by
    simp only [pushAtPort, hs, hp, Option.bind_some, hgo, Bool.false_eq_true, if_false]
    rw [h]
    rfl)

/-- R253: a blocked pop that can be performed. -/
theorem channelPopAtPort_runs {s n : State} {k sl q since tried idle : Nat} {t : Strand} {v : TV} (hs : s.strand k sl = some t)
    (hw : t.wait = some ⟨.pop q, since, tried, idle⟩) (hf : (s.core k).frozen = false)
    (hr : s.clusterRuns (clusterOf k) = true) (hh : s.queueHeld k sl [q] = false) (hp : s.popAt k sl q = some (v, n)) :
    exec (.channelPopAtPort k sl) s = .next (n.updStrand k sl (fun u =>
      { u with popped := u.popped ++ [v], wait := some ⟨.inSlot, since, tried, idle⟩ })) :=
  runEvent_some (by
    simp only [popAtPort, hs, hw, hf, hr, hh, hp, Bool.not_true, Bool.or_self, Bool.false_eq_true, if_false, Option.map_some])

/-- R266, R267: a slot placed in an entry that has room. -/
theorem placeSlot_room {s : State} {h e : Nat} {c : Chan} (hc : s.chan h e = some c) (hf : c.free ≠ 0) (v : Nat) :
    s.placeSlot h e (natBytes 16 v) = some ((s.setChan h e (c.reserve.fill c.tail)).write (c.partLoc h c.tail 0)
      (natBytes 16 v ++ List.replicate (c.size - 16) 0#8)) := by
  simp only [State.placeSlot, hc, hf, if_false, length_natBytes]

theorem placeSlot_full {s : State} {h e : Nat} {c : Chan} (hc : s.chan h e = some c) (hf : c.free = 0) (bs : List Byte) :
    s.placeSlot h e bs = none := by
  simp only [State.placeSlot, hc, hf, if_true]

section
variable {s : State} {n e : Nat} {f : Flight} {v : BitVec 128} (hn : kfind n s.flights = some f) (hk : f.kind = .message e v)
  (hfirst : s.firstOfPair n f = true) (hstill : s.standsStill f = false)
include hn hk hfirst hstill

theorem messageAtPort_refused {c : Nat} (h : s.messageRefusal f.src.core f.dst = some c) :
    exec (.messageAtPort n) s = .next ((s.dropFlight n).refuse f.src c f.addr) :=
  runEvent_some (by
    simp only [messageAtPort, hn, hk, hfirst, hstill, Bool.not_true, Bool.or_self, Bool.false_eq_true, if_false, h])

variable (hok : s.messageRefusal f.src.core f.dst = none)
include hok

theorem messageAtPort_gutter (hz : (s.core f.dst).frozen = true) (hroom : s.gutterRoom f.dst 16 = true)
    (hfront : s.frontOfPort f.dst s.nextAccess = true) : exec (.messageAtPort n) s =
      .next ((s.dropFlight n).updCore f.dst (fun c =>
        { c with gutter := c.gutter ++ [.message ⟨e, v, f.src, f.addr, none, s.nextAccess⟩] })) :=
  runEvent_some (by
    simp only [messageAtPort, hn, hk, hfirst, hstill, Bool.not_true, Bool.or_self, Bool.false_eq_true, if_false, hok, hz,
      hroom, hfront, if_true])

variable (hz : (s.core f.dst).frozen = false)
include hz

theorem messageAtPort_closed (hc : s.chan f.dst e = none) :
    exec (.messageAtPort n) s = .next ((s.dropFlight n).refuse f.src 0x14 f.addr) :=
  runEvent_some (by
    simp only [messageAtPort, hn, hk, hfirst, hstill, Bool.not_true, Bool.or_self, Bool.false_eq_true, if_false, hok, hz, hc,
      Option.isNone_none, if_true])

theorem messageAtPort_placed {c : Chan} (hc : s.chan f.dst e = some c) (ht : s.portTurn f.dst e s.nextAccess = true)
    (hfree : c.free ≠ 0) : exec (.messageAtPort n) s =
      .next (((s.setChan f.dst e (c.reserve.fill c.tail)).write (c.partLoc f.dst c.tail 0)
        (natBytes 16 v.toNat ++ List.replicate (c.size - 16) 0#8)).dropFlight n) :=
  runEvent_some (by
    simp only [messageAtPort, hn, hk, hfirst, hstill, Bool.not_true, Bool.or_self, Bool.false_eq_true, if_false, hok, hz, hc,
      Option.isNone_some, ht, if_true, placeSlot_room hc hfree])

theorem messageAtPort_kept {c : Chan} (hc : s.chan f.dst e = some c) (hfree : c.free = 0)
    (hin : (s.core f.dst).inbox.length < 16) : exec (.messageAtPort n) s =
      .next { (s.dropFlight n).updCore f.dst (fun x =>
        { x with inbox := x.inbox ++ [⟨e, v, f.src, f.addr, none, s.nextAccess⟩] }) with nextAccess := s.nextAccess + 1 } :=
  runEvent_some (by
    simp only [messageAtPort, hn, hk, hfirst, hstill, Bool.not_true, Bool.or_self, Bool.false_eq_true, if_false, hok, hz, hc,
      Option.isNone_some, placeSlot_full hc hfree, ite_self, hin, if_true]
    rfl)

end

/-- R268: the oldest message of the inbox leaves for its channel. -/
theorem inboxDelivery_runs {s : State} {k : Nat} {m : Message} {r : List Message} {c : Chan} (hz : (s.core k).frozen = false)
    (hr : s.clusterRuns (clusterOf k) = true) (hi : (s.core k).inbox = m :: r) (he : m.engine = none)
    (ht : s.portTurn k m.entry m.arrival = true) (hc : s.chan k m.entry = some c) (hf : c.free ≠ 0) :
    exec (.inboxDelivery k) s = .next (((s.setChan k m.entry (c.reserve.fill c.tail)).write (c.partLoc k c.tail 0)
      (natBytes 16 m.val.toNat ++ List.replicate (c.size - 16) 0#8)).updCore k (fun x => { x with inbox := r })) := by
  have hseg : ∀ x : State, x.segmentPlaced m = x := fun x => by simp only [State.segmentPlaced, he]
  exact runEvent_some (by
    simp only [inboxDelivery, hr, hz, hi, takeReady, List.any_nil, ht, hc, Option.isNone_some, placeSlot_room hc hf, hseg,
      Bool.not_true, Bool.or_self, Bool.false_eq_true, if_false, Option.map_some, List.nil_append])

/-- Settles O48, event by event. -/
theorem strandAndPortEventsTakeEffect : Obligations.StrandAndPortEventsTakeEffect := by
  unfold Obligations.StrandAndPortEventsTakeEffect
  refine ⟨⟨?_, ?_, ?_, ?_, ?_, ?_, ?_, ?_, ?_⟩, ⟨?_, ?_⟩, ?_, ?_, ?_, ?_⟩
  · intro s k sl loc g e hsl hidle hmay hg hp hk hb hloc hfree hok
    exact slotTakesRecord_runs hsl hidle hmay hg hp hk hb hloc hfree hok
  · intro s k sl p t w hs hw hsus hgr hb hnow hfz hfault hends hheld hent hbusy hfail hhalf hx hp
    exact spinBudgetExpiry_runs hs hw hsus hgr hb hnow hfz hfault hends hheld hent hbusy hfail hhalf hx hp
  · intro s part addr key k g w hg hr hp hl hpool ho
    exact waitReleasePush_runs hg hr hp hl hpool ho
  · intro s k hk hf hd hp
    exact preempt_deferred hk hf hd hp
  · intro s k hk hf hd
    exact ⟨s.freeze k, preempt_now hk hf hd, freeze_effects s k⟩
  · intro s k hf hh
    exact coreResume_runs hf hh
  · intro s k sl r t hs hf
    exact retainedRegisterRead_runs hs hf
  · intro s k hk hh
    exact meshInterruptMessage_runs hk hh
  · intro s k
    rfl
  · intro s m n a ha
    refine ⟨fun hg hm => ⟨fun hpost hpre hmm => ?_, fun size v hkind => postedStorePerformed_runs ha hg hm hkind⟩,
      fun c hc => ⟨fun hpost hpre hr => loadDataReturn_refused ha hc hpost hpre hr, fun hpost => ?_⟩,
      fun hg ho hpost => postedStorePerformed_refused ha (atGate_stopped hg ho) hpost, fun size sg d hkind hsize => ?_⟩
    · subst hmm
      exact ⟨loadDataReturn_gone ha hg hm hpost hpre,
        fun k sl u hslot hd hu => loadDataReturn_general ha hg hm hpost hpre hslot hd hu,
        fun k sl d u hkind hslot hu => loadDataReturn_shape ha hg hm hkind hslot hu⟩
    · exact postedStorePerformed_refused ha ((congrArg Access.phase (atGate_refused hc)).trans hc) hpost
    · simp only [State.performAt, hkind, hsize, if_false]
  · intro s n r h hr
    exact refusalReturn_runs h hr
  · intro s n k sl t p hs hp hf hr
    exact ⟨fun hslot h => channelPushAtPort_runs hs hp hf hr (by simpa [hslot] using h),
      fun hslot h => channelPushAtPort_runs hs hp hf hr (by simpa [hslot] using h)⟩
  · intro s n k sl q since tried idle t v hs hw hf hr hh hp
    exact channelPopAtPort_runs hs hw hf hr hh hp
  · intro s n e f v hn hk hfirst hstill
    exact ⟨fun c hc => messageAtPort_refused hn hk hfirst hstill hc,
      fun hok hz hroom hfront => messageAtPort_gutter hn hk hfirst hstill hok hz hroom hfront, fun hok hz =>
      ⟨messageAtPort_closed hn hk hfirst hstill hok hz,
        fun c hc ht hfree => messageAtPort_placed hn hk hfirst hstill hok hz hc ht hfree,
        fun c hc hfree hin => messageAtPort_kept hn hk hfirst hstill hok hz hc hfree hin⟩⟩
  · intro s k m r c hz hr hi he ht hc hf
    exact inboxDelivery_runs hz hr hi he ht hc hf

end Sys2Proof.Machine
end

section
/-! PROOF. The integer forms (R101 to R103, R105 to R107): the values that they write, and the words of op 0x01. -/
namespace Sys2Proof.Machine

/-! ### Values as words and numbers (R30) -/

theorem TV.ofWord_ofNat {n : Nat} (h : n < 2 ^ 64) : TV.ofWord (BitVec.ofNat 64 n) = TV.ofNat n := by
  have hw := TV.ofWord_setWidth le_rfl (BitVec.ofNat 64 n)
  rwa [BitVec.setWidth_eq, BitVec.toNat_ofNat, Nat.mod_eq_of_lt h] at hw

theorem TV.ofWord_toNat {w : Word} {n : Nat} (h : w.toNat = n) : TV.ofWord w = TV.ofNat n := by
  rw [← h, ← TV.ofWord_ofNat w.isLt, BitVec.ofNat_toNat, BitVec.setWidth_eq]

theorem TV.ofWord_boolWord {b : Bool} {p : Prop} [Decidable p] (h : b = true ↔ p) :
    TV.ofWord (boolWord b) = TV.ofNat (if p then 1 else 0) := by
  by_cases hp : p
  · rw [if_pos hp, h.2 hp]; rfl
  · rw [if_neg hp, Bool.eq_false_iff.2 (hp ∘ h.1)]; rfl

theorem sext32_eq (w : Word) : sext32 w = (w.extractLsb' 0 32).signExtend 64 := by
  rw [sext32, BitVec.setWidth_eq_extractLsb' (by decide)]

/-- The lesser of two integers, chosen by comparing their words. -/
theorem signedMin_eq (x y : Word) : (if x.slt y then x else y) = BitVec.ofInt 64 (min x.toInt y.toInt) := by
  rw [BitVec.slt_eq_decide]
  split
  next h => rw [min_eq_left (of_decide_eq_true h).le, BitVec.ofInt_toInt]
  next h => rw [min_eq_right (not_lt.1 (fun hl => h (decide_eq_true hl))), BitVec.ofInt_toInt]

theorem signedMax_eq (x y : Word) : (if x.slt y then y else x) = BitVec.ofInt 64 (max x.toInt y.toInt) := by
  rw [BitVec.slt_eq_decide]
  split
  next h => rw [max_eq_right (of_decide_eq_true h).le, BitVec.ofInt_toInt]
  next h => rw [max_eq_left (not_lt.1 (fun hl => h (decide_eq_true hl))), BitVec.ofInt_toInt]

theorem naturalMin_toNat (x y : Word) : (if x.ult y then x else y).toNat = min x.toNat y.toNat := by
  rw [BitVec.ult_eq_decide]
  split
  next h => exact (min_eq_left (of_decide_eq_true h).le).symm
  next h => exact (min_eq_right (not_lt.1 (fun hl => h (decide_eq_true hl)))).symm

theorem naturalMax_toNat (x y : Word) : (if x.ult y then y else x).toNat = max x.toNat y.toNat := by
  rw [BitVec.ult_eq_decide]
  split
  next h => exact (max_eq_right (of_decide_eq_true h).le).symm
  next h => exact (max_eq_left (not_lt.1 (fun hl => h (decide_eq_true hl)))).symm

/-! ### Counting, reversing and extending bits (R101) -/

theorem leadingZeros_le (x : Word) (n : Nat) : leadingZeros x n ≤ n := by
  induction n with
  | zero => exact le_rfl
  | succ n ih => unfold leadingZeros; split <;> omega

theorem leadingZeros_false (x : Word) (n : Nat) {i : Nat} (hi : i < leadingZeros x n) : x.getLsbD (n - 1 - i) = false := by
  induction n generalizing i with
  | zero => exact absurd hi (Nat.not_lt_zero i)
  | succ n ih =>
    unfold leadingZeros at hi
    split at hi
    · exact absurd hi (Nat.not_lt_zero i)
    next h =>
      cases i with
      | zero => exact Bool.eq_false_iff.2 h
      | succ i =>
        have := leadingZeros_le x n
        have hr := ih (i := i) (by omega)
        rwa [show n + 1 - 1 - (i + 1) = n - 1 - i by omega]

theorem leadingZeros_true (x : Word) (n : Nat) (h : leadingZeros x n < n) : x.getLsbD (n - 1 - leadingZeros x n) = true := by
  induction n with
  | zero => exact absurd h (Nat.not_lt_zero _)
  | succ n ih =>
    unfold leadingZeros at h ⊢
    split
    next hb => exact hb
    next hb =>
      rw [if_neg hb] at h
      have hr := ih (by omega)
      rwa [show n + 1 - 1 - (leadingZeros x n + 1) = n - 1 - leadingZeros x n by omega]

theorem trailingZeros_le (x : Word) (n : Nat) : ∀ j, trailingZeros x j n ≤ n := by
  induction n with
  | zero => exact fun _ => le_rfl
  | succ n ih =>
    intro j
    have := ih (j + 1)
    unfold trailingZeros
    split <;> omega

theorem trailingZeros_false (x : Word) (n : Nat) : ∀ {j i : Nat}, i < trailingZeros x j n → x.getLsbD (j + i) = false := by
  induction n with
  | zero => exact fun hi => absurd hi (Nat.not_lt_zero _)
  | succ n ih =>
    intro j i hi
    unfold trailingZeros at hi
    split at hi
    · exact absurd hi (Nat.not_lt_zero i)
    next h =>
      cases i with
      | zero => exact Bool.eq_false_iff.2 h
      | succ i => rw [← Nat.add_assoc, Nat.add_right_comm]; exact ih (by omega)

theorem trailingZeros_true (x : Word) (n : Nat) : ∀ {j : Nat}, trailingZeros x j n < n →
    x.getLsbD (j + trailingZeros x j n) = true := by
  induction n with
  | zero => exact fun h => absurd h (Nat.not_lt_zero _)
  | succ n ih =>
    intro j h
    unfold trailingZeros at h ⊢
    split
    next hb => exact hb
    next hb =>
      rw [if_neg hb] at h
      have hr := ih (j := j + 1) (by omega)
      rwa [← Nat.add_assoc, Nat.add_right_comm]

theorem onesBelow_eq (x : Word) (n : Nat) : onesBelow x n = ((List.range n).filter (fun i => x.getLsbD i)).length := by
  induction n with
  | zero => rfl
  | succ n ih =>
    rw [onesBelow, ih, List.range_succ, List.filter_append, List.length_append, List.filter_singleton]
    cases x.getLsbD n <;> rfl

/-- A sum of powers of two, each taken or left. -/
theorem testBit_bitSum (f : Nat → Bool) (n : Nat) :
    (List.range n).foldl (fun (m : Nat) i => m + (if f i then 2 ^ i else 0)) 0 < 2 ^ n ∧
    ∀ i, i < n → ((List.range n).foldl (fun (m : Nat) i => m + (if f i then 2 ^ i else 0)) 0).testBit i = f i := by
  induction n with
  | zero => exact ⟨Nat.one_pos, fun i hi => absurd hi (Nat.not_lt_zero i)⟩
  | succ n ih =>
    obtain ⟨hlt, hbit⟩ := ih
    rw [List.range_succ, List.foldl_append, List.foldl_cons, List.foldl_nil]
    generalize (List.range n).foldl (fun (m : Nat) i => m + (if f i then 2 ^ i else 0)) 0 = m at hlt hbit
    have htop : m + (if f n then 2 ^ n else 0) = 2 ^ n * (f n).toNat + m := by cases f n <;> simp [Nat.add_comm]
    rw [htop]
    refine ⟨?_, fun i hi => ?_⟩
    · have := Bool.toNat_le (f n)
      rw [Nat.pow_succ]
      nlinarith
    · rw [Nat.testBit_two_pow_mul_add _ hlt]
      split
      next h => exact hbit i h
      next h =>
        obtain rfl : i = n := by omega
        cases f i <;> simp

theorem reverseBits_getLsbD (x : Word) {i : Nat} (hi : i < 64) : (reverseBits x).getLsbD i = x.getLsbD (63 - i) := by
  rw [reverseBits, BitVec.getLsbD_ofNat, (testBit_bitSum (fun i => x.getLsbD (63 - i)) 64).2 i hi, decide_eq_true hi,
    Bool.true_and]

/-- The byte above the last one is a byte of what stands before it. -/
theorem byte_append_succ {n : Nat} (x : BitVec n) (b : BitVec 8) (i : Nat) :
    (x ++ b).extractLsb' (8 * (i + 1)) 8 = x.extractLsb' (8 * i) 8 := by
  rw [BitVec.extractLsb'_append_eq_of_le (by omega), Nat.mul_succ, Nat.add_sub_cancel]

theorem reverseBytes_byte (x : Word) {i : Nat} (hi : i < 8) :
    (reverseBytes x).extractLsb' (8 * i) 8 = x.extractLsb' (8 * (7 - i)) 8 := by
  unfold reverseBytes
  match i, hi with
  | 0, _ => exact BitVec.extractLsb'_append_eq_right
  | 1, _ =>
    rw [byte_append_succ]
    exact BitVec.extractLsb'_append_eq_right
  | 2, _ =>
    iterate 2 rw [byte_append_succ]
    exact BitVec.extractLsb'_append_eq_right
  | 3, _ =>
    iterate 3 rw [byte_append_succ]
    exact BitVec.extractLsb'_append_eq_right
  | 4, _ =>
    iterate 4 rw [byte_append_succ]
    exact BitVec.extractLsb'_append_eq_right
  | 5, _ =>
    iterate 5 rw [byte_append_succ]
    exact BitVec.extractLsb'_append_eq_right
  | 6, _ =>
    iterate 6 rw [byte_append_succ]
    exact BitVec.extractLsb'_append_eq_right
  | 7, _ =>
    iterate 7 rw [byte_append_succ]
    exact BitVec.extractLsb'_eq_self

theorem zeroFrom_getLsbD (x y : Word) {i : Nat} (hi : i < 64) :
    (zeroFrom x y).getLsbD i = (decide (i ≤ y.toNat % 64) && x.getLsbD i) := by
  rw [zeroFrom, BitVec.getLsbD_ofNat, Nat.testBit_mod_two_pow, decide_eq_true hi, Bool.true_and, BitVec.testBit_toNat,
    decide_eq_decide.2 Nat.lt_succ_iff]

theorem signFrom_getLsbD (x y : Word) {i : Nat} (hi : i < 64) :
    (signFrom x y).getLsbD i = x.getLsbD (min i (y.toNat % 64)) := by
  have hp : y.toNat % 64 < 64 := Nat.mod_lt _ (by decide)
  unfold signFrom
  dsimp only
  generalize hq : y.toNat % 64 = p at hp
  have hmask : (BitVec.ofNat 64 (2 ^ (p + 1) - 1)).getLsbD i = decide (i ≤ p) := by
    rw [BitVec.getLsbD_ofNat, Nat.testBit_two_pow_sub_one, decide_eq_true hi, Bool.true_and, decide_eq_decide.2 Nat.lt_succ_iff]
  split
  next hb =>
    rw [BitVec.getLsbD_or, BitVec.getLsbD_not, hmask, decide_eq_true hi, Bool.true_and]
    by_cases h : i ≤ p
    · simp [h]
    · simp [h, min_eq_right (not_le.1 h).le, hb]
  next hb =>
    rw [zeroFrom_getLsbD x y hi, hq]
    by_cases h : i ≤ p
    · simp [h]
    · simp [h, min_eq_right (not_le.1 h).le, Bool.eq_false_iff.2 hb]

/-! ### Words of op 0x01 (R88, R101) -/

theorem decodeRaw_op01 {w : BitVec 32} (h : w.extractLsb' 0 7 = 0x01#7) : decodeRaw w = decodeOp01 w := by
  rw [decodeRaw, h]
  rfl

/-- R88: an instruction whose word has a field that the word decoded has not. -/
theorem decode_badField {w : BitVec 32} {i : Instr} {p n : Nat} (hr : decodeRaw w = .ok i)
    (hne : (encode i).extractLsb' p n ≠ w.extractLsb' p n) : decode w = .error .badField := by
  have hw : encode i ≠ w := fun he => hne (congrArg (BitVec.extractLsb' p n) he)
  simp only [decode, hr, decide_eq_false hw, Bool.and_false, Bool.false_eq_true, if_false]

theorem decodeOp01_reserved {w : BitVec 32} (h : 29 ≤ (w.extractLsb' 27 5).toNat) : decodeOp01 w = .error .reservedMinor := by
  unfold decodeOp01
  split
  case h_30 => rfl
  all_goals omega

/-- R101: the forms of one source leave `b` unused. -/
theorem decodeOp01_oneSource {w : BitVec 32} (h1 : 20 ≤ (w.extractLsb' 27 5).toNat) (h2 : (w.extractLsb' 27 5).toNat ≤ 24) :
    ∃ i, decodeOp01 w = .ok i ∧ (encode i).extractLsb' 19 6 = 0#6 := by
  obtain h | h | h | h | h : (w.extractLsb' 27 5).toNat = 20 ∨ (w.extractLsb' 27 5).toNat = 21 ∨
      (w.extractLsb' 27 5).toNat = 22 ∨ (w.extractLsb' 27 5).toNat = 23 ∨ (w.extractLsb' 27 5).toNat = 24 := by omega
  all_goals
    simp only [decodeOp01, h]
    exact ⟨_, rfl, encA_b _ _ _ _ _ _⟩

/-! ### The forms -/

section
variable {s s' : State} {sc lat : Nat} {d a b c : BitVec 6} {x y z : TV} {v : TV}

theorem wordOp1_gives {f : Word → Word} (h : Reads s [a] [d] [x] s') (hv : TV.ofWord (f x.lo) = v) :
    runInstr sc (wordOp1 lat d a f) s = gives sc d lat v s' := hv ▸ wordOp1_runs h

theorem wordOp2_gives {f : Word → Word → Word} (h : Reads s [a, b] [d] [x, y] s') (hv : TV.ofWord (f x.lo y.lo) = v) :
    runInstr sc (wordOp2 lat d a b f) s = gives sc d lat v s' := hv ▸ wordOp2_runs h

end

/-- Settles O3: each form runs as its shape does, with the value that its function gives; the words of op 0x01 by the decoder's
table of minors. -/
theorem integerFormsGiveTheirResults : Obligations.IntegerFormsGiveTheirResults := by
  unfold Obligations.IntegerFormsGiveTheirResults
  refine ⟨fun s s' d a b sc x y h => ?binary, ⟨fun s s' d a sc x h => ?unary, fun s s' d a b sc x y h => ?extend⟩,
    fun d a b sc => ⟨?wordsTwo, ?wordsOne⟩, fun w hw => ⟨fun hr => ?_, fun h1 h2 hb => ?_⟩⟩
  case binary =>
    exact ⟨wordOp2_runs h, wordOp2_runs h, wordOp2_runs h, wordOp2_runs h, wordOp2_runs h, wordOp2_runs h, wordOp2_runs h,
      wordOp2_runs h, wordOp2_runs h, wordOp2_runs h, wordOp2_runs h, wordOp2_runs h,
      wordOp2_gives h (TV.ofWord_boolWord BitVec.slt_iff_toInt_lt), wordOp2_gives h (TV.ofWord_boolWord BitVec.ult_iff_toNat_lt),
      wordOp2_gives h (TV.ofWord_boolWord decide_eq_true_iff),
      wordOp2_gives h ((TV.ofWord_boolWord decide_eq_true_iff).trans (congrArg TV.ofNat (ite_not _ _ _))),
      wordOp2_gives h (congrArg TV.ofWord (signedMin_eq _ _)), wordOp2_gives h (congrArg TV.ofWord (signedMax_eq _ _)),
      wordOp2_gives h (TV.ofWord_toNat (naturalMin_toNat _ _)), wordOp2_gives h (TV.ofWord_toNat (naturalMax_toNat _ _)),
      wordOp2_gives h (congrArg TV.ofWord (sext32_eq _)), wordOp2_gives h (congrArg TV.ofWord (sext32_eq _))⟩
  case unary =>
    have hcount : ∀ {n : Nat}, n ≤ 64 → TV.ofWord (BitVec.ofNat 64 n) = TV.ofNat n := fun hn =>
      TV.ofWord_ofNat (Nat.lt_of_le_of_lt hn (by decide))
    refine ⟨⟨leadingZeros x.lo 64, wordOp1_gives h (hcount (leadingZeros_le _ _)), leadingZeros_le _ _,
        fun i hi => leadingZeros_false x.lo 64 hi, leadingZeros_true x.lo 64⟩,
      ⟨trailingZeros x.lo 0 64, wordOp1_gives h (hcount (trailingZeros_le _ _ _)), trailingZeros_le _ _ _, fun i hi => ?_,
        fun hn => ?_⟩,
      wordOp1_gives h ?_, ⟨_, wordOp1_runs h, fun i => reverseBits_getLsbD x.lo⟩,
      ⟨_, wordOp1_runs h, fun i => reverseBytes_byte x.lo⟩⟩
    · simpa using trailingZeros_false x.lo 64 hi
    · simpa using trailingZeros_true x.lo 64 hn
    · rw [onesBelow_eq]
      exact hcount ((List.length_filter_le _ _).trans List.length_range.le)
  case extend =>
    exact ⟨⟨_, wordOp2_runs h, fun i => signFrom_getLsbD x.lo y.lo⟩, ⟨_, wordOp2_runs h, fun i => zeroFrom_getLsbD x.lo y.lo⟩⟩
  case wordsTwo =>
    simp only [List.forall_mem_cons, List.not_mem_nil, false_imp_iff, implies_true, and_true]
    iterate 23 refine ⟨rfl, ?_⟩
    rfl
  case wordsOne =>
    simp only [List.forall_mem_cons, List.not_mem_nil, false_imp_iff, implies_true, and_true]
    exact ⟨rfl, rfl, rfl, rfl, rfl⟩
  · exact decode_of_raw_error ((decodeRaw_op01 hw).trans (decodeOp01_reserved hr))
  · obtain ⟨i, hi, hz⟩ := decodeOp01_oneSource h1 h2
    exact decode_badField ((decodeRaw_op01 hw).trans hi) (hz ▸ hb.symm)

end Sys2Proof.Machine
end

section
/-! PROOF. The immediate forms and `lui`, and multiplication and division (R102, R103, R105 to R107). -/
namespace Sys2Proof.Machine

/-! ### Immediates (R59) -/

theorem imm13_toInt (imm : BitVec 13) : (imm13 imm).toInt = imm.toInt := BitVec.toInt_signExtend_of_le (by decide)

/-- R59: the upper immediate is the field times 2^13. -/
theorem immU_eq (imm : BitVec 19) : immU imm = BitVec.ofInt 64 (imm.toInt * 2 ^ 13) := by
  have h : imm.signExtend 64 = BitVec.ofInt 64 imm.toInt := by
    rw [← BitVec.toInt_signExtend_of_le (x := imm) (v := 64) (by decide), BitVec.ofInt_toInt]
  rw [immU, BitVec.shiftLeft_eq_mul_twoPow, h, BitVec.ofInt_mul]
  rfl

/-- R102: a shift count of 64 or more uses bits that the shift forms leave 0. -/
theorem highImmediate_ne_zero {w : BitVec 32} (h : 64 ≤ (w.extractLsb' 19 13).toNat) : w.extractLsb' 25 7 ≠ 0#7 := by
  intro hz
  have hn : (w.extractLsb' 25 7).toNat = 0 := congrArg BitVec.toNat hz
  rw [BitVec.extractLsb'_toNat, Nat.shiftRight_eq_div_pow] at h hn
  omega

theorem encI_high (n a d : BitVec 6) (op : BitVec 7) : (encI (0#7 ++ n) a d op).extractLsb' 25 7 = 0#7 := by
  rw [encI_imm_part (st := 6) (n := 7) (by decide)]
  exact BitVec.extractLsb'_append_eq_left

/-- R102: the row of a shift by an immediate. -/
theorem decodeRaw_shift {w : BitVec 32} (h : w.extractLsb' 0 7 ∈ [0x09#7, 0x0A#7, 0x0B#7]) :
    ∃ i, decodeRaw w = .ok i ∧ (encode i).extractLsb' 25 7 = 0#7 := by
  simp only [List.mem_cons, List.not_mem_nil, or_false] at h
  obtain h | h | h := h
  · exact ⟨.slli _ _ _, by rw [decodeRaw, h]; rfl, encI_high _ _ _ _⟩
  · exact ⟨.srli _ _ _, by rw [decodeRaw, h]; rfl, encI_high _ _ _ _⟩
  · exact ⟨.srai _ _ _, by rw [decodeRaw, h]; rfl, encI_high _ _ _ _⟩

/-- Settles O4: the forms run as those of one source do; the fields of a shift's word leave no room for a count of 64. -/
theorem immediateFormsGiveTheirResults : Obligations.ImmediateFormsGiveTheirResults := by
  unfold Obligations.ImmediateFormsGiveTheirResults
  refine ⟨fun s s' d a imm n x h => ?values, fun s s' d imm h => ?upper, fun d a n imm up => ?words, fun w hop hn => ?refused⟩
  case values =>
    refine ⟨wordOp1_runs h, wordOp1_runs h, wordOp1_runs h, wordOp1_runs h, wordOp1_gives h (TV.ofWord_boolWord ?_),
      wordOp1_gives h (TV.ofWord_boolWord BitVec.ult_iff_toNat_lt), wordOp1_runs h, wordOp1_runs h, wordOp1_runs h,
      wordOp1_gives h (congrArg TV.ofWord (sext32_eq _))⟩
    rw [BitVec.slt_iff_toInt_lt, imm13_toInt]
  case upper =>
    have hr : exec (.lui d imm) s = gives 0 d 1 (TV.ofWord (immU imm)) s' :=
      runs_operands h (by simp only [M.bind_apply, result_ok, M.pure_apply])
    rw [hr, immU_eq]
  case words =>
    simp only [List.forall_mem_cons, List.not_mem_nil, false_imp_iff, implies_true, and_true]
    exact ⟨⟨rfl, rfl, rfl, rfl, rfl, rfl, rfl⟩, ⟨rfl, rfl, rfl⟩, rfl⟩
  case refused =>
    obtain ⟨i, hi, hz⟩ := decodeRaw_shift hop
    exact decode_badField hi (hz ▸ (highImmediate_ne_zero hn).symm)

/-! ### Products and quotients (R105 to R107) -/

theorem highWord_natural (x y : Word) :
    highWord ((x.toNat * y.toNat : Nat) : Int) = BitVec.ofNat 64 (x.toNat * y.toNat / 2 ^ 64) := by
  rw [highWord, ← BitVec.ofInt_natCast, Int.natCast_ediv]
  rfl

theorem halfOp_eq (f : BitVec 32 → BitVec 32 → BitVec 32) (x y : Word) :
    halfOp f x y = (f (x.extractLsb' 0 32) (y.extractLsb' 0 32)).signExtend 64 := by
  rw [halfOp, BitVec.setWidth_eq_extractLsb' (by decide), BitVec.setWidth_eq_extractLsb' (by decide)]

section
variable {w : Nat} {x y : BitVec w}

theorem quotS_of_ne_zero (h : y ≠ 0#w) : quotS w x y = BitVec.ofInt w (x.toInt.tdiv y.toInt) := if_neg h
theorem quotN_of_ne_zero (h : y ≠ 0#w) : quotN w x y = BitVec.ofNat w (x.toNat / y.toNat) := if_neg h
theorem remS_of_ne_zero (h : y ≠ 0#w) : remS w x y = BitVec.ofInt w (x.toInt.tmod y.toInt) := if_neg h
theorem remN_of_ne_zero (h : y ≠ 0#w) : remN w x y = BitVec.ofNat w (x.toNat % y.toNat) := if_neg h

theorem quotS_zero (h : y = 0#w) : quotS w x y = BitVec.allOnes w := if_pos h
theorem quotN_zero (h : y = 0#w) : quotN w x y = BitVec.allOnes w := if_pos h
theorem remS_zero (h : y = 0#w) : remS w x y = x := if_pos h
theorem remN_zero (h : y = 0#w) : remN w x y = x := if_pos h

end

section
variable {s s' : State} {sc lat : Nat} {d a b : BitVec 6} {x y : TV} {f : BitVec 32 → BitVec 32 → BitVec 32}

/-- R106: an operation on the low halves. -/
theorem halfOp_gives {r : BitVec 32} (h : Reads s [a, b] [d] [x, y] s')
    (hr : f (x.lo.extractLsb' 0 32) (y.lo.extractLsb' 0 32) = r) :
    runInstr sc (wordOp2 lat d a b (halfOp f)) s = gives sc d lat (TV.ofWord (r.signExtend 64)) s' :=
  wordOp2_gives h (by rw [halfOp_eq, hr])

end

/-- Settles O5: each form runs with the value of its function, whose cases are those of the divisor. -/
theorem multiplyAndDivideGiveTheirResults : Obligations.MultiplyAndDivideGiveTheirResults := by
  unfold Obligations.MultiplyAndDivideGiveTheirResults
  refine ⟨⟨fun s s' d a b sc x y h => ?products, fun s s' d a b sc x y h hy => ?quotients,
      fun s s' d a b sc x y p q h hp hq hy => ?halves, fun s s' d a b c x y z h => ⟨wordOp3_runs h, wordOp3_runs h⟩⟩,
    fun s s' d a b sc x y h hy => ?byZero, fun s s' d a b sc x y h hy => ?halvesByZero,
    fun s s' d a b sc x y h hx hy => ?wraps, fun s s' d a b sc x y h hx hy => ?halvesWrap⟩
  case products =>
    exact ⟨wordOp2_runs h, wordOp2_runs h, wordOp2_gives h (congrArg TV.ofWord (highWord_natural _ _)), wordOp2_runs h,
      halfOp_gives h rfl⟩
  case quotients =>
    exact ⟨wordOp2_gives h (congrArg TV.ofWord (quotS_of_ne_zero hy)),
      wordOp2_gives h ((congrArg TV.ofWord (quotN_of_ne_zero hy)).trans
        (TV.ofWord_ofNat ((Nat.div_le_self _ _).trans_lt x.lo.isLt))),
      wordOp2_gives h (congrArg TV.ofWord (remS_of_ne_zero hy)),
      wordOp2_gives h ((congrArg TV.ofWord (remN_of_ne_zero hy)).trans
        (TV.ofWord_ofNat ((Nat.mod_le _ _).trans_lt x.lo.isLt)))⟩
  case halves =>
    subst hp hq
    exact ⟨halfOp_gives h (quotS_of_ne_zero hy), halfOp_gives h (quotN_of_ne_zero hy), halfOp_gives h (remS_of_ne_zero hy),
      halfOp_gives h (remN_of_ne_zero hy)⟩
  case byZero =>
    exact ⟨wordOp2_gives h (congrArg TV.ofWord (quotS_zero hy)), wordOp2_gives h (congrArg TV.ofWord (quotN_zero hy)),
      wordOp2_gives h (congrArg TV.ofWord (remS_zero hy)), wordOp2_gives h (congrArg TV.ofWord (remN_zero hy))⟩
  case halvesByZero =>
    have hones : BitVec.allOnes 64 = (BitVec.allOnes 32).signExtend 64 := by decide
    rw [hones]
    exact ⟨halfOp_gives h (quotS_zero hy), halfOp_gives h (quotN_zero hy), halfOp_gives h (remS_zero hy),
      halfOp_gives h (remN_zero hy)⟩
  case wraps =>
    exact ⟨wordOp2_gives h (by rw [hx, hy]; decide), wordOp2_gives h (by rw [hx, hy]; decide)⟩
  case halvesWrap =>
    have hmin : 0xFFFFFFFF80000000#64 = (0x80000000#32).signExtend 64 := by decide
    have hzero : 0#64 = (0#32).signExtend 64 := by decide
    rw [hmin, hzero]
    exact ⟨halfOp_gives h (by rw [hx, hy]; decide), halfOp_gives h (by rw [hx, hy]; decide)⟩

end Sys2Proof.Machine
end

section
/-! PROOF. Capabilities (R90 to R96, R104, R108 to R111): their fields after each change, what narrowing chooses, and the
instructions that derive one from another. -/
namespace Sys2Proof.Machine

/-! ### Fields as parts of the bits (R93) -/

/-- A part of a part. -/
theorem extractLsb'_part {w : Nat} (x : BitVec w) {p n st len : Nat} (h : st + len ≤ n) :
    (x.extractLsb' p n).extractLsb' st len = x.extractLsb' (p + st) len := by
  apply BitVec.eq_of_getLsbD_eq
  intro i hi
  have hn : st + i < n := by omega
  simp [hi, hn, Nat.add_assoc]

theorem capAddr_eq (v : TV) : capAddr v = (v.bits.extractLsb' 0 64).toNat := rfl

theorem capL_eq (v : TV) : capL v = (v.bits.extractLsb' 64 25).toNat := by
  rw [capL, BitVec.extractLsb'_toNat, Nat.shiftRight_eq_div_pow]

theorem capE_eq (v : TV) : capE v = (v.bits.extractLsb' 114 6).toNat := by
  rw [capE, BitVec.extractLsb'_toNat, Nat.shiftRight_eq_div_pow]

theorem capPerms_eq (v : TV) : capPerms v = (v.bits.extractLsb' 120 8).toNat := by
  rw [capPerms, BitVec.extractLsb'_toNat, Nat.shiftRight_eq_div_pow]

theorem capAddr_lo (v : TV) : capAddr v = v.lo.toNat := rfl

/-- R93: bit 127 is the highest of the permission byte. -/
theorem topBit_eq (v : TV) : v.bits.toNat / 2 ^ 127 = capPerms v / 2 ^ 7 := by
  have h := v.bits.isLt
  unfold capPerms
  omega

/-- Two values with the same bits 127 to 64 differ in their address alone. -/
theorem fields_of_high {v w : TV} (h : v.bits.extractLsb' 64 64 = w.bits.extractLsb' 64 64) :
    capL v = capL w ∧ capD v = capD w ∧ capE v = capE w ∧ capPerms v = capPerms w := by
  have hpart : ∀ {st len}, st + len ≤ 64 → v.bits.extractLsb' (64 + st) len = w.bits.extractLsb' (64 + st) len := fun hs => by
    rw [← extractLsb'_part v.bits hs, h, extractLsb'_part w.bits hs]
  refine ⟨?_, congrArg BitVec.toInt (hpart (st := 25) (len := 25) (by decide)), ?_, ?_⟩
  · rw [capL_eq, capL_eq, hpart (st := 0) (len := 25) (by decide)]
  · rw [capE_eq, capE_eq, hpart (st := 50) (len := 6) (by decide)]
  · rw [capPerms_eq, capPerms_eq, hpart (st := 56) (len := 8) (by decide)]

/-- Two values with the same bits 119 to 0 differ in their permissions alone. -/
theorem fields_of_low {v w : TV} (h : v.bits.extractLsb' 0 120 = w.bits.extractLsb' 0 120) :
    capAddr v = capAddr w ∧ capL v = capL w ∧ capD v = capD w ∧ capE v = capE w := by
  have hpart : ∀ {st len}, st + len ≤ 120 → v.bits.extractLsb' st len = w.bits.extractLsb' st len := fun hs => by
    rw [← BitVec.extractLsb'_extractLsb'_of_le hs, h, BitVec.extractLsb'_extractLsb'_of_le hs]
  refine ⟨?_, ?_, congrArg BitVec.toInt (hpart (by decide)), ?_⟩
  · rw [capAddr_eq, capAddr_eq, hpart (by decide)]
  · rw [capL_eq, capL_eq, hpart (by decide)]
  · rw [capE_eq, capE_eq, hpart (by decide)]

/-! ### Fields after a change (R96, R108, R110) -/

theorem withAddr_high (v : TV) (y : Nat) : (withAddr v y).bits.extractLsb' 64 64 = v.bits.extractLsb' 64 64 :=
  BitVec.extractLsb'_append_eq_left

theorem capAddr_withAddr (v : TV) {y : Nat} (hy : y < 2 ^ 64) : capAddr (withAddr v y) = y := by
  have h : (withAddr v y).bits.extractLsb' 0 64 = BitVec.ofNat 64 y := BitVec.extractLsb'_append_eq_right
  rw [capAddr_eq, h, BitVec.toNat_ofNat, Nat.mod_eq_of_lt hy]

/-- R96: a distance of 25 bits is kept. -/
theorem capD_withDist (v : TV) {d : Int} (h1 : -2 ^ 24 ≤ d) (h2 : d < 2 ^ 24) : capD (withDist v d) = d := by
  have h : (withDist v d).bits.extractLsb' 89 25 = BitVec.ofInt 25 d := by
    unfold withDist
    rw [BitVec.extractLsb'_append_eq_of_le (by decide)]
    exact BitVec.extractLsb'_append_eq_right
  rw [capD, h, BitVec.toInt_ofInt_eq_self (by decide) h1 h2]

theorem withDist_fields (v : TV) (d : Int) :
    capL (withDist v d) = capL v ∧ capE (withDist v d) = capE v ∧ capPerms (withDist v d) = capPerms v := by
  have hlow : (withDist v d).bits.extractLsb' 0 89 = v.bits.extractLsb' 0 89 := BitVec.extractLsb'_append_eq_right
  have hhigh : (withDist v d).bits.extractLsb' 114 14 = v.bits.extractLsb' 114 14 := by
    unfold withDist
    rw [BitVec.extractLsb'_append_eq_of_le (by decide)]
    exact BitVec.extractLsb'_append_eq_left
  have hpart : ∀ {st len}, st + len ≤ 14 →
      (withDist v d).bits.extractLsb' (114 + st) len = v.bits.extractLsb' (114 + st) len := fun hs => by
    rw [← extractLsb'_part _ hs, hhigh, extractLsb'_part _ hs]
  refine ⟨?_, ?_, ?_⟩
  · rw [capL_eq, capL_eq, ← BitVec.extractLsb'_extractLsb'_of_le (len' := 89) (by decide), hlow,
      BitVec.extractLsb'_extractLsb'_of_le (by decide)]
  · rw [capE_eq, capE_eq, hpart (st := 0) (len := 6) (by decide)]
  · rw [capPerms_eq, capPerms_eq, hpart (st := 6) (len := 8) (by decide)]

theorem maskPerms_low (c : TV) (w : Word) : (maskPerms c w).bits.extractLsb' 0 120 = c.bits.extractLsb' 0 120 :=
  BitVec.extractLsb'_append_eq_right

theorem capPerms_maskPerms (c : TV) (w : Word) : capPerms (maskPerms c w) = capPerms c &&& (w.setWidth 8).toNat := by
  have h : (maskPerms c w).bits.extractLsb' 120 8 = c.bits.extractLsb' 120 8 &&& w.setWidth 8 :=
    BitVec.extractLsb'_append_eq_left
  rw [capPerms_eq, h, BitVec.toNat_and, ← capPerms_eq]

section
variable {addr l e perms : Nat} {d : Int}

theorem capAddr_mkCap (h : addr < 2 ^ 64) : capAddr (mkCap addr l d e perms) = addr := by
  have hb : (mkCap addr l d e perms).bits.extractLsb' 0 64 = BitVec.ofNat 64 addr := BitVec.extractLsb'_append_eq_right
  rw [capAddr_eq, hb, BitVec.toNat_ofNat, Nat.mod_eq_of_lt h]

theorem capL_mkCap (h : l < 2 ^ 25) : capL (mkCap addr l d e perms) = l := by
  have hb : (mkCap addr l d e perms).bits.extractLsb' 64 25 = BitVec.ofNat 25 l := by
    unfold mkCap
    rw [BitVec.extractLsb'_append_eq_of_le (by decide)]
    exact BitVec.extractLsb'_append_eq_right
  rw [capL_eq, hb, BitVec.toNat_ofNat, Nat.mod_eq_of_lt h]

theorem capD_mkCap (h1 : -2 ^ 24 ≤ d) (h2 : d < 2 ^ 24) : capD (mkCap addr l d e perms) = d := by
  have hb : (mkCap addr l d e perms).bits.extractLsb' 89 25 = BitVec.ofInt 25 d := by
    unfold mkCap
    rw [BitVec.extractLsb'_append_eq_of_le (by decide), BitVec.extractLsb'_append_eq_of_le (by decide)]
    exact BitVec.extractLsb'_append_eq_right
  rw [capD, hb, BitVec.toInt_ofInt_eq_self (by decide) h1 h2]

theorem capE_mkCap (h : e < 2 ^ 6) : capE (mkCap addr l d e perms) = e := by
  have hb : (mkCap addr l d e perms).bits.extractLsb' 114 6 = BitVec.ofNat 6 e := by
    unfold mkCap
    rw [BitVec.extractLsb'_append_eq_of_le (by decide), BitVec.extractLsb'_append_eq_of_le (by decide),
      BitVec.extractLsb'_append_eq_of_le (by decide)]
    exact BitVec.extractLsb'_append_eq_right
  rw [capE_eq, hb, BitVec.toNat_ofNat, Nat.mod_eq_of_lt h]

theorem capPerms_mkCap (h : perms < 2 ^ 8) : capPerms (mkCap addr l d e perms) = perms := by
  have hb : (mkCap addr l d e perms).bits.extractLsb' 120 8 = BitVec.ofNat 8 perms := by
    unfold mkCap
    rw [BitVec.extractLsb'_append_eq_of_le (by decide), BitVec.extractLsb'_append_eq_of_le (by decide),
      BitVec.extractLsb'_append_eq_of_le (by decide)]
    exact BitVec.extractLsb'_append_eq_left
  rw [capPerms_eq, hb, BitVec.toNat_ofNat, Nat.mod_eq_of_lt h]

end

theorem capPerms_lt (c : TV) : capPerms c < 2 ^ 8 := Nat.mod_lt _ (by decide)

/-! ### Bounds in units (R90, R94) -/

theorem capOk_iff (c : TV) : capOk c = true ↔ capE c ≤ 40 ∧ capL c ≤ 0xC00000 ∧ capPerms c / 2 ^ 7 = 0 ∧ 0 ≤ capBase c ∧
    capTop c ≤ 2 ^ 64 := by
  simp only [capOk, topBit_eq, Bool.and_eq_true, decide_eq_true_eq, and_assoc]

/-- A usable capability begins at a whole number of units. -/
theorem capBase_units {c : TV} (h : 0 ≤ capBase c) :
    ∃ b : Nat, capBase c = (b * 2 ^ capE c : Nat) ∧ capTop c = ((b + capL c) * 2 ^ capE c : Nat) := by
  have hp : (0 : Int) < 2 ^ capE c := by positivity
  obtain ⟨b, hb⟩ := Int.eq_ofNat_of_zero_le (nonneg_of_mul_nonneg_left h hp)
  have hbase : capBase c = (b * 2 ^ capE c : Nat) := by
    rw [capBase, hb]
    push_cast
    rfl
  refine ⟨b, hbase, ?_⟩
  rw [capTop, hbase]
  push_cast
  ring

/-! ### Setting the address (R96, R110) -/

section
variable {c : TV} {y : Nat}

theorem setAddr_representable (ht : c.tag = true) (hr : representable c y = true) :
    setAddr c y = withAddr (withDist c (capDist c y)) y := by
  simp only [setAddr, ht, hr, if_true]

theorem setAddr_lost (ht : c.tag = true) (hr : representable c y = false) :
    setAddr c y = { withAddr c y with tag := false } := by
  simp only [setAddr, ht, hr, if_true, Bool.false_eq_true, if_false]

theorem capAddr_setAddr (ht : c.tag = true) (hy : y < 2 ^ 64) : capAddr (setAddr c y) = y := by
  cases hr : representable c y with
  | true => rw [setAddr_representable ht hr, capAddr_withAddr _ hy]
  | false =>
    rw [setAddr_lost ht hr]
    exact capAddr_withAddr c hy

theorem tag_setAddr (ht : c.tag = true) : (setAddr c y).tag = representable c y := by
  cases hr : representable c y with
  | true =>
    rw [setAddr_representable ht hr]
    exact ht
  | false => rw [setAddr_lost ht hr]

/-- R96: an address within reach keeps length, exponent and permissions, and takes the distance that keeps the base. -/
theorem setAddr_fields (ht : c.tag = true) (hr : representable c y = true) :
    capL (setAddr c y) = capL c ∧ capD (setAddr c y) = capDist c y ∧ capE (setAddr c y) = capE c ∧
      capPerms (setAddr c y) = capPerms c := by
  have hd : -2 ^ 24 ≤ capDist c y ∧ capDist c y < 2 ^ 24 := by simpa [representable] using hr
  obtain ⟨hl, hdist, he, hp⟩ := fields_of_high (withAddr_high (withDist c (capDist c y)) y)
  obtain ⟨hl', he', hp'⟩ := withDist_fields c (capDist c y)
  rw [setAddr_representable ht hr]
  exact ⟨hl.trans hl', hdist.trans (capD_withDist c hd.1 hd.2), he.trans he', hp.trans hp'⟩

theorem capPerms_setAddr (ht : c.tag = true) (hr : representable c y = true) : capPerms (setAddr c y) = capPerms c := by
  obtain ⟨-, -, -, hp⟩ := setAddr_fields ht hr
  exact hp

theorem capBase_setAddr (ht : c.tag = true) (hy : y < 2 ^ 64) (hr : representable c y = true) :
    capBase (setAddr c y) = capBase c := by
  obtain ⟨-, hd, he, -⟩ := setAddr_fields ht hr
  rw [capBase, capAddr_setAddr ht hy, hd, he, capDist, capBase]
  congr 1
  ring

theorem capTop_setAddr (ht : c.tag = true) (hy : y < 2 ^ 64) (hr : representable c y = true) :
    capTop (setAddr c y) = capTop c := by
  obtain ⟨hl, -, he, -⟩ := setAddr_fields ht hr
  rw [capTop, capBase_setAddr ht hy hr, hl, he, capTop]

theorem capOk_setAddr (ht : c.tag = true) (hy : y < 2 ^ 64) (hr : representable c y = true) (hok : capOk c = true) :
    capOk (setAddr c y) = true := by
  obtain ⟨hl, -, he, hp⟩ := setAddr_fields ht hr
  rw [capOk_iff, hl, he, hp, capBase_setAddr ht hy hr, capTop_setAddr ht hy hr]
  exact (capOk_iff c).1 hok

end

/-! ### Narrowing (R92, R109) -/

/-- R109: the length in units of 2^e bytes of [lo, top), rounded outward. -/
def spanUnits (lo top e : Nat) : Nat := (top + 2 ^ e - 1) / 2 ^ e - lo / 2 ^ e

/-- R109: the exponent chosen is the least that holds the length, where there is one. -/
theorem boundsFrom_least {lo top m : Nat} (hm : spanUnits lo top m ≤ 0xC00000) (fuel : Nat) : ∀ {e0 : Nat},
    e0 ≤ m → m ≤ e0 + fuel →
    ∃ e, boundsFrom fuel e0 lo top = (e, lo / 2 ^ e, (top + 2 ^ e - 1) / 2 ^ e) ∧ e ≤ m ∧ spanUnits lo top e ≤ 0xC00000 ∧
      ∀ f, e0 ≤ f → f < e → 0xC00000 < spanUnits lo top f := by
  induction fuel with
  | zero =>
    intro e0 h1 h2
    obtain rfl : e0 = m := by omega
    exact ⟨e0, rfl, le_rfl, hm, fun f hf hlt => absurd hlt (Nat.not_lt.2 hf)⟩
  | succ fuel ih =>
    intro e0 h1 h2
    by_cases hfit : spanUnits lo top e0 ≤ 0xC00000
    · exact ⟨e0, if_pos hfit, h1, hfit, fun f hf hlt => absurd hlt (Nat.not_lt.2 hf)⟩
    · have hne : e0 ≠ m := fun h => hfit (h ▸ hm)
      obtain ⟨e, he, hle, hspan, hleast⟩ := ih (e0 := e0 + 1) (by omega) (by omega)
      refine ⟨e, (if_neg hfit).trans he, hle, hspan, fun f hf hlt => ?_⟩
      obtain rfl | hf' := Nat.eq_or_lt_of_le hf
      · exact Nat.not_le.1 hfit
      · exact hleast f hf' hlt

/-- A span within `[b, b + l)` units is at most `l` units long. -/
theorem units_within {lo top b l e : Nat} (h1 : b * 2 ^ e ≤ lo) (h2 : top ≤ (b + l) * 2 ^ e) :
    b ≤ lo / 2 ^ e ∧ (top + 2 ^ e - 1) / 2 ^ e ≤ b + l := by
  have hp : 0 < 2 ^ e := Nat.two_pow_pos e
  refine ⟨(Nat.le_div_iff_mul_le hp).2 h1, Nat.lt_succ_iff.1 ((Nat.div_lt_iff_lt_mul hp).2 ?_)⟩
  rw [Nat.succ_mul]
  omega

/-- The bounds in units of a smaller exponent lie within bounds that are whole in a larger one. -/
theorem bounds_within {lo top b l e E : Nat} (he : e ≤ E) (h1 : b * 2 ^ E ≤ lo) (h2 : top ≤ (b + l) * 2 ^ E) :
    b * 2 ^ E ≤ lo / 2 ^ e * 2 ^ e ∧ (top + 2 ^ e - 1) / 2 ^ e * 2 ^ e ≤ (b + l) * 2 ^ E := by
  have hunit : ∀ n, n * 2 ^ E = n * 2 ^ (E - e) * 2 ^ e := fun n => by
    rw [Nat.mul_assoc, ← Nat.pow_add, Nat.sub_add_cancel he]
  rw [hunit] at h1 h2
  rw [Nat.add_mul] at h2
  obtain ⟨hlo, htop⟩ := units_within h1 h2
  rw [hunit, hunit (b + l), Nat.add_mul]
  exact ⟨Nat.mul_le_mul_right _ hlo, Nat.mul_le_mul_right _ htop⟩

section
variable {c : TV} {lo top : Nat}

/-- R109: narrowing within the bounds of a usable capability: what it chooses and what it gives. -/
theorem narrow_within (hok : capOk c = true) (hlo : capBase c ≤ (lo : Int)) (htop : (top : Int) ≤ capTop c) :
    ∃ e, e ≤ capE c ∧ spanUnits lo top e ≤ 0xC00000 ∧ (∀ f, f < e → 0xC00000 < spanUnits lo top f) ∧
      narrow c lo top = (mkCap lo (spanUnits lo top e) 0 e (capPerms c),
        decide (lo / 2 ^ e * 2 ^ e = lo) && decide ((top + 2 ^ e - 1) / 2 ^ e * 2 ^ e = top)) := by
  obtain ⟨hE, hL, -, hbase, -⟩ := (capOk_iff c).1 hok
  obtain ⟨b, hb, ht⟩ := capBase_units hbase
  rw [hb, Nat.cast_le] at hlo
  rw [ht, Nat.cast_le] at htop
  obtain ⟨hb1, hb2⟩ := units_within hlo htop
  have hfit : spanUnits lo top (capE c) ≤ 0xC00000 := by unfold spanUnits; omega
  obtain ⟨e, he, hle, hspan, hleast⟩ := boundsFrom_least hfit 40 (Nat.zero_le _) (by omega)
  refine ⟨e, hle, hspan, fun f => hleast f (Nat.zero_le f), ?_⟩
  simp only [narrow, he, sub_self, spanUnits]

/-- R109: the rounded bounds are the bounds where both are whole in units. -/
theorem exact_iff (lo top e : Nat) :
    (decide (lo / 2 ^ e * 2 ^ e = lo) && decide ((top + 2 ^ e - 1) / 2 ^ e * 2 ^ e = top)) = true ↔
      lo % 2 ^ e = 0 ∧ top % 2 ^ e = 0 := by
  have hp : 0 < 2 ^ e := Nat.two_pow_pos e
  rw [Bool.and_eq_true, decide_eq_true_iff, decide_eq_true_iff, ← Nat.dvd_iff_div_mul_eq, Nat.dvd_iff_mod_eq_zero]
  refine and_congr_right fun _ => ⟨fun h => ?_, fun h => ?_⟩
  · rw [← h, Nat.mul_mod_left]
  · obtain ⟨n, rfl⟩ := Nat.dvd_of_mod_eq_zero h
    rw [Nat.add_sub_assoc hp, Nat.mul_add_div hp, Nat.div_eq_of_lt (Nat.sub_lt hp Nat.one_pos), Nat.add_zero, Nat.mul_comm]

/-- R92: the narrowed capability lies between what was asked for and its source. -/
theorem narrow_bounds (hok : capOk c = true) (hlo : capBase c ≤ (lo : Int)) (hlt : lo < 2 ^ 64) (hle : lo ≤ top)
    (htop : (top : Int) ≤ capTop c) :
    capBase c ≤ capBase (narrow c lo top).1 ∧ capBase (narrow c lo top).1 ≤ (lo : Int) ∧
      (top : Int) ≤ capTop (narrow c lo top).1 ∧ capTop (narrow c lo top).1 ≤ capTop c ∧
      capPerms (narrow c lo top).1 = capPerms c ∧ capOk (narrow c lo top).1 = true := by
  obtain ⟨e, hle', hspan, -, hn⟩ := narrow_within hok hlo htop
  obtain ⟨hE, -, hbit, hbase, hmax⟩ := (capOk_iff c).1 hok
  obtain ⟨b, hb, ht⟩ := capBase_units hbase
  rw [hn]
  have hcE : capE (mkCap lo (spanUnits lo top e) 0 e (capPerms c)) = e := capE_mkCap (by omega)
  have hcL : capL (mkCap lo (spanUnits lo top e) 0 e (capPerms c)) = spanUnits lo top e := capL_mkCap (by omega)
  have hcP : capPerms (mkCap lo (spanUnits lo top e) 0 e (capPerms c)) = capPerms c := capPerms_mkCap (capPerms_lt c)
  have hcB : capBase (mkCap lo (spanUnits lo top e) 0 e (capPerms c)) = (lo / 2 ^ e * 2 ^ e : Nat) := by
    rw [capBase, capAddr_mkCap hlt, capD_mkCap (by decide) (by decide), hcE]
    push_cast
    ring
  have hp : 0 < 2 ^ e := Nat.two_pow_pos e
  have hmono : lo / 2 ^ e ≤ (top + 2 ^ e - 1) / 2 ^ e := Nat.div_le_div_right (by omega)
  have hcT : capTop (mkCap lo (spanUnits lo top e) 0 e (capPerms c)) = ((top + 2 ^ e - 1) / 2 ^ e * 2 ^ e : Nat) := by
    rw [capTop, hcB, hcL, hcE, ← Nat.cast_add, ← Nat.add_mul, spanUnits, Nat.add_sub_cancel' hmono]
  have hlo' : b * 2 ^ capE c ≤ lo := by rw [hb] at hlo; exact_mod_cast hlo
  have htop' : top ≤ (b + capL c) * 2 ^ capE c := by rw [ht] at htop; exact_mod_cast htop
  obtain ⟨hin1, hin2⟩ := bounds_within hle' hlo' htop'
  have hup : top ≤ (top + 2 ^ e - 1) / 2 ^ e * 2 ^ e := by
    have := Nat.div_add_mod (top + 2 ^ e - 1) (2 ^ e)
    have := Nat.mod_lt (top + 2 ^ e - 1) hp
    rw [Nat.mul_comm]
    omega
  have h1 : capBase c ≤ capBase (mkCap lo (spanUnits lo top e) 0 e (capPerms c)) := by rw [hcB, hb]; exact_mod_cast hin1
  have h4 : capTop (mkCap lo (spanUnits lo top e) 0 e (capPerms c)) ≤ capTop c := by rw [hcT, ht]; exact_mod_cast hin2
  refine ⟨h1, ?_, ?_, h4, hcP, ?_⟩
  · rw [hcB]; exact_mod_cast Nat.div_mul_le_self lo (2 ^ e)
  · rw [hcT]; exact_mod_cast hup
  · rw [capOk_iff, hcE, hcL, hcP]
    exact ⟨hle'.trans hE, hspan, hbit, hbase.trans h1, h4.trans hmax⟩

end

/-- R108: masking permissions keeps the bounds. -/
theorem maskPerms_bounds (c : TV) (w : Word) :
    capBase (maskPerms c w) = capBase c ∧ capTop (maskPerms c w) = capTop c := by
  obtain ⟨ha, hl, hd, he⟩ := fields_of_low (maskPerms_low c w)
  have hb : capBase (maskPerms c w) = capBase c := by rw [capBase, ha, hd, he, capBase]
  exact ⟨hb, by rw [capTop, hb, hl, he, capTop]⟩

/-- Settles O8: the fields of each derived capability give its bounds; narrowing rounds to units that divide those of its
source. -/
theorem derivedCapabilitiesStayWithinTheirSource : Obligations.DerivedCapabilitiesStayWithinTheirSource := by
  unfold Obligations.DerivedCapabilitiesStayWithinTheirSource
  refine ⟨fun c y hy hok ht => ⟨capAddr_setAddr ht hy, tag_setAddr ht, fun hr => ⟨capBase_setAddr ht hy hr,
    capTop_setAddr ht hy hr, capPerms_setAddr ht hr, capOk_setAddr ht hy hr hok⟩⟩, fun c lo top w hok ht hlo hlt hle htop => ?_⟩
  obtain ⟨h1, h2, h3, h4, h5, h6⟩ := narrow_bounds hok hlo hlt hle htop
  obtain ⟨hbase, htop⟩ := maskPerms_bounds c w
  refine ⟨h1, h2, h3, h4, h5, h6, ?_, hbase, htop⟩
  rw [capPerms_maskPerms, Nat.and_right_comm, Nat.and_self]

/-! ### The instructions (R104, R108 to R111) -/

section
variable {s s' : State} {t : Strand} {sc : Nat} {d a b : BitVec 6} {x y v : TV}

theorem capOp1_gives {f : TV → TV} (h : Reads s [a] [d] [x] s') (hv : f x = v) :
    runInstr sc (capOp1 d a f) s = gives sc d 1 v s' := hv ▸ capOp1_runs h

theorem capOp2_gives {f : TV → TV → TV} (h : Reads s [a, b] [d] [x, y] s') (hv : f x y = v) :
    runInstr sc (capOp2 d a b f) s = gives sc d 1 v s' := hv ▸ capOp2_runs h

end

theorem subsetOf_iff (x y : TV) : subsetOf x y = true ↔ x.tag = true ∧ y.tag = true ∧ capBase x ≤ capBase y ∧
    capTop y ≤ capTop x ∧ capPerms y &&& capPerms x = capPerms y := by
  simp only [subsetOf, Bool.and_eq_true, decide_eq_true_eq, and_assoc]

/-- Settles O6: each form runs as the shape of its meaning does, with the value of its function. -/
theorem capabilityFormsGiveTheirResults : Obligations.CapabilityFormsGiveTheirResults := by
  unfold Obligations.CapabilityFormsGiveTheirResults
  refine ⟨fun s s' d a b sc x y h => ⟨capOp2_gives h ?_, capOp2_runs h, capOp2_runs h, capOp2_runs h,
      capOp2_gives h (TV.ofWord_boolWord (subsetOf_iff x y))⟩,
    fun s s' d a sc imm x h => ⟨capOp1_runs h, capOp1_runs h, capOp1_gives h ?_, capOp1_gives h (TV.ofWord_boolWord Iff.rfl),
      capOp1_runs h, capOp1_runs h, capOp1_runs h⟩, fun s s' d imm t h hc => ?_⟩
  · have hw : y.lo.setWidth 8 = y.bits.extractLsb' 0 8 := by
      rw [BitVec.setWidth_eq_extractLsb' (by decide), TV.lo, BitVec.extractLsb'_extractLsb'_of_le (by decide)]
    rw [maskPerms, hw]
  · rw [capPerms_eq]
  · have hr : exec (.auipc d imm) s = gives 0 d 1 (setAddr t.pcc (t.pc + immU imm).toNat) s' :=
      runs_operands h (by simp only [M.bind_apply, M.getStrand_apply hc, result_ok, M.pure_apply])
    rw [hr, immU_eq]

end Sys2Proof.Machine
end

section
/-! PROOF. The narrowing instructions (R109), and how an instruction that has read its sources traps. -/
namespace Sys2Proof.Machine

/-! ### Traps after the sources are read -/

theorem Turn.unique {s : State} {t u : Strand} (h : Turn s t) (h' : Turn s u) : t = u :=
  Option.some.inj (h.1.symm.trans h'.1)

section
variable {s s' s2 : State} {t : Strand} {a b : BitVec 6} {dests : List (BitVec 6)} {x y : TV} {sc c : Nat} {v : Word}
  (ht : Turn s t)
include ht

theorem traps_operand1 {f : TV → M Flow} (h : Reads s [a] dests [x] s') (hf : f x s' = .error (.trap c v) s2) :
    runInstr sc (operand1 a dests >>= f) s = traps c v t s2 := by
  obtain ⟨u, hu, ho⟩ := ReadsFields.ok h
  rw [ht.unique hu]
  exact runInstr_trap hu (by simp only [operand1, operands, M.bind_apply, ho, M.pure_apply]; exact hf)

theorem traps_operand2 {f : TV × TV → M Flow} (h : Reads s [a, b] dests [x, y] s')
    (hf : f (x, y) s' = .error (.trap c v) s2) : runInstr sc (operand2 a b dests >>= f) s = traps c v t s2 := by
  obtain ⟨u, hu, ho⟩ := ReadsFields.ok h
  rw [ht.unique hu]
  exact runInstr_trap hu (by simp only [operand2, operands, M.bind_apply, ho, M.pure_apply]; exact hf)

end

/-! ### The pseudocode of R109 -/

section
variable {c : TV} {len top : Nat} {exact_ : Bool}

theorem narrowed_untagged (h : c.tag = false) (s : State) :
    narrowed c len exact_ s = .error (.trap 0x03 (BitVec.ofNat 64 (capAddr c))) s := by
  simp [narrowed, h, M.bind_apply]

theorem narrowed_outside (ht : c.tag = true) (h : (capAddr c : Int) < capBase c ∨ capTop c < ((capAddr c + len : Nat) : Int))
    (s : State) : narrowed c len exact_ s = .error (.trap 0x04 (BitVec.ofNat 64 (capAddr c + len))) s := by
  have hb : (decide ((capAddr c : Int) < capBase c) || decide (capTop c < ((capAddr c + len : Nat) : Int))) = true := by
    simpa only [Bool.or_eq_true, decide_eq_true_eq] using h
  simp only [narrowed, ht, hb, M.bind_apply, M.trap_apply, Bool.not_true, Bool.false_eq_true, if_false, if_true]

section
variable (ht : c.tag = true) (h1 : capBase c ≤ (capAddr c : Int)) (h2 : ((capAddr c + len : Nat) : Int) ≤ capTop c)
include ht h1 h2

/-- Within the bounds of a tagged capability, the rounding decides. -/
theorem narrowed_inside (s : State) : narrowed c len exact_ s =
    if (exact_ && !(narrow c (capAddr c) (capAddr c + len)).2) = true then
      .error (.trap 0x04 (BitVec.ofNat 64 (capAddr c + len))) s
    else .ok (narrow c (capAddr c) (capAddr c + len)).1 s := by
  have hb : (decide ((capAddr c : Int) < capBase c) || decide (capTop c < ((capAddr c + len : Nat) : Int))) = false := by
    simp only [Bool.or_eq_false_iff, decide_eq_false_iff_not, not_lt]
    exact ⟨h1, h2⟩
  simp only [narrowed, ht, hb, Bool.not_true, Bool.false_eq_true, if_false]
  split <;> rfl

theorem narrowed_ok (he : exact_ = true → (narrow c (capAddr c) (capAddr c + len)).2 = true) (s : State) :
    narrowed c len exact_ s = .ok (narrow c (capAddr c) (capAddr c + len)).1 s := by
  rw [narrowed_inside ht h1 h2, if_neg]
  intro h
  obtain ⟨hx, hn⟩ := Bool.and_eq_true_iff.1 h
  rw [he hx] at hn
  exact Bool.noConfusion hn

theorem narrowed_inexact (he : (narrow c (capAddr c) (capAddr c + len)).2 = false) (s : State) :
    narrowed c len true s = .error (.trap 0x04 (BitVec.ofNat 64 (capAddr c + len))) s := by
  rw [narrowed_inside ht h1 h2, he]
  rfl

end

/-- R109: a length that fits the field of an immediate needs no rounding. -/
theorem narrow_short (h : len ≤ 0xC00000) (lo : Nat) : (narrow c lo (lo + len)).1 = mkCap lo len 0 0 (capPerms c) := by
  have hb : boundsFrom 40 0 lo (lo + len) = (0, lo, lo + len) := by
    unfold boundsFrom
    simp only [pow_zero, Nat.div_one, Nat.add_sub_cancel, Nat.add_sub_cancel_left, h, if_true]
  simp only [narrow, hb, pow_zero, Nat.div_one, Nat.add_sub_cancel_left, sub_self]

end

/-! ### The instructions -/

section
variable {s s' : State} {t : Strand} {sc : Nat} {d a b : BitVec 6} {x y v : TV} {c : Nat} {w : Word} {exact_ : Bool}

/-- What `cbnd` and `cbnde` do with their operands (R109). -/
def cbndMeaning (d a b : BitVec 6) (exact_ : Bool) : M Flow := do
  let (x, y) ← operand2 a b [d]
  result d 1 (← narrowed x y.lo.toNat exact_)
  return .next

theorem execCbnd_eq (sc : BitVec 2) : exec (.cbnd d a b sc) s = runInstr sc.toNat (cbndMeaning d a b false) s := rfl

theorem execCbnde_eq (sc : BitVec 2) : exec (.cbnde d a b sc) s = runInstr sc.toNat (cbndMeaning d a b true) s := rfl

theorem cbnd_gives (h : Reads s [a, b] [d] [x, y] s') (hn : narrowed x y.lo.toNat exact_ s' = .ok v s') :
    runInstr sc (cbndMeaning d a b exact_) s = gives sc d 1 v s' :=
  runs_operand2 h (by simp only [M.bind_apply, hn, result_ok, M.pure_apply])

theorem cbnd_traps (ht : Turn s t) (h : Reads s [a, b] [d] [x, y] s')
    (hn : narrowed x y.lo.toNat exact_ s' = .error (.trap c w) s') :
    runInstr sc (cbndMeaning d a b exact_) s = traps c w t s' :=
  traps_operand2 ht h (by simp only [M.bind_apply, hn])

variable {imm : BitVec 12}

theorem cbndi_gives (h : Reads s [a] [d] [x] s') (hn : narrowed x imm.toNat false s' = .ok v s') :
    exec (.cbndi d a imm) s = gives 0 d 1 v s' :=
  runs_operand1 h (by simp only [M.bind_apply, hn, result_ok, M.pure_apply])

theorem cbndi_traps (ht : Turn s t) (h : Reads s [a] [d] [x] s')
    (hn : narrowed x imm.toNat false s' = .error (.trap c w) s') : exec (.cbndi d a imm) s = traps c w t s' :=
  traps_operand1 ht h (by simp only [M.bind_apply, hn])

end

theorem lo_eq_ofNat (x : TV) : x.lo = BitVec.ofNat 64 (capAddr x) := by
  rw [capAddr_lo, BitVec.ofNat_toNat, BitVec.setWidth_eq]

/-- Settles O7: each clause is one ending of the pseudocode, the exponent chosen that of `narrow_within`. -/
theorem narrowingFollowsItsPseudocode : Obligations.NarrowingFollowsItsPseudocode := by
  unfold Obligations.NarrowingFollowsItsPseudocode
  refine ⟨fun s s' t d a b sc x y lo top ht h hlo htop => ?_, fun s s' t d a imm x lo top ht h hlo htop => ?_⟩
  all_goals
    rw [← capAddr_lo] at hlo
    subst hlo htop
  · rw [execCbnd_eq, execCbnde_eq]
    refine ⟨fun hx => ?_, fun hx hout => ?_, fun hx h1 h2 hok => ?_⟩
    · rw [lo_eq_ofNat]
      exact ⟨cbnd_traps ht h (narrowed_untagged hx s'), cbnd_traps ht h (narrowed_untagged hx s')⟩
    · exact ⟨cbnd_traps ht h (narrowed_outside hx hout s'), cbnd_traps ht h (narrowed_outside hx hout s')⟩
    · obtain ⟨e, hle, hspan, hleast, hn⟩ := narrow_within hok h1 h2
      have hcbnd : runInstr sc.toNat (cbndMeaning d a b false) s =
          gives sc.toNat d 1 (narrow x (capAddr x) (capAddr x + y.lo.toNat)).1 s' :=
        cbnd_gives h (narrowed_ok hx h1 h2 (fun he => absurd he Bool.false_ne_true) s')
      have hexact := exact_iff (capAddr x) (capAddr x + y.lo.toNat) e
      refine ⟨e, hle, hspan, hleast, ?_, fun hl ht' => ?_, fun hr => ?_⟩
      · rw [hcbnd, hn]
        rfl
      · rw [hcbnd]
        exact cbnd_gives h (narrowed_ok hx h1 h2 (fun _ => by rw [hn]; exact hexact.2 ⟨hl, ht'⟩) s')
      · have hf : (narrow x (capAddr x) (capAddr x + y.lo.toNat)).2 = false := by
          rw [hn, Bool.eq_false_iff]
          exact fun hex => hr.elim (fun hl => hl (hexact.1 hex).1) (fun ht' => ht' (hexact.1 hex).2)
        exact cbnd_traps ht h (narrowed_inexact hx h1 h2 hf s')
  · refine ⟨fun hx => ?_, fun hx hout => cbndi_traps ht h (narrowed_outside hx hout s'), fun hx h1 h2 => ?_⟩
    · rw [lo_eq_ofNat]
      exact cbndi_traps ht h (narrowed_untagged hx s')
    · have himm := imm.isLt
      rw [← narrow_short (c := x) (len := imm.toNat) (by omega) (capAddr x)]
      exact cbndi_gives h (narrowed_ok hx h1 h2 (fun he => absurd he Bool.false_ne_true) s')

end Sys2Proof.Machine
end

section
/-! PROOF. Accesses that reach their location (R95, R278, R285, R294 to R298): what a release leaves of the places of
addresses, and the loads, stores, atomics and reductions as they run. -/
namespace Sys2Proof.Machine

/-! ### Places after a release (R278, R294) -/

/-- The place of an address depends on the cores' boundaries alone, of all that the cores hold. -/
theorem place_of_bounds {s : State} {cs : List (Nat × Core)} (h : ∀ j, (kget Core.init j cs).xobound = (s.core j).xobound) :
    ({ s with cores := cs } : State).place = s.place := by
  have hb : ({ s with cores := cs } : State).belowBound = s.belowBound := by
    funext a
    simp only [State.belowBound, State.core, h]
    rfl
  funext k x n w fm
  unfold State.place State.placeAs State.spadPlace
  rw [hb]
  rfl

theorem xobound_updStrand (s : State) (k sl : Nat) (f : Strand → Strand) (j : Nat) :
    ((s.updStrand k sl f).core j).xobound = (s.core j).xobound := by
  unfold State.updStrand
  split
  · by_cases hj : j = k
    · subst hj
      simp only [State.setStrand, core_updCore_same]
    · simp only [State.setStrand, core_updCore_ne hj]
  · rfl

theorem place_updStrand (s : State) (k sl : Nat) (f : Strand → Strand) : (s.updStrand k sl f).place = s.place := by
  have hs : s.updStrand k sl f = { s with cores := (s.updStrand k sl f).cores } := by
    unfold State.updStrand
    split <;> rfl
  rw [hs]
  exact place_of_bounds (xobound_updStrand s k sl f)

theorem place_releasedAt (s : State) (scope : Nat) : (s.releasedAt scope).place = s.place := by
  unfold State.releasedAt
  split
  · exact place_updStrand s _ _ _
  · rfl

theorem turn_releasedAt (s : State) (scope : Nat) : (s.releasedAt scope).turn = s.turn := by
  unfold State.releasedAt
  split
  · exact updStrand_turn s _ _ _
  · rfl

/-- R285, R288, R294: a release that finds all it waits for. -/
theorem releaseAt_ok {s : State} {rel : Bool} {scope : Nat} (h : rel = true → ReleasedAt s scope) :
    releaseAt rel scope s = .ok () (if rel then s.releasedAt scope else s) := by
  cases rel with
  | false => simp only [releaseAt, M.bind_apply, M.get_apply, Bool.false_and, Bool.false_eq_true, if_false, M.pure_apply]
  | true =>
    obtain ⟨hr, hf⟩ := h rfl
    simp only [releaseAt, M.bind_apply, M.get_apply, released_iff.2 hr, Bool.not_true, Bool.true_and, Bool.false_eq_true,
      if_false, if_true, State.releasedAt, decide_eq_true_eq]
    split
    next h4 =>
      have hp : s.fabricPending s.turn.1 s.turn.2 = false := hf h4
      simp only [fabricWait, M.bind_apply, M.get_apply, hp, Bool.false_eq_true, if_false, M.modStrand_apply]
      rfl
    · rfl

/-! ### Performing an access at its location (R278, R296) -/

/-- R95, R278: an access that reaches its location is performed there; one that is performed at the ridge, where its gate is
open. -/
theorem Reaches.access {s : State} {c : TV} {kind : AccessKind} {fm acq : Bool} {x scope p loc : Nat} {d : BitVec 6}
    {act : Nat → M Unit} (h : Reaches s c x kind.bytes p kind.writes fm loc) (hx : x < 2 ^ 64)
    (hr : kind.atRidge scope = true → cachedLoc loc = true → s.gateShut (clusterOf s.turn.1) = false) :
    access x kind fm acq scope d act s = act loc s := by
  obtain ⟨-, hp, hh, hb⟩ := h
  have hgate := place_here_gate hx hp
  have hg : s.gateBlocks (clusterOf s.turn.1) loc kind scope = false := by
    unfold State.gateBlocks
    cases hk : kind.atRidge scope with
    | false => rwa [Bool.false_or]
    | true =>
      cases hc : cachedLoc loc with
      | false => rw [Bool.and_false, Bool.false_and]
      | true => rw [hr hk hc, Bool.false_and, Bool.false_and]
  simp only [Sys2Proof.Machine.access, M.bind_apply, M.get_apply, hp, hg, hh, hb, Bool.false_eq_true, if_false]

/-- R296: the checks of a format M access pass, before its release, where it reaches its location after it. -/
theorem formatMCheck_ok {s s1 : State} {c : TV} {size p loc : Nat} {w : Bool} (hw : decide (p &&& permStore ≠ 0) = w)
    (h : Reaches s1 c (capAddr c) size p w true loc) (ha : capAddr c % size = 0) (hp : s1.place = s.place)
    (ht : s1.turn = s.turn) : formatMCheck c (capAddr c) size p s = .ok () s := by
  obtain ⟨hd, hhere, -, -⟩ := h
  rw [hp, ht] at hhere
  simp only [formatMCheck, M.bind_apply, derefCheck_ok hd, ha, ne_eq, not_true_eq_false, if_false, hw,
    spaceCheck_here hhere]

theorem place_ordered (s : State) (ord : BitVec 2) (scope : BitVec 3) : (s.ordered ord scope).place = s.place := by
  unfold State.ordered
  split
  · exact place_releasedAt s _
  · rfl

theorem turn_ordered (s : State) (ord : BitVec 2) (scope : BitVec 3) : (s.ordered ord scope).turn = s.turn := by
  unfold State.ordered
  split
  · exact turn_releasedAt s _
  · rfl

/-- R285: the release with which an ordered access begins. -/
theorem releaseAt_ordered {s : State} {ord : BitVec 2} {scope : BitVec 3} (h : OrderOk s ord scope) :
    releaseAt (ordRel ord) scope.toNat s = .ok () (s.ordered ord scope) := releaseAt_ok h

/-! ### Atomics and reductions (R295 to R298) -/

section
variable {s s' s1 : State} {d a b : BitVec 6} {scope : BitVec 3} {ord : BitVec 2} {c y : TV} {size loc : Nat} {op : AmoOp}

/-- R295, R297: an atomic that reaches its location. -/
theorem amo_runs (h : Reads s [a, b] [d] [c, y] s') (hc : Clear s') (ho : OrderOk s' ord scope)
    (hs1 : s1 = s'.ordered ord scope) (ha : capAddr c % size = 0)
    (hr : Reaches s1 c (capAddr c) size (permLoad ||| permStore ||| permAtomic) true true loc) (hg : RidgeOk s1 scope loc) :
    runInstr 0 (amo op size d a b scope ord) s = gives 0 d 0 (TV.ofNat (s1.read loc size))
      (((s1.touchAtomic (clusterOf s1.turn.1) loc size scope.toNat).write loc (natBytes size
        (op.apply size (s1.read loc size) (y.bits.toNat % 2 ^ (8 * size))).1)).flagged
          (op.apply size (s1.read loc size) (y.bits.toNat % 2 ^ (8 * size))).2) := by
  subst hs1
  have hcheck := formatMCheck_ok (s := s') rfl hr ha (place_ordered s' ord scope) (turn_ordered s' ord scope)
  refine runs_operand2 (flow := .next) h ?_
  simp only [M.bind_apply, afterAcquire_clear hc, hcheck, releaseAt_ordered ho]
  rw [Reaches.access (kind := .amo op size _ _) hr (capAddr_lt c) fun hk => hg (of_decide_eq_true hk)]
  simp only [M.bind_apply, M.get_apply, State.atomicAt, M.set_apply, setFlags, M.modStrand_apply, result_ok, M.pure_apply]
  rfl

/-- R298: a reduction that reaches its location. -/
theorem red_runs (h : Reads s [a, b] [] [c, y] s') (hc : Clear s') (ho : OrderOk s' ord scope)
    (hs1 : s1 = s'.ordered ord scope) (ha : capAddr c % size = 0)
    (hr : Reaches s1 c (capAddr c) size (permStore ||| permAtomic) true true loc) (hg : RidgeOk s1 scope loc) :
    runInstr 0 (red op size a b scope ord) s = goesOn 0 ((s1.touchAtomic (clusterOf s1.turn.1) loc size scope.toNat).write loc
      (natBytes size (op.apply size (s1.read loc size) (y.bits.toNat % 2 ^ (8 * size))).1)) := by
  subst hs1
  have hcheck := formatMCheck_ok (s := s') rfl hr ha (place_ordered s' ord scope) (turn_ordered s' ord scope)
  refine runs_operand2 (flow := .next) h ?_
  simp only [M.bind_apply, afterAcquire_clear hc, hcheck, releaseAt_ordered ho]
  rw [Reaches.access (kind := .red op size _) hr (capAddr_lt c) fun hk => hg (of_decide_eq_true hk)]
  simp only [M.modState_apply, State.atomicAt, M.pure_apply]

end

theorem performsAmo_of_meaning {i : BitVec 6 → BitVec 6 → BitVec 6 → BitVec 3 → BitVec 2 → Sys2Proof.Instr} {op : AmoOp}
    {size : Nat} (hi : ∀ d a b scope ord s, exec (i d a b scope ord) s = runInstr 0 (amo op size d a b scope ord) s) :
    PerformsAmo i op size := by
  intro s s' s1 n d a b scope ord c y loc r h hc ho hs1 ha hr hg hres hn
  subst hn hres
  rw [hi]
  exact amo_runs h hc ho hs1 ha hr hg

theorem performsRed_of_meaning {i : BitVec 6 → BitVec 6 → BitVec 3 → BitVec 2 → Sys2Proof.Instr} {op : AmoOp} {size : Nat}
    (hi : ∀ a b scope ord s, exec (i a b scope ord) s = runInstr 0 (red op size a b scope ord) s) : PerformsRed i op size := by
  intro s s' s1 a b scope ord c y loc h hc ho hs1 ha hr hg
  rw [hi]
  exact red_runs h hc ho hs1 ha hr hg

/-! ### The operations (R297, R298) -/

/-- The operands of an operation are those of its bytes. -/
theorem ofNat_toNat_width {w : Nat} (v : BitVec w) : BitVec.ofNat w v.toNat = v := by
  rw [BitVec.ofNat_toNat, BitVec.setWidth_eq]

/-- R297: the operations on 64-bit values, each as words. -/
theorem amoApply_words (old v : BitVec 64) :
    AmoOp.swap.apply 8 old.toNat v.toNat = (v.toNat, 0#5) ∧ AmoOp.add.apply 8 old.toNat v.toNat = ((old + v).toNat, 0#5) ∧
    AmoOp.and.apply 8 old.toNat v.toNat = ((old &&& v).toNat, 0#5) ∧
    AmoOp.or.apply 8 old.toNat v.toNat = ((old ||| v).toNat, 0#5) ∧
    AmoOp.xor.apply 8 old.toNat v.toNat = ((old ^^^ v).toNat, 0#5) ∧
    AmoOp.min.apply 8 old.toNat v.toNat = ((if v.slt old then v else old).toNat, 0#5) ∧
    AmoOp.max.apply 8 old.toNat v.toNat = ((if old.slt v then v else old).toNat, 0#5) ∧
    AmoOp.minn.apply 8 old.toNat v.toNat = ((if v.ult old then v else old).toNat, 0#5) ∧
    AmoOp.maxn.apply 8 old.toNat v.toNat = ((if old.ult v then v else old).toNat, 0#5) := by
  simp only [AmoOp.apply, Nat.reduceMul, ofNat_toNat_width, and_self]

theorem amoApply_floats (old v : BitVec 32) :
    AmoOp.fadd.apply 4 old.toNat v.toNat = addVal .f32 .rne false 0 (Fmt.f32.decode old.toNat) (Fmt.f32.decode v.toNat) ∧
    AmoOp.fmin.apply 4 old.toNat v.toNat = minMaxVal .f32 false old.toNat v.toNat ∧
    AmoOp.fmax.apply 4 old.toNat v.toNat = minMaxVal .f32 true old.toNat v.toNat := by
  simp only [AmoOp.apply, Nat.reduceMul, ofNat_toNat_width, and_self]

/-- Settles O36: every atomic and reduction is the meaning `amo` or `red` of its operation; the operations by their words. -/
theorem atomicsReplaceTheirValueInOneStep : Obligations.AtomicsReplaceTheirValueInOneStep := by
  unfold Obligations.AtomicsReplaceTheirValueInOneStep
  refine ⟨⟨?_, ?_, ?_, ?_, ?_, ?_, ?_, ?_, ?_, ?_, ?_, ?_, ?_, ?_, ?_, ?_⟩, fun old v => ?_, amoApply_floats⟩
  iterate 12 exact performsAmo_of_meaning fun _ _ _ _ _ _ => rfl
  iterate 4 exact performsRed_of_meaning fun _ _ _ _ _ => rfl
  obtain ⟨hswap, hadd, hand, hor, hxor, hmin, hmax, hminn, hmaxn⟩ := amoApply_words old v
  refine ⟨hswap, hadd, hand, hor, hxor, ?_, ?_, hminn.trans ?_, hmaxn.trans ?_⟩
  · rw [hmin, signedMin_eq, min_comm]
  · rw [hmax, signedMax_eq]
  · rw [naturalMin_toNat, min_comm]
  · rw [naturalMax_toNat]

end Sys2Proof.Machine
end

section
/-! PROOF. Loads and stores (R95, R99, R152, R154): what they deliver and write, and the order of their checks. -/
namespace Sys2Proof.Machine

/-! ### Values read (R6, R99, R152) -/

theorem read_lt (s : State) (n : Nat) : ∀ a, s.read a n < 2 ^ (8 * n) := by
  induction n with
  | zero => exact fun _ => Nat.one_pos
  | succ n ih =>
    intro a
    have hb := (s.byte a).isLt
    have hr := ih (a + 1)
    rw [State.read, Nat.mul_succ, Nat.pow_add]
    omega

/-- R152: bytes as an integer of their width, extended. -/
theorem extendBytes_signed {n v : Nat} (hn : n ≠ 0) (hv : v < 2 ^ (8 * n)) :
    extendBytes n true v = TV.ofWord ((BitVec.ofNat (8 * n) v).signExtend 64) := by
  have hw : (2 : Nat) ^ (8 * n) = 2 * 2 ^ (8 * n - 1) := by
    rw [← Nat.pow_succ', Nat.succ_eq_add_one, Nat.sub_add_cancel (by omega)]
  have hi : (BitVec.ofNat (8 * n) v).toInt = if 2 ^ (8 * n - 1) ≤ v then (v : Int) - 2 ^ (8 * n) else v := by
    rw [BitVec.toInt_eq_toNat_cond, BitVec.toNat_ofNat, Nat.mod_eq_of_lt hv]
    push_cast
    split
    · rw [if_neg (by omega)]
    · rw [if_pos (by omega)]
  rw [extendBytes, if_pos rfl, ← hi]
  rfl

theorem extendBytes_natural {n v : Nat} (hv : v < 2 ^ 64) : extendBytes n false v = TV.ofNat v :=
  TV.ofWord_ofNat hv

section
variable (s : State) (c : TV) (loc : Nat) {n : Nat}

theorem loadValue_signed (h0 : n ≠ 0) (h16 : n ≠ 16) : s.loadValue c loc n true =
    TV.ofWord ((BitVec.ofNat (8 * n) (s.read loc n)).signExtend 64) := by
  rw [State.loadValue, if_neg h16, extendBytes_signed h0 (read_lt s n loc)]

theorem loadValue_natural (h : n ≤ 8) : s.loadValue c loc n false = TV.ofNat (s.read loc n) := by
  have hlt : s.read loc n < 2 ^ 64 := (read_lt s n loc).trans_le (Nat.pow_le_pow_right (by decide) (by omega))
  rw [State.loadValue, if_neg (by omega), extendBytes_natural hlt]

end

/-! ### Loads and stores as they run (R152, R154) -/

section
variable {s s' : State} {d a b : BitVec 6} {imm : BitVec 13} {c v : TV} {x n loc : Nat} {sg : Bool}

theorem effectiveAddress_lt (hx : x = (c.lo + imm.signExtend 64).toNat) : x < 2 ^ 64 := hx ▸ BitVec.isLt _

/-- R152: a load that reaches its location. -/
theorem load_runs (h : Reads s [a] [d] [c] s') (hc : Clear s') (hx : x = (c.lo + imm.signExtend 64).toNat) (ha : x % n = 0)
    (hr : Reaches s' c x n permLoad false false loc) : runInstr 0 (load n sg d a imm) s =
      gives 0 d 0 (s'.loadValue c loc n sg) (s'.touch (clusterOf s'.turn.1) loc n false) := by
  have hlt := effectiveAddress_lt hx
  refine runs_operand1 (flow := .next) h ?_
  rw [imm13, ← hx]
  simp only [M.bind_apply, afterAcquire_clear hc, derefCheck_ok hr.1, ha, ne_eq, not_true_eq_false, if_false]
  rw [Reaches.access (kind := .load n sg _) hr hlt fun hk => absurd hk Bool.false_ne_true]
  simp only [loadAt, touchFor, M.bind_apply, M.get_apply, M.modState_apply, result_ok, M.pure_apply]

/-- R154: what a store leaves of its bytes at a location. -/
def State.stored (s : State) (loc n : Nat) (v : TV) : State :=
  if n = 16 then s.writeTagged loc v else s.write loc (natBytes n v.bits.toNat)

theorem storeAt_apply (s : State) : storeAt n v loc s = .ok () ((s.touch (clusterOf s.turn.1) loc n true).stored loc n v) := by
  simp only [storeAt, State.stored, touchFor, M.bind_apply, M.modState_apply]
  split <;> rfl

/-- R154: the permission that a tagged store needs. -/
theorem storeCap_ok (h : n = 16 → v.tag = true → capHas c permStoreCap = true) :
    (decide (n = 16) && v.tag && !capHas c permStoreCap) = false := by
  rw [Bool.eq_false_iff]
  intro hb
  simp only [Bool.and_eq_true, decide_eq_true_eq, Bool.not_eq_true'] at hb
  obtain ⟨⟨h16, htag⟩, hno⟩ := hb
  rw [h h16 htag] at hno
  exact Bool.noConfusion hno

/-- R154: a store that reaches its location. -/
theorem store_runs (h : Reads s [a, b] [] [c, v] s') (hc : Clear s') (hx : x = (c.lo + imm.signExtend 64).toNat)
    (ha : x % n = 0) (ht : n = 16 → v.tag = true → capHas c permStoreCap = true)
    (hr : Reaches s' c x n permStore true false loc) : runInstr 0 (store n a b imm) s =
      goesOn 0 ((s'.touch (clusterOf s'.turn.1) loc n true).stored loc n v) := by
  have hlt := effectiveAddress_lt hx
  have hcap := storeCap_ok ht
  refine runs_operand2 (flow := .next) h ?_
  dsimp only
  rw [imm13, ← hx]
  simp only [M.bind_apply, afterAcquire_clear hc, derefCheck_ok hr.1, hcap, Bool.false_eq_true, ha, ne_eq, not_true_eq_false,
    if_false, M.pure_apply]
  rw [Reaches.access (kind := .store n _) hr hlt fun hk => absurd hk Bool.false_ne_true]
  simp only [storeAt_apply]

theorem store_runs_data (h : Reads s [a, b] [] [c, v] s') (hc : Clear s') (hx : x = (c.lo + imm.signExtend 64).toNat)
    (hn : n ≠ 16) (ha : x % n = 0) (hr : Reaches s' c x n permStore true false loc) : runInstr 0 (store n a b imm) s =
      goesOn 0 ((s'.touch (clusterOf s'.turn.1) loc n true).write loc (natBytes n v.bits.toNat)) := by
  rw [store_runs h hc hx ha (fun h16 => absurd h16 hn) hr, State.stored, if_neg hn]

end

/-- Settles O14: every load is the meaning `load` of its width, every store the meaning `store`. -/
theorem loadsAndStoresMoveTheirBytes : Obligations.LoadsAndStoresMoveTheirBytes := by
  unfold Obligations.LoadsAndStoresMoveTheirBytes
  refine ⟨fun s s' d a imm c x loc h hc hx => ?loads, fun s s' a b imm c v x loc h hc hx => ?stores⟩
  case loads =>
    have hsigned : ∀ {n}, n ≠ 0 → n ≠ 16 → x % n = 0 → Reaches s' c x n permLoad false false loc →
        runInstr 0 (load n true d a imm) s = gives 0 d 0 (TV.ofWord ((BitVec.ofNat (8 * n) (s'.read loc n)).signExtend 64))
          (s'.touch (clusterOf s'.turn.1) loc n false) := fun h0 h16 ha hr => by
      rw [load_runs h hc hx ha hr, loadValue_signed s' c loc h0 h16]
    have hnatural : ∀ {n}, n ≤ 8 → x % n = 0 → Reaches s' c x n permLoad false false loc →
        runInstr 0 (load n false d a imm) s = gives 0 d 0 (TV.ofNat (s'.read loc n))
          (s'.touch (clusterOf s'.turn.1) loc n false) := fun h8 ha hr => by
      rw [load_runs h hc hx ha hr, loadValue_natural s' c loc h8]
    exact ⟨fun hr => ⟨hsigned (by decide) (by decide) (Nat.mod_one x) hr, hnatural (by decide) (Nat.mod_one x) hr⟩,
      fun ha hr => ⟨hsigned (by decide) (by decide) ha hr, hnatural (by decide) ha hr⟩,
      fun ha hr => ⟨hsigned (by decide) (by decide) ha hr, hnatural (by decide) ha hr⟩,
      fun ha hr => hnatural (by decide) ha hr, fun ha hr => load_runs h hc hx ha hr⟩
  case stores =>
    exact ⟨fun hr => store_runs_data h hc hx (by decide) (Nat.mod_one x) hr,
      fun ha hr => store_runs_data h hc hx (by decide) ha hr, fun ha hr => store_runs_data h hc hx (by decide) ha hr,
      fun ha hr => store_runs_data h hc hx (by decide) ha hr, fun ha hr ht => store_runs h hc hx ha (fun _ => ht) hr⟩

/-! ### The order of the checks (R95, R152, R154) -/

theorem derefCheck_fails {s : State} {c : TV} {x n p f : Nat} (h : derefFail c x n p = some f) :
    derefCheck c x n p s = .error (.trap f (BitVec.ofNat 64 x)) s := by
  simp only [derefCheck, h, M.trap_apply]

/-- R278: an access whose place is refused by the issuing core. -/
theorem access_bad {s : State} {kind : AccessKind} {fm acq : Bool} {x scope f : Nat} {d : BitVec 6} {act : Nat → M Unit}
    (h : s.place s.turn.1 x kind.bytes kind.writes fm = .bad f) :
    access x kind fm acq scope d act s = .error (.trap f (BitVec.ofNat 64 x)) s := by
  simp only [access, M.bind_apply, M.get_apply, h, M.trap_apply]

section
variable {s s' : State} {t : Strand} {d a b : BitVec 6} {imm : BitVec 13} {c v : TV} {x : Nat} {sg : Bool} (n : Nat)

/-- R95, R152: the checks of a load, in their order. -/
theorem load_traps (ht : Turn s t) (hc : Clear s') (h : Reads s [a] [d] [c] s') (hx : x = (c.lo + imm.signExtend 64).toNat) :
    (∀ f, derefFail c x n permLoad = some f → runInstr 0 (load n sg d a imm) s = traps f (BitVec.ofNat 64 x) t s') ∧
    (derefFail c x n permLoad = none → x % n ≠ 0 → runInstr 0 (load n sg d a imm) s = traps 0x06 (BitVec.ofNat 64 x) t s') ∧
    (∀ f, derefFail c x n permLoad = none → x % n = 0 → s'.place s'.turn.1 x n false false = .bad f →
      runInstr 0 (load n sg d a imm) s = traps f (BitVec.ofNat 64 x) t s') := by
  refine ⟨fun f hf => traps_operand1 ht h ?_, fun hd ha => traps_operand1 ht h ?_, fun f hd ha hp => traps_operand1 ht h ?_⟩
  all_goals rw [imm13, ← hx]
  · simp only [M.bind_apply, afterAcquire_clear hc, derefCheck_fails hf]
  · simp only [M.bind_apply, afterAcquire_clear hc, derefCheck_ok hd, ha, ne_eq, not_false_eq_true, if_true, M.trap_apply]
  · simp only [M.bind_apply, afterAcquire_clear hc, derefCheck_ok hd, ha, ne_eq, not_true_eq_false, if_false,
      access_bad (kind := .load n sg d.toNat) hp]

/-- R95, R154: the checks of a store, in their order. -/
theorem store_traps (ht : Turn s t) (hc : Clear s') (h : Reads s [a, b] [] [c, v] s')
    (hx : x = (c.lo + imm.signExtend 64).toNat) :
    (∀ f, derefFail c x n permStore = some f → runInstr 0 (store n a b imm) s = traps f (BitVec.ofNat 64 x) t s') ∧
    (derefFail c x n permStore = none → n = 16 → v.tag = true → capHas c permStoreCap = false →
      runInstr 0 (store n a b imm) s = traps 0x05 (BitVec.ofNat 64 x) t s') ∧
    (derefFail c x n permStore = none → (n = 16 → v.tag = true → capHas c permStoreCap = true) →
      (x % n ≠ 0 → runInstr 0 (store n a b imm) s = traps 0x06 (BitVec.ofNat 64 x) t s') ∧
      (∀ f, x % n = 0 → s'.place s'.turn.1 x n true false = .bad f →
        runInstr 0 (store n a b imm) s = traps f (BitVec.ofNat 64 x) t s')) := by
  refine ⟨fun f hf => traps_operand2 ht h ?_, fun hd h16 htag hno => traps_operand2 ht h ?_, fun hd hcap =>
    ⟨fun ha => traps_operand2 ht h ?_, fun f ha hp => traps_operand2 ht h ?_⟩⟩
  all_goals
    dsimp only
    rw [imm13, ← hx]
  · simp only [M.bind_apply, afterAcquire_clear hc, derefCheck_fails hf]
  · simp only [M.bind_apply, afterAcquire_clear hc, derefCheck_ok hd, decide_eq_true h16, htag, hno, Bool.not_false, Bool.and_self,
      if_true, M.trap_apply]
  all_goals
    have hok := storeCap_ok hcap
  · simp only [M.bind_apply, afterAcquire_clear hc, derefCheck_ok hd, hok, Bool.false_eq_true, if_false, ha, ne_eq,
      not_false_eq_true, if_true, M.trap_apply]
  · simp only [M.bind_apply, afterAcquire_clear hc, derefCheck_ok hd, hok, Bool.false_eq_true, ha, ne_eq, not_true_eq_false,
      if_false, access_bad (kind := .store n v.bits) hp]

end

/-- R95: the first check that fails. -/
theorem derefFail_order (c : TV) (x n p : Nat) :
    (c.tag = false → derefFail c x n p = some 0x03) ∧
    (c.tag = true → (capHas c p = false ∨ (capHas c permLocal = true ∧ x < 2 ^ 63)) → derefFail c x n p = some 0x05) ∧
    (c.tag = true → capHas c p = true → (capHas c permLocal = true → 2 ^ 63 ≤ x) →
      (((x : Int) < capBase c ∨ capTop c < (x : Int) + n) → derefFail c x n p = some 0x04) ∧
      (capBase c ≤ (x : Int) → (x : Int) + n ≤ capTop c → derefFail c x n p = none)) := by
  refine ⟨fun ht => by simp only [derefFail, ht, Bool.not_false, if_true], fun ht hp => ?_, fun ht hp hl => ?_⟩
  · have hb : (!capHas c p || (capHas c permLocal && decide (x < 2 ^ 63))) = true := by
      simpa only [Bool.or_eq_true, Bool.not_eq_true', Bool.and_eq_true, decide_eq_true_eq] using hp
    simp only [derefFail, ht, hb, Bool.not_true, Bool.false_eq_true, if_false, if_true]
  · have hb : (!capHas c p || (capHas c permLocal && decide (x < 2 ^ 63))) = false := by
      rw [hp, Bool.not_true, Bool.false_or, Bool.and_eq_false_imp]
      exact fun h => decide_eq_false (Nat.not_lt.2 (hl h))
    simp only [derefFail, ht, hb, Bool.not_true, Bool.false_eq_true, if_false]
    refine ⟨fun h => if_pos ?_, fun h1 h2 => if_neg ?_⟩
    · simpa only [Bool.or_eq_true, decide_eq_true_eq] using h
    · simp only [Bool.or_eq_true, decide_eq_true_eq, not_or, not_lt]
      exact ⟨h1, h2⟩

/-- Settles O15: the checks of the meanings `load` and `store`, one after the other, and those of `derefFail`. -/
theorem accessChecksTrapInOrder : Obligations.AccessChecksTrapInOrder := by
  unfold Obligations.AccessChecksTrapInOrder
  refine ⟨fun s s' t d a imm c x n i ht hc h hx hi => ?loads, fun s s' t a b imm c v x n i ht hc h hx hi => ?stores,
    derefFail_order⟩
  all_goals simp only [List.mem_cons, Prod.mk.injEq, List.not_mem_nil, or_false] at hi
  case loads =>
    obtain ⟨rfl, rfl⟩ | ⟨rfl, rfl⟩ | ⟨rfl, rfl⟩ | ⟨rfl, rfl⟩ | ⟨rfl, rfl⟩ | ⟨rfl, rfl⟩ | ⟨rfl, rfl⟩ | ⟨rfl, rfl⟩ := hi
    all_goals exact load_traps _ ht hc h hx
  case stores =>
    obtain ⟨rfl, rfl⟩ | ⟨rfl, rfl⟩ | ⟨rfl, rfl⟩ | ⟨rfl, rfl⟩ | ⟨rfl, rfl⟩ := hi
    all_goals exact store_traps _ ht hc h hx

end Sys2Proof.Machine
end

section
/-! PROOF. What stores and atomics change of memory (R99, R154, R156, R167, R297 to R299, R301). -/
namespace Sys2Proof.Machine

/-! ### Memory as a reader sees it -/

theorem sameMemory_of {s n : State} (hm : n.mem = s.mem) (ht : n.tags = s.tags) : SameMemory s n :=
  ⟨fun a => byte_of_mem hm a, ht⟩

theorem SameMemory.trans {s m n : State} (h : SameMemory s m) (h' : SameMemory m n) : SameMemory s n :=
  ⟨fun a => (h'.1 a).trans (h.1 a), h'.2.trans h.2⟩

theorem DirKeeps.sameMemory {s n : State} (h : DirKeeps s n) : SameMemory s n := sameMemory_of h.mem h.tags

theorem sameMemory_updStrand (s : State) (k sl : Nat) (f : Strand → Strand) : SameMemory s (s.updStrand k sl f) :=
  sameMemory_of (updStrand_mem s k sl f) (updStrand_tags s k sl f)

theorem sameMemory_releasedAt (s : State) (scope : Nat) : SameMemory s (s.releasedAt scope) := by
  unfold State.releasedAt
  split
  · exact sameMemory_updStrand s _ _ _
  · exact sameMemory_of rfl rfl

theorem sameMemory_ordered (s : State) (ord : BitVec 2) (scope : BitVec 3) : SameMemory s (s.ordered ord scope) := by
  unfold State.ordered
  split
  · exact sameMemory_releasedAt s _
  · exact sameMemory_of rfl rfl

/-- R68: an instruction that completes leaves memory as its meaning left it. -/
theorem sameMemory_finish (sc : Nat) (s : State) : SameMemory s (finish .next sc s) :=
  SameMemory.trans (m := s.updCore s.turn.1 fun c => { c with retired := c.retired + 1 }) (sameMemory_of rfl rfl)
    (sameMemory_updStrand _ _ _ _)

/-- A result in a general register is no write of memory. -/
theorem sameMemory_written (s : State) {d : BitVec 6} (hq : isQ d = false) (lat : Nat) (v : TV) :
    SameMemory s (s.written d lat v) := by
  simp only [State.written, hq, Bool.false_eq_true, if_false]
  split
  · exact sameMemory_of rfl rfl
  · split
    · exact sameMemory_updStrand s _ _ _
    · exact sameMemory_updStrand s _ _ _

theorem ChangesOnly.of_same {s t : State} (h : SameMemory s t) (a n : Nat) : ChangesOnly s t a n :=
  ⟨fun x _ => h.1 x, fun g _ => by rw [h.2]⟩

theorem ChangesOnly.trans {s m t : State} {a n : Nat} (h : ChangesOnly s m a n) (h' : ChangesOnly m t a n) :
    ChangesOnly s t a n :=
  ⟨fun x hx => (h'.1 x hx).trans (h.1 x hx), fun g hg => (h'.2 g hg).trans (h.2 g hg)⟩

/-- What is done before and after without memory does not count. -/
theorem ChangesOnly.between {s m t u : State} {a n : Nat} (h : ChangesOnly m t a n) (hs : SameMemory s m) (hu : SameMemory t u) :
    ChangesOnly s u a n := ((ChangesOnly.of_same hs a n).trans h).trans (.of_same hu a n)

theorem SameMemory.read {s n : State} (h : SameMemory s n) (a len : Nat) : n.read a len = s.read a len :=
  read_congr fun x _ _ => h.1 x

/-! ### Bytes and tags after a write (R99) -/

theorem tags_putBytes (bs : List Byte) : ∀ (s : State) (a : Nat), (s.putBytes a bs).tags = s.tags := by
  induction bs with
  | nil => exact fun _ _ => rfl
  | cons b bs ih => exact fun s a => ih (s.setByte a b) (a + 1)

theorem mem_tags_write {s : State} {a : Nat} {bs : List Byte} (h : bs.length ≠ 0) (g : Nat) :
    g ∈ (s.write a bs).tags ↔ g ∈ s.tags ∧ (g < a / 16 ∨ (a + bs.length - 1) / 16 < g) := by
  have hne : bs.isEmpty = false := List.isEmpty_eq_false_iff.2 fun hb => h (by rw [hb]; rfl)
  simp only [State.write, hne, Bool.false_eq_true, if_false, State.clearTags, tags_putBytes, List.mem_filter,
    Bool.or_eq_true, decide_eq_true_eq]

theorem mem_sadd (k g : Nat) (l : List Nat) : g ∈ sadd k l ↔ g = k ∨ g ∈ l := by
  induction l with
  | nil => rw [sadd, List.mem_singleton]; simp only [List.not_mem_nil, or_false]
  | cons j l ih =>
    rw [sadd]
    split
    · exact List.mem_cons
    · split
      next h => subst h; simp only [List.mem_cons, or_self_left]
      · rw [List.mem_cons, ih, List.mem_cons, or_left_comm]

theorem mem_tags_writeTagged {s : State} {a : Nat} {v : TV} (g : Nat) : g ∈ (s.writeTagged a v).tags ↔
    (g = a / 16 ∧ v.tag = true ∧ taggedLoc a = true) ∨ (g ∈ s.tags ∧ (g < a / 16 ∨ (a + 15) / 16 < g)) := by
  have hw := mem_tags_write (s := s) (a := a) (bs := natBytes 16 v.bits.toNat) (by rw [length_natBytes]; decide) g
  rw [length_natBytes] at hw
  unfold State.writeTagged
  by_cases h : (v.tag && taggedLoc a) = true
  · rw [if_pos h, mem_sadd, hw, ← Bool.and_eq_true, h]
    simp only [and_true]
    rfl
  · rw [if_neg h, hw, ← Bool.and_eq_true, Bool.eq_false_iff.2 h]
    simp only [Bool.false_eq_true, and_false, false_or]
    rfl

theorem changesOnly_write (s : State) (a : Nat) (bs : List Byte) : ChangesOnly s (s.write a bs) a bs.length := by
  by_cases h : bs.length = 0
  · rw [List.eq_nil_of_length_eq_zero h]
    exact .of_same (sameMemory_of rfl rfl) a 0
  · exact ⟨fun x hx => byte_write_outside hx, fun g hg => (mem_tags_write h g).trans (and_iff_left hg)⟩

theorem changesOnly_writeNat (s : State) (a n v : Nat) : ChangesOnly s (s.write a (natBytes n v)) a n := by
  have h := changesOnly_write s a (natBytes n v)
  rwa [length_natBytes] at h

theorem changesOnly_writeTagged (s : State) (a : Nat) (v : TV) : ChangesOnly s (s.writeTagged a v) a 16 := by
  refine ⟨fun x hx => byte_writeTagged_outside hx, fun g hg => (mem_tags_writeTagged g).trans ⟨?_, fun h => .inr ⟨h, hg⟩⟩⟩
  rintro (⟨rfl, -⟩ | ⟨h, -⟩)
  · omega
  · exact h

theorem changesOnly_stored (s : State) (a n : Nat) (v : TV) : ChangesOnly s (s.stored a n v) a n := by
  unfold State.stored
  split
  next h => rw [h]; exact changesOnly_writeTagged s a v
  · exact changesOnly_writeNat s a n _

/-- Bytes written clear the tags of their granules. -/
theorem noTags_write (s : State) {a n : Nat} (hn : n ≠ 0) (v : Nat) {g : Nat} (h1 : a / 16 ≤ g) (h2 : g ≤ (a + n - 1) / 16) :
    g ∉ (s.write a (natBytes n v)).tags := by
  rw [mem_tags_write (by rwa [length_natBytes]), length_natBytes]
  exact fun h => by omega

theorem holdsData_write (s t : State) {a n : Nat} (hn : n ≠ 0) (v : Nat) (h : SameMemory (s.write a (natBytes n v)) t) :
    HoldsData t a n v := by
  refine ⟨?_, fun g h1 h2 => ?_⟩
  · rw [h.read, read_write, Nat.pow_mul]
  · rw [h.2]
    exact noTags_write s hn v h1 h2

theorem toNat_lt_bytes {n : Nat} (v : BitVec (8 * n)) : v.toNat < 256 ^ n := by
  rw [show 256 = 2 ^ 8 from rfl, ← Nat.pow_mul]
  exact v.isLt

theorem read_writeTagged (s : State) (a : Nat) (v : TV) : (s.writeTagged a v).read a 16 = v.bits.toNat := by
  rw [read_of_mem (writeTagged_mem s a v), read_write, Nat.mod_eq_of_lt (toNat_lt_bytes (n := 16) v.bits)]

/-- R6: a number read in two parts. -/
theorem read_add (s : State) (m n : Nat) : ∀ a, s.read a (m + n) = s.read a m + 256 ^ m * s.read (a + m) n := by
  induction m with
  | zero => intro a; simp only [Nat.zero_add, State.read, Nat.pow_zero, Nat.one_mul, Nat.add_zero]
  | succ m ih =>
    intro a
    rw [Nat.succ_add, State.read, ih, State.read, show a + 1 + m = a + (m + 1) by omega, Nat.pow_succ]
    ring

/-! ### Stores (R154, R301) -/

section
variable {s s' n : State} {a b : BitVec 6} {imm : BitVec 13} {c v : TV} {x loc k : Nat}

/-- R154: a store of data, and what the instruction leaves. -/
theorem store_changes (h : Reads s [a, b] [] [c, v] s') (hc : Clear s') (hx : x = (c.lo + imm.signExtend 64).toNat)
    (hk : k ≠ 16) (h0 : k ≠ 0) (ha : x % k = 0) (hr : Reaches s' c x k permStore true false loc)
    (hn : runInstr 0 (store k a b imm) s = .next n) : ChangesOnly s' n loc k ∧ HoldsData n loc k v.bits.toNat := by
  rw [store_runs_data h hc hx hk ha hr] at hn
  obtain rfl := Host.Outcome.next.inj hn
  have htouch := (dirKeeps_touch s' (clusterOf s'.turn.1) loc k true).sameMemory
  exact ⟨(changesOnly_writeNat _ loc k _).between htouch (sameMemory_finish 0 _),
    holdsData_write _ _ h0 _ (sameMemory_finish 0 _)⟩

/-- R154: a store of a granule. -/
theorem store128_changes (h : Reads s [a, b] [] [c, v] s') (hc : Clear s') (hx : x = (c.lo + imm.signExtend 64).toNat)
    (ha : x % 16 = 0) (ht : v.tag = true → capHas c permStoreCap = true) (hr : Reaches s' c x 16 permStore true false loc)
    (hn : runInstr 0 (store 16 a b imm) s = .next n) : ChangesOnly s' n loc 16 ∧ n.read loc 16 = v.bits.toNat ∧
      (loc / 16 ∈ n.tags ↔ v.tag = true ∧ taggedLoc loc = true) := by
  rw [store_runs h hc hx ha (fun _ => ht) hr, State.stored, if_pos rfl] at hn
  obtain rfl := Host.Outcome.next.inj hn
  have htouch := (dirKeeps_touch s' (clusterOf s'.turn.1) loc 16 true).sameMemory
  have hfin := sameMemory_finish 0 ((s'.touch (clusterOf s'.turn.1) loc 16 true).writeTagged loc v)
  refine ⟨(changesOnly_writeTagged _ loc v).between htouch hfin, ?_, ?_⟩
  · rw [hfin.read, read_writeTagged]
  · rw [hfin.2, mem_tags_writeTagged]
    exact ⟨fun h => by obtain ⟨-, h⟩ | ⟨-, h⟩ := h; exacts [h, by omega], fun h => .inl ⟨rfl, h⟩⟩

/-- R301: a releasing store that reaches its location. -/
theorem storeRelease_runs {s1 : State} {scope : BitVec 3} (h : Reads s [a, b] [] [c, v] s') (hc : Clear s')
    (ho : ReleasedAt s' scope.toNat) (hs1 : s1 = s'.releasedAt scope.toNat) (ha : capAddr c % k = 0)
    (hr : Reaches s1 c (capAddr c) k permStore true true loc) : runInstr 0 (storeRelease k a b scope) s =
      goesOn 0 ((s1.touch (clusterOf s1.turn.1) loc k true).stored loc k v) := by
  subst hs1
  have hcheck := formatMCheck_ok (s := s') rfl hr ha (place_releasedAt s' _) (turn_releasedAt s' _)
  have hrel : releaseAt true scope.toNat s' = .ok () (s'.releasedAt scope.toNat) := releaseAt_ok fun _ => ho
  refine runs_operand2 (flow := .next) h ?_
  simp only [M.bind_apply, afterAcquire_clear hc, hcheck, hrel]
  rw [Reaches.access (kind := .store k _) hr (capAddr_lt c) fun hk => absurd hk Bool.false_ne_true]
  simp only [storeAt_apply, M.pure_apply]

theorem storeRelease_changes {s1 : State} {scope : BitVec 3} (h : Reads s [a, b] [] [c, v] s') (hc : Clear s')
    (ho : ReleasedAt s' scope.toNat) (hs1 : s1 = s'.releasedAt scope.toNat) (ha : capAddr c % k = 0) (hk : k ≠ 16) (h0 : k ≠ 0)
    (hr : Reaches s1 c (capAddr c) k permStore true true loc) (hn : runInstr 0 (storeRelease k a b scope) s = .next n) :
    ChangesOnly s' n loc k ∧ HoldsData n loc k v.bits.toNat := by
  rw [storeRelease_runs h hc ho hs1 ha hr, State.stored, if_neg hk] at hn
  obtain rfl := Host.Outcome.next.inj hn
  have htouch := (dirKeeps_touch s1 (clusterOf s1.turn.1) loc k true).sameMemory
  have hrel : SameMemory s' s1 := hs1 ▸ sameMemory_releasedAt s' _
  exact ⟨(changesOnly_writeNat _ loc k _).between (hrel.trans htouch) (sameMemory_finish 0 _),
    holdsData_write _ _ h0 _ (sameMemory_finish 0 _)⟩

end

/-! ### Bit stores (R156) -/

/-- R63: the fields that name a queue register are bound. -/
theorem bound_of_firstUnbound {t : Strand} {r : BitVec 6} (hq : isQ r = true) {l : List (BitVec 6)} (h : firstUnbound t l = none)
    (hr : r ∈ l) : ∃ b, kfind (qNum r) t.q = some b := by
  induction l with
  | nil => exact absurd hr List.not_mem_nil
  | cons y l ih =>
    rw [firstUnbound] at h
    split at h
    · exact absurd h (Option.some_ne_none _)
    next hy =>
      obtain rfl | hr := List.mem_cons.1 hr
      · rw [hq, Bool.true_and, Option.isNone_iff_eq_none] at hy
        exact Option.ne_none_iff_exists'.1 hy
      · exact ih h hr

/-- R254: the queue registers among the fields are bound at the wanted end. -/
theorem end_of_firstWrongEnd {t : Strand} {r : BitVec 6} {p : Bool} {b : QBind} (hq : isQ r = true)
    (hb : kfind (qNum r) t.q = some b) {l : List (BitVec 6)} (h : firstWrongEnd t p l = none) (hr : r ∈ l) : b.pop = p := by
  induction l with
  | nil => exact absurd hr List.not_mem_nil
  | cons y l ih =>
    rw [firstWrongEnd] at h
    obtain rfl | hr := List.mem_cons.1 hr
    · by_contra hp
      rw [hb] at h
      simp only [hq, ne_eq, hp, not_false_eq_true, decide_true, Bool.and_self, if_true, reduceCtorEq] at h
    · split at h
      · split at h
        · exact absurd h (Option.some_ne_none _)
        · exact ih h hr
      · exact ih h hr

/-- A field that is both read and written names no queue register. -/
theorem ReadsFields.not_isQ {s s' : State} {r : BitVec 6} {fields srcs dests : List (BitVec 6)} {vals : List TV}
    (h : ReadsFields s fields srcs dests vals s') (h0 : r ∈ fields) (h1 : r ∈ srcs) (h2 : r ∈ dests) : isQ r = false := by
  obtain ⟨t, -, hbound, hpop, hpush, -⟩ := h
  rw [Bool.eq_false_iff]
  intro hq
  obtain ⟨b, hb⟩ := bound_of_firstUnbound hq hbound h0
  have htrue := end_of_firstWrongEnd hq hb hpop (List.mem_filter.2 ⟨h1, hq⟩)
  have hfalse := end_of_firstWrongEnd hq hb hpush (List.mem_filter.2 ⟨h2, hq⟩)
  rw [htrue] at hfalse
  exact Bool.noConfusion hfalse

section
variable {s s' m : State} {d a b : BitVec 6} {sc : Nat} {c cur v : TV} {r : BitRange} {loc : Nat}

/-- R156: a bit store that reaches its bytes. -/
theorem bitStore_runs {adv : Bool} (h : Reads s [a, b, d] (if adv then [b] else []) [c, cur, v] s') (hc : Clear s')
    (hr : r = bitRange c cur) (hd : derefFail c r.x r.n permStore = none) (hx : r.x / 2 ^ 60 = 8)
    (hp : s'.place s'.turn.1 r.x r.n true false = .here loc) (hh : s'.accessHeld s'.turn.1 loc r.n true = false) :
    runInstr sc (bitStore adv d a b) s =
      (let w := s'.write loc (natBytes r.n (r.set (s'.read loc r.n) v.lo.toNat))
       goesOn sc (if adv then w.written b 0 r.next else w)) := by
  subst hr
  refine runs_operand3 (flow := .next) h ?_
  dsimp only
  simp only [M.bind_apply, afterAcquire_clear hc, bitCheck, derefCheck_ok hd, hx, ne_eq, not_true_eq_false, if_false,
    M.pure_apply, bitAccess, M.get_apply, hp, hh, Bool.false_eq_true, M.modState_apply]
  cases adv with
  | true => simp only [if_true, M.bind_apply, result_ok, M.pure_apply]
  | false => simp only [Bool.false_eq_true, if_false, M.pure_apply]

/-- R156: what a bit store leaves. -/
theorem bitStore_changes {adv : Bool} (h : Reads s [a, b, d] (if adv then [b] else []) [c, cur, v] s') (hc : Clear s')
    (hr : r = bitRange c cur) (hn : r.n ≠ 0) (hd : derefFail c r.x r.n permStore = none) (hx : r.x / 2 ^ 60 = 8)
    (hp : s'.place s'.turn.1 r.x r.n true false = .here loc) (hh : s'.accessHeld s'.turn.1 loc r.n true = false)
    (hm : runInstr sc (bitStore adv d a b) s = .next m) :
    ChangesOnly s' m loc r.n ∧ ∀ g, loc / 16 ≤ g → g ≤ (loc + r.n - 1) / 16 → g ∉ m.tags := by
  have hb : adv = true → isQ b = false := fun ha =>
    ReadsFields.not_isQ h (by simp) (by simp) (by simp [ha])
  rw [bitStore_runs h hc hr hd hx hp hh] at hm
  obtain rfl := Host.Outcome.next.inj hm
  generalize r.set (s'.read loc r.n) v.lo.toNat = new
  have hsame : SameMemory (s'.write loc (natBytes r.n new)) (finish .next sc (if adv = true then
      (s'.write loc (natBytes r.n new)).written b 0 r.next else s'.write loc (natBytes r.n new))) := by
    refine SameMemory.trans ?_ (sameMemory_finish sc _)
    split
    next ha => exact sameMemory_written _ (hb ha) 0 _
    · exact sameMemory_of rfl rfl
  refine ⟨(changesOnly_writeNat s' loc r.n new).between (sameMemory_of rfl rfl) hsame, fun g h1 h2 => ?_⟩
  rw [hsame.2]
  exact noTags_write s' hn new h1 h2

end

/-! ### Shape records (R167) -/

/-- R167: a record stored: its 64 bytes, then its capability as a granule. -/
theorem storedRecord_changes (s n : State) (loc : Nat) (x : Shape)
    (hn : SameMemory ((s.write loc (natBytes 64 x.bits.toNat)).writeTagged loc x.cap) n) :
    ChangesOnly s n loc 64 ∧ n.read loc 64 = x.bits.toNat ∧
      ∀ g, loc / 16 ≤ g → g ≤ (loc + 63) / 16 → (g ∈ n.tags ↔ g = loc / 16 ∧ x.tag = true ∧ taggedLoc loc = true) := by
  have hw := changesOnly_writeNat s loc 64 x.bits.toNat
  obtain ⟨hbytes, htags⟩ := changesOnly_writeTagged (s.write loc (natBytes 64 x.bits.toNat)) loc x.cap
  refine ⟨(hw.trans ⟨fun y hy => hbytes y (by omega), fun g hg => htags g (by omega)⟩).between (sameMemory_of rfl rfl) hn, ?_,
    fun g h1 h2 => ?_⟩
  · have hall : (s.write loc (natBytes 64 x.bits.toNat)).read loc 64 = x.bits.toNat := by
      rw [read_write, Nat.mod_eq_of_lt (toNat_lt_bytes (n := 64) x.bits)]
    have hlow := read_lt (s.write loc (natBytes 64 x.bits.toNat)) 16 loc
    have hcap : x.cap.bits.toNat = x.bits.toNat % 2 ^ 128 := by
      rw [Shape.cap, BitVec.extractLsb'_toNat, Nat.shiftRight_zero]
    have hhigh : ((s.write loc (natBytes 64 x.bits.toNat)).writeTagged loc x.cap).read (loc + 16) 48 =
        (s.write loc (natBytes 64 x.bits.toNat)).read (loc + 16) 48 := read_congr fun y hy _ => hbytes y (.inr hy)
    rw [read_add _ 16 48] at hall
    rw [hn.read, read_add _ 16 48, read_writeTagged, hhigh, hcap]
    omega
  · rw [hn.2, mem_tags_writeTagged]
    have hno : g ∉ (s.write loc (natBytes 64 x.bits.toNat)).tags := noTags_write s (by decide) _ h1 h2
    simp only [hno, false_and, or_false]
    rfl

/-! ### Compare and swap (R299) -/

section
variable {s s' s1 : State} {d a b : BitVec 6} {scope : BitVec 3} {ord : BitVec 2} {c y e : TV} {size loc : Nat}

/-- R299: a compare and swap that reaches its location. -/
theorem cas_runs (h : ReadsFields s [a, b, d] [a, b, d] [d] [c, y, e] s') (hc : Clear s') (ho : OrderOk s' ord scope)
    (hs1 : s1 = s'.ordered ord scope) (ha : capAddr c % size = 0)
    (hr : Reaches s1 c (capAddr c) size ((permLoad ||| permStore ||| permAtomic) |||
      (if size = 16 ∧ y.tag = true then permStoreCap else 0)) true true loc) (hg : RidgeOk s1 scope loc) :
    runInstr 0 (cas size d a b scope ord) s = gives 0 d 0 (casResult c size (s1.read loc size) (taggedLoc loc && s1.tagAt loc))
      (s1.casAt (clusterOf s1.turn.1) loc size scope.toNat (e.bits.toNat % 2 ^ (8 * size)) y).2 := by
  subst hs1
  have hp : (if size = 16 ∧ y.tag = true then permStoreCap else 0) = if (decide (size = 16) && y.tag) = true then permStoreCap
      else 0 := by simp only [Bool.and_eq_true, decide_eq_true_eq]
  rw [hp] at hr
  have hw : ∀ q : Bool, decide (((permLoad ||| permStore ||| permAtomic) ||| (if q = true then permStoreCap else 0)) &&&
      permStore ≠ 0) = true := by decide
  have hcheck := formatMCheck_ok (s := s') (hw _) hr ha (place_ordered s' ord scope) (turn_ordered s' ord scope)
  refine runs_fields (flow := .next) h ?_
  simp only [List.getD_cons_zero, List.getD_cons_succ, M.bind_apply, afterAcquire_clear hc, hcheck, releaseAt_ordered ho]
  rw [Reaches.access (kind := .cas size _ _ _) hr (capAddr_lt c) fun hk => hg (of_decide_eq_true hk)]
  simp only [M.bind_apply, M.get_apply, M.set_apply, result_ok, M.pure_apply]
  rfl

theorem changesOnly_casAt (s : State) (cl loc size scope expect : Nat) (new : TV) :
    ChangesOnly s (s.casAt cl loc size scope expect new).2 loc size := by
  have htouch := (dirKeeps_touchAtomic s cl loc size scope).sameMemory
  unfold State.casAt
  dsimp only
  split
  · exact (changesOnly_stored _ loc size new).between htouch (sameMemory_of rfl rfl)
  · exact .of_same htouch loc size

theorem cas_changes (h : ReadsFields s [a, b, d] [a, b, d] [d] [c, y, e] s') (hc : Clear s') (ho : OrderOk s' ord scope)
    (hs1 : s1 = s'.ordered ord scope) (ha : capAddr c % size = 0)
    (hr : Reaches s1 c (capAddr c) size ((permLoad ||| permStore ||| permAtomic) |||
      (if size = 16 ∧ y.tag = true then permStoreCap else 0)) true true loc) (hg : RidgeOk s1 scope loc) :
    ∃ m v, runInstr 0 (cas size d a b scope ord) s = gives 0 d 0 v m ∧ ChangesOnly s' m loc size := by
  exact ⟨_, _, cas_runs h hc ho hs1 ha hr hg, (changesOnly_casAt s1 _ loc size _ _ y).between
    (hs1 ▸ sameMemory_ordered s' ord scope) (sameMemory_of rfl rfl)⟩

/-- R297: what an atomic leaves. -/
theorem amo_changes (op : AmoOp) (h : Reads s [a, b] [d] [c, y] s') (hc : Clear s') (ho : OrderOk s' ord scope)
    (hs1 : s1 = s'.ordered ord scope) (ha : capAddr c % size = 0)
    (hr : Reaches s1 c (capAddr c) size (permLoad ||| permStore ||| permAtomic) true true loc) (hg : RidgeOk s1 scope loc) :
    ∃ m v, runInstr 0 (amo op size d a b scope ord) s = gives 0 d 0 v m ∧ ChangesOnly s' m loc size :=
  ⟨_, _, amo_runs h hc ho hs1 ha hr hg, (changesOnly_writeNat _ loc size _).between
    ((hs1 ▸ sameMemory_ordered s' ord scope).trans (dirKeeps_touchAtomic s1 _ loc size _).sameMemory)
    (sameMemory_updStrand _ _ _ _)⟩

/-- R298: what a reduction leaves. -/
theorem red_changes {n : State} (op : AmoOp) (h : Reads s [a, b] [] [c, y] s') (hc : Clear s') (ho : OrderOk s' ord scope)
    (hs1 : s1 = s'.ordered ord scope) (ha : capAddr c % size = 0)
    (hr : Reaches s1 c (capAddr c) size (permStore ||| permAtomic) true true loc) (hg : RidgeOk s1 scope loc)
    (hn : runInstr 0 (red op size a b scope ord) s = .next n) : ChangesOnly s' n loc size := by
  rw [red_runs h hc ho hs1 ha hr hg] at hn
  obtain rfl := Host.Outcome.next.inj hn
  exact (changesOnly_writeNat _ loc size _).between
    ((hs1 ▸ sameMemory_ordered s' ord scope).trans (dirKeeps_touchAtomic s1 _ loc size _).sameMemory) (sameMemory_finish 0 _)

end

/-- Settles O16: each form runs the meaning of its family, whose write at the location is the one change of memory. -/
theorem storesAndAtomicsChangeOnlyTheirBytes : Obligations.StoresAndAtomicsChangeOnlyTheirBytes := by
  unfold Obligations.StoresAndAtomicsChangeOnlyTheirBytes
  refine ⟨fun s s' n a b imm c v x loc k i h hc hx hr ha hn => ⟨fun hi => ?plain, fun hi hk ht => ?tagged⟩,
    fun s s' s1 n a b scope c v loc k i h hc ho hs1 hi ha hr hn => ?release,
    fun s s' m d a b sc c cur v p x n loc i hp hx hn hd hs hl hh hc h hm => ?bits,
    fun s s' n t d a sc c loc h ht hb hc ha hr hcap hn => ?record,
    fun s s' s1 d a b scope ord c y loc k i hc ho hs1 ha hg => ⟨fun h hr hi => ?amos, fun e h hr hi => ?swaps,
      fun n h hr hi hn => ?reds⟩,
    fun m d sc v hq => (sameMemory_written m hq 0 v).trans (sameMemory_finish sc _)⟩
  case plain =>
    simp only [List.mem_cons, Prod.mk.injEq, List.not_mem_nil, or_false] at hi
    obtain ⟨rfl, rfl⟩ | ⟨rfl, rfl⟩ | ⟨rfl, rfl⟩ | ⟨rfl, rfl⟩ := hi
    all_goals exact store_changes h hc hx (by decide) (by decide) ha hr hn
  case tagged =>
    subst hi hk
    exact store128_changes h hc hx ha ht hr hn
  case release =>
    simp only [List.mem_cons, Prod.mk.injEq, List.not_mem_nil, or_false] at hi
    obtain ⟨rfl, rfl⟩ | ⟨rfl, rfl⟩ := hi
    all_goals exact storeRelease_changes h hc ho hs1 ha (by decide) (by decide) hr hn
  case bits =>
    have hx' : x = (bitRange c cur).x := by rw [hx, hp]; rfl
    have hn' : n = (bitRange c cur).n := by rw [hn, hx, hp]; rfl
    have h0 : (bitRange c cur).n ≠ 0 := by rw [← hn', hn, hx]; omega
    rw [hx'] at hd hs hl
    rw [hn'] at hd hl hh ⊢
    obtain ⟨rfl, h⟩ | ⟨rfl, h⟩ := h
    · exact bitStore_changes (adv := false) h hc rfl h0 hd hs hl hh hm
    · exact bitStore_changes (adv := true) h hc rfl h0 hd hs hl hh hm
  case record =>
    rw [shpSt_runs h hc ht hb ha hr hcap] at hn
    obtain rfl := Host.Outcome.next.inj hn
    have htouch := (dirKeeps_touch s' (clusterOf s'.turn.1) loc 64 true).sameMemory
    obtain ⟨hchanges, hrest⟩ := storedRecord_changes _ _ loc (t.getSh d.toNat) (sameMemory_finish sc.toNat _)
    exact ⟨hchanges.between htouch (sameMemory_of rfl rfl), hrest⟩
  case amos =>
    simp only [List.mem_cons, Prod.mk.injEq, List.not_mem_nil, or_false] at hi
    obtain ⟨rfl, rfl⟩ | ⟨rfl, rfl⟩ | ⟨rfl, rfl⟩ | ⟨rfl, rfl⟩ | ⟨rfl, rfl⟩ | ⟨rfl, rfl⟩ | ⟨rfl, rfl⟩ | ⟨rfl, rfl⟩ | ⟨rfl, rfl⟩ |
      ⟨rfl, rfl⟩ | ⟨rfl, rfl⟩ | ⟨rfl, rfl⟩ := hi
    all_goals exact amo_changes _ h hc ho hs1 ha hr hg
  case swaps =>
    simp only [List.mem_cons, Prod.mk.injEq, List.not_mem_nil, or_false] at hi
    obtain ⟨rfl, rfl⟩ | ⟨rfl, rfl⟩ := hi
    all_goals exact cas_changes h hc ho hs1 ha hr hg
  case reds =>
    simp only [List.mem_cons, Prod.mk.injEq, List.not_mem_nil, or_false] at hi
    obtain ⟨rfl, rfl⟩ | ⟨rfl, rfl⟩ | ⟨rfl, rfl⟩ | ⟨rfl, rfl⟩ := hi
    all_goals exact red_changes _ h hc ho hs1 ha hr hg hn

end Sys2Proof.Machine
end

section
/-! PROOF. The canonical form of memory (log entry 56): what the operations of the state keep of it. An operation that
leaves memory as it is keeps the form by definition. -/
namespace Sys2Proof.Machine

/-! ### Memory itself -/

theorem kwf_filter {α : Type} [DecidableEq α] {d : α} (p : Nat × α → Bool) {m : List (Nat × α)} (h : kwf d m = true) :
    kwf d (m.filter p) = true := by
  induction m with
  | nil => rfl
  | cons e m ih =>
    simp only [kwf, Bool.and_eq_true, List.all_eq_true, decide_eq_true_eq] at h
    obtain ⟨⟨hv, hlt⟩, hm⟩ := h
    rw [List.filter_cons]
    split
    · simp only [kwf, Bool.and_eq_true, List.all_eq_true, decide_eq_true_eq]
      exact ⟨⟨hv, fun x hx => hlt x (List.mem_of_mem_filter hx)⟩, ih hm⟩
    · exact ih hm

theorem canonical_of_mem {s n : State} (h : n.mem = s.mem) (hs : Canonical s) : Canonical n := by
  unfold Canonical
  rw [h]
  exact hs

/-- A fold of operations keeps the form where each does. -/
theorem canonical_foldl {α : Type} {f : State → α → State} (hf : ∀ s a, Canonical s → Canonical (f s a)) (l : List α) :
    ∀ {s : State}, Canonical s → Canonical (l.foldl f s) := by
  induction l with
  | nil => exact fun hs => hs
  | cons a l ih => exact fun hs => ih (hf _ a hs)

theorem canonical_ite {c : Prop} [Decidable c] {s n : State} (hs : Canonical s) (hn : Canonical n) :
    Canonical (if c then s else n) := by
  split
  · exact hs
  · exact hn

/-- The form of the state that an operation gives, where it gives one. -/
def CanonicalSome (o : Option State) : Prop := ∀ n, o = some n → Canonical n

theorem canonicalSome_none : CanonicalSome none := fun _ h => nomatch h

theorem canonicalSome_some {s : State} (hs : Canonical s) : CanonicalSome (some s) := fun _ h => Option.some.inj h ▸ hs

theorem canonicalSome_ite {c : Prop} [Decidable c] {o p : Option State} (ho : CanonicalSome o) (hp : CanonicalSome p) :
    CanonicalSome (if c then o else p) := by
  split
  · exact ho
  · exact hp

theorem CanonicalSome.getD {o : Option State} {s : State} (ho : CanonicalSome o) (hs : Canonical s) : Canonical (o.getD s) := by
  cases o with
  | none => exact hs
  | some n => exact ho n rfl

section
variable {s : State} (hs : Canonical s)
include hs

theorem canonical_setByte (a : Nat) (b : Byte) : Canonical (s.setByte a b) := wf_setByte hs a b
theorem canonical_write (a : Nat) (bs : List Byte) : Canonical (s.write a bs) := wf_write hs a bs
theorem canonical_writeTagged (a : Nat) (v : TV) : Canonical (s.writeTagged a v) := wf_writeTagged hs a v
theorem canonical_writePart (a : Nat) (v : BitVec 128) : Canonical (s.writePart a v) := wf_writePart hs a v

theorem canonical_writeRecordWords (loc : Nat) (t : Strand) (pc state : Nat) (w : Bool) :
    Canonical (s.writeRecordWords loc t pc state w) := canonical_write hs _ _

theorem canonical_saveRecord (loc : Nat) (t : Strand) (pc state : Nat) (w : Bool) :
    Canonical (s.saveRecord loc t pc state w) :=
  canonical_writeTagged (canonical_writeTagged (canonical_writeTagged (canonical_writeRecordWords hs loc t pc state w) _ _) _ _) _ _

theorem canonical_touch (cl a n : Nat) (w : Bool) : Canonical (s.touch cl a n w) :=
  canonical_of_mem (dirKeeps_touch s cl a n w).mem hs

theorem canonical_touchAtomic (cl a n scope : Nat) : Canonical (s.touchAtomic cl a n scope) :=
  canonical_of_mem (dirKeeps_touchAtomic s cl a n scope).mem hs

theorem canonical_atomicAt (cl loc size scope : Nat) (op : AmoOp) (v : Nat) :
    Canonical (s.atomicAt cl loc size scope op v).2.2 := canonical_write (canonical_touchAtomic hs cl loc size scope) _ _

theorem canonical_casAt (cl loc size scope e : Nat) (v : TV) : Canonical (s.casAt cl loc size scope e v).2 := by
  have ht := canonical_touchAtomic hs cl loc size scope
  exact canonical_ite (canonical_ite (canonical_writeTagged ht _ _) (canonical_write ht _ _)) ht

/-- R142: bytes and tags written through the window. -/
theorem canonical_windowWrite (bs : List Byte) (x : Nat) : Canonical (s.windowWrite x bs) := by
  induction bs generalizing s x with
  | nil => exact hs
  | cons b bs ih =>
    unfold State.windowWrite
    refine ih ?_ (x + 1)
    split
    · exact canonical_setByte hs _ _
    · exact canonical_setByte hs _ _
    · exact hs

/-! ### Tables of cores, strands, groups, kernels and contexts -/

theorem canonical_updCore (k : Nat) (f : Core → Core) : Canonical (s.updCore k f) := hs
theorem canonical_updCluster (cl : Nat) (f : Cluster → Cluster) : Canonical (s.updCluster cl f) := hs
theorem canonical_clearSlot (k sl : Nat) : Canonical (s.clearSlot k sl) := hs
theorem canonical_setStrand (k sl : Nat) (t : Strand) : Canonical (s.setStrand k sl t) := hs
theorem canonical_setChan (h e : Nat) (c : Chan) : Canonical (s.setChan h e c) := hs
theorem canonical_dropEnded (old : State) : Canonical (s.dropEnded old) := hs
theorem canonical_setRegion (r : Nat) (x : Region) : Canonical (s.setRegion r x) := hs
theorem canonical_withoutSent (a : List (Nat × Access)) (r : List (Nat × Refusal150)) :
    Canonical ({ s with accesses := a, refusals := r } : State) := hs
theorem canonical_clearWindows (r : Nat) : Canonical (s.clearWindows r) := hs

theorem canonical_updStrand (k sl : Nat) (f : Strand → Strand) : Canonical (s.updStrand k sl f) :=
  canonical_of_mem (updStrand_mem s k sl f) hs

theorem canonical_updGroup (p gid : Nat) (f : Group → Group) : Canonical (s.updGroup p gid f) :=
  canonical_of_mem (mem_updGroup s p gid f) hs

theorem canonical_updGroupOn (k gid : Nat) (f : Group → Group) : Canonical (s.updGroupOn k gid f) := by
  unfold State.updGroupOn
  split
  · exact canonical_updGroup hs _ _ _
  · exact hs

theorem canonical_updPartition (p : Nat) (f : Partition → Partition) : Canonical (s.updPartition p f) := by
  unfold State.updPartition
  split <;> exact hs

theorem canonical_updContext (vf pasid : Nat) (f : Context → Context) : Canonical (s.updContext vf pasid f) := by
  unfold State.updContext
  split <;> exact hs

theorem canonical_updKernel (n : Nat) (f : Kernel → Kernel) : Canonical (s.updKernel n f) := by
  unfold State.updKernel
  split <;> exact hs

theorem canonical_pushPool (p gid addr pri : Nat) : Canonical (s.pushPool p gid addr pri) := by
  unfold State.pushPool
  split
  · exact hs
  · exact canonical_updGroup (canonical_write (canonical_touch hs _ _ _ _) _ _) _ _ _

theorem canonical_pushPoolOn (k gid addr pri : Nat) : Canonical (s.pushPoolOn k gid addr pri) := by
  unfold State.pushPoolOn
  split
  · exact canonical_pushPool hs _ _ _ _
  · exact hs

theorem canonical_readyRecord (p addr : Nat) : Canonical (s.readyRecord p addr) :=
  canonical_updGroup (canonical_pushPool (canonical_write hs _ _) _ _ _ _) _ _ _

/-! ### Strands that end or leave their slot (R121 to R124) -/

theorem canonical_endStage (p : Nat) (g : Stage) : Canonical (s.endStage p g) := by
  have hcores : ∀ (st : State) (cl : Nat), Canonical st →
      Canonical ((coresOfCluster cl).foldl (fun (u : State) k => u.updCore k (·.ended g)) st) := fun st cl hst =>
    canonical_foldl (fun _ _ hu => canonical_updCore hu _ _) _ hst
  have hclusters := fun l : List Nat => canonical_foldl (f := fun (st : State) cl =>
    ((coresOfCluster cl).foldl (fun (u : State) k => u.updCore k (·.ended g)) st).updCluster cl Cluster.freed)
    (fun st cl hst => canonical_updCluster (hcores st cl hst) cl _) l hs
  unfold State.endStage
  split
  · exact hclusters _
  · exact hclusters _

theorem canonical_contextIdle (vf pasid : Nat) : Canonical (s.contextIdle vf pasid) := by
  unfold State.contextIdle
  dsimp only
  split
  · split
    · exact canonical_updPartition (canonical_updContext hs _ _ _) _ _
    · exact hs
  · exact hs

theorem canonical_endKernel (n cause : Nat) (stage : Option Nat) (v : Word) : Canonical (s.endKernel n cause stage v) := by
  unfold State.endKernel
  split
  · exact hs
  · split
    · exact hs
    · exact canonical_contextIdle (canonical_dropEnded (canonical_updKernel (canonical_updContext
        (canonical_foldl (fun _ g hst => canonical_endStage hst _ g) _ hs) _ _ _) _ _) s) _ _

theorem canonical_noteDrained (n : Nat) : Canonical (s.noteDrained n) := by
  unfold State.noteDrained
  split
  · exact hs
  · exact canonical_ite (canonical_updKernel hs _ _) hs

theorem canonical_faultStrand (k sl cause : Nat) (v : Word) (pc : Nat) : Canonical (s.faultStrand k sl cause v pc) := by
  have hrecord : ∀ t, Canonical (s.writeFaultRecord k t pc) := fun t =>
    canonical_ite hs (canonical_writeRecordWords hs _ _ _ _ _)
  unfold State.faultStrand
  split
  · exact hs
  · split
    · exact hs
    · exact canonical_endKernel (canonical_updGroupOn (canonical_clearSlot (hrecord _) _ _) _ _ _) _ _ _ _

theorem canonical_takeTrap (cause : Nat) (v : Word) (pc ret : Nat) : Canonical (takeTrap cause v pc ret s) := by
  unfold takeTrap
  dsimp only
  split
  · exact hs
  · exact canonical_ite hs (canonical_faultStrand hs _ _ _ _ _)

theorem canonical_finish (flow : Flow) (sc : Nat) : Canonical (finish flow sc s) := by
  cases flow with
  | next => exact canonical_updStrand (canonical_updCore hs _ _) _ _ _
  | jump p => exact canonical_updStrand (canonical_updCore hs _ _) _ _ _
  | left => exact hs

theorem canonical_releaseEnd (b : QBind) (close : Bool) : Canonical (s.releaseEnd b close) := by
  unfold State.releaseEnd
  split
  · split
    · exact hs
    · split <;> exact hs
  · exact hs

theorem canonical_unbindAll (k sl : Nat) : Canonical (s.unbindAll k sl) := by
  unfold State.unbindAll
  split
  · exact canonical_foldl (fun _ _ hst => canonical_releaseEnd hst _ _) _ hs
  · exact hs

theorem canonical_leaveSlot (k sl pc state : Nat) : Canonical (s.leaveSlot k sl pc state) := by
  unfold State.leaveSlot
  split
  · exact hs
  next t _ =>
    have hunbound := canonical_unbindAll hs k sl
    have hwindows : Canonical (match t.fabWindow with
        | some n => (s.unbindAll k sl).updGroupOn k t.gid (fun g => { g with windows := kset t.record n g.windows })
        | none => s.unbindAll k sl) := by
      split
      · exact canonical_updGroupOn hunbound _ _ _
      · exact hunbound
    exact canonical_ite hwindows (canonical_ite (canonical_writeRecordWords hwindows _ _ _ _ _)
      (canonical_saveRecord hwindows _ _ _ _ _))

/-! ### Channels (R253) -/

theorem canonical_placeSlot (h e : Nat) (bs : List Byte) : CanonicalSome (s.placeSlot h e bs) := by
  unfold State.placeSlot
  split
  · exact canonicalSome_none
  · exact canonicalSome_ite canonicalSome_none (canonicalSome_some (canonical_write (canonical_setChan hs _ _ _) _ _))

theorem canonical_replayItem {n : State} {h : Nat} {x : GutterItem} {slot : Option Nat} (hr : s.replayItem h x = .done n slot) :
    Canonical n := by
  have hpart : ∀ (e : Nat) (c : Chan) (a : Nat) (v : BitVec 128), Canonical ((s.setChan h e c).writePart a v) := fun e c a v =>
    canonical_writePart (canonical_setChan hs h e c) a v
  cases x with
  | part e c0 q p tgt v =>
    unfold State.replayItem at hr
    dsimp only at hr
    split at hr
    · cases hr
    · split at hr
      · split at hr
        · cases hr
        · cases hr
          exact canonical_updStrand (hpart _ _ _ _) _ _ _
      · cases hr
        exact hpart _ _ _ _
  | whole e d q bytes =>
    unfold State.replayItem at hr
    dsimp only at hr
    split at hr
    · cases hr
    · split at hr
      next hp => cases hr; exact canonical_placeSlot hs _ _ _ _ hp
      · cases hr
  | message m =>
    unfold State.replayItem at hr
    dsimp only at hr
    split at hr
    · cases hr
    · split at hr
      next hp => cases hr; exact canonical_placeSlot hs _ _ _ _ hp
      · cases hr
  | status v =>
    unfold State.replayItem at hr
    dsimp only at hr
    split at hr
    · cases hr
    · cases hr
      exact hs

theorem canonical_reportDropped (m : Message) : Canonical (s.reportDropped m) := by
  unfold State.reportDropped
  split <;> exact hs

theorem canonical_replayGutter (h n : Nat) : ∀ items kept, Canonical (State.replayGutter h n items kept s) := by
  induction n generalizing s with
  | zero => exact fun _ _ => hs
  | succ n ih =>
    intro items kept
    cases items with
    | nil => exact hs
    | cons x r =>
      unfold State.replayGutter
      split
      · exact ih hs _ _
      · split
        · exact ih hs _ _
        · refine ih ?_ _ _
          split
          · exact canonical_reportDropped hs _
          · exact hs
          · exact hs
          · exact hs
        next hd => exact ih (canonical_replayItem hs hd) _ _

theorem canonical_drainGutter (h : Nat) : Canonical (s.drainGutter h) := canonical_ite hs (canonical_replayGutter hs h _ _ _)

theorem canonical_popPart {k sl q : Nat} {v : TV} {n : State} (hp : s.popPart k sl q = some (v, n)) : Canonical n := by
  unfold State.popPart at hp
  dsimp only at hp
  repeat' split at hp
  all_goals simp only [reduceCtorEq, Option.some.injEq, Prod.mk.injEq] at hp
  all_goals
    obtain ⟨-, rfl⟩ := hp
    exact hs

theorem canonical_popAt {k sl q : Nat} {v : TV} {n : State} (hp : s.popAt k sl q = some (v, n)) : Canonical n := by
  unfold State.popAt at hp
  split at hp
  next h1 => cases hp; exact canonical_drainGutter (canonical_popPart hs h1) k
  · cases hp

theorem canonical_gather {k sl : Nat} {t : Strand} (rs : List (BitVec 6)) : ∀ {popped vals : List TV} {n : State},
    gather k sl rs popped t s = .inl (vals, n) → Canonical n := by
  induction rs generalizing s with
  | nil => intro _ _ _ h; cases h; exact hs
  | cons r rs ih =>
    intro popped vals n h
    unfold gather at h
    split at h
    · split at h
      · split at h <;> cases h
        exact ih hs ‹_›
      · split at h
        · cases h
        next hp => split at h <;> cases h; exact ih (canonical_popAt hs hp) ‹_›
    · split at h <;> cases h
      exact ih hs ‹_›

theorem canonical_keepPops (srcs : List (BitVec 6)) (l : List TV) : Canonical (s.keepPops srcs l) :=
  canonical_ite (canonical_updStrand hs _ _ _) hs

/-- R253, R254, R277: a part that the channel or the port takes. -/
theorem canonical_pushPart (k sl q i : Nat) (v : TV) : CanonicalSome (s.pushPart k sl q i v) := by
  have hwritten : ∀ (h e : Nat) (c : Chan) (a : Nat) (b : QBind), CanonicalSome
      (some (((s.setChan h e c).writePart a v.bits).updStrand k sl (·.setBind q b))) := fun h e c a b =>
    canonicalSome_some (canonical_updStrand (canonical_writePart (canonical_setChan hs h e c) a v.bits) _ _ _)
  unfold State.pushPart
  split
  · exact canonicalSome_none
  · split
    · exact canonicalSome_none
    · split
      · exact canonicalSome_none
      · exact canonicalSome_ite (canonicalSome_ite (canonicalSome_some hs) canonicalSome_none)
          (canonicalSome_some hs)
      · refine canonicalSome_ite canonicalSome_none (canonicalSome_ite (canonicalSome_some hs) ?_)
        split
        · exact canonicalSome_some hs
        · exact canonicalSome_ite (canonicalSome_ite canonicalSome_none (canonicalSome_some hs))
            (canonicalSome_ite (canonicalSome_ite canonicalSome_none (hwritten _ _ _ _ _))
              (canonicalSome_ite canonicalSome_none (hwritten _ _ _ _ _)))

theorem canonical_pushReleased (k sl q i : Nat) (v : TV) : CanonicalSome (s.pushReleased k sl q i v) :=
  canonicalSome_ite (canonical_pushPart hs k sl q i v) canonicalSome_none

theorem canonical_blockPush (k sl q : Nat) (v : TV) (slot : List Byte) : Canonical (s.blockPush k sl q v slot) :=
  canonical_updStrand hs _ _ _

/-- R266: a slot that the channel or the port takes whole. -/
theorem canonical_putSlot (k sl q i : Nat) (bs : List Byte) : CanonicalSome (s.putSlot k sl q i bs) := by
  unfold State.putSlot
  split
  · exact canonicalSome_none
  · split
    · exact canonicalSome_none
    · exact canonicalSome_ite (canonicalSome_some (canonical_updStrand hs _ _ _)) canonicalSome_none
    · exact canonicalSome_ite canonicalSome_none (canonicalSome_ite (canonicalSome_some hs) (canonicalSome_ite
        (canonicalSome_some hs) (canonicalSome_ite (canonicalSome_ite canonicalSome_none (canonicalSome_some hs))
          (canonicalSome_ite canonicalSome_none (canonical_placeSlot hs _ _ _)))))

/-! ### Translations, faults and messages (R342 to R352) -/

theorem canonical_failWaiter (w : PageWait) (cause : Nat) : Canonical (s.failWaiter w cause) := by
  unfold State.failWaiter
  split
  · split <;> exact hs
  · exact hs
  · exact hs

theorem canonical_placeFault (key : FaultKey) (w : PageWait) : Canonical (s.placeFault key w) := by
  exact canonical_ite hs (canonical_ite (canonical_failWaiter hs w _) (canonical_ite hs (canonical_ite hs
    (canonical_ite hs (canonical_ite hs hs)))))

theorem canonical_markAccess (w : Waiter) (p : AccessPhase) : Canonical (s.markAccess w p) := by
  unfold State.markAccess
  split
  · split <;> exact hs
  · exact hs

theorem canonical_deny (key : FaultKey) (w : PageWait) : Canonical (s.deny key w) :=
  canonical_placeFault (canonical_markAccess hs _ _) key w

theorem canonical_translate (vf pasid : Nat) (w : PageWait) : Canonical (s.translate vf pasid w) := by
  unfold State.translate
  dsimp only
  split
  · split
    · exact canonical_deny hs _ _
    · exact canonical_failWaiter hs _ _
    · exact hs
  · exact hs

theorem canonical_miss (vf pasid : Nat) (w : PageWait) : Canonical (s.miss vf pasid w) := by
  unfold State.miss
  split
  · exact canonical_ite (canonical_translate hs _ _ _) (canonical_deny hs _ _)
  · exact canonical_translate hs _ _ _

theorem canonical_engineMiss (cl vf pasid va : Nat) (w : Bool) (who : Waiter) :
    Canonical (s.engineMiss cl vf pasid va w who) := canonical_ite hs (canonical_miss hs _ _ _)

theorem canonical_placeEvent (k : Nat) (e : EvMsg) : CanonicalSome (s.placeEvent k e) :=
  canonicalSome_ite (canonicalSome_some hs) canonicalSome_none

theorem canonical_signal (e : EvMsg) (k mask n : Nat) : ∀ sl, Canonical (State.signal e k mask n sl s).1 := by
  induction n generalizing s with
  | zero => exact fun _ => hs
  | succ n ih =>
    intro sl
    unfold State.signal
    split
    · split
      next h =>
        refine ih ?_ _
        split at h
        · cases h
        · exact canonical_placeEvent hs _ _ _ h
      · exact hs
    · exact ih hs _

theorem canonical_passMutex (cl n : Nat) : Canonical (s.passMutex cl n) := by
  unfold State.passMutex
  dsimp only
  split
  · exact hs
  · split <;> exact hs

/-! ### Regions (R394 to R400, R453) -/

theorem canonical_ridgeWrite (a : Nat) (bs : List Byte) : Canonical (s.ridgeWrite a bs) :=
  canonical_write (canonical_touch hs _ _ _ _) _ _

theorem canonical_putStatus (r : Nat) : Canonical (s.putStatus r) := by
  unfold State.putStatus State.writeStatus
  split
  · exact canonical_ite (canonical_ridgeWrite hs _ _) hs
  · exact hs

end

theorem canonical_regionTo {s : State} (hs : Canonical s) (r : Nat) (f : Region → Region) : Canonical (s.regionTo r f) :=
  canonical_putStatus (s := s.setRegion r (f (s.region r))) hs r

section
variable {s : State} (hs : Canonical s)
include hs

theorem canonical_assertReset (r : Nat) : Canonical (s.assertReset r) := by
  have hcores : Canonical ((coresOfRegion r).foldl (fun (st : State) k =>
      if (kfind k st.cores).isNone then st
      else st.updCore k (fun c => { c with slots := [], seq := [], phase := none, transfers := [], held := [] })) s) :=
    canonical_foldl (fun st k hst => canonical_ite hst (canonical_updCore hst k _)) _ hs
  have hclusters := canonical_foldl (f := fun (st : State) cl =>
    if (kfind cl st.clusters).isNone then st
    else st.updCluster cl (fun c => { c with cmds := [], copies := [], owned := [], tileFail := [] }))
    (fun st cl hst => canonical_ite hst (canonical_updCluster hst cl _)) (clustersOfRegion r) hcores
  unfold State.assertReset
  refine canonical_dropEnded (canonical_withoutSent ?_ _ _) s
  exact hclusters

theorem canonical_beginReset (r : Nat) : Canonical (s.beginReset r) :=
  canonical_regionTo (canonical_clearWindows (canonical_assertReset hs r) r) r _

theorem canonical_scrub (r : Nat) : Canonical (s.scrub r) := by
  have hflights : Canonical (s.scrubFlights r) :=
    canonical_foldl (f := fun (st : State) (f : Nat × Flight) => st.refuse f.2.src 0x10 f.2.addr) (fun _ _ hst => hst) _ hs
  exact kwf_filter _ hflights

theorem canonical_losePower (r : Nat) : Canonical (s.losePower r) :=
  canonical_setRegion (canonical_scrub (canonical_assertReset hs r) r) r _

theorem canonical_regionRail (r : Nat) (up : Bool) : CanonicalSome (regionRail r up s) := by
  have hoff : ∀ f, Canonical ((s.losePower r).regionTo r f) := canonical_regionTo (canonical_losePower hs r) r
  refine canonicalSome_ite canonicalSome_none ?_
  split
  · exact canonicalSome_some (canonical_regionTo hs r _)
  · exact canonicalSome_some hs
  · exact canonicalSome_some (hoff _)
  · exact canonicalSome_some (hoff _)
  · exact canonicalSome_some (canonical_losePower hs r)

theorem canonical_regionClk (r : Nat) (run : Bool) : CanonicalSome (regionClk r run s) := by
  refine canonicalSome_ite canonicalSome_none ?_
  split
  · exact canonicalSome_some (canonical_regionTo hs r _)
  · exact canonicalSome_some (canonical_regionTo hs r _)
  · exact canonicalSome_some hs
  · exact canonicalSome_ite (canonicalSome_some (canonical_regionTo hs r _)) canonicalSome_none
  · exact canonicalSome_ite (canonicalSome_some hs) canonicalSome_none

theorem canonical_lossEvent : Canonical s.lossEvent := hs

theorem canonical_regionRst (r : Nat) (on : Bool) : CanonicalSome (regionRst r on s) :=
  canonicalSome_ite canonicalSome_none (canonicalSome_ite (canonicalSome_some hs) (canonicalSome_ite
    (canonicalSome_some (canonical_beginReset (canonical_lossEvent hs) r))
    (canonicalSome_some (canonical_setRegion (canonical_assertReset hs r) r _))))

theorem canonical_regionGate (r : Nat) (openIt : Bool) : CanonicalSome (regionGate r openIt s) :=
  canonicalSome_ite canonicalSome_none (canonicalSome_ite (canonicalSome_ite (canonicalSome_some hs) canonicalSome_none)
    (canonicalSome_some hs))

/-- A control that changes what it can. -/
theorem canonical_control {f : State → Option State} {c : Prop} [Decidable c] (hf : ∀ {s}, Canonical s → CanonicalSome (f s)) :
    Canonical (if c then (f s).getD s else s) := canonical_ite ((hf hs).getD hs) hs

/-- R394, R453: every control of every region of a die. -/
theorem canonical_writeRgctl (die w : Nat) : Canonical (s.writeRgctl die w) :=
  canonical_foldl (fun _ _ hst =>
    canonical_control (canonical_control (canonical_control (canonical_control hst
      fun h => canonical_regionRail h _ _) fun h => canonical_regionClk h _ _) fun h => canonical_regionRst h _ _)
      fun h => canonical_regionGate h _ _) _ hs

/-- R425, R426: a system register written. -/
theorem canonical_sysWrite (k sl : Nat) (r : SysReg) (w : Word) : Canonical (s.sysWrite k sl r w) := by
  cases r
  case rgCtl => exact canonical_writeRgctl hs _ _
  case status | trapPc | trapCause | trapVal => exact canonical_updStrand hs _ _ _
  all_goals exact hs

end
end Sys2Proof.Machine
end

section
/-! PROOF. Meanings that keep memory canonical (log entry 56): each step of a meaning, and the meanings that instructions
share. -/
namespace Sys2Proof.Machine

/-- Memory is canonical where a meaning ends, however it ends; where it waits and asks, after it has asked. -/
def EndsCanonical {α : Type} : EStateM.Result Stop State α → Prop
  | .ok _ s => Canonical s
  | .error (.waitDo _ ask) s => Canonical (ask s)
  | .error _ s => Canonical s

/-- The meaning keeps memory canonical. -/
def Keeps {α : Type} (m : M α) : Prop := ∀ s, Canonical s → EndsCanonical (m s)

/-! ### Sequencing -/

section
variable {α β : Type}

theorem Keeps.bind {m : M α} {f : α → M β} (hm : Keeps m) (hf : ∀ a, Keeps (f a)) : Keeps (m >>= f) := by
  intro s hs
  have hend := hm s hs
  rw [M.bind_apply]
  cases hr : m s with
  | ok a s' => rw [hr] at hend; exact hf a s' hend
  | error e s' =>
    rw [hr] at hend
    cases e <;> exact hend

/-- What follows a look at the state. -/
theorem Keeps.get {f : State → M β} (hf : ∀ s, Canonical s → Keeps (f s)) : Keeps (get >>= f) := fun s hs => hf s hs s hs

theorem Keeps.ite {c : Prop} [Decidable c] {m n : M α} (hm : Keeps m) (hn : Keeps n) : Keeps (if c then m else n) := by
  split
  · exact hm
  · exact hn

/-- A check that stops, before the rest. -/
theorem Keeps.check {c : Prop} [Decidable c] {m : M Unit} {f : Unit → M β} (hm : Keeps m) (hf : Keeps (f ())) :
    Keeps (if c then m >>= f else f ()) := .ite (hm.bind fun _ => hf) hf

theorem Keeps.mapM {f : α → M β} (hf : ∀ a, Keeps (f a)) (l : List α) : Keeps (l.mapM f) := by
  induction l with
  | nil => exact fun _ hs => hs
  | cons a l ih =>
    rw [List.mapM_cons]
    exact (hf a).bind fun _ => ih.bind fun _ _ hs => hs

theorem Keeps.forM {f : α → M PUnit} (hf : ∀ a, Keeps (f a)) (l : List α) : Keeps (l.forM f) := by
  induction l with
  | nil => exact fun _ hs => hs
  | cons a l ih => exact (hf a).bind fun _ => ih

theorem Keeps.forIn {f : α → β → M (ForInStep β)} (hf : ∀ a b, Keeps (f a b)) (l : List α) : ∀ b, Keeps (forIn l b f) := by
  induction l with
  | nil => exact fun _ _ hs => hs
  | cons a l ih =>
    intro b
    rw [List.forIn_cons]
    refine (hf a b).bind fun r => ?_
    cases r with
    | done b => exact fun _ hs => hs
    | yield b => exact ih b

theorem keeps_pure (a : α) : Keeps (pure a : M α) := fun _ hs => hs
theorem keeps_trap (c : Nat) (v : Word) : Keeps (trap c v : M α) := fun _ hs => hs
theorem keeps_trapThen (c : Nat) (v : Word) (f : α → M β) : Keeps (trap c v >>= f) := fun _ hs => hs
theorem keeps_trapOpen (c : Nat) : Keeps (trapOpen c : M α) := fun _ hs => hs
theorem keeps_waitFor (k : WaitKind) : Keeps (waitFor k : M α) := fun _ hs => hs
theorem keeps_trapNext (c : Nat) (v : Word) : Keeps (throw (.trapNext c v) : M α) := fun _ hs => hs
theorem keeps_undersized (r : Nat) : Keeps (throw (.undersized r) : M α) := fun _ hs => hs

theorem keeps_waitDo {k : WaitKind} {ask : State → State} (h : ∀ s, Canonical s → Canonical (ask s)) :
    Keeps (throw (.waitDo k ask) : M α) := fun s hs => h s hs

end

theorem keeps_set {s : State} (hs : Canonical s) : Keeps (set s : M PUnit) := fun _ _ => hs
theorem keeps_modState {f : State → State} (hf : ∀ s, Canonical s → Canonical (f s)) : Keeps (modState f) :=
  fun s hs => hf s hs
theorem Keeps.modState {β : Type} {f : State → State} {g : Unit → M β} (hf : ∀ s, Canonical s → Canonical (f s))
    (hg : Keeps (g ())) : Keeps (modState f >>= g) := (keeps_modState hf).bind fun _ => hg
theorem keeps_modStrand (f : Strand → Strand) : Keeps (modStrand f) := fun _ hs => canonical_updStrand hs _ _ f
theorem keeps_modCore (f : Core → Core) : Keeps (modCore f) := fun _ hs => hs
theorem keeps_modLease (f : Lease → Lease) : Keeps (modLease f) := fun _ hs => hs
theorem keeps_modShape (r : Nat) (f : Shape → Shape) : Keeps (modShape r f) := keeps_modStrand _
theorem keeps_self : Keeps self := fun _ hs => hs
theorem keeps_getCore : Keeps getCore := fun _ hs => hs
theorem keeps_getLease : Keeps getLease := fun _ hs => hs
theorem keeps_mySlot : Keeps mySlot := fun _ hs => hs

theorem keeps_getStrand : Keeps getStrand := by
  intro s hs
  unfold getStrand
  split <;> exact hs

/-! ### Operands and results -/

theorem keeps_boundFirst (fields : List (BitVec 6)) : Keeps (boundFirst fields) := by
  refine keeps_getStrand.bind fun _ => ?_
  split
  · exact keeps_trap _ _
  · exact keeps_pure _

theorem keeps_operandsOf (fields srcs dests : List (BitVec 6)) : Keeps (operandsOf fields srcs dests) := by
  refine (keeps_boundFirst _).bind fun _ => keeps_getStrand.bind fun _ => keeps_self.bind fun _ => .get fun s hs => ?_
  dsimp only
  split
  · exact keeps_trapThen _ _ _
  split
  · exact keeps_trapThen _ _ _
  split
  · exact keeps_trapThen _ _ _
  refine .check (keeps_waitFor _) (.check (keeps_waitFor _) ?_)
  split
  next hg =>
    refine (keeps_set (canonical_keepPops (canonical_gather hs _ hg) _ _)).bind fun _ => ?_
    refine .ite ?_ (keeps_pure _)
    split
    · exact (keeps_undersized _).bind fun _ => keeps_pure _
    · exact keeps_pure _
  · exact keeps_waitFor _

theorem keeps_operands (srcs dests : List (BitVec 6)) : Keeps (operands srcs dests) := keeps_operandsOf _ _ _
theorem keeps_operand1 (a : BitVec 6) (dests : List (BitVec 6)) : Keeps (operand1 a dests) :=
  (keeps_operands _ _).bind fun _ => keeps_pure _
theorem keeps_operand2 (a b : BitVec 6) (dests : List (BitVec 6)) : Keeps (operand2 a b dests) :=
  (keeps_operands _ _).bind fun _ => keeps_pure _
theorem keeps_operand3 (a b c : BitVec 6) (dests : List (BitVec 6)) : Keeps (operand3 a b c dests) :=
  (keeps_operands _ _).bind fun _ => keeps_pure _

theorem keeps_result (d : BitVec 6) (lat : Nat) (v : TV) : Keeps (result d lat v) :=
  .ite (keeps_modState fun _ hs => (canonical_pushReleased hs _ _ _ _ _).getD (canonical_blockPush hs _ _ _ _ _))
    (.ite (keeps_pure _) (.ite (keeps_modStrand _) (.get fun _ _ => keeps_modStrand _)))

/-- A result, and the instruction completes. -/
theorem keeps_resultThen (d : BitVec 6) (lat : Nat) (v : TV) (f : Flow) : Keeps (do result d lat v; return f) :=
  (keeps_result _ _ _).bind fun _ => keeps_pure _

theorem keeps_setFlags (f : FlagSet) : Keeps (setFlags f) := keeps_modStrand _
theorem keeps_resultFlags (d : BitVec 6) (lat : Nat) (f : FlagSet) : Keeps (resultFlags d lat f) :=
  .get fun _ _ => .ite (keeps_setFlags _) (keeps_modStrand _)

theorem keeps_openResult (d : BitVec 6) (lat : Nat) : Keeps (openResult d lat) :=
  .get fun s hs => (keeps_set (s := s.freeWord.2) hs).bind fun _ => keeps_result _ _ _

theorem keeps_takeDraw (rm : RMode) : Keeps (takeDraw rm) :=
  .ite (keeps_getCore.bind fun _ => (keeps_modCore _).bind fun _ => keeps_pure _) (keeps_pure _)

theorem keeps_wordOp1 (lat : Nat) (d a : BitVec 6) (f : Word → Word) : Keeps (wordOp1 lat d a f) :=
  (keeps_operand1 _ _).bind fun _ => keeps_resultThen _ _ _ _
theorem keeps_wordOp2 (lat : Nat) (d a b : BitVec 6) (f : Word → Word → Word) : Keeps (wordOp2 lat d a b f) :=
  (keeps_operand2 _ _ _).bind fun _ => keeps_resultThen _ _ _ _
theorem keeps_wordOp3 (lat : Nat) (d a b c : BitVec 6) (f : Word → Word → Word → Word) : Keeps (wordOp3 lat d a b c f) :=
  (keeps_operand3 _ _ _ _).bind fun _ => keeps_resultThen _ _ _ _
theorem keeps_capOp1 (d a : BitVec 6) (f : TV → TV) : Keeps (capOp1 d a f) :=
  (keeps_operand1 _ _).bind fun _ => keeps_resultThen _ _ _ _
theorem keeps_capOp2 (d a b : BitVec 6) (f : TV → TV → TV) : Keeps (capOp2 d a b f) :=
  (keeps_operand2 _ _ _).bind fun _ => keeps_resultThen _ _ _ _
theorem keeps_readCounter (d : BitVec 6) (f : State → Word) : Keeps (readCounter d f) :=
  (keeps_operands _ _).bind fun _ => .get fun _ _ => keeps_resultThen _ _ _ _

/-- A floating-point result with its flags. -/
theorem keeps_fpResult (d : BitVec 6) (lat : Nat) (f : FlagSet) (v : TV) :
    Keeps (do resultFlags d lat f; result d lat v; return Flow.next) :=
  (keeps_resultFlags _ _ _).bind fun _ => keeps_resultThen _ _ _ _

theorem keeps_fpOp1 (rounds : Bool) (lat : Nat) (d a : BitVec 6) (f : RMode → Nat → Nat → Nat × FlagSet) :
    Keeps (fpOp1 rounds lat d a f) :=
  (keeps_operand1 _ _).bind fun _ => keeps_getStrand.bind fun _ =>
    .ite ((keeps_takeDraw _).bind fun _ => keeps_fpResult _ _ _ _) (keeps_fpResult _ _ _ _)
theorem keeps_fpOp2 (rounds : Bool) (lat : Nat) (d a b : BitVec 6) (f : RMode → Nat → Nat → Nat → Nat × FlagSet) :
    Keeps (fpOp2 rounds lat d a b f) :=
  (keeps_operand2 _ _ _).bind fun _ => keeps_getStrand.bind fun _ =>
    .ite ((keeps_takeDraw _).bind fun _ => keeps_fpResult _ _ _ _) (keeps_fpResult _ _ _ _)
theorem keeps_cvtOp (rounds : Bool) (bits : Nat) (d a : BitVec 6) (f : RMode → Nat → Nat → Nat × FlagSet) :
    Keeps (cvtOp rounds bits d a f) :=
  (keeps_operand1 _ _).bind fun _ => keeps_getStrand.bind fun _ =>
    .ite ((keeps_takeDraw _).bind fun _ => keeps_fpResult _ _ _ _) (keeps_fpResult _ _ _ _)
theorem keeps_fpOp3 (d a b c : BitVec 6) (f : RMode → Nat → Nat → Nat → Nat → Nat × FlagSet) : Keeps (fpOp3 d a b c f) :=
  (keeps_operand3 _ _ _ _).bind fun _ => keeps_getStrand.bind fun _ => (keeps_takeDraw _).bind fun _ => keeps_fpResult _ _ _ _

/-! ### Accesses (R278 to R285) -/

theorem keeps_afterAcquire : Keeps afterAcquire := .get fun _ _ => .ite (keeps_waitFor _) (keeps_pure _)
theorem keeps_releaseFirst (rel : Bool) : Keeps (releaseFirst rel) := .get fun _ _ => .ite (keeps_waitFor _) (keeps_pure _)
theorem keeps_hold (d : Nat) : Keeps (hold d) := .ite (keeps_pure _) (keeps_modStrand _)

theorem keeps_shapesFree (rs : List Nat) : Keeps (shapesFree rs) :=
  keeps_getStrand.bind fun _ => .ite (keeps_waitFor _) (keeps_pure _)

theorem keeps_derefCheck (c : TV) (x size perm : Nat) : Keeps (derefCheck c x size perm) := by
  unfold derefCheck
  split
  · exact keeps_trap _ _
  · exact keeps_pure _

theorem keeps_spaceCheck (x size : Nat) (w fm : Bool) : Keeps (spaceCheck x size w fm) := by
  refine .get fun _ _ => ?_
  split
  · exact keeps_trap _ _
  · exact keeps_pure _

theorem keeps_outstanding (x : Nat) (kind : AccessKind) (acq : Bool) (scope : Nat) (phase : AccessPhase) (phys : Nat) :
    Keeps (outstanding x kind acq scope phase phys) := keeps_getStrand.bind fun _ => keeps_modState fun _ hs => hs

theorem keeps_missing (x : Nat) (kind : AccessKind) (acq : Bool) (scope : Nat) : Keeps (missing x kind acq scope) :=
  .get fun _ _ => (keeps_outstanding _ _ _ _ _ _).bind fun _ => keeps_modState fun _ hs => canonical_miss hs _ _ _

theorem keeps_refusedBy (cause x : Nat) (posted : Bool) : Keeps (refusedBy cause x posted) :=
  .ite (keeps_modState fun _ hs => hs) (keeps_trap _ _)

theorem keeps_sendOut (x loc : Nat) (kind : AccessKind) (acq : Bool) (scope : Nat) : Keeps (sendOut x loc kind acq scope) := by
  refine .get fun _ _ => ?_
  split
  · exact keeps_trap _ _
  · exact .ite (keeps_getStrand.bind fun _ => .ite (keeps_outstanding _ _ _ _ _ _)
      ((keeps_outstanding _ _ _ _ _ _).bind fun _ => keeps_modState fun _ hs => hs))
      (.ite (keeps_modState fun _ hs => hs) (keeps_trap _ _))

theorem keeps_windowAccess (x : Nat) (kind : AccessKind) : Keeps (windowAccess x kind) := by
  unfold windowAccess
  split
  · exact .get fun _ _ => keeps_result _ _ _
  · exact keeps_modState fun _ hs => canonical_windowWrite hs _ _
  · exact .get fun _ _ => keeps_modShape _ _
  · exact keeps_modState fun _ hs => canonical_windowWrite hs _ _
  · exact keeps_trap _ _

/-- R278: an access, where what it does at its location keeps memory canonical. -/
theorem keeps_access {x : Nat} {kind : AccessKind} {fm acq : Bool} {scope : Nat} {d : BitVec 6} {act : Nat → M Unit}
    (h : ∀ loc, Keeps (act loc)) : Keeps (access x kind fm acq scope d act) := by
  refine .get fun _ _ => ?_
  dsimp only
  split
  · exact keeps_trap _ _
  · exact keeps_refusedBy _ _ _
  · exact keeps_trap _ _
  · exact keeps_result _ _ _
  · exact keeps_windowAccess _ _
  · exact .ite (keeps_refusedBy _ _ _) (.ite (keeps_waitFor _)
      (.ite ((keeps_outstanding _ _ _ _ _ _).bind fun _ => keeps_hold _) (h _)))
  · exact (keeps_sendOut _ _ _ _ _).bind fun _ => keeps_hold _
  · exact (keeps_missing _ _ _ _).bind fun _ => keeps_hold _

/-- An access, and the instruction completes. -/
theorem keeps_accessThen {x : Nat} {kind : AccessKind} {fm acq : Bool} {scope : Nat} {d : BitVec 6} {act : Nat → M Unit}
    (h : ∀ loc, Keeps (act loc)) : Keeps (do access x kind fm acq scope d act; return Flow.next) :=
  (keeps_access h).bind fun _ => keeps_pure _

theorem keeps_touchFor (loc size : Nat) (w : Bool) : Keeps (touchFor loc size w) :=
  keeps_modState fun _ hs => canonical_touch hs _ _ _ _

theorem keeps_loadAt (c : TV) (size : Nat) (sg : Bool) (d : BitVec 6) (loc : Nat) : Keeps (loadAt c size sg d loc) :=
  .get fun _ _ => (keeps_touchFor _ _ _).bind fun _ => keeps_result _ _ _

theorem keeps_storeAt (size : Nat) (v : TV) (loc : Nat) : Keeps (storeAt size v loc) :=
  (keeps_touchFor _ _ _).bind fun _ =>
    .ite (keeps_modState fun _ hs => canonical_writeTagged hs _ _) (keeps_modState fun _ hs => canonical_write hs _ _)

theorem keeps_load (size : Nat) (sg : Bool) (d a : BitVec 6) (imm : BitVec 13) : Keeps (load size sg d a imm) :=
  (keeps_operand1 _ _).bind fun _ => keeps_afterAcquire.bind fun _ => (keeps_derefCheck _ _ _ _).bind fun _ =>
    .check (keeps_trap _ _) (keeps_accessThen fun _ => keeps_loadAt _ _ _ _ _)

theorem keeps_store (size : Nat) (a b : BitVec 6) (imm : BitVec 13) : Keeps (store size a b imm) :=
  (keeps_operand2 _ _ _).bind fun _ => keeps_afterAcquire.bind fun _ => (keeps_derefCheck _ _ _ _).bind fun _ =>
    .check (keeps_trap _ _) (.check (keeps_trap _ _) (keeps_accessThen fun _ => keeps_storeAt _ _ _))

/-! ### Ordered accesses (R285, R294 to R301) -/

theorem keeps_fabricWait : Keeps fabricWait := .get fun _ _ => .check (keeps_waitFor _) (keeps_modStrand _)

theorem keeps_releaseAt (rel : Bool) (scope : Nat) : Keeps (releaseAt rel scope) :=
  .get fun _ _ => .check (keeps_waitFor _) (.ite keeps_fabricWait (keeps_pure _))

theorem keeps_formatMCheck (c : TV) (x size perms : Nat) : Keeps (formatMCheck c x size perms) :=
  (keeps_derefCheck _ _ _ _).bind fun _ => .check (keeps_trap _ _) (keeps_spaceCheck _ _ _ _)

theorem keeps_fenceAll (scope : BitVec 3) : Keeps (fenceAll scope) := (keeps_releaseAt _ _).bind fun _ => keeps_pure _

theorem keeps_amo (op : AmoOp) (size : Nat) (d a b : BitVec 6) (scope : BitVec 3) (ord : BitVec 2) :
    Keeps (amo op size d a b scope ord) :=
  (keeps_operand2 _ _ _).bind fun _ => keeps_afterAcquire.bind fun _ => (keeps_formatMCheck _ _ _ _).bind fun _ =>
    (keeps_releaseAt _ _).bind fun _ => keeps_accessThen fun _ => .get fun _ hs =>
      (keeps_set (canonical_atomicAt hs _ _ _ _ _ _)).bind fun _ => (keeps_setFlags _).bind fun _ => keeps_result _ _ _

theorem keeps_red (op : AmoOp) (size : Nat) (a b : BitVec 6) (scope : BitVec 3) (ord : BitVec 2) :
    Keeps (red op size a b scope ord) :=
  (keeps_operand2 _ _ _).bind fun _ => keeps_afterAcquire.bind fun _ => (keeps_formatMCheck _ _ _ _).bind fun _ =>
    (keeps_releaseAt _ _).bind fun _ => keeps_accessThen fun _ => keeps_modState fun _ hs => canonical_atomicAt hs _ _ _ _ _ _

theorem keeps_cas (size : Nat) (d a b : BitVec 6) (scope : BitVec 3) (ord : BitVec 2) : Keeps (cas size d a b scope ord) :=
  (keeps_operandsOf _ _ _).bind fun _ => keeps_afterAcquire.bind fun _ => (keeps_formatMCheck _ _ _ _).bind fun _ =>
    (keeps_releaseAt _ _).bind fun _ => keeps_accessThen fun _ => .get fun _ hs =>
      (keeps_set (canonical_casAt hs _ _ _ _ _ _)).bind fun _ => keeps_result _ _ _

theorem keeps_loadAcquire (size : Nat) (d a : BitVec 6) (scope : BitVec 3) : Keeps (loadAcquire size d a scope) :=
  (keeps_operand1 _ _).bind fun _ => keeps_afterAcquire.bind fun _ => (keeps_formatMCheck _ _ _ _).bind fun _ =>
    keeps_accessThen fun _ => keeps_loadAt _ _ _ _ _

theorem keeps_storeRelease (size : Nat) (a b : BitVec 6) (scope : BitVec 3) : Keeps (storeRelease size a b scope) :=
  (keeps_operand2 _ _ _).bind fun _ => keeps_afterAcquire.bind fun _ => (keeps_formatMCheck _ _ _ _).bind fun _ =>
    (keeps_releaseAt _ _).bind fun _ => keeps_accessThen fun _ => keeps_storeAt _ _ _

/-! ### Blocks in pieces, and waits for their pages -/

theorem keeps_takeFailure (x : Nat) (k : WaitKind) : Keeps (takeFailure x k) := by
  refine .get fun _ _ => ?_
  split
  · exact .modState (fun _ hs => hs) (keeps_trap _ _)
  · exact .ite (keeps_waitFor _) (keeps_pure _)

theorem keeps_waitTranslation {α : Type} (x : Nat) (w : Bool) (k : WaitKind) : Keeps (waitTranslation x w k : M α) :=
  keeps_waitDo fun _ hs => canonical_engineMiss hs _ _ _ _ _ _

theorem keeps_fetchedLoc (x loc n : Nat) (k : WaitKind) : Keeps (fetchedLoc x loc n k) := by
  refine .get fun _ _ => ?_
  split
  · exact keeps_pure _
  · exact keeps_waitFor _
  · exact keeps_trap _ _
  · exact keeps_waitDo fun _ hs => hs

theorem keeps_pieceLoc (x : Nat) (w fm : Bool) (k : WaitKind) (p : Nat × Nat) : Keeps (pieceLoc x w fm k p) := by
  refine .get fun _ _ => ?_
  split
  · exact .check (keeps_waitFor _) (.check (keeps_waitFor _) (keeps_pure _))
  · exact keeps_waitTranslation _ _ _
  · exact keeps_trap _ _
  · exact keeps_trap _ _
  · exact keeps_trap _ _
  · exact keeps_pure _
  · exact keeps_trap _ _
  · exact .check (keeps_waitFor _) (keeps_fetchedLoc _ _ _ _)

theorem keeps_blockLocs (x n : Nat) (w fm : Bool) (k : WaitKind) : Keeps (blockLocs x n w fm k) :=
  (keeps_takeFailure _ _).bind fun _ => .mapM (keeps_pieceLoc _ _ _ _) _

theorem keeps_readBlock (locs : List (Nat × Nat)) : Keeps (readBlock locs) :=
  (Keeps.forM (fun _ => keeps_touchFor _ _ _) _).bind fun _ => .modState (fun _ hs => hs) (.get fun _ _ => keeps_pure _)

theorem keeps_waitvStalled (x : Nat) (kind : AccessKind) (acq : Bool) (scope : Nat) : Keeps (waitvStalled x kind acq scope) :=
  .modState (fun _ hs => hs) ((keeps_outstanding _ _ _ _ _ _).bind fun _ => keeps_hold _)

theorem keeps_waitv (size : Nat) (d a b : BitVec 6) (scope : BitVec 3) (ord : BitVec 1) :
    Keeps (waitv size d a b scope ord) := by
  refine (keeps_operand2 _ _ _).bind fun _ => keeps_afterAcquire.bind fun _ => (keeps_formatMCheck _ _ _ _).bind fun _ =>
    .get fun _ _ => .ite ((keeps_waitvStalled _ _ _ _).bind fun _ => keeps_pure _) ((keeps_takeFailure _ _).bind fun _ => ?_)
  split
  · exact .check (keeps_waitFor _) (.check (keeps_waitFor _) (.check (keeps_waitFor _)
      ((keeps_touchFor _ _ _).bind fun _ => keeps_resultThen _ _ _ _)))
  · exact (keeps_waitTranslation _ _ _).bind fun _ => keeps_pure _
  · exact keeps_trapThen _ _ _
  · exact keeps_trapThen _ _ _
  · exact keeps_trapThen _ _ _

/-! ### Bit fields, branches and capabilities (R109, R131, R155 to R158) -/

theorem keeps_bitCheck (c : TV) (r : BitRange) (perm : Nat) : Keeps (bitCheck c r perm) :=
  (keeps_derefCheck _ _ _ _).bind fun _ => .ite (keeps_trap _ _) (keeps_pure _)

theorem keeps_bitAccess {r : BitRange} {w : Bool} {act : Nat → M Unit} (h : ∀ loc, Keeps (act loc)) :
    Keeps (bitAccess r w act) := by
  refine .get fun _ _ => ?_
  split
  · exact .ite (keeps_waitFor _) (h _)
  · exact keeps_refusedBy _ _ _
  · exact keeps_trap _ _
  · exact keeps_trap _ _

theorem keeps_bitLoad (sg adv : Bool) (d a b : BitVec 6) : Keeps (bitLoad sg adv d a b) :=
  (keeps_operand2 _ _ _).bind fun _ => keeps_afterAcquire.bind fun _ => (keeps_bitCheck _ _ _).bind fun _ =>
    (keeps_bitAccess fun _ => .get fun _ _ => keeps_result _ _ _).bind fun _ => .check (keeps_result _ _ _) (keeps_pure _)

theorem keeps_bitStore (adv : Bool) (d a b : BitVec 6) : Keeps (bitStore adv d a b) :=
  (keeps_operand3 _ _ _ _).bind fun _ => keeps_afterAcquire.bind fun _ => (keeps_bitCheck _ _ _).bind fun _ =>
    (keeps_bitAccess fun _ => keeps_modState fun _ hs => canonical_write hs _ _).bind fun _ =>
      .check (keeps_result _ _ _) (keeps_pure _)

theorem keeps_jumpTarget (t : Nat) : Keeps (jumpTarget t) :=
  keeps_getStrand.bind fun _ => .check (keeps_trap _ _) (keeps_pure _)

theorem keeps_branch (a b : BitVec 6) (imm : BitVec 13) (cond : Word → Word → Bool) : Keeps (branch a b imm cond) :=
  (keeps_operand2 _ _ _).bind fun _ => keeps_getStrand.bind fun _ =>
    .ite ((keeps_jumpTarget _).bind fun _ => keeps_pure _) (keeps_pure _)

theorem keeps_narrowed (c : TV) (len : Nat) (exact : Bool) : Keeps (narrowed c len exact) := by
  unfold narrowed
  exact .check (keeps_trap _ _) (.check (keeps_trap _ _) (.check (keeps_trap _ _) (keeps_pure _)))

theorem keeps_returnFromTrap (word : Word) : Keeps (returnFromTrap word) :=
  keeps_getStrand.bind fun _ => .check (keeps_trap _ _) (.check (keeps_trap _ _) (.check (keeps_trap _ _)
    ((keeps_modStrand _).bind fun _ => keeps_pure _)))

/-! ### Channels and messages (R258 to R267) -/

theorem keeps_binding (q : BitVec 3) : Keeps (binding q) := by
  refine keeps_getStrand.bind fun _ => ?_
  split
  · exact keeps_pure _
  · exact keeps_trap _ _

theorem keeps_misuse {α : Type} (q : BitVec 3) : Keeps (misuse q : M α) := keeps_trap _ _

theorem keeps_bindChannel (q : BitVec 3) (c : TV) (d : Descriptor) : Keeps (bindChannel q c d) := by
  unfold bindChannel
  refine .check (keeps_trap _ _) ((keeps_derefCheck _ _ _ _).bind fun _ => keeps_self.bind fun _ => .get fun _ _ =>
    .check (keeps_trap _ _) (.check (keeps_trap _ _) (.check (keeps_trap _ _) (.check (keeps_trap _ _) ?_))))
  dsimp only
  split
  · exact keeps_trapThen _ _ _
  refine .check (keeps_trap _ _) (.check (keeps_waitFor _) ?_)
  split
  · exact keeps_trap _ _
  · exact .modState (fun _ hs => hs) (keeps_modStrand _)

theorem keeps_bindPort (q : BitVec 3) (c : TV) (d : Descriptor) : Keeps (bindPort q c d) :=
  keeps_self.bind fun _ => (keeps_derefCheck _ _ _ _).bind fun _ => .check (keeps_trap _ _) (keeps_modStrand _)

theorem keeps_homeAnswers (b : QBind) : Keeps (homeAnswers b) := by
  refine .get fun _ _ => .ite ?_ (keeps_pure _)
  split
  · exact keeps_trapOpen _
  · exact keeps_pure _

theorem keeps_post (dst : Nat) (kind : FlightKind) (addr : Word) : Keeps (post dst kind addr) := keeps_modState fun _ hs => hs

/-! ### Strands and groups (R121 to R141, R306 to R316) -/

theorem keeps_suspensionPoint : Keeps suspensionPoint := by
  refine keeps_getStrand.bind fun _ => .get fun _ _ => ?_
  dsimp only
  split
  · exact keeps_trapThen _ _ _
  refine .check (keeps_waitFor _) (.check (keeps_trapOpen _) ?_)
  split
  · exact keeps_trapThen _ _ _
  · exact .ite (keeps_waitFor _) (keeps_pure _)

theorem keeps_recordCheck (c : TV) (perms : Nat) : Keeps (recordCheck c perms) := by
  unfold recordCheck
  refine .check (keeps_trap _ _) (.check (keeps_trap _ _) (.check (keeps_trap _ _) (.check (keeps_trap _ _)
    (.get fun _ _ => ?_))))
  split
  · exact keeps_trap _ _
  · exact keeps_pure _

theorem keeps_recordHome (x : Nat) : Keeps (recordHome x) := by
  refine .get fun _ _ => ?_
  split
  · exact .ite (keeps_waitFor _) (keeps_pure _)
  · exact keeps_trap _ _
  · exact keeps_trap _ _
  · exact keeps_trap _ _

theorem keeps_curGroup : Keeps curGroup := keeps_getStrand.bind fun _ => .get fun _ _ => keeps_pure _
theorem keeps_granted : Keeps granted := keeps_getStrand.bind fun _ => keeps_pure _

theorem keeps_entriesDone (k : WaitKind) : Keeps (entriesDone k) := by
  refine keeps_getStrand.bind fun _ => ?_
  dsimp only
  split
  · exact keeps_trapThen _ _ _
  · exact .get fun _ _ => .ite (keeps_waitFor _) (keeps_pure _)

theorem keeps_transfer (put : Bool) (a b c : BitVec 6) : Keeps (transfer put a b c) := by
  refine (keeps_operand3 _ _ _ _).bind fun _ => keeps_afterAcquire.bind fun _ => (keeps_derefCheck _ _ _ _).bind fun _ =>
    .get fun _ _ => .check (keeps_trap _ _) (.check (keeps_trap _ _) ?_)
  dsimp only
  split
  · exact keeps_trapThen _ _ _
  refine keeps_getCore.bind fun _ => .check (keeps_waitFor _) (.check (keeps_waitFor _) ?_)
  split
  · exact (keeps_trapOpen _).bind fun _ => keeps_pure _
  · exact .check (keeps_trapOpen _) ((keeps_modCore _).bind fun _ => keeps_pure _)

/-! ### Vector and tile entries (R168 to R216) -/

theorem keeps_takeRecorded : Keeps takeRecorded := by
  refine keeps_getStrand.bind fun _ => ?_
  split
  · exact keeps_trap _ _
  · exact keeps_pure _

theorem keeps_loopIssued : Keeps loopIssued := by
  refine keeps_getStrand.bind fun _ => ?_
  split
  · exact keeps_pure _
  · exact .ite (keeps_modStrand _) (.get fun _ _ => (keeps_modCore _).bind fun _ => keeps_modStrand _)

theorem keeps_issueEntry (e : VEntry) : Keeps (issueEntry e) := by
  refine (keeps_shapesFree _).bind fun _ => keeps_getStrand.bind fun _ => .get fun _ _ => ?_
  dsimp only
  split
  · exact keeps_trapThen _ _ _
  · exact .check (keeps_waitFor _) (keeps_getCore.bind fun _ => .modState (fun _ hs => hs)
      ((keeps_modCore _).bind fun _ => keeps_loopIssued))

theorem keeps_vectorFirst (fields : List (BitVec 6)) : Keeps (vectorFirst fields) :=
  (keeps_boundFirst _).bind fun _ => keeps_takeRecorded

theorem keeps_needEntry : Keeps needEntry :=
  keeps_getStrand.bind fun _ => keeps_getCore.bind fun _ => .ite (keeps_waitFor _) (keeps_pure _)

theorem keeps_needLease (word : BitVec 32) : Keeps (needLease word) := by
  have hlease : Keeps (do
      let l ← getLease
      let n ← mySlot
      if l.grantedTo n then return ()
      let t ← getStrand
      if l.awaited n || t.waitsIn [.lease] then waitFor .lease
      trap 0x0B (word.setWidth 64) : M Unit) :=
    keeps_getLease.bind fun _ => keeps_mySlot.bind fun _ => .ite (keeps_pure _) (keeps_getStrand.bind fun _ =>
      .check (keeps_waitFor _) (keeps_trap _ _))
  refine .get fun _ _ => ?_
  dsimp only
  split
  · exact .modState (fun _ hs => hs) (keeps_trapThen _ _ _)
  · exact hlease

theorem keeps_acceptTile (f : TileCmd → TileCmd) : Keeps (acceptTile f) :=
  .get fun _ _ => .check (keeps_waitFor _) (.check (keeps_waitFor _) (.modState (fun _ hs => hs) (keeps_modState fun _ hs => hs)))

theorem keeps_tileChecks (p : Pair) (a b : BitVec 4) (k : Nat) (kw : Word) : Keeps (tileChecks p a b k kw) := by
  refine keeps_getStrand.bind fun _ => .check (keeps_trap _ _) (.check (keeps_trap _ _) (.check (keeps_trap _ _)
    (.check (keeps_trap _ _) (.check (keeps_trap _ _) ((Keeps.forIn (fun _ _ => ?_) _ _).bind fun _ => keeps_pure _)))))
  exact .check (keeps_trap _ _) (.check (keeps_trap _ _) (.ite (keeps_trapThen _ _ _) (keeps_pure _)))

/-! ### System registers (R424 to R426, R453) -/

theorem keeps_sysNamed (word : BitVec 32) (idx : BitVec 12) (w : Bool) (fields : List (BitVec 6)) :
    Keeps (sysNamed word idx w fields) := by
  refine keeps_self.bind fun _ => keeps_getStrand.bind fun _ => .check (keeps_trap _ _) ?_
  split
  · split
    · exact keeps_trapThen _ _ _
    · exact keeps_trap _ _
  · exact .check (keeps_trap _ _) (keeps_pure _)

theorem keeps_sysFirst (r : SysReg) (w : Bool) (fields : List (BitVec 6)) : Keeps (sysFirst r w fields) :=
  (keeps_boundFirst _).bind fun _ => .ite keeps_takeRecorded (keeps_pure _)

theorem keeps_sysWait (r : SysReg) (w : Bool) : Keeps (sysWait r w) := by
  have htie : ∀ (s : State) (_ : Unit), Keeps (if r = SysReg.tieSeed ∧ (s.core s.turn.1).tiesPending = true then
      waitFor .inSlot else pure () : M Unit) := fun _ _ => .ite (keeps_waitFor _) (keeps_pure _)
  exact .get fun s _ => .ite (.check (keeps_waitFor _) (htie s ())) (htie s ())

end Sys2Proof.Machine
end

section
/-! PROOF. Instructions that keep memory canonical (log entry 56): the forms whose meaning is their own. -/
namespace Sys2Proof.Machine

/-- What an instruction leaves of a canonical memory is canonical. -/
def KeepsMemory (e : State → Host.Outcome State Fault Refusal) : Prop := ∀ s n, Canonical s → e s = .next n → Canonical n

/-- R65, R68: what becomes of an instruction that reads a register too early. -/
theorem canonical_undersizedStop (reg : Nat) (m : M Flow) (s1 : State) {s2 : State} (hs : Canonical s2) (pc : Nat) :
    Canonical (undersizedStop reg m s1 s2 pc) := by
  unfold undersizedStop
  split
  · exact canonical_updStrand hs _ _ _
  · exact canonical_updStrand hs _ _ _
  · exact canonical_takeTrap hs _ _ _ _

/-- R63 to R68, R421: an instruction keeps what its meaning keeps. -/
theorem keepsMemory_runInstr {sc : Nat} {m : M Flow} (hm : Keeps m) : KeepsMemory (runInstr sc m) := by
  intro s n hs h
  unfold runInstr at h
  split at h
  · cases h
  next t _ =>
    have hend := hm (s.setStrand s.turn.1 s.turn.2 (t.settle s.now)) (canonical_setStrand hs _ _ _)
    dsimp only at h
    split at h
    · cases h
      exact canonical_updStrand (canonical_setStrand hs _ _ _) _ _ _
    · generalize m (s.setStrand s.turn.1 s.turn.2 (t.settle s.now)) = r at h hend
      split at h <;> cases h
      · exact canonical_finish hend _ _
      · exact canonical_takeTrap hend _ _ _ _
      · exact canonical_takeTrap hend _ _ _ _
      · exact canonical_undersizedStop _ _ _ hend _
      · exact canonical_updStrand hend _ _ _
      · exact canonical_updStrand hend _ _ _

/-! ### Integer, capability and branch forms -/

theorem keeps_execLui (d : BitVec 6) (imm : BitVec 19) : KeepsMemory (execLui d imm) :=
  keepsMemory_runInstr ((keeps_operands _ _).bind fun _ => keeps_resultThen _ _ _ _)

theorem keeps_execAuipc (d : BitVec 6) (imm : BitVec 19) : KeepsMemory (execAuipc d imm) :=
  keepsMemory_runInstr ((keeps_operands _ _).bind fun _ => keeps_getStrand.bind fun _ => keeps_resultThen _ _ _ _)

theorem keeps_execCbnd (d a b : BitVec 6) (sc : BitVec 2) : KeepsMemory (execCbnd d a b sc) :=
  keepsMemory_runInstr ((keeps_operand2 _ _ _).bind fun _ => (keeps_narrowed _ _ _).bind fun _ => keeps_resultThen _ _ _ _)

theorem keeps_execCbnde (d a b : BitVec 6) (sc : BitVec 2) : KeepsMemory (execCbnde d a b sc) :=
  keepsMemory_runInstr ((keeps_operand2 _ _ _).bind fun _ => (keeps_narrowed _ _ _).bind fun _ => keeps_resultThen _ _ _ _)

theorem keeps_execCbndi (d a : BitVec 6) (imm : BitVec 12) : KeepsMemory (execCbndi d a imm) :=
  keepsMemory_runInstr ((keeps_operand1 _ _).bind fun _ => (keeps_narrowed _ _ _).bind fun _ => keeps_resultThen _ _ _ _)

theorem keeps_execJal (d : BitVec 6) (imm : BitVec 19) : KeepsMemory (execJal d imm) :=
  keepsMemory_runInstr ((keeps_operands _ _).bind fun _ => keeps_getStrand.bind fun _ => (keeps_jumpTarget _).bind fun _ =>
    keeps_resultThen _ _ _ _)

theorem keeps_execJalr (d a : BitVec 6) (imm : BitVec 13) : KeepsMemory (execJalr d a imm) :=
  keepsMemory_runInstr ((keeps_operand1 _ _).bind fun _ => keeps_getStrand.bind fun _ => .check (keeps_trap _ _)
    (.check (keeps_trap _ _) (.check (keeps_trap _ _) (.check (keeps_trap _ _) (keeps_resultThen _ _ _ _)))))

theorem keeps_execRep (a : BitVec 6) (mask n : BitVec 4) (stride : BitVec 5) : KeepsMemory (execRep a mask n stride) :=
  keepsMemory_runInstr ((keeps_operand1 _ _).bind fun _ => keeps_getStrand.bind fun _ => .ite (keeps_pure _)
    ((keeps_modStrand _).bind fun _ => keeps_pure _))

/-! ### System registers, traps and translations -/

theorem keeps_execSget (d : BitVec 6) (imm : BitVec 12) : KeepsMemory (execSget d imm) :=
  keepsMemory_runInstr ((keeps_sysNamed _ _ _ _).bind fun _ => (keeps_operands _ _).bind fun _ => (keeps_sysWait _ _).bind fun _ =>
    keeps_getStrand.bind fun _ => .get fun _ _ => keeps_resultThen _ _ _ _)

theorem keeps_execSset (a : BitVec 6) (imm : BitVec 12) : KeepsMemory (execSset a imm) :=
  keepsMemory_runInstr ((keeps_sysNamed _ _ _ _).bind fun _ => (keeps_sysFirst _ _ _).bind fun _ =>
    (keeps_operand1 _ _).bind fun _ => (keeps_sysWait _ _).bind fun _ =>
      .modState (fun _ hs => canonical_sysWrite hs _ _ _ _) (keeps_pure _))

theorem keeps_execSswap (d a : BitVec 6) (imm : BitVec 12) : KeepsMemory (execSswap d a imm) :=
  keepsMemory_runInstr ((keeps_sysNamed _ _ _ _).bind fun _ => (keeps_sysFirst _ _ _).bind fun _ =>
    (keeps_operand1 _ _).bind fun _ => (keeps_sysWait _ _).bind fun _ => keeps_getStrand.bind fun _ => .get fun _ _ =>
      .modState (fun _ hs => canonical_sysWrite hs _ _ _ _) (keeps_resultThen _ _ _ _))

theorem keeps_execTrap (a : BitVec 6) (sc : BitVec 2) : KeepsMemory (execTrap a sc) :=
  keepsMemory_runInstr ((keeps_operand1 _ _).bind fun _ => keeps_trapNext _ _)

theorem keeps_execBrk (sc : BitVec 2) : KeepsMemory (execBrk sc) :=
  keepsMemory_runInstr (sc := sc.toNat) (keeps_trapNext _ _)

theorem keeps_execIfence (sc : BitVec 2) : KeepsMemory (execIfence sc) :=
  keepsMemory_runInstr (.get fun _ _ => .check (keeps_waitFor _) ((keeps_modCore _).bind fun _ => keeps_pure _))

theorem keeps_execHalt (sc : BitVec 2) : KeepsMemory (execHalt sc) :=
  keepsMemory_runInstr (keeps_self.bind fun _ => .check (keeps_trap _ _) ((keeps_modCore _).bind fun _ => keeps_pure _))

theorem keeps_execXlpf (a b : BitVec 6) (sc : BitVec 2) : KeepsMemory (execXlpf a b sc) := by
  refine keepsMemory_runInstr ((keeps_operand2 _ _ _).bind fun _ => (keeps_derefCheck _ _ _ _).bind fun _ =>
    .ite (.check (keeps_trap _ _) (.modState (fun s hs => ?_) (keeps_pure _))) (keeps_pure _))
  split
  · exact canonical_miss hs _ _ _
  · exact hs

theorem keeps_execPgprobe (d a : BitVec 6) (sc : BitVec 2) : KeepsMemory (execPgprobe d a sc) := by
  refine keepsMemory_runInstr ((keeps_operand1 _ _).bind fun _ => ?_)
  dsimp only
  split
  · exact keeps_trapThen _ _ _
  · exact .check (keeps_trap _ _) (.get fun _ _ => keeps_resultThen _ _ _ _)

theorem keeps_execAtcinv (d a b : BitVec 6) (sc : BitVec 2) : KeepsMemory (execAtcinv d a b sc) := by
  refine keepsMemory_runInstr (keeps_self.bind fun _ => .check (keeps_trap _ _) ((keeps_operand2 _ _ _).bind fun _ =>
    .get fun _ _ => ?_))
  dsimp only
  split
  · exact .check (keeps_waitDo fun _ hs => hs) (.modState (fun _ hs => hs) (keeps_resultThen _ _ _ _))
  · exact .check (keeps_waitFor _) (.modState (fun _ hs => hs) (keeps_resultThen _ _ _ _))

/-! ### Strands (R138 to R141) -/

theorem keeps_execSpawn (d a b : BitVec 6) (sc : BitVec 2) : KeepsMemory (execSpawn d a b sc) := by
  refine keepsMemory_runInstr ((keeps_operand2 _ _ _).bind fun _ => (keeps_recordCheck _ _).bind fun _ =>
    keeps_afterAcquire.bind fun _ => (keeps_releaseFirst _).bind fun _ => keeps_getStrand.bind fun _ => .get fun _ _ => ?_)
  dsimp only
  split
  · exact keeps_resultThen _ _ _ _
  · exact .ite (keeps_resultThen _ _ _ _) ((keeps_recordHome _).bind fun _ => .check (keeps_waitFor _)
      ((keeps_touchFor _ _ _).bind fun _ => .modState (fun _ hs => canonical_updGroupOn
        (canonical_pushPoolOn (canonical_writeRecordWords hs _ _ _ _ _) _ _ _ _) _ _ _) (keeps_resultThen _ _ _ _)))

theorem keeps_execSuspend (sc : BitVec 2) : KeepsMemory (execSuspend sc) :=
  keepsMemory_runInstr (keeps_suspensionPoint.bind fun _ => keeps_getStrand.bind fun _ => .get fun _ hs => .ite
    ((keeps_set (canonical_write (canonical_unbindAll hs _ _) _ _)).bind fun _ => (keeps_modStrand _).bind fun _ => keeps_pure _)
    ((keeps_set (canonical_updGroupOn (canonical_leaveSlot hs _ _ _ _) _ _ _)).bind fun _ => keeps_pure _))

theorem keeps_execYield (sc : BitVec 2) : KeepsMemory (execYield sc) :=
  keepsMemory_runInstr (keeps_suspensionPoint.bind fun _ => keeps_getStrand.bind fun _ => .get fun _ hs =>
    .check (keeps_waitFor _) ((keeps_set (canonical_updGroupOn (canonical_pushPoolOn (canonical_leaveSlot hs _ _ _ _)
      _ _ _ _) _ _ _)).bind fun _ => keeps_pure _))

theorem keeps_execRetire (sc : BitVec 2) : KeepsMemory (execRetire sc) := by
  refine keepsMemory_runInstr (keeps_suspensionPoint.bind fun _ => keeps_getStrand.bind fun t => .get fun s hs =>
    (keeps_set ?_).bind fun _ => keeps_pure _)
  have hleft := canonical_updGroupOn (canonical_leaveSlot hs s.turn.1 s.turn.2 t.pc.toNat 4) s.turn.1 t.gid
    (fun g => { g with live := g.live - 1 })
  split
  · exact canonical_noteDrained hleft _
  · exact hleft

theorem keeps_execWake (d a : BitVec 6) (sc : BitVec 2) : KeepsMemory (execWake d a sc) :=
  keepsMemory_runInstr ((keeps_operand1 _ _).bind fun _ => (keeps_recordCheck _ _).bind fun _ => keeps_afterAcquire.bind fun _ =>
    (keeps_releaseFirst _).bind fun _ => .get fun _ _ => (keeps_recordHome _).bind fun _ =>
      .ite (keeps_resultThen _ _ _ _) (.ite
        (.check (keeps_waitFor _) ((keeps_touchFor _ _ _).bind fun _ =>
          .modState (fun _ hs => canonical_readyRecord hs _ _) (keeps_resultThen _ _ _ _)))
        (.ite ((keeps_touchFor _ _ _).bind fun _ => .modState (fun _ hs => canonical_write hs _ _) (keeps_resultThen _ _ _ _))
          (keeps_resultThen _ _ _ _))))

theorem keeps_execStid (d : BitVec 6) (sc : BitVec 2) : KeepsMemory (execStid d sc) :=
  keepsMemory_runInstr ((keeps_operands _ _).bind fun _ => keeps_getStrand.bind fun _ => keeps_resultThen _ _ _ _)

theorem keeps_execSetpri (d a : BitVec 6) (sc : BitVec 2) : KeepsMemory (execSetpri d a sc) :=
  keepsMemory_runInstr ((keeps_operand1 _ _).bind fun _ => keeps_getStrand.bind fun _ => (keeps_modStrand _).bind fun _ =>
    keeps_resultThen _ _ _ _)

/-! ### Supersteps and groups (R306 to R319) -/

theorem keeps_execSync (d : BitVec 6) (level : BitVec 2) (sc : BitVec 2) : KeepsMemory (execSync d level sc) := by
  refine keepsMemory_runInstr ((keeps_operands _ _).bind fun _ => keeps_granted.bind fun _ => ?_)
  split
  · exact keeps_resultThen _ _ _ _
  · exact keeps_getStrand.bind fun _ => .get fun _ _ => .check (keeps_trapOpen _) ((keeps_entriesDone _).bind fun _ =>
      .check (keeps_waitFor _) (.check keeps_fabricWait ((keeps_waitFor _).bind fun _ => keeps_pure _)))

theorem keeps_execXstart (level : BitVec 2) (sc : BitVec 2) : KeepsMemory (execXstart level sc) := by
  have hphase : ∀ p : Core → Bool, Keeps (do
      let c ← getCore
      if p c then trapOpen 0x0E
      waitFor (.xstart level.toNat)
      return Flow.next : M Flow) := fun _ =>
    keeps_getCore.bind fun _ => .check (keeps_trapOpen _) ((keeps_waitFor _).bind fun _ => keeps_pure _)
  refine keepsMemory_runInstr (keeps_granted.bind fun _ => ?_)
  dsimp only
  split
  · exact keeps_pure _
  refine .get fun _ _ => keeps_curGroup.bind fun _ => ?_
  split
  · exact .check (keeps_trap _ _) (hphase _)
  · exact hphase _

theorem keeps_execXdone (sc : BitVec 2) : KeepsMemory (execXdone sc) := by
  refine keepsMemory_runInstr (keeps_getCore.bind fun _ => ?_)
  split
  · exact keeps_pure _
  refine .check (keeps_waitFor _) ((keeps_modCore _).bind fun _ => .get fun _ _ => keeps_curGroup.bind fun _ => ?_)
  split
  · refine .modState (fun _ hs => canonical_updGroup hs _ _ _) ?_
    split
    · exact keeps_trapThen _ _ _
    · exact keeps_pure _
  · exact keeps_pure _

theorem keeps_execGrank (d : BitVec 6) (level : BitVec 3) (sc : BitVec 2) : KeepsMemory (execGrank d level sc) := by
  refine keepsMemory_runInstr ((keeps_operands _ _).bind fun _ => keeps_getStrand.bind fun _ => .get fun _ _ =>
    .ite (keeps_resultThen _ _ _ _) (keeps_curGroup.bind fun _ => ?_))
  split
  · exact keeps_resultThen _ _ _ _
  · exact (keeps_openResult _ _).bind fun _ => keeps_pure _

theorem keeps_execGsize (d : BitVec 6) (level : BitVec 3) (sc : BitVec 2) : KeepsMemory (execGsize d level sc) := by
  refine keepsMemory_runInstr ((keeps_operands _ _).bind fun _ => .get fun _ _ => keeps_curGroup.bind fun _ => ?_)
  split
  · exact .ite (keeps_resultThen _ _ _ _) (keeps_resultThen _ _ _ _)
  · exact (keeps_openResult _ _).bind fun _ => keeps_pure _

theorem keeps_execGmember (d a : BitVec 6) (level : BitVec 2) (sc : BitVec 2) : KeepsMemory (execGmember d a level sc) := by
  refine keepsMemory_runInstr ((keeps_operand1 _ _).bind fun _ => .get fun _ _ => keeps_curGroup.bind fun _ => ?_)
  split
  · exact keeps_resultThen _ _ _ _
  · exact (keeps_openResult _ _).bind fun _ => keeps_pure _

/-! ### Events, counters and mutexes (R324 to R339) -/

theorem keeps_execEvwait (d a : BitVec 6) (sc : BitVec 2) : KeepsMemory (execEvwait d a sc) := by
  refine keepsMemory_runInstr ((keeps_operand1 _ _).bind fun _ => .get fun s hs => ?_)
  dsimp only
  split
  · exact (keeps_set (s := s.setInbox _ _) hs).bind fun _ => keeps_resultThen _ _ _ _
  · exact .ite (keeps_resultThen _ _ _ _) ((keeps_waitFor _).bind fun _ => keeps_pure _)

theorem keeps_execEvsig (a b : BitVec 6) (sc : BitVec 2) : KeepsMemory (execEvsig a b sc) := by
  refine keepsMemory_runInstr ((keeps_operand2 _ _ _).bind fun (x, y) => (keeps_releaseFirst _).bind fun _ =>
    keeps_granted.bind fun g => .get fun s hs => ?_)
  have hsent := canonical_signal hs ⟨x.lo.toNat % 32, y.lo⟩ s.turn.1 (x.lo.toNat / 2 ^ 8 % 2 ^ 8)
    (8 - (g.map (·.toNat)).getD 0) ((g.map (·.toNat)).getD 0)
  dsimp only
  split
  next h =>
    rw [h] at hsent
    exact (keeps_set hsent).bind fun _ => keeps_pure _
  · exact (keeps_waitDo fun _ hs => canonical_updStrand (canonical_signal hs _ _ _ _ _) _ _ _).bind fun _ => keeps_pure _

theorem keeps_execEvsend (a b : BitVec 6) (sc : BitVec 2) : KeepsMemory (execEvsend a b sc) :=
  keepsMemory_runInstr ((keeps_operand2 _ _ _).bind fun _ => .check (keeps_trap _ _) (.get fun _ _ => .check (keeps_trap _ _)
    ((keeps_releaseFirst _).bind fun _ => .check (keeps_waitFor _) ((keeps_post _ _ _).bind fun _ => keeps_pure _))))

theorem keeps_execBarc (d a b : BitVec 6) (sc : BitVec 2) : KeepsMemory (execBarc d a b sc) :=
  keepsMemory_runInstr ((keeps_operand2 _ _ _).bind fun _ => .get fun _ hs => .ite (keeps_resultThen _ _ _ _)
    ((keeps_set (canonical_updCluster hs _ _)).bind fun _ => keeps_resultThen _ _ _ _))

theorem keeps_execBara (d a : BitVec 6) (sc : BitVec 2) : KeepsMemory (execBara d a sc) :=
  keepsMemory_runInstr ((keeps_operand1 _ _).bind fun _ => (keeps_releaseFirst _).bind fun _ => .get fun _ hs =>
    .check (keeps_trap _ _) ((keeps_set (canonical_updCluster hs _ _)).bind fun _ => keeps_resultThen _ _ _ _))

theorem keeps_execBarw (a b : BitVec 6) (sc : BitVec 2) : KeepsMemory (execBarw a b sc) :=
  keepsMemory_runInstr ((keeps_operand2 _ _ _).bind fun _ => .get fun _ _ => .ite
    (.check (keeps_trap _ _) ((keeps_waitFor _).bind fun _ => keeps_pure _)) (keeps_pure _))

theorem keeps_execBarrc (d a : BitVec 6) (sc : BitVec 2) : KeepsMemory (execBarrc d a sc) := by
  have hwait : ∀ (s : State) (q : Nat), Keeps (do
      if !s.released s.turn.1 s.turn.2 then waitFor (.barrcFirst q)
      waitFor (.barrc q)
      return Flow.next : M Flow) := fun s q =>
    .check (keeps_waitFor _) ((keeps_waitFor _).bind fun _ => keeps_pure _)
  refine keepsMemory_runInstr ((keeps_operand1 _ _).bind fun _ => keeps_granted.bind fun _ => ?_)
  split
  · exact keeps_resultThen _ _ _ _
  · exact keeps_getStrand.bind fun _ => .get fun s _ => .ite
      (.check (keeps_trap _ _) (.check (keeps_trapOpen _) (hwait s _))) (hwait s _)

theorem keeps_execMtxlock (a : BitVec 6) (sc : BitVec 2) : KeepsMemory (execMtxlock a sc) := by
  refine keepsMemory_runInstr ((keeps_operand1 _ _).bind fun _ => keeps_granted.bind fun _ => ?_)
  split
  · exact keeps_pure _
  refine keeps_getStrand.bind fun _ => .get fun _ hs => ?_
  dsimp only
  split
  · exact (keeps_set (canonical_updCluster hs _ _)).bind fun _ => keeps_pure _
  · exact .check (keeps_trap _ _) ((keeps_waitDo fun _ hs => canonical_updCluster hs _ _).bind fun _ => keeps_pure _)

theorem keeps_execMtxfree (d a : BitVec 6) (sc : BitVec 2) : KeepsMemory (execMtxfree d a sc) :=
  keepsMemory_runInstr ((keeps_operand1 _ _).bind fun _ => (keeps_releaseFirst _).bind fun _ => keeps_getStrand.bind fun _ =>
    .get fun _ hs => .ite ((keeps_set (canonical_passMutex hs _ _)).bind fun _ => keeps_resultThen _ _ _ _)
      (keeps_resultThen _ _ _ _))

theorem keeps_execFenceAcq (scope : BitVec 3) : KeepsMemory (execFenceAcq scope) :=
  keepsMemory_runInstr (.get fun _ _ => .check (keeps_waitFor _) (keeps_pure _))

theorem keeps_execFenceWin : KeepsMemory execFenceWin := keepsMemory_runInstr (keeps_fabricWait.bind fun _ => keeps_pure _)

/-! ### Channels and messages (R258 to R267) -/

theorem keeps_execChbind (q : BitVec 3) (a b : BitVec 6) (sc : BitVec 2) : KeepsMemory (execChbind q a b sc) :=
  keepsMemory_runInstr ((keeps_operand2 _ _ _).bind fun _ => keeps_getStrand.bind fun _ => .check (keeps_trap _ _)
    (.check (keeps_trap _ _) (.check (keeps_trap _ _) (.ite ((keeps_bindChannel _ _ _).bind fun _ => keeps_pure _)
      ((keeps_bindPort _ _ _).bind fun _ => keeps_pure _)))))

theorem keeps_execChfree (q : BitVec 3) (b : BitVec 6) (sc : BitVec 2) : KeepsMemory (execChfree q b sc) :=
  keepsMemory_runInstr ((keeps_operandsOf _ _ _).bind fun _ => (keeps_binding _).bind fun _ => .get fun _ _ =>
    .check (keeps_misuse _) ((keeps_homeAnswers _).bind fun _ => .check (keeps_misuse _) (.check (keeps_waitFor _)
      (.modState (fun _ hs => canonical_releaseEnd hs _ _) ((keeps_modStrand _).bind fun _ => keeps_pure _)))))

theorem keeps_execChcnt (d : BitVec 6) (q : BitVec 3) (sc : BitVec 2) : KeepsMemory (execChcnt d q sc) :=
  keepsMemory_runInstr ((keeps_operandsOf _ _ _).bind fun _ => (keeps_binding _).bind fun _ => (keeps_homeAnswers _).bind fun _ =>
    .get fun _ _ => keeps_resultThen _ _ _ _)

theorem keeps_execChspace (d : BitVec 6) (q : BitVec 3) (sc : BitVec 2) : KeepsMemory (execChspace d q sc) :=
  keepsMemory_runInstr ((keeps_operandsOf _ _ _).bind fun _ => (keeps_binding _).bind fun _ => (keeps_homeAnswers _).bind fun _ =>
    .get fun _ _ => keeps_resultThen _ _ _ _)

theorem keeps_execChpeek (d : BitVec 6) (q : BitVec 3) (b : BitVec 6) (sc : BitVec 2) : KeepsMemory (execChpeek d q b sc) := by
  refine keepsMemory_runInstr ((keeps_operandsOf _ _ _).bind fun _ => (keeps_binding _).bind fun _ => .get fun _ _ =>
    .check (keeps_misuse _) (.check (keeps_misuse _) ?_))
  split
  · exact (keeps_waitFor _).bind fun _ => keeps_pure _
  · exact keeps_resultThen _ _ _ _

theorem keeps_execChtry (d : BitVec 6) (q : BitVec 3) (sc : BitVec 2) : KeepsMemory (execChtry d q sc) := by
  refine keepsMemory_runInstr ((keeps_operandsOf _ _ _).bind fun _ => (keeps_binding _).bind fun _ =>
    .check (keeps_misuse _) (.get fun _ hs => ?_))
  split
  next hp =>
    exact (keeps_set (canonical_popAt hs hp)).bind fun _ => (keeps_result _ _ _).bind fun _ => keeps_resultThen _ _ _ _
  · exact (keeps_result _ _ _).bind fun _ => keeps_resultThen _ _ _ _

theorem keeps_execChput (q : BitVec 3) (a : BitVec 6) (sc : BitVec 2) : KeepsMemory (execChput q a sc) :=
  keepsMemory_runInstr ((keeps_operandsOf _ _ _).bind fun _ => (keeps_binding _).bind fun _ => .check (keeps_misuse _)
    (.get fun _ _ => keeps_afterAcquire.bind fun _ => (keeps_derefCheck _ _ _ _).bind fun _ => .check (keeps_trap _ _)
      ((keeps_releaseFirst _).bind fun _ => (keeps_blockLocs _ _ _ _ _).bind fun _ => (keeps_readBlock _).bind fun _ =>
        .modState (fun _ hs => (canonical_putSlot hs _ _ _ _ _).getD (canonical_blockPush hs _ _ _ _ _)) (keeps_pure _))))

theorem keeps_execMsend (a b : BitVec 6) (sc : BitVec 2) : KeepsMemory (execMsend a b sc) :=
  keepsMemory_runInstr ((keeps_operand2 _ _ _).bind fun _ => .check (keeps_trap _ _) (keeps_self.bind fun _ => .get fun _ _ =>
    .check (keeps_trap _ _) ((keeps_releaseFirst _).bind fun _ => .check (keeps_waitFor _)
      ((keeps_post _ _ _).bind fun _ => keeps_pure _))))

/-! ### Shapes (R166 to R168) -/

theorem keeps_execShpLd (d : BitVec 4) (a : BitVec 6) (sc : BitVec 2) : KeepsMemory (execShpLd d a sc) :=
  keepsMemory_runInstr ((keeps_operand1 _ _).bind fun _ => (keeps_shapesFree _).bind fun _ => keeps_afterAcquire.bind fun _ =>
    (keeps_derefCheck _ _ _ _).bind fun _ => .check (keeps_trap _ _) (keeps_accessThen fun _ => .get fun _ _ =>
      (keeps_touchFor _ _ _).bind fun _ => keeps_modShape _ _))

theorem keeps_execShpSt (d : BitVec 4) (a : BitVec 6) (sc : BitVec 2) : KeepsMemory (execShpSt d a sc) :=
  keepsMemory_runInstr ((keeps_operand1 _ _).bind fun _ => (keeps_shapesFree _).bind fun _ => keeps_afterAcquire.bind fun _ =>
    (keeps_derefCheck _ _ _ _).bind fun _ => .check (keeps_trap _ _) ((keeps_spaceCheck _ _ _ _).bind fun _ =>
      keeps_getStrand.bind fun _ => .check (keeps_trap _ _) (keeps_accessThen fun _ => (keeps_touchFor _ _ _).bind fun _ =>
        keeps_modState fun _ hs => canonical_writeTagged (canonical_write hs _ _) _ _)))

theorem keeps_execShpGet (d : BitVec 6) (a : BitVec 4) (b : BitVec 6) (sc : BitVec 2) : KeepsMemory (execShpGet d a b sc) :=
  keepsMemory_runInstr ((keeps_operand1 _ _).bind fun _ => (keeps_shapesFree _).bind fun _ => keeps_getStrand.bind fun _ =>
    keeps_resultThen _ _ _ _)

theorem keeps_execShpSet (d : BitVec 4) (a b : BitVec 6) (sc : BitVec 2) : KeepsMemory (execShpSet d a b sc) :=
  keepsMemory_runInstr ((keeps_operand2 _ _ _).bind fun _ => (keeps_shapesFree _).bind fun _ => (keeps_modShape _ _).bind fun _ =>
    keeps_pure _)

theorem keeps_execShpAdv (d : BitVec 4) (a b : BitVec 6) (sc : BitVec 2) : KeepsMemory (execShpAdv d a b sc) :=
  keepsMemory_runInstr ((keeps_operand2 _ _ _).bind fun _ => (keeps_shapesFree _).bind fun _ => (keeps_modShape _ _).bind fun _ =>
    keeps_pure _)

theorem keeps_execShpMv (d a : BitVec 4) (sc : BitVec 2) : KeepsMemory (execShpMv d a sc) :=
  keepsMemory_runInstr ((keeps_operands _ _).bind fun _ => (keeps_shapesFree _).bind fun _ => keeps_getStrand.bind fun _ =>
    (keeps_modShape _ _).bind fun _ => keeps_pure _)

/-! ### Vector entries (R168 to R189, R240 to R245) -/

theorem keeps_vecPlain (e : VEntry) : KeepsMemory (vecPlain e) :=
  keepsMemory_runInstr ((keeps_vectorFirst _).bind fun _ => (keeps_operands _ _).bind fun _ => keeps_needEntry.bind fun _ =>
    (keeps_issueEntry _).bind fun _ => keeps_pure _)

theorem keeps_vecScalar (e : VEntry) (g : BitVec 6) : KeepsMemory (vecScalar e g) :=
  keepsMemory_runInstr ((keeps_vectorFirst _).bind fun _ => (keeps_operand1 _ _).bind fun _ => keeps_needEntry.bind fun _ =>
    (keeps_issueEntry _).bind fun _ => keeps_pure _)

theorem keeps_vecReduce (op : VOp) (d a : BitVec 4) (g : BitVec 6) : KeepsMemory (vecReduce op d a g) :=
  keepsMemory_runInstr ((keeps_vectorFirst _).bind fun _ => (keeps_operands _ _).bind fun _ => keeps_needEntry.bind fun _ =>
    (keeps_issueEntry _).bind fun _ => .check (keeps_hold _) (keeps_pure _))

theorem keeps_hResult (e : VEntry) (g : BitVec 6) : KeepsMemory (hResult e g) :=
  keepsMemory_runInstr ((keeps_vectorFirst _).bind fun _ => (keeps_operands _ _).bind fun _ => keeps_needEntry.bind fun _ =>
    (keeps_issueEntry _).bind fun _ => .check (keeps_hold _) (keeps_pure _))

theorem keeps_hMove (e : VEntry) (g : BitVec 6) (store : Bool) : KeepsMemory (hMove e g store) := by
  refine keepsMemory_runInstr ((keeps_vectorFirst _).bind fun _ => (keeps_operand1 _ _).bind fun _ => keeps_needEntry.bind fun _ =>
    (keeps_derefCheck _ _ _ _).bind fun _ => .check (keeps_trap _ _) (.get fun _ _ => ?_))
  dsimp only
  split
  · exact keeps_trapThen _ _ _
  · exact .check (keeps_trap _ _) ((keeps_issueEntry _).bind fun _ => keeps_pure _)

theorem keeps_execHsrch (a : BitVec 4) (b : BitVec 3) (g : BitVec 6) : KeepsMemory (execHsrch a b g) :=
  keepsMemory_runInstr ((keeps_vectorFirst _).bind fun _ => (keeps_operands _ _).bind fun _ => keeps_needEntry.bind fun _ =>
    (keeps_issueEntry _).bind fun _ => (keeps_hold _).bind fun _ => (keeps_hold _).bind fun _ => keeps_pure _)

theorem keeps_execHsrchk (a : BitVec 4) (b : BitVec 3) (g : BitVec 6) : KeepsMemory (execHsrchk a b g) :=
  keepsMemory_runInstr ((keeps_vectorFirst _).bind fun _ => (keeps_operands _ _).bind fun _ => keeps_needEntry.bind fun _ =>
    (keeps_issueEntry _).bind fun _ => (keeps_hold _).bind fun _ => (keeps_hold _).bind fun _ => (keeps_hold _).bind fun _ =>
      (keeps_hold _).bind fun _ => keeps_pure _)

theorem keeps_execHsrcht (d a : BitVec 4) (b : BitVec 3) (g : BitVec 6) : KeepsMemory (execHsrcht d a b g) :=
  keepsMemory_runInstr ((keeps_vectorFirst _).bind fun _ => (keeps_operand1 _ _).bind fun _ => keeps_needEntry.bind fun _ =>
    (keeps_issueEntry _).bind fun _ => (keeps_hold _).bind fun _ => keeps_pure _)

theorem keeps_execVloop (a b : BitVec 6) (sc : BitVec 2) : KeepsMemory (execVloop a b sc) :=
  keepsMemory_runInstr ((keeps_operand2 _ _ _).bind fun _ => keeps_getStrand.bind fun _ => .ite (keeps_pure _)
    (keeps_getCore.bind fun _ => .check (keeps_waitFor _) ((keeps_modStrand _).bind fun _ => keeps_pure _)))

theorem keeps_execVwait (sc : BitVec 2) : KeepsMemory (execVwait sc) :=
  keepsMemory_runInstr (keeps_takeRecorded.bind fun _ => .get fun _ _ => .check (keeps_waitFor _) (keeps_pure _))

theorem keeps_execVfence (sc : BitVec 2) : KeepsMemory (execVfence sc) :=
  keepsMemory_runInstr (keeps_takeRecorded.bind fun _ => .get fun _ _ => (keeps_modCore _).bind fun _ => keeps_pure _)

theorem keeps_execVstat (d : BitVec 6) (sc : BitVec 2) : KeepsMemory (execVstat d sc) :=
  keepsMemory_runInstr ((keeps_operands _ _).bind fun _ => keeps_getStrand.bind fun _ => keeps_getCore.bind fun _ =>
    .get fun _ _ => keeps_resultThen _ _ _ _)

theorem keeps_execVcancel (d : BitVec 6) (sc : BitVec 2) : KeepsMemory (execVcancel d sc) :=
  keepsMemory_runInstr ((keeps_operands _ _).bind fun _ => .get fun _ _ => (keeps_modCore _).bind fun _ =>
    (keeps_modStrand _).bind fun _ => keeps_resultThen _ _ _ _)

/-! ### Leases and tiles (R195 to R216) -/

theorem keeps_tileInstr (p : Pair) (ovw : Bool) (a b : BitVec 4) (g : BitVec 6) (k : BitVec 1) (op : BitVec 7) :
    KeepsMemory (tileInstr p ovw a b g k op) :=
  keepsMemory_runInstr ((keeps_operand1 _ _).bind fun _ => (keeps_shapesFree _).bind fun _ => (keeps_needLease _).bind fun _ =>
    (keeps_tileChecks _ _ _ _ _).bind fun _ => keeps_getStrand.bind fun _ => (keeps_acceptTile _).bind fun _ => keeps_pure _)

theorem keeps_execMlease (d : BitVec 6) (sc : BitVec 2) : KeepsMemory (execMlease d sc) :=
  keepsMemory_runInstr ((keeps_operands _ _).bind fun _ => keeps_getLease.bind fun _ => keeps_mySlot.bind fun _ =>
    .ite (keeps_resultThen _ _ _ _) (keeps_self.bind fun _ => .check (keeps_modLease _) (keeps_resultThen _ _ _ _)))

theorem keeps_execMwait (sc : BitVec 2) : KeepsMemory (execMwait sc) :=
  keepsMemory_runInstr (keeps_getLease.bind fun _ => keeps_mySlot.bind fun _ => .ite (keeps_pure _)
    (keeps_getStrand.bind fun _ => .check (keeps_waitFor _) (keeps_trap _ _)))

theorem keeps_execMrelease (sc : BitVec 2) : KeepsMemory (execMrelease sc) :=
  keepsMemory_runInstr (keeps_mySlot.bind fun _ => keeps_getCore.bind fun _ => (keeps_modLease _).bind fun _ => keeps_pure _)

theorem keeps_execMstat (d : BitVec 6) (sc : BitVec 2) : KeepsMemory (execMstat d sc) :=
  keepsMemory_runInstr ((keeps_operands _ _).bind fun _ => keeps_mySlot.bind fun _ => .get fun _ _ =>
    (keeps_modLease _).bind fun _ => keeps_resultThen _ _ _ _)

theorem keeps_execMmap (a b : BitVec 6) (sc : BitVec 2) : KeepsMemory (execMmap a b sc) :=
  keepsMemory_runInstr ((keeps_operand2 _ _ _).bind fun _ => (keeps_needLease _).bind fun _ => .check (keeps_trap _ _)
    ((keeps_modLease _).bind fun _ => keeps_pure _))

theorem keeps_execMepi (a : BitVec 6) (sc : BitVec 2) : KeepsMemory (execMepi a sc) :=
  keepsMemory_runInstr ((keeps_operand1 _ _).bind fun _ => (keeps_needLease _).bind fun _ => keeps_afterAcquire.bind fun _ =>
    (keeps_derefCheck _ _ _ _).bind fun _ => .check (keeps_trap _ _) ((keeps_blockLocs _ _ _ _ _).bind fun _ =>
      (keeps_readBlock _).bind fun _ => .check (keeps_trap _ _) ((keeps_modLease _).bind fun _ => keeps_pure _)))

theorem keeps_execMdrain (a : BitVec 6) (sc : BitVec 2) : KeepsMemory (execMdrain a sc) := by
  refine keepsMemory_runInstr ((keeps_operand1 _ _).bind fun _ => (keeps_needLease _).bind fun _ => keeps_getLease.bind fun _ => ?_)
  split
  · exact .check (keeps_trap _ _) ((keeps_acceptTile _).bind fun _ => keeps_pure _)
  · exact keeps_trap _ _
  · exact keeps_trap _ _

theorem keeps_execMclear (a : BitVec 6) (sc : BitVec 2) : KeepsMemory (execMclear a sc) :=
  keepsMemory_runInstr ((keeps_operand1 _ _).bind fun _ => (keeps_needLease _).bind fun _ => .ite (keeps_pure _)
    ((keeps_acceptTile _).bind fun _ => keeps_pure _))

theorem keeps_execMflags (d a : BitVec 6) (sc : BitVec 2) : KeepsMemory (execMflags d a sc) := by
  refine keepsMemory_runInstr ((keeps_operand1 _ _).bind fun _ => keeps_getStrand.bind fun _ => ?_)
  split
  · exact keeps_resultThen _ _ _ _
  · exact (keeps_waitFor _).bind fun _ => keeps_pure _
  · exact (keeps_needLease _).bind fun _ => .get fun _ _ => .check (keeps_waitFor _)
      (.modState (fun _ hs => hs) (keeps_resultThen _ _ _ _))

/-! ### A fetch that gives no instruction (R64, R88) -/

theorem keeps_execIllegalEncoding (word : BitVec 32) : KeepsMemory (execIllegalEncoding word) :=
  keepsMemory_runInstr (sc := 0) (keeps_trap _ _)

theorem keeps_execFetchCheckFailure (cause val : Nat) : KeepsMemory (execFetchCheckFailure cause val) := by
  intro s n hs h
  unfold execFetchCheckFailure at h
  split at h
  · cases h
  · split at h
    · cases h
      exact canonical_takeTrap hs _ _ _ _
    · cases h
      exact hs

end Sys2Proof.Machine
end

section
/-! PROOF. Every instruction word, and the outcomes of a fetch that gives none, keep memory canonical (log entry 56). -/
namespace Sys2Proof.Machine

/-- What a slot runs in its turn keeps memory canonical: by the meaning that the instruction shares, or by its own. -/
theorem keepsMemory_exec (i : Sys2Proof.Instr) (hi : instrInTurn i = true) : KeepsMemory (exec i) := by
  cases i
  case registerWrite | slotTakesRecord | spinBudgetExpiry | waitReleasePush | singleCorePreemption | coreResume
      | retainedRegisterRead | loadDataReturn | refusalReturn | accessAged | vectorEntryExecute | vectorEntryComplete
      | vectorEntryFailure | vloopPassStart | leaseGrant | leaseBudgetExpiry | leaseHolderDrained | tileBlockFetch
      | tileBlockDone | tileCommandComplete | tileCommandFailure | drainStart | drainRowWrite | channelPushAtPort
      | channelPopAtPort | messageAtPort | inboxDelivery | copyPut | copyGet | copyStridedPut | copyStridedGet
      | copyReducePut | copySegmentPut | copySegmentReduce | copyCommandComplete | statusPortRoom | readSnoop
      | ownershipSnoop | sectorEviction | engineSectorFinish | monitorFire | fabricWindowReached | syncComplete
      | boundaryAction | boundaryHoldExpiry | movedImageCopy | exchangeOpen | exchangeBeat | exchangeClose
      | barrierTimeout | wireEpisodeComplete | eventToInbox | heldEventPlaced | translationCompletion
      | pageRequestQueue | prgResponseSuccess | prgResponseInvalidRequest | prgResponseFailure | invalidateRequest
      | invalidationCompletion | pgctlReplay | priControlReset | kernelPlacement | kernelLoadingComplete
      | kernelDrained | notify | packetNop | packetLaunch | packetCopy | packetFenceWait | packetFenceSignal
      | packetTokenPut | packetTokenTake | packetIndirect | packetBarrierAnd | queueConditionHolds
      | launchCompletionWrite | quantumExpiry | tenureLimitExpiry | queueMap | queueUnmap | queueReset
      | tokenLinkBind | watchdogHang | partitionReset | rgctlRail | rgctlClk | rgctlRst | rgctlGate | gateClosed
      | scrubComplete | regionAssign | regionRelease | windowSet | windowClear | contextCreate | contextEnable
      | contextDestroy | fenceLift | hostGrantWrite | lockInterfaceRequest | startInterfaceRequest
      | stopInterfaceRequest | getDeviceInterfaceState | getDeviceInterfaceReport | spdmGetVersion
      | spdmGetCapabilities | spdmNegotiateAlgorithms | spdmGetDigests | spdmGetCertificate | spdmChallenge
      | spdmGetMeasurements | hostRequest | uciePortDown | hbhostWrite | hbctlEnable | hbctlResume
      | firmwareDeviceBeat | heartbeatPeriod | pcieInboundMailbox | pcieInboundUnsupported | pcieErrorCompletion
      | pcieCompletionTimeout | pcieLinkDown | apertureProgram | linkEnable | linkTrained | linkTrainingFail
      | laneDrop | linkRetrain | partnerBeatMiss | timeOffsetExceeded | linkDown | flitReceive | flitNak
      | flitAckTimeout | ptpSync | packageReset | romRecoveryImage | rollbackFuseSet | firmwareBeatMiss | pwrlimWrite
      | powerPacingTick | sramSingleBitError | sramDoubleBitError | linkCrcFailure | fatalError
      | postedStorePerformed | hostSnoopResponse | uciePortUp | pcieLinkUp | meshInterruptMessage
      | lossListRegistration | partitionJoin | qtabRegistration => exact absurd hi Bool.false_ne_true
  case clz | ctz | popc | brev | bswap | addi | andi | ori | xori | slti | sltni | slli | srli | srai | addwi =>
    exact keepsMemory_runInstr (keeps_wordOp1 _ _ _ _)
  case add | sub | and | or | xor | andn | orn | sll | srl | sra | rol | ror | slt | sltn | seq | sne | min | max
      | minn | maxn | sxt | zxt | addw | subw | mul | mulh | mulhn | mulhsn | div | divn | rem | remn | mulw | divw
      | divnw | remw | remnw => exact keepsMemory_runInstr (keeps_wordOp2 _ _ _ _ _)
  case madd | msub => exact keepsMemory_runInstr (keeps_wordOp3 _ _ _ _ _ _)
  case fsqrtF32 | fclassF32 | fnegF32 | fabsF32 => exact keepsMemory_runInstr (keeps_fpOp1 _ _ _ _ _)
  case faddF32 | fsubF32 | fmulF32 | fdivF32 | fminF32 | fmaxF32 | feqF32 | fltF32 | fleF32 | fsgnF32 =>
    exact keepsMemory_runInstr (keeps_fpOp2 _ _ _ _ _ _)
  case fmaddF32 | fmsubF32 => exact keepsMemory_runInstr (keeps_fpOp3 _ _ _ _ _)
  case fcvtF32I64 | fcvtF32N64 | fcvtI64F32 | fcvtN64F32 | fcvtF32Bf16 | fcvtBf16F32 | fcvtF32F16 | fcvtF16F32
      | fcvtF32E8 | fcvtE8F32 => exact keepsMemory_runInstr (keeps_cvtOp _ _ _ _ _)
  case cbase | clen | cperms | ctag | cclr | cmv | caddi => exact keepsMemory_runInstr (keeps_capOp1 _ _ _)
  case cperm | cseta | cadd | csub | ctest => exact keepsMemory_runInstr (keeps_capOp2 _ _ _ _)
  case ldI8 | ldN8 | ldI16 | ldN16 | ldI32 | ldN32 | ld64 | ld128 => exact keepsMemory_runInstr (keeps_load _ _ _ _ _)
  case st8 | st16 | st32 | st64 | st128 => exact keepsMemory_runInstr (keeps_store _ _ _ _)
  case amoSwap | amoAdd | amoAnd | amoOr | amoXor | amoMin | amoMax | amoMinn | amoMaxn | amoFaddF32 | amoFminF32
      | amoFmaxF32 => exact keepsMemory_runInstr (keeps_amo _ _ _ _ _ _ _)
  case redAdd | redFaddF32 | redMin | redMax => exact keepsMemory_runInstr (keeps_red _ _ _ _ _ _)
  case cas64 | cas128 => exact keepsMemory_runInstr (keeps_cas _ _ _ _ _ _)
  case lda64 | lda32 => exact keepsMemory_runInstr (keeps_loadAcquire _ _ _ _)
  case stl64 | stl32 => exact keepsMemory_runInstr (keeps_storeRelease _ _ _ _)
  case waitv64 | waitv32 => exact keepsMemory_runInstr (keeps_waitv _ _ _ _ _ _)
  case ldbI | ldbN | ldbpI | ldbpN => exact keepsMemory_runInstr (keeps_bitLoad _ _ _ _ _)
  case stb | stbp => exact keepsMemory_runInstr (keeps_bitStore _ _ _ _)
  case beq | bne | blt | bge | bltn | bgen => exact keepsMemory_runInstr (keeps_branch _ _ _ _)
  case xput | xget => exact keepsMemory_runInstr (keeps_transfer _ _ _ _)
  case fence | fenceRel => exact keepsMemory_runInstr (keeps_fenceAll _)
  case rdcyc | rdtime | rdret => exact keepsMemory_runInstr (keeps_readCounter _ _)
  case rett => exact keepsMemory_runInstr (keeps_returnFromTrap _)
  case vadd | vsub | vmul | vfma | vmin | vmax | vabs | vneg | vrcp | vrsqrt | vexp2 | vlog2 | vtanh | vsig | vand
      | vor | vxor | vcmpEq | vcmpLt | vcmpLe | vsel | vcopy | vcvt | vquant | vdequant | vgath | vscat | vscatAdd
      | vdotI8i8 | vdotaI8i8 | vdotI8t2 | vdotaI8t2 | vdotBfbf | vdotaBfbf | hbind | hthr | hclrH | hclrY | hmv
      | hnot => exact keeps_vecPlain _
  case vaddi | vsubi | vmuli | vshl | vshr | vsra | vsat | vfill | viota | vclamp | vdotF4f4 | vdotaF4f4 | vdotF6f6
      | vdotaF6f6 | vdotF6f4 | vdotaF6f4 | vdotE4e4 | vdotaE4e4 | vdotE5e5 | vdotaE5e5 | hperm | hbund =>
    exact keeps_vecScalar _ _
  case vrsum | vrmax | vrmin | vrargmax | vrsumsq => exact keeps_vecReduce _ _ _ _
  case hham | hpopc | hgetb => exact keeps_hResult _ _
  case hldH | hldY | hstH | hstY => exact keeps_hMove _ _ _
  case mtileF4f4 | mtileoF4f4 | mtileF6f6 | mtileoF6f6 | mtileF6f4 | mtileoF6f4 | mtileE4e4 | mtileoE4e4 | mtileE5e5
      | mtileoE5e5 | mtileI8i8 | mtileoI8i8 | mtileI8t2 | mtileoI8t2 | mtileBfbf | mtileoBfbf =>
    exact keeps_tileInstr _ _ _ _ _ _ _
  case brk => exact keeps_execBrk _
  case illegalEncoding => exact keeps_execIllegalEncoding _
  case fetchCheckFailure => exact keeps_execFetchCheckFailure _ _
  case lui => exact keeps_execLui _ _
  case auipc => exact keeps_execAuipc _ _
  case cbnd => exact keeps_execCbnd _ _ _ _
  case cbnde => exact keeps_execCbnde _ _ _ _
  case cbndi => exact keeps_execCbndi _ _ _
  case jal => exact keeps_execJal _ _
  case jalr => exact keeps_execJalr _ _ _
  case rep => exact keeps_execRep _ _ _ _
  case sget => exact keeps_execSget _ _
  case sset => exact keeps_execSset _ _
  case sswap => exact keeps_execSswap _ _ _
  case trap => exact keeps_execTrap _ _
  case ifence => exact keeps_execIfence _
  case halt => exact keeps_execHalt _
  case xlpf => exact keeps_execXlpf _ _ _
  case pgprobe => exact keeps_execPgprobe _ _ _
  case atcinv => exact keeps_execAtcinv _ _ _ _
  case spawn => exact keeps_execSpawn _ _ _ _
  case suspend => exact keeps_execSuspend _
  case yield => exact keeps_execYield _
  case retire => exact keeps_execRetire _
  case wake => exact keeps_execWake _ _ _
  case stid => exact keeps_execStid _ _
  case setpri => exact keeps_execSetpri _ _ _
  case sync => exact keeps_execSync _ _ _
  case xstart => exact keeps_execXstart _ _
  case xdone => exact keeps_execXdone _
  case grank => exact keeps_execGrank _ _ _
  case gsize => exact keeps_execGsize _ _ _
  case gmember => exact keeps_execGmember _ _ _ _
  case evwait => exact keeps_execEvwait _ _ _
  case evsig => exact keeps_execEvsig _ _ _
  case evsend => exact keeps_execEvsend _ _ _
  case barc => exact keeps_execBarc _ _ _ _
  case bara => exact keeps_execBara _ _ _
  case barw => exact keeps_execBarw _ _ _
  case barrc => exact keeps_execBarrc _ _ _
  case mtxlock => exact keeps_execMtxlock _ _
  case mtxfree => exact keeps_execMtxfree _ _ _
  case fenceAcq scope => exact keeps_execFenceAcq scope
  case fenceWin => exact keeps_execFenceWin
  case chbind => exact keeps_execChbind _ _ _ _
  case chfree => exact keeps_execChfree _ _ _
  case chcnt => exact keeps_execChcnt _ _ _
  case chspace => exact keeps_execChspace _ _ _
  case chpeek => exact keeps_execChpeek _ _ _ _
  case chtry => exact keeps_execChtry _ _ _
  case chput => exact keeps_execChput _ _ _
  case msend => exact keeps_execMsend _ _ _
  case shpLd => exact keeps_execShpLd _ _ _
  case shpSt => exact keeps_execShpSt _ _ _
  case shpGet => exact keeps_execShpGet _ _ _ _
  case shpSet => exact keeps_execShpSet _ _ _ _
  case shpAdv => exact keeps_execShpAdv _ _ _ _
  case shpMv => exact keeps_execShpMv _ _ _
  case vloop => exact keeps_execVloop _ _ _
  case vwait => exact keeps_execVwait _
  case vfence => exact keeps_execVfence _
  case vstat => exact keeps_execVstat _ _
  case vcancel => exact keeps_execVcancel _ _
  case mlease => exact keeps_execMlease _ _
  case mwait => exact keeps_execMwait _
  case mrelease => exact keeps_execMrelease _
  case mstat => exact keeps_execMstat _ _
  case mmap => exact keeps_execMmap _ _ _
  case mepi => exact keeps_execMepi _ _
  case mdrain => exact keeps_execMdrain _ _
  case mclear => exact keeps_execMclear _ _
  case mflags => exact keeps_execMflags _ _ _
  case hsrch => exact keeps_execHsrch _ _ _
  case hsrchk => exact keeps_execHsrchk _ _ _
  case hsrcht => exact keeps_execHsrcht _ _ _ _

/-- Settles O29: by the meaning of each instruction that a slot runs. -/
theorem instructionsKeepMemoryCanonical : Obligations.InstructionsKeepMemoryCanonical := by
  unfold Obligations.InstructionsKeepMemoryCanonical
  exact fun s n i hs hi h => keepsMemory_exec i hi s n hs h

end Sys2Proof.Machine
end

section
/-! PROOF. Branches, jumps and repetition (R131, R133 to R135): where they continue, and what stops them. -/
namespace Sys2Proof.Machine

/-! ### Targets (R131, R133) -/

/-- R59: an offset in instructions, in bytes. -/
theorem offset_eq {n : Nat} (imm : BitVec n) : imm.signExtend 64 <<< 2 = BitVec.ofInt 64 (imm.toInt * 4) := by
  rw [BitVec.shiftLeft_eq_mul_twoPow, BitVec.ofInt_mul]
  rfl

theorem outside_eq_false {c : TV} {x : Nat} :
    (decide ((x : Int) < capBase c) || decide (capTop c < (x : Int) + 4)) = false ↔ InBounds c x := by
  simp only [Bool.or_eq_false_iff, decide_eq_false_iff_not, not_lt, InBounds]

theorem outside_eq_true {c : TV} {x : Nat} :
    (decide ((x : Int) < capBase c) || decide (capTop c < (x : Int) + 4)) = true ↔ ¬ InBounds c x := by
  rw [← outside_eq_false, Bool.not_eq_false]

theorem jumpTarget_inside {s : State} {t : Strand} {x : Nat} (hc : s.cur = some t) (h : InBounds t.pcc x) :
    jumpTarget x s = .ok (setAddr t.pcc x) s := by
  simp only [jumpTarget, M.bind_apply, M.getStrand_apply hc, outside_eq_false.2 h, Bool.false_eq_true, if_false, M.pure_apply]

theorem jumpTarget_outside {s : State} {t : Strand} {x : Nat} (hc : s.cur = some t) (h : ¬ InBounds t.pcc x) :
    jumpTarget x s = .error (.trap 0x04 (BitVec.ofNat 64 x)) s := by
  simp only [jumpTarget, M.bind_apply, M.getStrand_apply hc, outside_eq_true.2 h, if_true, M.trap_apply]

/-! ### Branches (R131) -/

/-- A branch under a condition does what R131 says of it. -/
theorem branchesOn_of {i : BitVec 6 → BitVec 6 → BitVec 13 → Sys2Proof.Instr} {taken : Word → Word → Prop}
    {cond : Word → Word → Bool} (hi : ∀ a b imm s, exec (i a b imm) s = runInstr 0 (branch a b imm cond) s)
    (hcond : ∀ x y, cond x y = true ↔ taken x y) : BranchesOn i taken := by
  intro s s' t0 t a b imm x y target ht h hc htarget
  have hto : (t.pc + (imm13 imm <<< 2)).toNat = target := by rw [htarget, imm13, offset_eq]
  rw [hi]
  refine ⟨fun hn => runs_operand2 h ?_, fun hy hb => runs_operand2 h ?_, fun hy hb => traps_operand2 ht h ?_⟩
  · have hoff : cond x.lo y.lo = false := Bool.eq_false_iff.2 (mt (hcond _ _).1 hn)
    simp only [M.bind_apply, M.getStrand_apply hc, hoff, Bool.false_eq_true, if_false, M.pure_apply]
  · simp only [M.bind_apply, M.getStrand_apply hc, (hcond _ _).2 hy, if_true, hto, jumpTarget_inside hc hb, M.pure_apply]
  · simp only [M.bind_apply, M.getStrand_apply hc, (hcond _ _).2 hy, if_true, hto, jumpTarget_outside hc hb]

/-- Settles O12: each branch is the meaning `branch` of its comparison. -/
theorem branchesAreTakenUnderTheirConditions : Obligations.BranchesAreTakenUnderTheirConditions := by
  unfold Obligations.BranchesAreTakenUnderTheirConditions
  refine ⟨branchesOn_of (fun _ _ _ _ => rfl) fun x y => decide_eq_true_iff,
    branchesOn_of (fun _ _ _ _ => rfl) fun x y => decide_eq_true_iff,
    branchesOn_of (fun _ _ _ _ => rfl) fun x y => BitVec.slt_iff_toInt_lt,
    branchesOn_of (fun _ _ _ _ => rfl) fun x y => ?_,
    branchesOn_of (fun _ _ _ _ => rfl) fun x y => BitVec.ult_iff_toNat_lt,
    branchesOn_of (fun _ _ _ _ => rfl) fun x y => ?_, fun a b imm => ?words⟩
  case words =>
    simp only [List.forall_mem_cons, List.not_mem_nil, false_imp_iff, implies_true, and_true]
    exact ⟨rfl, rfl, rfl, rfl, rfl, rfl⟩
  · rw [Bool.not_eq_true', ← Bool.not_eq_true, BitVec.slt_iff_toInt_lt, not_lt]
  · rw [Bool.not_eq_true', ← Bool.not_eq_true, BitVec.ult_iff_toNat_lt, not_lt]

/-! ### Jumps (R133, R134) -/

/-- The same for an instruction that reads its operands as a list. -/
theorem traps_operands {s s' s2 : State} {t : Strand} {srcs dests : List (BitVec 6)} {vals : List TV} {f : List TV → M Flow}
    {sc c : Nat} {v : Word} (ht : Turn s t) (h : Reads s srcs dests vals s') (hf : f vals s' = .error (.trap c v) s2) :
    runInstr sc (operands srcs dests >>= f) s = traps c v t s2 := by
  obtain ⟨u, hu, hrun⟩ := traps_fields h hf
  rw [ht.unique hu]
  exact hrun

section
variable {s s' : State} {t0 t : Strand} {d a : BitVec 6}

theorem jal_jumps {imm : BitVec 19} {x : Nat} (h : Reads s [] [d] [] s') (hc : s'.cur = some t)
    (hx : x = (t.pc + BitVec.ofInt 64 (imm.toInt * 4)).toNat) (hb : InBounds t.pcc x) :
    exec (.jal d imm) s = jumps (setAddr t.pcc x) (s'.written d 1 (setAddr t.pcc (t.pc + 4#64).toNat)) :=
  runs_operands h (by
    simp only [M.bind_apply, M.getStrand_apply hc, offset_eq, ← hx, jumpTarget_inside hc hb, result_ok, M.pure_apply,
      Strand.link])

theorem jal_traps {imm : BitVec 19} {x : Nat} (ht : Turn s t0) (h : Reads s [] [d] [] s') (hc : s'.cur = some t)
    (hx : x = (t.pc + BitVec.ofInt 64 (imm.toInt * 4)).toNat) (hb : ¬ InBounds t.pcc x) :
    exec (.jal d imm) s = traps 0x04 (BitVec.ofNat 64 x) t0 s' :=
  traps_operands ht h (by
    simp only [M.bind_apply, M.getStrand_apply hc, offset_eq, ← hx, jumpTarget_outside hc hb])

/-- R134: the checks of the target capability in their order, then the link. -/
theorem jalr_cases {imm : BitVec 13} {c : TV} {x : Word} (ht : Turn s t0) (h : Reads s [a] [d] [c] s') (hc : s'.cur = some t)
    (hx : x = c.lo + imm.signExtend 64) :
    (c.tag = false → exec (.jalr d a imm) s = traps 0x03 x t0 s') ∧
    (c.tag = true → capHas c permExec = false → exec (.jalr d a imm) s = traps 0x05 x t0 s') ∧
    (c.tag = true → capHas c permExec = true → x.toNat % 4 ≠ 0 → exec (.jalr d a imm) s = traps 0x06 x t0 s') ∧
    (c.tag = true → capHas c permExec = true → x.toNat % 4 = 0 → ¬ InBounds c x.toNat →
      exec (.jalr d a imm) s = traps 0x04 x t0 s') ∧
    (c.tag = true → capHas c permExec = true → x.toNat % 4 = 0 → InBounds c x.toNat → exec (.jalr d a imm) s =
      jumps (setAddr c x.toNat) (s'.written d 1 (setAddr t.pcc (t.pc + 4#64).toNat))) := by
  refine ⟨fun htag => traps_operand1 ht h ?_, fun htag hp => traps_operand1 ht h ?_, fun htag hp ha => traps_operand1 ht h ?_,
    fun htag hp ha hb => traps_operand1 ht h ?_, fun htag hp ha hb => runs_operand1 h ?_⟩
  all_goals simp only [M.bind_apply, M.getStrand_apply hc, imm13, ← hx, htag, Bool.not_true, Bool.not_false, Bool.false_eq_true,
    if_true, if_false, M.trap_apply]
  all_goals simp only [hp, Bool.not_true, Bool.not_false, Bool.false_eq_true, if_true, if_false, M.bind_apply, M.trap_apply]
  · simp only [ha, ne_eq, not_false_eq_true, if_true, M.bind_apply, M.trap_apply]
  · simp only [ha, ne_eq, not_true_eq_false, if_false, outside_eq_true.2 hb, if_true, M.bind_apply, M.trap_apply]
  · simp only [ha, ne_eq, not_true_eq_false, outside_eq_false.2 hb, Bool.false_eq_true, if_false, M.bind_apply, result_ok,
      M.pure_apply, Strand.link]

/-! ### Repetition (R135) -/

/-- R135: `rep` skips its body or starts its first pass. -/
theorem rep_cases {mask n : BitVec 4} {stride : BitVec 5} {x : TV} {k : Nat} (h : Reads s [a] [] [x] s') (hc : s'.cur = some t)
    (hk : k = x.lo.toNat % 2 ^ 16) :
    (k = 0 → exec (.rep a mask n stride) s =
      jumps (setAddr t.pcc ((t.pc.toNat + 4 + 4 * (n.toNat + 1)) % 2 ^ 64)) s') ∧
    (k ≠ 0 → exec (.rep a mask n stride) s = jumps (setAddr t.pcc ((t.pc.toNat + 4) % 2 ^ 64))
      (s'.updStrand s'.turn.1 s'.turn.2 (fun u => { u with
        rep := some ⟨(t.pc.toNat + 4) % 2 ^ 64, n.toNat + 1, mask.toNat, stride.toNat, k, 0⟩ }))) := by
  subst hk
  refine ⟨fun h0 => runs_operand1 h ?_, fun h0 => runs_operand1 h ?_⟩
  · simp only [M.bind_apply, M.getStrand_apply hc, h0, if_true, M.pure_apply, Nat.mod_add_mod]
  · simp only [M.bind_apply, M.getStrand_apply hc, h0, if_false, M.modStrand_apply, M.pure_apply]

end

/-- R135: where a strand in a body stands after the instruction at index `i`. -/
theorem advance_inBody {t : Strand} {r : RepState} {i : Nat} (hr : t.rep = some r) (hpc : t.pc.toNat = r.start + 4 * i) :
    t.advance = if i + 1 < r.n then t.setPc (r.start + 4 * (i + 1))
      else if r.pass + 1 < r.count then { t.setPc r.start with rep := some { r with pass := r.pass + 1 } }
      else { t.setPc (r.start + 4 * r.n) with rep := none } := by
  have hi : (t.pc.toNat - r.start) / 4 = i := by omega
  have hnext : t.pc.toNat + 4 = r.start + 4 * (i + 1) := by omega
  simp only [Strand.advance, hr, hi, hnext]

/-- Settles O13: the jumps and `rep` by their checks in order, the strand in a body by the index of its instruction. -/
theorem jumpsAndRepeatsContinueAtTheirTargets : Obligations.JumpsAndRepeatsContinueAtTheirTargets := by
  unfold Obligations.JumpsAndRepeatsContinueAtTheirTargets
  refine ⟨⟨fun s s' t0 t d imm x ht h hc hx => ⟨jal_jumps h hc hx, jal_traps ht h hc hx⟩,
    fun s s' t0 t d a imm c x ht h hc hx => jalr_cases ht h hc hx,
    fun s s' t a mask n stride x k h hc hk => rep_cases h hc hk⟩, fun t r i hr hi hpc => ?_⟩
  rw [advance_inBody hr hpc]
  refine ⟨fun hin => if_pos hin, fun hlast hmore => ?_, fun hlast hdone => ?_⟩
  · rw [if_neg (by omega), if_pos hmore]
  · rw [if_neg (by omega), if_neg (by omega)]

end Sys2Proof.Machine
end

section
/-! PROOF. Strand instructions that act on records: `spawn` and `wake`, and the identity and priority of a strand (R126, R138,
R139, R141). -/
namespace Sys2Proof.Machine

/-! ### Groups and partitions stay (R126, R289) -/

theorem groups_snoopHost (s : State) (sec : Nat) (own : Bool) : (s.snoopHost sec own).groups = s.groups := by
  unfold State.snoopHost
  split <;> rfl

theorem groups_setSectors (sec : Nat) (z : State → Nat → Moesi) (l : List Nat) (s : State) :
    (l.foldl (fun (st : State) h => st.setSector sec h (z st h)) s).groups = s.groups :=
  foldl_keeps (P := State.groups) (f := fun (st : State) h => st.setSector sec h (z st h)) (fun _ _ => rfl) l s

theorem groups_dirRead (s : State) (sec agent : Nat) : (s.dirRead sec agent).groups = s.groups := by
  have hsnoop : (if agent = hostCache then s else s.snoopHost sec false).groups = s.groups := by
    split
    · rfl
    · exact groups_snoopHost s sec false
  unfold State.dirRead
  split
  · exact (groups_setSectors sec (fun st h => (st.sectorIn sec h).readSnoop) _ _).trans hsnoop
  · rfl

theorem groups_dirWrite (s : State) (sec agent : Nat) : (s.dirWrite sec agent).groups = s.groups := by
  have hsnoop : (if agent = hostCache then s else s.snoopHost sec true).groups = s.groups := by
    split
    · rfl
    · exact groups_snoopHost s sec true
  have hridge : ∀ m : State, (m.noteRidge sec).groups = m.groups := fun m => by
    unfold State.noteRidge
    split <;> rfl
  exact ((groups_setSectors sec (fun _ _ => .i) _ _).trans (hridge _)).trans hsnoop

theorem groups_dirPeek (s : State) (sec : Nat) : (s.dirPeek sec).groups = s.groups :=
  (groups_setSectors sec (fun st h => (st.sectorIn sec h).readSnoop) _ _).trans (groups_snoopHost s sec false)

/-- R289: the directory's part of an access changes no group. -/
theorem groups_touch (s : State) (cl a n : Nat) (write : Bool) : (s.touch cl a n write).groups = s.groups := by
  unfold State.touch
  split
  · rfl
  · refine foldl_keeps (P := State.groups) (fun s sec => ?_) _ s
    split
    · split
      · exact groups_snoopHost s sec true
      · exact groups_dirPeek s sec
    · split
      · exact groups_dirWrite s sec cl
      · exact groups_dirRead s sec cl

theorem partOfCore_touch (s : State) (cl a n k : Nat) (write : Bool) : (s.touch cl a n write).partOfCore k = s.partOfCore k := by
  simp only [State.partOfCore, State.region, (dirKeeps_touch s cl a n write).regions]

section
variable {s n : State} (h : MemOnly s n)
include h

theorem MemOnly.turn_eq : n.turn = s.turn := (congrArg State.turn h :)

theorem MemOnly.kernels_eq : n.kernels = s.kernels := (congrArg State.kernels h :)

theorem MemOnly.partOfCore_eq (k : Nat) : n.partOfCore k = s.partOfCore k := (congrArg (State.partOfCore · k) h :)

theorem MemOnly.group_eq (p gid : Nat) : n.group p gid = s.group p gid := (congrArg (State.group · p gid) h :)

theorem MemOnly.strand_eq (k sl : Nat) : n.strand k sl = s.strand k sl := (congrArg (State.strand · k sl) h :)

end

/-! ### The pool (R126) -/

/-- R126: the pointer stands last in its group's pool. -/
theorem group_pushPool {s : State} {p gid : Nat} {g : Group} (h : s.group p gid = some g) (x pri : Nat) :
    (s.pushPool p gid x pri).group p gid = some (g.push x pri) := by
  simp only [State.pushPool, h]
  refine group_updGroup_same ?_ _
  rw [(memOnly_write _ _ _).group_eq, State.group, groups_touch]
  exact h

theorem partOfCore_pushPool (s : State) (p gid x pri k : Nat) : (s.pushPool p gid x pri).partOfCore k = s.partOfCore k := by
  unfold State.pushPool
  split
  · rfl
  · rw [partOfCore_updGroup, (memOnly_write _ _ _).partOfCore_eq, partOfCore_touch]

theorem pushPoolOn_part {s : State} {k p : Nat} (h : s.partOfCore k = some p) (gid x pri : Nat) :
    s.pushPoolOn k gid x pri = s.pushPool p gid x pri := by
  simp only [State.pushPoolOn, h]

/-! ### Reaching a record (R138, R139, R290) -/

/-- R138, R139: the capability passes the checks of a record's address for the permissions, and the record lies at location
`loc`, which no engine holds and to which nothing sent before is on its way. -/
structure RecordAt (s : State) (c : TV) (perms loc : Nat) : Prop where
  tag : c.tag = true
  perms : capHas c perms = true
  aligned : capAddr c % 64 = 0
  window : capAddr c / 2 ^ 60 = 9
  base : capBase c ≤ (capAddr c : Int)
  top : (capAddr c : Int) + 64 ≤ capTop c
  place : s.place s.turn.1 (capAddr c) 64 true false = .here loc
  free : s.accessHeld s.turn.1 loc 64 true = false

section
variable {s : State} {c : TV} {perms loc : Nat} (h : RecordAt s c perms loc)
include h

theorem recordCheck_ok : recordCheck c perms s = .ok () s := by
  have hbounds : (decide (capAddr c / 2 ^ 60 ≠ 9) || decide ((capAddr c : Int) < capBase c) ||
      decide (capTop c < (capAddr c : Int) + 64)) = false := by
    simp only [Bool.or_eq_false_iff, decide_eq_false_iff_not, not_lt, not_not]
    exact ⟨⟨h.window, h.base⟩, h.top⟩
  simp only [recordCheck, M.bind_apply, M.get_apply, h.tag, h.perms, h.aligned, hbounds, h.place, Bool.not_true,
    Bool.false_eq_true, ne_eq, not_true_eq_false, if_false, M.pure_apply]

theorem recordHome_ok : recordHome (capAddr c) s = .ok loc s := by
  simp only [recordHome, M.bind_apply, M.get_apply, h.place, h.free, Bool.false_eq_true, if_false, M.pure_apply]

end

/-! ### `spawn` (R138) -/

section
variable {s s' : State} {t : Strand} {g : Group} {p loc : Nat} {d a b : BitVec 6} {sc : BitVec 2} {c e : TV}

/-- R138: what a `spawn` does to the state after its operands, where the group has room. -/
def State.spawned (s : State) (t : Strand) (g : Group) (p loc : Nat) (c e : TV) : State :=
  (((s.touch (clusterOf s.turn.1) loc 16 true).writeRecordWords loc (t.child g.nextId) e.lo.toNat 1 false).pushPool p
    t.gid (capAddr c) t.pri).updGroup p t.gid (fun x =>
      { x with nextId := (g.nextId + 1) % 0xFFFFFFFF, live := x.live + 1 })

/-- R138: `spawn` where it issues: at the limit of the group, and below it. -/
theorem spawn_runs (h : Reads s [a, b] [d] [c, e] s') (hc : Clear s') (hrel : Released s') (ht : s'.cur = some t)
    (hp : s'.partOfCore s'.turn.1 = some p) (hg : s'.group p t.gid = some g)
    (hr : RecordAt s' c (permLoad ||| permStore ||| permStoreCap) loc) (hpool : s'.poolHeld g.part g.gid = false) :
    (g.live = g.limit → exec (.spawn d a b sc) s = gives sc.toNat d 0 (TV.ofNat 0xFFFFFFFF) s') ∧
    (g.live ≠ g.limit → exec (.spawn d a b sc) s = gives sc.toNat d 0 (TV.ofNat g.nextId) (s'.spawned t g p loc c e)) := by
  have hon : s'.groupOn s'.turn.1 t.gid = some g := by rw [State.groupOn, hp]; exact hg
  have hact : ((((s'.touch (clusterOf s'.turn.1) loc 16 true).writeRecordWords loc (t.child g.nextId) e.lo.toNat 1
      false).pushPoolOn s'.turn.1 t.gid (capAddr c) t.pri).updGroupOn s'.turn.1 t.gid (fun x =>
        { x with nextId := (g.nextId + 1) % 0xFFFFFFFF, live := x.live + 1 })) = s'.spawned t g p loc c e := by
    have hw : ((s'.touch (clusterOf s'.turn.1) loc 16 true).writeRecordWords loc (t.child g.nextId) e.lo.toNat 1
        false).partOfCore s'.turn.1 = some p := by
      rw [State.writeRecordWords, (memOnly_write _ _ _).partOfCore_eq, partOfCore_touch, hp]
    rw [pushPoolOn_part hw, updGroupOn_part (by rw [partOfCore_pushPool, hw]), State.spawned]
  refine ⟨fun hl => runs_operand2 h ?_, fun hl => runs_operand2 h ?_⟩
  · simp only [M.bind_apply, recordCheck_ok hr, afterAcquire_clear hc, releaseFirst_ok (fun _ => hrel), M.getStrand_apply ht,
      M.get_apply, hon, hl, if_true, result_ok, M.pure_apply]
  · simp only [M.bind_apply, recordCheck_ok hr, afterAcquire_clear hc, releaseFirst_ok (fun _ => hrel), M.getStrand_apply ht,
      M.get_apply, hon, hl, if_false, recordHome_ok hr, hpool, Bool.false_eq_true, touchFor, M.modState_apply, hact, result_ok,
      M.pure_apply]

end

/-! ### `wake` (R139) -/

/-- R139: `wake` by the group and the state that the record names. -/
theorem wake_runs {s s' : State} {g : Group} {p loc w : Nat} {d a : BitVec 6} {sc : BitVec 2} {c : TV} (h : Reads s [a] [d] [c] s')
    (hc : Clear s') (hrel : Released s') (hp : s'.partOfCore s'.turn.1 = some p) (hr : RecordAt s' c (permLoad ||| permStore) loc)
    (hw : w = s'.read (loc + 8) 8) (hpool : s'.poolHeld p (w / 2 ^ 32 % 2 ^ 16) = false) :
    (s'.wakeGroup s'.turn.1 (w / 2 ^ 32 % 2 ^ 16) = none → exec (.wake d a sc) s = gives sc.toNat d 0 (TV.ofNat 3) s') ∧
    (s'.wakeGroup s'.turn.1 (w / 2 ^ 32 % 2 ^ 16) = some g → w / 2 ^ 52 % 16 = 3 → exec (.wake d a sc) s =
      gives sc.toNat d 0 (TV.ofNat 1) ((s'.touch (clusterOf s'.turn.1) loc 16 true).readyRecord p (capAddr c))) ∧
    (s'.wakeGroup s'.turn.1 (w / 2 ^ 32 % 2 ^ 16) = some g → w / 2 ^ 52 % 16 ≤ 2 → exec (.wake d a sc) s =
      gives sc.toNat d 0 (TV.ofNat 0) ((s'.touch (clusterOf s'.turn.1) loc 16 true).write loc
        (natBytes 8 ((s'.touch (clusterOf s'.turn.1) loc 16 true).read loc 8 ||| 2 ^ 57)))) ∧
    (s'.wakeGroup s'.turn.1 (w / 2 ^ 32 % 2 ^ 16) = some g → 3 < w / 2 ^ 52 % 16 →
      exec (.wake d a sc) s = gives sc.toNat d 0 (TV.ofNat 2) s') := by
  subst hw
  refine ⟨fun hn => runs_operand1 h ?_, fun hg hst => runs_operand1 h ?_, fun hg hst => runs_operand1 h ?_,
    fun hg hst => runs_operand1 h ?_⟩
  all_goals simp only [M.bind_apply, recordCheck_ok hr, afterAcquire_clear hc, releaseFirst_ok (fun _ => hrel), M.get_apply,
    recordHome_ok hr, hp, Option.getD_some]
  · simp only [hn, Option.isNone_none, if_true, M.bind_apply, result_ok, M.pure_apply]
  · simp only [hg, Option.isNone_some, Bool.false_eq_true, if_false, hst, if_true, hpool, M.bind_apply, touchFor,
      M.modState_apply, result_ok, M.pure_apply]
  · have h3 : ¬ (s'.read (loc + 8) 8 / 2 ^ 52 % 16 = 3) := by omega
    simp only [hg, Option.isNone_some, Bool.false_eq_true, if_false, h3, hst, if_true, M.bind_apply, touchFor, M.modState_apply,
      result_ok, M.pure_apply]
    rfl
  · have h3 : ¬ (s'.read (loc + 8) 8 / 2 ^ 52 % 16 = 3) := by omega
    have h2 : ¬ (s'.read (loc + 8) 8 / 2 ^ 52 % 16 ≤ 2) := by omega
    simp only [hg, Option.isNone_some, Bool.false_eq_true, if_false, h3, h2, result_ok, M.pure_apply, M.bind_apply]

/-! ### `stid` and `setpri` (R141) -/

theorem stid_runs {s s' : State} {t : Strand} {d : BitVec 6} {sc : BitVec 2} (h : Reads s [] [d] [] s') (ht : s'.cur = some t) :
    exec (.stid d sc) s =
      gives sc.toNat d 1 (TV.ofNat (t.sid.toNat + t.gid % 2 ^ 16 * 2 ^ 32 + t.pri % 16 * 2 ^ 48)) s' :=
  runs_operands h (by simp only [M.bind_apply, M.getStrand_apply ht, result_ok, M.pure_apply])

theorem setpri_runs {s s' : State} {t : Strand} {d a : BitVec 6} {sc : BitVec 2} {x : TV} (h : Reads s [a] [d] [x] s')
    (ht : s'.cur = some t) : exec (.setpri d a sc) s = gives sc.toNat d 1 (TV.ofNat (min x.lo.toNat t.ceiling))
      (s'.setStrand s'.turn.1 s'.turn.2 { t with pri := min x.lo.toNat t.ceiling }) :=
  runs_operand1 h (by
    simp only [M.bind_apply, M.getStrand_apply ht, M.modStrand_apply, updStrand_eq ht, result_ok, M.pure_apply])

/-- Settles O25: `spawn` and `wake` reach the record that their capability names, and act on it by its group and state. -/
theorem strandFormsActOnRecords : Obligations.StrandFormsActOnRecords := by
  unfold Obligations.StrandFormsActOnRecords
  refine ⟨⟨?spawn, fun s g p gid x pri hg => ⟨_, group_pushPool hg x pri, rfl, rfl⟩, ?wake⟩,
    fun s s' t d sc h ht => stid_runs h ht, fun s s' t d a sc x h ht => setpri_runs h ht⟩
  case spawn =>
    intro s s' t g p d a b sc c e loc h hc hrel ht hp hg htag hperm ha h9 hbase htop hplace hfree hpool
    exact spawn_runs h hc hrel ht hp hg ⟨htag, hperm, ha, h9, hbase, htop, hplace, hfree⟩ hpool
  case wake =>
    intro s s' g p d a sc c loc w h hc hrel hp htag hperm ha h9 hbase htop hplace hfree hw hpool
    exact wake_runs h hc hrel hp ⟨htag, hperm, ha, h9, hbase, htop, hplace, hfree⟩ hw hpool

end Sys2Proof.Machine
end

section
/-! PROOF. Suspension points (R122 to R124, R140): what they wait for, what leaves the slot, and what stays. -/
namespace Sys2Proof.Machine

/-! ### Nothing holds a suspension point back (R123, R175, R255, R290, R314) -/

/-- R123, R175, R255, R290, R314: the strand `t`, which has the turn, passes a suspension point. -/
structure MaySuspend (s : State) (t : Strand) : Prop where
  cur : s.cur = some t
  fail : t.seqFail = none
  entries : s.hasEntries s.turn.1 s.turn.2 = false
  busy : t.busy = []
  phase : (s.core s.turn.1).exchanging = false
  half : t.halfSlot = none
  free : s.recordHeld s.turn.1 t = false

theorem suspensionPoint_ok {s : State} {t : Strand} (h : MaySuspend s t) : suspensionPoint s = .ok () s := by
  simp only [suspensionPoint, M.bind_apply, M.getStrand_apply h.cur, M.get_apply, h.fail, h.entries, h.busy, h.phase, h.half,
    h.free, List.isEmpty_nil, Bool.not_true, Bool.or_self, Bool.false_eq_true, if_false, M.pure_apply]

/-! ### The strand in the slot and its group (R254) -/

/-- A change of a core that leaves its slots. -/
theorem strand_updCore {f : Core → Core} (hf : ∀ c, (f c).slots = c.slots) (s : State) (k j sl : Nat) :
    (s.updCore k f).strand j sl = s.strand j sl := by
  by_cases hj : j = k
  · subst hj
    simp only [State.strand, core_updCore_same, hf]
  · simp only [State.strand, core_updCore_ne hj]

/-- R254: released bindings leave every strand as it is. -/
theorem strand_unbindAll (s : State) (k sl j r : Nat) : (s.unbindAll k sl).strand j r = s.strand j r := by
  have hend : ∀ (m : State) (b : QBind), (m.releaseEnd b false).strand j r = m.strand j r := fun m b => by
    unfold State.releaseEnd
    split
    · rw [if_neg Bool.false_ne_true]
      split
      · unfold State.setChan
        refine strand_updCore ?_ _ _ _ _
        exact fun _ => rfl
      · rfl
    · rfl
  unfold State.unbindAll
  split
  · exact foldl_keeps (P := fun m : State => m.strand j r)
      (f := fun (st : State) (e : Nat × QBind) => st.releaseEnd e.2 false) (fun m e => hend m e.2) _ s
  · rfl

theorem live_leaving {s : State} {k sl p : Nat} {t : Strand} {g : Group} (hp : s.partOfCore k = some p)
    (hg : s.group p t.gid = some g) : ∃ g', (s.leaving k sl t).group p t.gid = some g' ∧ g'.live = g.live := by
  have hu := sameButCores_unbindAll s k sl
  have hpart : (s.unbindAll k sl).partOfCore k = some p := (congrArg (State.partOfCore · k) hu :).trans hp
  have hgroup : (s.unbindAll k sl).group p t.gid = some g := (congrArg (State.group · p t.gid) hu :).trans hg
  unfold State.leaving
  split
  · rw [updGroupOn_part hpart]
    exact ⟨_, group_updGroup_same hgroup _, rfl⟩
  · exact ⟨g, hgroup, rfl⟩

/-! ### Leaving the slot (R122, R124) -/

theorem strand_clearSlot (s : State) (k sl : Nat) : (s.clearSlot k sl).strand k sl = none := by
  simp only [State.strand, State.clearSlot, core_updCore_same, kfind_kdel_same]

/-- The state with the record of a strand that leaves its slot saved; of one that retires, words 0 and 1 alone. -/
def State.recordSaved (s : State) (k sl : Nat) (t : Strand) (pc state : Nat) : State :=
  if state = 4 then
    (s.leaving k sl t).writeRecordWords (s.recordLoc k t) t.settleAll pc state (s.wpend (s.recordLoc k t))
  else (s.leaving k sl t).saveRecord (s.recordLoc k t) t.settleAll pc state (s.wpend (s.recordLoc k t))

theorem memOnly_recordSaved (s : State) (k sl : Nat) (t : Strand) (pc state : Nat) :
    MemOnly (s.leaving k sl t) (s.recordSaved k sl t pc state) := by
  unfold State.recordSaved
  split
  · exact memOnly_write _ _ _
  · exact memOnly_saveRecord _ _ _ _ _ _

theorem leaveSlot_eq {s : State} {k sl p : Nat} {t : Strand} (hs : s.strand k sl = some t) (hp : s.partOfCore k = some p)
    (pc state : Nat) : s.leaveSlot k sl pc state = (s.recordSaved k sl t pc state).clearSlot k sl := by
  cases hf : t.fabWindow <;>
    simp only [State.leaveSlot, hs, hp, hf, Option.isNone_some, Bool.false_eq_true, if_false, State.recordSaved, State.leaving]

section
variable {s : State} {k sl p : Nat} {t : Strand} (hs : s.strand k sl = some t) (hp : s.partOfCore k = some p)
include hs hp

theorem partOfCore_leaveSlot (pc state : Nat) : (s.leaveSlot k sl pc state).partOfCore k = some p := by
  rw [leaveSlot_eq hs hp]
  exact ((memOnly_recordSaved s k sl t pc state).partOfCore_eq k).trans (leaving_keeps hp).1

theorem strand_leaveSlot (pc state : Nat) : (s.leaveSlot k sl pc state).strand k sl = none := by
  rw [leaveSlot_eq hs hp, strand_clearSlot]

theorem live_leaveSlot {g : Group} (hg : s.group p t.gid = some g) (pc state : Nat) :
    ∃ g', (s.leaveSlot k sl pc state).group p t.gid = some g' ∧ g'.live = g.live := by
  obtain ⟨g', hg', hl⟩ := live_leaving (sl := sl) hp hg
  rw [leaveSlot_eq hs hp]
  exact ⟨g', ((memOnly_recordSaved s k sl t pc state).group_eq p t.gid).trans hg', hl⟩

/-- R122: the record of a strand that retires holds state *retired*. -/
theorem state_leaveSlot_retired (pc : Nat) : (s.leaveSlot k sl pc 4).read (s.recordLoc k t + 8) 8 / 2 ^ 52 % 16 = 4 := by
  have hread : (s.leaveSlot k sl pc 4).read (s.recordLoc k t + 8) 8 =
      (s.recordSaved k sl t pc 4).read (s.recordLoc k t + 8) 8 := by
    rw [leaveSlot_eq hs hp]
    exact read_of_mem (updCore_mem _ _ _) _ _
  rw [hread, State.recordSaved, if_pos rfl, State.writeRecordWords, (read_write_words _ _ _ _).2, recordWord1_state]

end

/-! ### A wake taken (R123, R140) -/

/-- R140: `wpend` of the record at `loc` is cleared, and the bindings of the strand that has the turn are released. -/
def State.woken (s : State) (loc : Nat) : State :=
  (s.unbindAll s.turn.1 s.turn.2).write loc (natBytes 8 ((s.unbindAll s.turn.1 s.turn.2).read loc 8 - 2 ^ 57))

/-- R123: the strand past a suspension point at which it keeps its slot. -/
def Strand.resumed (t : Strand) : Strand := { t.settleAll.reset with wait := none }

theorem memOnly_woken (s : State) (loc : Nat) : MemOnly (s.unbindAll s.turn.1 s.turn.2) (s.woken loc) := memOnly_write _ _ _

theorem turn_woken (s : State) (loc : Nat) : (s.woken loc).turn = s.turn :=
  (memOnly_woken s loc).turn_eq.trans (sameButCores_unbindAll s _ _).turn_eq

theorem strand_woken (s : State) (loc k sl : Nat) : (s.woken loc).strand k sl = s.strand k sl :=
  ((memOnly_woken s loc).strand_eq k sl).trans (strand_unbindAll s _ _ k sl)

theorem updStrand_woken {s : State} {t : Strand} (h : s.cur = some t) (loc : Nat) (f : Strand → Strand) :
    (s.woken loc).updStrand (s.woken loc).turn.1 (s.woken loc).turn.2 f = (s.woken loc).setStrand s.turn.1 s.turn.2 (f t) := by
  rw [turn_woken]
  exact updStrand_eq ((strand_woken s loc _ _).trans h) f

theorem wpend_woken {s : State} {loc : Nat} (h : s.wpend loc = true) : (s.woken loc).wpend loc = false := by
  have hmem : (s.unbindAll s.turn.1 s.turn.2).mem = s.mem := (congrArg State.mem (sameButCores_unbindAll s _ _) :)
  simp only [State.wpend, decide_eq_true_eq] at h
  simp only [State.wpend, State.woken, read_write, read_of_mem hmem, decide_eq_false_iff_not]
  omega

/-- R123: g1 to g3 stay, the others are 0. -/
theorem getG_reset (t : Strand) {r : Nat} (hr : r ≠ 0) : t.reset.getG r =
    if r = 1 then t.getG 1 else if r = 2 then t.getG 2 else if r = 3 then t.getG 3 else TV.zero := by
  rw [Strand.getG, if_neg hr]
  exact kget_saved _ _ _ r

theorem getG_resumed (t : Strand) (now sc : Nat) :
    (t.resumed.advance.issued now sc).getG 1 = t.settleAll.getG 1 ∧
    (t.resumed.advance.issued now sc).getG 2 = t.settleAll.getG 2 ∧
    (t.resumed.advance.issued now sc).getG 3 = t.settleAll.getG 3 ∧
    ∀ r, 4 ≤ r → (t.resumed.advance.issued now sc).getG r = TV.zero := by
  have hg : (t.resumed.advance.issued now sc).g = t.settleAll.reset.g := rfl
  have hreset : ∀ r, (t.resumed.advance.issued now sc).getG r = t.settleAll.reset.getG r := fun r => by
    rw [Strand.getG, hg, Strand.getG]
  simp only [hreset]
  refine ⟨?_, ?_, ?_, fun r hr => ?_⟩
  · rw [getG_reset _ (by decide), if_pos rfl]
  · rw [getG_reset _ (by decide), if_neg (by decide), if_pos rfl]
  · rw [getG_reset _ (by decide), if_neg (by decide), if_neg (by decide), if_pos rfl]
  · rw [getG_reset _ (by omega), if_neg (by omega), if_neg (by omega), if_neg (by omega)]

theorem settleAll_pcc (t : Strand) : t.settleAll.pcc = t.pcc := (congrArg Strand.pcc (putResults_rest t.pend t) :)

theorem settleAll_pc (t : Strand) : t.settleAll.pc = t.pc := by rw [Strand.pc, settleAll_pcc, Strand.pc]

/-- R57: a strand that resumes goes on with the next instruction. -/
theorem resumed_pc (t : Strand) (now sc : Nat) : (t.resumed.advance.issued now sc).pc = t.pc + 4#64 := by
  have hpc : (t.resumed.advance.issued now sc).pc = BitVec.ofNat 64 ((t.settleAll.pc.toNat + 4) % 2 ^ 64) := setAddr_lo _ _
  rw [hpc, settleAll_pc]
  refine BitVec.eq_of_toNat_eq ?_
  rw [BitVec.toNat_ofNat, Nat.mod_mod, BitVec.toNat_add]
  rfl

/-! ### A strand counted out (R122, R140, R366) -/

/-- Only the kernels differ. -/
def KernelsOnly (s n : State) : Prop := { n with kernels := s.kernels } = s

theorem kernelsOnly_noteDrained (s : State) (n : Nat) : KernelsOnly s (s.noteDrained n) := by
  unfold State.noteDrained State.updKernel
  split
  · rfl
  · split
    · split <;> rfl
    · rfl

section
variable {s n : State} (h : KernelsOnly s n)
include h

theorem KernelsOnly.mem_eq : n.mem = s.mem := (congrArg State.mem h :)

theorem KernelsOnly.group_eq (p gid : Nat) : n.group p gid = s.group p gid := (congrArg (State.group · p gid) h :)

theorem KernelsOnly.strand_eq (k sl : Nat) : n.strand k sl = s.strand k sl := (congrArg (State.strand · k sl) h :)

end

theorem strand_updGroup (s : State) (p gid k sl : Nat) (f : Group → Group) :
    (s.updGroup p gid f).strand k sl = s.strand k sl := by
  simp only [State.strand, State.core, cores_updGroup]

/-! R57: an instruction after which its strand is gone counts as retired, and nothing else changes. -/

theorem finish_left_mem (sc : Nat) (s : State) : (finish .left sc s).mem = s.mem := rfl

theorem finish_left_group (sc : Nat) (s : State) (p gid : Nat) : (finish .left sc s).group p gid = s.group p gid := rfl

theorem finish_left_strand (sc : Nat) (s : State) (k sl : Nat) : (finish .left sc s).strand k sl = s.strand k sl := by
  refine strand_updCore ?_ s s.turn.1 k sl
  exact fun _ => rfl

/-- R140: the strand that has the turn has ended, and its group counts it out. -/
def State.countedOut (s : State) (t : Strand) (p : Nat) : State :=
  (s.leaveSlot s.turn.1 s.turn.2 t.pc.toNat 4).updGroup p t.gid (fun g => { g with live := g.live - 1 })

/-! ### The three forms (R140) -/

section
variable {s : State} {t u : Strand} {sc : BitVec 2} {p : Nat} (ht : Turn s t)
  (hp : s.partOfCore s.turn.1 = some p) (hm : MaySuspend (s.settled t) u)
include ht hp hm

theorem yield_runs (hpool : (s.settled t).poolHeld p u.gid = false) : exec (.yield sc) s =
    .next (finish .left sc.toNat ((((s.settled t).leaveSlot s.turn.1 s.turn.2 (u.pc.toNat + 4) 1).pushPool p
      u.gid u.record u.pri).updGroup p u.gid (·.delay u.record (s.now + 1 + sc.toNat)))) := by
  have hp' : (s.settled t).partOfCore (s.settled t).turn.1 = some p := hp
  have hleft := partOfCore_leaveSlot hm.cur hp' (u.pc.toNat + 4) 1
  refine runInstr_ok ht ?_
  simp only [M.bind_apply, suspensionPoint_ok hm, M.getStrand_apply hm.cur, M.get_apply, hp', Option.any_some, hpool,
    Bool.false_eq_true, if_false, M.set_apply, M.pure_apply, pushPoolOn_part hleft,
    updGroupOn_part ((partOfCore_pushPool _ _ _ _ _ _).trans hleft)]
  rfl

/-- R140: no wake is pending: the strand leaves its slot. -/
theorem suspend_leaves (hw : (s.settled t).wpend ((s.settled t).recordLoc s.turn.1 u) = false) : exec (.suspend sc) s =
    .next (finish .left sc.toNat (((s.settled t).leaveSlot s.turn.1 s.turn.2 (u.pc.toNat + 4) 3).updGroup p u.gid
      (·.delay u.record (s.now + 1 + sc.toNat)))) := by
  have hp' : (s.settled t).partOfCore (s.settled t).turn.1 = some p := hp
  have hw' : (s.settled t).wpend ((s.settled t).recordLoc (s.settled t).turn.1 u) = false := hw
  refine runInstr_ok ht ?_
  simp only [M.bind_apply, suspensionPoint_ok hm, M.getStrand_apply hm.cur, M.get_apply, hp', hw', Option.isSome_some,
    Bool.and_false, Bool.false_eq_true, if_false, M.set_apply, M.pure_apply,
    updGroupOn_part (partOfCore_leaveSlot hm.cur hp' (u.pc.toNat + 4) 3)]
  rfl


/-- R140: a wake is pending: the strand takes it and keeps its slot. -/
theorem suspend_takesWake (hw : (s.settled t).wpend ((s.settled t).recordLoc s.turn.1 u) = true) : exec (.suspend sc) s =
    .next (finish .next sc.toNat (((s.settled t).woken ((s.settled t).recordLoc s.turn.1 u)).setStrand s.turn.1 s.turn.2
      u.resumed)) := by
  have hp' : (s.settled t).partOfCore (s.settled t).turn.1 = some p := hp
  have hw' : (s.settled t).wpend ((s.settled t).recordLoc (s.settled t).turn.1 u) = true := hw
  refine runInstr_ok ht ?_
  simp only [M.bind_apply, suspensionPoint_ok hm, M.getStrand_apply hm.cur, M.get_apply, hp', hw', Option.isSome_some,
    Bool.and_true, if_true, M.set_apply, M.modStrand_apply, M.pure_apply]
  exact congrArg (EStateM.Result.ok Flow.next) (updStrand_woken hm.cur _ Strand.resumed)

/-- R123, R140: what a strand keeps that takes its wake. -/
theorem suspend_resumes (hw : (s.settled t).wpend ((s.settled t).recordLoc s.turn.1 u) = true) :
    ∃ n v, exec (.suspend sc) s = .next n ∧ n.strand s.turn.1 s.turn.2 = some v ∧ v.pc = u.pc + 4#64 ∧ v.q = [] ∧
      v.trapCause = 0#8 ∧ v.getG 1 = u.settleAll.getG 1 ∧ v.getG 2 = u.settleAll.getG 2 ∧ v.getG 3 = u.settleAll.getG 3 ∧
      (∀ i, 4 ≤ i → v.getG i = TV.zero) ∧ n.wpend ((s.settled t).recordLoc s.turn.1 u) = false := by
  have hrun := suspend_takesWake (sc := sc) ht hp hm hw
  have hclear := wpend_woken hw
  have hturn := turn_woken (s.settled t) ((s.settled t).recordLoc s.turn.1 u)
  generalize (s.settled t).recordLoc s.turn.1 u = loc at hrun hclear hturn ⊢
  generalize (s.settled t).woken loc = m at hrun hclear hturn
  have hcur : (m.setStrand s.turn.1 s.turn.2 u.resumed).cur = some u.resumed := by
    rw [State.cur, setStrand_turn, hturn]
    exact strand_setStrand_same _ _ _ _
  obtain ⟨hframe, hstrand⟩ := finish_frame hcur sc.toNat
  rw [setStrand_turn, hturn] at hstrand
  obtain ⟨h1, h2, h3, hrest⟩ := getG_resumed u (m.setStrand s.turn.1 s.turn.2 u.resumed).now sc.toNat
  have hmem : (finish .next sc.toNat (m.setStrand s.turn.1 s.turn.2 u.resumed)).mem = m.mem :=
    (congrArg State.mem hframe.butCores :)
  refine ⟨_, _, hrun, hstrand, resumed_pc u _ _, rfl, rfl, h1, h2, h3, hrest, ?_⟩
  rwa [State.wpend, read_of_mem hmem]

/-- R140: the strand is counted out of its group; the kernel may be *draining* then (R366). -/
theorem retire_runs :
    ∃ m, exec (.retire sc) s = .next (finish .left sc.toNat m) ∧ KernelsOnly ((s.settled t).countedOut u p) m := by
  have hp' : (s.settled t).partOfCore (s.settled t).turn.1 = some p := hp
  have hcounted : ((s.settled t).leaveSlot (s.settled t).turn.1 (s.settled t).turn.2 u.pc.toNat 4).updGroupOn
      (s.settled t).turn.1 u.gid (fun g => { g with live := g.live - 1 }) = (s.settled t).countedOut u p :=
    updGroupOn_part (partOfCore_leaveSlot hm.cur hp' u.pc.toNat 4) _ _
  cases hg : (s.settled t).groupOn (s.settled t).turn.1 u.gid with
  | none =>
    refine ⟨(s.settled t).countedOut u p, runInstr_ok ht ?_, rfl⟩
    simp only [M.bind_apply, suspensionPoint_ok hm, M.getStrand_apply hm.cur, M.get_apply, M.set_apply, M.pure_apply, hcounted, hg]
  | some g =>
    refine ⟨((s.settled t).countedOut u p).noteDrained g.kernel, runInstr_ok ht ?_, kernelsOnly_noteDrained _ _⟩
    simp only [M.bind_apply, suspensionPoint_ok hm, M.getStrand_apply hm.cur, M.get_apply, M.set_apply, M.pure_apply, hcounted, hg]

/-- R122, R140: the strand ends, and its group counts it out. -/
theorem retire_effects : ∃ n, exec (.retire sc) s = .next n ∧ n.strand s.turn.1 s.turn.2 = none ∧
    n.read ((s.settled t).recordLoc s.turn.1 u + 8) 8 / 2 ^ 52 % 16 = 4 ∧
    ∀ g, s.group p u.gid = some g → ∃ g', n.group p u.gid = some g' ∧ g'.live = g.live - 1 := by
  have hp' : (s.settled t).partOfCore (s.settled t).turn.1 = some p := hp
  obtain ⟨m, hrun, hkernels⟩ := retire_runs (sc := sc) ht hp hm
  have hidle := strand_leaveSlot hm.cur hp' u.pc.toNat 4
  have hstate := state_leaveSlot_retired hm.cur hp' u.pc.toNat
  have hlive := fun g hg => live_leaveSlot (g := g) hm.cur hp' hg u.pc.toNat 4
  have hstrand : m.strand s.turn.1 s.turn.2 = none := by
    rw [hkernels.strand_eq, State.countedOut, strand_updGroup]
    exact hidle
  have hmem : (finish .left sc.toNat m).mem = ((s.settled t).leaveSlot s.turn.1 s.turn.2 u.pc.toNat 4).mem := by
    rw [finish_left_mem, hkernels.mem_eq, State.countedOut, mem_updGroup]
    rfl
  refine ⟨_, hrun, ?_, ?_, fun g hg => ?_⟩
  · rw [finish_left_strand, hstrand]
  · rw [read_of_mem hmem]
    exact hstate
  · obtain ⟨g', hg', hl⟩ := hlive g hg
    refine ⟨{ g' with live := g'.live - 1 }, ?_, congrArg (· - 1) hl⟩
    rw [finish_left_group, hkernels.group_eq, State.countedOut]
    exact group_updGroup_same hg' _

end

/-- Settles O26: what leaves the slot and what is saved by the rules for `leaveSlot`; a strand that takes its wake by what
R123 resets. -/
theorem suspensionPointsLeaveTheSlot : Obligations.SuspensionPointsLeaveTheSlot := by
  unfold Obligations.SuspensionPointsLeaveTheSlot
  rintro s r t u sc p ht rfl rfl hfail hentries hbusy hphase hhalf hfree hp
  have hm : MaySuspend (s.settled t) (t.settle s.now) := ⟨cur_settled s t, hfail, hentries, hbusy, hphase, hhalf, hfree⟩
  exact ⟨yield_runs ht hp hm, suspend_leaves ht hp hm, suspend_resumes ht hp hm, retire_effects ht hp hm⟩

end Sys2Proof.Machine
end

section
/-! PROOF. Traps (R421, R422): what enters the handler, and what a fault leaves of the strand, its record and its kernel (R122,
R366, R367). -/
namespace Sys2Proof.Machine

/-! ### A trap that enters the handler (R421) -/

/-- R421: the strand as it enters the handler at `vec`. -/
def Strand.handling (t : Strand) (cause ret vec now : Nat) (val : Word) : Strand :=
  ({ t.settleAll with trapPc := BitVec.ofNat 64 ret, trapCause := BitVec.ofNat 8 cause, trapVal := val, rep := none,
                      loop := none }.setPc vec).issued now 0

theorem handling_pcc (t : Strand) (cause ret now : Nat) (vec val : Word) :
    (t.handling cause ret vec.toNat now val).pcc = setAddr t.pcc vec.toNat := by
  have hpcc : (t.handling cause ret vec.toNat now val).pcc = setAddr t.settleAll.pcc (vec.toNat % 2 ^ 64) := rfl
  rw [hpcc, settleAll_pcc, Nat.mod_eq_of_lt vec.isLt]

theorem deliverable_iff {t : Strand} {cause : Nat} : deliverable t cause = true ↔
    cause = 0x07 ∨ cause = 0x09 ∨ cause = 0x0A ∨ (cause = 0x08 ∧ t.ovl = true) := by
  simp only [deliverable, Bool.or_eq_true, Bool.and_eq_true, decide_eq_true_eq, or_assoc]

section
variable {s : State} {t : Strand} {cause pc ret : Nat} {val : Word} (hc : s.cur = some t)
include hc

theorem takeTrap_delivered (hd : deliverable t cause = true) (hvec : (s.core s.turn.1).trapVec ≠ 0#64)
    (hidle : t.trapCause = 0#8) : takeTrap cause val pc ret s =
      (s.setStrand s.turn.1 s.turn.2 (t.handling cause ret (s.core s.turn.1).trapVec.toNat s.now val)).updCore s.turn.1
        (·.dropHeld s.turn.2) := by
  simp only [takeTrap, hc, hd, decide_eq_true hvec, decide_eq_true hidle, Bool.and_self, if_true, Strand.handling]

theorem takeTrap_faults (h : deliverable t cause = false ∨ (s.core s.turn.1).trapVec = 0#64 ∨ t.trapCause ≠ 0#8) :
    takeTrap cause val pc ret s = s.faultStrand s.turn.1 s.turn.2 cause val pc := by
  have hno : (deliverable t cause && decide ((s.core s.turn.1).trapVec ≠ 0#64) && decide (t.trapCause = 0#8)) = false := by
    rw [Bool.and_eq_false_iff, Bool.and_eq_false_iff, decide_eq_false_iff_not, decide_eq_false_iff_not, not_not, or_assoc]
    exact h
  simp only [takeTrap, hc, hno, Bool.false_eq_true, if_false]

end

/-! ### The end of a kernel leaves (R366, R367) -/

/-- What the end of a kernel leaves: memory, what waits to be written behind an engine, the kernels, and idle slots. -/
structure EndKeeps (s n : State) : Prop where
  mem : n.mem = s.mem
  ridgeQ : n.ridgeQ = s.ridgeQ
  kernels : n.kernels = s.kernels
  idle : ∀ k sl, s.strand k sl = none → n.strand k sl = none

theorem EndKeeps.refl (s : State) : EndKeeps s s := ⟨rfl, rfl, rfl, fun _ _ h => h⟩

theorem EndKeeps.of_cores {s n : State} (hm : n.mem = s.mem) (hq : n.ridgeQ = s.ridgeQ) (hk : n.kernels = s.kernels)
    (hc : n.cores = s.cores) : EndKeeps s n :=
  ⟨hm, hq, hk, fun k sl h => by simpa only [State.strand, State.core, hc] using h⟩

theorem EndKeeps.trans {s m n : State} (h : EndKeeps s m) (h' : EndKeeps m n) : EndKeeps s n :=
  ⟨h'.mem.trans h.mem, h'.ridgeQ.trans h.ridgeQ, h'.kernels.trans h.kernels, fun k sl hi => h'.idle k sl (h.idle k sl hi)⟩

theorem EndKeeps.fold {α : Type} {f : State → α → State} (h : ∀ s a, EndKeeps s (f s a)) (l : List α) :
    ∀ s, EndKeeps s (l.foldl f s) := by
  induction l with
  | nil => exact .refl
  | cons a l ih => exact fun s => (h s a).trans (ih _)

theorem endKeeps_updCore (s : State) (k : Nat) {f : Core → Core} 
    (hf : ∀ c sl, kfind sl c.slots = none → kfind sl (f c).slots = none) : EndKeeps s (s.updCore k f) := by
  refine ⟨rfl, rfl, rfl, fun j sl hi => ?_⟩
  by_cases hj : j = k
  · subst hj
    rw [State.strand, core_updCore_same]
    exact hf _ sl hi
  · rwa [State.strand, core_updCore_ne hj]

theorem endKeeps_clearSlot (s : State) (k sl : Nat) : EndKeeps s (s.clearSlot k sl) := by
  refine endKeeps_updCore s k fun c r hi => ?_
  by_cases hr : r = sl
  · rw [hr, kfind_kdel_same]
  · rwa [kfind_kdel_ne hr]

theorem endKeeps_updGroupOn (s : State) (k gid : Nat) (f : Group → Group) : EndKeeps s (s.updGroupOn k gid f) := by
  unfold State.updGroupOn State.updGroup
  split
  · split
    · exact .of_cores rfl rfl rfl rfl
    · exact .refl s
  · exact .refl s

theorem endKeeps_updContext (s : State) (vf pasid : Nat) (f : Context → Context) : EndKeeps s (s.updContext vf pasid f) := by
  unfold State.updContext
  split
  · exact .of_cores rfl rfl rfl rfl
  · exact .refl s

theorem endKeeps_updPartition (s : State) (p : Nat) (f : Partition → Partition) : EndKeeps s (s.updPartition p f) := by
  unfold State.updPartition
  split
  · exact .of_cores rfl rfl rfl rfl
  · exact .refl s

theorem endKeeps_groupGone (s : State) (part gid : Nat) :
    EndKeeps s (({ s with groups := kdel (groupKey part gid) s.groups } : State).orphan part gid) :=
  .of_cores rfl rfl rfl rfl

theorem endKeeps_dropEnded (s old : State) : EndKeeps s (s.dropEnded old) := .of_cores rfl rfl rfl rfl

theorem endKeeps_updCluster (s : State) (cl : Nat) (f : Cluster → Cluster) : EndKeeps s (s.updCluster cl f) :=
  .of_cores rfl rfl rfl rfl

/-- R367: a core of an ended stage holds no strand. -/
theorem endKeeps_endStage (s : State) (part : Nat) (g : Stage) : EndKeeps s (s.endStage part g) := by
  have hcores : ∀ (st : State) (cl : Nat),
      EndKeeps st ((coresOfCluster cl).foldl (fun (u : State) k => u.updCore k (·.ended g)) st) := fun st cl =>
    .fold (fun u k => endKeeps_updCore u k fun _ _ _ => rfl) _ st
  have hclusters : ∀ l : List Nat, EndKeeps s (l.foldl (fun (st : State) cl =>
      ((coresOfCluster cl).foldl (fun (u : State) k => u.updCore k (·.ended g)) st).updCluster cl Cluster.freed) s) := fun l =>
    .fold (fun st cl => (hcores st cl).trans (endKeeps_updCluster _ _ _)) l s
  unfold State.endStage
  split
  · exact (hclusters _).trans (endKeeps_groupGone _ _ _)
  · exact hclusters _

theorem endKeeps_contextIdle (s : State) (vf pasid : Nat) : EndKeeps s (s.contextIdle vf pasid) := by
  unfold State.contextIdle
  dsimp only
  split
  · split
    · exact (endKeeps_updContext s _ _ _).trans (endKeeps_updPartition _ _ _)
    · exact .refl s
  · exact .refl s

/-- R366, R367: a kernel that fails keeps the outcome, and nothing else of memory or of the slots that are idle changes. -/
theorem endKernel_fails {s : State} {n cause : Nat} {kn : Kernel} (stage : Option Nat) (val : Word)
    (hk : s.kernel n = some kn) (h1 : kn.st ≠ .complete) (h2 : kn.st ≠ .failed) (h0 : cause ≠ 0) :
    (s.endKernel n cause stage val).mem = s.mem ∧ (s.endKernel n cause stage val).ridgeQ = s.ridgeQ ∧
      (∀ k sl, s.strand k sl = none → (s.endKernel n cause stage val).strand k sl = none) ∧
      ∃ kn', (s.endKernel n cause stage val).kernel n = some kn' ∧ kn'.st = .failed ∧ kn'.cause = cause ∧
        kn'.causeStage = stage ∧ kn'.value = val := by
  set s1 := (kn.stages.foldl (fun (st : State) g => st.endStage kn.part g) s).updContext kn.vf kn.pasid (fun c =>
    { c with save := c.save.map (fun x => kn.stages.foldl SaveSet.endStage x) }) with hs1
  set kf : Kernel := { kn with st := .failed, cause := cause, causeStage := stage, value := val } with hkf
  have hbefore : EndKeeps s s1 :=
    (EndKeeps.fold (fun st g => endKeeps_endStage st kn.part g) kn.stages s).trans (endKeeps_updContext _ _ _ _)
  have hk1 : s1.kernel n = some kn := (congrArg (kfind n) hbefore.kernels).trans hk
  have hafter : EndKeeps ({ s1 with kernels := kset n kf s1.kernels } : State) (s.endKernel n cause stage val) := by
    have hrun : s.endKernel n cause stage val =
        ((({ s1 with kernels := kset n kf s1.kernels } : State).dropEnded s).contextIdle kn.vf kn.pasid) := by
      simp only [State.endKernel, hk, h1, h2, or_self, if_false, ← hs1, State.updKernel, hk1, h0, ← hkf]
    rw [hrun]
    exact (endKeeps_dropEnded _ s).trans (endKeeps_contextIdle _ _ _)
  refine ⟨hafter.mem.trans hbefore.mem, hafter.ridgeQ.trans hbefore.ridgeQ,
    fun k sl hi => hafter.idle k sl (hbefore.idle k sl hi), kf, ?_, rfl, rfl, rfl, rfl⟩
  rw [State.kernel, hafter.kernels]
  exact kfind_kset_same _ _ _

/-! ### The record of a strand that faults (R122, R290) -/

theorem recordLoc_settleAll (s : State) (k : Nat) (t : Strand) : s.recordLoc k t.settleAll = s.recordLoc k t :=
  congrArg (privLoc ((s.partOfCore k).getD 0)) (congrArg Strand.record (putResults_rest t.pend t) :)

theorem take_natBytes (n v : Nat) (l : List Byte) : (natBytes n v ++ l).take n = natBytes n v :=
  List.take_left' (length_natBytes n v)

theorem drop_natBytes (n v : Nat) (l : List Byte) : (natBytes n v ++ l).drop n = l :=
  List.drop_left' (length_natBytes n v)

/-- R122: words 0 and 1 of the record of a strand that faults, as bytes. -/
def State.faultWords (s : State) (k : Nat) (t : Strand) (pc : Nat) : List Byte :=
  natBytes 8 (recordWord0 pc (s.wpend (s.recordLoc k t)) t.chk t.ovl) ++
    natBytes 8 (recordWord1 t.sid.toNat t.gid t.pri 5 t.rm.toNat t.sr.toNat)

section
variable {s : State} {k pc : Nat} {t : Strand}

theorem writeFaultRecord_free (h : s.linesHeld (clusterOf k) (s.recordLoc k t) 16 true = false) :
    s.writeFaultRecord k t pc = s.write (s.recordLoc k t) (s.faultWords k t pc) := by
  simp only [State.writeFaultRecord, h, Bool.false_eq_true, if_false, State.writeRecordWords, State.faultWords]

/-- R290: the unit goes on while the write waits (the model's choice, log entry 78). -/
theorem writeFaultRecord_held (h : s.linesHeld (clusterOf k) (s.recordLoc k t) 16 true = true) :
    s.writeFaultRecord k t pc = { s with ridgeQ := s.ridgeQ ++ [.bytes (s.recordLoc k t) (s.faultWords k t pc)] } := by
  simp only [State.writeFaultRecord, h, if_true, State.faultWords]

theorem kernels_writeFaultRecord : (s.writeFaultRecord k t pc).kernels = s.kernels := by
  cases h : s.linesHeld (clusterOf k) (s.recordLoc k t) 16 true with
  | false => rw [writeFaultRecord_free h, (memOnly_write _ _ _).kernels_eq]
  | true => rw [writeFaultRecord_held h]

theorem read_faultWords (m : State) (a : Nat) : (m.write a (s.faultWords k t pc)).read a 8 % 2 ^ 57 = pc % 2 ^ 57 ∧
    (m.write a (s.faultWords k t pc)).read (a + 8) 8 / 2 ^ 52 % 16 = 5 := by
  rw [State.faultWords, (read_write_words _ _ _ _).1, (read_write_words _ _ _ _).2, recordWord0_pc, recordWord1_state]
  exact ⟨rfl, rfl⟩

theorem bytesNat_faultWords : bytesNat ((s.faultWords k t pc).take 8) % 2 ^ 57 = pc % 2 ^ 57 ∧
    bytesNat ((s.faultWords k t pc).drop 8) / 2 ^ 52 % 16 = 5 := by
  rw [State.faultWords, take_natBytes, drop_natBytes, bytesNat_natBytes, bytesNat_natBytes, recordWord0_pc, recordWord1_state]
  exact ⟨rfl, rfl⟩

end

/-! ### A strand that faults (R122, R366, R422) -/

section
variable {s : State} {t : Strand} {g : Group} {kn : Kernel} {k sl cause pc : Nat} {val : Word} (hs : s.strand k sl = some t)
  (hg : s.groupOn k t.gid = some g) (hk : s.kernel g.kernel = some kn) (h1 : kn.st ≠ .complete) (h2 : kn.st ≠ .failed)
  (h0 : cause ≠ 0)
include hs hg hk h1 h2 h0

/-- R122, R422: the slot is freed, the record is written or waits, and the kernel fails with the outcome of the fault. -/
theorem faultStrand_effects :
    (s.faultStrand k sl cause val pc).strand k sl = none ∧
    (s.faultStrand k sl cause val pc).mem = (s.writeFaultRecord k t.settleAll pc).mem ∧
    (s.faultStrand k sl cause val pc).ridgeQ = (s.writeFaultRecord k t.settleAll pc).ridgeQ ∧
    ∃ kn', (s.faultStrand k sl cause val pc).kernel g.kernel = some kn' ∧ kn'.st = .failed ∧ kn'.cause = cause ∧
      kn'.causeStage = some g.stage ∧ kn'.value = val := by
  have hkernels := kernels_writeFaultRecord (s := s) (k := k) (t := t.settleAll) (pc := pc)
  have hrun : s.faultStrand k sl cause val pc = (((s.writeFaultRecord k t.settleAll pc).clearSlot k sl).updGroupOn k t.gid
      (fun x => { x with live := x.live - 1 })).endKernel g.kernel cause (some g.stage) val := by
    simp only [State.faultStrand, hs, hg]
  generalize s.writeFaultRecord k t.settleAll pc = w at hkernels hrun ⊢
  have hgroup := endKeeps_updGroupOn (w.clearSlot k sl) k t.gid fun x => { x with live := x.live - 1 }
  have hkeeps := (endKeeps_clearSlot w k sl).trans hgroup
  have hidle := hgroup.idle k sl (strand_clearSlot w k sl)
  rw [hrun]
  generalize (w.clearSlot k sl).updGroupOn k t.gid (fun x => { x with live := x.live - 1 }) = m at hkeeps hidle ⊢
  have hkm : m.kernel g.kernel = some kn := (congrArg (kfind g.kernel) (hkeeps.kernels.trans hkernels)).trans hk
  obtain ⟨hmem, hq, hslots, hkn⟩ := endKernel_fails (some g.stage) val hkm h1 h2 h0
  exact ⟨hslots k sl hidle, hmem.trans hkeeps.mem, hq.trans hkeeps.ridgeQ, hkn⟩

end

/-- Settles O18: a trap that is delivered by the strand as it enters its handler, any other by what a fault leaves. -/
theorem trapsEnterTheHandlerOrFaultTheStrand : Obligations.TrapsEnterTheHandlerOrFaultTheStrand := by
  unfold Obligations.TrapsEnterTheHandlerOrFaultTheStrand
  refine ⟨fun s t cause pc ret val hc hcause hvec hidle => ?delivered,
    fun s n t g kn cause pc ret val hc hno h0 hg hk h1 h2 hn => ?faults⟩
  case delivered =>
    rw [takeTrap_delivered hc (deliverable_iff.2 hcause) hvec hidle]
    have hrest := putResults_rest t.pend t
    refine ⟨rfl, t.handling cause ret (s.core s.turn.1).trapVec.toNat s.now val, ?_, rfl, rfl, rfl, handling_pcc _ _ _ _ _ _,
      rfl, (congrArg Strand.q hrest :), (congrArg Strand.sh hrest :), (congrArg Strand.h hrest :), (congrArg Strand.y hrest :),
      rfl, fun _ => rfl⟩
    refine (strand_updCore ?_ _ _ _ _).trans (strand_setStrand_same _ _ _ _)
    exact fun _ => rfl
  case faults =>
    have hfault : deliverable t cause = false ∨ (s.core s.turn.1).trapVec = 0#64 ∨ t.trapCause ≠ 0#8 :=
      hno.imp_left fun h => Bool.eq_false_iff.2 (mt deliverable_iff.1 h)
    rw [takeTrap_faults hc hfault] at hn
    obtain ⟨hidle, hmem, hq, hkn⟩ := faultStrand_effects (pc := pc) (val := val) hc hg hk h1 h2 h0
    rw [← hn] at hidle hmem hq hkn
    rw [← recordLoc_settleAll]
    refine ⟨hidle, fun hfree => ?_, fun hheld => ⟨s.faultWords s.turn.1 t.settleAll pc, ?_, bytesNat_faultWords⟩, hkn⟩
    · rw [read_of_mem hmem, read_of_mem hmem, writeFaultRecord_free hfree]
      exact read_faultWords _ _
    · rw [hq, writeFaultRecord_held hheld]

end Sys2Proof.Machine
end

section
/-! PROOF. Bit accesses (R155 to R158): the field that a cursor names, read and replaced. -/
namespace Sys2Proof.Machine

/-! ### Fields of a cursor (R155) -/

theorem bitRange_w_pos (c cur : TV) : 0 < (bitRange c cur).w := Nat.succ_pos _

theorem bitRange_w_le (c cur : TV) : (bitRange c cur).w ≤ 64 := by
  have hlt : cur.lo.toNat < 2 ^ 64 := cur.lo.isLt
  simp only [bitRange]
  omega

/-- R155: the field that a capability and a cursor name, part by part. -/
theorem exists_bitRange {c cur : TV} {w p x n : Nat} (hw : w = cur.lo.toNat / 2 ^ 58 + 1)
    (hp : p = capAddr c * 8 + cur.lo.toNat % 2 ^ 58) (hx : x = p / 8) (hn : n = (p + w + 7) / 8 - x) :
    ∃ r : BitRange, r = bitRange c cur ∧ w = r.w ∧ p = r.p ∧ x = r.x ∧ n = r.n ∧
      r.next = TV.ofNat ((r.w - 1) * 2 ^ 58 + (cur.lo.toNat % 2 ^ 58 + r.w) % 2 ^ 58) := by
  subst hw hp hx hn
  exact ⟨_, rfl, rfl, rfl, rfl, rfl, rfl⟩

/-- R156: a field replaced: the bits below it, then its new value, then the bits above it. -/
theorem BitRange.set_eq (r : BitRange) (bytes v : Nat) : r.set bytes v =
    2 ^ (r.p % 8) * (2 ^ r.w * (bytes / 2 ^ (r.p % 8) / 2 ^ r.w) + v % 2 ^ r.w) + bytes % 2 ^ (r.p % 8) := by
  simp only [BitRange.set, BitRange.get]
  generalize 2 ^ (r.p % 8) = k
  generalize 2 ^ r.w = m
  have hlow := Nat.div_add_mod bytes k
  have hmid := Nat.div_add_mod (bytes / k) m
  generalize bytes / k / m = hi at hmid ⊢
  generalize bytes / k % m = mid at hmid ⊢
  generalize bytes % k = low at hlow ⊢
  rw [← hmid] at hlow
  have hsplit : bytes - mid * k = k * (m * hi) + low := Nat.sub_eq_of_eq_add (by rw [← hlow]; ring)
  rw [hsplit]
  ring

/-- R156: a replaced field holds the bits of the value; every other bit is as it was. -/
theorem BitRange.testBit_set (r : BitRange) (bytes v i : Nat) : (r.set bytes v).testBit i =
    if r.p % 8 ≤ i ∧ i < r.p % 8 + r.w then v.testBit (i - r.p % 8) else bytes.testBit i := by
  rw [r.set_eq, Nat.testBit_two_pow_mul_add _ (Nat.mod_lt _ (Nat.two_pow_pos _))]
  by_cases hlow : i < r.p % 8
  · rw [if_pos hlow, if_neg (by omega), Nat.testBit_mod_two_pow, decide_eq_true hlow, Bool.true_and]
  · rw [if_neg hlow, Nat.testBit_two_pow_mul_add _ (Nat.mod_lt _ (Nat.two_pow_pos _))]
    by_cases hmid : i - r.p % 8 < r.w
    · rw [if_pos hmid, if_pos (by omega), Nat.testBit_mod_two_pow, decide_eq_true hmid, Bool.true_and]
    · rw [if_neg hmid, if_neg (by omega), Nat.testBit_div_two_pow, Nat.testBit_div_two_pow]
      congr 1
      omega

/-- R156: a field zero-extended. -/
theorem fieldValue_natural {w f : Nat} (hw : w ≤ 64) (hf : f < 2 ^ w) : fieldValue false w f = TV.ofNat f :=
  TV.ofWord_ofNat (hf.trans_le (Nat.pow_le_pow_right (by decide) hw))

/-- R156: a field sign-extended from its highest bit. -/
theorem fieldValue_signed {w f : Nat} (h0 : 0 < w) (hf : f < 2 ^ w) :
    fieldValue true w f = TV.ofWord (BitVec.ofInt 64 (BitVec.ofNat w f).toInt) := by
  have hhalf : (2 : Nat) ^ w = 2 * 2 ^ (w - 1) := by rw [← Nat.pow_succ', Nat.succ_eq_add_one, Nat.sub_add_cancel h0]
  have hint : (BitVec.ofNat w f).toInt = if 2 ^ (w - 1) ≤ f then (f : Int) - 2 ^ w else f := by
    rw [BitVec.toInt_eq_toNat_cond, BitVec.toNat_ofNat, Nat.mod_eq_of_lt hf]
    push_cast
    split
    · rw [if_neg (by omega)]
    · rw [if_pos (by omega)]
  rw [fieldValue, hint, Bool.true_and]
  by_cases hneg : 2 ^ (w - 1) ≤ f
  · rw [decide_eq_true hneg, if_pos rfl, if_pos hneg]
  · rw [decide_eq_false hneg, if_neg Bool.false_ne_true, if_neg hneg, BitVec.ofInt_natCast]

/-! ### Loads of fields (R156) -/

section
variable {s s' : State} {d a b : BitVec 6} {sc : Nat} {c cur v : TV} {r : BitRange} {loc : Nat} {sg : Bool} (hc : Clear s')
  (hr : r = bitRange c cur) (hd : derefFail c r.x r.n permLoad = none) (hx : r.x / 2 ^ 60 = 8)
  (hp : s'.place s'.turn.1 r.x r.n false false = .here loc) (hh : s'.accessHeld s'.turn.1 loc r.n false = false)
  (hv : fieldValue sg r.w (r.get (s'.read loc r.n)) = v)
include hc hr hd hx hp hh hv

/-- R156: a bit load that reaches its bytes. -/
theorem bitLoad_runs (h : Reads s [a, b] [d] [c, cur] s') : runInstr sc (bitLoad sg false d a b) s = gives sc d 0 v s' := by
  subst hr
  refine runs_operand2 (flow := .next) h ?_
  dsimp only
  simp only [M.bind_apply, afterAcquire_clear hc, bitCheck, derefCheck_ok hd, hx, ne_eq, not_true_eq_false, if_false,
    M.pure_apply, bitAccess, M.get_apply, hp, hh, Bool.false_eq_true, result_ok, hv, Bool.false_and]

/-- R156: the cursor of a bit load advances, unless its register receives the field. -/
theorem bitLoadAdvance_runs (h : Reads s [a, b] [d, b] [c, cur] s') : runInstr sc (bitLoad sg true d a b) s =
    goesOn sc (if d = b then s'.written d 0 v else (s'.written d 0 v).written b 0 r.next) := by
  subst hr
  refine runs_operand2 (flow := .next) h ?_
  dsimp only
  simp only [M.bind_apply, afterAcquire_clear hc, bitCheck, derefCheck_ok hd, hx, ne_eq, not_true_eq_false, if_false,
    M.pure_apply, bitAccess, M.get_apply, hp, hh, Bool.false_eq_true, result_ok, hv]
  by_cases hdb : d = b
  · simp only [hdb, not_true_eq_false, decide_false, Bool.and_false, Bool.false_eq_true, if_false, if_true, M.pure_apply]
  · simp only [hdb, not_false_eq_true, decide_true, Bool.and_self, if_true, if_false, M.bind_apply, result_ok, M.pure_apply]

end

/-- Settles O17: each form is the meaning `bitLoad` or `bitStore`; the fields by `fieldValue` and `BitRange.testBit_set`. -/
theorem bitAccessesReadAndReplaceTheirField : Obligations.BitAccessesReadAndReplaceTheirField := by
  unfold Obligations.BitAccessesReadAndReplaceTheirField
  refine ⟨?loads, ?stores⟩
  case loads =>
    rintro s s' d a b sc c cur p w x n f loc hw hpos hbyte hlen hd hx hp hh hc hf
    obtain ⟨r, hr, rfl, rfl, rfl, rfl, hnext⟩ := exists_bitRange hw hpos hbyte hlen
    have hsigned := fieldValue_signed (hr ▸ bitRange_w_pos c cur) (hf ▸ Nat.mod_lt _ (Nat.two_pow_pos r.w))
    have hnatural := fieldValue_natural (hr ▸ bitRange_w_le c cur) (hf ▸ Nat.mod_lt _ (Nat.two_pow_pos r.w))
    rw [hf] at hsigned hnatural ⊢
    rw [← hnext]
    exact ⟨fun h => ⟨bitLoad_runs hc hr hd hx hp hh hsigned h, bitLoad_runs hc hr hd hx hp hh hnatural h⟩,
      fun h => ⟨bitLoadAdvance_runs hc hr hd hx hp hh hsigned h, bitLoadAdvance_runs hc hr hd hx hp hh hnatural h⟩⟩
  case stores =>
    rintro s s' d a b sc v c cur p w x n old loc hw hpos hbyte hlen hd hx hp hh hc rfl
    obtain ⟨r, hr, rfl, rfl, rfl, rfl, hnext⟩ := exists_bitRange hw hpos hbyte hlen
    rw [← hnext]
    exact ⟨r.set (s'.read loc r.n) v.lo.toNat, fun i _ => r.testBit_set _ _ i,
      fun h => bitStore_runs (adv := false) h hc hr hd hx hp hh, fun h => bitStore_runs (adv := true) h hc hr hd hx hp hh⟩

end Sys2Proof.Machine
end

section
/-! PROOF. The instruction fence, `halt` and the counters (R149, R433 to R435). -/
namespace Sys2Proof.Machine

/-- R65: an instruction without sources finds the state with the results written that are due. -/
theorem Reads.settled_of_nil {s s' : State} {dests : List (BitVec 6)} (h : Reads s [] dests [] s') :
    ∃ t, s' = s.settled t := by
  obtain ⟨t, -, -, -, -, -, -, -, -, n, hg, rfl⟩ := h
  obtain ⟨-, rfl⟩ := Prod.mk.inj (Sum.inl.inj hg)
  exact ⟨t, rfl⟩

/-- Results that are written leave the rest of their core. -/
theorem core_settled (s : State) (t : Strand) : (s.settled t).core s.turn.1 =
    { s.core s.turn.1 with slots := kset s.turn.2 (t.settle s.now) (s.core s.turn.1).slots } :=
  core_updCore_same _ _ _

/-- R435: a counter read as it stands. -/
theorem readCounter_runs {s s' : State} {d : BitVec 6} {sc : Nat} {f : State → Word} (h : Reads s [] [d] [] s') :
    runInstr sc (readCounter d f) s = gives sc d 0 (TV.ofWord (f s')) s' :=
  runs_operands h (by simp only [M.bind_apply, M.get_apply, result_ok, M.pure_apply])

section
variable {s : State} {t : Strand} {sc : BitVec 2} (ht : Turn s t)
include ht

/-- R149, R433: the fence with nothing pending: fetches follow XOBOUND. -/
theorem ifence_runs (hw : (s.settled t).writesPending s.turn.1 s.turn.2 = false) : exec (.ifence sc) s =
    goesOn sc.toNat ((s.settled t).updCore s.turn.1 fun c => { c with fetchBound := c.xobound }) :=
  runInstr_ok ht (by
    rw [← settled_turn s t] at hw ⊢
    simp only [M.bind_apply, M.get_apply, hw, Bool.false_eq_true, if_false, M.modCore_apply, M.pure_apply])

/-- R433: the fence waits for the strand's writes and copies. -/
theorem ifence_waits (hw : (s.settled t).writesPending s.turn.1 s.turn.2 = true) : exec (.ifence sc) s = waits .inSlot t s :=
  runInstr_wait ht (by
    rw [← settled_turn s t] at hw
    simp only [M.bind_apply, M.get_apply, hw, if_true, M.waitFor_apply])

/-- R434: a firmware core halts. -/
theorem halt_runs (hp : privileged s.turn.1 = true) : exec (.halt sc) s =
    goesOn sc.toNat ((s.settled t).updCore s.turn.1 fun c => { c with halted := true }) :=
  runInstr_ok ht (by
    simp only [M.bind_apply, M.self_apply, settled_turn, hp, Bool.not_true, Bool.false_eq_true, if_false,
      M.modCore_apply, M.pure_apply])

end

/-- Settles O23: the fence and `halt` by what they do to their core; a counter of the state that an instruction without
sources finds is that of the state in which it issues. -/
theorem systemFormsCompleteWithTheirEffects : Obligations.SystemFormsCompleteWithTheirEffects := by
  unfold Obligations.SystemFormsCompleteWithTheirEffects
  refine ⟨fun s t sc ht => ⟨ifence_runs ht, ifence_waits ht, halt_runs ht⟩, fun s s' d sc h => ?counters⟩
  case counters =>
    obtain ⟨t, rfl⟩ := h.settled_of_nil
    have hcore := core_settled s t
    refine ⟨(readCounter_runs h).trans ?_, readCounter_runs h, (readCounter_runs h).trans ?_⟩
    · rw [State.cycleOf, settled_turn, hcore]
      rfl
    · rw [settled_turn, hcore]

end Sys2Proof.Machine
end

section
/-! PROOF. The package after reset (R151, R394, R428, R439, R454). -/
namespace Sys2Proof.Machine

/-- R394: every region is *off* after reset, and no partition holds it. -/
theorem region_reset (r : Nat) : State.reset.region r = Region.init := rfl

/-- No slot of any core holds a strand after reset. -/
theorem strand_reset (k sl : Nat) : State.reset.strand k sl = none := rfl

/-- R151, log entry 2: memory reads as 0 after reset. -/
theorem byte_reset (a : Nat) : State.reset.byte a = 0#8 := rfl

/-- Settles O28: what each table of the state holds when it lists nothing. -/
theorem resetLeavesThePackageOff : Obligations.ResetLeavesThePackageOff := by
  unfold Obligations.ResetLeavesThePackageOff
  refine ⟨fun r => ?_, strand_reset, rfl, rfl, rfl, rfl, rfl, rfl, rfl, rfl, rfl, rfl, rfl, byte_reset, wf_reset⟩
  rw [region_reset]
  exact ⟨rfl, rfl⟩

end Sys2Proof.Machine
end

section
/-! PROOF. What the agents of the ridge die change when they write (R295, R375, R443), and what the events of a queue leave of
kernels and clusters. -/
namespace Sys2Proof.Machine

/-! ### Folds -/

/-- A fold leaves what the operation of each of its elements leaves. -/
theorem foldl_leaves {α β : Type} {R : State → β} {f : State → α → State} {l : List α}
    (h : ∀ s, ∀ b ∈ l, R (f s b) = R s) (s : State) : R (l.foldl f s) = R s :=
  List.foldlRecOn l f (motive := fun u => R u = R s) rfl fun u hu b hb => (h u b hb).trans hu

/-- What one element of a fold changes, and no other, changes once. -/
theorem foldl_once {α β : Type} {R : State → β} {f : State → α → State} {g : β → β} {a : α}
    (hat : ∀ s, R (f s a) = g (R s)) : ∀ {l : List α}, a ∈ l → l.Nodup →
      (∀ s, ∀ b ∈ l, b ≠ a → R (f s b) = R s) → ∀ s, R (l.foldl f s) = g (R s) := by
  intro l
  induction l with
  | nil => exact fun h => absurd h List.not_mem_nil
  | cons b l ih =>
    intro ha hl hne s
    obtain ⟨hb, hl⟩ := List.nodup_cons.1 hl
    rw [List.foldl_cons]
    by_cases hab : a = b
    · subst hab
      rw [foldl_leaves (R := R) fun u c hc => hne u c (List.mem_cons_of_mem _ hc) fun h => hb (h ▸ hc)]
      exact hat s
    · have hmem : a ∈ l := (List.mem_cons.1 ha).resolve_left hab
      rw [ih hmem hl fun u c hc => hne u c (List.mem_cons_of_mem _ hc), hne s b List.mem_cons_self (Ne.symm hab)]

/-- What one element of a fold brings about, and every operation keeps, holds at its end. -/
theorem foldl_holds {α : Type} {P : State → Prop} {f : State → α → State} {a : α} (hset : ∀ s, P (f s a))
    (hkeep : ∀ s b, P s → P (f s b)) : ∀ {l : List α}, a ∈ l → ∀ s, P (l.foldl f s) := by
  intro l
  induction l with
  | nil => exact fun h => absurd h List.not_mem_nil
  | cons b l ih =>
    intro ha s
    rw [List.foldl_cons]
    obtain rfl | ha := List.mem_cons.1 ha
    · exact List.foldlRecOn l f (motive := P) (hset s) fun u hu c _ => hkeep u c hu
    · exact ih ha _

/-! ### Writes of the ridge die -/

/-- Only memory, the directory, messages to the outside and the writes that wait differ. -/
def RidgeOnly (s n : State) : Prop :=
  { n with mem := s.mem, tags := s.tags, dir := s.dir, ridge := s.ridge, out := s.out, ridgeQ := s.ridgeQ } = s

theorem RidgeOnly.refl (s : State) : RidgeOnly s s := rfl

theorem RidgeOnly.trans {s m n : State} (h : RidgeOnly s m) (h' : RidgeOnly m n) : RidgeOnly s n :=
  (congrArg (fun x : State => ({ x with
    mem := s.mem, tags := s.tags, dir := s.dir, ridge := s.ridge, out := s.out, ridgeQ := s.ridgeQ } : State)) h' :).trans h

theorem RidgeOnly.fold {α : Type} {f : State → α → State} (h : ∀ s a, RidgeOnly s (f s a)) (l : List α) (s : State) :
    RidgeOnly s (l.foldl f s) :=
  List.foldlRecOn l f (motive := RidgeOnly s) (.refl s) fun u hu a _ => hu.trans (h u a)

theorem MemOnly.ridgeOnly {s n : State} (h : MemOnly s n) : RidgeOnly s n :=
  (congrArg (fun x : State => ({ x with dir := s.dir, ridge := s.ridge, out := s.out, ridgeQ := s.ridgeQ } : State)) h :)

section
variable {s n : State} (h : RidgeOnly s n)
include h

theorem RidgeOnly.kernels_eq : n.kernels = s.kernels := (congrArg State.kernels h :)

theorem RidgeOnly.clusters_eq : n.clusters = s.clusters := (congrArg State.clusters h :)

theorem RidgeOnly.cluster_eq (cl : Nat) : n.cluster cl = s.cluster cl := (congrArg (State.cluster · cl) h :)

theorem RidgeOnly.core_eq (k : Nat) : n.core k = s.core k := (congrArg (State.core · k) h :)

end

theorem ridgeOnly_snoopHost (s : State) (sec : Nat) (own : Bool) : RidgeOnly s (s.snoopHost sec own) := by
  unfold State.snoopHost
  split <;> rfl

/-- R289, R295: an access of the ridge die snoops or recalls sectors. -/
theorem ridgeOnly_touch (s : State) (a n : Nat) (write : Bool) : RidgeOnly s (s.touch ridgeCluster a n write) := by
  have hsec : ∀ (u : State) (sec : Nat), RidgeOnly u (if 160 ≤ ridgeCluster then
      (if write then u.dirRecall sec else u.dirPeek sec)
      else if write then u.dirWrite sec ridgeCluster else u.dirRead sec ridgeCluster) := fun u sec => by
    rw [if_pos (by decide)]
    split
    · exact (ridgeOnly_snoopHost u sec true).trans rfl
    · exact (ridgeOnly_snoopHost u sec false).trans
        (.fold (f := fun (st : State) h => st.setSector sec h (st.sectorIn sec h).readSnoop) (fun _ _ => rfl) _ _)
  unfold State.touch
  split
  · exact .refl s
  · exact .fold hsec _ s

theorem ridgeOnly_ridgeWrite (s : State) (a : Nat) (bs : List Byte) : RidgeOnly s (s.ridgeWrite a bs) :=
  (ridgeOnly_touch s a bs.length true).trans (memOnly_write _ a bs).ridgeOnly

theorem ridgeOnly_ridgePost (s : State) (a : Nat) (bs : List Byte) : RidgeOnly s (s.ridgePost a bs) := by
  unfold State.ridgePost
  split
  · exact ridgeOnly_ridgeWrite s a bs
  · rfl

/-- R363: the placement table. -/
theorem ridgeOnly_writeTable (s : State) (i : Nat) : RidgeOnly s (s.writeTable i) := by
  unfold State.writeTable
  split
  · exact .refl s
  · refine .fold (fun u j => ?_) _ s
    split
    · exact ridgeOnly_ridgePost u _ _
    · exact .refl u

/-- R375: a record written back. -/
theorem ridgeOnly_writeBackRecord (s : State) (vf q : Nat) : RidgeOnly s (s.writeBackRecord vf q) := by
  have hrecord : ∀ a x, RidgeOnly s (s.writeRecord vf q a x) := fun a x => .fold (fun u e => by
    split
    · exact .refl u
    · exact ridgeOnly_ridgeWrite u _ _) _ s
  unfold State.writeBackRecord
  split
  · split
    · exact hrecord _ _
    · rfl
  · exact .refl s

/-! ### Queues (R376, R388, R413) -/

/-- The kernels and the clusters stay. -/
structure KeepsWork (s n : State) : Prop where
  kernels : n.kernels = s.kernels
  clusters : n.clusters = s.clusters

theorem KeepsWork.refl (s : State) : KeepsWork s s := ⟨rfl, rfl⟩

theorem KeepsWork.trans {s m n : State} (h : KeepsWork s m) (h' : KeepsWork m n) : KeepsWork s n :=
  ⟨h'.kernels.trans h.kernels, h'.clusters.trans h.clusters⟩

theorem RidgeOnly.keepsWork {s n : State} (h : RidgeOnly s n) : KeepsWork s n := ⟨h.kernels_eq, h.clusters_eq⟩

theorem KeepsWork.kernel_eq {s n : State} (h : KeepsWork s n) (i : Nat) : n.kernel i = s.kernel i :=
  congrArg (kfind i) h.kernels

theorem KeepsWork.cluster_eq {s n : State} (h : KeepsWork s n) (cl : Nat) : n.cluster cl = s.cluster cl :=
  congrArg (kget Cluster.init cl) h.clusters

theorem keepsWork_setQueue (s : State) (vf q : Nat) (x : Queue) : KeepsWork s (s.setQueue vf q x) :=
  KeepsWork.trans (m := { s with queues := kset (queueKey vf q) x s.queues }) ⟨rfl, rfl⟩
    (ridgeOnly_writeBackRecord _ vf q).keepsWork

theorem keepsWork_contextIdle (s : State) (vf pasid : Nat) : KeepsWork s (s.contextIdle vf pasid) := by
  have hcontext : ∀ f, KeepsWork s (s.updContext vf pasid f) := fun f => by
    unfold State.updContext
    split <;> exact ⟨rfl, rfl⟩
  have hpartition : ∀ (u : State) p f, KeepsWork u (u.updPartition p f) := fun u p f => by
    unfold State.updPartition
    split <;> exact ⟨rfl, rfl⟩
  unfold State.contextIdle
  dsimp only
  split
  · split
    · exact (hcontext _).trans (hpartition _ _ _)
    · exact .refl s
  · exact .refl s

theorem keepsWork_queueTo (s : State) (vf q : Nat) (st : QueueState) : KeepsWork s (s.queueTo vf q st) := by
  unfold State.queueTo
  split
  · exact .refl s
  · dsimp only
    split
    · exact keepsWork_setQueue s _ _ _
    · exact (keepsWork_setQueue s _ _ _).trans (keepsWork_contextIdle _ _ _)

theorem keepsWork_clearFails (s : State) (w : Waiter) : KeepsWork s (s.clearFails w) := ⟨rfl, rfl⟩

theorem keepsWork_packetBegun (s : State) (vf q : Nat) (push : Option (Nat × Nat)) :
    KeepsWork s (s.packetBegun vf q push) := by
  unfold State.packetBegun
  split
  · exact .refl s
  · exact ((keepsWork_clearFails s _).trans (keepsWork_setQueue _ _ _ _)).trans (keepsWork_queueTo _ _ _ _)

theorem kfind_filter_none {α : Type} {k : Nat} {m : List (Nat × α)} (p : Nat × α → Bool) (h : kfind k m = none) :
    kfind k (m.filter p) = none := by
  induction m with
  | nil => rfl
  | cons e m ih =>
    obtain ⟨j, v⟩ := e
    rw [kfind] at h
    split at h
    · exact absurd h (Option.some_ne_none v)
    next hj =>
      rw [List.filter_cons]
      split
      · rw [kfind, if_neg hj, ih h]
      · exact ih h

/-- R387, R390: a queue that faults brings no kernel back. -/
theorem kernel_faultQueue_none {s : State} {i : Nat} (h : s.kernel i = none) (vf q cause : Nat) :
    (s.faultQueue vf q cause).kernel i = none := by
  unfold State.faultQueue
  split
  · exact h
  next x _ =>
    have hforget : (s.forgetLaunch vf q).kernel i = none := kfind_filter_none _ h
    have hkeep := ((keepsWork_clearFails (s.forgetLaunch vf q) (.queue vf q)).trans (keepsWork_setQueue _ vf q { x.letGo with
      st := .faulted, err := cause, slot := none, pendn := false, quantumOut := false })).trans
        (keepsWork_contextIdle _ vf x.pasid)
    exact (hkeep.kernel_eq i).trans hforget

end Sys2Proof.Machine
end

section
/-! PROOF. A kernel's life but its loading: placement, draining and completion (R362, R363, R366, R367, R381, R476). -/
namespace Sys2Proof.Machine

/-- A kernel changed. -/
theorem kernel_updKernel_same {s : State} {i : Nat} {k : Kernel} (h : s.kernel i = some k) (f : Kernel → Kernel) :
    (s.updKernel i f).kernel i = some (f k) := by
  rw [State.updKernel, h]
  exact kfind_kset_same i (f k) s.kernels

/-! ### Placement (R362, R363, R366) -/

theorem mem_sorted (c : Nat) (l : List Nat) : c ∈ sorted l ↔ c ∈ l := by
  have hfold : ∀ acc : List Nat, c ∈ l.foldl (fun acc x => sadd x acc) acc ↔ c ∈ l ∨ c ∈ acc := by
    induction l with
    | nil => exact fun acc => by simp only [List.foldl_nil, List.not_mem_nil, false_or]
    | cons x l ih =>
      intro acc
      rw [List.foldl_cons, ih, mem_sadd, List.mem_cons]
      tauto
  rw [sorted, hfold, or_iff_left List.not_mem_nil]

/-- R362: a cluster taken by a placed stage. -/
def Cluster.claimed (hold : Option Nat) (c : Cluster) : Cluster := { c with holder := hold, loading := true }

/-- R362: the clusters of one placed stage. -/
def State.claimedBy (s : State) (g : Stage) : State :=
  g.clusters.foldl (fun (u : State) cl => u.updCluster cl (Cluster.claimed g.group)) s

/-- R362: the clusters of the placed stages. -/
def State.claimed (s : State) (stages : List Stage) : State := stages.foldl State.claimedBy s

theorem kernels_claimedBy (s : State) (g : Stage) : (s.claimedBy g).kernels = s.kernels :=
  foldl_keeps (P := State.kernels) (f := fun (u : State) cl => u.updCluster cl (Cluster.claimed g.group)) (fun _ _ => rfl) _ s

theorem kernels_claimed (s : State) (stages : List Stage) : (s.claimed stages).kernels = s.kernels :=
  foldl_keeps (P := State.kernels) kernels_claimedBy stages s

/-- A cluster that loads goes on loading when clusters are taken. -/
theorem loading_updCluster_claimed {s : State} {c : Nat} (hold : Option Nat) (cl : Nat) (h : (s.cluster c).loading = true) :
    ((s.updCluster cl (Cluster.claimed hold)).cluster c).loading = true := by
  by_cases hcl : c = cl
  · rw [hcl, cluster_updCluster_same, Cluster.claimed]
  · rwa [cluster_updCluster_ne hcl]

theorem loading_claimedBy (s : State) {g : Stage} {c : Nat} (hc : c ∈ g.clusters) :
    ((s.claimedBy g).cluster c).loading = true :=
  foldl_holds (P := fun u => (u.cluster c).loading = true)
    (f := fun (u : State) cl => u.updCluster cl (Cluster.claimed g.group))
    (fun u => by rw [cluster_updCluster_same, Cluster.claimed]) (fun _ cl hu => loading_updCluster_claimed g.group cl hu) hc s

theorem loading_claimed (s : State) {stages : List Stage} {g : Stage} {c : Nat} (hg : g ∈ stages) (hc : c ∈ g.clusters) :
    ((s.claimed stages).cluster c).loading = true :=
  foldl_holds (P := fun u => (u.cluster c).loading = true) (fun u => loading_claimedBy u hc)
    (fun _ b hu => List.foldlRecOn b.clusters _ (motive := fun v : State => (v.cluster c).loading = true) hu
      fun _ hv cl _ => loading_updCluster_claimed b.group cl hv) hg s

/-- R362, R364: the stages of a kernel with their clusters and groups. -/
def placedStages (k : Kernel) (cls : List (List Nat)) (gids : List Nat) : List Stage :=
  (k.stages.zip (cls.zip gids)).map (fun e => { e.1 with clusters := sorted e.2.1, group := some e.2.2 })

theorem mem_placedStages {k : Kernel} {cls : List (List Nat)} {gids : List Nat} (h1 : gids.length = cls.length)
    (h2 : cls.length = k.stages.length) {c : Nat} (hc : c ∈ cls.flatten) :
    ∃ g ∈ placedStages k cls gids, c ∈ g.clusters := by
  obtain ⟨l, hl, hcl⟩ := List.mem_flatten.1 hc
  obtain ⟨j, hj, rfl⟩ := List.getElem_of_mem hl
  have hz : j < (k.stages.zip (cls.zip gids)).length := by
    rw [List.length_zip, List.length_zip]
    omega
  refine ⟨_, List.mem_map_of_mem (List.getElem_mem hz), (mem_sorted c _).2 ?_⟩
  rwa [List.getElem_zip, List.getElem_zip]

/-- R363, R366: a kernel that is placed. -/
def Kernel.placed (stages : List Stage) (k : Kernel) : Kernel := { k with st := .loading, stages := stages, ver := 1 }

section
variable {s : State} {i : Nat} {k : Kernel} (hk : s.kernel i = some k)
include hk

/-- R362, R363, R366, R380: what a placement does, where the stages find clusters and groups. -/
theorem kernelPlacement_runs {cls : List (List Nat)} (hst : k.st = .declared)
    (hres : (s.partition k.part).bind (·.resident) = some (k.vf, k.pasid))
    (hpl : s.placement k.part (k.stages.map (·.desc)) = some cls) (h1 : (s.freeGids k.part cls.length).length = cls.length) :
    exec (.kernelPlacement i) s =
      (let stages := placedStages k cls (s.freeGids k.part cls.length)
       .next ((((s.claimed stages).updKernel i (Kernel.placed stages)).writeTable i).packetBegun k.vf k.q none)) := by
  refine runEvent_some ?_
  simp only [kernelPlacement, hk, hst, hres, hpl, h1, lt_irrefl, and_self, if_true, if_false]
  rfl

/-- R362, R363, R366: a declared kernel of the resident context is placed, and its clusters load. -/
theorem kernelPlacement_places {cls : List (List Nat)} {gids : List Nat} (hst : k.st = .declared)
    (hres : (s.partition k.part).bind (·.resident) = some (k.vf, k.pasid))
    (hpl : s.placement k.part (k.stages.map (·.desc)) = some cls) (hg : gids = s.freeGids k.part cls.length)
    (h1 : gids.length = cls.length) (h2 : cls.length = k.stages.length) :
    ∃ n, exec (.kernelPlacement i) s = .next n ∧ n.kernel i = some (k.placed (placedStages k cls gids)) ∧
      ∀ c ∈ cls.flatten, (n.cluster c).loading = true := by
  subst hg
  have hrun := kernelPlacement_runs hk hst hres hpl h1
  have hmem : ∀ c ∈ cls.flatten, ∃ g ∈ placedStages k cls (s.freeGids k.part cls.length), c ∈ g.clusters :=
    fun c hc => mem_placedStages h1 h2 hc
  generalize placedStages k cls (s.freeGids k.part cls.length) = stages at hrun hmem ⊢
  have hk1 : (s.claimed stages).kernel i = some k := (congrArg (kfind i) (kernels_claimed s stages)).trans hk
  have hkeep := (ridgeOnly_writeTable ((s.claimed stages).updKernel i (Kernel.placed stages)) i).keepsWork.trans
    (keepsWork_packetBegun _ k.vf k.q none)
  refine ⟨_, hrun, (hkeep.kernel_eq i).trans (kernel_updKernel_same hk1 _), fun c hc => ?_⟩
  obtain ⟨g, hg, hcg⟩ := hmem c hc
  rw [hkeep.cluster_eq, ← loading_claimed s hg hcg, State.updKernel, hk1]
  rfl

/-! ### Draining (R366, R367) -/

section
variable (hst : k.st = .draining) (hd : k.drained = false) (hres : s.kernelResident k = true)
  (hbusy : ∀ g ∈ k.stages, s.groupBusy k.part (g.group.getD 0) = false)
include hst hd hres hbusy

/-- R366, R367: a draining kernel whose work has been performed does as the lowest stage with an input slot held says. -/
theorem kernelDrained_finds {o : Option Nat}
    (hfind : (List.range k.stages.length).find? (fun j => ((k.stages[j]?).map s.inputHeld).getD false) = o) :
    exec (.kernelDrained i) s = .next (o.elim
      (if k.comp = 0 then s.endKernel i 0 none 0#64 else s.updKernel i (fun x => { x with drained := true }))
      (fun j => s.endKernel i 0x14 (some j) 0#64)) := by
  have hany : k.stages.any (fun g => s.groupBusy k.part (g.group.getD 0)) = false :=
    List.any_eq_false.2 fun g hg => Bool.eq_false_iff.1 (hbusy g hg)
  refine runEvent_some ?_
  simp only [kernelDrained, hk, hst, hd, hres, hany, hfind, ne_eq, not_true_eq_false, Bool.false_eq_true, Bool.not_true,
    or_self, if_false]
  cases o <;> rfl

/-- R366, R367: no input slot is held. -/
theorem kernelDrained_idle (hin : ∀ g ∈ k.stages, s.inputHeld g = false) :
    exec (.kernelDrained i) s = .next (if k.comp = 0 then s.endKernel i 0 none 0#64
      else s.updKernel i (fun x => { x with drained := true })) := by
  refine kernelDrained_finds hk hst hd hres hbusy (o := none) ?_
  rw [List.find?_eq_none]
  intro j hj
  rw [List.getElem?_eq_getElem (List.mem_range.1 hj)]
  exact Bool.eq_false_iff.1 (hin _ (List.getElem_mem _))

/-- R366: the lowest stage with an input slot held fails the kernel. -/
theorem kernelDrained_held {j : Nat} {g : Stage} (hg : k.stages[j]? = some g) (hheld : s.inputHeld g = true)
    (hlow : ∀ j' g', j' < j → k.stages[j']? = some g' → s.inputHeld g' = false) :
    exec (.kernelDrained i) s = .next (s.endKernel i 0x14 (some j) 0#64) := by
  obtain ⟨hj, -⟩ := List.getElem?_eq_some_iff.1 hg
  refine kernelDrained_finds hk hst hd hres hbusy (o := some j) ?_
  rw [List.find?_range_eq_some]
  refine ⟨by rw [hg]; exact hheld, List.mem_range.2 hj, fun j' hj' => ?_⟩
  have hlt : j' < k.stages.length := hj'.trans hj
  rw [List.getElem?_eq_getElem hlt, Bool.not_eq_true']
  exact hlow j' _ hj' (List.getElem?_eq_getElem hlt)

end

end

/-! ### Completion (R367, R381, R476) -/

/-- R367, R381: a kernel that is done is gone from the table. -/
theorem kernel_kernelDone (u : State) (i : Nat) (k : Kernel) (c : Nat) : (u.kernelDone i k c).kernel i = none := by
  unfold State.kernelDone
  generalize u.endKernel i 0 none 0#64 = v
  have hgone : ({ v.clearFails (.kernel i) with kernels := kdel i v.kernels } : State).kernel i = none :=
    kfind_kdel_same i v.kernels
  unfold State.launchDone
  generalize ({ v.clearFails (.kernel i) with kernels := kdel i v.kernels } : State) = m at hgone ⊢
  generalize (if c ≠ 0 then c else if k.stop then k.cause else 0) = cause
  dsimp only
  split
  · split
    · exact kernel_faultQueue_none hgone _ _ _
    · exact hgone
  · exact hgone

theorem outcome_lt (k : Kernel) : k.outcome < 256 ^ 8 := by
  unfold Kernel.outcome
  split <;> omega

/-- R381: a completion record written in one piece. -/
theorem ridgeWriteLocs_record (s : State) (a v w : Nat) (hv : v < 256 ^ 8) (hw : w < 256 ^ 8) :
    (s.ridgeWriteLocs [(a, 16)] (natBytes 8 v ++ natBytes 8 w)).read a 8 = v ∧
      (s.ridgeWriteLocs [(a, 16)] (natBytes 8 v ++ natBytes 8 w)).read (a + 8) 8 = w := by
  have htake : (natBytes 8 v ++ natBytes 8 w).take 16 = natBytes 8 v ++ natBytes 8 w :=
    List.take_of_length_le (by rw [List.length_append, length_natBytes, length_natBytes])
  have hrec := read_write_words ((s.writeRequest a (natBytes 8 v ++ natBytes 8 w)).touch 160 a
    (natBytes 8 v ++ natBytes 8 w).length true) a v w
  rw [Nat.mod_eq_of_lt hv, Nat.mod_eq_of_lt hw] at hrec
  simpa only [State.ridgeWriteLocs, htake, State.ridgeWrite] using hrec

/-- R367, R381, R476: the write of a completion record is due. -/
theorem launchCompletion_due {s : State} {k : Kernel}
    (h : (k.st.ended = true ∧ s.orphansLeft k.part = false) ∨ (k.st = .draining ∧ k.drained = true)) :
    (!(k.st.ended && !s.orphansLeft k.part) && !(decide (k.st = .draining) && k.drained)) = false := by
  obtain ⟨h1, h2⟩ | ⟨h1, h2⟩ := h
  · rw [h1, h2]; rfl
  · rw [h1, h2, decide_eq_true rfl, Bool.and_self, Bool.not_true, Bool.and_false]

section
variable {s : State} {i : Nat} {k : Kernel} (hk : s.kernel i = some k)
  (hdue : (k.st.ended = true ∧ s.orphansLeft k.part = false) ∨ (k.st = .draining ∧ k.drained = true))
include hk hdue

/-- R367: no completion record is to be written any more. -/
theorem launchCompletion_done (hw : k.comp = 0 ∨ k.written = true) :
    exec (.launchCompletionWrite i) s = .next (s.kernelDone i k 0) := by
  refine runEvent_some ?_
  simp only [launchCompletion, hk, launchCompletion_due hdue, Bool.false_eq_true, if_false, hw, if_true]

/-- R381, R476: the completion record is reached, and written. -/
theorem launchCompletion_writes {l : List (Nat × Nat)} (h0 : k.comp ≠ 0) (hw : k.written = false)
    (hr : s.reach k.vf k.pasid k.part true (.kernel i) k.comp 16 = .locs l) :
    exec (.launchCompletionWrite i) s =
      (let u := s.ridgeWriteLocs l (natBytes 8 k.outcome ++ natBytes 8 k.value.toNat)
       .next (if k.st.ended then u.kernelDone i k 0 else u.updKernel i (fun x => { x with written := true }))) := by
  refine runEvent_some ?_
  simp only [launchCompletion, hk, launchCompletion_due hdue, h0, hw, hr, Bool.false_eq_true, or_self, if_false]

/-- R381: a completion record that is refused. -/
theorem launchCompletion_refused {c a : Nat} (h0 : k.comp ≠ 0) (hw : k.written = false)
    (hr : s.reach k.vf k.pasid k.part true (.kernel i) k.comp 16 = .fail c a) :
    exec (.launchCompletionWrite i) s = .next (s.kernelDone i k c) := by
  refine runEvent_some ?_
  simp only [launchCompletion, hk, launchCompletion_due hdue, h0, hw, hr, Bool.false_eq_true, or_self, if_false]

end

end Sys2Proof.Machine
end

section
/-! PROOF. The memory that the loading of a stage writes (R120, R360, R364): images and initial records. -/
namespace Sys2Proof.Machine

/-! ### Bytes of a write (R99) -/

/-- A byte that a write reaches is that of the bytes written, another as it was. -/
theorem byte_write_at (s : State) (a j : Nat) (bs : List Byte) :
    (s.write a bs).byte (a + j) = bs[j]?.getD (s.byte (a + j)) := by
  by_cases hj : j < bs.length
  · have hne : bs.isEmpty = false := List.isEmpty_eq_false_iff.2 fun h => by
      simp only [h, List.length_nil, Nat.not_lt_zero] at hj
    rw [List.getElem?_eq_getElem hj, Option.getD_some]
    simp only [State.write, hne, Bool.false_eq_true, if_false, byte_clearTags]
    exact byte_putBytes_at hj
  · rw [List.getElem?_eq_none (by omega), Option.getD_none]
    exact byte_write_outside (.inr (by omega))

theorem length_readBytes (s : State) (a n : Nat) : (s.readBytes a n).length = n := by
  rw [State.readBytes, upto, List.length_map, List.length_map, List.length_range]

theorem getElem_readBytes (s : State) (a n j : Nat) (h : j < (s.readBytes a n).length) :
    (s.readBytes a n)[j] = s.byte (a + j) := by
  simp only [State.readBytes, upto, List.getElem_map, List.getElem_range]

/-- Bytes that stand as listed read as listed. -/
theorem readBytes_eq {s : State} {a : Nat} {bs : List Byte} (h : ∀ j (hj : j < bs.length), s.byte (a + j) = bs[j]) :
    s.readBytes a bs.length = bs :=
  List.ext_getElem (length_readBytes s a _) fun j h1 h2 => (getElem_readBytes s a _ j h1).trans (h j h2)

/-- Bytes that stand as before read as before. -/
theorem readBytes_congr {s n : State} {a len : Nat} (h : ∀ j, j < len → n.byte (a + j) = s.byte (a + j)) :
    n.readBytes a len = s.readBytes a len :=
  List.ext_getElem ((length_readBytes n a len).trans (length_readBytes s a len).symm) fun j h1 h2 => by
    rw [getElem_readBytes, getElem_readBytes]
    exact h j (by rwa [length_readBytes] at h1)

/-! ### Frames of memory (R99) -/

/-- What lies within a part of the bytes lies within them. -/
theorem ChangesOnly.widen {s t : State} {a n b m : Nat} (h : ChangesOnly s t b m) (h1 : a ≤ b) (h2 : b + m ≤ a + n) :
    ChangesOnly s t a n :=
  ⟨fun x hx => h.1 x (by omega), fun g hg => h.2 g (by omega)⟩

/-- R98, R99: a granule read where it was written, in memory that holds tags. -/
theorem readTagged_writeTagged (s : State) {a : Nat} (v : TV) (h16 : a % 16 = 0) (ht : taggedLoc a = true) :
    (s.writeTagged a v).readTagged a = v := by
  have hbits : BitVec.ofNat 128 ((s.writeTagged a v).read a 16) = v.bits := by
    rw [read_writeTagged, BitVec.ofNat_toNat, BitVec.setWidth_eq]
  have htag : (s.writeTagged a v).tagAt a = v.tag := by
    have hmem := mem_tags_writeTagged (s := s) (a := a) (v := v) (a / 16)
    have hout : ¬ (a / 16 < a / 16 ∨ (a + 15) / 16 < a / 16) := by omega
    rw [and_iff_left ht, eq_self, true_and, iff_false_intro hout, and_false, or_false] at hmem
    rw [State.tagAt, Bool.eq_iff_iff, decide_eq_true_eq, hmem]
  rw [State.readTagged, hbits, htag]

/-- A granule outside the bytes that change reads as before. -/
theorem ChangesOnly.readTagged {s t : State} {a n x : Nat} (h : ChangesOnly s t a n) (hn : 0 < n) (ha : a % 16 = 0)
    (hx : x % 16 = 0) (hout : x + 16 ≤ a ∨ a + n ≤ x) : t.readTagged x = s.readTagged x := by
  have hread : t.read x 16 = s.read x 16 := read_congr fun y h1 h2 => h.1 y (by omega)
  have htag : t.tagAt x = s.tagAt x := by
    simp only [State.tagAt, h.2 (x / 16) (by omega)]
  rw [State.readTagged, State.readTagged, hread, htag]

/-- A write of the ridge die changes its bytes. -/
theorem changesOnly_ridgeWrite (s : State) (a : Nat) (bs : List Byte) : ChangesOnly s (s.ridgeWrite a bs) a bs.length :=
  (changesOnly_write _ a bs).between (dirKeeps_touch s 160 a bs.length true).sameMemory (sameMemory_of rfl rfl)

/-! ### Records (R120, R364) -/

/-- R120: the record at a location holds these words and registers. -/
structure HoldsRecord (s : State) (loc w0 w1 : Nat) (g1 g2 g3 : TV) : Prop where
  word0 : s.read loc 8 = w0
  word1 : s.read (loc + 8) 8 = w1
  g1 : s.readTagged (loc + 16) = g1
  g2 : s.readTagged (loc + 32) = g2
  g3 : s.readTagged (loc + 48) = g3

/-- R364: an initial record written by the loader. -/
def State.putRecord (s : State) (loc w0 w1 : Nat) (g1 g2 g3 : TV) : State :=
  (((s.ridgeWrite loc (natBytes 8 w0 ++ natBytes 8 w1)).writeTagged (loc + 16) g1).writeTagged (loc + 32) g2).writeTagged
    (loc + 48) g3

section
variable {s t : State} {loc w0 w1 : Nat} {g1 g2 g3 : TV}

theorem changesOnly_putRecord : ChangesOnly s (s.putRecord loc w0 w1 g1 g2 g3) loc 64 := by
  have hwords := changesOnly_ridgeWrite s loc (natBytes 8 w0 ++ natBytes 8 w1)
  rw [List.length_append, length_natBytes, length_natBytes] at hwords
  unfold State.putRecord
  exact (((hwords.widen le_rfl (by omega)).trans ((changesOnly_writeTagged _ _ g1).widen (by omega) (by omega))).trans
    ((changesOnly_writeTagged _ _ g2).widen (by omega) (by omega))).trans
      ((changesOnly_writeTagged _ _ g3).widen (by omega) (by omega))

theorem ridgeOnly_putRecord : RidgeOnly s (s.putRecord loc w0 w1 g1 g2 g3) :=
  (((ridgeOnly_ridgeWrite s _ _).trans (memOnly_writeTagged _ _ _).ridgeOnly).trans (memOnly_writeTagged _ _ _).ridgeOnly).trans
    (memOnly_writeTagged _ _ _).ridgeOnly

/-- A record stands where it was written. -/
theorem holdsRecord_putRecord (h16 : loc % 16 = 0) (ht : loc / 2 ^ 60 = 9) (ht' : (loc + 63) / 2 ^ 60 = 9)
    (hw0 : w0 < 256 ^ 8) (hw1 : w1 < 256 ^ 8) : HoldsRecord (s.putRecord loc w0 w1 g1 g2 g3) loc w0 w1 g1 g2 g3 := by
  obtain ⟨hr0, hr1⟩ := read_write_words (s.touch 160 loc (natBytes 8 w0 ++ natBytes 8 w1).length true) loc w0 w1
  rw [Nat.mod_eq_of_lt hw0] at hr0
  rw [Nat.mod_eq_of_lt hw1] at hr1
  have htag : ∀ x, loc ≤ x → x < loc + 64 → taggedLoc x = true := fun x h1 h2 => by
    rw [taggedLoc, Bool.or_eq_true, decide_eq_true_eq, decide_eq_true_eq]
    omega
  unfold State.putRecord
  constructor
  · rw [read_writeTagged_below (by omega), read_writeTagged_below (by omega), read_writeTagged_below (by omega)]
    exact hr0
  · rw [read_writeTagged_below (by omega), read_writeTagged_below (by omega), read_writeTagged_below (by omega)]
    exact hr1
  · rw [(changesOnly_writeTagged _ _ _).readTagged (by decide) (by omega) (by omega) (.inl (by omega)),
      (changesOnly_writeTagged _ _ _).readTagged (by decide) (by omega) (by omega) (.inl (by omega)),
      readTagged_writeTagged _ _ (by omega) (htag _ (by omega) (by omega))]
  · rw [(changesOnly_writeTagged _ _ _).readTagged (by decide) (by omega) (by omega) (.inl (by omega)),
      readTagged_writeTagged _ _ (by omega) (htag _ (by omega) (by omega))]
  · rw [readTagged_writeTagged _ _ (by omega) (htag _ (by omega) (by omega))]

/-- A record stands that lies outside the bytes that change. -/
theorem HoldsRecord.frame {a n : Nat} (h : HoldsRecord s loc w0 w1 g1 g2 g3) (hc : ChangesOnly s t a n) (hn : 0 < n)
    (ha : a % 16 = 0) (hl : loc % 16 = 0) (hout : loc + 64 ≤ a ∨ a + n ≤ loc) : HoldsRecord t loc w0 w1 g1 g2 g3 := by
  obtain ⟨h0, h1, hg1, hg2, hg3⟩ := h
  constructor
  · rw [← h0]; exact read_congr fun x _ _ => hc.1 x (by omega)
  · rw [← h1]; exact read_congr fun x _ _ => hc.1 x (by omega)
  · rw [← hg1]; exact hc.readTagged hn ha (by omega) (by omega)
  · rw [← hg2]; exact hc.readTagged hn ha (by omega) (by omega)
  · rw [← hg3]; exact hc.readTagged hn ha (by omega) (by omega)

end

theorem recordWord0_lt (pc : Nat) (w c o : Bool) : recordWord0 pc w c o < 256 ^ 8 := by
  cases w <;> cases c <;> cases o <;> simp only [recordWord0, if_true, Bool.false_eq_true, if_false] <;> omega

theorem recordWord1_lt (sid gid pri state rm sr : Nat) : recordWord1 sid gid pri state rm sr < 256 ^ 8 := by
  simp only [recordWord1]
  omega

/-- Word 0 of an initial record is its program counter. -/
theorem recordWord0_fresh (pc : Nat) : recordWord0 pc false false false = pc % 2 ^ 57 := by
  simp only [recordWord0, Bool.false_eq_true, if_false, Nat.add_zero]

section
variable (s : State) (part gid : Nat) (d : BitVec 512) (cores : List Nat) (g2 g3 : TV)

/-- R364: the program counter of the initial strands of a stage. -/
def firstPc (d : BitVec 512) (cores : List Nat) : Nat := (spadBase ((cores.head?).getD 0) + sEntry d) % 2 ^ 57

theorem writeRecords_succ (n : Nat) : s.writeRecords part gid d cores g2 g3 (n + 1) =
    (s.writeRecords part gid d cores g2 g3 n).putRecord (privBase part + sArea d + 64 * n)
      (recordWord0 (firstPc d cores) false false false) (recordWord1 n gid (sPri d) 1 0 0) (frameCap d cores n) g2 g3 := by
  simp only [State.writeRecords, State.putRecord, firstPc]

theorem ridgeOnly_writeRecords (n : Nat) : RidgeOnly s (s.writeRecords part gid d cores g2 g3 n) := by
  induction n with
  | zero => exact .refl s
  | succ n ih => exact ih.trans ridgeOnly_putRecord

theorem changesOnly_writeRecords (n : Nat) :
    ChangesOnly s (s.writeRecords part gid d cores g2 g3 n) (privBase part + sArea d) (64 * n) := by
  induction n with
  | zero => exact .of_same (sameMemory_of rfl rfl) _ _
  | succ n ih =>
    exact (ih.widen le_rfl (by omega)).trans (changesOnly_putRecord.widen (by omega) (by omega))

/-- R364: each initial record of a stage stands in its area. -/
theorem holdsRecord_writeRecords {part : Nat} {d : BitVec 512} (hp : part < 2 ^ 10) (ha : sArea d % 64 = 0) {n j : Nat}
    (hn : sArea d + 64 * n ≤ 2 ^ 47) (hj : j < n) : HoldsRecord (s.writeRecords part gid d cores g2 g3 n)
      (privBase part + sArea d + 64 * j) (firstPc d cores) (recordWord1 j gid (sPri d) 1 0 0) (frameCap d cores j) g2 g3 := by
  have hpc : recordWord0 (firstPc d cores) false false false = firstPc d cores := by
    rw [recordWord0_fresh, firstPc, Nat.mod_mod]
  induction n with
  | zero => omega
  | succ n ih =>
    rw [writeRecords_succ]
    by_cases hlast : j = n
    · subst hlast
      have hrec := holdsRecord_putRecord (s := s.writeRecords part gid d cores g2 g3 j)
        (loc := privBase part + sArea d + 64 * j) (g1 := frameCap d cores j) (g2 := g2) (g3 := g3) (by unfold privBase; omega)
        (by unfold privBase; omega) (by unfold privBase; omega) (recordWord0_lt (firstPc d cores) false false false)
        (recordWord1_lt j gid (sPri d) 1 0 0)
      rwa [hpc] at hrec ⊢
    · exact (ih (by omega) (by omega)).frame changesOnly_putRecord (by decide) (by unfold privBase; omega)
        (by unfold privBase; omega) (.inl (by omega))

end

end Sys2Proof.Machine
end

section
/-! PROOF. The loading of a stage (R147, R364, R365): what its cores and clusters hold after it. -/
namespace Sys2Proof.Machine

/-! ### Cores of a cluster (R11, R12, R142) -/

theorem mem_coresOfCluster {cl c : Nat} (hcl : cl < 160) (h : c ∈ coresOfCluster cl) : c < 1280 ∧ clusterOf c = cl := by
  obtain ⟨sl, hsl, rfl⟩ := List.mem_map.1 h
  have hlt := List.mem_range.1 hsl
  have hc : coreOfSlot cl sl < 1280 := by
    simp only [coreOfSlot, hcl, if_true, coreAt]
    omega
  refine ⟨hc, ?_⟩
  simp only [clusterOf, hc, if_true, coreDie, coreRow, coreCol]
  simp only [coreOfSlot, hcl, if_true, coreAt]
  omega

theorem nodup_coresOfCluster {cl : Nat} (hcl : cl < 160) : (coresOfCluster cl).Nodup := by
  refine List.Nodup.map_on (fun x hx y hy h => ?_) List.nodup_range
  have hx := List.mem_range.1 hx
  have hy := List.mem_range.1 hy
  simp only [coreOfSlot, hcl, if_true, coreAt] at h
  omega

/-- R142: the scratchpads of two cores lie apart. -/
theorem spadBase_apart {c k : Nat} (hc : c < 1280) (hk : k < 1280) (h : c ≠ k) :
    spadBase c + 2 ^ 19 ≤ spadBase k ∨ spadBase k + 2 ^ 19 ≤ spadBase c := by
  simp only [spadBase, coreDie, coreRow, coreCol, hc, hk, if_true]
  omega

/-- R142, R278: scratchpads lie below the windows of the partitions. -/
theorem spadBase_lt_privBase {c : Nat} (hc : c < 1280) (part : Nat) : spadBase c + 2 ^ 19 ≤ privBase part := by
  simp only [spadBase, privBase, coreDie, coreRow, coreCol, hc, if_true]
  omega

/-! ### Joining a stage (R364) -/

/-- R364: a core that joins a stage: MEMBER, and the input entry where the stage has one. -/
def Core.joined (d : BitVec 512) (m : Word) (c : Core) : Core :=
  { c with memberReg := m,
           chans := if sIon d then kset (sIch d) { Chan.opened (sIbase d) (16 * 2 ^ sIssz d) (sIcap d) with ends := 0 } c.chans
             else c.chans }

/-- R147: a core under the boundary of a stage's code. -/
def Core.bounded (d : BitVec 512) (c : Core) : Core :=
  { c with xobound := BitVec.ofNat 64 (sTop d), fetchBound := BitVec.ofNat 64 (sTop d) }

/-- Changes of the cores listed, seen at one of them. -/
theorem core_foldl_updCore {F : Nat → Core → Core} {l : List Nat} {c : Nat} (hc : c ∈ l) (hl : l.Nodup) (s : State) :
    (l.foldl (fun (st : State) k => st.updCore k (F k)) s).core c = F c (s.core c) :=
  foldl_once (R := (State.core · c)) (f := fun (st : State) k => st.updCore k (F k)) (fun u => core_updCore_same u c _) hc hl
    (fun u _ _ hb => core_updCore_ne (Ne.symm hb) u _) s

theorem core_foldl_updCore_other {F : Nat → Core → Core} {l : List Nat} {c : Nat} (hc : c ∉ l) (s : State) :
    (l.foldl (fun (st : State) k => st.updCore k (F k)) s).core c = s.core c :=
  foldl_leaves (R := (State.core · c)) (f := fun (st : State) k => st.updCore k (F k))
    (fun u k hk => core_updCore_ne (fun h : c = k => hc (h ▸ hk)) u _) s

/-- Only cores, memory and its tags differ. -/
def ScratchOnly (s n : State) : Prop := { n with cores := s.cores, mem := s.mem, tags := s.tags } = s

theorem ScratchOnly.trans {s m n : State} (h : ScratchOnly s m) (h' : ScratchOnly m n) : ScratchOnly s n :=
  (congrArg (fun x : State => ({ x with cores := s.cores, mem := s.mem, tags := s.tags } : State)) h' :).trans h

theorem ScratchOnly.fold {α : Type} {f : State → α → State} (h : ∀ s a, ScratchOnly s (f s a)) (l : List α) (s : State) :
    ScratchOnly s (l.foldl f s) :=
  List.foldlRecOn l f (motive := ScratchOnly s) rfl fun u hu a _ => hu.trans (h u a)

section
variable {s n : State} (h : ScratchOnly s n)
include h

theorem ScratchOnly.kernels_eq : n.kernels = s.kernels := (congrArg State.kernels h :)

theorem ScratchOnly.cluster_eq (cl : Nat) : n.cluster cl = s.cluster cl := (congrArg (State.cluster · cl) h :)

theorem ScratchOnly.memberOf_eq (part gid k : Nat) : n.memberOf part gid k = s.memberOf part gid k :=
  (congrArg (State.memberOf · part gid k) h :)

end

section
variable (s : State) (part gid : Nat) (d : BitVec 512) (cl : Nat)

theorem joinStage_eq : s.joinStage part gid d cl = (coresOfCluster cl).foldl (fun (st : State) k =>
    st.updCore k (Core.joined d (s.memberOf part gid k))) s := rfl

theorem core_joinStage {c : Nat} (hcl : cl < 160) (hc : c ∈ coresOfCluster cl) :
    (s.joinStage part gid d cl).core c = (s.core c).joined d (s.memberOf part gid c) := by
  rw [joinStage_eq, core_foldl_updCore (F := fun k => Core.joined d (s.memberOf part gid k)) hc (nodup_coresOfCluster hcl)]

theorem core_joinStage_other {c : Nat} (hc : c ∉ coresOfCluster cl) : (s.joinStage part gid d cl).core c = s.core c := by
  rw [joinStage_eq, core_foldl_updCore_other (F := fun k => Core.joined d (s.memberOf part gid k)) hc]

theorem joinStage_mem : (s.joinStage part gid d cl).mem = s.mem := by
  rw [joinStage_eq]
  exact foldl_keeps (P := State.mem) (f := fun (st : State) k => st.updCore k (Core.joined d (s.memberOf part gid k)))
    (fun _ _ => rfl) _ s

theorem scratchOnly_joinStage : ScratchOnly s (s.joinStage part gid d cl) := by
  rw [joinStage_eq]
  exact .fold (f := fun (st : State) k => st.updCore k (Core.joined d (s.memberOf part gid k))) (fun _ _ => rfl) _ s

end

/-! ### The image of a stage (R147, R365) -/

/-- R365: the code of one core written, unless its cluster holds the image, and the boundary set. -/
def State.placeCode (d : BitVec 512) (bytes : List Byte) (copied : Bool) (s : State) (k : Nat) : State :=
  (if copied then s.write (spadBase k) bytes else s).updCore k (Core.bounded d)

section
variable (s : State) (d : BitVec 512) (bytes : List Byte) (copied : Bool) (k : Nat)

theorem memOnly_code : MemOnly s (if copied then s.write (spadBase k) bytes else s) := by
  split
  · exact memOnly_write s _ _
  · rfl

theorem core_placeCode : (s.placeCode d bytes copied k).core k = (s.core k).bounded d :=
  (core_updCore_same _ k _).trans (congrArg (Core.bounded d) ((memOnly_code s bytes copied k).ridgeOnly.core_eq k))

theorem core_placeCode_other {c : Nat} (h : c ≠ k) : (s.placeCode d bytes copied k).core c = s.core c :=
  (core_updCore_ne h _ _).trans ((memOnly_code s bytes copied k).ridgeOnly.core_eq c)

theorem scratchOnly_placeCode : ScratchOnly s (s.placeCode d bytes copied k) :=
  ScratchOnly.trans (m := if copied then s.write (spadBase k) bytes else s)
    (congrArg (fun x : State => ({ x with cores := s.cores } : State)) (memOnly_code s bytes copied k) :) rfl

theorem byte_placeCode (j : Nat) : (s.placeCode d bytes copied k).byte (spadBase k + j) =
    if copied then bytes[j]?.getD (s.byte (spadBase k + j)) else s.byte (spadBase k + j) := by
  cases copied with
  | false => rfl
  | true => exact byte_write_at s (spadBase k) j bytes

theorem byte_placeCode_other {x : Nat} (h : x < spadBase k ∨ spadBase k + bytes.length ≤ x) :
    (s.placeCode d bytes copied k).byte x = s.byte x := by
  cases copied with
  | false => rfl
  | true => exact byte_write_outside h

end

section
variable (s : State) (key : Nat × Nat × Nat) (d : BitVec 512) (bytes : List Byte) (cl : Nat)

theorem placeImage_eq : s.placeImage key d bytes cl =
    ((coresOfCluster cl).foldl (State.placeCode d bytes (decide ((s.cluster cl).resident ≠ some key))) s).updCluster cl
      (fun c => { c with resident := some key, loading := false }) := rfl

theorem core_placeImage {c : Nat} (hcl : cl < 160) (hc : c ∈ coresOfCluster cl) :
    (s.placeImage key d bytes cl).core c = (s.core c).bounded d :=
  foldl_once (R := (State.core · c)) (fun u => core_placeCode u d bytes _ c) hc (nodup_coresOfCluster hcl)
    (fun u b _ hb => core_placeCode_other u d bytes _ b (Ne.symm hb)) s

theorem core_placeImage_other {c : Nat} (hc : c ∉ coresOfCluster cl) : (s.placeImage key d bytes cl).core c = s.core c :=
  foldl_leaves (R := (State.core · c)) (fun u b hb => core_placeCode_other u d bytes _ b fun h => hc (h.symm ▸ hb)) s

/-- Placing an image changes the cluster but in its entry, else only cores and memory. -/
theorem scratchOnly_placeImage : ∃ m, ScratchOnly s m ∧ s.placeImage key d bytes cl =
    m.updCluster cl (fun c => { c with resident := some key, loading := false }) :=
  ⟨_, .fold (fun u k => scratchOnly_placeCode u d bytes _ k) _ s, placeImage_eq s key d bytes cl⟩

/-- R365: the code of a cluster that does not hold the image. -/
theorem byte_placeImage {c j : Nat} (hcl : cl < 160) (hc : c ∈ coresOfCluster cl) (hb : bytes.length ≤ 2 ^ 19)
    (hj : j < 2 ^ 19) : (s.placeImage key d bytes cl).byte (spadBase c + j) =
      if (s.cluster cl).resident = some key then s.byte (spadBase c + j) else bytes[j]?.getD (s.byte (spadBase c + j)) := by
  have hfold := foldl_once (R := (State.byte · (spadBase c + j)))
    (g := fun b => if decide ((s.cluster cl).resident ≠ some key) then bytes[j]?.getD b else b)
    (fun u => byte_placeCode u d bytes (decide ((s.cluster cl).resident ≠ some key)) c j) hc (nodup_coresOfCluster hcl)
    (fun u k hk hne => byte_placeCode_other u d bytes _ k (by
      have happart := spadBase_apart (mem_coresOfCluster hcl hc).1 (mem_coresOfCluster hcl hk).1 (Ne.symm hne)
      omega)) s
  refine hfold.trans ?_
  by_cases hres : (s.cluster cl).resident = some key
  · simp only [hres, ne_eq, not_true_eq_false, decide_false, Bool.false_eq_true, if_false, if_true]
  · simp only [hres, ne_eq, not_false_eq_true, decide_true, if_true, if_false]

theorem byte_placeImage_other {x : Nat} (hx : ∀ k ∈ coresOfCluster cl, x < spadBase k ∨ spadBase k + bytes.length ≤ x) :
    (s.placeImage key d bytes cl).byte x = s.byte x :=
  foldl_leaves (R := (State.byte · x)) (fun u k hk => byte_placeCode_other u d bytes _ k (hx k hk)) s

end

/-! ### Clusters that enter a stage (R364) -/

/-- R364: a cluster taken by a stage. -/
def Cluster.entered (key : Nat × Nat × Nat) (hold : Option Nat) (c : Cluster) : Cluster :=
  { c with resident := some key, loading := false, holder := hold }

/-- R364: the cores of a cluster made those of a stage, with its image. -/
def State.enter (part gid : Nat) (hold : Option Nat) (key : Nat × Nat × Nat) (d : BitVec 512) (bytes : List Byte) (s : State)
    (cl : Nat) : State :=
  ((s.joinStage part gid d cl).placeImage key d bytes cl).updCluster cl (fun c => { c with holder := hold })

section
variable (s : State) (part gid : Nat) (hold : Option Nat) (key : Nat × Nat × Nat) (d : BitVec 512) (bytes : List Byte)
  (cl : Nat)

theorem core_enter {c : Nat} (hcl : cl < 160) (hc : c ∈ coresOfCluster cl) :
    (s.enter part gid hold key d bytes cl).core c = ((s.core c).joined d (s.memberOf part gid c)).bounded d :=
  (core_placeImage _ key d bytes cl hcl hc).trans (congrArg (Core.bounded d) (core_joinStage s part gid d cl hcl hc))

theorem core_enter_other {c : Nat} (hc : c ∉ coresOfCluster cl) : (s.enter part gid hold key d bytes cl).core c = s.core c :=
  (core_placeImage_other _ key d bytes cl hc).trans (core_joinStage_other s part gid d cl hc)

/-- Entering a stage changes the cluster in its entry, else only cores and memory. -/
theorem scratchOnly_enter : ∃ m, ScratchOnly s m ∧ s.enter part gid hold key d bytes cl =
    (m.updCluster cl (fun c => { c with resident := some key, loading := false })).updCluster cl
      (fun c => { c with holder := hold }) := by
  obtain ⟨m, hm, heq⟩ := scratchOnly_placeImage (s.joinStage part gid d cl) key d bytes cl
  exact ⟨m, (scratchOnly_joinStage s part gid d cl).trans hm, by rw [State.enter, heq]⟩

theorem kernels_enter : (s.enter part gid hold key d bytes cl).kernels = s.kernels := by
  obtain ⟨m, hm, heq⟩ := scratchOnly_enter s part gid hold key d bytes cl
  rw [heq]
  exact hm.kernels_eq

theorem memberOf_enter (k : Nat) : (s.enter part gid hold key d bytes cl).memberOf part gid k = s.memberOf part gid k := by
  obtain ⟨m, hm, heq⟩ := scratchOnly_enter s part gid hold key d bytes cl
  rw [heq]
  exact hm.memberOf_eq part gid k

theorem cluster_enter : (s.enter part gid hold key d bytes cl).cluster cl = (s.cluster cl).entered key hold := by
  obtain ⟨m, hm, heq⟩ := scratchOnly_enter s part gid hold key d bytes cl
  rw [heq, cluster_updCluster_same, cluster_updCluster_same, hm.cluster_eq, Cluster.entered]

theorem cluster_enter_other {b : Nat} (h : b ≠ cl) : (s.enter part gid hold key d bytes cl).cluster b = s.cluster b := by
  obtain ⟨m, hm, heq⟩ := scratchOnly_enter s part gid hold key d bytes cl
  rw [heq, cluster_updCluster_ne h, cluster_updCluster_ne h, hm.cluster_eq]

theorem byte_enter {c j : Nat} (hcl : cl < 160) (hc : c ∈ coresOfCluster cl) (hb : bytes.length ≤ 2 ^ 19) (hj : j < 2 ^ 19) :
    (s.enter part gid hold key d bytes cl).byte (spadBase c + j) =
      if (s.cluster cl).resident = some key then s.byte (spadBase c + j) else bytes[j]?.getD (s.byte (spadBase c + j)) := by
  have hplace := byte_placeImage (s.joinStage part gid d cl) key d bytes cl hcl hc hb hj
  rw [(scratchOnly_joinStage s part gid d cl).cluster_eq, byte_of_mem (joinStage_mem s part gid d cl)] at hplace
  exact hplace

theorem byte_enter_other {x : Nat} (hx : ∀ k ∈ coresOfCluster cl, x < spadBase k ∨ spadBase k + bytes.length ≤ x) :
    (s.enter part gid hold key d bytes cl).byte x = s.byte x :=
  (byte_placeImage_other _ key d bytes cl hx).trans (byte_of_mem (joinStage_mem s part gid d cl) x)

variable (l : List Nat)

theorem kernels_enterAll : (l.foldl (State.enter part gid hold key d bytes) s).kernels = s.kernels :=
  foldl_keeps (P := State.kernels) (fun u cl => kernels_enter u part gid hold key d bytes cl) l s

/-- R364: a cluster of a stage after all have entered it. -/
theorem cluster_enterAll (hnd : l.Nodup) (hcl : cl ∈ l) :
    (l.foldl (State.enter part gid hold key d bytes) s).cluster cl = (s.cluster cl).entered key hold :=
  foldl_once (R := (State.cluster · cl)) (fun u => cluster_enter u part gid hold key d bytes cl) hcl hnd
    (fun u b _ hb => cluster_enter_other u part gid hold key d bytes b (Ne.symm hb)) s

variable (hl : ∀ cl ∈ l, cl < 160) (hnd : l.Nodup) (hcl : cl ∈ l)
include hl hnd hcl

/-- R364: a core of a stage after all clusters have entered it. -/
theorem core_enterAll {c : Nat} (hc : c ∈ coresOfCluster cl) : (l.foldl (State.enter part gid hold key d bytes) s).core c =
    ((s.core c).joined d (s.memberOf part gid c)).bounded d := by
  have hpair := foldl_once (R := fun u : State => (u.core c, u.memberOf part gid c))
    (g := fun e => ((e.1.joined d e.2).bounded d, e.2)) (f := State.enter part gid hold key d bytes) (a := cl)
    (fun u => Prod.ext (core_enter u part gid hold key d bytes cl (hl cl hcl) hc)
      (memberOf_enter u part gid hold key d bytes cl c))
    hcl hnd (fun u b hb hne => Prod.ext (core_enter_other u part gid hold key d bytes b fun h => hne ?_)
      (memberOf_enter u part gid hold key d bytes b c)) s
  · exact congrArg Prod.fst hpair
  · exact (mem_coresOfCluster (hl b hb) h).2.symm.trans (mem_coresOfCluster (hl cl hcl) hc).2

/-- R365: the code of a core of a stage after all clusters have entered it. -/
theorem byte_enterAll {c j : Nat} (hc : c ∈ coresOfCluster cl) (hb : bytes.length ≤ 2 ^ 19) (hj : j < 2 ^ 19) :
    (l.foldl (State.enter part gid hold key d bytes) s).byte (spadBase c + j) =
      if (s.cluster cl).resident = some key then s.byte (spadBase c + j) else bytes[j]?.getD (s.byte (spadBase c + j)) := by
  have hcore := mem_coresOfCluster (hl cl hcl) hc
  have hpair := foldl_once (R := fun u : State => (u.cluster cl, u.byte (spadBase c + j)))
    (g := fun e => (e.1.entered key hold, if e.1.resident = some key then e.2 else bytes[j]?.getD e.2))
    (f := State.enter part gid hold key d bytes) (a := cl)
    (fun u => Prod.ext (cluster_enter u part gid hold key d bytes cl)
      (byte_enter u part gid hold key d bytes cl (hl cl hcl) hc hb hj)) hcl hnd
    (fun u b hbl hne => Prod.ext (cluster_enter_other u part gid hold key d bytes b (Ne.symm hne))
      (byte_enter_other u part gid hold key d bytes b fun k hk => ?_)) s
  · exact congrArg Prod.snd hpair
  · have hk := mem_coresOfCluster (hl b hbl) hk
    have happart := spadBase_apart hcore.1 hk.1 fun h => hne (by rw [← hk.2, ← h, hcore.2])
    omega

end

end Sys2Proof.Machine
end

section
/-! PROOF. A loaded stage and a loaded kernel (R147, R362 to R367, R381, R476). -/
namespace Sys2Proof.Machine

/-! ### The parts of a loaded stage (R364) -/

section
variable (s : State) (i : Nat) (k : Kernel) (j : Nat) (g : Stage) (bytes : List Byte)

/-- R364: the clusters of a stage have entered it. -/
def State.stageEntered : State :=
  g.clusters.foldl (State.enter k.part (g.group.getD 0) g.group (k.image j) g.desc bytes) s

/-- R364: the initial pool of a stage. -/
def initialPool (d : BitVec 512) : List (Nat × Nat) :=
  (List.range (sNinit d)).map (fun j => (0x9000000000000000 + sArea d + 64 * j, sPri d))

/-- R364: the group of a stage as it is loaded, before its domains. -/
def State.initialGroup : Group :=
  { gid := g.group.getD 0, part := k.part, kernel := i, stage := j, pool := initialPool g.desc, live := sNinit g.desc,
    limit := sLim g.desc, nextId := sNinit g.desc, cores := coresOf g.clusters,
    code := (narrow (mkCap 0 0 0 0 permExec) (spadBase (((coresOf g.clusters).head?).getD 0))
      (spadBase (((coresOf g.clusters).head?).getD 0) + sIsz g.desc)).1,
    ceiling := sCeil g.desc, doms := [], registered := [], delays := [], windows := [], poolAt := poolLoc k.part g.desc,
    pushes := sNinit g.desc, partId := BitVec.ofNat 64 (s.partIdFor k.part k.vf) }

/-- R364: the state with the initial records of a stage, before its pool. -/
def State.stageRecorded : State :=
  (s.stageEntered k j g bytes).writeRecords k.part (g.group.getD 0) g.desc (coresOf g.clusters)
    ((argCap k.arg.toNat k.argLen).getD TV.zero) (((s.context k.vf k.pasid).map (·.global)).getD TV.zero) (sNinit g.desc)

/-- R364: the records and the pool of a stage are written. -/
def State.stageWritten : State :=
  (s.stageRecorded k j g bytes).ridgeWrite (poolLoc k.part g.desc) ((initialPool g.desc).flatMap (fun e => natBytes 8 e.1))

theorem loadStage_eq : s.loadStage i k j g bytes = { s.stageWritten k j g bytes with
    groups := kset (groupKey k.part (g.group.getD 0)) { s.initialGroup i k j g with
      doms := (s.stageWritten k j g bytes).domainsOf (s.initialGroup i k j g) } (s.stageWritten k j g bytes).groups } := rfl

/-- What is written of a stage leaves cores and clusters. -/
theorem ridgeOnly_stageWritten : RidgeOnly (s.stageEntered k j g bytes) (s.stageWritten k j g bytes) :=
  (ridgeOnly_writeRecords _ _ _ _ _ _ _ _).trans (ridgeOnly_ridgeWrite _ _ _)

theorem kernels_loadStage : (s.loadStage i k j g bytes).kernels = s.kernels :=
  (ridgeOnly_stageWritten s k j g bytes).kernels_eq.trans (kernels_enterAll s _ _ _ _ _ _ _)

theorem core_loadStage (c : Nat) : (s.loadStage i k j g bytes).core c = (s.stageEntered k j g bytes).core c :=
  (ridgeOnly_stageWritten s k j g bytes).core_eq c

theorem cluster_loadStage (cl : Nat) : (s.loadStage i k j g bytes).cluster cl = (s.stageEntered k j g bytes).cluster cl :=
  (ridgeOnly_stageWritten s k j g bytes).cluster_eq cl

theorem group_loadStage : (s.loadStage i k j g bytes).group k.part (g.group.getD 0) = some { s.initialGroup i k j g with
    doms := (s.stageWritten k j g bytes).domainsOf (s.initialGroup i k j g) } := by
  rw [loadStage_eq]
  exact kfind_kset_same _ _ _

theorem length_poolBytes (d : BitVec 512) : ((initialPool d).flatMap (fun e => natBytes 8 e.1)).length = 8 * sNinit d := by
  rw [List.length_flatMap]
  simp only [length_natBytes, List.map_const', List.sum_replicate, initialPool, List.length_map, List.length_range,
    smul_eq_mul]
  exact Nat.mul_comm _ _

/-- The pool is written behind the records. -/
theorem changesOnly_pool : ChangesOnly (s.stageRecorded k j g bytes) (s.loadStage i k j g bytes) (poolLoc k.part g.desc)
    (8 * sNinit g.desc) := by
  have h := changesOnly_ridgeWrite (s.stageRecorded k j g bytes) (poolLoc k.part g.desc)
    ((initialPool g.desc).flatMap (fun e => natBytes 8 e.1))
  rw [length_poolBytes] at h
  exact h.between (sameMemory_of rfl rfl) (sameMemory_of rfl rfl)

/-- Scratchpad is not written with the records. -/
theorem byte_loadStage_spad {c x : Nat} (hc : c < 1280) (hx : x < 2 ^ 19) :
    (s.loadStage i k j g bytes).byte (spadBase c + x) = (s.stageEntered k j g bytes).byte (spadBase c + x) := by
  have hbelow := spadBase_lt_privBase hc k.part
  have hpool := (changesOnly_pool s i k j g bytes).1 (spadBase c + x) (.inl (by unfold poolLoc; omega))
  exact hpool.trans ((changesOnly_writeRecords _ _ _ _ _ _ _ _).1 _ (.inl (by omega)))

/-- R364: each initial record of a loaded stage. -/
theorem holdsRecord_loadStage {x : Nat} (hp : k.part < 2 ^ 10) (ha : sArea g.desc % 64 = 0)
    (hn : sArea g.desc + 72 * sNinit g.desc ≤ 2 ^ 47) (hx : x < sNinit g.desc) : HoldsRecord (s.loadStage i k j g bytes)
      (privBase k.part + sArea g.desc + 64 * x) (firstPc g.desc (coresOf g.clusters))
      (recordWord1 x (g.group.getD 0) (sPri g.desc) 1 0 0) (frameCap g.desc (coresOf g.clusters) x)
      ((argCap k.arg.toNat k.argLen).getD TV.zero) (((s.context k.vf k.pasid).map (·.global)).getD TV.zero) := by
  have hrec := holdsRecord_writeRecords (s.stageEntered k j g bytes) (g.group.getD 0) (coresOf g.clusters)
    ((argCap k.arg.toNat k.argLen).getD TV.zero) (((s.context k.vf k.pasid).map (·.global)).getD TV.zero) hp ha
    (n := sNinit g.desc) (by omega) hx
  exact hrec.frame (changesOnly_pool s i k j g bytes) (by omega) (by unfold poolLoc privBase; omega)
    (by unfold privBase; omega) (.inl (by unfold poolLoc; omega))

end

/-! ### What a loaded stage holds (R147, R364, R365) -/

section
variable {u n : State} {i : Nat} {k : Kernel} {g : Stage} {gid : Nat} {bytes : List Byte} (hg : g.group = some gid)
  (hn : n = u.loadStage i k 0 g bytes)
include hg hn

/-- R364: the group of a loaded stage. -/
theorem loadStage_group {grp : Group} (hgrp : n.group k.part gid = some grp) :
    grp.kernel = i ∧ grp.live = sNinit g.desc ∧ grp.limit = sLim g.desc ∧ grp.ceiling = sCeil g.desc ∧
      grp.cores = coresOf g.clusters ∧
      grp.pool = (List.range (sNinit g.desc)).map (fun j => (0x9000000000000000 + sArea g.desc + 64 * j, sPri g.desc)) ∧
      grp.poolAt = poolLoc k.part g.desc ∧ grp.pushes = sNinit g.desc := by
  have hgroup := group_loadStage u i k 0 g bytes
  rw [hg, Option.getD_some, ← hn, hgrp] at hgroup
  rw [Option.some.inj hgroup]
  exact ⟨rfl, rfl, rfl, rfl, rfl, rfl, rfl, rfl⟩

/-- R147, R364, R365: the clusters and the cores of a loaded stage. -/
theorem loadStage_clusters {cl : Nat} (hcl : ∀ b ∈ g.clusters, b < 160) (hnd : g.clusters.Nodup)
    (hb : bytes.length ≤ 2 ^ 19) (hmem : cl ∈ g.clusters) :
    (n.cluster cl).resident = some (k.image 0) ∧ (n.cluster cl).holder = some gid ∧
      ∀ c ∈ coresOfCluster cl, (n.core c).xobound = BitVec.ofNat 64 (sTop g.desc) ∧
        (n.core c).memberReg = u.memberOf k.part gid c ∧
        (sIon g.desc = true → n.chan c (sIch g.desc) =
          some { Chan.opened (sIbase g.desc) (16 * 2 ^ sIssz g.desc) (sIcap g.desc) with ends := 0 }) ∧
        ((u.cluster cl).resident ≠ some (k.image 0) → n.readBytes (spadBase c) bytes.length = bytes) ∧
        ((u.cluster cl).resident = some (k.image 0) →
          n.readBytes (spadBase c) (2 ^ 19) = u.readBytes (spadBase c) (2 ^ 19)) := by
  have hcluster : n.cluster cl = (u.cluster cl).entered (k.image 0) g.group := by
    rw [hn, cluster_loadStage]
    exact cluster_enterAll u k.part _ g.group _ g.desc bytes cl g.clusters hnd hmem
  refine ⟨by rw [hcluster]; rfl, by rw [hcluster, ← hg]; rfl, fun c hc => ?_⟩
  have hcore : n.core c = ((u.core c).joined g.desc (u.memberOf k.part gid c)).bounded g.desc := by
    rw [hn, core_loadStage, ← Option.getD_some (a := gid) (b := 0), ← hg]
    exact core_enterAll u k.part _ g.group _ g.desc bytes cl g.clusters hcl hnd hmem hc
  have hbyte : ∀ x, x < 2 ^ 19 → n.byte (spadBase c + x) = if (u.cluster cl).resident = some (k.image 0)
      then u.byte (spadBase c + x) else bytes[x]?.getD (u.byte (spadBase c + x)) := fun x hx => by
    rw [hn, byte_loadStage_spad u i k 0 g bytes (mem_coresOfCluster (hcl cl hmem) hc).1 hx]
    exact byte_enterAll u k.part _ g.group _ g.desc bytes cl g.clusters hcl hnd hmem hc hb hx
  refine ⟨by rw [hcore]; rfl, by rw [hcore]; rfl, fun hion => ?_, fun hres => ?_, fun hres => ?_⟩
  · simp only [State.chan, hcore, Core.bounded, Core.joined, hion, if_true, kfind_kset_same]
  · refine readBytes_eq fun x hx => ?_
    rw [hbyte x (by omega), if_neg hres, List.getElem?_eq_getElem hx, Option.getD_some]
  · exact readBytes_congr fun x hx => by rw [hbyte x hx, if_pos hres]

/-- R120, R364: the initial records of a loaded stage. -/
theorem loadStage_records {j loc : Nat} (hp : k.part < 2 ^ 10) (ha : sArea g.desc % 64 = 0)
    (hsize : sArea g.desc + 72 * sNinit g.desc ≤ 2 ^ 47) (hj : j < sNinit g.desc)
    (hloc : loc = privBase k.part + sArea g.desc + 64 * j) :
    HoldsRecord n loc (firstPc g.desc (coresOf g.clusters)) (recordWord1 j gid (sPri g.desc) 1 0 0)
      (frameCap g.desc (coresOf g.clusters) j) ((argCap k.arg.toNat k.argLen).getD TV.zero)
      (((u.context k.vf k.pasid).map (·.global)).getD TV.zero) := by
  have hrec := holdsRecord_loadStage u i k 0 g bytes hp ha hsize hj
  rw [hg, Option.getD_some, ← hn, ← hloc] at hrec
  exact hrec

end

/-! ### Loading a kernel (R364, R366) -/

section
variable {s : State} {i : Nat} {k : Kernel} (hk : s.kernel i = some k) (hst : k.st = .loading)
  (hres : (s.partition k.part).bind (·.resident) = some (k.vf, k.pasid)) (hheld : s.areasHeld k = false)

/-- R289: the images of a kernel are read. -/
def State.imagesTouched (s : State) (l : List (Nat × Nat)) : State :=
  l.foldl (fun (st : State) p => st.touch ridgeCluster p.1 p.2 false) s

theorem ridgeOnly_imagesTouched (s : State) (l : List (Nat × Nat)) : RidgeOnly s (s.imagesTouched l) :=
  .fold (f := fun (st : State) (p : Nat × Nat) => st.touch ridgeCluster p.1 p.2 false)
    (fun u p => ridgeOnly_touch u p.1 p.2 false) l s

/-- R364: stage `j` of a kernel is loaded from the image that was read for it. -/
def loadNth (s : State) (i : Nat) (k : Kernel) (ls : List (List (Nat × Nat))) (st : State) (j : Nat) : State :=
  match k.stages[j]?, ls[j]? with
  | some g, some l => st.loadStage i k j g (s.bytesAt l)
  | _, _ => st

/-- R364: every stage of a kernel is loaded, in order. -/
def State.stagesLoaded (s : State) (i : Nat) (k : Kernel) (ls : List (List (Nat × Nat))) : State :=
  (List.range k.stages.length).foldl (loadNth s i k ls) (s.imagesTouched ls.flatten)

theorem kernels_loadNth (s : State) (i : Nat) (k : Kernel) (ls : List (List (Nat × Nat))) (st : State) (j : Nat) :
    (loadNth s i k ls st j).kernels = st.kernels := by
  unfold loadNth
  split
  · exact kernels_loadStage st i k j _ _
  · rfl

theorem kernel_stagesLoaded (s : State) (i : Nat) (k : Kernel) (ls : List (List (Nat × Nat))) :
    (s.stagesLoaded i k ls).kernel i = s.kernel i :=
  congrArg (kfind i) ((foldl_keeps (P := State.kernels) (kernels_loadNth s i k ls) _ _).trans
    (ridgeOnly_imagesTouched s _).kernels_eq)

include hk hst hres hheld

/-- R364, R366: with the images read, every stage is loaded and the kernel runs. -/
theorem kernelLoading_loads {ls : List (List (Nat × Nat))} (hr : s.readImages i k 0 k.stages = .inl ls) :
    exec (.kernelLoadingComplete i) s = .next (((s.stagesLoaded i k ls).clearFails (.kernel i)).updKernel i
      (fun k => { k with st := .running })) := by
  refine runEvent_some ?_
  simp only [kernelLoading, hk, hst, hres, hheld, hr, ne_eq, not_true_eq_false, Bool.false_eq_true, or_self, if_false]
  rfl

/-- R366: a refused read of an image fails the kernel. -/
theorem kernelLoading_fails {j c a : Nat} (hr : s.readImages i k 0 k.stages = .inr (j, .fail c a)) :
    exec (.kernelLoadingComplete i) s = .next ((s.clearFails (.kernel i)).endKernel i c (some j) (BitVec.ofNat 64 a)) := by
  refine runEvent_some ?_
  simp only [kernelLoading, hk, hst, hres, hheld, hr, ne_eq, not_true_eq_false, Bool.false_eq_true, or_self, if_false]

end

/-- Settles O53: placement, loading, draining and completion by their rules, each field of a loaded stage by the part of its
loading that writes it last. -/
theorem kernelEventsRunItsLife : Obligations.KernelEventsRunItsLife := by
  unfold Obligations.KernelEventsRunItsLife
  refine fun s i k hk => ⟨fun cls gids hst hres hpl hg h1 h2 => kernelPlacement_places hk hst hres hpl hg h1 h2,
    fun hst hres hheld => ⟨fun ls hr => ?loads, fun u n g d gid bytes grp hd hg hn hp ha hsize hcl hnd hb hgrp => ?stage,
      fun j c a hr => kernelLoading_fails hk hst hres hheld hr⟩,
    fun hst hd hres hbusy => ⟨kernelDrained_idle hk hst hd hres hbusy,
      fun j g => kernelDrained_held hk hst hd hres hbusy⟩,
    fun hdue => ⟨launchCompletion_done hk hdue, fun l u h0 hw hr hu => ⟨fun a hl => ?record, ?written⟩,
      fun c a => launchCompletion_refused hk hdue, fun u c => kernel_kernelDone u i k c⟩⟩
  case loads =>
    refine ⟨_, kernelLoading_loads hk hst hres hheld hr, kernel_updKernel_same ?_ _, fun g l hstages hl => ?_⟩
    · exact (kernel_stagesLoaded s i k ls).trans hk
    · refine ⟨_, rfl, ?_⟩
      simp only [State.stagesLoaded, hstages, hl, List.length_singleton, List.range_one, List.foldl_cons, List.foldl_nil,
        List.flatten_cons, List.flatten_nil, List.append_nil, loadNth, List.getElem?_cons_zero]
      rfl
  case stage =>
    subst hd
    refine ⟨loadStage_group hg hn hgrp, fun cl hmem => loadStage_clusters hg hn hcl hnd hb hmem, fun j loc hj hloc => ?_⟩
    obtain ⟨h0, h1, hg1, hg2, hg3⟩ := loadStage_records hg hn hp ha hsize hj hloc
    exact ⟨h0, h1, hg1, hg2, hg3⟩
  case record =>
    rw [hu, hl]
    exact ridgeWriteLocs_record s a _ _ (outcome_lt k) (toNat_lt_bytes (n := 8) k.value)
  case written =>
    rw [hu]
    exact launchCompletion_writes hk hdue h0 hw hr

end Sys2Proof.Machine
end

section
/-! PROOF. The sequencer's control instructions (R172 to R175, R188, R189). -/
namespace Sys2Proof.Machine

/-! ### A recorded failure (R173) -/

theorem settle_seqFail (t : Strand) (now : Nat) : (t.settle now).seqFail = t.seqFail :=
  (congrArg Strand.seqFail (putResults_rest (t.pend.filter (fun p => decide (p.avail ≤ now))) t) :)

theorem takeRecorded_none {s : State} {t : Strand} (hc : s.cur = some t) (h : t.seqFail = none) :
    takeRecorded s = .ok () s := by
  simp only [takeRecorded, M.bind_apply, M.getStrand_apply hc, h, M.pure_apply]

theorem takeRecorded_some {s : State} {t : Strand} {f : Nat × Nat} (hc : s.cur = some t) (h : t.seqFail = some f) :
    takeRecorded s = .error (.trap f.1 (BitVec.ofNat 64 f.2)) s := by
  simp only [takeRecorded, M.bind_apply, M.getStrand_apply hc, h, M.trap_apply]

/-- R65, R173: results that are written record no failure. -/
theorem takeRecorded_settled {s : State} {t : Strand} (h : t.seqFail = none) :
    takeRecorded (s.settled t) = .ok () (s.settled t) :=
  takeRecorded_none (cur_settled s t) ((settle_seqFail t s.now).trans h)

/-- R173: an instruction whose first condition is a recorded failure takes it. -/
theorem runInstr_recorded {s : State} {t : Strand} {sc : Nat} {m : M Flow} {f : Nat × Nat} (ht : Turn s t)
    (h : t.seqFail = some f) :
    runInstr sc (takeRecorded >>= fun _ => m) s = traps f.1 (BitVec.ofNat 64 f.2) t (s.settled t) :=
  runInstr_trap ht (by
    rw [M.bind_apply, takeRecorded_some (cur_settled s t) ((settle_seqFail t s.now).trans h)])

/-! ### `vloop` (R188) -/

section
variable {s s' : State} {t : Strand} {a b : BitVec 6} {sc : BitVec 2} {x y : TV} (hr : Reads s [a, b] [] [x, y] s')
  (hc : s'.cur = some t)
include hr hc

/-- R188: a body of no passes is skipped. -/
theorem vloop_skips (hk : x.lo.toNat % 2 ^ 32 = 0) : exec (.vloop a b sc) s = .next (finish
    (.jump (setAddr t.pcc ((t.pc.toNat + 4 + 4 * (y.lo.toNat % 16 + 1)) % 2 ^ 64))) sc.toNat s') :=
  runs_operand2 hr (by simp only [M.bind_apply, M.getStrand_apply hc, hk, if_true, M.pure_apply])

/-- R188: the body's entries are reserved. -/
theorem vloop_reserves (hk : x.lo.toNat % 2 ^ 32 ≠ 0) (hn : y.lo.toNat % 16 + 1 ≤ (s'.core s'.turn.1).freeEntries) :
    exec (.vloop a b sc) s = goesOn sc.toNat (s'.updStrand s'.turn.1 s'.turn.2 (fun u => { u with
      loop := some ⟨y.lo.toNat % 16 + 1, x.lo.toNat % 2 ^ 32, y.lo.toNat / 2 ^ 4 % 4, y.lo.toNat / 2 ^ 6 % 2 ^ 16, 0⟩ })) :=
  runs_operand2 (flow := .next) hr (by
    simp only [M.bind_apply, M.getStrand_apply hc, hk, if_false, M.getCore_apply, Nat.not_lt.2 hn, M.modStrand_apply,
      M.pure_apply])

/-- R188: too few entries are free. -/
theorem vloop_waits (hk : x.lo.toNat % 2 ^ 32 ≠ 0) (hn : (s'.core s'.turn.1).freeEntries < y.lo.toNat % 16 + 1) :
    exec (.vloop a b sc) s = waitsWith .inSlot s s' := by
  obtain ⟨u, hu, ho⟩ := ReadsFields.ok hr
  exact runInstr_wait hu (by
    simp only [operand2, operands, M.bind_apply, ho, M.pure_apply, List.getD_cons_zero, List.getD_cons_succ,
      M.getStrand_apply hc, hk, if_false, M.getCore_apply, hn, if_true, M.waitFor_apply])

end

/-! ### `vwait` and `vfence` (R188) -/

section
variable {s : State} {t : Strand} {sc : BitVec 2} (ht : Turn s t) (hf : t.seqFail = none)
include ht hf

/-- R188: no entry of the strand is left. -/
theorem vwait_done (he : (s.settled t).hasEntries s.turn.1 s.turn.2 = false) :
    exec (.vwait sc) s = goesOn sc.toNat (s.settled t) :=
  runInstr_ok ht (by
    rw [← settled_turn s t] at he
    simp only [M.bind_apply, takeRecorded_settled hf, M.get_apply, he,
      Bool.false_eq_true, if_false, M.pure_apply])

/-- R127, R188: entries of the strand are left. -/
theorem vwait_waits (he : (s.settled t).hasEntries s.turn.1 s.turn.2 = true) : exec (.vwait sc) s = waits .blocking t s :=
  runInstr_wait ht (by
    rw [← settled_turn s t] at he
    simp only [M.bind_apply, takeRecorded_settled hf, M.get_apply, he,
      if_true, M.waitFor_apply])

/-- R172, R188: the strand's entries are marked. -/
theorem vfence_marks : exec (.vfence sc) s = goesOn sc.toNat ((s.settled t).updCore s.turn.1 (fun c =>
    { c with seq := c.seq.map (fun e => if e.slot = s.turn.2 then { e with fenced := true } else e) })) :=
  runInstr_ok ht (by
    simp only [M.bind_apply, takeRecorded_settled hf, M.get_apply,
      M.modCore_apply, settled_turn, M.pure_apply]
    rfl)

end

/-! ### `vstat` and `vcancel` (R188, R189) -/

section
variable {s s' : State} {t : Strand} {d : BitVec 6} {sc : BitVec 2} (hr : Reads s [] [d] [] s')
include hr

/-- R189: the status word. -/
theorem vstat_gives (hc : s'.cur = some t) : exec (.vstat d sc) s = gives sc.toNat d 0 (TV.ofNat
    (((s'.core s'.turn.1).seq.filter (fun e => decide (e.slot = s'.turn.2))).length +
      (s'.core s'.turn.1).freeEntries * 2 ^ 5 +
      (match t.seqFail with | some f => 2 ^ 10 + f.1 % 256 * 2 ^ 16 | none => 0))) s' :=
  runs_operands hr (by
    simp only [M.bind_apply, M.getStrand_apply hc, M.getCore_apply, M.get_apply, result_ok, M.pure_apply] <;> rfl)

/-- R188: the registers that the entries dropped were to write await them no more. -/
def Strand.cancelled (gone : List VEntry) (t : Strand) : Strand :=
  { t with busy := gone.foldl (fun (b : List Nat) e => e.dests.foldl (fun (b : List Nat) r => b.erase r) b) t.busy }

/-- R188: the sequencer of a core after `vcancel` in slot `sl`. -/
def Core.cancelled (sl : Nat) (c : Core) : Core :=
  { c with seq := (c.seq.filter (fun e => !(decide (e.slot = sl) && e.unstarted))).map (fun e =>
      if e.slot = sl then e.lastPass else e) }

/-- R188: the entries that have not started are dropped and counted. -/
theorem vcancel_gives {gone : List VEntry}
    (hg : gone = (s'.core s'.turn.1).seq.filter (fun e => decide (e.slot = s'.turn.2) && e.unstarted)) :
    exec (.vcancel d sc) s = gives sc.toNat d 0 (TV.ofNat gone.length)
      ((s'.updCore s'.turn.1 (Core.cancelled s'.turn.2)).updStrand s'.turn.1 s'.turn.2 (Strand.cancelled gone)) := by
  subst hg
  exact runs_operands (flow := .next) hr (by
    simp only [M.bind_apply, M.get_apply, M.modCore_apply, M.modStrand_apply, updCore_turn, result_ok, M.pure_apply]
    rfl)

end

/-- A change of a strand leaves the sequencers. -/
theorem seq_updStrand (s : State) (k sl j : Nat) (f : Strand → Strand) : ((s.updStrand k sl f).core j).seq = (s.core j).seq := by
  unfold State.updStrand
  split
  · by_cases h : j = k
    · subst h
      rw [State.setStrand, core_updCore_same]
    · rw [State.setStrand, core_updCore_ne h]
  · rfl

/-- Settles O45: each form by the ways in which its meaning ends; what `vcancel` writes to the strand's registers leaves the
sequencer and memory. -/
theorem sequencerFormsControlEntries : Obligations.SequencerFormsControlEntries := by
  unfold Obligations.SequencerFormsControlEntries
  refine ⟨fun s s' t0 t a b sc x y k n _ hr hc hk hn => ?loop, fun s r t sc ht hr => ?entries, fun s s' t d sc hr hc => ?status⟩
  case loop =>
    subst hk hn
    exact ⟨vloop_skips hr hc, vloop_reserves hr hc, vloop_waits hr hc⟩
  case entries =>
    subst hr
    exact ⟨fun f hf => ⟨runInstr_recorded ht hf, runInstr_recorded ht hf⟩,
      fun hf => ⟨vwait_done ht hf, vwait_waits ht hf, vfence_marks ht hf⟩⟩
  case status =>
    refine ⟨vstat_gives hr hc, fun gone hg => ⟨_, vcancel_gives hr hg, ?_, ?_, ?_⟩⟩
    · rw [seq_updStrand, core_updCore_same]
      rfl
    · rw [updStrand_mem, updCore_mem]
    · rw [updStrand_tags, updCore_tags]

end Sys2Proof.Machine
end

section
/-! PROOF. The entries of the vector instructions (R169, R170, R277): where the claim about them fails. -/
namespace Sys2Proof.Machine

/-! ### An instruction with a g operand that finds no entry (R64, R169) -/

/-- R63, R64: the q registers of an instruction that reads its operands are bound. -/
theorem boundFirst_of_reads {s s' : State} {t : Strand} {fields srcs dests : List (BitVec 6)} {vals : List TV} (ht : Turn s t)
    (h : ReadsFields s fields srcs dests vals s') : boundFirst fields (s.settled t) = .ok () (s.settled t) := by
  obtain ⟨u, hu, hbound, -⟩ := h
  rw [← ht.unique hu] at hbound
  simp only [boundFirst, M.bind_apply, M.getStrand_apply (cur_settled s t), hbound, M.pure_apply]

theorem needEntry_waits {s : State} {u : Strand} (hu : s.cur = some u) (hloop : u.loop = none)
    (hfull : (s.core s.turn.1).freeEntries = 0) : needEntry s = .error (.wait .inSlot) s := by
  simp only [needEntry, M.bind_apply, M.getStrand_apply hu, M.getCore_apply, hloop, hfull, Option.isNone_none, decide_true,
    Bool.and_self, if_true, M.waitFor_apply]

/-- R169: with no entry free once the g operand is popped, the instruction waits. -/
theorem vecScalar_waits {s s' : State} {t u : Strand} {e : VEntry} {g : BitVec 6} {v : TV} (ht : Turn s t)
    (hfail : t.seqFail = none) (hr : Reads s [g] [] [v] s') (hu : s'.cur = some u) (hloop : u.loop = none)
    (hfull : (s'.core s'.turn.1).freeEntries = 0) : vecScalar e g s = waitsWith .inSlot s s' := by
  have hfirst : vectorFirst [g] (s.settled t) = .ok () (s.settled t) := by
    simp only [vectorFirst, M.bind_apply, boundFirst_of_reads (fields := [g]) ht hr, takeRecorded_settled hfail]
  obtain ⟨t1, ht1, ho⟩ := ReadsFields.ok hr
  rw [← ht.unique ht1] at ho
  refine runInstr_wait ht ?_
  simp only [M.bind_apply, hfirst, operand1, operands, ho, M.pure_apply, needEntry_waits hu hloop hfull]

/-! ### A slot table out of order

As for the hypervector instructions: the pop replays a part of the looper, whose second row in the table makes the entries of its
loop count twice. -/

namespace UnsortedSlots

/-- R160: one signed word of the scratchpad of core 0. -/
def wordShape : Shape := (Shape.zero.set 0 (mkCap (2 ^ 63 + 0x2000) 4096 0 0 (permLoad ||| permStore))).set 2 (TV.ofNat 0x05)

/-- The popper with a shape in s1 to fill. -/
def filler : Strand := { popper with sh := [(1, wordShape)] }

/-- The table of `core0` with the filler in the popper's place. -/
def fillStart : State := { start with cores := [(0, { core0 with
  slots := [(0, filler), (3, bootStrand (2 ^ 63)), (2, looper)] })] }

/-- The state after the pop. -/
def fillPopped : State :=
  (((fillStart.settled filler).updCluster 0 (fun c => { c with status := kput [] 0 [] c.status })).drainGutter 0).keepPops
    [56#6] [TV.zero]

/-- The entry of `vfill` with the popped value. -/
def fillEntry : VEntry := { v2 .vfill 1#4 0#4 with g := TV.zero }

theorem turn_filler : Turn fillStart filler := ⟨rfl, rfl⟩

theorem entryFree_fillStart : EntryFree (fillStart.settled filler) (filler.settle fillStart.now) := ⟨rfl, .inr (by decide)⟩

theorem reads_fillPopped : Reads fillStart [56#6] [] [TV.zero] fillPopped :=
  ⟨filler, turn_filler, by decide, by decide, by decide, by decide, by decide, by decide, by decide, _, rfl, rfl⟩

theorem cur_fillPopped : fillPopped.cur = some { filler with popped := [TV.zero] } := rfl

theorem entryPasses_fillPopped : EntryPasses fillPopped { filler with popped := [TV.zero] } fillEntry :=
  ⟨by decide, by decide, by decide, by decide +kernel, by decide +kernel⟩

/-- After the pop no entry is left. -/
theorem freeEntries_fillPopped : (fillPopped.core 0).freeEntries = 0 := by decide

/-- An instruction that waits has not completed. -/
theorem retired_fillWaits : retiredOf (waitsWith .inSlot fillStart fillPopped) = 0#64 := by decide

/-- With its entry it would have completed. -/
theorem retired_fillTaken :
    retiredOf (goesOn 0 (fillPopped.taken { filler with popped := [TV.zero] } fillEntry)) = 1#64 := by decide

end UnsortedSlots

open UnsortedSlots in
/-- Refutes O42: `vfill` with its g operand in q0, in the state `fillStart` whose slot table is out of order, finds an entry free
before its pop and none after it, and waits where the claim has it take its entry. -/
theorem not_vectorFormsTakeTheirEntries : ¬ Obligations.VectorFormsTakeTheirEntries := by
  unfold Obligations.VectorFormsTakeTheirEntries
  rintro ⟨-, -, hscalar, -⟩
  obtain ⟨-, -, -, -, -, -, -, hfill, -⟩ := hscalar 1#4 0#4 0#1
  have htakes := hfill fillStart fillPopped filler _ 56#6 TV.zero turn_filler entryFree_fillStart reads_fillPopped
    cur_fillPopped entryPasses_fillPopped
  have hwaits : exec (.vfill 1#4 56#6) fillStart = waitsWith .inSlot fillStart fillPopped :=
    vecScalar_waits (e := v2 .vfill 1#4 0#4) turn_filler rfl reads_fillPopped cur_fillPopped rfl freeEntries_fillPopped
  have hretired := (retired_fillWaits.symm.trans (congrArg retiredOf (hwaits.symm.trans htakes))).trans retired_fillTaken
  exact absurd hretired (by decide)

end Sys2Proof.Machine
end

section
/-! PROOF. What the sequencer and the anvil do with their commands (R171 to R174, R188, R196 to R199, R216 to R221, R228). -/
namespace Sys2Proof.Machine

/-- R394: an event of a cluster that runs. -/
theorem clusterEvent_runs {s n : State} {cl : Nat} {r : Option State} (hrun : s.clusterRuns cl = true) (h : r = some n) :
    runEvent (s.whileRuns cl r) s = .next n :=
  runEvent_some ((if_pos hrun).trans h)

/-! ### The sequencer (R171 to R174, R188) -/

/-- R173: a failure is recorded against the strand of entry `e`, whose entries are discarded. -/
def State.entriesDropped (s : State) (k : Nat) (e : VEntry) (f : Nat × Nat) : State :=
  (s.updStrand k e.slot (fun t => t.entriesLost e ((s.core k).seq.filter (fun x => decide (x.slot = e.slot))) f)).updCore k
    (fun c => { c with seq := c.seq.filter (fun x => decide (x.slot ≠ e.slot)) })

/-- R173: the state after entry `e` has failed: nothing waits for it any more. -/
def State.entryFailed (s : State) (k : Nat) (e : VEntry) (f : Nat × Nat) : State :=
  ({ s.entriesDropped k e f with
    engineFails := (s.entriesDropped k e f).engineFails.filter (fun g => decide (g.1 ≠ Waiter.sequencer e.id)) } : State).dropEnded s

section
variable {s : State} {k : Nat} (hrun : s.clusterRuns (clusterOf k) = true) (hfree : (s.core k).frozen = false)
include hrun hfree

section
variable {e : VEntry} (he : (s.core k).runningEntry = some e)
include he

/-- R171: the entry that runs performs what it can. -/
theorem vectorExecute_runs (hb : s.entryBad k e = none) (hp : e.pass < e.passes) (hst : e.pass = 0 ∨ e.started = true)
    (hr : e.retry ≤ s.now) (ho : s.olderDone k e = true) : exec (.vectorEntryExecute k) s =
      .next ((runEntry k e s).2.updCore k (·.setEntry (runEntry k e s).1)) := by
  have hstarts : (decide (e.pass ≠ 0) && !e.started) = false := by
    rcases hst with h | h <;> simp [h]
  refine clusterEvent_runs hrun ?_
  simp only [vectorExecute, he, hfree, Nat.not_le.2 hp, hstarts, Nat.not_lt.2 hr, hb, ho, decide_false, Option.isSome_none,
    Bool.not_true, Bool.or_self, Bool.false_eq_true, if_false]

section
variable {t : Strand} (hb : s.entryBad k e = none) (hp : e.pass < e.passes) (h0 : e.pass ≠ 0) (hst : e.started = false)
  (ht : s.strand k e.slot = some t)
include hb hp h0 hst ht

/-- R188: a later pass starts once its checks pass. -/
theorem passStart_starts (hf : s.entryFail k t e = none) : exec (.vloopPassStart k) s =
    .next ((startPass k e s).2.updCore k (·.setEntry (startPass k e s).1)) := by
  refine clusterEvent_runs hrun ?_
  simp only [passStart, he, hfree, Nat.not_le.2 hp, h0, hst, hb, ht, hf, decide_false, Option.isSome_none, Bool.or_self,
    Bool.false_eq_true, if_false]

/-- R173, R188: a later pass whose checks fail. -/
theorem passStart_fails {f : Nat × Nat} (hf : s.entryFail k t e = some f) : exec (.vloopPassStart k) s =
    .next (s.updCore k (·.setEntry { e with bad := some f })) := by
  refine clusterEvent_runs hrun ?_
  simp only [passStart, he, hfree, Nat.not_le.2 hp, h0, hst, hb, ht, hf, decide_false, Option.isSome_none, Bool.or_self,
    Bool.false_eq_true, if_false]

end

/-- R173: the running entry fails. -/
theorem vectorFailure_fails {c a : Nat} (hb : s.entryBad k e = some (c, a)) (hh : s.headFirst k e = false) :
    exec (.vectorEntryFailure k c a) s = .next (s.entryFailed k e (c, a)) := by
  refine clusterEvent_runs hrun ?_
  simp only [vectorFailure, he, hfree, hb, hh, ne_eq, not_true_eq_false, decide_false, Bool.or_self, Bool.false_eq_true,
    if_false, State.entryFailed, State.entriesDropped]

end

/-- R174: the entry at the head has run its passes. -/
theorem vectorComplete_finishes {e : VEntry} {r : List VEntry} (hs : (s.core k).seq = e :: r) (hheld : e.held = false)
    (hp : e.passes ≤ e.pass) (hb : s.entryBad k e = none) (hg : e.gd < 56) :
    exec (.vectorEntryComplete k) s = .next (s.finishEntry k e) := by
  refine clusterEvent_runs hrun ?_
  simp only [vectorComplete, hs, hfree, hheld, Nat.not_lt.2 hp, hb, Nat.not_le.2 hg, decide_false, Option.isSome_none,
    Bool.or_self, Bool.false_eq_true, if_false]

end

/-- R169: a finished entry has left its sequencer. -/
theorem seq_finishEntry (s : State) (k : Nat) (e : VEntry) :
    ((s.finishEntry k e).core k).seq = (s.core k).seq.filter (fun x => decide (x.id ≠ e.id)) := by
  rw [State.finishEntry, core_updCore_same, seq_updStrand]

/-- R66, R174: a finished entry's results and flags. -/
theorem strand_finishEntry {s : State} {k : Nat} {e : VEntry} {t : Strand} (h : s.strand k e.slot = some t) :
    (s.finishEntry k e).strand k e.slot =
      some ((e.results.foldl (fun (u : Strand) p => u.deliver p.1 p.2) t).orFlags e.fl) := by
  refine (strand_updCore ?_ _ k k e.slot).trans (strand_updStrand_same h _)
  exact fun _ => rfl

/-- R173: what waits for a failed entry is no part of a core. -/
theorem core_entryFailed (s : State) (k j : Nat) (e : VEntry) (f : Nat × Nat) :
    (s.entryFailed k e f).core j = (s.entriesDropped k e f).core j := rfl

/-- R173: the strand's entries are discarded. -/
theorem seq_entryFailed (s : State) (k : Nat) (e : VEntry) (f : Nat × Nat) :
    ((s.entryFailed k e f).core k).seq = (s.core k).seq.filter (fun x => decide (x.slot ≠ e.slot)) := by
  rw [core_entryFailed, State.entriesDropped, core_updCore_same, seq_updStrand]

/-- R173: the failure is recorded against the strand, unless one is already. -/
theorem strand_entryFailed {s : State} {k : Nat} {e : VEntry} {t : Strand} (h : s.strand k e.slot = some t) (f : Nat × Nat) :
    (s.entryFailed k e f).strand k e.slot =
      some (t.entriesLost e ((s.core k).seq.filter (fun x => decide (x.slot = e.slot))) f) := by
  refine (congrArg (fun c : Core => kfind e.slot c.slots) (core_entryFailed s k k e f)).trans ?_
  refine (strand_updCore ?_ _ k k e.slot).trans (strand_updStrand_same h _)
  exact fun _ => rfl

/-- R173: of several failures of a strand the first stands. -/
theorem entriesLost_seqFail (t : Strand) (e : VEntry) (all : List VEntry) (f : Nat × Nat) :
    (t.entriesLost e all f).seqFail = (match t.seqFail with | some f0 => some f0 | none => some f) := by
  change t.seqFail.or (some f) = _
  cases t.seqFail <;> rfl

/-! ### Rows of a drain (R228, R229) -/

/-- R228: a drain after one more row for destination `d`, which raised the flags `f`. -/
def TileCmd.rowDone (m : TileCmd) (d : Nat) (f : FlagSet) : TileCmd :=
  { m with row := m.row + 1, ef := kset d (kget 0#5 d m.ef ||| f) m.ef }

/-- R229: the drain at the head of the queue has written one more row; the last row of a destination posts its arrival. -/
def State.rowDrained (s : State) (cl : Nat) (m : TileCmd) (d : Nat) (f : FlagSet) : State :=
  if lastRow m.map0 d m.row then
    (s.setHead cl (m.rowDone d f)).postArrival cl (m.rowDone d f) d (kget 0#5 d m.ef ||| f)
  else s.setHead cl (m.rowDone d f)

/-! ### The lease (R196 to R199) -/

section
variable {s : State} {cl : Nat} (hrun : s.clusterRuns cl = true)
include hrun

/-- R198: the next slot that asks holds the lease. -/
theorem leaseGrant_grants {n : Nat} (hcl : cl < 160) (hst : (s.cluster cl).lease.st = .requested)
    (hq : (s.cluster cl).cmds = []) (hn : (s.cluster cl).lease.nextSlot = some n) :
    exec (.leaseGrant cl) s = .next (s.setLease cl ((s.cluster cl).lease.grant n)) :=
  clusterEvent_runs hrun (by simp only [leaseGrant, hcl, hst, hq, and_self, if_true, hn, Option.map_some])

/-- R197: a budget has run out. -/
theorem leaseBudget_expires (hst : (s.cluster cl).lease.st = .granted)
    (hb : (s.cluster cl).lease.ncmd = 0 ∨ (s.cluster cl).lease.ncyc = 0) :
    exec (.leaseBudgetExpiry cl) s = .next (s.setLease cl (s.cluster cl).lease.budgetEnd) :=
  clusterEvent_runs hrun (if_pos ⟨hst, hb⟩)

/-- R199: the commands of the holder are done. -/
theorem leaseDrained_frees (hst : (s.cluster cl).lease.st = .expiring ∨ (s.cluster cl).lease.st = .draining)
    (hq : (s.cluster cl).cmds = []) :
    exec (.leaseHolderDrained cl) s = .next (s.setLease cl (s.cluster cl).lease.drained) :=
  clusterEvent_runs hrun (if_pos ⟨hst, hq⟩)

/-! ### Tile commands (R216 to R221) -/

section
variable {m : TileCmd} {r : List TileCmd} (hq : (s.cluster cl).cmds = m :: r)
include hq

/-- R219: the next block is fetched and pinned. -/
theorem tileFetch_pins {p : Pair} {ovw : Bool} {locs : List (Nat × List (Nat × Nat))} (hk : m.kind = .mtile p ovw)
    (hbad : s.cmdBad m = none) (h1 : m.fetched < m.k / 32) (h2 : m.fetched < m.done + 2) (h3 : m.retry ≤ s.now)
    (h4 : s.strandDone m.src m.id = true) (h5 : s.fencedBefore m.src m.id = false) (h6 : s.awaits (.tile m.id) = false)
    (hl : s.engineRanges (.tile m.id) cl m.src.core false [] (m.blockRanges m.fetched) [] = .all locs) :
    exec (.tileBlockFetch cl) s = .next (((s.dropRequests (.tile m.id)).touchAll cl locs false).setHead cl { m with
      pinned := m.pinned ++ [s.readBlockAt m locs], fetched := m.fetched + 1 }) := by
  refine clusterEvent_runs hrun ?_
  simp only [tileFetch, hq, hk, hbad, Nat.not_le.2 h1, Nat.not_le.2 h2, Nat.not_lt.2 h3, h4, h5, h6, hl, decide_false,
    Option.isSome_none, Bool.not_true, Bool.or_self, Bool.false_eq_true, if_false]

/-- R216, R219: the oldest pinned block is accumulated. -/
theorem tileDone_accumulates {p : Pair} {ovw : Bool} {blk : TileBlock} {rest : List TileBlock} (hk : m.kind = .mtile p ovw)
    (hp : m.pinned = blk :: rest) {x : List (Nat × BitVec 32) × BitVec 3}
    (hx : x = tileBlock p m.sa.ty m.sb.ty (ovw && decide (m.done = 0)) blk ((s.cluster cl).acc m.buf)) :
    exec (.tileBlockDone cl) s = .next ((s.updCluster cl (fun c => c.setAcc m.buf x.1)).setHead cl { m with
      pinned := rest, done := m.done + 1, tf := m.tf ||| x.2 }) := by
  subst hx
  refine clusterEvent_runs hrun ?_
  simp only [tileDone, hq, hk, hp]

/-- R216: a tile whose blocks are all accumulated is complete. -/
theorem tileComplete_mtile {p : Pair} {ovw : Bool} (hk : m.kind = .mtile p ovw) (hbad : s.cmdBad m = none)
    (hd : m.done = m.k / 32) :
    exec (.tileCommandComplete cl) s = .next (s.popCmd cl ((s.cluster cl).orTileFlags m.buf m.tf)) := by
  refine clusterEvent_runs hrun ?_
  simp only [tileComplete, hq, hk, hbad, Option.isSome_none, Bool.false_eq_true, if_false, if_pos hd]

/-- R209: the buffers that a clear names are zero. -/
theorem tileComplete_clear (hk : m.kind = .clear) (hbad : s.cmdBad m = none) : exec (.tileCommandComplete cl) s =
    .next (s.popCmd cl { s.cluster cl with
      acc0 := if m.buf % 2 = 1 then [] else (s.cluster cl).acc0,
      acc1 := if m.buf / 2 % 2 = 1 then [] else (s.cluster cl).acc1 }) := by
  refine clusterEvent_runs hrun ?_
  simp only [tileComplete, hq, hk, hbad, Option.isSome_none, Bool.false_eq_true, if_false]

/-- R221: the command at the head fails. -/
theorem tileFailure_fails {f a : Nat} (hbad : s.cmdBad m = some (f, a)) (hnew : ∀ x ∈ (s.cluster cl).tileFail, x.2 ≠ (f, a)) :
    exec (.tileCommandFailure cl f a) s = .next ({ s.setCluster cl ((s.cluster cl).tileFailed m f a) with
      engineFails := s.engineFails.filter (fun g => decide (g.1 ≠ Waiter.tile m.id)) }.dropEnded s) := by
  have hany : (s.cluster cl).tileFail.any (fun x => decide (x.2 = (f, a))) = false :=
    List.any_eq_false.2 fun x hx => by simpa using hnew x hx
  refine clusterEvent_runs hrun ?_
  simp only [tileFailure, hany, hq, hbad, ne_eq, not_true_eq_false, Bool.false_eq_true, if_false]

/-- R228, R231: a drain starts: the bias and the flags are read, and its rows are located. -/
theorem drainStart_starts {locs : List (Nat × List (Nat × Nat))} (hk : m.kind = .drain) (hbad : s.cmdBad m = none)
    (h1 : m.started = false) (h2 : m.retry ≤ s.now) (h3 : s.strandDone m.src m.id = true)
    (h4 : s.awaits (.tile m.id) = false) (hbias : epiField m.epi 0 4 1 = 1 → s.belowBound (biasLoc m).1 = false)
    (hl : s.engineRanges (.tile m.id) cl m.src.core true [] (memRanges m) [] = .all locs) :
    exec (.drainStart cl) s = .next (((s.touchAll cl locs true).updCluster cl (fun x => { x with
        owned := (rowSectors locs).foldl (fun o n => sadd n o) x.owned })).setHead cl { m with
      started := true, bias := s.readBias m, tf := (if m.buf = 0 then (s.cluster cl).f0 else (s.cluster cl).f1),
      rowsAt := locs }) := by
  have hbound : ¬ (epiField m.epi 0 4 1 = 1 ∧ s.belowBound (biasLoc m).1 = true) := fun h => by
    rw [hbias h.1] at h
    exact Bool.false_ne_true h.2
  refine clusterEvent_runs hrun ?_
  simp only [drainStart, hq, hk, hbad, h1, Nat.not_lt.2 h2, h3, h4, hbound, hl, ne_eq, not_true_eq_false, decide_false,
    Option.isSome_none, Bool.not_true, Bool.or_self, Bool.false_eq_true, if_false]

/-- R228, R229: a row for a core's scratchpad is written; after the last row for that core its arrival message is posted. -/
theorem drainRow_writes (hk : m.kind = .drain) (hbad : s.cmdBad m = none) (h1 : m.started = true) (h2 : m.row < 128)
    {d a : Nat} (hd : d = mapDst m.map0 (m.row / 8)) (hmem : d ≠ 8) {row : List Byte × FlagSet}
    (hrow : row = epiRowBytes m.epi m.bias
      ((List.range 128).map (fun j => kget 0#32 (128 * m.row + j) ((s.cluster cl).acc m.buf))))
    (ha : a = spadBase (coreOfSlot cl d) + mapBase m.map1 + rowsBefore m.map0 d m.row * mapPitch m.map1)
    (hbound : s.belowBound a = false) :
    exec (.drainRowWrite cl) s = .next ((s.write a row.1).rowDrained cl m d row.2) := by
  subst hd hrow ha
  refine clusterEvent_runs hrun ?_
  simp only [drainRow, hq, hk, hbad, h1, Nat.not_le.2 h2, hmem, hbound, ne_eq, not_true_eq_false, not_false_eq_true,
    decide_false, decide_true, Option.isSome_none, Bool.not_true, Bool.or_self, Bool.and_false, Bool.false_and,
    Bool.false_eq_true, if_false, State.rowDrained, TileCmd.rowDone]

end

/-- R221: a failure that no anvil instruction of its core has taken fails the kernel of the cluster. -/
theorem tileFailure_ends {k f a : Nat} {g : Group} (hmem : (k, (f, a)) ∈ (s.cluster cl).tileFail)
    (hg : s.groupOfCluster cl = some g) (hk : (s.kernel g.kernel).map (·.st) = some .running) :
    exec (.tileCommandFailure cl f a) s = .next (s.endKernel g.kernel f (some g.stage) (BitVec.ofNat 64 a)) := by
  have hany : (s.cluster cl).tileFail.any (fun x => decide (x.2 = (f, a))) = true :=
    List.any_eq_true.2 ⟨_, hmem, decide_eq_true rfl⟩
  refine clusterEvent_runs hrun ?_
  simp only [tileFailure, hany, hg, hk, if_true, Option.bind_some]

end

/-! ### Commands that leave the queue (R210, R221) -/

/-- A fold whose steps change nothing. -/
theorem foldl_unchanged {α : Type} {f : State → α → State} {s : State} {l : List α} (h : ∀ b ∈ l, f s b = s) :
    l.foldl f s = s :=
  List.foldlRecOn l f (motive := fun u => u = s) rfl fun u hu b hb => by rw [hu, h b hb]

/-- R210: no strand of the core waits in `mflags`. -/
theorem readFlags_none {s : State} {cl k : Nat}
    (h : ∀ e ∈ (s.core k).slots, ∀ n w, e.2.wait.map (·.kind) ≠ some (.mflags n w)) : s.readFlags cl k = s := by
  refine foldl_unchanged fun e he => ?_
  dsimp only
  split
  next n mask _ _ _ hw => exact absurd (congrArg (Option.map (·.kind)) hw) (h e he n mask)
  · rfl

/-- R210: a command leaves the queue while no strand of the cluster waits in `mflags`. -/
theorem popCmd_none {s : State} {cl : Nat}
    (h : ∀ k ∈ coresOfCluster cl, ∀ e ∈ (s.core k).slots, ∀ n w, e.2.wait.map (·.kind) ≠ some (.mflags n w)) (c : Cluster) :
    s.popCmd cl c = s.setCluster cl { c with cmds := c.cmds.tail } :=
  foldl_unchanged fun k hk => readFlags_none (h k hk)

/-- R221: a failed tile leaves its buffer zero. -/
theorem tileFailed_acc (c : Cluster) {m : TileCmd} {p : Pair} {ovw : Bool} (h : m.kind = .mtile p ovw) (f a : Nat) :
    (c.tileFailed m f a).acc m.buf = [] := by
  simp only [Cluster.tileFailed, h, if_true, Cluster.setAcc, Cluster.acc]
  split <;> rfl

/-! ### The directory's part of an access leaves the clusters (R289) -/

theorem ridgeOnly_setSectors (s : State) (sec : Nat) (z : State → Nat → Moesi) (l : List Nat) :
    RidgeOnly s (l.foldl (fun (st : State) h => st.setSector sec h (z st h)) s) :=
  .fold (f := fun (st : State) h => st.setSector sec h (z st h)) (fun _ _ => rfl) l s

theorem ridgeOnly_snoopUnless (s : State) (sec agent : Nat) (own : Bool) :
    RidgeOnly s (if agent = hostCache then s else s.snoopHost sec own) := by
  split
  · exact .refl s
  · exact ridgeOnly_snoopHost s sec own

theorem ridgeOnly_dirRead (s : State) (sec agent : Nat) : RidgeOnly s (s.dirRead sec agent) := by
  unfold State.dirRead
  split
  · exact ((ridgeOnly_snoopUnless s sec agent false).trans
      (ridgeOnly_setSectors _ sec (fun st h => (st.sectorIn sec h).readSnoop) _)).trans rfl
  · exact .refl s

theorem ridgeOnly_noteRidge (s : State) (sec : Nat) : RidgeOnly s (s.noteRidge sec) := by
  unfold State.noteRidge
  split <;> rfl

theorem ridgeOnly_dirWrite (s : State) (sec agent : Nat) : RidgeOnly s (s.dirWrite sec agent) :=
  (((ridgeOnly_snoopUnless s sec agent true).trans (ridgeOnly_noteRidge _ sec)).trans
    (ridgeOnly_setSectors _ sec (fun _ _ => .i) _)).trans rfl

/-- R289: the directory's part of an access by a cluster. -/
theorem ridgeOnly_touchBy (s : State) (cl a n : Nat) (write : Bool) : RidgeOnly s (s.touch cl a n write) := by
  unfold State.touch
  split
  · exact .refl s
  · refine .fold (fun u sec => ?_) _ s
    split
    · split
      · exact (ridgeOnly_snoopHost u sec true).trans rfl
      · exact (ridgeOnly_snoopHost u sec false).trans
          (ridgeOnly_setSectors _ sec (fun st h => (st.sectorIn sec h).readSnoop) _)
    · split
      · exact ridgeOnly_dirWrite u sec cl
      · exact ridgeOnly_dirRead u sec cl

theorem ridgeOnly_touchAll (s : State) (cl : Nat) (locs : List (Nat × List (Nat × Nat))) (write : Bool) :
    RidgeOnly s (s.touchAll cl locs write) :=
  .fold (f := fun (u : State) (l : Nat × List (Nat × Nat)) =>
      l.2.foldl (fun (v : State) (p : Nat × Nat) => v.touch cl p.1 p.2 write) u)
    (fun u l => .fold (f := fun (v : State) (p : Nat × Nat) => v.touch cl p.1 p.2 write)
      (fun v p => ridgeOnly_touchBy v cl p.1 p.2 write) l.2 u) locs s

/-- The queue of a cluster whose head has changed. -/
theorem cmds_setHead (s : State) (cl : Nat) (m : TileCmd) :
    ((s.setHead cl m).cluster cl).cmds = m :: (s.cluster cl).cmds.drop 1 := by
  rw [State.setHead, cluster_updCluster_same]

/-- The head of the queue of a cluster that stands otherwise as before. -/
theorem cmds_setHead_of {s u : State} {cl : Nat} {m : TileCmd} {r : List TileCmd} (hq : (s.cluster cl).cmds = m :: r)
    (hu : (u.cluster cl).cmds = (s.cluster cl).cmds) (m1 : TileCmd) : ((u.setHead cl m1).cluster cl).cmds = m1 :: r := by
  rw [cmds_setHead, hu, hq, List.drop_succ_cons, List.drop_zero]

theorem mem_rowDrained (s : State) (cl : Nat) (m : TileCmd) (d : Nat) (f : FlagSet) :
    (s.rowDrained cl m d f).mem = s.mem := by
  unfold State.rowDrained
  split <;> rfl

theorem cluster_rowDrained (s : State) (cl : Nat) (m : TileCmd) (d : Nat) (f : FlagSet) :
    (s.rowDrained cl m d f).cluster cl = (s.setHead cl (m.rowDone d f)).cluster cl := by
  unfold State.rowDrained
  split <;> rfl

/-- Settles O49: each event by what it does to the entry or the command at its head; where a queue or a register is claimed, by
what the rest of the event leaves of it. -/
theorem datapathEventsRunCommands : Obligations.DatapathEventsRunCommands := by
  unfold Obligations.DatapathEventsRunCommands
  refine ⟨fun s k hrun hfree => ⟨fun e he hb => ⟨vectorExecute_runs hrun hfree he hb, fun t hp h0 hst ht => ?pass⟩, ?completes,
    ?fails⟩, fun s cl c l hrun hc hl => ?anvil⟩
  case pass =>
    exact ⟨passStart_starts hrun hfree he hb hp h0 hst ht, fun f => passStart_fails hrun hfree he hb hp h0 hst ht⟩
  case completes =>
    exact fun e r hs hheld hp hb hg => ⟨_, vectorComplete_finishes hrun hfree hs hheld hp hb hg, seq_finishEntry s k e,
      fun t => strand_finishEntry⟩
  case fails =>
    exact fun e c a he hb hh => ⟨_, vectorFailure_fails hrun hfree he hb hh, seq_entryFailed s k e _,
      fun t ht => ⟨_, strand_entryFailed ht _, entriesLost_seqFail t e _ _⟩⟩
  case anvil =>
    subst hc hl
    refine ⟨fun n => leaseGrant_grants hrun, leaseBudget_expires hrun, leaseDrained_frees hrun, fun m r p ovw hq hk hbad => ?tile,
      fun m r => tileComplete_clear hrun, popCmd_none, fun m r f a hq hbad hnew => ?failure, fun k f a g => tileFailure_ends hrun,
      fun m r locs hq hk hbad => ⟨?drain, ?row⟩⟩
    case tile =>
      exact ⟨fun locs => tileFetch_pins hrun hq hk hbad, fun blk rest x hp => tileDone_accumulates hrun hq hk hp,
        tileComplete_mtile hrun hq hk hbad⟩
    case failure =>
      exact ⟨_, tileFailure_fails hrun hq hbad hnew, rfl, kfind_kset_same _ _ _, fun p ovw hk => tileFailed_acc _ hk f a⟩
    case drain =>
      intro h1 h2 h3 h4 hbias hl
      refine ⟨_, drainStart_starts hrun hq hk hbad h1 h2 h3 h4 hbias hl, cmds_setHead_of hq ?_ _⟩
      rw [cluster_updCluster_same, (ridgeOnly_touchAll s cl locs true).cluster_eq]
    case row =>
      intro d row a h1 h2 hd hmem hrow ha hbound
      refine ⟨_, m.rowDone d row.2, drainRow_writes hrun hq hk hbad h1 h2 hd hmem hrow ha hbound, mem_rowDrained _ _ _ _ _, ?_, rfl⟩
      rw [cluster_rowDrained]
      exact cmds_setHead_of hq (by rw [(memOnly_write s a row.1).ridgeOnly.cluster_eq]) _

end Sys2Proof.Machine
end

section
/-! PROOF. What an anvil instruction finds: the lease of its core, and room in the queue of its anvil (R195, R196, R199, R220). -/
namespace Sys2Proof.Machine

/-- A meaning that waits after it has read its operand. -/
theorem waits_operand1 {s s' s2 : State} {a : BitVec 6} {dests : List (BitVec 6)} {x : TV} {f : TV → M Flow} {sc : Nat}
    {k : WaitKind} (h : Reads s [a] dests [x] s') (hf : f x s' = .error (.wait k) s2) :
    runInstr sc (operand1 a dests >>= f) s = waitsWith k s s2 := by
  obtain ⟨t, ht, ho⟩ := ReadsFields.ok h
  exact runInstr_wait ht (by simp only [operand1, operands, M.bind_apply, ho, M.pure_apply]; exact hf)

/-- R195: the core of the strand that has the turn holds the lease. -/
theorem needLease_ok {s : State} (h : HoldsLease s) (w : BitVec 32) : needLease w s = .ok () s := by
  obtain ⟨hf, hl⟩ := h
  simp only [needLease, M.bind_apply, M.get_apply, hf, getLease, mySlot, hl, if_true, M.pure_apply]

/-- R196: the queue of the anvil takes a command. -/
theorem acceptTile_ok {s : State} (h : AnvilRoom s) (f : TileCmd → TileCmd) :
    acceptTile f s = .ok () (s.accepted (f s.tileCmd)) := by
  obtain ⟨hroom, hpre⟩ := h
  have hp : ((s.core s.turn.1).preempting && (s.core s.turn.1).phase.isNone) = false := by
    rcases hpre with hpre | hphase
    · rw [hpre, Bool.false_and]
    · rw [Option.isNone_eq_false_iff.2 (Option.isSome_iff_ne_none.2 hphase), Bool.and_false]
  simp only [acceptTile, M.bind_apply, M.get_apply, Nat.not_le.2 hroom, hp, Bool.false_eq_true, if_false, M.modState_apply]
  rfl

/-- R199, R220: a full queue, or one that a pre-emption waits for, takes none. -/
theorem acceptTile_waits {s : State} (h : ¬ AnvilRoom s) (f : TileCmd → TileCmd) :
    acceptTile f s = .error (.wait .inSlot) s := by
  by_cases hfull : 8 ≤ (s.cluster (clusterOf s.turn.1)).cmds.length
  · simp only [acceptTile, M.bind_apply, M.get_apply, hfull, if_true, M.waitFor_apply]
  · have hp : ((s.core s.turn.1).preempting && (s.core s.turn.1).phase.isNone) = true := by
      obtain ⟨hpre, hphase⟩ := not_or.1 fun hidle => h ⟨Nat.not_le.1 hfull, hidle⟩
      rw [Bool.eq_true_of_not_eq_false hpre, Option.isNone_iff_eq_none.2 (not_not.1 hphase), Bool.and_self]
    simp only [acceptTile, M.bind_apply, M.get_apply, hfull, hp, if_false, if_true, M.waitFor_apply]

end Sys2Proof.Machine
end

section
/-! PROOF. The tile instructions (R196, R214, R215, R220). -/
namespace Sys2Proof.Machine

/-! ### The checks of the operands (R215) -/

/-- R215 step 5: the capability of a shape lets the footprint that is used be read. -/
def FootprintOk (k : Nat) (z : Shape) : Prop :=
  z.cap.tag = true ∧ capHas z.cap permLoad = true ∧
    (capHas z.cap permLocal = true → (2 : Int) ^ 63 ≤ spansLow (usedSpans z k)) ∧
    capBase z.cap ≤ spansLow (usedSpans z k) ∧ spansHigh (usedSpans z k) ≤ capTop z.cap

theorem FootprintOk.tagged {k : Nat} {z : Shape} (h : FootprintOk k z) : z.cap.tag = true := h.1

theorem FootprintOk.permitted {k : Nat} {z : Shape} (h : FootprintOk k z) :
    (!capHas z.cap permLoad || (capHas z.cap permLocal && decide (spansLow (usedSpans z k) < 2 ^ 63))) = false := by
  obtain ⟨-, hload, hlocal, -⟩ := h
  rw [hload, Bool.not_true, Bool.false_or, Bool.and_eq_false_imp]
  exact fun hl => decide_eq_false (not_lt.2 (hlocal hl))

theorem FootprintOk.bounded {k : Nat} {z : Shape} (h : FootprintOk k z) :
    (decide (spansLow (usedSpans z k) < capBase z.cap) || decide (capTop z.cap < spansHigh (usedSpans z k))) = false := by
  obtain ⟨-, -, -, hlow, hhigh⟩ := h
  rw [decide_eq_false (not_lt.2 hlow), decide_eq_false (not_lt.2 hhigh), Bool.or_self]

/-- R66: the operand shapes await no result. -/
theorem TileFits.shapesFree {s : State} {t : Strand} {p : Pair} {a b : BitVec 4} {k : Nat} (h : TileFits t p a b k)
    (hc : s.cur = some t) : shapesFree [a.toNat, b.toNat] s = .ok () s := by
  obtain ⟨ha, hb, -⟩ := h
  exact shapesFree_ok hc (by simp [ha, hb])

/-- R215: operands that fit pass every check. -/
theorem tileChecks_ok {s : State} {t : Strand} {p : Pair} {a b : BitVec 4} {k : Nat} (hc : s.cur = some t)
    (h : TileFits t p a b k) (w : Word) : tileChecks p a b k w s = .ok () s := by
  obtain ⟨-, -, hva, hvb, hk, hmin, hmax, hta, hsa, htb, hsb, hcap⟩ := h
  have hcount : (decide (k % 32 ≠ 0) || decide (k < 32) || decide (65536 < k)) = false := by
    simp only [hk, Nat.not_lt.2 hmin, Nat.not_lt.2 hmax, ne_eq, not_true_eq_false, decide_false, Bool.or_self]
  have ha : FootprintOk k (t.getSh a.toNat) := hcap _ List.mem_cons_self
  have hb : FootprintOk k (t.getSh b.toNat) := hcap _ (List.mem_cons_of_mem _ List.mem_cons_self)
  simp only [tileChecks, M.bind_apply, M.getStrand_apply hc, hva, hvb, hcount, hta, hsa, htb, hsb, Bool.not_true,
    Bool.and_self, Bool.false_eq_true, if_false, List.forIn_cons, List.forIn_nil, ha.tagged, ha.permitted,
    ha.bounded, hb.tagged, hb.permitted, hb.bounded, M.pure_apply]

/-! ### The tile instructions (R215) -/

section
variable {s s' : State} {t : Strand} {a b : BitVec 4} {g : BitVec 6} {v : TV} {p : Pair} (hr : Reads s [g] [] [v] s')
  (hc : s'.cur = some t) (hl : HoldsLease s') (hf : TileFits t p a b v.lo.toNat)
include hr hc hl hf

/-- R215: a tile instruction enters its command. -/
theorem tileInstr_enters (ovw : Bool) (k : BitVec 1) (op : BitVec 7) (hroom : AnvilRoom s') :
    tileInstr p ovw a b g k op s = goesOn 0 (s'.accepted { s'.tileCmd with
      kind := .mtile p ovw, buf := k.toNat, sa := t.getSh a.toNat, sb := t.getSh b.toNat, k := v.lo.toNat }) := by
  refine runs_operand1 (flow := .next) hr ?_
  simp only [M.bind_apply, hf.shapesFree hc, needLease_ok hl, tileChecks_ok hc hf, M.getStrand_apply hc, acceptTile_ok hroom,
    M.pure_apply]

/-- R199, R220: a tile instruction waits for a place. -/
theorem tileInstr_waits (ovw : Bool) (k : BitVec 1) (op : BitVec 7) (hroom : ¬ AnvilRoom s') :
    tileInstr p ovw a b g k op s = waitsWith .inSlot s s' := by
  refine waits_operand1 hr ?_
  simp only [M.bind_apply, hf.shapesFree hc, needLease_ok hl, tileChecks_ok hc hf, M.getStrand_apply hc, acceptTile_waits hroom]

end

/-- R215: each form is the tile instruction of its pair. -/
theorem takesTile_of {i : BitVec 4 → BitVec 4 → BitVec 6 → BitVec 1 → Sys2Proof.Instr} {p : Pair} {ovw : Bool}
    {op : BitVec 7} (h : ∀ a b g k s, exec (i a b g k) s = tileInstr p ovw a b g k op s) : TakesTile i p ovw :=
  fun _ _ _ a b g k _ hr hc hl hf hroom => (h a b g k _).trans (tileInstr_enters hr hc hl hf ovw k op hroom)

/-- Settles O47: each form is the tile instruction of its pair, which enters its command where its operands fit; where the
anvil has no room, it waits. -/
theorem tileFormsEnterCommands : Obligations.TileFormsEnterCommands := by
  unfold Obligations.TileFormsEnterCommands
  refine ⟨takesTile_of fun _ _ _ _ _ => rfl, takesTile_of fun _ _ _ _ _ => rfl, takesTile_of fun _ _ _ _ _ => rfl,
    takesTile_of fun _ _ _ _ _ => rfl, takesTile_of fun _ _ _ _ _ => rfl, takesTile_of fun _ _ _ _ _ => rfl,
    takesTile_of fun _ _ _ _ _ => rfl, takesTile_of fun _ _ _ _ _ => rfl, takesTile_of fun _ _ _ _ _ => rfl,
    takesTile_of fun _ _ _ _ _ => rfl, takesTile_of fun _ _ _ _ _ => rfl, takesTile_of fun _ _ _ _ _ => rfl,
    takesTile_of fun _ _ _ _ _ => rfl, takesTile_of fun _ _ _ _ _ => rfl, takesTile_of fun _ _ _ _ _ => rfl,
    takesTile_of fun _ _ _ _ _ => rfl,
    fun s s' t a b g k v hr hc hl hf hroom => tileInstr_waits hr hc hl hf false k 0x58#7 hroom⟩

end Sys2Proof.Machine
end

section
/-! PROOF. Pops leave what every strand waits for (R63, R127, R253, R277). -/
namespace Sys2Proof.Machine

/-- Each slot that holds a strand holds one that waits as before. -/
def SameWaits (s n : State) : Prop := ∀ k sl, (n.strand k sl).map (·.wait) = (s.strand k sl).map (·.wait)

theorem SameWaits.refl (s : State) : SameWaits s s := fun _ _ => rfl

theorem SameWaits.trans {s m n : State} (h : SameWaits s m) (h' : SameWaits m n) : SameWaits s n :=
  fun k sl => (h' k sl).trans (h k sl)

theorem sameWaits_of_cores {s n : State} (h : n.cores = s.cores) : SameWaits s n := fun k sl => by
  simp only [State.strand, State.core, h]

theorem sameWaits_updCore (s : State) (h : Nat) {f : Core → Core} (hf : ∀ c, (f c).slots = c.slots) :
    SameWaits s (s.updCore h f) := fun k sl => by rw [strand_updCore hf]

theorem strand_setChan (s : State) (h e : Nat) (c : Chan) (k sl : Nat) : (s.setChan h e c).strand k sl = s.strand k sl :=
  strand_updCore (f := fun x => { x with chans := kset e c x.chans }) (fun _ => rfl) s h k sl

theorem sameWaits_setChan (s : State) (h e : Nat) (c : Chan) : SameWaits s (s.setChan h e c) := fun k sl => by
  rw [strand_setChan]

theorem sameWaits_setStrand {s : State} {k sl : Nat} {t u : Strand} (ht : s.strand k sl = some t) (hw : u.wait = t.wait) :
    SameWaits s (s.setStrand k sl u) := by
  intro j r
  by_cases hj : j = k
  · subst hj
    by_cases hr : r = sl
    · subst hr
      rw [strand_setStrand_same, ht, Option.map_some, Option.map_some, hw]
    · rw [strand_setStrand_slot hr]
  · rw [strand_setStrand_core hj]

theorem sameWaits_updStrand (s : State) (k sl : Nat) {f : Strand → Strand} (hf : ∀ t, (f t).wait = t.wait) :
    SameWaits s (s.updStrand k sl f) := by
  unfold State.updStrand
  split
  next ht => exact sameWaits_setStrand ht (hf _)
  · exact .refl s

theorem sameWaits_memOnly {s n : State} (h : MemOnly s n) : SameWaits s n :=
  sameWaits_of_cores (congrArg State.cores h :)

theorem sameWaits_placePart (s : State) (h e : Nat) (c : Chan) (a : Nat) (v : BitVec 128) :
    SameWaits s ((s.setChan h e c).writePart a v) :=
  (sameWaits_setChan s h e c).trans (sameWaits_memOnly (memOnly_writeTagged _ a _))

theorem sameWaits_placeSlot {s n : State} {h e : Nat} {bytes : List Byte} (hp : s.placeSlot h e bytes = some n) :
    SameWaits s n := by
  unfold State.placeSlot at hp
  split at hp
  · cases hp
  · split at hp
    · cases hp
    · cases hp
      exact (sameWaits_setChan s h e _).trans (sameWaits_memOnly (memOnly_write _ _ _))

theorem sameWaits_bindSlot (s : State) (k sl q h e i : Nat) : SameWaits s (s.bindSlot k sl q h e i) :=
  sameWaits_updStrand s k sl fun t => by
    repeat' split
    all_goals rfl

theorem sameWaits_replayItem {s n : State} {h : Nat} {x : GutterItem} {slot : Option Nat}
    (hr : s.replayItem h x = .done n slot) : SameWaits s n := by
  unfold State.replayItem at hr
  cases x with
  | part e c0 q p tgt v =>
    dsimp only at hr
    repeat' split at hr
    all_goals cases hr
    · exact (sameWaits_placePart s h e _ _ v).trans (sameWaits_bindSlot _ _ _ _ _ _ _)
    · exact (sameWaits_placePart s h e _ _ v).trans (sameWaits_bindSlot _ _ _ _ _ _ _)
    · exact sameWaits_placePart s h e _ _ v
    · exact sameWaits_placePart s h e _ _ v
  | whole e d q bytes =>
    dsimp only at hr
    repeat' split at hr
    all_goals cases hr
    exact sameWaits_placeSlot ‹_›
  | message m =>
    dsimp only at hr
    repeat' split at hr
    all_goals cases hr
    exact sameWaits_placeSlot ‹_›
  | status v =>
    dsimp only at hr
    split at hr <;> cases hr
    exact sameWaits_of_cores rfl

theorem sameWaits_reportDropped (s : State) (m : Message) : SameWaits s (s.reportDropped m) := by
  unfold State.reportDropped
  split <;> exact sameWaits_of_cores rfl

theorem sameWaits_replayGutter (h : Nat) : ∀ (n : Nat) (items kept : List GutterItem) (s : State),
    SameWaits s (State.replayGutter h n items kept s) := by
  intro n
  induction n with
  | zero => exact fun items kept s => sameWaits_updCore s h fun _ => rfl
  | succ n ih =>
    intro items kept s
    cases items with
    | nil => exact sameWaits_updCore s h fun _ => rfl
    | cons x r =>
      unfold State.replayGutter
      split
      · exact ih _ _ _
      · split
        · exact ih _ _ _
        · refine SameWaits.trans ?_ (ih _ _ _)
          split
          · exact sameWaits_reportDropped s _
          · exact sameWaits_of_cores rfl
          · exact sameWaits_of_cores rfl
          · exact .refl s
        next hd => exact (sameWaits_replayItem hd).trans (ih _ _ _)

theorem sameWaits_drainGutter (s : State) (h : Nat) : SameWaits s (s.drainGutter h) := by
  unfold State.drainGutter
  dsimp only
  split
  · exact .refl s
  · exact sameWaits_replayGutter h _ _ _ s

theorem sameWaits_popPart {s n : State} {k sl q : Nat} {v : TV} (hp : s.popPart k sl q = some (v, n)) : SameWaits s n := by
  have htake {t : Strand} (ht : s.strand k sl = some t) (h e : Nat) (c : Chan) (b : QBind) :
      SameWaits s ((s.setChan h e c).setStrand k sl (t.setBind q b)) :=
    (sameWaits_setChan s h e c).trans (sameWaits_setStrand ((strand_setChan s h e c k sl).trans ht) rfl)
  unfold State.popPart at hp
  split at hp
  · cases hp
  next t ht =>
    dsimp only at hp
    repeat' split at hp
    all_goals simp only [reduceCtorEq, Option.some.injEq, Prod.mk.injEq] at hp
    case h_2 => obtain ⟨-, rfl⟩ := hp; exact sameWaits_of_cores rfl
    all_goals
      obtain ⟨-, rfl⟩ := hp
      exact htake ht _ _ _ _

theorem sameWaits_popAt {s n : State} {k sl q : Nat} {v : TV} (hp : s.popAt k sl q = some (v, n)) : SameWaits s n := by
  unfold State.popAt at hp
  split at hp
  next h1 => cases hp; exact (sameWaits_popPart h1).trans (sameWaits_drainGutter _ k)
  · cases hp

theorem sameWaits_gather {k sl : Nat} {t : Strand} (rs : List (BitVec 6)) : ∀ {popped vals : List TV} {s n : State},
    gather k sl rs popped t s = .inl (vals, n) → SameWaits s n := by
  induction rs with
  | nil => intro _ _ s _ h; cases h; exact .refl s
  | cons r rs ih =>
    intro popped vals s n h
    unfold gather at h
    split at h
    · split at h
      · split at h <;> cases h
        exact ih ‹_›
      · split at h
        · cases h
        next hp => split at h <;> cases h; exact (sameWaits_popAt hp).trans (ih ‹_›)
    · split at h <;> cases h
      exact ih ‹_›

theorem sameWaits_keepPops (s : State) (srcs : List (BitVec 6)) (l : List TV) : SameWaits s (s.keepPops srcs l) := by
  unfold State.keepPops
  split
  · exact sameWaits_updStrand s _ _ fun _ => rfl
  · exact .refl s

/-! ### The strand that has read its operands (R63, R65) -/

theorem settle_wait (t : Strand) (now : Nat) : (t.settle now).wait = t.wait :=
  (congrArg Strand.wait (putResults_rest (t.pend.filter (fun p => decide (p.avail ≤ now))) t) :)

theorem settle_waitsIn (t : Strand) (now : Nat) (ks : List WaitKind) : (t.settle now).waitsIn ks = t.waitsIn ks := by
  rw [Strand.waitsIn, settle_wait, Strand.waitsIn]

/-- R63, R127: a strand that has read its operands waits as it did. -/
theorem Reads.waitsIn_eq {s s' : State} {srcs dests : List (BitVec 6)} {vals : List TV} {t u : Strand} (ht : Turn s t)
    (h : Reads s srcs dests vals s') (hu : s'.cur = some u) (ks : List WaitKind) : u.waitsIn ks = t.waitsIn ks := by
  obtain ⟨t1, ht1, -, -, -, -, -, -, -, n, hg, rfl⟩ := h
  obtain rfl := ht.unique ht1
  have hseats := (keepsSeats_gather srcs hg).trans (keepsSeats_keepPops n srcs vals)
  have hwaits := ((sameWaits_gather srcs hg).trans (sameWaits_keepPops n srcs vals)) s.turn.1 s.turn.2
  have hw : u.wait = t.wait := by
    unfold State.cur at hu
    rw [hseats.turn, settled_turn] at hu
    rw [hu, turn_strand_settled, Option.map_some, Option.map_some, settle_wait] at hwaits
    exact Option.some.inj hwaits
  rw [Strand.waitsIn, hw, Strand.waitsIn]

end Sys2Proof.Machine
end

section
/-! PROOF. The lease instructions (R195 to R199, R204 to R210), `mepi` by the bytes that it reads. -/
namespace Sys2Proof.Machine

/-! ### Without the lease (R195) -/

/-- R195: a core that neither holds the lease nor asks for it, and that has not begun to wait, traps. -/
theorem needLease_traps {s : State} {t : Strand} (hc : s.cur = some t)
    (hfail : kfind s.turn.1 (s.cluster (clusterOf s.turn.1)).tileFail = none)
    (hno : (s.cluster (clusterOf s.turn.1)).lease.grantedTo (slotInCluster s.turn.1) = false)
    (hask : (s.cluster (clusterOf s.turn.1)).lease.awaited (slotInCluster s.turn.1) = false)
    (hwait : t.waitsIn [.lease] = false) (w : BitVec 32) :
    needLease w s = .error (.trap 0x0B (w.setWidth 64)) s := by
  simp only [needLease, M.bind_apply, M.get_apply, hfail, getLease, mySlot, hno, M.getStrand_apply hc, hask, hwait,
    Bool.or_self, Bool.false_eq_true, if_false, M.trap_apply]

/-! ### `mlease` and `mstat` (R204, R205) -/

section
variable {s s' : State} {d : BitVec 6} {sc : BitVec 2} (hr : Reads s [] [d] [] s')
include hr

/-- R204: the core holds the lease. -/
theorem mlease_held (h : (s'.cluster (clusterOf s'.turn.1)).lease.grantedTo (slotInCluster s'.turn.1) = true) :
    exec (.mlease d sc) s = gives sc.toNat d 0 (TV.ofNat 1) s' :=
  runs_operands (flow := .next) hr (by
    simp only [M.bind_apply, getLease, mySlot, h, if_true, result_ok, M.pure_apply])

section
variable (h : (s'.cluster (clusterOf s'.turn.1)).lease.grantedTo (slotInCluster s'.turn.1) = false)
include h

/-- R199, R204: a request. -/
theorem mlease_requests (ha : hasAnvil s'.turn.1 = true) : exec (.mlease d sc) s = gives sc.toNat d 0 TV.zero
    (s'.setLease (clusterOf s'.turn.1) ((s'.cluster (clusterOf s'.turn.1)).lease.request (slotInCluster s'.turn.1))) :=
  runs_operands (flow := .next) hr (by
    simp only [M.bind_apply, getLease, mySlot, h, Bool.false_eq_true, if_false, M.self_apply, ha, if_true, modLease,
      result_ok, M.pure_apply]
    rfl)

/-- R14: no anvil, no request. -/
theorem mlease_finial (ha : hasAnvil s'.turn.1 = false) : exec (.mlease d sc) s = gives sc.toNat d 0 TV.zero s' :=
  runs_operands (flow := .next) hr (by
    simp only [M.bind_apply, getLease, mySlot, h, Bool.false_eq_true, if_false, M.self_apply, ha, result_ok, M.pure_apply])

end

/-- R205: the status word is read, and its `zs` cleared. -/
theorem mstat_gives : exec (.mstat d sc) s = gives sc.toNat d 0
    (TV.ofNat ((s'.cluster (clusterOf s'.turn.1)).leaseWord (slotInCluster s'.turn.1)))
    (s'.setLease (clusterOf s'.turn.1) { (s'.cluster (clusterOf s'.turn.1)).lease with zs := false }) :=
  runs_operands (flow := .next) hr (by
    simp only [M.bind_apply, mySlot, M.get_apply, modLease, result_ok, M.pure_apply]
    rfl)

end

/-! ### `mwait` and `mrelease` (R204) -/

section
variable {s : State} {t : Strand} {l : Lease} {sc : BitVec 2} (ht : Turn s t)
  (hl : l = ((s.settled t).cluster (clusterOf s.turn.1)).lease)
include ht hl

/-- R204: the core holds the lease. -/
theorem mwait_done (h : l.grantedTo (slotInCluster s.turn.1) = true) :
    exec (.mwait sc) s = goesOn sc.toNat (s.settled t) :=
  runInstr_ok ht (by
    subst hl
    simp only [M.bind_apply, getLease, mySlot, settled_turn, h, if_true, M.pure_apply])

/-- R199, R204: the holder gives the lease up; a request is withdrawn unless another strand of the core waits. -/
theorem mrelease_runs : exec (.mrelease sc) s = goesOn sc.toNat ((s.settled t).setLease (clusterOf s.turn.1)
    (if l.grantedTo (slotInCluster s.turn.1) then { l with st := .draining }
     else if ((s.settled t).core s.turn.1).waitsForLease then l else l.withdraw (slotInCluster s.turn.1))) := by
  subst hl
  change execMrelease sc s = _
  unfold execMrelease
  refine runInstr_ok (flow := .next) ht ?_
  simp only [M.bind_apply, mySlot, M.getCore_apply, modLease, settled_turn, M.pure_apply]
  rfl

section
variable (h : l.grantedTo (slotInCluster s.turn.1) = false)
include h

/-- R195, R204: the core asks for the lease, or the strand has begun to wait. -/
theorem mwait_waits (ha : (l.awaited (slotInCluster s.turn.1) || t.waitsIn [.lease]) = true) :
    exec (.mwait sc) s = waits .lease t s :=
  runInstr_wait ht (by
    subst hl
    simp only [M.bind_apply, getLease, mySlot, settled_turn, h, M.getStrand_apply (cur_settled s t), settle_waitsIn, ha,
      Bool.false_eq_true, if_false, if_true, M.waitFor_apply])

/-- R204: no request, no wait. -/
theorem mwait_traps (ha : (l.awaited (slotInCluster s.turn.1) || t.waitsIn [.lease]) = false) :
    exec (.mwait sc) s = traps 0x0B ((encode (.mwait sc)).setWidth 64) t (s.settled t) :=
  runInstr_trap ht (by
    subst hl
    simp only [M.bind_apply, getLease, mySlot, settled_turn, h, M.getStrand_apply (cur_settled s t), settle_waitsIn, ha,
      Bool.false_eq_true, if_false, M.trap_apply]
    rfl)

end

end

/-! ### `mmap` (R206) -/

/-- R206: a map is captured. -/
theorem mmap_captures {s s' : State} {a b : BitVec 6} {sc : BitVec 2} {m p : TV} (hr : Reads s [a, b] [] [m, p] s')
    (hl : HoldsLease s') (hdst : ∀ i, i < 16 → mapDst m.lo i ≤ 8) (hbase : mapBase p.lo % 64 = 0)
    (hpitch : mapPitch p.lo ≠ 0) :
    exec (.mmap a b sc) s = goesOn sc.toNat (s'.setLease (clusterOf s'.turn.1)
      { (s'.cluster (clusterOf s'.turn.1)).lease with map := some (m.lo, p.lo) }) := by
  have hany : (List.range 16).any (fun i => decide (8 < mapDst m.lo i)) = false :=
    List.any_eq_false.2 fun i hi => by simpa using hdst i (List.mem_range.1 hi)
  refine runs_operand2 (flow := .next) hr ?_
  simp only [M.bind_apply, needLease_ok hl, hany, hbase, hpitch, ne_eq, not_true_eq_false, decide_false, Bool.or_self,
    Bool.false_eq_true, if_false, modLease, M.pure_apply]
  rfl

/-! ### `mdrain` and `mclear` (R208, R209, R228) -/

section
variable {s s' : State} {a : BitVec 6} {sc : BitVec 2} {x : TV} (hr : Reads s [a] [] [x] s')
include hr

section
variable (hl : HoldsLease s') (hroom : AnvilRoom s')
include hl hroom

/-- R208: the drain takes the captured map and epilogue. -/
theorem mdrain_enters {m p : Word} {e : BitVec 512} (hm : (s'.cluster (clusterOf s'.turn.1)).lease.map = some (m, p))
    (he : (s'.cluster (clusterOf s'.turn.1)).lease.epi = some e)
    (hok : drainOk m p e (s'.cluster (clusterOf s'.turn.1)).lease.window = true) :
    exec (.mdrain a sc) s = goesOn sc.toNat (s'.accepted { s'.tileCmd with
      kind := .drain, buf := x.lo.toNat % 2, map0 := m, map1 := p, epi := e }) := by
  refine runs_operand1 (flow := .next) hr ?_
  simp only [M.bind_apply, needLease_ok hl, getLease, hm, he, hok, Bool.not_true, Bool.false_eq_true, if_false,
    acceptTile_ok hroom, M.pure_apply]

/-- R209: a clear of the buffers that the operand names. -/
theorem mclear_enters (hx : x.lo.toNat % 4 ≠ 0) : exec (.mclear a sc) s =
    goesOn sc.toNat (s'.accepted { s'.tileCmd with kind := .clear, buf := x.lo.toNat % 4 }) := by
  refine runs_operand1 (flow := .next) hr ?_
  simp only [M.bind_apply, needLease_ok hl, hx, if_false, acceptTile_ok hroom, M.pure_apply]

end

/-- R209: a clear of no buffer enters no command. -/
theorem mclear_nothing (hl : HoldsLease s') (hx : x.lo.toNat % 4 = 0) : exec (.mclear a sc) s = goesOn sc.toNat s' := by
  refine runs_operand1 (flow := .next) hr ?_
  simp only [M.bind_apply, needLease_ok hl, hx, if_true, M.pure_apply]

section
variable {t : Strand} (ht : Turn s t) (hfail : kfind s'.turn.1 (s'.cluster (clusterOf s'.turn.1)).tileFail = none)
  (hno : (s'.cluster (clusterOf s'.turn.1)).lease.grantedTo (slotInCluster s'.turn.1) = false)
  (hask : (s'.cluster (clusterOf s'.turn.1)).lease.awaited (slotInCluster s'.turn.1) = false)
  (hwait : t.waitsIn [.lease] = false)
include ht hfail hno hask hwait

/-- R195: what follows the read of the operand finds no lease. -/
theorem needLease_traps_read (w : BitVec 32) : needLease w s' = .error (.trap 0x0B (w.setWidth 64)) s' := by
  obtain ⟨u, hu⟩ := ReadsFields.cur hr
  exact needLease_traps hu hfail hno hask ((hr.waitsIn_eq ht hu _).trans hwait) w

theorem mdrain_traps : exec (.mdrain a sc) s = traps 0x0B ((encode (.mdrain a sc)).setWidth 64) t s' :=
  traps_operand1 ht hr (by
    simp only [M.bind_apply, needLease_traps_read hr ht hfail hno hask hwait]
    rfl)

theorem mclear_traps : exec (.mclear a sc) s = traps 0x0B ((encode (.mclear a sc)).setWidth 64) t s' :=
  traps_operand1 ht hr (by
    simp only [M.bind_apply, needLease_traps_read hr ht hfail hno hask hwait]
    rfl)

end

end

/-! ### `mflags` (R210) -/

theorem ofWord_tileFlagWord (c : Cluster) : TV.ofWord c.tileFlagWord = TV.ofNat (c.f1.toNat * 2 ^ 4 + c.f0.toNat) := by
  have h1 := c.f1.isLt
  have h0 := c.f0.isLt
  have hlt : c.f1.toNat * 2 ^ 4 + c.f0.toNat < 2 ^ 64 := by omega
  exact TV.ofWord_ofNat hlt

section
variable {s s' : State} {t : Strand} {d a : BitVec 6} {sc : BitVec 2} {x : TV} (hr : Reads s [a] [d] [x] s')
  (hc : s'.cur = some t)
include hr hc

section
variable (hg : t.granted = none) (hw : t.wait = none) (hl : HoldsLease s')
include hg hw hl

/-- R210: no command is left: the flags are read and cleared. -/
theorem mflags_reads (hq : (s'.cluster (clusterOf s'.turn.1)).cmds = []) : exec (.mflags d a sc) s = gives sc.toNat d 0
    (TV.ofNat ((s'.cluster (clusterOf s'.turn.1)).f1.toNat * 2 ^ 4 + (s'.cluster (clusterOf s'.turn.1)).f0.toNat))
    (s'.updCluster (clusterOf s'.turn.1) (·.clearTileFlags x.lo)) :=
  runs_operand1 (flow := .next) hr (by
    simp only [M.bind_apply, M.getStrand_apply hc, hg, hw, needLease_ok hl, M.get_apply, hq, List.isEmpty_nil, Bool.not_true,
      Bool.false_eq_true, if_false, M.modState_apply, result_ok, M.pure_apply, ofWord_tileFlagWord])

/-- R210: commands are left. -/
theorem mflags_waits (hq : (s'.cluster (clusterOf s'.turn.1)).cmds ≠ []) :
    exec (.mflags d a sc) s = waitsWith (.mflags s'.nextAccess x.lo) s s' := by
  have hne : (s'.cluster (clusterOf s'.turn.1)).cmds.isEmpty = false := List.isEmpty_eq_false_iff.2 hq
  refine waits_operand1 hr ?_
  simp only [M.bind_apply, M.getStrand_apply hc, hg, hw, needLease_ok hl, M.get_apply, hne, Bool.not_false, if_true,
    M.waitFor_apply]

end

/-- R210: the wait is over, and its word is there. -/
theorem mflags_granted {w : Word} (hg : t.granted = some w) : exec (.mflags d a sc) s = gives sc.toNat d 0 (TV.ofWord w) s' :=
  runs_operand1 (flow := .next) hr (by
    simp only [M.bind_apply, M.getStrand_apply hc, hg, result_ok, M.pure_apply])

end

/-! ### `mepi` (R207, R224) -/

/-- A block of 64 bytes at a multiple of 64 lies in one page. -/
theorem pagePieces_line {x : Nat} (h : x % 64 = 0) : pagePieces x 64 = [(x, 64)] := by
  have hfit : min 64 (4096 - x % 4096) = 64 := by omega
  simp only [pagePieces, hfit, if_true]
  rfl

/-- R95, R278, R303: a line that an instruction may read, at its one location. -/
theorem blockLocs_line {s : State} {c : TV} {x p loc : Nat} {w fm : Bool} {k : WaitKind} (hx : x % 64 = 0) (hn : NoFailure s)
    (h : Reaches s c x 64 p w fm loc) : blockLocs x 64 w fm k s = .ok [(loc, 64)] s := by
  obtain ⟨hfail, hawait⟩ := hn
  obtain ⟨-, hplace, hheld, hbusy⟩ := h
  have htake : takeFailure x k s = .ok () s := by
    simp only [takeFailure, M.bind_apply, M.get_apply, hfail, hawait, Bool.false_eq_true, if_false, M.pure_apply]
  have hpiece : pieceLoc x w fm k (x, 64) s = .ok (loc, 64) s := by
    simp only [pieceLoc, M.bind_apply, M.get_apply, hplace, hheld, hbusy, Bool.false_eq_true, if_false, M.pure_apply]
  simp only [blockLocs, M.bind_apply, htake, pagePieces_line hx, List.mapM_cons, List.mapM_nil, hpiece, M.pure_apply]

theorem curWaiter_touch (s : State) (cl a n : Nat) (w : Bool) : (s.touch cl a n w).curWaiter = s.curWaiter := by
  have h := dirKeeps_touch s cl a n w
  simp only [State.curWaiter, State.cur, State.strand, State.core, h.turn, h.cores]

/-- R289: the state after a line has been read. -/
def State.lineRead (s : State) (loc : Nat) : State :=
  (s.touch (clusterOf s.turn.1) loc 64 false).dropRequests s.curWaiter

theorem readBlock_line (s : State) (loc : Nat) :
    readBlock [(loc, 64)] s = .ok ((s.lineRead loc).pieceBytes (loc, 64)) (s.lineRead loc) := by
  simp only [readBlock, M.bind_apply, List.forM_eq_forM, List.forM_cons, List.forM_nil, touchFor, M.modState_apply,
    M.pure_apply, M.get_apply, curWaiter_touch, List.flatMap_cons, List.flatMap_nil, List.append_nil]
  rfl


/-- R207: the descriptor that `mepi` reads at a location. -/
def epiOf (s : State) (loc : Nat) : BitVec 512 := BitVec.ofNat 512 (bytesNat ((s.lineRead loc).pieceBytes (loc, 64)))

section
variable {s s' : State} {a : BitVec 6} {sc : BitVec 2} {c : TV} {loc : Nat} (hr : Reads s [a] [] [c] s') (hl : HoldsLease s')
  (hcl : Clear s') (hn : NoFailure s') (hx : capAddr c % 64 = 0)
  (hreach : Reaches s' c (capAddr c) 64 permLoad false false loc)
include hr hl hcl hn hx hreach

/-- R207: an epilogue that follows the rules is captured. -/
theorem mepi_captures (hok : epiOk (epiOf s' loc) c = true) : exec (.mepi a sc) s = goesOn sc.toNat
    ((s'.lineRead loc).setLease (clusterOf (s'.lineRead loc).turn.1)
      { ((s'.lineRead loc).cluster (clusterOf (s'.lineRead loc).turn.1)).lease with
        epi := some (epiOf s' loc), window := epiHasWindow (epiOf s' loc) }) := by
  unfold epiOf at hok ⊢
  refine runs_operand1 (flow := .next) hr ?_
  simp only [M.bind_apply, needLease_ok hl, afterAcquire_clear hcl, derefCheck_ok hreach.1, hx, ne_eq, not_true_eq_false,
    if_false, blockLocs_line hx hn hreach, readBlock_line, hok, Bool.not_true, Bool.false_eq_true, modLease, M.pure_apply]
  rfl

/-- R224: one that breaks them traps. -/
theorem mepi_traps {t : Strand} (ht : Turn s t) (hbad : epiOk (epiOf s' loc) c = false) :
    exec (.mepi a sc) s = traps 0x0D (BitVec.ofNat 64 (capAddr c)) t (s'.lineRead loc) := by
  unfold epiOf at hbad
  refine traps_operand1 ht hr ?_
  simp only [M.bind_apply, needLease_ok hl, afterAcquire_clear hcl, derefCheck_ok hreach.1, hx, ne_eq, not_true_eq_false,
    if_false, blockLocs_line hx hn hreach, readBlock_line, hbad, Bool.not_false, if_true, M.trap_apply]

end

theorem bytesNat_readBytes (s : State) (n : Nat) : ∀ a, bytesNat (s.readBytes a n) = s.read a n := by
  induction n with
  | zero => exact fun _ => rfl
  | succ n ih =>
    intro a
    have hcons : s.readBytes a (n + 1) = s.byte a :: s.readBytes (a + 1) n := by
      simp only [State.readBytes, upto, List.map_map, List.range_succ_eq_map, List.map_cons, Nat.add_zero]
      congr 1
      exact List.map_congr_left fun i _ => congrArg s.byte (by simp only [Function.comp_apply]; omega)
    rw [hcons, bytesNat, ih, State.read]

end Sys2Proof.Machine
end

section
/-! PROOF. What the claim about the lease instructions rests on: the firmware window (R207, R451).

The claim names the descriptor of `mepi` by the bytes at its location. The model reads a line at a location 12 · 2^60 and up
as the firmware window (`State.pieceBytes`), and a translation may give such a host physical address. What a byte of the
window stands for is `Config.windowByte`, a constant without a body (log 43): the claim holds if it takes every address
for itself, and only if it takes the first of the window so, and no proof shows either of such a constant. -/
namespace Sys2Proof.Machine

/-! ### The firmware window (R451) -/

/-- R451: a byte of the window at `x` stands for itself. -/
def WindowPlain (x : Nat) : Prop := Config.windowByte x = none ∨ Config.windowByte x = some (x, false)

theorem windowRead_plain (h : ∀ x, WindowPlain x) (s : State) (n : Nat) : ∀ x, s.windowRead x n = s.read x n := by
  induction n with
  | zero => exact fun _ => rfl
  | succ n ih =>
    intro x
    rcases h x with hx | hx <;> simp only [State.windowRead, State.read, hx, ih]

theorem bytesNat_pieceBytes (h : ∀ x, WindowPlain x) (s : State) (a n : Nat) : bytesNat (s.pieceBytes (a, n)) = s.read a n := by
  unfold State.pieceBytes
  split
  · rw [windowRead_plain h, bytesNat_natBytes, Nat.mod_eq_of_lt]
    exact (read_lt s n a).trans_eq (pow_mul 2 8 n)
  · exact bytesNat_readBytes s n a

theorem lineRead_mem (s : State) (loc : Nat) : (s.lineRead loc).mem = s.mem :=
  (dirKeeps_touch s (clusterOf s.turn.1) loc 64 false).mem

theorem epiOf_plain (h : ∀ x, WindowPlain x) (s : State) (loc : Nat) : epiOf s loc = BitVec.ofNat 512 (s.read loc 64) := by
  rw [epiOf, bytesNat_pieceBytes h, read_of_mem (lineRead_mem s loc)]

/-! ### The lease instructions together -/

/-- R195 to R199, R204 to R210: where a byte of the window stands for itself wherever it lies, the lease instructions do what
`LeaseFormsFollowTheLease` says. -/
theorem leaseForms_of_windowPlain (h : ∀ x, WindowPlain x) : Obligations.LeaseFormsFollowTheLease := by
  unfold Obligations.LeaseFormsFollowTheLease
  refine ⟨?request, ?wait, ?map, ?epilogue, ?command, ?flags, ?without⟩
  case request =>
    intro s s' l n d sc hr hl hn
    subst hl hn
    exact ⟨mlease_held hr, mlease_requests hr, mlease_finial hr, mstat_gives hr⟩
  case wait =>
    intro s r t l n sc ht hrt hl hn
    subst hrt hn
    have hrel := mrelease_runs (sc := sc) ht hl
    refine ⟨fun hg => ⟨mwait_done ht hl hg, by rw [hrel, if_pos hg]⟩, fun hg => ?_, fun hg ha => ?_, fun hg ha hw => ?_⟩
    · rw [hrel, hg, if_neg Bool.false_ne_true]
    · exact mwait_waits ht hl hg (Bool.or_eq_true_iff.2 ha)
    · exact mwait_traps ht hl hg (Bool.or_eq_false_iff.2 ⟨ha, hw⟩)
  case map =>
    intro s s' a b sc m p hr hl hdst hbase hpitch
    exact mmap_captures hr hl hdst hbase (Nat.mul_ne_zero hpitch (by decide))
  case epilogue =>
    intro s s' m a sc c loc e hr hl hcl hn hx hreach he hok hm
    subst he hm
    rw [← epiOf_plain h] at hok ⊢
    exact mepi_captures hr hl hcl hn hx hreach hok
  case command =>
    intro s s' a sc x l hr hl hroom hl'
    subst hl'
    exact ⟨fun m p e => mdrain_enters hr hl hroom, mclear_enters hr hl hroom, mclear_nothing hr hl⟩
  case flags =>
    intro s s' n t d a sc x c hr hc
    refine ⟨fun hg hw hl hcl hn => ?_, fun w => mflags_granted hr hc⟩
    subst hcl hn
    exact ⟨mflags_reads hr hc hg hw hl, mflags_waits hr hc hg hw hl⟩
  case without =>
    intro s s' t a sc x l n ht hr hfail hl hn hno hask hwait
    subst hl hn
    exact ⟨mdrain_traps hr ht hfail hno hask hwait, mclear_traps hr ht hfail hno hask hwait⟩

/-- R451: what the byte of the window at `x` reads as. -/
def State.windowByteAt (s : State) (x : Nat) : Nat :=
  match Config.windowByte x with
  | none => (s.byte x).toNat
  | some (loc, false) => (s.byte loc).toNat
  | some (loc, true) => (s.tagAt loc).toNat

/-- R451: a line in the window begins with what its first byte stands for. -/
theorem epiOf_inWindow {loc : Nat} (h : loc / 2 ^ 60 = 12) (s : State) :
    (epiOf s loc).toNat % 256 = (s.lineRead loc).windowByteAt loc % 256 := by
  have hread : (s.lineRead loc).windowRead loc 64 =
      (s.lineRead loc).windowByteAt loc + 256 * (s.lineRead loc).windowRead (loc + 1) 63 := rfl
  have hbytes : (s.lineRead loc).pieceBytes (loc, 64) = natBytes 64 ((s.lineRead loc).windowRead loc 64) := if_pos h
  rw [epiOf, hbytes, bytesNat_natBytes, BitVec.toNat_ofNat, hread]
  omega

/-! ### A line of memory that has the addresses of the window -/

namespace WindowLine

/-- A capability to load the page. -/
def cap : TV := mkCap 0x2000 256 0 0 0x5F

/-- The strand, with the capability in g1. -/
def strand : Strand := { bootStrand (2 ^ 63) with g := [(1, cap)] }

/-- A translation of the page to host physical addresses that the firmware window has too. -/
def entry : AtcEntry := ⟨0, 0, 0, 0x2000, 12 * 2 ^ 60, true, false, false, false⟩

/-- The holder of the lease of cluster 0; memory holds an epilogue descriptor whose first byte is 1. -/
def start : State := { State.reset with
  turn := (0, 0), cores := [(0, { Core.init with slots := [(0, strand)] })],
  clusters := [(0, { Cluster.init with lease := { Lease.init with st := .granted, holder := some 0 }, atc := [entry] })],
  regions := [(0, { Region.init with st := .ready, gate := true })],
  mem := [(12 * 2 ^ 60, 1#8), (12 * 2 ^ 60 + 1, 0x10#8)] }

/-- The state after the capability is read. -/
def worn : State := start.settled strand

theorem turn_strand : Turn start strand := ⟨rfl, rfl⟩

theorem reads_cap : Reads start [1#6] [] [cap] worn :=
  ⟨strand, turn_strand, by decide, by decide, by decide, by decide, by decide, by decide, by decide, _, rfl, rfl⟩

theorem holdsLease : HoldsLease worn := ⟨rfl, rfl⟩

theorem clear : Clear worn := ⟨rfl, rfl⟩

theorem noFailure : NoFailure worn := ⟨rfl, rfl⟩

theorem reaches : Reaches worn cap (capAddr cap) 64 permLoad false false (12 * 2 ^ 60) := ⟨by decide, rfl, rfl, rfl⟩

/-- The descriptor that the clause on `mepi` names. -/
theorem read_descriptor : worn.read (12 * 2 ^ 60) 64 = 0x1001 := by decide

theorem epiOk_descriptor : epiOk (BitVec.ofNat 512 0x1001) cap = true := by decide +kernel

/-- The epilogue that cluster 0 holds after an instruction. -/
def epiAfter : Host.Outcome State Fault Refusal → Option (BitVec 512)
  | .next n => (n.cluster 0).lease.epi
  | _ => none

/-- `mepi` captures what stands for the line in the window, or nothing. -/
theorem epiAfter_mepi : epiAfter (exec (.mepi 1#6 0#2) start) = some (epiOf worn (12 * 2 ^ 60)) ∨
    epiAfter (exec (.mepi 1#6 0#2) start) = none := by
  cases hok : epiOk (epiOf worn (12 * 2 ^ 60)) cap with
  | true =>
    rw [mepi_captures reads_cap holdsLease clear noFailure (by decide) reaches hok]
    exact .inl rfl
  | false =>
    rw [mepi_traps reads_cap holdsLease clear noFailure (by decide) reaches turn_strand hok]
    exact .inr rfl

theorem tagAt_eq_false (x : Nat) : (worn.lineRead (12 * 2 ^ 60)).tagAt x = false := rfl

/-- Only the first byte of the window is 1 in memory. -/
theorem byte_eq_one {x : Nat} (h : (worn.lineRead (12 * 2 ^ 60)).byte x = 1#8) : x = 12 * 2 ^ 60 := by
  have hb : (worn.lineRead (12 * 2 ^ 60)).byte x =
      if 12 * 2 ^ 60 = x then 1#8 else if 12 * 2 ^ 60 + 1 = x then 0x10#8 else 0#8 := by
    simp only [State.byte, kget, lineRead_mem, show worn.mem = start.mem from rfl, start, kfind]
    repeat' split
    all_goals rfl
  rw [hb] at h
  split at h
  next hx => exact hx.symm
  · split at h <;> exact absurd h (by decide)

end WindowLine

/-- Where the lease instructions do what `LeaseFormsFollowTheLease` says, the first byte of the window stands for itself. -/
theorem windowPlain_of_leaseForms (h : Obligations.LeaseFormsFollowTheLease) : WindowPlain (12 * 2 ^ 60) := by
  unfold Obligations.LeaseFormsFollowTheLease at h
  obtain ⟨-, -, -, hepi, -⟩ := h
  have hclaim := hepi WindowLine.start WindowLine.worn _ 1#6 0#2 WindowLine.cap (12 * 2 ^ 60) _ WindowLine.reads_cap
    WindowLine.holdsLease WindowLine.clear WindowLine.noFailure (by decide) WindowLine.reaches rfl
    (by rw [WindowLine.read_descriptor]; exact WindowLine.epiOk_descriptor) rfl
  have hafter : WindowLine.epiAfter (exec (.mepi 1#6 0#2) WindowLine.start) = some (BitVec.ofNat 512 0x1001) := by
    rw [hclaim, WindowLine.read_descriptor]
    rfl
  have hone : (epiOf WindowLine.worn (12 * 2 ^ 60)).toNat % 256 = 1 := by
    rcases WindowLine.epiAfter_mepi with he | he
    · rw [← Option.some.inj (hafter.symm.trans he), BitVec.toNat_ofNat]
      decide +kernel
    · exact absurd (hafter.symm.trans he) (Option.some_ne_none _)
  rw [epiOf_inWindow (by decide), State.windowByteAt] at hone
  split at hone
  next hw => exact .inl hw
  next loc hw =>
    have hbyte : ((WindowLine.worn.lineRead (12 * 2 ^ 60)).byte loc) = 1#8 := by
      rw [Nat.mod_eq_of_lt (BitVec.isLt _)] at hone
      exact BitVec.eq_of_toNat_eq hone
    exact .inr (by rw [hw, WindowLine.byte_eq_one hbyte])
  next loc hw =>
    rw [WindowLine.tagAt_eq_false] at hone
    exact absurd hone (by decide)

end Sys2Proof.Machine
end
